-- ==== Sys2Proof/Machine/Map.lean ====
section
/-! DEFINITION. Sparse tables: a list of (key, value) pairs, keys strictly rising, no value equal to the default.
Every table of the state that holds one entry per register, queue pair, VF, item, source or byte uses these operations. -/

namespace Sys2Proof.Machine

/-- A sparse table with natural-number keys. -/
abbrev Table (α : Type) := List (Nat × α)

/-- The value a key has; a key that is not listed has the default d. -/
def Table.get {α : Type} (d : α) : Table α → Nat → α
  | [], _ => d
  | (k', v) :: m, k => if k' = k then v else Table.get d m k

/-- Whether a key is listed. -/
def Table.has {α : Type} (m : Table α) (k : Nat) : Bool := m.any (fun e => e.1 == k)

/-- The table without a key. -/
def Table.erase {α : Type} (m : Table α) (k : Nat) : Table α := m.filter (fun e => e.1 != k)

/-- The pair put at its place in the rising order, replacing a pair of the same key. -/
def Table.insert {α : Type} (k : Nat) (v : α) : Table α → Table α
  | [] => [(k, v)]
  | (k', v') :: m =>
    if k < k' then (k, v) :: (k', v') :: m
    else if k = k' then (k, v) :: m
    else (k', v') :: Table.insert k v m

/-- The table with key k at value v: storing the default removes the entry, so equal tables are equal data. -/
def Table.put {α : Type} [DecidableEq α] (d : α) (m : Table α) (k : Nat) (v : α) : Table α :=
  if v = d then Table.erase m k else Table.insert k v m

/-- The value listed for a key, if one is. -/
def Table.find? {α : Type} : Table α → Nat → Option α
  | [], _ => none
  | (k', v) :: m, k => if k' = k then some v else Table.find? m k

/-- The listed values changed by a function of key and value. -/
def Table.mapV {α : Type} (f : Nat → α → α) (m : Table α) : Table α := m.map fun e => (e.1, f e.1 e.2)

/-- The listed value of one key changed; an unlisted key stays unlisted. -/
def Table.adjust {α : Type} (k : Nat) (f : α → α) (m : Table α) : Table α :=
  m.map fun e => if e.1 = k then (e.1, f e.2) else e

/-- The listed values changed by a function; those that become the default leave the table. -/
def Table.mapD {α : Type} [DecidableEq α] (d : α) (f : Nat → α → α) (m : Table α) : Table α :=
  (m.map fun e => (e.1, f e.1 e.2)).filter fun e => decide (e.2 ≠ d)

/-- The canonical form: keys strictly rising and no listed value equal to the default. -/
abbrev Table.wf {α : Type} (d : α) (m : Table α) : Prop :=
  (m.map Prod.fst).Pairwise (· < ·) ∧ ∀ e ∈ m, e.2 ≠ d

/-- A set of numbers as a rising list. -/
abbrev NatSet := Table Unit

/-- A number put into a set. -/
def NatSet.add (s : NatSet) (k : Nat) : NatSet := Table.insert k () s

/-- Membership. -/
def NatSet.mem (s : NatSet) (k : Nat) : Bool := Table.has s k

end Sys2Proof.Machine
end

