-- ==== Sys2Proof/Word.lean ====
section
/-! DEFINITION. The words of the device: bytes, 32-bit register words, little- and big-endian conversions. -/

namespace Sys2Proof

/-- One byte of a descriptor, a buffer, a record or a message. -/
abbrev Byte := BitVec 8

/-- One register (02_register_convention.md R31). -/
abbrev Word := BitVec 32

/-- A string of bytes, lowest address first. -/
abbrev Bytes := List Byte

/-- A field of 64 bits: a key handle, a token record ID. -/
abbrev DWord := BitVec 64

/-- Bits hi..lo of a number, as a number. -/
def bitsOf (v hi lo : Nat) : Nat := (v / 2 ^ lo) % 2 ^ (hi + 1 - lo)

/-- A 1 as a Boolean. -/
def bitOf (v i : Nat) : Bool := v.testBit i

/-- A Boolean as the number 0 or 1. -/
def boolNat (b : Bool) : Nat := if b then 1 else 0

/-- The value of a little-endian byte string (03_host_queues.md, after R75). -/
def leNat : Bytes → Nat
  | [] => 0
  | b :: bs => b.toNat + 256 * leNat bs

/-- The n low bytes of a number, little-endian. -/
def leBytes : Nat → Nat → Bytes
  | 0, _ => []
  | n + 1, v => BitVec.ofNat 8 v :: leBytes n (v / 256)

/-- The value of a big-endian byte string. -/
def beNat (bs : Bytes) : Nat := leNat bs.reverse

/-- The n low bytes of a number, big-endian. -/
def beBytes (n v : Nat) : Bytes := (leBytes n v).reverse

/-- n zero bytes. -/
def zeros (n : Nat) : Bytes := List.replicate n 0

/-- The string cut or filled with zero bytes to n bytes. -/
def padTo (n : Nat) (bs : Bytes) : Bytes := (bs ++ zeros n).take n

/-- Bytes off .. off + n - 1 of a string, zero beyond its end. -/
def slice (bs : Bytes) (off n : Nat) : Bytes := padTo n (bs.drop off)

/-- Exclusive or of two byte strings, of the length of the shorter. -/
def xorBytes (a b : Bytes) : Bytes := List.zipWith (· ^^^ ·) a b

end Sys2Proof
end

