-- ==== Sys2Proof/Types.lean ====
section
/-! DEFINITION. The data types of the device: what descriptors, items, queue pairs, VFs, clusters, runs, records,
messages, ceremonies, tamper records and sources are made of. -/

namespace Sys2Proof.Machine

/-! ## Modes, classes and statuses -/

/-- The six operating modes (13_modes_custody.md R569). -/
inductive Mode where
  | manufacture | custody | service | maintenance | quarantine | zeroized
deriving DecidableEq, Repr



/-- The states of a VF (12_tenancy.md R560). -/
inductive VfState where
  | absent | created | active | frozen | draining | destroyed
deriving DecidableEq, Repr



/-- The service classes of a queue pair (03_host_queues.md R66). -/
inductive SvcClass where
  | interactive | bulk | background
deriving DecidableEq, Repr

/-- The execution classes (08_scheduler.md R341): key-side tables are of class LANE and run on a pipeline pair. -/
inductive ExecClass where
  | lane | keySide | engine | core
deriving DecidableEq, Repr

/-- The partitions of the matching store (R335). -/
inductive Partition where
  | shared | interactive | internal
deriving DecidableEq, Repr

/-- Completion status codes (03_host_queues.md R89). -/
inductive Status where
  | ok | okDelayed | refusedCeiling | refusedSaturated | refusedKeyBacklog | refusedQuota
  | epochAhead | epochStale | keyAbsent | keyPoisoned | keyUsage | faultWithheld | faultDouble
  | mode | format | table | migrated | squashed
deriving DecidableEq, Repr



/-! ## Records -/

/-- The identity of a record (10_record_store.md R424). -/
structure Ident where
  typ : Nat
  sub : Nat
  tenant : Nat
  id : Nat
  version : Nat
  frag : Nat
deriving DecidableEq, Repr

/-- A record (R418). The body is kept as the clear fields it protects, beside the sealed BODY as it stands on the SSDs: what leaves
the device carries that one (R420, R421). -/
structure Rec where
  ident : Ident
  state : Nat
  fragCount : Nat
  pgen : Nat
  epoch : Nat
  origin : Nat
  seq : Nat
  body : Bytes
  sealed : Bytes := []
deriving DecidableEq, Repr

/-! ## Descriptors and work items -/

/-- A 64-byte descriptor or bundle step (03_host_queues.md R76). -/
structure Desc where
  service : Nat
  flags : Nat
  tag : Nat
  epoch : Nat
  pgen : Nat
  param : Nat
  keyA : Nat
  keyB : Nat
  inline0 : Bytes
  inline1 : Bytes
deriving DecidableEq, Repr

/-- Where a descriptor came from, and where its completion goes (R87, R340). -/
structure Route where
  vf : Nat
  qp : Nat
  /-- True on the window path. -/
  window : Bool
  /-- Window slot, or SQ index on the ring path. -/
  slot : Nat
  /-- An intruder of R71: it does not hold the slot. -/
  intruder : Bool
deriving DecidableEq, Repr

/-- Where a work item stands between acceptance and the posting of its completion. -/
inductive Stage where
  /-- Accepted; no matching-store entry yet (R117). -/
  | ingest
  /-- A bundle whose step entries are being read (R94). -/
  | bundleRead
  /-- Held by R95. -/
  | epochHold
  /-- Held by a fence (R109). -/
  | fenced
  /-- Waits for admission (R100). -/
  | deferred
  /-- Admitted; operands outstanding (08_scheduler.md R336). -/
  | waiting
  /-- On a ready list (R342). -/
  | ready
  /-- On a lane, a pipeline pair, an engine pair or a core. -/
  | running
  /-- An engine job in the context store of its pair (07_bignum_engines.md R305). -/
  | parked
  /-- Released to the store; the completion waits for the commit (R439). -/
  | storing
  /-- The completion is formed and waits for the completion writer. -/
  | finished
deriving DecidableEq, Repr

/-- An operand of an item (08_scheduler.md R336). -/
inductive Operand where
  /-- Not needed. -/
  | none
  /-- Needed; the request is not issued yet. -/
  | needed
  /-- Requested; the source has not answered. -/
  | asked
  /-- Here. -/
  | here
deriving DecidableEq, Repr

/-- The attributes of a key or vault slot (09_key_hierarchy.md R391). -/
structure KeyAttr where
  usage : Nat
  alg : Nat
  exportable : Bool
  pk : Bool
  tdesWeak : Bool
  vault : Bool
  ceremony : Bool
  tenant : Nat
  keyId : Nat
  version : Nat
  /-- STATE of a vault slot. -/
  state : Nat
deriving DecidableEq, Repr

/-- What a key-operand entry holds (05_cipher_lanes.md, key ports). -/
structure KeyEntry where
  key : Bytes
  attr : KeyAttr
  /-- Derived-class key, computed and never cached (R378). -/
  derived : Bool
deriving DecidableEq, Repr

/-- How admission decided (03_host_queues.md R87, R100). -/
inductive Admit where
  | served | delayed | refused
deriving DecidableEq, Repr

/-- The unit an item runs on. -/
inductive RunUnit where
  | lane (cluster lane : Nat)
  | pipe (pair : Nat)
  | pair (pair : Nat)
  | core (core : Nat)
deriving DecidableEq, Repr

/-- A record that a service releases to the store, before SEQ and ORIGIN are given (10_record_store.md R439). -/
structure NewRec where
  typ : Nat
  id : Nat
  version : Nat
  state : Nat
  frag : Nat
  fragCount : Nat
  body : Bytes
  /-- The body as its table sealed it, where it did. -/
  sealed : Bytes := []
deriving DecidableEq, Repr

/-- What one bundle step left: status, detail (the verdict of an OK step) and inline output (03_host_queues.md R84, R85). -/
structure StepEnd where
  status : Status
  detail : Nat
  result : Bytes
deriving DecidableEq, Repr

/-- What a run has staged in its gate (05_cipher_lanes.md R199): the mapped status, RESULT, the buffer output, the
records it would store and the key-operand entry a session derivation fills. -/
structure Staged where
  status : Status
  detail : Nat
  result : Bytes
  buffer : Option Bytes
  /-- Records released to the store, body in clear. -/
  records : List NewRec
  /-- A session key for key-operand entry A (06_payment_services.md R241). -/
  session : Option KeyEntry
deriving DecidableEq, Repr

/-- A completion before its CQ place is known (R87). -/
structure Comp where
  status : Status
  detail : Nat
  result : Bytes
  buffer : Option Bytes
deriving DecidableEq, Repr

/-- What an internal item is for (08_scheduler.md R335, R342). -/
inductive Work where
  | firmware (kind : Nat)
  | replay (seq : Nat)
  | sweep
  | scrub
  | compaction
deriving DecidableEq, Repr

/-- Admission of an item (R100). -/
structure Adm where
  /-- t_limit of R100. -/
  limitFrom : Nat
  /-- `first` of R100. -/
  first : Bool
  decided : Option Admit
  /-- DELAY (R103). -/
  delay : Nat
  withinShare : Bool
  /-- Declared cycles. -/
  cycles : Nat
  /-- Declared cycles still in the unstarted work of R99. -/
  unstarted : Nat
  /-- Admission has deferred the item: OK then reads OK_DELAYED (R85, R89). -/
  deferred : Bool
  /-- A fence holds the item now (R109). -/
  fenced : Bool
  /-- Ticks counted when the charge to the share was made (R94). -/
  chargedAt : Nat
deriving DecidableEq, Repr

/-- The operands of an item (08_scheduler.md R336). -/
structure Opnds where
  a : Operand
  b : Operand
  buf : Operand
  rnd : Operand
  keyA : Option KeyEntry
  keyB : Option KeyEntry
  data : Bytes
  random : Bytes
  /-- Earlier retries of the item's outstanding request (R355). -/
  retries : Nat
  /-- A key lookup missed: the item counts in the tenant's key-miss backlog (R106). -/
  backlog : Bool
  /-- What the placement peers gave for a key ID that the item looks up in the store without attaching it (10_record_store.md R437;
  06_payment_services.md R264, R269); and that none of them holds it. -/
  found : List Rec := []
  cleared : Bool := false
deriving DecidableEq, Repr

/-- The runs of an item (05_cipher_lanes.md R200, 07_bignum_engines.md R300). -/
structure Run where
  unit : Option RunUnit
  /-- The unit of the first run, once that run failed: the item is then a rerun. -/
  firstUnit : Option RunUnit
  checkFail : Bool
  unitFail : Bool
  staged : Option Staged
  /-- Bundle: the step that runs, and what the steps that ended left. -/
  step : Nat
  steps : List StepEnd
  /-- Squashed by a VF reset: the outputs are discarded at the gate and no completion follows (R206). -/
  squash : Bool
  /-- A session derivation has filled entry A (R241). -/
  derived : Bool
  /-- ITEM_SEQ of replay capture (18_counters_replay.md R719), and the SYS cycles of dispatch and of the gate decision. -/
  itemSeq : Option Nat
  startedAt : Nat
  releasedAt : Nat
  /-- TREE_VER, ROOT_EPOCH and DOM_EPOCH at dispatch (R722). -/
  treeVer : Nat
  rootEpoch : Nat
  domEpoch : Nat
  /-- The random blocks the item's tables drew, in order (R723). -/
  draws : List Bytes
  /-- Compare operations of the run whose two sides differ, and checked counters that do not read as they should
  (05_cipher_lanes.md R196). -/
  differs : Nat := 0
  /-- Signing randomness and nonces drawn for the item; a rerun uses them again (07_bignum_engines.md R298, R301). -/
  signing : Option Bytes := none
  /-- The blinding values of the two engines in the present run, the even engine's first (07_bignum_engines.md R297, R298). -/
  blinds : List Bytes := []
  /-- What the item completes with when its run ends, whatever the run computed: its table was withdrawn (04_tide_tables.md R161), or
  its entry cannot be read (08_scheduler.md R371). A lane is not stopped mid-table (01_architecture.md R17). -/
  doom : Option (Status × Nat) := none
  /-- Yield points that the run has passed: where an engine's program stands (07_bignum_engines.md R304, R305). -/
  points : Nat := 0
  /-- Token candidates that were present so far (06_payment_services.md R273). -/
  tries : Nat := 0
  /-- The step that the item stands at has left the unstarted work (03_host_queues.md R99). -/
  begun : Bool := false
  /-- The SYS cycle in which a release gate last opened for the item (01_architecture.md R21). -/
  opened : Option Nat := none
deriving DecidableEq, Repr

/-- A work item. Its key in the table of items is its number in acceptance order. -/
structure Item where
  route : Route
  desc : Desc
  steps : List Desc
  /-- SYS cycle of acceptance. -/
  accepted : Nat
  stage : Stage
  part : Option Partition
  cls : SvcClass
  exec : ExecClass
  level : Nat
  work : Option Work
  adm : Adm
  ops : Opnds
  run : Run
  /-- The table version bound at step 4 of R93 (04_tide_tables.md R154): its key in the table store. -/
  bound : Option Nat
  comp : Option Comp
deriving DecidableEq, Repr

/-! ## The host front end -/

/-- One descriptor-window slot (03_host_queues.md R69, R70). -/
structure Slot where
  mask : BitVec 64
  bytes : Bytes
  occupant : Option Nat
deriving DecidableEq, Repr

/-- One queue pair (R65 to R75, 12_tenancy.md R544, R561). -/
structure Qp where
  enabled : Bool
  draining : Bool
  sqTail : Nat
  sqHead : Nat
  /-- SQ reads issued and not ended: SQ indices. -/
  reads : List Nat
  cqHead : Nat
  cqTail : Nat
  /-- The PHASE value of the next completion (R74). -/
  phase : Bool
  slots : Table Slot
deriving DecidableEq, Repr

/-- One MSI-X table entry (01_architecture.md R27, R29; 15_faults.md R635 source 222). -/
structure Msix where
  addr : Nat
  data : Nat
  masked : Bool
  pending : Bool
  /-- Withheld after a parity error, until software rewrites the entry. -/
  withheld : Bool
deriving DecidableEq, Repr

/-- A VF: its state, its resources, and the limits in force (12_tenancy.md R530 to R542). -/
structure Vf where
  st : VfState
  tenant : Nat
  pgen : Nat
  pool : Nat
  minLane : Nat
  minEngine : Nat
  minSlots : Nat
  /-- Ceiling and quotas in force since the last tick (R539). -/
  rate : Nat
  burst : Nat
  quotaSlots : Nat
  quotaStore : Nat
  backlog : Nat
  qpQuota : Nat
  tokens : Nat
  /-- Carried fraction of a token, in thousandths (R532). -/
  frac : Nat
  /-- Within-share charges of the last 16 ticks, newest first (R98, R531). -/
  laneWin : List Nat
  engWin : List Nat
  storeUse : Nat
  quotaOver : Nat
  reclaiming : Bool
  /-- Queue pairs whose drain the running reclaim started (R542). -/
  reclaimQps : List Nat
  /-- Items below this number were accepted before the DRAIN write (R549). -/
  drainFrom : Nat
  /-- Accesses of source 210 made inside the VF's BAR0 (02_register_convention.md R35). -/
  unmapped : Nat
deriving DecidableEq, Repr

/-! ## Lanes and engines -/

/-- Clock of a cluster or engine group (05_cipher_lanes.md R210 to R214). -/
inductive Clk where
  | gated | waking | clocked
  /-- Withdrawn; gates 8 ns later (R213). The flag: a wake request waits (R214). -/
  | gating (wakeAfter : Bool)
deriving DecidableEq, Repr

/-- A lane cluster (R203 to R219). -/
structure Cluster where
  clk : Clk
  wakeFails : Nat
  quarantined : Bool
  /-- Dispatch stopped by R203, the quarantine follows at the gate decision. -/
  stopped : Option Nat
  /-- A test wake of RELEASE runs. -/
  testWake : Bool
  /-- The SYS cycle in which the gating that runs was decided: a dispatch of that cycle wins (R213). -/
  gateAt : Option Nat := none
deriving DecidableEq, Repr

/-- A big-number engine (07_bignum_engines.md R285, R302). -/
structure Engine where
  quarantined : Bool
  withdrawn : Bool
deriving DecidableEq, Repr

/-- A pair of engines (R305 to R308): the item a yield was requested for, if one is outstanding. -/
structure Pair where
  yieldFor : Option Nat
deriving DecidableEq, Repr

/-- A loaded curve set (R315 to R319). -/
structure Curve where
  set : Bytes
  retiring : Bool
deriving DecidableEq, Repr

/-- The registers and units of a lane (05_cipher_lanes.md R171): the operand registers, the schedule of both block units, the two hash
cores, the padding unit, the input stream with its one cursor, and its gate's values and output stream. -/
structure Lane where
  regs : List Bytes
  /-- Results that have not landed: cycle, register, value. -/
  pend : List (Nat × Nat × Bytes)
  /-- The key schedule of both block units: ALG and key. -/
  sched : Nat × Bytes
  /-- The two hash cores: kind and the blocks absorbed. -/
  cores : List (Nat × List Bytes)
  mode : Nat
  nexts : Nat
  cursor : Nat
  msg : Bytes
  result : Bytes
  out : Bytes
  sw : List (Option Bool)
  /-- Check comparisons made, and those whose two sides differ (R196). -/
  checks : Nat
  differs : Nat
deriving DecidableEq, Repr

/-- A held version of a tide table (04_tide_tables.md R136, R151 to R161). -/
structure TableVersion where
  header : Bytes
  body : Bytes
  /-- Tenants of the grant block of an operator table (R594). -/
  grant : List Nat
  active : Bool
  /-- Superseded or retired: frees its blocks once no item is bound (R156). -/
  leaving : Bool
  replayOnly : Bool
  /-- Withdrawn by a dispatch tag mismatch, reloading (R161, R162). -/
  withdrawn : Bool
  /-- The 64-bit tag over the stored header, as the table index keeps it (R159). -/
  tag : Bytes
  /-- The SYS cycles in which a load made the version active, and in which a load took it out of activity (R155). -/
  activeFrom : Option Nat := none
  activeTo : Option Nat := none
deriving DecidableEq, Repr

/-! ## Keys -/

/-- States of a slot run (09_key_hierarchy.md R393). -/
inductive RunState where
  | filling | valid | poisoned
deriving DecidableEq, Repr

/-- A run of key-cache slots; its key in the table is its first slot (R390, R394). -/
structure KeyRun where
  len : Nat
  st : RunState
  tenant : Nat
  vault : Bool
  /-- Key ID or token record ID. -/
  id : Nat
  version : Nat
  key : Bytes
  attr : KeyAttr
  /-- Order of last use (R399). -/
  used : Nat
  /-- A refetch after a tag failure (R397). -/
  refetch : Bool
  /-- Being read into a key-operand entry (R399). -/
  reading : Bool
  /-- Earlier retries of its read (08_scheduler.md R355). -/
  retries : Nat := 0
  /-- The records from peers that filled it (10_record_store.md R437). -/
  fetched : List Rec := []
  /-- The root epoch under which its record was unwrapped (R400). -/
  epoch : Nat := 0
deriving DecidableEq, Repr

/-- STATE of a BBRAM bank (R372). -/
inductive BankState where
  | empty | rooted | rewrap | cleared | invalid
deriving DecidableEq, Repr

/-- A BBRAM bank (R372, R373; STORE as 10_record_store.md R431). -/
structure Bank where
  seq : Nat
  st : BankState
  rootEpoch : Nat
  root : Bytes
  prevEpoch : Nat
  prevRoot : Bytes
  moduleKey : Bytes
  treeRoot : Bytes
  treeVer : Nat
  tail : Nat
  pendBlocks : Nat
  pendDigest : Bytes
  /-- CHECK equals the value of R373. -/
  checkOk : Bool
deriving DecidableEq, Repr

/-- A rotation or re-wrap that runs (R402, R403): records still to do, by (key ID, version). -/
structure KeyOp where
  rewrap : Bool
  tenant : Nat
  todo : List (Nat × Nat)
  skipped : Nat
deriving DecidableEq, Repr

/-- The key side: BBRAM, key cache, slot tag key (09_key_hierarchy.md). -/
structure Keys where
  bank0 : Bank
  bank1 : Bank
  /-- The active bank, 0 or 1. -/
  active : Nat
  /-- LOCAL_STATE of the KEY page (R409): 1 EMPTY, 2 ROOTED, 3 REWRAP, 4 ZEROIZED. -/
  cls : Nat
  runs : Table KeyRun
  faults : Table Nat
  retired : NatSet
  /-- The slot tag key is drawn at start-up and cleared by a zeroization. -/
  tagKey : Bytes
  /-- The key under which HBM data is encrypted, drawn at each start-up (01_architecture.md R23). -/
  hbmKey : Bytes
  /-- The key of the tags over stored table headers, drawn at each start-up (04_tide_tables.md R159). -/
  indexKey : Bytes
  sweepPos : Nat
  useStamp : Nat
  op : Option KeyOp
deriving DecidableEq, Repr

/-! ## The record store -/

/-- An index entry (R434): the CMAC prefix of an identity, the location, the low 16 bits of the segment's GENERATION, VALID. -/
structure IndexEntry where
  tag : Bytes
  loc : Nat
  gen : Nat
  valid : Bool
deriving DecidableEq, Repr

/-- States of an SSD port (R463, JNL_PORT_STAT). -/
inductive PortState where
  | absent | probing | current | rebuilding | failed | foreign | unsuitable
deriving DecidableEq, Repr



/-- States of a segment (R425, R428). -/
inductive SegState where
  | fresh | open | sealed | eraseIntent | erased | torn
deriving DecidableEq, Repr

/-- A segment (R425): its key is pair × 262,144 + segment number. -/
structure Seg where
  st : SegState
  gen : Nat
  blocks : Nat
  /-- OPENED_TREE_VER. -/
  openedVer : Nat := 0
deriving DecidableEq, Repr

/-- A record whose commit is open (R438, R488; 11_jochevy_domain.md R489). -/
structure Commit where
  rcd : Rec
  /-- The descriptor that waits, if one does. -/
  item : Option Nat
  localDone : Bool
  acks : List Nat
  targets : List Nat
  /-- The epoch under which the record was first sent, and the placement list of that epoch (R488). -/
  firstEpoch : Nat
  firstList : List Nat
  since : Nat
  late : Bool
  /-- Targets whose EPOCH_STALE answer was met by a resend (11_jochevy_domain.md R490). -/
  stale : List Nat := []
deriving DecidableEq, Repr

/-- Long operations of the JNL page. -/
inductive JnlOp where
  | scrub | compact | adopt (port : Nat) | format
deriving DecidableEq, Repr

/-- The record store. -/
structure Store where
  /-- The four ports' states. -/
  ports : List PortState
  /-- Segments of pair 0 and pair 1 when the store was formatted. -/
  segs0 : Nat
  segs1 : Nat
  segments : Table Seg
  storeId : Bytes
  formatted : Bool
  quarantined : Bool
  recovering : Bool
  readOnly : Bool
  /-- Records whose local write passed step 4 of R432, with their locations, oldest first. -/
  written : List (Rec × Nat)
  /-- Records gathered for the next local write (R432). -/
  gathering : List Rec
  /-- Records of the local write that is pending. -/
  pending : List Rec
  commits : List Commit
  nextSeq : Nat
  /-- The index checkpoint's TAIL and TREE_VER, and the records written since (R435, R454). -/
  checkpoint : Nat × Nat
  unindexed : List Rec
  /-- The entries of the index buckets, by bucket × 256 + place in the bucket (R434), as HBM holds them; and as the last checkpoint
  wrote them to the index area (R435). -/
  index : Table IndexEntry
  area : Table IndexEntry
  /-- The leaves and the lower nodes of the integrity tree, as the tree area holds them: key level × 2^40 + place; level 0 is the
  leaves, and an unlisted node is that of blocks never written (R429, R430). -/
  tree : Table Bytes
  /-- The nodes of the top six levels, as HBM holds them (R430). -/
  top : Table Bytes
  /-- SYS cycle at which the last scrub ended (R458). -/
  scrubbed : Nat
  op : Option JnlOp
  /-- The operation was started by software (it ends with DONE and a result code). -/
  opCmd : Bool
  auditSeq : Nat
  /-- Expel marks in the superblocks: ports named by their partner (R441). -/
  expelled : NatSet
  /-- Superblocks written to each port: the next one goes to copy number mod 2 (R417). -/
  supers : List Nat
deriving DecidableEq, Repr

/-! ## Replay -/

/-- A replay unit (18_counters_replay.md R719, R722): its records, 96 bytes each. -/
structure Unit96 where
  seq : Nat
  records : List Bytes
deriving DecidableEq, Repr

/-- The replay ring of a VF (R720, R733). -/
structure Ring where
  capture : Bool
  inputs : Bool
  sizeLog2 : Nat
  next : Nat
  lost : Nat
  units : List Unit96
deriving DecidableEq, Repr

/-- An EXPORT that runs (R724): VF, units, first and count. -/
structure Export where
  vf : Nat
  first : Nat
  count : Nat
  units : List Unit96
deriving DecidableEq, Repr

/-! ## The domain -/

/-- A change of the view, of k or of the root (11_jochevy_domain.md R493). -/
inductive Change where
  | add (member : Nat) (digest : Bytes)
  | remove (member : Nat)
  | setK (k : Nat)
  | newRoot (sealed : Bytes)
deriving DecidableEq, Repr

/-- An epoch as a change makes it: its number, k, members, identity digests, and the changes (R478, R495). -/
structure Next where
  epoch : Nat
  k : Nat
  members : List Nat
  ids : Table Bytes
  changes : List Change
deriving DecidableEq, Repr

/-- Answers gathered for a prepared epoch (R495, R500). -/
structure Vote where
  next : Next
  acks : List Nat
  refusals : List Nat
deriving DecidableEq, Repr

/-- A PREPARED record (R477, R495, R499). A refusal for an epoch whose PREPARE never came holds no change. -/
structure Prepared where
  epoch : Nat
  next : Option Next
  /-- Refused by this module; otherwise acknowledged. -/
  refused : Bool
  /-- This module prepared the change, as coordinator. -/
  mine : Bool
  /-- This module is the recovering coordinator (R498). -/
  recovering : Bool
  /-- The recovering coordinator that waits for the answer of this module (R499). -/
  asker : Option Nat
  /-- SYS cycle of this module's acknowledgement (R498). -/
  since : Nat
deriving DecidableEq, Repr

/-- A Jochevy message (R473, R474) held by its fields. -/
structure Msg where
  typ : Nat
  domainTag : Nat
  epoch : Nat
  src : Nat
  dst : Nat
  mcast : Bool
  viaStub : Bool
  pgen : Nat
  tenant : Nat
  seq : Nat
  ref : Nat
  status : Nat
  credits : Nat
  recs : List Rec
  idents : List (Ident × Nat × Nat)
  marks : List Nat
  next : Option Next
  payload : Bytes
deriving DecidableEq, Repr

/-- A saved VF (R512, R513): the header fields and the body's contents. -/
structure Blob where
  domainId : Bytes
  epoch : Nat
  src : Nat
  dst : Nat
  srcVf : Nat
  pgenOld : Nat
  vf : Vf
  qpClasses : List Nat
  /-- Registers of the VFM page and of the VF counter page, by page offset: limits, grants, counters. -/
  limits : List (Nat × Nat)
  counters : List (Nat × Nat)
  ring : Option Ring
  parked : List Item
  /-- Descriptors with open commits (R509, R512). -/
  opens : List (Item × List Commit)
  /-- What came is whole: no word of it was found torn where it stands. -/
  tagOk : Bool
  /-- MSG_SEQ of the BLOB message. -/
  seq : Nat
  /-- The source's ROOT_EPOCH, and the seal of the body: nonce, ciphertext, tag (R513, R514). -/
  rootEpoch : Nat := 0
  nonce : Bytes := []
  sealed : Bytes := []
  tag : Bytes := []
deriving DecidableEq, Repr

/-- The bytes of a blob's body: R512 lists what it holds and the spec gives no layout of it (DESIGN CHOICE, log entry 145). -/
opaque Blob.layout : Blob → Bytes

/-- A forwarding stub (R518). -/
structure Stub where
  tenant : Nat
  pgen : Nat
  target : Nat
  queue : List Msg
deriving DecidableEq, Repr

/-- A running migration command (R507, R512, R515). -/
inductive MigCmd where
  | freeze | save | restore
deriving DecidableEq, Repr

/-- The state of a frozen VF at the source (R511, R516). -/
structure Frozen where
  claimed : Bool
  blob : Option Blob
  /-- Descriptors whose commits are open (R509). -/
  opens : List (Item × List Commit)
  /-- Messages that arrived between FROZEN and the grant (R518). -/
  queue : List Msg
deriving DecidableEq, Repr

/-- A message that waits for its answer (R480). -/
structure Wait where
  msg : Msg
  port : Nat
  resent : Bool
deriving DecidableEq, Repr

/-- The frame that carries a message: the association number and the integrity check value of its secure association, the IPv6 address
it goes to, and the UDP port (R468, R469, R471). -/
structure Frame where
  assoc : Nat
  icv : Bytes
  address : Bytes
  udpPort : Nat
deriving DecidableEq, Repr

/-- A read from peers (R491, R492). -/
structure PeerRead where
  /-- The key-cache run it fills; from 2^21 on a read of resynchronisation (R505); from 2^50 on the lookup of an item. -/
  key : Nat
  /-- The record's first identity, its fragment 0. -/
  ident : Ident
  /-- A local copy failed: no authentic copy anywhere then ends KEY_POISONED (R437). -/
  bad : Bool
  next : List Nat
  asked : Option Nat
  absent : List Nat
  members : List Nat
  got : List Rec
deriving DecidableEq, Repr

/-- Why a module asks others whether they hold a record. -/
inductive AskWhy where
  /-- A record of its own that is not known to be committed (10_record_store.md R454, R455). -/
  | own
  /-- A record of a member that left or came back (R456). -/
  | origin
  /-- Resynchronisation (R503). -/
  | resync
  /-- An open commit that moved here (R519). -/
  | moved
deriving DecidableEq, Repr

/-- A question whether members hold a record (R454, R456, R503, R519). -/
structure HoldAsk where
  rcd : Rec
  why : AskWhy
  asked : List Nat
  holds : List Nat
  lacks : List Nat
deriving DecidableEq, Repr

/-- Membership of the domain. -/
structure View where
  domainId : Bytes
  moduleId : Nat
  /-- A DOMAIN record is held. -/
  inDomain : Bool
  /-- The module starts again and waits to be re-added (R482). -/
  joining : Bool
  epoch : Nat
  members : List Nat
  /-- Identity digests of members, as far as they are known. -/
  ids : Table Bytes
  k : Nat
  /-- The superseded epochs that are in grace, oldest first (R496). -/
  grace : List Nat
  prevMembers : List Nat
  prepared : Option Prepared
  votes : List Vote
  /-- The last epoch rolled back; 0 without one (R501). -/
  rolledBack : Nat
  requests : List Change
  /-- When the last change was committed (R493). -/
  lastChange : Nat
  /-- The change whose VIEW record is being written, and whether COMMIT is multicast then (R495). -/
  adopting : Option (Next × Bool)
deriving DecidableEq, Repr

/-- The domain unit. -/
structure Domain where
  view : View
  portUp : List Bool
  portSecured : List Bool
  unreach : NatSet
  /-- REPORTs: (reporter, member). -/
  reports : List (Nat × Nat)
  credits : Table Nat
  lastPort : Table Nat
  msgSeq : Nat
  /-- Messages sent that wait for an answer. -/
  waiting : List Wait
  /-- Credited messages that wait for a credit, oldest first (R472). -/
  outq : List Msg
  /-- Messages and blobs held for a newer epoch (R475). -/
  held : List Msg
  heldBlobs : List Blob
  /-- ACKs due when the local write of a record passes: sender, its MSG_SEQ, record (R487). -/
  ackDue : List (Nat × Nat × Rec)
  reads : List PeerRead
  asks : List HoldAsk
  /-- Members that have not answered ORIGIN_QUERY, while recovery waits for them (R455, R456). -/
  originAsked : List Nat
  /-- Entered by JOIN with a fresh store: no REPLICATE before every ORIGIN_REPLY (R456). -/
  fresh : Bool
  resync : Bool
  resyncCmd : Bool
  leaving : Bool
  blobs : Table Blob
  stubs : List Stub
  frozen : Table Frozen
  /-- Open commits moved here with a tenant (R519). -/
  moved : List Commit
  granted : List (Nat × Nat)
  mig : Option (MigCmd × Nat × Nat × Nat)
deriving DecidableEq, Repr

/-! ## Custody -/

/-- A custodian (13_modes_custody.md R577). -/
structure Custodian where
  mldsa : Bytes
  ecdsa : Bytes
  name : Bytes
deriving DecidableEq, Repr

/-- A custodian set (R577). -/
structure CSet where
  m : Nat
  entries : List Custodian
deriving DecidableEq, Repr

/-- A ceremony that is open (R579 to R583). -/
structure Ceremony where
  typ : Nat
  id : Nat
  /-- Carrier: 0 MBX, 1 sideband. -/
  carrier : Nat
  params : Bytes
  nonce : Bytes
  transcript : Bytes
  approved : List Nat
  components : List (Nat × Bytes)
  transport : Option Bytes
  /-- Minutes of the approval window. -/
  windowMin : Nat
  opened : Nat
  executing : Bool
  /-- What OPEN copied from the staging window: an operator table's image, or a replay blob (R593, R729). -/
  image : Bytes
  /-- The private key of the ephemeral ML-KEM-768 pair (R583). -/
  kem : Bytes
  /-- SEQ of records that must commit before RESULT, and the body RESULT then has (R592). -/
  wait : List Nat
  reply : Bytes
  /-- A peer holds the key ID that KEY_IMPORT names (R586 code 0x0B). -/
  found : Bool := false
deriving DecidableEq, Repr

/-- The quorum gate and the modes. -/
structure Custody where
  mode : Mode
  /-- The mode has been selected: start-up is over (R570). -/
  selected : Bool
  /-- The mode QUARANTINE returns to (R572). -/
  returnTo : Mode
  set : Option CSet
  setStored : Bool
  compat : Bool
  ceremony : Option Ceremony
  lastApproved : List Nat
  lastComponents : List Nat
  /-- CEREMONY_ID of the open or last ceremony; drawn at start-up (R602). -/
  lastId : Nat
  /-- SYS cycle at which the maintenance limit ends, while one runs. -/
  maintEnd : Option Nat
  /-- Olihild frames gathered by MORE (R567), per carrier. -/
  partMbx : Bytes
  /-- Frames for MBX_IN that wait until it is free, oldest first (R567). -/
  framesIn : List Bytes
deriving DecidableEq, Repr

/-! ## Tamper -/

/-- A tamper record before it is burnt (14_tamper.md R624). -/
structure TampRec where
  kind : Nat
  source : Nat
  flags : Nat
  mode : Nat
  first : Nat
  last : Nat
  count : Nat
  detail : Nat
deriving DecidableEq, Repr

/-- A row of the log: a record as burnt, or torn (R627). -/
inductive Row where
  | burnt (r : TampRec)
  | torn
deriving DecidableEq, Repr

/-- The tamper monitor: battery domain, log and the ZEROIZE line. -/
structure Tamper where
  armed : Bool
  cond : NatSet
  sticky : NatSet
  zSeq : Nat
  zInterrupted : Bool
  zCause : Nat
  zSource : Nat
  zPending : Bool
  /-- A zeroization has started since the last start-up (R618). -/
  zStarted : Bool
  /-- The line is driven now. -/
  line : Bool
  fifo : List TampRec
  pend : Table TampRec
  rows : Table Row
  nextRow : Nat
  burning : Option TampRec
  full : Bool
  tick : Nat
  tj : Nat
  gradeE : Bool
  batteryLost : Bool
  /-- The key of the nets' patterns, drawn at each start-up (R604). -/
  patternKey : Bytes
deriving DecidableEq, Repr

/-! ## Faults -/

/-- A source of the fault collector (15_faults.md R660). -/
structure Source where
  pending : Bool
  sev : Nat
  severe : Bool
  escalated : Bool
  ack : Bool
  winOpen : Bool
  winCount : Nat
  timer : Bool
deriving DecidableEq, Repr

/-! ## What ends a step, as the hardware finds it -/

/-- What a slot read or a derivation for a lookup found (09_key_hierarchy.md R394, R396; 05_cipher_lanes.md R195). -/
inductive SlotRead where
  /-- Tags and attributes right; derivations equal. -/
  | good
  /-- These slots of the run fail their tags. -/
  | tagFail (slots : List Nat)
  /-- Tags right, attributes of another key. -/
  | otherKey
  /-- The two derivations differed once, and agreed when repeated. -/
  | kdfOnce
  /-- They differed twice. -/
  | kdfTwice
deriving DecidableEq, Repr

/-- What a read of the record store or of the peers found (10_record_store.md R436, R437). -/
inductive ReadEnd where
  /-- An authentic copy from the SSD asked. -/
  | good
  /-- NVMe transient error or timeout. -/
  | transient
  /-- Media error on the SSD asked; the partner's copy is authentic. -/
  | mediaPartner
  /-- Unauthentic on the SSD asked; the partner's copy is authentic. -/
  | badPartner
  /-- No authentic local copy. -/
  | noLocal
  /-- The index holds no entry. -/
  | noEntry
deriving DecidableEq, Repr

/-- How a fetch for the key cache ended. -/
inductive FetchEnd where
  | found | absent | unauthentic
deriving DecidableEq, Repr

/-- Units a lane failure names (05_cipher_lanes.md R208). -/
inductive LaneUnit where
  | parity | fetchEcc | falu | pad | hash | keyPort | streamIn | streamOut
deriving DecidableEq, Repr

/-- Who refuses an operand, and why (08_scheduler.md R338). -/
inductive Refuse where
  | keyAbsent | keyPoisonedTag | keyPoisonedMiss | keyUsage | keyBacklog | bufferRead
deriving DecidableEq, Repr

/-- How the parts of the outside stand when a feed rises (16_power_clocks_startup.md R684). -/
structure StartFacts where
  /-- Chains whose outputs settle. -/
  chainA : Bool
  chainB : Bool
  mvA : Nat
  mvB : Nat
  /-- The battery domain lost its state (R619). -/
  batteryPowerOn : Bool
  /-- Sources 32 to 55 found in condition, by number. -/
  conditions : List Nat
  /-- Slots the memory test retires (09_key_hierarchy.md R393). -/
  badSlots : List Nat
  firmwareOk : Bool
  /-- Clusters and engine groups whose test wake fails. -/
  wakeFailClusters : List Nat
  wakeFailGroups : List Nat
  /-- SSDs on the four ports. -/
  ports : List PortState
  /-- Blocks of the pending write match PEND_DIGEST on a CURRENT SSD (10_record_store.md R451). -/
  pendFound : Bool
  /-- The tree path with those leaves zero reproduces TREE_ROOT. -/
  treeOk : Bool
  /-- Segments found TORN. -/
  torn : List Nat
  /-- No superblock copy verifies (source 184). -/
  noSuperblock : Bool
  /-- An authentic CUSTODIAN set is found (13_modes_custody.md R570). -/
  custodianSet : Bool
  /-- Table versions and curve slots whose reload fails (04_tide_tables.md R153). -/
  badTables : List Nat
  badCurves : List Nat
  /-- A PLL that loses lock or another source that fires, by number (R570, last row). -/
  events : List Nat
  perstHigh : Bool
  /-- Fabric ports with link when recovery begins. -/
  fabricUp : List Bool
  /-- The log row that a power loss cut: 0 blank, 1 torn, 2 complete (14_tamper.md R627, R628). -/
  cutRow : Nat
  /-- What the settings slot holds whose burn a power loss cut (16_power_clocks_startup.md R694). -/
  cutSlot : Bytes
deriving DecidableEq, Repr

/-! ## Power, clocks and settings -/

/-- The power states (16_power_clocks_startup.md R671, R689). -/
inductive PowerState where
  /-- No feed: BATTERY. -/
  | battery
  | starting | slack | flood | ebb
  /-- Waking from EBB (R675). -/
  | waking
  /-- The orderly power-loss stop (R670). -/
  | stopping
deriving DecidableEq, Repr

/-- A regulator chain (R662, R667). -/
structure Chain where
  feedOk : Bool
  outOk : Bool
  selfTest : Bool
  mv : Nat
deriving DecidableEq, Repr

/-- Power, clocks and the settings antifuse. -/
structure Power where
  st : PowerState
  chainA : Chain
  chainB : Chain
  /-- 0 none, 1 chain A, 2 chain B. -/
  active : Nat
  /-- A failover runs (R665). -/
  failover : Bool
  claimA : Nat
  claimB : Nat
  ebbAllowed : Bool
  ebbWait : Bool
  /-- The last stop was the orderly power-loss stop (source 6 at the next start-up). -/
  stopRecorded : Bool
  locked : Nat
  refclkOk : Bool
  oscOk : Bool
  /-- Generation slots of the settings antifuse: key group × 4 + slot, 64 bytes; unlisted slots are blank. -/
  otp : Table Bytes
  /-- The burn that runs: group and slot. -/
  burn : Option (Nat × Nat)
deriving DecidableEq, Repr

/-! ## Pins and sideband -/

/-- Pins and the sideband target (20_electrical_package.md R761 to R772). -/
structure Pins where
  perst : Bool
  vioOk : Bool
  zeroizeLow : Bool
  /-- Host link: 0 down, 4, 5 or 6 (03_host_queues.md R122). -/
  link : Nat
  /-- Host link in L1.2 (16_power_clocks_startup.md R672). -/
  linkIdle : Bool
  /-- SDA held low: 0 no, 1 since before 35 ms, 2 after 35 ms (R772). -/
  sdaLow : Nat
  /-- ALERT_N released by an ARA read until a further cause (R770). -/
  alertReleased : Bool
  /-- PLDM events not read (R769). -/
  pldmUnread : Nat
deriving DecidableEq, Repr

/-! ## Random numbers -/

/-- A DRBG instance (17_random_numbers.md R700): CTR_DRBG with AES-256. -/
structure Drbg where
  requests : Nat
  reseeding : Bool
  /-- Instantiated; a zeroization or power-on takes that away (R703). -/
  seeded : Bool
  key : Bytes
  v : Bytes
deriving DecidableEq, Repr

/-- A request that waits for a shortage to end: its class (R704), and the item it is for; class 4 is the host's. -/
structure RngReq where
  cls : Nat
  item : Nat
deriving DecidableEq, Repr

/-- The random number generator. -/
structure Rng where
  insts : List Drbg
  started : Bool
  /-- Sources with a failure of each kind since the last tick (R698). -/
  rctTick : Bool
  aptTick : Bool
  /-- Requests served since the part was made. -/
  draws : Nat
  /-- Conditioner outputs taken since the part was made (R695). -/
  blocks : Nat
  /-- Requests that wait in a shortage, oldest first (R704, R705). -/
  queue : List RngReq
deriving DecidableEq, Repr

/-! ## Register page bookkeeping -/

/-- A progress set held by SNAP (02_register_convention.md R57). -/
structure Snap where
  hold : Bool
  posLo : Nat
  posHi : Nat
  totalLo : Nat
  totalHi : Nat
  pct : Nat
  op : Nat
deriving DecidableEq, Repr

/-- What the hardware and software did to registers in the present SYS cycle (R37), and the events of that cycle. -/
structure Cyc where
  /-- Bits hardware set in HWS_W1C fields, by register. -/
  hwSet : Table Nat
  /-- Increments of CNT fields, by register. -/
  cntAdd : Table Nat
  /-- RWH registers hardware loaded. -/
  hwLoad : NatSet
  /-- RWH registers software wrote. -/
  swWrote : NatSet
  /-- RC registers: the value before hardware's updates of this cycle. -/
  rcOld : Table Nat
  /-- Sources that reported an event (15_faults.md R640). -/
  events : NatSet
  /-- Events of severity S1 or above that FLT_HWM ranks (15_faults.md R648): source and severity. -/
  hwm : List (Nat × Nat)
  /-- Violations of this cycle: class, and four times the address with the kind (19_interconnect_access.md R749). -/
  viol : List (Nat × Nat)
  /-- Registers whose fields software wrote in this cycle (R41). -/
  written : NatSet
  /-- Address ranges whose fields an event returned to their reset values in this cycle (R41). -/
  returned : List (Nat × Nat)
  /-- The maintenance limit expired in this cycle and MAINTENANCE was left (13_modes_custody.md R575). -/
  limit : Bool := false
deriving DecidableEq, Repr

/-- An entry of a delay list (08_scheduler.md R353): list, release tick, item. -/
structure Delay where
  list : Nat
  due : Nat
  item : Nat
deriving DecidableEq, Repr

/-- A table or curve load that runs on its copy (04_tide_tables.md R148, 07_bignum_engines.md R316). -/
structure Load where
  image : Bytes
  offset : Nat
  replayOnly : Bool
  slot : Nat
deriving DecidableEq, Repr

/-! ## What leaves the device -/

end Sys2Proof.Machine

namespace Sys2Proof.Config

/-- The integrity check value of a frame of GCM-AES-XPN-256 (IEEE 802.1AE): secure association key, association number, message
(11_jochevy_domain.md R468, R469). -/
opaque frameIcv : Bytes → Nat → Machine.Msg → Bytes

end Sys2Proof.Config

namespace Sys2Proof.Machine

/-- Everything the device sends: the output log holds it, newest first. -/
inductive Output where
  /-- A 32-byte completion at CQ index of a queue pair (03_host_queues.md R73). -/
  | completion (vf qp index : Nat) (bytes : Bytes)
  /-- Buffer output (R78). -/
  | buffer (vf addr : Nat) (bytes : Bytes)
  /-- An MSI-X message: function 0 is the PF, v + 1 is VF v (R75, 02_register_convention.md R44). -/
  | msix (fn vector : Nat)
  /-- An SQ DMA read (R110). -/
  | sqRead (vf qp index : Nat)
  /-- A buffer DMA read (R94). -/
  | bufRead (item addr len : Nat)
  /-- A value a register read returned, to an initiator class. -/
  | value (cls addr val : Nat)
  /-- A Jochevy message on a fabric port, in its frame. -/
  | fabric (port : Nat) (frame : Frame) (msg : Msg)
  /-- A saved VF in BLOB messages. -/
  | blob (dst : Nat) (b : Blob)
  /-- An Olihild reply: carrier, TYPE, STATUS, CEREMONY_ID, body (13_modes_custody.md R585). -/
  | olihild (carrier typ status id : Nat) (body : Bytes)
  /-- Blocks written to the SSDs of a pair: port, first location, records. -/
  | ssd (port loc : Nat) (recs : List Rec)
  /-- A read of a record from an SSD port. -/
  | ssdRead (port : Nat) (ident : Ident)
  /-- A write to an SSD's other areas: 0 control, 1 tree, 2 index, 3 segment headers; with its place there (R417, R425, R430). -/
  | ssdArea (port area place : Nat) (bytes : Bytes)
  /-- The record blocks of a segment are deallocated on an SSD (R449). -/
  | ssdDeallocate (port seg : Nat)
  /-- A DMA write of an export blob (18_counters_replay.md R724). -/
  | hostWrite (addr : Nat) (bytes : Bytes)
  /-- A reply on the sideband. -/
  | sideband (bytes : Bytes)
  /-- A fetch fault raised in a control core, with the address refused (19_interconnect_access.md R744). -/
  | fetchFault (addr : Nat)
  /-- A reply through the DOE mailbox of the PF. -/
  | doe (bytes : Bytes)
  /-- A control core's work interrupt (08_scheduler.md R349). -/
  | coreIrq (core item : Nat)
deriving DecidableEq, Repr

/-! ## What else the state is made of -/

/-- Everything that belongs to a page's registers and the accesses to them. -/
structure Pages where
  /-- The register file: stored fields by device address. Unlisted registers hold their reset values. -/
  regs : Table Word
  /-- Captures of _HI registers (02_register_convention.md R54): key class × 2^32 + address. -/
  hiCap : Table Word
  /-- SNAP by class and page (R57): key class × 2^32 + page address. -/
  snaps : Table Snap
  /-- Pages whose soft reset runs (R47). -/
  resetting : NatSet
  cyc : Cyc
deriving DecidableEq, Repr

/-- The host front end. -/
structure Front where
  vfEnable : Bool
  numVfs : Nat
  msix : Table Msix
  qps : Table Qp
  vfs : Table Vf
deriving DecidableEq, Repr

/-- The scheduler, and the lanes with what their tables hold. -/
structure Sched where
  items : Table Item
  nextItem : Nat
  tick : Nat
  vfPtr : Nat
  delays : List Delay
  /-- Internal lane cycles of the last 16 ticks, newest first (03_host_queues.md R100). -/
  internalWin : List Nat
  /-- Ready or delay lists under repair: class and kind (08_scheduler.md R371). -/
  rebuilding : List (Nat × Bool)
  /-- Values of DEV_WARM, DEV_ADMIT, SCHED_CTRL, SCHED_TIMER in force (R124, R370). -/
  warm : Nat
  admitCfg : Nat
  ctrl : Nat
  timer : Nat
  /-- The lanes that run a table, by cluster × 8 + lane; an idle lane is wiped and unlisted (05_cipher_lanes.md R171, R173). -/
  lanes : Table Lane
deriving DecidableEq, Repr

/-- Clusters, engines, tables and curves. -/
structure Units where
  clusters : Table Cluster
  engines : Table Engine
  groups : Table Cluster
  pairs : Table Pair
  curves : Table Curve
  curveLoad : Option Load
  tables : Table TableVersion
  nextTable : Nat
  /-- Highest version ever loaded: key service × 256 + variant (04_tide_tables.md R149 step 15). -/
  highest : Table Nat
  load : Option Load
  /-- The tide-table staging window (R146). -/
  staging : Table Byte
deriving DecidableEq, Repr

end Sys2Proof.Machine
end

