-- ==== Sys2Proof/Syntax.lean ====
section
/-! DEFINITION. The commands of the block: one constructor per row of the table of operations and events. -/

namespace Sys2Proof

open Machine in
/-- The commands (opcode_table.json). Each is one step of the part, whole and indivisible (95_what_each_step_holds.md).
Operands name what the step is about, and what the outside or the hardware found where the step ends a wait. -/
inductive Instr where
  /-- WINDOW_SLOT_WRITE (R69): A host write into a descriptor-window slot fills its byte-written mask, and the write that completes the mask gets the descriptor accepted. -/
  | windowSlotWrite (vf : Fin 4096) (qp : Fin 64) (slot : Fin 8) (off : Nat) (data : Bytes)
  /-- SUBMISSION_TAIL_DOORBELL (R67): A write to a submission-tail doorbell sets the new SQ tail and lets SQ fetch proceed, or is ignored and counted when invalid. -/
  | submissionTailDoorbell (vf : Fin 4096) (qp : Fin 64) (be : BitVec 4) (value : Word)
  /-- COMPLETION_HEAD_DOORBELL (R67): A write to a completion-head doorbell frees CQ entries, so that held completions can be posted. -/
  | completionHeadDoorbell (vf : Fin 4096) (qp : Fin 64) (be : BitVec 4) (value : Word)
  /-- SQ_FETCH_ISSUE (R110): The device issues a DMA read of SQ entries in index order below the tail. -/
  | sqFetchIssue (vf : Fin 4096) (qp : Fin 64)
  /-- SQ_READ_COMPLETION (R68): The last byte of a descriptor arrives from an SQ DMA read, and the descriptor is accepted on the ring path. -/
  | sqReadCompletion (vf : Fin 4096) (qp : Fin 64) (data : Bytes)
  /-- SQ_READ_FAILURE (R120): An SQ DMA read fails at the host; fetch stops and the queue pair's error state is set. -/
  | sqReadFailure (vf : Fin 4096) (qp : Fin 64)
  /-- BUFFER_READ_END (R94): The read of a descriptor buffer ends; the descriptor operand arrives or the item completes FORMAT, detail 0x05. -/
  | bufferReadEnd (item : Nat) (data : Option Bytes)
  /-- DEFERRED_ADMIT (R101): A deferred item is admitted when capacity is released, in the order of R101. -/
  | deferredAdmit
  /-- FENCE_RELEASE (R109): A fence stops holding a descriptor once the earlier descriptors have completed, and the descriptor proceeds to admission. -/
  | fenceRelease (item : Nat)
  /-- TICK (R780): The 1 µs tick applies pending writes, refills tokens, advances the accounting windows and releases due delay entries. -/
  | tick (aon : Nat)
  /-- DEFER_DEADLINE (R353): A DEFER entry falls due and the unadmitted item is refused. -/
  | deferDeadline (item : Nat)
  /-- EPOCH_HOLD_EXPIRY (R95): A HOLD entry falls due and the item completes EPOCH_AHEAD, unless the device has reached its epoch. -/
  | epochHoldExpiry (item : Nat)
  /-- RETRY_RELEASE (R355): A RETRY entry falls due and the operand request is issued again to its source. -/
  | retryRelease (item : Nat)
  /-- SWEEP_RELEASE (R353): A SWEEP entry falls due and the sweep pass, scrub step or compaction step becomes a ready item. -/
  | sweepRelease (kind : Fin 3)
  /-- OPERAND_ARRIVAL (R337): An operand arrives, and the item becomes ready when it is the last one needed. -/
  | operandArrival (item : Nat) (which : Fin 3) (read : SlotRead)
  /-- OPERAND_REFUSAL (R338): A source refuses an operand request; the item completes with that status and its other requests are cancelled. -/
  | operandRefusal (item : Nat) (which : Fin 4) (why : Refuse)
  /-- SESSION_DERIVATION_END (R241): A session derivation of a DUKPT or EMV working key ends and fills key-operand entry A. -/
  | sessionDerivationEnd (item : Nat) (mismatches : Fin 3)
  /-- STORE_FETCH_END (R436): A fetched record arrives; it is authenticated, unwrapped, tagged and made VALID in the cache. -/
  | storeFetchEnd (slot : Nat) (fetched : FetchEnd)
  /-- KEY_EXPIRY_SWEEP_PASS (R400): A sweep pass checks the tags of the next 65,536 slots and frees stale slots. -/
  | keyExpirySweepPass (failing : List Nat)
  /-- DISPATCH_LANE (R346): A ready LANE item or rerun is dispatched to an idle lane of a suitable clocked cluster. -/
  | dispatchLane (tagOk : Bool)
  /-- DISPATCH_ENGINE (R347): A ready ENGINE item is dispatched to a free pair that meets R285. -/
  | dispatchEngine
  /-- DISPATCH_KEY_SIDE (R348): A key-side table is dispatched to the first free derivation pipeline pair. -/
  | dispatchKeySide
  /-- DISPATCH_CORE (R349): A CORE item is delivered by raising a control core's work interrupt. -/
  | dispatchCore
  /-- CORE_WORK_REPORT (R349): Firmware reports a CORE item finished, and its matching-store entry is freed. -/
  | coreWorkReport (item : Nat)
  /-- CORE_ITEM_LATE (R350): A CORE item has not been taken within 1 ms; source 245 counts and the item is offered to another core. -/
  | coreItemLate (item : Nat)
  /-- DISPATCH_NOT_ACCEPTED (R371): A lane, pipeline or pair does not accept a dispatch within 100 ns, and the item is dispatched elsewhere. -/
  | dispatchNotAccepted (item : Nat)
  /-- LANE_RUN_END (R200): A table run ends and the release gate releases, discards and reruns, or withholds the outputs. -/
  | laneRunEnd (item : Nat) (mismatches : Nat) (countersOk : Bool)
  /-- LANE_FAILURE (R208): A lane failure sets the LC_FAIL bits of the unit it names. -/
  | laneFailure (cluster : Fin 16) (lane : Fin 8) (unit : LaneUnit)
  /-- GLITCH_DETECTOR_TRIP (R197): The cluster's clock or supply glitch detector trips, a lane failure of every lane running. -/
  | glitchDetectorTrip (cluster : Fin 16)
  /-- KEY_SIDE_TABLE_END (R239): A key-side table ends on both pipelines and its releases are compared before any takes effect. -/
  | keySideTableEnd (item : Nat) (mismatches : Fin 3)
  /-- ENGINE_JOB_END (R300): An engine job ends on both engines and the pair gate releases, reruns or withholds its outputs. -/
  | engineJobEnd (item : Nat) (mismatch : Bool)
  /-- ML_DSA_ATTEMPT_LIMIT (R291): An ML-DSA signing job reaches 814 attempts and completes FAULT_WITHHELD, detail 0x06. -/
  | mlDsaAttemptLimit (item : Nat)
  /-- ENGINE_FAILURE (R302): An engine failure or mismatch sets a BN_FAIL bit and grows the mismatch count. -/
  | engineFailure (engine : Fin 32) (unit : Fin 6)
  /-- YIELD_POINT (R308): An engine job reaches a yield point and continues, parks, or is wiped for a reset or freeze. -/
  | yieldPoint (item : Nat)
  /-- PAIR_FREE (R358): A freed pair takes the highest-level ready engine item or parked job. -/
  | pairFree (pair : Fin 16)
  /-- COMPLETION_POST (R73): The completion writer posts a 32-byte completion to the CQ, with its buffer outputs before it. -/
  | completionPost (item : Nat)
  /-- MATCHING_STORE_UNREADABLE (R340): A matching-store entry cannot be read and the item completes SQUASHED from its routing record. -/
  | matchingStoreUnreadable (item : Nat)
  /-- LIST_REBUILD_END (R371): The rebuild of a ready list or delay list ends, and LIST_REBUILT is set. -/
  | listRebuildEnd (cls : Fin 3) (delay : Bool)
  /-- CLUSTER_WAKE_REQUEST (R210): A dispatch, rerun or the warm floor asks a gated cluster to wake. -/
  | clusterWakeRequest (cluster : Fin 16)
  /-- CLUSTER_WAKE_END (R210): A cluster wake ends: the cluster takes dispatches, or the wake fails and is counted. -/
  | clusterWakeEnd (cluster : Fin 16) (ok : Bool)
  /-- CLUSTER_IDLE_GATE (R115): A clocked cluster above both warm limits has been idle for IDLE_GATE µs and is withdrawn for gating. -/
  | clusterIdleGate (cluster : Fin 16)
  /-- CLUSTER_GATED (R213): A withdrawn cluster gates 8 ns after the decision. -/
  | clusterGated (cluster : Fin 16)
  /-- GROUP_WAKE_END (R311): An engine group wake ends: it clears its memories or fails. -/
  | groupWakeEnd (group : Fin 8) (ok : Bool)
  /-- LC_RELEASE (R218): A RELEASE command on an LC page runs a test wake and returns a quarantined cluster to service or leaves it quarantined. -/
  | lcRelease (cluster : Fin 16)
  /-- LC_FAIL_CLEAR (R217): A write that clears LC_FAIL bits of a lane also zeroes its mismatch count. -/
  | lcFailClear (cluster : Fin 16) (half : Fin 2) (bits : Word)
  /-- LC_SOFT_RESET (R220): A soft reset of an LC page wipes every lane and zeroes the mismatch counts. -/
  | lcSoftReset (cluster : Fin 16)
  /-- BN_RELEASE (R327): A RELEASE command on a BN page runs a test wake of the group and returns a quarantined engine to service. -/
  | bnRelease (engine : Fin 32)
  /-- BN_FAIL_CLEAR (R327): A write that clears BN_FAIL bits also zeroes BN_MISMATCH. -/
  | bnFailClear (engine : Fin 32) (bits : Word)
  /-- BN_SOFT_RESET (R331): A soft reset of a BN page withdraws the pair and restarts its jobs elsewhere. -/
  | bnSoftReset (engine : Fin 32)
  /-- STAGING_WINDOW_WRITE (R146): The manager writes image or set bytes into the tide-table staging window. -/
  | stagingWindowWrite (off : Nat) (data : Bytes)
  /-- LOAD (R149): A LOAD of SCHED.TBL_CMD copies the staged image and applies the loader checks in order. -/
  | load
  /-- LOAD_END (R155): A table load ends; on success the version becomes active as LOAD_DONE is set. -/
  | loadEnd
  /-- RETIRE (R158): A RETIRE of SCHED.TBL_CMD retires a held table version. -/
  | retire
  /-- VERSION_FREE (R156): A superseded or retired version frees its blocks once every item bound to it has completed. -/
  | versionFree (version : Nat)
  /-- TABLE_RELOAD_END (R162): A withdrawn version ends its reload from its META records. -/
  | tableReloadEnd (version : Nat)
  /-- CURVE_LOAD (R316): A CURVE_CMD.LOAD copies a curve-parameter set and checks it on an engine pair. -/
  | curveLoad
  /-- CURVE_LOAD_END (R317): A curve load ends with its code in CURVE_RESULT. -/
  | curveLoadEnd (engineCode : Nat)
  /-- CURVE_RETIRE (R319): A CURVE_CMD.RETIRE empties a slot once every job that uses it has completed. -/
  | curveRetire
  /-- PIN_TRANSLATE (R246): Service 0x0101 translates a PIN block from one zone key to another. -/
  | pinTranslate (item : Nat)
  /-- PIN_TRANSLATE_DUKPT (R249): Service 0x0102 translates a DUKPT-protected PIN block to a zone key. -/
  | pinTranslateDukpt (item : Nat)
  /-- PIN_VERIFY_OFFSET (R253): Service 0x0103 verifies a PIN by the offset method. -/
  | pinVerifyOffset (item : Nat)
  /-- PIN_VERIFY_PVV (R255): Service 0x0104 verifies a PIN by the PVV method. -/
  | pinVerifyPvv (item : Nat)
  /-- DUKPT_DATA_DECRYPT (R256): Service 0x0105 decrypts data under a DUKPT working key. -/
  | dukptDataDecrypt (item : Nat)
  /-- ARQC_VERIFY (R258): Service 0x0201 verifies an ARQC and may generate an ARPC. -/
  | arqcVerify (item : Nat)
  /-- CVV_GENERATE (R260): Service 0x0210 generates a card verification value. -/
  | cvvGenerate (item : Nat)
  /-- CVV_VERIFY (R260): Service 0x0211 verifies a card verification value. -/
  | cvvVerify (item : Nat)
  /-- RETAIL_MAC_GENERATE (R262): Service 0x0301 generates an ISO/IEC 9797-1 algorithm 3 MAC. -/
  | retailMacGenerate (item : Nat)
  /-- RETAIL_MAC_VERIFY (R263): Service 0x0302 verifies a retail MAC. -/
  | retailMacVerify (item : Nat)
  /-- AES_CMAC_GENERATE (R262): Service 0x0303 generates an AES-CMAC. -/
  | aesCmacGenerate (item : Nat)
  /-- AES_CMAC_VERIFY (R263): Service 0x0304 verifies an AES-CMAC. -/
  | aesCmacVerify (item : Nat)
  /-- HMAC_SHA_256_GENERATE (R262): Service 0x0305 generates an HMAC-SHA-256. -/
  | hmacSha256Generate (item : Nat)
  /-- HMAC_SHA_256_VERIFY (R263): Service 0x0306 verifies an HMAC-SHA-256. -/
  | hmacSha256Verify (item : Nat)
  /-- KEY_GENERATE (R265): Service 0x0401 generates and commits a new stored key. -/
  | keyGenerate (item : Nat)
  /-- KEY_ROTATE (R265): Service 0x0402 creates the next version of a stored key. -/
  | keyRotate (item : Nat)
  /-- KEY_BLOCK_IMPORT (R266): Service 0x0403 imports an X9.143 key block under a KBPK. -/
  | keyBlockImport (item : Nat)
  /-- KEY_BLOCK_EXPORT (R267): Service 0x0404 exports a key as an X9.143 key block. -/
  | keyBlockExport (item : Nat)
  /-- KEY_STATUS (R269): Service 0x0405 reports a key version's state and check value. -/
  | keyStatus (item : Nat)
  /-- KEY_VERSION_RETIRE (R265): Service 0x0406 retires a key version. -/
  | keyVersionRetire (item : Nat)
  /-- TOKENIZE (R273): Service 0x0601 draws a token for a PAN and commits its vault record. -/
  | tokenize (item : Nat) (held : List Nat)
  /-- DETOKENIZE (R274): Service 0x0602 returns the PAN and expiry of a token record. -/
  | detokenize (item : Nat)
  /-- TOKEN_QUERY (R275): Token lifecycle QUERY returns a token record's state. -/
  | tokenQuery (item : Nat)
  /-- TOKEN_SUSPEND (R275): Token lifecycle SUSPEND commits the SUSPENDED state. -/
  | tokenSuspend (item : Nat)
  /-- TOKEN_RESUME (R275): Token lifecycle RESUME commits the ACTIVE state. -/
  | tokenResume (item : Nat)
  /-- TOKEN_DELETE (R275): Token lifecycle DELETE commits the DELETED state. -/
  | tokenDelete (item : Nat)
  /-- RE_TOKENIZE (R274): Service 0x0604 issues a new token under another vault key from a source record. -/
  | reTokenize (item : Nat) (held : List Nat)
  /-- ECHO (R277): Diagnostics service 0x0F00 returns INLINE_0 in RESULT in every mode. -/
  | echo (item : Nat)
  /-- SERVICE_BUNDLE (R82): A bundle descriptor runs two to four steps in buffer order. -/
  | serviceBundle (item : Nat)
  /-- OPERATOR_TABLE_SERVICE (R145): A descriptor runs an approved operator table at SERVICE_ID 0x8000–0xFFFF. -/
  | operatorTableService (item : Nat)
  /-- RSA_SIGN (R321): Engine service 0x0501 produces an RSA signature. -/
  | rsaSign (item : Nat)
  /-- RSA_VERIFY (R322): Engine service 0x0502 verifies an RSA signature. -/
  | rsaVerify (item : Nat)
  /-- RSA_OAEP_KEY_IMPORT (R325): Engine service 0x0503 decrypts an OAEP-wrapped key and commits it. -/
  | rsaOaepKeyImport (item : Nat)
  /-- KEY_PAIR_GENERATE (R321): Engine service 0x0504 generates and commits a key pair. -/
  | keyPairGenerate (item : Nat)
  /-- PUBLIC_KEY_EXPORT (R323): Engine service 0x0505 exports a public key and its check value. -/
  | publicKeyExport (item : Nat)
  /-- ECDSA_SIGN (R321): Engine service 0x0510 produces an ECDSA P-256 or P-384 signature. -/
  | ecdsaSign (item : Nat)
  /-- ECDSA_VERIFY (R321): Engine service 0x0511 verifies an ECDSA signature. -/
  | ecdsaVerify (item : Nat)
  /-- ECDSA_SIGN_SLOT_CURVE (R320): Engine service 0x0512 signs on a slot curve. -/
  | ecdsaSignSlotCurve (item : Nat)
  /-- ECDSA_VERIFY_SLOT_CURVE (R320): Engine service 0x0513 verifies on a slot curve. -/
  | ecdsaVerifySlotCurve (item : Nat)
  /-- ML_DSA_65_SIGN (R313): Engine service 0x0520 produces an ML-DSA-65 signature. -/
  | mlDsa65Sign (item : Nat)
  /-- ML_DSA_65_VERIFY (R313): Engine service 0x0521 verifies an ML-DSA-65 signature. -/
  | mlDsa65Verify (item : Nat)
  /-- ML_KEM_768_ENCAPSULATE (R314): Engine service 0x0530 encapsulates a shared secret. -/
  | mlKem768Encapsulate (item : Nat)
  /-- ML_KEM_768_DECAPSULATE (R314): Engine service 0x0531 decapsulates a shared secret. -/
  | mlKem768Decapsulate (item : Nat)
  /-- MODULAR_EXPONENTIATION (R322): Engine service 0x0540 computes a modular exponentiation. -/
  | modularExponentiation (item : Nat)
  /-- COMMIT (R439): A record released to the store is sent to its local write and to its placement peers. -/
  | commit (item : Nat)
  /-- RECORD_COMMITTED (R438): A record's local write and k − 1 peer ACKs are complete, and its descriptor's completion may be released. -/
  | recordCommitted (seq : Nat)
  /-- COMMIT_WAIT_LATE (R466): A commit has waited more than 10 ms for peers, and source 188 counts. -/
  | commitWaitLate (seq : Nat)
  /-- LOCAL_WRITE (R432): A local write of 1–16 blocks is recorded as pending and issued with FUA. -/
  | localWrite
  /-- LOCAL_WRITE_END (R432): Every write of a local write completes, and BBRAM records the new tree root and TAIL. -/
  | localWriteEnd
  /-- FUA_WRITE_FAILURE (R441): An FUA write fails on one SSD, which becomes FAILED. -/
  | fuaWriteFailure (port : Fin 4)
  /-- RECORD_READ_END (R437): A record read from an SSD ends and is authenticated, repaired, retried or fetched from peers. -/
  | recordReadEnd (slot : Nat) (found : ReadEnd)
  /-- INDEX_CHECKPOINT (R435): At each checkpoint interval the dirty index buckets and a superblock are written. -/
  | indexCheckpoint
  /-- SCRUB (R457): JNL_CMD.SCRUB starts a scrub of every written block. -/
  | scrub
  /-- SCRUB_TIMER (R458): SCRUB_HOURS after the last scrub ended, an automatic scrub starts. -/
  | scrubTimer
  /-- SCRUB_END (R457): A scrub ends. -/
  | scrubEnd
  /-- COMPACT (R448): JNL_CMD.COMPACT starts a compaction run. -/
  | compact
  /-- COMPACTION_END (R448): A compaction run ends on reaching its target or finding no dead record. -/
  | compactionEnd
  /-- ADOPT (R459): JNL_CMD.ADOPT lays out and fills an SSD from its partner. -/
  | adopt
  /-- ADOPT_END (R459): An ADOPT ends, and the port becomes CURRENT. -/
  | adoptEnd (code : Fin 8)
  /-- FORMAT (R464): JNL_CMD.FORMAT formats the store on every suitable SSD. -/
  | format
  /-- FORMAT_END (R465): A FORMAT ends with its code. -/
  | formatEnd (code : Fin 8)
  /-- JNL_SOFT_RESET (R462): A soft reset of the JNL page aborts a running command and probes FAILED ports again. -/
  | jnlSoftReset
  /-- FABRIC_LINK_LOSS (R467): A fabric port loses link, and its traffic moves to the other port. -/
  | fabricLinkLoss (port : Fin 2)
  /-- FABRIC_LINK_UP (R467): A fabric port regains link. -/
  | fabricLinkUp (port : Fin 2)
  /-- FRAME_REJECTED (R468): An unsecured or unverified frame is dropped and counted. -/
  | frameRejected (port : Fin 2)
  /-- MALFORMED_MESSAGE (R476): A Jochevy message with a bad header or an unknown TYPE is dropped and counted. -/
  | malformedMessage (port : Fin 2)
  /-- HELLO (R482): A HELLO message from a restarting module gets the coordinator to prepare re-adding it. -/
  | hello (port : Fin 2) (msg : Msg)
  /-- HELLO_TIMER (R482): A module with a DOMAIN record sends HELLO every 10 ms. -/
  | helloTimer
  /-- HEARTBEAT (R480): A HEARTBEAT message is received from a ring neighbour. -/
  | heartbeat (port : Fin 2) (msg : Msg)
  /-- HEARTBEAT_TIMER (R480): Every 20 µs HEARTBEAT is sent to the ring neighbours. -/
  | heartbeatTimer
  /-- MEMBER_UNREACHABLE (R480): A message or heartbeat timeout marks a member unreachable. -/
  | memberUnreachable (member : Nat)
  /-- REPORT (R481): A REPORT message listing unreachable members is received. -/
  | report (port : Fin 2) (msg : Msg)
  /-- REPORT_TIMER (R480): While any mark lasts, REPORT is sent to the coordinator every 10 ms. -/
  | reportTimer
  /-- MEMBER_LOST (R481): The removal conditions have held for LOST_100MS × 100 ms, and the coordinator prepares removal of the member. -/
  | memberLost (member : Nat)
  /-- REPLICATE (R487): A REPLICATE message is received and its records are stored through local writes. -/
  | replicate (port : Fin 2) (msg : Msg)
  /-- ACK (R488): An ACK for replicated records is received and counts toward their commit. -/
  | ack (port : Fin 2) (msg : Msg)
  /-- NAK (R489): A NAK is received and the record is re-targeted. -/
  | nak (port : Fin 2) (msg : Msg)
  /-- READ (R491): A READ message from a peer is answered with records or ABSENT marks. -/
  | read (port : Fin 2) (msg : Msg)
  /-- READ_REPLY (R491): A READ_REPLY ends a read from peers, or a forwarded one fills the cache. -/
  | readReply (port : Fin 2) (msg : Msg)
  /-- HOLD_QUERY (R519): A HOLD_QUERY message is answered with HOLD_REPLY. -/
  | holdQuery (port : Fin 2) (msg : Msg)
  /-- HOLD_REPLY (R519): A HOLD_REPLY settles or voids an open or orphaned commit. -/
  | holdReply (port : Fin 2) (msg : Msg)
  /-- ORIGIN_QUERY (R455): An ORIGIN_QUERY message is answered with ORIGIN_REPLY. -/
  | originQuery (port : Fin 2) (msg : Msg)
  /-- ORIGIN_REPLY (R455): An ORIGIN_REPLY settles the records of an origin and raises its sequence number. -/
  | originReply (port : Fin 2) (msg : Msg)
  /-- RESYNC_DIGEST (R505): A RESYNC_DIGEST message is compared and the missing records are fetched. -/
  | resyncDigest (port : Fin 2) (msg : Msg)
  /-- PREPARE_CHANGE (R493): The coordinator writes its PREPARED record and multicasts PREPARE for a batched change. -/
  | prepareChange
  /-- PREPARE (R495): A member receives PREPARE, writes its PREPARED record and multicasts PREPARE_ACK. -/
  | prepare (port : Fin 2) (msg : Msg)
  /-- PREPARE_RESEND_TIMER (R495): Every 1 ms the coordinator resends PREPARE to members whose acknowledgement is missing. -/
  | prepareResendTimer
  /-- PREPARE_ACK (R495): A PREPARE_ACK is received, and a strict majority leads to the VIEW record and COMMIT. -/
  | prepareAck (port : Fin 2) (msg : Msg)
  /-- COMMIT_MESSAGE (R495): A COMMIT message is received and its VIEW record is written. -/
  | commitMessage (port : Fin 2) (msg : Msg)
  /-- RECOVERY_TAKEOVER (R498): A member with a PREPARED record and no COMMIT for 5 ms becomes recovering coordinator and multicasts RECOVER. -/
  | recoveryTakeover
  /-- RECOVER (R499): A RECOVER message is answered with an acknowledgement or a refusal. -/
  | recover (port : Fin 2) (msg : Msg)
  /-- RECOVER_REPLY (R500): A RECOVER_REPLY is counted toward completion or rollback. -/
  | recoverReply (port : Fin 2) (msg : Msg)
  /-- ROLLBACK (R500): A ROLLBACK message discards the PREPARED record for the epoch. -/
  | rollback (port : Fin 2) (msg : Msg)
  /-- GRACED_HOLD_EXPIRY (R475): A graced message held for a newer epoch reaches 2 ms and is answered EPOCH_AHEAD. -/
  | gracedHoldExpiry (src : Nat) (seq : Nat)
  /-- EPOCH_GRACE_END (R496): The superseded epoch's 100 ms grace ends. -/
  | epochGraceEnd
  /-- APPLY_K (R522): DOM_CMD.APPLY_K asks the coordinator for an epoch change setting k. -/
  | applyK
  /-- LEAVE (R483): DOM_CMD.LEAVE asks the coordinator to remove the module. -/
  | leave
  /-- LEAVE_END (R483): The module has pushed its records to their new placement and becomes STANDALONE. -/
  | leaveEnd
  /-- RESYNC (R505): DOM_CMD.RESYNC starts the digest exchange and fetches of missing records. -/
  | resync
  /-- RESYNC_END (R505): A resynchronisation run ends. -/
  | resyncEnd
  /-- DOM_SOFT_RESET (R521): A soft reset of the DOM page clears marks, resends REPLICATE and aborts RESYNC or LEAVE. -/
  | domSoftReset
  /-- FREEZE (R507): DOM_MIG_CMD.FREEZE stops dispatch of an ACTIVE VF's items. -/
  | freeze
  /-- VF_FROZEN (R508): The VF's last lane item completes and its last job parks, so the VF reaches FROZEN. -/
  | vfFrozen (vf : Fin 4096)
  /-- SAVE (R512): DOM_MIG_CMD.SAVE seals a FROZEN VF into a blob and sends it in BLOB messages. -/
  | save
  /-- BLOB (R512): A BLOB message is placed in a free blob slot and answered with BLOB_ACK. -/
  | blob (port : Fin 2) (blob : Blob)
  /-- BLOB_ACK (R512): A BLOB_ACK ends the SAVE. -/
  | blobAck (port : Fin 2) (msg : Msg)
  /-- RESTORE (R515): DOM_MIG_CMD.RESTORE checks a blob and sends CLAIM to the source. -/
  | restore
  /-- CLAIM (R516): A CLAIM is granted or refused, and a grant starts a forwarding stub. -/
  | claim (port : Fin 2) (msg : Msg)
  /-- CLAIM_REPLY (R517): A CLAIM_REPLY grant makes the target VF ACTIVE at PGEN_NEW and ends the RESTORE. -/
  | claimReply (port : Fin 2) (msg : Msg)
  /-- CLAIM_TIMEOUT (R515): No CLAIM_REPLY arrives within 100 ms and the RESTORE ends 0x08. -/
  | claimTimeout
  /-- UNFREEZE (R511): DOM_MIG_CMD.UNFREEZE returns a FROZEN VF to ACTIVE and discards the blob copy. -/
  | unfreeze
  /-- DISCARD (R522): DOM_MIG_CMD.DISCARD empties a blob slot. -/
  | discard
  /-- STUB_EXPIRY (R518): A forwarding stub expires after 100 ms and the target queries its open commits. -/
  | stubExpiry (tenant : Nat) (pgen : Nat)
  /-- OPEN_COMMIT_QUERY_TIMER (R519): Every 10 ms the target repeats HOLD_QUERY for its open commits. -/
  | openCommitQueryTimer
  /-- CREATE (R547): VFM_CMD.CREATE makes an ABSENT VF CREATED with its tenant ID, pool, minima and quotas. -/
  | create (vf : Fin 4096)
  /-- ACTIVATE (R547): VFM_CMD.ACTIVATE makes a CREATED VF ACTIVE. -/
  | activate (vf : Fin 4096)
  /-- DRAIN (R549): VFM_CMD.DRAIN makes an ACTIVE VF DRAINING. -/
  | drain (vf : Fin 4096)
  /-- DRAIN_END (R549): A VF drain ends and the VF becomes CREATED. -/
  | drainEnd (vf : Fin 4096)
  /-- DESTROY (R550): VFM_CMD.DESTROY frees the VF's resources and resets its management registers. -/
  | destroy (vf : Fin 4096)
  /-- VF_ABSENT (R547): A DESTROYED VF becomes ABSENT within 1 ms. -/
  | vfAbsent (vf : Fin 4096)
  /-- RECLAIM (R542): VFM_CMD.RECLAIM drains excess queue pairs and evicts runs down to the slot quota. -/
  | reclaim (vf : Fin 4096)
  /-- RECLAIM_END (R542): A reclaim ends once eviction and drains are done, and RECLAIM_DONE is set. -/
  | reclaimEnd (vf : Fin 4096)
  /-- QP_ENABLE_WRITE (R561): A write of QP_CFG.ENABLE 1 enables a queue pair and resets its indices. -/
  | qpEnableWrite (vf : Fin 4096) (qp : Fin 64) (value : Word)
  /-- QP_DRAIN (R544): A write of ENABLE 0, or a reclaim, starts a queue-pair drain. -/
  | qpDrain (vf : Fin 4096) (qp : Fin 64) (value : Word)
  /-- QP_DRAIN_END (R545): Every descriptor of a draining queue pair has completed, and the drain ends. -/
  | qpDrainEnd (vf : Fin 4096) (qp : Fin 64)
  /-- QP_ERROR_CLEAR (R560): Clearing QP_STAT.ERROR resumes SQ fetch at SQ_HEAD. -/
  | qpErrorClear (vf : Fin 4096) (qp : Fin 64)
  /-- VF_RESET (R552): An FLR or a soft reset of the VF or VF management page resets a VF. -/
  | vfReset (vf : Fin 4096) (cause : Fin 3)
  /-- VF_ENABLE_CLEAR (R527): Clearing SR-IOV VF Enable performs a VF reset of every exposed VF. -/
  | vfEnableClear
  /-- VF_PAGE_ENABLE_WRITE (R781): A write of PAGE_CTRL.ENABLE on the VF or VF management page stops or resumes the VF's intake. -/
  | vfPageEnableWrite (vf : Fin 4096) (manager : Bool) (enable : Bool)
  /-- POOL_WRITE (R536): A write of a pool's shares or slot capacity is performed only when it keeps R534 and the pool's minima. -/
  | poolWrite (pool : Fin 8) (slots : Bool) (value : Word)
  /-- SEND (R557): MB_CTRL.SEND offers a tenant message to the manager. -/
  | send (vf : Fin 4096)
  /-- TAKE (R557): VFM_MB_CTRL.TAKE takes the tenant's message. -/
  | take (vf : Fin 4096)
  /-- POST (R558): VFM_MB_CTRL.POST delivers a manager message once MB_M2T is free. -/
  | post (vf : Fin 4096)
  /-- M2T_FREE (R558): The tenant writes 1 to M2T_VALID to free MB_M2T, which sets M2T_TAKEN. -/
  | m2tFree (vf : Fin 4096)
  /-- MBX_SEND (R567): MBX_CMD.SEND hands a frame in MBX_OUT to the device. -/
  | mbxSend
  /-- MBX_IN_FREE (R567): A write of 1 to MBX_CMD.IN_VALID frees MBX_IN for the next frame. -/
  | mbxInFree
  /-- MBX_SOFT_RESET (R568): A soft reset of the MBX page discards frames and ends a running SEND. -/
  | mbxSoftReset
  /-- OPEN (R579): An Olihild OPEN opens a ceremony and computes T, or is refused. -/
  | openCeremony (carrier : Fin 2) (body : Bytes)
  /-- APPROVE (R581): An Olihild APPROVE is verified and counted toward the quorum. -/
  | approve (carrier : Fin 2) (ceremony : Word) (body : Bytes)
  /-- COMPONENT (R591): An Olihild COMPONENT is decrypted and counted. -/
  | component (carrier : Fin 2) (ceremony : Word) (body : Bytes)
  /-- TRANSPORT (R589): An Olihild TRANSPORT delivers a root transport blob to a joining module. -/
  | transport (carrier : Fin 2) (ceremony : Word) (body : Bytes)
  /-- CANCEL_MESSAGE (R585): An Olihild CANCEL ends the open ceremony as CANCELLED. -/
  | cancelMessage (carrier : Fin 2) (ceremony : Word)
  /-- QUERY (R585): An Olihild QUERY is answered with STATE. -/
  | query (carrier : Fin 2)
  /-- UNKNOWN_OLIHILD_TYPE (R585): An Olihild message of unknown or device-only TYPE is answered STATE with STATUS 0x14. -/
  | unknownOlihildType (carrier : Fin 2) (typ : Byte)
  /-- ENROL_INITIAL (R587): Ceremony 0x01 holds an initial custodian set. -/
  | enrolInitial
  /-- ENROL (R587): Ceremony 0x02 replaces the custodian set. -/
  | enrol
  /-- ROOT_GENERATE (R588): Ceremony 0x10 draws a domain root and forms a one-member domain. -/
  | rootGenerate
  /-- JOIN (R589): Ceremony 0x11 receives a domain root by transport blob. -/
  | join
  /-- SPONSOR (R589): Ceremony 0x12 admits a joining module and returns its root transport blob. -/
  | sponsor
  /-- ROOT_REPLACE (R590): Ceremony 0x13 draws a new root and carries it by an epoch change. -/
  | rootReplace
  /-- KEY_IMPORT (R592): Ceremony 0x20 combines key components and commits the key. -/
  | keyImport
  /-- TABLE_APPROVE (R593): Ceremony 0x30 signs an operator table and writes its signature and grant blocks. -/
  | tableApprove
  /-- ENTER_SERVICE (R587): Ceremony 0x40 moves the device from CUSTODY to SERVICE. -/
  | enterService
  /-- OPEN_MAINTENANCE (R575): Ceremony 0x41 enters MAINTENANCE with a time limit. -/
  | openMaintenance
  /-- RETURN_CUSTODY (R587): Ceremony 0x42 returns the device from MAINTENANCE to CUSTODY. -/
  | returnCustody
  /-- COMPAT_SET (R595): Ceremony 0x43 switches the compatibility path. -/
  | compatSet
  /-- REPLAY_RERUN (R730): Ceremony 0x44 runs replay units again and compares their outcomes. -/
  | replayRerun
  /-- ZEROIZE_CEREMONY (R587): Ceremony 0x4F drives the ZEROIZE line. -/
  | zeroizeCeremony
  /-- CEREMONY_WINDOW_EXPIRY (R582): The approval window expires and the ceremony ends EXPIRED. -/
  | ceremonyWindowExpiry
  /-- CLOSE_MAINT (R572): CUST_CMD.CLOSE_MAINT returns MAINTENANCE to SERVICE. -/
  | closeMaint
  /-- CANCEL (R603): CUST_CMD.CANCEL cancels a COLLECTING ceremony. -/
  | cancel
  /-- MAINTENANCE_LIMIT_EXPIRY (R575): The maintenance limit expires and the device returns to SERVICE. -/
  | maintenanceLimitExpiry
  /-- MAINT_EXPIRING (R601): Five minutes before the maintenance limit, MAINT_EXPIRING is set. -/
  | maintExpiring
  /-- TAMPER_EVENT (R613): A monitor enters condition; the flags are set, the event is staged and S4 drives the ZEROIZE line. -/
  | tamperEvent (source : Fin 28) (detail : BitVec 16)
  /-- TAMPER_CONDITION_END (R605): A monitor leaves condition, and TAMP_COND falls. -/
  | tamperConditionEnd (source : Fin 28)
  /-- ZEROIZE_N_LOW (R620): ZEROIZE_N stays low for 10 µs, which is an event of source 48. -/
  | zeroizeNLow
  /-- ZEROIZATION_COMPLETE (R407): At 1 ms the volatile state is cleared and DEV_MODE reads ZEROIZED. -/
  | zeroizationComplete
  /-- BATTERY_SAMPLING_WINDOW (R611): Every 1.024 ms on battery a sampling window opens on the battery-watched sources. -/
  | batterySamplingWindow (found : List (Nat × Nat))
  /-- LOG_ROW_BURNT (R626): A tamper-log row burn and read-back ends, and the next record starts burning. -/
  | logRowBurnt (torn : Bool)
  /-- TAMP_STICKY_CLEAR (R623): A write of 1 clears a TAMP_STICKY bit in CUSTODY or MAINTENANCE. -/
  | tampStickyClear (bits : Word)
  /-- FAULT_EVENT (R641): A source reports an event, which is classified and has the reaction of its severity. -/
  | faultEvent (source : Fin 256) (held : Bool) (place : Nat)
  /-- FAULT_WINDOW_END (R638): A source's counting window ends, and SEVERE falls. -/
  | faultWindowEnd (source : Fin 256)
  /-- ESCALATION_TIMER_EXPIRY (R645): An unacknowledged S2 source's timer expires and the source takes S3. -/
  | escalationTimerExpiry (source : Fin 256)
  /-- FAULT_ACK (R644): A write of 1 to FLT_STAT.ACK stops the escalation timer. -/
  | faultAck (source : Fin 256)
  /-- PENDING_CLEAR (R650): A write of 1 to PENDING clears the status when CAUSE is 0, and may leave QUARANTINE. -/
  | pendingClear (source : Fin 256)
  /-- REARM (R648): FLT_CTRL.REARM clears the high-water mark. -/
  | rearm
  /-- FLT_CFG_WRITE (R661): A write of a source's FLT_CFG is performed only in CUSTODY or MAINTENANCE. -/
  | fltCfgWrite (source : Fin 256) (value : Word)
  /-- COLLECTOR_SELF_ERROR (R653): A parity, ECC, logic or timer self-error enters QUARANTINE and runs its repair. -/
  | collectorSelfError (which : Fin 4) (words : List Nat) (counts : List Nat) (hwm : Bool)
  /-- CHAIN_UNHEALTHY (R662): A feed or chain output leaves its range for 50 ns and the chain becomes unhealthy. -/
  | chainUnhealthy (chain : Fin 2) (feedOk : Bool) (mv : Nat)
  /-- CHAIN_HEALTHY (R662): A chain returns to health. -/
  | chainHealthy (chain : Fin 2) (mv : Nat)
  /-- FAILOVER_END (R665): At 2 µs the new chain holds its outputs, or the orderly stop begins. -/
  | failoverEnd
  /-- STANDBY_SELF_TEST (R667): Every 1 ms the standby chain steps its load and checks its outputs. -/
  | standbySelfTest (pass : Bool)
  /-- PLANNED_SWITCH (R668): After the higher-claim chain has been healthy for 100 ms, the rails switch back to it. -/
  | plannedSwitch
  /-- STATE_REQ_WRITE (R671): A write of PWR_CTRL.STATE_REQ asks for SLACK, EBB or FLOOD. -/
  | stateReqWrite (value : BitVec 2)
  /-- EBB_ENTRY (R672): A waiting EBB request is performed or refused once the device is idle. -/
  | ebbEntry
  /-- EBB_WAKE (R674): A wake event in EBB starts the wake toward SLACK. -/
  | ebbWake
  /-- EBB_WAKE_END (R675): The wake from EBB reaches SLACK. -/
  | ebbWakeEnd
  /-- EBB_WAKE_LATE (R675): A wake that has not reached SLACK by 40 µs counts source 11. -/
  | ebbWakeLate
  /-- START_UP (R684): A feed rising through 0.85 V starts the fixed start-up sequence. -/
  | startUp (facts : StartFacts)
  /-- PLL_LOCK_LOSS (R677): A PLL loses lock and its domains are gated until it relocks. -/
  | pllLockLoss (pll : Fin 9)
  /-- PLL_RELOCK (R677): A PLL relocks and its domains run again. -/
  | pllRelock (pll : Fin 9)
  /-- BURN (R683): OTP_CMD.BURN burns staged data into the next generation slot of a group. -/
  | burn
  /-- BURN_END (R683): A settings burn ends and the group's active generation is selected again. -/
  | burnEnd (readBackOk : Bool)
  /-- PERST_N_ASSERT (R773): PERST_N asserts; VF Enable clears and the host side resets. -/
  | perstNAssert
  /-- PERST_N_DEASSERT (R686): PERST_N rises and PCIe link training starts. -/
  | perstNDeassert
  /-- PERST_LONG (R771): PERST_N has been asserted for 1 s; PERST_LONG is set and a PLDM event raised. -/
  | perstLong
  /-- VIO_OUT_OF_RANGE (R761): VIO leaves its range; the IO bank goes high-impedance and the sideband idles. -/
  | vioOutOfRange
  /-- HOST_LINK_CHANGE (R122): The host link trains, changes speed or goes down. -/
  | hostLinkChange (gen : Fin 4) (requested : Bool) (idle : Bool)
  /-- IDE_INTEGRITY_FAILURE (R125): An IDE integrity check fails on host traffic. -/
  | ideIntegrityFailure
  /-- DRBG_RESEED (R700): After 65,536 generate requests a DRBG instance reseeds. -/
  | drbgReseed (drbg : Fin 8)
  /-- RNG_HEALTH_FAIL (R698): A source fails a continuous health test and its failure count grows. -/
  | rngHealthFail (latch : Fin 8) (proportion : Bool)
  /-- BIAS_LOOP_LIMIT (R710): A bias loop reaches the end of its range, and source 62 holds CAUSE. -/
  | biasLoopLimit
  /-- REQ (R709): RNG_HOST_CMD.REQ requests 32 random bytes for the host. -/
  | req
  /-- REQ_TIMEOUT (R709): A host request not served within 1 ms ends NO_DATA. -/
  | reqTimeout
  /-- TEST_PATTERN_WRITE (R706): A write of RNG_CTRL.TEST_PATTERN substitutes the LFSR for the latches in MANUFACTURE. -/
  | testPatternWrite (value : Bool)
  /-- COUNTER_GRANT_WRITE (R716): A write of VFM_CNT_GRANT grants or withdraws VF counters, resetting withdrawn ones. -/
  | counterGrantWrite (vf : Fin 4096) (grant : BitVec 8)
  /-- COUNTER_EVENT_WRITE (R712): A write of CNT_EVT or VCNT_EVT selects the counted event, or is refused. -/
  | counterEventWrite (vf : Option (Fin 4096)) (counter : Fin 64) (value : Word)
  /-- CNT_SOFT_RESET (R714): A soft reset of the CNT page zeroes every PF counter. -/
  | cntSoftReset
  /-- CAPTURE_WRITE (R734): A write of RPL_CFG.CAPTURE allocates or frees a VF's replay ring. -/
  | captureWrite (value : Word)
  /-- EXPORT (R724): RPL_CMD.EXPORT seals replay units into a blob and writes it to the host. -/
  | exportBlob
  /-- EXPORT_END (R728): An EXPORT ends with its code. -/
  | exportEnd (hostOk : Bool)
  /-- RPL_SOFT_RESET (R733): A soft reset of the RPL page ends a running EXPORT with CODE 0x06. -/
  | rplSoftReset
  /-- ACCESS_VIOLATION (R744): An internal access fails the access table; the read returns zero or the write is dropped, and the violation is captured. -/
  | accessViolation (cls : Fin 16) (kind : Fin 3) (addr : Nat)
  /-- REGION_WRITE (R748): A write of an ACC region register takes effect the next SYS cycle or is refused. -/
  | regionWrite (region : Fin 256) (reg : Fin 5) (value : Word)
  /-- ROTATE (R403): KEY_CMD.ROTATE creates new versions of a tenant's matching stored keys. -/
  | rotate
  /-- ROTATION_END (R403): A key rotation ends. -/
  | rotationEnd
  /-- REWRAP_END (R402): The re-wrap ends and the BBRAM bank is rewritten ROOTED. -/
  | rewrapEnd
  /-- SIDEBAND_TRANSACTION (R766): An I3C or SMBus transaction addressed to the device is served. -/
  | sidebandTransaction (smbus : Bool) (assign : Option (BitVec 7)) (data : Bytes)
  /-- SPDM_MESSAGE (R768): An SPDM message over DOE or MCTP is answered. -/
  | spdmMessage (sideband : Bool) (supported : Bool) (data : Bytes)
  /-- PLDM_MESSAGE (R768): A PLDM monitoring and control message is answered, and other PLDM types are declined. -/
  | pldmMessage (monitoring : Bool) (readsEvent : Bool) (data : Bytes)
  /-- ALERT_RESPONSE_ADDRESS_READ (R770): A won ARA read releases ALERT_N. -/
  | alertResponseAddressRead (won : Bool)
  /-- SDA_STUCK_35MS (R772): SDA held low for 35 ms resets the target interface. -/
  | sdaStuck35ms
  /-- SDA_STUCK_70MS (R772): SDA still low at 70 ms disables the sideband. -/
  | sdaStuck70ms
  /-- SCL_STUCK (R771): SCL held low for 35 ms resets the target interface. -/
  | sclStuck
  /-- ALERT_BLOCKED (R771): ALERT_N held low by others for 100 ms sets ALERT_BLOCKED. -/
  | alertBlocked
  /-- ALERT_HIGH (R771): ALERT_N held high for 1 ms while driven sets ALERT_HIGH. -/
  | alertHigh
  /-- SIDE_SOFT_RESET (R777): A soft reset of the SIDE page re-enables a stuck-off sideband. -/
  | sideSoftReset
  /-- SOFT_RESET (R45): A write of 1 to PAGE_CTRL.SOFT_RESET resets the block behind a page, or is refused. -/
  | softReset (page : Nat)
  /-- SOFT_RESET_END (R45): A soft reset completes and RESET_DONE is set. -/
  | softResetEnd (page : Nat)
  /-- LO_REGISTER_READ (R54): A read of a _LO register captures its _HI partner for the initiator class. -/
  | loRegisterRead (cls : Fin 16) (addr : Nat)
  /-- READ_CLEAR (R36): A read of an RC field returns its value and clears it. -/
  | readClear (cls : Fin 16) (addr : Nat)
  /-- SNAP_HOLD_WRITE (R57): A write of SNAP.HOLD 1 captures the progress set for the initiator class. -/
  | snapHoldWrite (cls : Fin 16) (page : Nat) (hold : Bool)
  /-- INTERRUPT_REGISTER_WRITE (R44): A write to INT_RAW or INT_EN that leaves INT_STAT nonzero sends the page's MSI-X message again. -/
  | interruptRegisterWrite (page : Nat) (enable : Bool) (value : Word)
  /-- UNMAPPED_MMIO_ACCESS (R28): A host access to a reserved offset reads zero or is ignored and counts source 210. -/
  | unmappedMmioAccess (addr : Nat) (write : Bool)
  /-- REGISTER_WRITE (R36): A write to a register field with no row of its own is performed by its access type, or lost and counted. -/
  | registerWrite (cls : Fin 16) (addr : Nat) (be : BitVec 4) (value : Word)
  /-- RECOVER_RESEND_TIMER (R498): Every 5 ms a recovering coordinator multicasts RECOVER for the prepared epoch again. -/
  | recoverResendTimer
  /-- OTHER_PORT_RESEND (R480): A message to a member unanswered for 40 µs is resent on the other fabric port. -/
  | otherPortResend (seq : Nat)
  /-- ENGINE_GROUP_GATED (R24): An idle engine group is clock-gated on demand, so that a later job must wait for its wake. -/
  | engineGroupGated (group : Fin 8)
  /-- VF_ENABLE_SET (R526): Setting SR-IOV VF Enable exposes VFs below NumVFs with their BAR0 and MSI-X vectors. -/
  | vfEnableSet (numVfs : Nat)
  /-- MSIX_TABLE_WRITE (R635): Software rewrites a PF or VF MSI-X table entry, which ends the withholding of a vector after a parity error and clears the cause of source 222. -/
  | msixTableWrite (fn : Nat) (vector : Nat) (word : Fin 4) (value : Word)
  /-- REFCLK_CHANGE (R692): HOST_REFCLK is lost, or returns to tolerance, and CLK_REF.REFCLK_OK changes, with source 16 and REFCLK_CHANGED. -/
  | refclkChange (ok : Bool)
  /-- PACKAGE_OSCILLATOR_CHANGE (R692): The package oscillator leaves or re-enters ±100 ppm, and PKG_OSC_OK changes with source 17's cause. -/
  | packageOscillatorChange (ok : Bool)
  /-- VIO_IN_RANGE (R761): VIO returns to its range; the IO bank leaves high impedance, PERST_N follows its pin again and source 7's cause ends. -/
  | vioInRange
  /-- BIAS_LOOP_IN_RANGE (R710): No RNG bias loop is any longer at an end of its range, and source 62's held cause ends. -/
  | biasLoopInRange
  /-- DRBG_RESEED_END (R701): A DRBG instance's 1 µs reseed ends and it serves requests again, which can end a shortage. -/
  | drbgReseedEnd (drbg : Fin 8)
  /-- I3C_SDA_RISE (R772): I3C_SDA rises during stuck-bus recovery, which ends recovery and returns the target to waiting for a START. -/
  | i3cSdaRise
  /-- NO_FRAME_VERIFIED_1MS (R522): A fabric port that is up has verified no frame in the last 1 ms and DOM_PORT falls from SECURED to UP. -/
  | noFrameVerified1ms (port : Fin 2)
deriving DecidableEq, Repr

end Sys2Proof
end

