-- ==== Sys2Proof/Config.lean ====
section
/-! DEFINITION. What the model leaves uninterpreted: values the spec leaves open, random bytes, and the published
algorithms (AES, Triple DES, hashes, signatures, lattice schemes) that the spec names and does not give. Nothing here has
a body: a claim about the device holds for every choice of these functions. -/

namespace Sys2Proof.Config

/-! ## Free values -/

/-- The n-th value that the spec leaves open. -/
opaque freeNat : Nat → Nat

/-- Raw samples of the eight latches, eight to a byte: byte i of the 256 that the n-th conditioner output is formed from
(17_random_numbers.md R695); and the same under the test pattern, whose sequence the spec does not list (R706). -/
opaque latchByte : Nat → Nat → Byte
opaque patternByte : Nat → Nat → Byte

/-- Byte i of a torn row of the tamper log, by row (14_tamper.md R627). -/
opaque tornByte : Nat → Nat → Byte

/-- What an identity of the module says of itself: the SPDM identity digest (13_modes_custody.md R580). -/
opaque identityDigest : Bytes

/-- The MAGIC and VER of a root transport blob, to which the spec gives no value (13_modes_custody.md R589). -/
opaque transportHead : Bytes

/-! ## Published algorithms -/

/-- One Triple DES block operation with the key given (05_cipher_lanes.md). -/
opaque tdesEncBlock : Bytes → Bytes → Bytes
opaque tdesDecBlock : Bytes → Bytes → Bytes
/-- One single-DES block operation with an 8-byte key. -/
opaque desEncBlock : Bytes → Bytes → Bytes
opaque desDecBlock : Bytes → Bytes → Bytes
/-- One AES block operation with the key given. -/
opaque aesEncBlock : Bytes → Bytes → Bytes
opaque aesDecBlock : Bytes → Bytes → Bytes
/-- SHA-256, SHA-384 and SHA3-256 of a message. -/
opaque sha256Raw : Bytes → Bytes
opaque sha384Raw : Bytes → Bytes
opaque sha3Raw : Bytes → Bytes
/-- SHA3-512 of a message, and so many bytes of its SHAKE128 and SHAKE256. -/
opaque sha3LongRaw : Bytes → Bytes
opaque shake128Raw : Nat → Bytes → Bytes
opaque shake256Raw : Nat → Bytes → Bytes
/-- AES-CMAC, Triple DES CMAC and HMAC-SHA-256: key, then message. -/
opaque aesCmacRaw : Bytes → Bytes → Bytes
opaque tdesCmacRaw : Bytes → Bytes → Bytes
opaque hmacRaw : Bytes → Bytes → Bytes
/-- AES-256-GCM: key, nonce, associated data, text. The text and the tag of the sealing. -/
opaque gcmSealRaw : Bytes → Bytes → Bytes → Bytes → Bytes
opaque gcmTagRaw : Bytes → Bytes → Bytes → Bytes → Bytes
opaque gcmOpenRaw : Bytes → Bytes → Bytes → Bytes → Bytes
/-- The tag over a stored table header: key, header; the spec names no algorithm for it (04_tide_tables.md R159). -/
opaque tableTagRaw : Bytes → Bytes → Bytes
/-- A superblock copy up to its MAC, to whose fields the spec gives no places: STORE_ID; segments of both pairs, pair, port, checkpoint
TAIL and TREE_VER, the number of the copy, and the expel mark (10_record_store.md R417; log entry 158). -/
opaque superblockRaw : Bytes → List Nat → Bytes
/-- The hash that picks an identity's index bucket, which the spec does not name (10_record_store.md R434). -/
opaque indexHash : Bytes → Nat

/-- The digest in a hash core after the blocks it absorbed: kind 1 SHA-256, 2 SHA-512, 3 SHA-384, 4 SHA3-256
(05_cipher_lanes.md R178). -/
opaque coreDigestRaw : Nat → List Bytes → Bytes
/-- DUKPT working keys (ASC X9.24-3): base key, key serial number, code and use. -/
opaque dukptRaw : Bytes → Bytes → Nat → Nat → Bytes
/-- EMV card and session key: issuer master key, PAN operand, PSN, ATC, key code. -/
opaque emvSessionRaw : Bytes → Bytes → Bytes → Bytes → Nat → Bytes
/-- EMV ARPC, methods 1 and 2: method, algorithm, session key, ARQC, ARC or CSU. -/
opaque arpcRaw : Nat → Nat → Bytes → Bytes → Bytes → Bytes
/-- Digit i of a card verification value: CVK pair, PAN digits, expiry, service code. -/
opaque cvvDigit : Bytes → List Nat → Bytes → Bytes → Nat → Nat
/-- Digit i of a PVV: key, transformed security parameter. -/
opaque pvvDigit : Bytes → List Nat → Nat → Nat
/-- Fill digit i that a random block gives a format 3 PIN field: 0 to 5 stand for A to F. -/
opaque fillDigit : Bytes → Nat → Nat
/-- Digit i that a random block gives a token. -/
opaque tokenDigit : Bytes → Nat → Nat
/-- Characters of an exported block's header that the spec does not name: its mode of use, and its usage, by usage code. -/
opaque blockMode : Nat → Byte
opaque blockUsageChar : Nat → Nat → Byte
/-- X9.143 key blocks: what follows the header of the block of a KBPK (its ALG, its key), a header and a key; whether a block's
MAC verifies; the key that a block carries. -/
opaque keyBlockRaw : Nat → Bytes → Bytes → Bytes → Bytes
opaque keyBlockMac : Bytes → Bytes → Bool
opaque keyBlockKey : Bytes → Bytes → Bytes

/-- Verification of a signature: scheme, public key, message, signature. -/
opaque verify : Nat → Bytes → Bytes → Bytes → Bool
/-- A signature: scheme, private key, message, randomness, output length. -/
opaque signRaw : Nat → Bytes → Bytes → Bytes → Bytes
/-- The public key of a private key: scheme, private key. -/
opaque publicRaw : Nat → Bytes → Bytes
/-- The bytes of the i-th candidate of a prime search that a seed gives (07_bignum_engines.md R294). -/
opaque primeBytes : Bytes → Nat → Bytes
/-- A generated private key: scheme, randomness. -/
opaque privateRaw : Nat → Bytes → Bytes
/-- RSA-OAEP with a hash code: what a private key decodes of a ciphertext, none where it fails. -/
opaque oaepDecode : Nat → Bytes → Bytes → Option Bytes

/-- Replies that published standards form: SPDM, PLDM for platform monitoring and control, and the decline of an option that
the device does not support. The first number is a fresh free index; PLDM is given Tj and the two feeds in mV; the
reading of device power is free with the rest. -/
opaque spdmReply : Nat → Bytes → Bytes
opaque pldmReply : Nat → Bytes → Nat → Nat → Nat → Bytes
opaque declineReply : Bytes → Bytes

/-! ## Wrapped to their lengths -/

/-- A torn log row as it reads. -/
def tornRow (n : Nat) : Bytes := (List.range 32).map (tornByte n)

def tdesEnc (k b : Bytes) : Bytes := padTo 8 (tdesEncBlock k b)
def tdesDec (k b : Bytes) : Bytes := padTo 8 (tdesDecBlock k b)
def desEnc (k b : Bytes) : Bytes := padTo 8 (desEncBlock k b)
def desDec (k b : Bytes) : Bytes := padTo 8 (desDecBlock k b)
def aesEnc (k b : Bytes) : Bytes := padTo 16 (aesEncBlock k b)
def aesDec (k b : Bytes) : Bytes := padTo 16 (aesDecBlock k b)
def sha256 (m : Bytes) : Bytes := padTo 32 (sha256Raw m)
def sha384 (m : Bytes) : Bytes := padTo 48 (sha384Raw m)
def sha3 (m : Bytes) : Bytes := padTo 32 (sha3Raw m)
def sha3Long (m : Bytes) : Bytes := padTo 64 (sha3LongRaw m)
def shake128 (n : Nat) (m : Bytes) : Bytes := padTo n (shake128Raw n m)
def shake256 (n : Nat) (m : Bytes) : Bytes := padTo n (shake256Raw n m)
def aesCmac (k m : Bytes) : Bytes := padTo 16 (aesCmacRaw k m)
def tdesCmac (k m : Bytes) : Bytes := padTo 8 (tdesCmacRaw k m)
def hmac (k m : Bytes) : Bytes := padTo 32 (hmacRaw k m)
def gcmSeal (k n a t : Bytes) : Bytes := padTo t.length (gcmSealRaw k n a t)
def gcmTag (k n a t : Bytes) : Bytes := padTo 16 (gcmTagRaw k n a t)
def gcmOpen (k n a c : Bytes) : Bytes := padTo c.length (gcmOpenRaw k n a c)
def tableTag (k h : Bytes) : Bytes := padTo 8 (tableTagRaw k h)
def coreDigest (kind : Nat) (blocks : List Bytes) : Bytes := padTo 32 (coreDigestRaw kind blocks)
def sign (n scheme : Nat) (k m r : Bytes) : Bytes := padTo n (signRaw scheme k m r)
def publicKey (n scheme : Nat) (k : Bytes) : Bytes := padTo n (publicRaw scheme k)
def privateKey (n scheme : Nat) (r : Bytes) : Bytes := padTo n (privateRaw scheme r)

end Sys2Proof.Config
end

