-- ==== Sys2Proof/Machine/RegTable.lean ====
section
/-! DEFINITION. The register table: for every page its registers, and for every field its bits, access type and reset
value, as the register tables of the chapters give them. -/

namespace Sys2Proof.Machine

/-- The access types of R36. A field of type `live` is an RO field that hardware drives from the block's state; it is
never stored in the register file. -/
inductive Acc where
  | rw | ro | rwh | w1c | w1s | cnt | rc | live
deriving DecidableEq, Repr

/-- Where a field's reset value comes from: a number of its table, the listed severity of the source the register
belongs to (R660), or the share of the pool the register belongs to (R534). -/
inductive ResetVal where
  | val (n : Nat) | listed | pool
deriving DecidableEq, Repr

/-- A field of a register: bits hi..lo. -/
structure Field where
  hi : Nat
  lo : Nat
  acc : Acc
  reset : ResetVal
deriving DecidableEq, Repr

/-- A row of a register table: count registers, the first at offset off, the next ones stride apart. -/
structure RegRow where
  off : Nat
  count : Nat
  stride : Nat
  fields : List Field
deriving DecidableEq, Repr

/-- The kinds of page of R62 and R64. -/
inductive Page where
  | dev | pwr | clk | otp | flt | tamp | rng | key | jnl | dom | sched | acc | cnt | rpl | cust | side | mbx
  | lc | bn | vfm | vf | mb | vcnt
deriving DecidableEq, Repr

/-! ## Offsets of the registers in their pages -/

namespace Off

/-- PAGE_ID, R42. -/
abbrev pageId : Nat := 0x0
/-- PAGE_VER, R42. -/
abbrev pageVer : Nat := 0x4
/-- PAGE_CTRL, R43. -/
abbrev pageCtrl : Nat := 0x8
/-- PAGE_STAT, R43. -/
abbrev pageStat : Nat := 0xC
/-- INT_RAW, R43. -/
abbrev intRaw : Nat := 0x10
/-- INT_EN, R43. -/
abbrev intEn : Nat := 0x14
/-- INT_STAT, R43. -/
abbrev intStat : Nat := 0x18
/-- FAULT_BASE, R44. -/
abbrev faultBase : Nat := 0x1C
/-- PROG_POS_LO, R58. -/
abbrev progPosLo : Nat := 0x20
/-- PROG_POS_HI, R58. -/
abbrev progPosHi : Nat := 0x24
/-- PROG_TOTAL_LO, R58. -/
abbrev progTotalLo : Nat := 0x28
/-- PROG_TOTAL_HI, R58. -/
abbrev progTotalHi : Nat := 0x2C
/-- PROG_PCT, R58. -/
abbrev progPct : Nat := 0x30
/-- PROG_OP, R58. -/
abbrev progOp : Nat := 0x34
/-- SNAP, R56. -/
abbrev snap : Nat := 0x38
/-- DEV_MODE, R121. -/
abbrev devMode : Nat := 0x40
/-- DEV_WARM, R121. -/
abbrev devWarm : Nat := 0x44
/-- DEV_ADMIT, R121. -/
abbrev devAdmit : Nat := 0x48
/-- DEV_CORE_STAT, R121. -/
abbrev devCoreStat : Nat := 0x4C
/-- FAM_PARAM_0, R4. -/
abbrev famParam0 : Nat := 0x100
/-- FAM_PARAM_1, R4. -/
abbrev famParam1 : Nat := 0x104
/-- FAM_PARAM_2, R4. -/
abbrev famParam2 : Nat := 0x108
/-- FAM_PARAM_3, R4. -/
abbrev famParam3 : Nat := 0x10C
/-- PWR_CTRL, R689. -/
abbrev pwrCtrl : Nat := 0x40
/-- PWR_STAT, R689. -/
abbrev pwrStat : Nat := 0x44
/-- FEED_HEALTH, R689. -/
abbrev feedHealth : Nat := 0x48
/-- FEED_MV, R689. -/
abbrev feedMv : Nat := 0x4C
/-- PWR_BOOT, R689. -/
abbrev pwrBoot : Nat := 0x50
/-- FAILOVER_CNT, R689. -/
abbrev failoverCnt : Nat := 0x54
/-- CLK_PLL, R691. -/
abbrev clkPll : Nat := 0x40
/-- CLK_REF, R691. -/
abbrev clkRef : Nat := 0x44
/-- OTP_SEL, R693. -/
abbrev otpSel : Nat := 0x40
/-- OTP_GSTAT, R693. -/
abbrev otpGstat : Nat := 0x44
/-- OTP_DATA, R693. -/
abbrev otpData : Nat := 0x60
/-- OTP_CMD, R693. -/
abbrev otpCmd : Nat := 0x98
/-- OTP_RESULT, R693. -/
abbrev otpResult : Nat := 0x9C
/-- OTP_BURN, R693. -/
abbrev otpBurn : Nat := 0x100
/-- FLT_CTRL, R659. -/
abbrev fltCtrl : Nat := 0x40
/-- FLT_SUMMARY, R659. -/
abbrev fltSummary : Nat := 0x44
/-- FLT_HWM, R659. -/
abbrev fltHwm : Nat := 0x48
/-- FLT_HWM_TIME_LO, R659. -/
abbrev fltHwmTimeLo : Nat := 0x4C
/-- FLT_HWM_TIME_HI, R659. -/
abbrev fltHwmTimeHi : Nat := 0x50
/-- FLT_HWM_ALSO, R659. -/
abbrev fltHwmAlso : Nat := 0x60
/-- FLT_PEND, R659. -/
abbrev fltPend : Nat := 0x80
/-- FLT_CFG, R660. -/
abbrev fltCfg : Nat := 0x400
/-- FLT_STAT, R660. -/
abbrev fltStat : Nat := 0x400
/-- FLT_CNT, R660. -/
abbrev fltCnt : Nat := 0x400
/-- TAMP_COND, R632. -/
abbrev tampCond : Nat := 0x40
/-- TAMP_STICKY, R632. -/
abbrev tampSticky : Nat := 0x44
/-- TAMP_ZCAUSE, R632. -/
abbrev tampZcause : Nat := 0x48
/-- TAMP_LOG, R632. -/
abbrev tampLog : Nat := 0x4C
/-- TAMP_TICK_LO, R632. -/
abbrev tampTickLo : Nat := 0x50
/-- TAMP_TICK_HI, R632. -/
abbrev tampTickHi : Nat := 0x54
/-- TAMP_TEMP, R632. -/
abbrev tampTemp : Nat := 0x58
/-- TAMP_PEND_SEL, R632. -/
abbrev tampPendSel : Nat := 0x5C
/-- TAMP_PEND_CNT, R632. -/
abbrev tampPendCnt : Nat := 0x60
/-- TAMP_PEND_FIRST_LO, R632. -/
abbrev tampPendFirstLo : Nat := 0x64
/-- TAMP_PEND_FIRST_HI, R632. -/
abbrev tampPendFirstHi : Nat := 0x68
/-- TAMP_PEND_LAST_LO, R632. -/
abbrev tampPendLastLo : Nat := 0x6C
/-- TAMP_PEND_LAST_HI, R632. -/
abbrev tampPendLastHi : Nat := 0x70
/-- TAMP_ROW_SEL, R632. -/
abbrev tampRowSel : Nat := 0x74
/-- TAMP_ROW, R632. -/
abbrev tampRow : Nat := 0x80
/-- RNG_CTRL, R708. -/
abbrev rngCtrl : Nat := 0x40
/-- RNG_HOST_CMD, R708. -/
abbrev rngHostCmd : Nat := 0x44
/-- RNG_HOST_STAT, R708. -/
abbrev rngHostStat : Nat := 0x48
/-- RNG_HOST_DATA, R708. -/
abbrev rngHostData : Nat := 0x60
/-- RNG_RCT_FAIL, R708. -/
abbrev rngRctFail : Nat := 0x80
/-- RNG_APT_FAIL, R708. -/
abbrev rngAptFail : Nat := 0xA0
/-- KEY_CTRL, R410. -/
abbrev keyCtrl : Nat := 0x40
/-- KEY_CMD, R410. -/
abbrev keyCmd : Nat := 0x44
/-- KEY_ROT_TENANT, R410. -/
abbrev keyRotTenant : Nat := 0x48
/-- KEY_ROT_USAGE, R410. -/
abbrev keyRotUsage : Nat := 0x4C
/-- KEY_ROT_RESULT, R410. -/
abbrev keyRotResult : Nat := 0x50
/-- KEY_ROOT_EPOCH, R410. -/
abbrev keyRootEpoch : Nat := 0x54
/-- KEY_SLOT_STAT, R410. -/
abbrev keySlotStat : Nat := 0x58
/-- JNL_CTRL, R463. -/
abbrev jnlCtrl : Nat := 0x40
/-- JNL_CMD, R463. -/
abbrev jnlCmd : Nat := 0x44
/-- JNL_ARG, R463. -/
abbrev jnlArg : Nat := 0x48
/-- JNL_RESULT, R463. -/
abbrev jnlResult : Nat := 0x4C
/-- JNL_PORT_STAT, R463. -/
abbrev jnlPortStat : Nat := 0x50
/-- JNL_SEG_TOTAL, R463. -/
abbrev jnlSegTotal : Nat := 0x54
/-- JNL_SEG_FREE, R463. -/
abbrev jnlSegFree : Nat := 0x58
/-- JNL_LIVE_LO, R463. -/
abbrev jnlLiveLo : Nat := 0x5C
/-- JNL_LIVE_HI, R463. -/
abbrev jnlLiveHi : Nat := 0x60
/-- JNL_TREE_VER_LO, R463. -/
abbrev jnlTreeVerLo : Nat := 0x64
/-- JNL_TREE_VER_HI, R463. -/
abbrev jnlTreeVerHi : Nat := 0x68
/-- DOM_CFG, R522. -/
abbrev domCfg : Nat := 0x40
/-- DOM_CMD, R522. -/
abbrev domCmd : Nat := 0x44
/-- DOM_STAT, R522. -/
abbrev domStat : Nat := 0x48
/-- DOM_EPOCH, R522. -/
abbrev domEpoch : Nat := 0x4C
/-- DOM_PEND, R522. -/
abbrev domPend : Nat := 0x50
/-- DOM_VIEW, R522. -/
abbrev domView : Nat := 0x54
/-- DOM_UNREACH, R522. -/
abbrev domUnreach : Nat := 0x58
/-- DOM_PORT, R522. -/
abbrev domPort : Nat := 0x5C
/-- DOM_PREFIX_LO, R522. -/
abbrev domPrefixLo : Nat := 0x60
/-- DOM_PREFIX_HI, R522. -/
abbrev domPrefixHi : Nat := 0x64
/-- DOM_UDP, R522. -/
abbrev domUdp : Nat := 0x68
/-- DOM_MIG_CMD, R522. -/
abbrev domMigCmd : Nat := 0x80
/-- DOM_MIG_ARG, R522. -/
abbrev domMigArg : Nat := 0x84
/-- DOM_MIG_RESULT, R522. -/
abbrev domMigResult : Nat := 0x88
/-- DOM_BLOB_MAP, R522. -/
abbrev domBlobMap : Nat := 0x8C
/-- DOM_STUBS, R522. -/
abbrev domStubs : Nat := 0x90
/-- SCHED_CTRL, R369. -/
abbrev schedCtrl : Nat := 0x40
/-- SCHED_TIMER, R369. -/
abbrev schedTimer : Nat := 0x44
/-- TBL_CMD, R167. -/
abbrev tblCmd : Nat := 0x100
/-- TBL_SRC, R167. -/
abbrev tblSrc : Nat := 0x104
/-- TBL_SEL, R167. -/
abbrev tblSel : Nat := 0x108
/-- TBL_SEL_VER, R167. -/
abbrev tblSelVer : Nat := 0x10C
/-- TBL_RESULT, R167. -/
abbrev tblResult : Nat := 0x110
/-- TBL_OCC, R167. -/
abbrev tblOcc : Nat := 0x114
/-- REG_BASE, R747. -/
abbrev regBase : Nat := 0x800
/-- REG_LIMIT, R747. -/
abbrev regLimit : Nat := 0x804
/-- REG_PERM_0, R747. -/
abbrev regPerm0 : Nat := 0x808
/-- REG_PERM_1, R747. -/
abbrev regPerm1 : Nat := 0x80C
/-- REG_ATTR, R747. -/
abbrev regAttr : Nat := 0x810
/-- ACC_VIOL_INFO, R748. -/
abbrev accViolInfo : Nat := 0x40
/-- ACC_VIOL_ADDR_LO, R748. -/
abbrev accViolAddrLo : Nat := 0x44
/-- ACC_VIOL_ADDR_HI, R748. -/
abbrev accViolAddrHi : Nat := 0x48
/-- CNT_OVF_LO, R714. -/
abbrev cntOvfLo : Nat := 0x40
/-- CNT_OVF_HI, R714. -/
abbrev cntOvfHi : Nat := 0x44
/-- CNT_EVT, R714. -/
abbrev cntEvt : Nat := 0x100
/-- CNT_VAL, R714. -/
abbrev cntVal : Nat := 0x200
/-- RPL_SEL, R733. -/
abbrev rplSel : Nat := 0x40
/-- RPL_CFG, R733. -/
abbrev rplCfg : Nat := 0x44
/-- RPL_FIRST, R733. -/
abbrev rplFirst : Nat := 0x48
/-- RPL_NEXT, R733. -/
abbrev rplNext : Nat := 0x4C
/-- RPL_LOST, R733. -/
abbrev rplLost : Nat := 0x50
/-- RPL_USED, R733. -/
abbrev rplUsed : Nat := 0x54
/-- RPL_ADDR_LO, R733. -/
abbrev rplAddrLo : Nat := 0x58
/-- RPL_ADDR_HI, R733. -/
abbrev rplAddrHi : Nat := 0x5C
/-- RPL_CAP, R733. -/
abbrev rplCap : Nat := 0x60
/-- RPL_EXP_FIRST, R733. -/
abbrev rplExpFirst : Nat := 0x64
/-- RPL_EXP_COUNT, R733. -/
abbrev rplExpCount : Nat := 0x68
/-- RPL_CMD, R733. -/
abbrev rplCmd : Nat := 0x6C
/-- RPL_RESULT, R733. -/
abbrev rplResult : Nat := 0x70
/-- RPL_EXP_LEN, R733. -/
abbrev rplExpLen : Nat := 0x74
/-- CUST_CTRL, R602. -/
abbrev custCtrl : Nat := 0x40
/-- CUST_CMD, R602. -/
abbrev custCmd : Nat := 0x44
/-- CUST_STAT, R602. -/
abbrev custStat : Nat := 0x48
/-- CUST_TALLY, R602. -/
abbrev custTally : Nat := 0x4C
/-- CUST_ID, R602. -/
abbrev custId : Nat := 0x50
/-- CUST_TIME, R602. -/
abbrev custTime : Nat := 0x54
/-- CUST_LAST, R602. -/
abbrev custLast : Nat := 0x58
/-- CUST_CSET, R602. -/
abbrev custCset : Nat := 0x60
/-- SIDE_CTRL, R778. -/
abbrev sideCtrl : Nat := 0x40
/-- SIDE_STAT, R778. -/
abbrev sideStat : Nat := 0x44
/-- MBX_CMD, R567. -/
abbrev mbxCmd : Nat := 0x40
/-- MBX_RESULT, R567. -/
abbrev mbxResult : Nat := 0x44
/-- POOL_SHARE, R567. -/
abbrev poolShare : Nat := 0x100
/-- POOL_SLOTS, R567. -/
abbrev poolSlots : Nat := 0x104
/-- MBX_OUT, R567. -/
abbrev mbxOut : Nat := 0x400
/-- MBX_IN, R567. -/
abbrev mbxIn : Nat := 0xA00
/-- LC_CTRL, R215. -/
abbrev lcCtrl : Nat := 0x40
/-- LC_STAT, R215. -/
abbrev lcStat : Nat := 0x44
/-- LC_FAIL_0, R215. -/
abbrev lcFail0 : Nat := 0x48
/-- LC_FAIL_1, R215. -/
abbrev lcFail1 : Nat := 0x4C
/-- LC_MISMATCH, R215. -/
abbrev lcMismatch : Nat := 0x50
/-- BN_CTRL, R326. -/
abbrev bnCtrl : Nat := 0x40
/-- BN_STAT, R326. -/
abbrev bnStat : Nat := 0x44
/-- BN_FAIL, R326. -/
abbrev bnFail : Nat := 0x48
/-- BN_MISMATCH, R326. -/
abbrev bnMismatch : Nat := 0x4C
/-- CURVE_CMD, R332. -/
abbrev curveCmd : Nat := 0x100
/-- CURVE_SRC, R332. -/
abbrev curveSrc : Nat := 0x104
/-- CURVE_RESULT, R332. -/
abbrev curveResult : Nat := 0x108
/-- CURVE_MAP_LO, R332. -/
abbrev curveMapLo : Nat := 0x110
/-- CURVE_MAP_HI, R332. -/
abbrev curveMapHi : Nat := 0x114
/-- VFM_CMD, R564. -/
abbrev vfmCmd : Nat := 0x40
/-- VFM_RESULT, R564. -/
abbrev vfmResult : Nat := 0x44
/-- VFM_TENANT, R564. -/
abbrev vfmTenant : Nat := 0x48
/-- VFM_MIN_SHARE, R564. -/
abbrev vfmMinShare : Nat := 0x4C
/-- VFM_MIN_SLOTS, R564. -/
abbrev vfmMinSlots : Nat := 0x50
/-- VFM_CEIL, R564. -/
abbrev vfmCeil : Nat := 0x54
/-- VFM_QUOTA_SLOTS, R564. -/
abbrev vfmQuotaSlots : Nat := 0x58
/-- VFM_QUOTA_STORE, R564. -/
abbrev vfmQuotaStore : Nat := 0x5C
/-- VFM_QUOTA_MISC, R564. -/
abbrev vfmQuotaMisc : Nat := 0x60
/-- VFM_USE_SLOTS, R564. -/
abbrev vfmUseSlots : Nat := 0x64
/-- VFM_USE_STORE_LO, R564. -/
abbrev vfmUseStoreLo : Nat := 0x68
/-- VFM_USE_STORE_HI, R564. -/
abbrev vfmUseStoreHi : Nat := 0x6C
/-- VFM_STAT, R564. -/
abbrev vfmStat : Nat := 0x70
/-- VFM_CNT_GRANT, R564. -/
abbrev vfmCntGrant : Nat := 0x74
/-- VFM_MB_CTRL, R564. -/
abbrev vfmMbCtrl : Nat := 0x78
/-- VFM_T2M, R564. -/
abbrev vfmT2m : Nat := 0x100
/-- VFM_M2T, R564. -/
abbrev vfmM2t : Nat := 0x200
/-- VF_CTRL, R560. -/
abbrev vfCtrl : Nat := 0x40
/-- VF_INFO, R560. -/
abbrev vfInfo : Nat := 0x44
/-- VF_TENANT, R560. -/
abbrev vfTenant : Nat := 0x48
/-- QP_SQ_LO, R560. -/
abbrev qpSqLo : Nat := 0x800
/-- QP_SQ_HI, R560. -/
abbrev qpSqHi : Nat := 0x804
/-- QP_CQ_LO, R560. -/
abbrev qpCqLo : Nat := 0x808
/-- QP_CQ_HI, R560. -/
abbrev qpCqHi : Nat := 0x80C
/-- QP_CFG, R560. -/
abbrev qpCfg : Nat := 0x810
/-- QP_STAT, R560. -/
abbrev qpStat : Nat := 0x814
/-- MB_CTRL, R563. -/
abbrev mbCtrl : Nat := 0x40
/-- MB_STAT, R563. -/
abbrev mbStat : Nat := 0x44
/-- MB_T2M, R563. -/
abbrev mbT2m : Nat := 0x100
/-- MB_M2T, R563. -/
abbrev mbM2t : Nat := 0x200
/-- VCNT_EVT, R718. -/
abbrev vcntEvt : Nat := 0x40
/-- VCNT_VAL, R718. -/
abbrev vcntVal : Nat := 0x60
/-- VCNT_OVF, R718. -/
abbrev vcntOvf : Nat := 0x80
/-- VCNT_GRANT, R718. -/
abbrev vcntGrant : Nat := 0x84

end Off

/-- Registers of the common header (02_register_convention.md R42), PAGE_CTRL apart. -/
def headerRows : List RegRow := [
  -- PAGE_ID
  ⟨0x0, 1, 4, [⟨31, 16, .live, .val 0x0⟩, ⟨15, 0, .live, .val 0x0⟩]⟩,
  -- PAGE_VER
  ⟨0x4, 1, 4, [⟨31, 24, .ro, .val 0x1⟩, ⟨23, 16, .ro, .val 0x0⟩]⟩,
  -- PAGE_STAT
  ⟨0xC, 1, 4, [⟨31, 24, .live, .val 0x0⟩, ⟨23, 16, .cnt, .val 0x0⟩, ⟨1, 1, .live, .val 0x0⟩, ⟨0, 0, .live, .val 0x0⟩]⟩,
  -- INT_RAW
  ⟨0x10, 1, 4, [⟨31, 0, .w1c, .val 0x0⟩]⟩,
  -- INT_EN
  ⟨0x14, 1, 4, [⟨31, 0, .rw, .val 0x0⟩]⟩,
  -- INT_STAT
  ⟨0x18, 1, 4, [⟨31, 0, .live, .val 0x0⟩]⟩,
  -- FAULT_BASE
  ⟨0x1C, 1, 4, [⟨15, 8, .live, .val 0x0⟩, ⟨7, 0, .live, .val 0x0⟩]⟩,
  -- PROG_POS_LO
  ⟨0x20, 1, 4, [⟨31, 0, .ro, .val 0x0⟩]⟩,
  -- PROG_POS_HI
  ⟨0x24, 1, 4, [⟨31, 0, .ro, .val 0x0⟩]⟩,
  -- PROG_TOTAL_LO
  ⟨0x28, 1, 4, [⟨31, 0, .ro, .val 0x0⟩]⟩,
  -- PROG_TOTAL_HI
  ⟨0x2C, 1, 4, [⟨31, 0, .ro, .val 0x0⟩]⟩,
  -- PROG_PCT
  ⟨0x30, 1, 4, [⟨31, 31, .live, .val 0x0⟩, ⟨15, 0, .live, .val 0x0⟩]⟩,
  -- PROG_OP
  ⟨0x34, 1, 4, [⟨31, 24, .ro, .val 0x0⟩, ⟨17, 16, .ro, .val 0x0⟩, ⟨15, 0, .ro, .val 0x0⟩]⟩,
  -- SNAP
  ⟨0x38, 1, 4, [⟨0, 0, .rw, .val 0x0⟩]⟩]

/-- Registers of the dev page. -/
def devRows : List RegRow := [
  -- DEV_MODE
  ⟨0x40, 1, 4, [⟨2, 0, .live, .val 0x0⟩]⟩,
  -- DEV_WARM
  ⟨0x44, 1, 4, [⟨23, 16, .rw, .val 0xA⟩, ⟨15, 8, .rw, .val 0x10⟩, ⟨4, 0, .rw, .val 0x2⟩]⟩,
  -- DEV_ADMIT
  ⟨0x48, 1, 4, [⟨31, 24, .ro, .val 0x5⟩, ⟨15, 0, .rw, .val 0x32⟩]⟩,
  -- DEV_CORE_STAT
  ⟨0x4C, 1, 4, [⟨3, 0, .ro, .val 0x0⟩]⟩,
  -- FAM_PARAM_0
  ⟨0x100, 1, 4, [⟨31, 24, .ro, .val 0x8⟩, ⟨23, 16, .ro, .val 0x10⟩, ⟨15, 8, .ro, .val 0x8⟩, ⟨7, 0, .ro, .val 0x20⟩]⟩,
  -- FAM_PARAM_1
  ⟨0x104, 1, 4, [⟨31, 16, .ro, .val 0x1000⟩, ⟨15, 8, .ro, .val 0x40⟩, ⟨7, 0, .ro, .val 0x41⟩]⟩,
  -- FAM_PARAM_2
  ⟨0x108, 1, 4, [⟨31, 16, .ro, .val 0x400⟩, ⟨15, 8, .ro, .val 0x18⟩, ⟨7, 4, .ro, .val 0x4⟩, ⟨3, 0, .ro, .val 0x2⟩]⟩,
  -- FAM_PARAM_3
  ⟨0x10C, 1, 4, [⟨31, 24, .ro, .val 0x80⟩, ⟨23, 16, .ro, .val 0xB0⟩, ⟨15, 8, .ro, .val 0x40⟩, ⟨0, 0, .live, .val 0x0⟩]⟩]

/-- Registers of the pwr page. -/
def pwrRows : List RegRow := [
  -- PWR_CTRL
  ⟨0x40, 1, 4, [⟨8, 8, .rw, .val 0x1⟩, ⟨1, 0, .rw, .val 0x0⟩]⟩,
  -- PWR_STAT
  ⟨0x44, 1, 4, [⟨31, 28, .live, .val 0x0⟩, ⟨27, 24, .live, .val 0x0⟩, ⟨17, 16, .live, .val 0x0⟩, ⟨10, 9, .ro, .val 0x0⟩, ⟨8, 8, .w1c, .val 0x0⟩]⟩,
  -- FEED_HEALTH
  ⟨0x48, 1, 4, [⟨12, 8, .live, .val 0x0⟩, ⟨4, 0, .live, .val 0x0⟩]⟩,
  -- FEED_MV
  ⟨0x4C, 1, 4, [⟨31, 16, .live, .val 0x0⟩, ⟨15, 0, .live, .val 0x0⟩]⟩,
  -- PWR_BOOT
  ⟨0x50, 1, 4, [⟨7, 0, .ro, .val 0x1⟩]⟩,
  -- FAILOVER_CNT
  ⟨0x54, 1, 4, [⟨31, 0, .cnt, .val 0x0⟩]⟩]

/-- Registers of the clk page. -/
def clkRows : List RegRow := [
  -- CLK_PLL
  ⟨0x40, 1, 4, [⟨8, 0, .live, .val 0x0⟩]⟩,
  -- CLK_REF
  ⟨0x44, 1, 4, [⟨1, 1, .live, .val 0x0⟩, ⟨0, 0, .live, .val 0x0⟩]⟩]

/-- Registers of the otp page. -/
def otpRows : List RegRow := [
  -- OTP_SEL
  ⟨0x40, 1, 4, [⟨4, 0, .rw, .val 0x0⟩]⟩,
  -- OTP_GSTAT
  ⟨0x44, 1, 4, [⟨11, 8, .live, .val 0x0⟩, ⟨7, 4, .live, .val 0x0⟩, ⟨3, 3, .live, .val 0x0⟩, ⟨2, 0, .live, .val 0x0⟩]⟩,
  -- OTP_DATA
  ⟨0x60, 14, 4, [⟨31, 0, .live, .val 0x0⟩]⟩,
  -- OTP_CMD
  ⟨0x98, 1, 4, [⟨1, 1, .w1c, .val 0x0⟩, ⟨0, 0, .w1s, .val 0x0⟩]⟩,
  -- OTP_RESULT
  ⟨0x9C, 1, 4, [⟨31, 24, .ro, .val 0x0⟩, ⟨23, 16, .ro, .val 0x0⟩, ⟨1, 0, .ro, .val 0x0⟩]⟩,
  -- OTP_BURN
  ⟨0x100, 14, 4, [⟨31, 0, .rw, .val 0x0⟩]⟩]

/-- Registers of the flt0 page. -/
def flt0Rows : List RegRow := [
  -- FLT_CTRL
  ⟨0x40, 1, 4, [⟨31, 16, .rw, .val 0x3E8⟩, ⟨2, 2, .w1c, .val 0x0⟩, ⟨1, 1, .w1s, .val 0x0⟩]⟩,
  -- FLT_SUMMARY
  ⟨0x44, 1, 4, [⟨24, 16, .live, .val 0x0⟩, ⟨10, 8, .live, .val 0x0⟩, ⟨0, 0, .live, .val 0x0⟩]⟩,
  -- FLT_HWM
  ⟨0x48, 1, 4, [⟨31, 31, .ro, .val 0x0⟩, ⟨26, 24, .ro, .val 0x0⟩, ⟨18, 16, .ro, .val 0x0⟩, ⟨15, 8, .ro, .val 0x0⟩, ⟨7, 0, .ro, .val 0x0⟩]⟩,
  -- FLT_HWM_TIME_LO
  ⟨0x4C, 1, 4, [⟨31, 0, .ro, .val 0x0⟩]⟩,
  -- FLT_HWM_TIME_HI
  ⟨0x50, 1, 4, [⟨31, 0, .ro, .val 0x0⟩]⟩,
  -- FLT_HWM_ALSO
  ⟨0x60, 8, 4, [⟨31, 0, .ro, .val 0x0⟩]⟩,
  -- FLT_PEND
  ⟨0x80, 8, 4, [⟨31, 0, .live, .val 0x0⟩]⟩]

/-- Registers of the flt1 page. -/
def flt1Rows : List RegRow := [
  -- FLT_CFG
  ⟨0x400, 256, 4, [⟨26, 24, .rw, .listed⟩, ⟨22, 20, .rw, .listed⟩, ⟨18, 16, .rw, .listed⟩, ⟨15, 8, .rw, .val 0x10⟩, ⟨3, 0, .rw, .val 0xA⟩]⟩]

/-- Registers of the flt2 page. -/
def flt2Rows : List RegRow := [
  -- FLT_STAT
  ⟨0x400, 256, 4, [⟨31, 31, .live, .val 0x0⟩, ⟨30, 30, .live, .val 0x0⟩, ⟨29, 29, .live, .val 0x0⟩, ⟨28, 28, .live, .val 0x0⟩, ⟨27, 27, .live, .val 0x0⟩, ⟨26, 24, .live, .val 0x0⟩, ⟨7, 0, .live, .val 0x0⟩]⟩]

/-- Registers of the flt3 page. -/
def flt3Rows : List RegRow := [
  -- FLT_CNT
  ⟨0x400, 256, 4, [⟨31, 0, .cnt, .val 0x0⟩]⟩]

/-- Registers of the tamp page. -/
def tampRows : List RegRow := [
  -- TAMP_COND
  ⟨0x40, 1, 4, [⟨27, 0, .ro, .val 0x0⟩]⟩,
  -- TAMP_STICKY
  ⟨0x44, 1, 4, [⟨27, 0, .w1c, .val 0x0⟩]⟩,
  -- TAMP_ZCAUSE
  ⟨0x48, 1, 4, [⟨31, 24, .ro, .val 0x0⟩, ⟨16, 16, .ro, .val 0x0⟩, ⟨15, 8, .ro, .val 0x0⟩, ⟨7, 0, .ro, .val 0x0⟩]⟩,
  -- TAMP_LOG
  ⟨0x4C, 1, 4, [⟨31, 31, .live, .val 0x0⟩, ⟨30, 30, .live, .val 0x0⟩, ⟨28, 24, .live, .val 0x0⟩, ⟨20, 16, .live, .val 0x0⟩, ⟨11, 0, .live, .val 0x0⟩]⟩,
  -- TAMP_TICK_LO
  ⟨0x50, 1, 4, [⟨31, 0, .live, .val 0x0⟩]⟩,
  -- TAMP_TICK_HI
  ⟨0x54, 1, 4, [⟨15, 0, .live, .val 0x0⟩]⟩,
  -- TAMP_TEMP
  ⟨0x58, 1, 4, [⟨31, 24, .live, .val 0x0⟩, ⟨23, 16, .live, .val 0x0⟩, ⟨15, 0, .live, .val 0x0⟩]⟩,
  -- TAMP_PEND_SEL
  ⟨0x5C, 1, 4, [⟨4, 0, .rw, .val 0x0⟩]⟩,
  -- TAMP_PEND_CNT
  ⟨0x60, 1, 4, [⟨31, 0, .live, .val 0x0⟩]⟩,
  -- TAMP_PEND_FIRST_LO
  ⟨0x64, 1, 4, [⟨31, 0, .live, .val 0x0⟩]⟩,
  -- TAMP_PEND_FIRST_HI
  ⟨0x68, 1, 4, [⟨15, 0, .live, .val 0x0⟩]⟩,
  -- TAMP_PEND_LAST_LO
  ⟨0x6C, 1, 4, [⟨31, 0, .live, .val 0x0⟩]⟩,
  -- TAMP_PEND_LAST_HI
  ⟨0x70, 1, 4, [⟨15, 0, .live, .val 0x0⟩]⟩,
  -- TAMP_ROW_SEL
  ⟨0x74, 1, 4, [⟨10, 0, .rw, .val 0x0⟩]⟩,
  -- TAMP_ROW
  ⟨0x80, 8, 4, [⟨31, 0, .live, .val 0x0⟩]⟩]

/-- Registers of the rng page. -/
def rngRows : List RegRow := [
  -- RNG_CTRL
  ⟨0x40, 1, 4, [⟨0, 0, .rw, .val 0x0⟩]⟩,
  -- RNG_HOST_CMD
  ⟨0x44, 1, 4, [⟨1, 1, .w1c, .val 0x0⟩, ⟨0, 0, .w1s, .val 0x0⟩]⟩,
  -- RNG_HOST_STAT
  ⟨0x48, 1, 4, [⟨31, 24, .ro, .val 0x0⟩, ⟨23, 16, .ro, .val 0x0⟩]⟩,
  -- RNG_HOST_DATA
  ⟨0x60, 8, 4, [⟨31, 0, .rc, .val 0x0⟩]⟩,
  -- RNG_RCT_FAIL
  ⟨0x80, 8, 4, [⟨31, 0, .cnt, .val 0x0⟩]⟩,
  -- RNG_APT_FAIL
  ⟨0xA0, 8, 4, [⟨31, 0, .cnt, .val 0x0⟩]⟩]

/-- Registers of the key page. -/
def keyRows : List RegRow := [
  -- KEY_CTRL
  ⟨0x40, 1, 4, [⟨15, 8, .rw, .val 0x10⟩, ⟨1, 0, .rw, .val 0x2⟩]⟩,
  -- KEY_CMD
  ⟨0x44, 1, 4, [⟨1, 1, .w1c, .val 0x0⟩, ⟨0, 0, .w1s, .val 0x0⟩]⟩,
  -- KEY_ROT_TENANT
  ⟨0x48, 1, 4, [⟨31, 0, .rw, .val 0x0⟩]⟩,
  -- KEY_ROT_USAGE
  ⟨0x4C, 1, 4, [⟨7, 0, .rw, .val 0x0⟩]⟩,
  -- KEY_ROT_RESULT
  ⟨0x50, 1, 4, [⟨31, 0, .ro, .val 0x0⟩]⟩,
  -- KEY_ROOT_EPOCH
  ⟨0x54, 1, 4, [⟨31, 0, .live, .val 0x0⟩]⟩,
  -- KEY_SLOT_STAT
  ⟨0x58, 1, 4, [⟨19, 0, .live, .val 0x0⟩]⟩]

/-- Registers of the jnl page. -/
def jnlRows : List RegRow := [
  -- JNL_CTRL
  ⟨0x40, 1, 4, [⟨31, 16, .rw, .val 0xA8⟩, ⟨15, 8, .rw, .val 0x4⟩, ⟨7, 0, .rw, .val 0xA⟩]⟩,
  -- JNL_CMD
  ⟨0x44, 1, 4, [⟨11, 11, .w1c, .val 0x0⟩, ⟨10, 10, .w1c, .val 0x0⟩, ⟨9, 9, .w1c, .val 0x0⟩, ⟨8, 8, .w1c, .val 0x0⟩, ⟨3, 3, .w1s, .val 0x0⟩, ⟨2, 2, .w1s, .val 0x0⟩, ⟨1, 1, .w1s, .val 0x0⟩, ⟨0, 0, .w1s, .val 0x0⟩]⟩,
  -- JNL_ARG
  ⟨0x48, 1, 4, [⟨1, 0, .rw, .val 0x0⟩]⟩,
  -- JNL_RESULT
  ⟨0x4C, 1, 4, [⟨31, 24, .ro, .val 0x0⟩, ⟨23, 16, .ro, .val 0x0⟩, ⟨1, 0, .ro, .val 0x0⟩]⟩,
  -- JNL_PORT_STAT
  ⟨0x50, 1, 4, [⟨31, 24, .live, .val 0x0⟩, ⟨23, 16, .live, .val 0x0⟩, ⟨15, 8, .live, .val 0x0⟩, ⟨7, 0, .live, .val 0x0⟩]⟩,
  -- JNL_SEG_TOTAL
  ⟨0x54, 1, 4, [⟨19, 0, .live, .val 0x0⟩]⟩,
  -- JNL_SEG_FREE
  ⟨0x58, 1, 4, [⟨19, 0, .live, .val 0x0⟩]⟩,
  -- JNL_LIVE_LO
  ⟨0x5C, 1, 4, [⟨31, 0, .live, .val 0x0⟩]⟩,
  -- JNL_LIVE_HI
  ⟨0x60, 1, 4, [⟨31, 0, .live, .val 0x0⟩]⟩,
  -- JNL_TREE_VER_LO
  ⟨0x64, 1, 4, [⟨31, 0, .live, .val 0x0⟩]⟩,
  -- JNL_TREE_VER_HI
  ⟨0x68, 1, 4, [⟨31, 0, .live, .val 0x0⟩]⟩]

/-- Registers of the dom page. -/
def domRows : List RegRow := [
  -- DOM_CFG
  ⟨0x40, 1, 4, [⟨31, 24, .rw, .val 0xA⟩, ⟨2, 0, .rw, .val 0x3⟩]⟩,
  -- DOM_CMD
  ⟨0x44, 1, 4, [⟨10, 10, .w1c, .val 0x0⟩, ⟨9, 9, .w1c, .val 0x0⟩, ⟨8, 8, .w1c, .val 0x0⟩, ⟨2, 2, .w1s, .val 0x0⟩, ⟨1, 1, .w1s, .val 0x0⟩, ⟨0, 0, .w1s, .val 0x0⟩]⟩,
  -- DOM_STAT
  ⟨0x48, 1, 4, [⟨31, 16, .live, .val 0x0⟩, ⟨10, 8, .live, .val 0x0⟩, ⟨1, 0, .live, .val 0x0⟩]⟩,
  -- DOM_EPOCH
  ⟨0x4C, 1, 4, [⟨31, 0, .live, .val 0x0⟩]⟩,
  -- DOM_PEND
  ⟨0x50, 1, 4, [⟨31, 0, .live, .val 0x0⟩]⟩,
  -- DOM_VIEW
  ⟨0x54, 1, 4, [⟨16, 0, .live, .val 0x0⟩]⟩,
  -- DOM_UNREACH
  ⟨0x58, 1, 4, [⟨16, 0, .live, .val 0x0⟩]⟩,
  -- DOM_PORT
  ⟨0x5C, 1, 4, [⟨15, 8, .live, .val 0x0⟩, ⟨7, 0, .live, .val 0x0⟩]⟩,
  -- DOM_PREFIX_LO
  ⟨0x60, 1, 4, [⟨31, 0, .rw, .val 0x0⟩]⟩,
  -- DOM_PREFIX_HI
  ⟨0x64, 1, 4, [⟨31, 0, .rw, .val 0x0⟩]⟩,
  -- DOM_UDP
  ⟨0x68, 1, 4, [⟨15, 0, .rw, .val 0xBA0C⟩]⟩,
  -- DOM_MIG_CMD
  ⟨0x80, 1, 4, [⟨12, 12, .w1c, .val 0x0⟩, ⟨11, 11, .w1c, .val 0x0⟩, ⟨10, 10, .w1c, .val 0x0⟩, ⟨9, 9, .w1c, .val 0x0⟩, ⟨8, 8, .w1c, .val 0x0⟩, ⟨4, 4, .w1s, .val 0x0⟩, ⟨3, 3, .w1s, .val 0x0⟩, ⟨2, 2, .w1s, .val 0x0⟩, ⟨1, 1, .w1s, .val 0x0⟩, ⟨0, 0, .w1s, .val 0x0⟩]⟩,
  -- DOM_MIG_ARG
  ⟨0x84, 1, 4, [⟨31, 16, .rw, .val 0x0⟩, ⟨15, 4, .rw, .val 0x0⟩, ⟨3, 0, .rw, .val 0x0⟩]⟩,
  -- DOM_MIG_RESULT
  ⟨0x88, 1, 4, [⟨31, 24, .ro, .val 0x0⟩, ⟨23, 16, .ro, .val 0x0⟩, ⟨15, 0, .ro, .val 0x0⟩]⟩,
  -- DOM_BLOB_MAP
  ⟨0x8C, 1, 4, [⟨15, 0, .live, .val 0x0⟩]⟩,
  -- DOM_STUBS
  ⟨0x90, 1, 4, [⟨12, 0, .live, .val 0x0⟩]⟩]

/-- Registers of the sched page. -/
def schedRows : List RegRow := [
  -- SCHED_CTRL
  ⟨0x40, 1, 4, [⟨15, 8, .rw, .val 0x28⟩, ⟨0, 0, .rw, .val 0x1⟩]⟩,
  -- SCHED_TIMER
  ⟨0x44, 1, 4, [⟨31, 16, .rw, .val 0x3E8⟩, ⟨15, 8, .rw, .val 0x10⟩, ⟨3, 0, .rw, .val 0x4⟩]⟩,
  -- TBL_CMD
  ⟨0x100, 1, 4, [⟨3, 3, .w1c, .val 0x0⟩, ⟨2, 2, .w1c, .val 0x0⟩, ⟨1, 1, .w1s, .val 0x0⟩, ⟨0, 0, .w1s, .val 0x0⟩]⟩,
  -- TBL_SRC
  ⟨0x104, 1, 4, [⟨31, 31, .rw, .val 0x0⟩, ⟨24, 12, .rw, .val 0x0⟩]⟩,
  -- TBL_SEL
  ⟨0x108, 1, 4, [⟨23, 16, .rw, .val 0x0⟩, ⟨15, 0, .rw, .val 0x0⟩]⟩,
  -- TBL_SEL_VER
  ⟨0x10C, 1, 4, [⟨15, 0, .rw, .val 0x0⟩]⟩,
  -- TBL_RESULT
  ⟨0x110, 1, 4, [⟨31, 24, .ro, .val 0x0⟩, ⟨23, 16, .ro, .val 0x0⟩, ⟨15, 0, .ro, .val 0x0⟩]⟩,
  -- TBL_OCC
  ⟨0x114, 1, 4, [⟨31, 16, .live, .val 0x0⟩, ⟨12, 0, .live, .val 0x0⟩]⟩]

/-- Registers of the acc page. -/
def accRows : List RegRow := [
  -- REG_BASE
  ⟨0x800, 64, 32, [⟨27, 0, .rw, .val 0x0⟩]⟩,
  -- REG_LIMIT
  ⟨0x804, 64, 32, [⟨27, 0, .rw, .val 0x0⟩]⟩,
  -- REG_PERM_0
  ⟨0x808, 64, 32, [⟨31, 0, .rw, .val 0x0⟩]⟩,
  -- REG_PERM_1
  ⟨0x80C, 64, 32, [⟨31, 0, .rw, .val 0x0⟩]⟩,
  -- REG_ATTR
  ⟨0x810, 64, 32, [⟨31, 31, .rw, .val 0x0⟩, ⟨5, 4, .rw, .val 0x0⟩, ⟨1, 0, .rw, .val 0x0⟩]⟩]

/-- Registers of the acc0 page. -/
def accZeroRows : List RegRow := [
  -- ACC_VIOL_INFO
  ⟨0x40, 1, 4, [⟨31, 31, .w1c, .val 0x0⟩, ⟨30, 30, .w1c, .val 0x0⟩, ⟨19, 16, .ro, .val 0x0⟩, ⟨13, 12, .ro, .val 0x0⟩, ⟨8, 8, .ro, .val 0x0⟩, ⟨7, 0, .ro, .val 0x0⟩]⟩,
  -- ACC_VIOL_ADDR_LO
  ⟨0x44, 1, 4, [⟨31, 0, .ro, .val 0x0⟩]⟩,
  -- ACC_VIOL_ADDR_HI
  ⟨0x48, 1, 4, [⟨7, 0, .ro, .val 0x0⟩]⟩]

/-- Registers of the cnt page. -/
def cntRows : List RegRow := [
  -- CNT_OVF_LO
  ⟨0x40, 1, 4, [⟨31, 0, .w1c, .val 0x0⟩]⟩,
  -- CNT_OVF_HI
  ⟨0x44, 1, 4, [⟨31, 0, .w1c, .val 0x0⟩]⟩,
  -- CNT_EVT
  ⟨0x100, 64, 4, [⟨31, 31, .rw, .val 0x0⟩, ⟨30, 30, .rw, .val 0x0⟩, ⟨27, 16, .rw, .val 0x0⟩, ⟨15, 0, .rw, .val 0x0⟩]⟩,
  -- CNT_VAL
  ⟨0x200, 64, 4, [⟨31, 0, .cnt, .val 0x0⟩]⟩]

/-- Registers of the rpl page. -/
def rplRows : List RegRow := [
  -- RPL_SEL
  ⟨0x40, 1, 4, [⟨11, 0, .rw, .val 0x0⟩]⟩,
  -- RPL_CFG
  ⟨0x44, 1, 4, [⟨31, 31, .live, .val 0x0⟩, ⟨30, 30, .live, .val 0x0⟩, ⟨4, 0, .live, .val 0x0⟩]⟩,
  -- RPL_FIRST
  ⟨0x48, 1, 4, [⟨31, 0, .live, .val 0x0⟩]⟩,
  -- RPL_NEXT
  ⟨0x4C, 1, 4, [⟨31, 0, .live, .val 0x0⟩]⟩,
  -- RPL_LOST
  ⟨0x50, 1, 4, [⟨31, 0, .live, .val 0x0⟩]⟩,
  -- RPL_USED
  ⟨0x54, 1, 4, [⟨12, 0, .live, .val 0x0⟩]⟩,
  -- RPL_ADDR_LO
  ⟨0x58, 1, 4, [⟨31, 0, .rw, .val 0x0⟩]⟩,
  -- RPL_ADDR_HI
  ⟨0x5C, 1, 4, [⟨31, 0, .rw, .val 0x0⟩]⟩,
  -- RPL_CAP
  ⟨0x60, 1, 4, [⟨31, 0, .rw, .val 0x0⟩]⟩,
  -- RPL_EXP_FIRST
  ⟨0x64, 1, 4, [⟨31, 0, .rw, .val 0x0⟩]⟩,
  -- RPL_EXP_COUNT
  ⟨0x68, 1, 4, [⟨31, 0, .rw, .val 0x0⟩]⟩,
  -- RPL_CMD
  ⟨0x6C, 1, 4, [⟨1, 1, .w1c, .val 0x0⟩, ⟨0, 0, .w1s, .val 0x0⟩]⟩,
  -- RPL_RESULT
  ⟨0x70, 1, 4, [⟨31, 24, .ro, .val 0x0⟩, ⟨23, 16, .ro, .val 0x0⟩]⟩,
  -- RPL_EXP_LEN
  ⟨0x74, 1, 4, [⟨31, 0, .ro, .val 0x0⟩]⟩]

/-- Registers of the cust page. -/
def custRows : List RegRow := [
  -- CUST_CTRL
  ⟨0x40, 1, 4, [⟨7, 0, .rw, .val 0xF⟩]⟩,
  -- CUST_CMD
  ⟨0x44, 1, 4, [⟨3, 3, .w1c, .val 0x0⟩, ⟨2, 2, .w1c, .val 0x0⟩, ⟨1, 1, .w1s, .val 0x0⟩, ⟨0, 0, .w1s, .val 0x0⟩]⟩,
  -- CUST_STAT
  ⟨0x48, 1, 4, [⟨31, 24, .live, .val 0x0⟩, ⟨23, 19, .live, .val 0x0⟩, ⟨18, 14, .live, .val 0x0⟩, ⟨13, 9, .live, .val 0x0⟩, ⟨8, 7, .live, .val 0x0⟩, ⟨6, 6, .live, .val 0x0⟩]⟩,
  -- CUST_TALLY
  ⟨0x4C, 1, 4, [⟨31, 16, .live, .val 0x0⟩, ⟨15, 0, .live, .val 0x0⟩]⟩,
  -- CUST_ID
  ⟨0x50, 1, 4, [⟨31, 0, .live, .val 0x0⟩]⟩,
  -- CUST_TIME
  ⟨0x54, 1, 4, [⟨31, 16, .live, .val 0x0⟩, ⟨15, 0, .live, .val 0x0⟩]⟩,
  -- CUST_LAST
  ⟨0x58, 1, 4, [⟨31, 24, .ro, .val 0x0⟩, ⟨23, 16, .ro, .val 0x0⟩, ⟨15, 8, .ro, .val 0x0⟩]⟩,
  -- CUST_CSET
  ⟨0x60, 8, 4, [⟨31, 0, .live, .val 0x0⟩]⟩]

/-- Registers of the side page. -/
def sideRows : List RegRow := [
  -- SIDE_CTRL
  ⟨0x40, 1, 4, [⟨10, 8, .rw, .val 0x2⟩, ⟨1, 1, .rw, .val 0x1⟩, ⟨0, 0, .rw, .val 0x1⟩]⟩,
  -- SIDE_STAT
  ⟨0x44, 1, 4, [⟨14, 8, .ro, .val 0x0⟩, ⟨7, 6, .ro, .val 0x0⟩, ⟨5, 5, .ro, .val 0x0⟩, ⟨4, 4, .ro, .val 0x0⟩, ⟨3, 3, .w1c, .val 0x0⟩, ⟨2, 2, .w1c, .val 0x0⟩, ⟨1, 1, .live, .val 0x0⟩, ⟨0, 0, .live, .val 0x0⟩]⟩]

/-- Registers of the mbx page. -/
def mbxRows : List RegRow := [
  -- MBX_CMD
  ⟨0x40, 1, 4, [⟨2, 2, .w1c, .val 0x0⟩, ⟨1, 1, .w1c, .val 0x0⟩, ⟨0, 0, .w1s, .val 0x0⟩]⟩,
  -- MBX_RESULT
  ⟨0x44, 1, 4, [⟨31, 24, .ro, .val 0x0⟩, ⟨23, 16, .ro, .val 0x0⟩]⟩,
  -- POOL_SHARE
  ⟨0x100, 8, 8, [⟨31, 16, .rw, .pool⟩, ⟨15, 0, .rw, .pool⟩]⟩,
  -- POOL_SLOTS
  ⟨0x104, 8, 8, [⟨14, 0, .rw, .pool⟩]⟩,
  -- MBX_OUT
  ⟨0x400, 384, 4, [⟨31, 0, .rw, .val 0x0⟩]⟩,
  -- MBX_IN
  ⟨0xA00, 384, 4, [⟨31, 0, .ro, .val 0x0⟩]⟩]

/-- Registers of the lc page. -/
def lcRows : List RegRow := [
  -- LC_CTRL
  ⟨0x40, 1, 4, [⟨11, 8, .rw, .val 0x2⟩, ⟨2, 2, .w1c, .val 0x0⟩, ⟨1, 1, .w1s, .val 0x0⟩]⟩,
  -- LC_STAT
  ⟨0x44, 1, 4, [⟨16, 16, .ro, .val 0x0⟩, ⟨15, 8, .ro, .val 0x0⟩, ⟨2, 0, .ro, .val 0x0⟩]⟩,
  -- LC_FAIL_0
  ⟨0x48, 1, 4, [⟨31, 0, .w1c, .val 0x0⟩]⟩,
  -- LC_FAIL_1
  ⟨0x4C, 1, 4, [⟨31, 0, .w1c, .val 0x0⟩]⟩,
  -- LC_MISMATCH
  ⟨0x50, 1, 4, [⟨31, 0, .ro, .val 0x0⟩]⟩]

/-- Registers of the bn page. -/
def bnRows : List RegRow := [
  -- BN_CTRL
  ⟨0x40, 1, 4, [⟨11, 8, .rw, .val 0x2⟩, ⟨2, 2, .w1c, .val 0x0⟩, ⟨1, 1, .w1s, .val 0x0⟩]⟩,
  -- BN_STAT
  ⟨0x44, 1, 4, [⟨16, 16, .ro, .val 0x0⟩, ⟨15, 8, .ro, .val 0x0⟩, ⟨4, 0, .live, .val 0x0⟩]⟩,
  -- BN_FAIL
  ⟨0x48, 1, 4, [⟨6, 6, .w1c, .val 0x0⟩, ⟨5, 0, .w1c, .val 0x0⟩]⟩,
  -- BN_MISMATCH
  ⟨0x4C, 1, 4, [⟨3, 0, .ro, .val 0x0⟩]⟩]

/-- Registers of the bn00 page. -/
def bnZeroRows : List RegRow := [
  -- CURVE_CMD
  ⟨0x100, 1, 4, [⟨3, 3, .w1c, .val 0x0⟩, ⟨2, 2, .w1c, .val 0x0⟩, ⟨1, 1, .w1s, .val 0x0⟩, ⟨0, 0, .w1s, .val 0x0⟩]⟩,
  -- CURVE_SRC
  ⟨0x104, 1, 4, [⟨24, 12, .rw, .val 0x0⟩, ⟨5, 0, .rw, .val 0x0⟩]⟩,
  -- CURVE_RESULT
  ⟨0x108, 1, 4, [⟨31, 24, .ro, .val 0x0⟩, ⟨23, 16, .ro, .val 0x0⟩, ⟨5, 0, .ro, .val 0x0⟩]⟩,
  -- CURVE_MAP_LO
  ⟨0x110, 1, 4, [⟨31, 0, .live, .val 0x0⟩]⟩,
  -- CURVE_MAP_HI
  ⟨0x114, 1, 4, [⟨31, 0, .live, .val 0x0⟩]⟩]

/-- Registers of the vfm page. -/
def vfmRows : List RegRow := [
  -- VFM_CMD
  ⟨0x40, 1, 4, [⟨12, 12, .w1c, .val 0x0⟩, ⟨11, 11, .w1c, .val 0x0⟩, ⟨10, 10, .w1c, .val 0x0⟩, ⟨9, 9, .w1c, .val 0x0⟩, ⟨8, 8, .w1c, .val 0x0⟩, ⟨4, 4, .w1s, .val 0x0⟩, ⟨3, 3, .w1s, .val 0x0⟩, ⟨2, 2, .w1s, .val 0x0⟩, ⟨1, 1, .w1s, .val 0x0⟩, ⟨0, 0, .w1s, .val 0x0⟩]⟩,
  -- VFM_RESULT
  ⟨0x44, 1, 4, [⟨31, 24, .ro, .val 0x0⟩, ⟨23, 16, .ro, .val 0x0⟩]⟩,
  -- VFM_TENANT
  ⟨0x48, 1, 4, [⟨31, 0, .rw, .val 0x0⟩]⟩,
  -- VFM_MIN_SHARE
  ⟨0x4C, 1, 4, [⟨31, 16, .rw, .val 0x0⟩, ⟨15, 0, .rw, .val 0x0⟩]⟩,
  -- VFM_MIN_SLOTS
  ⟨0x50, 1, 4, [⟨26, 24, .rw, .val 0x0⟩, ⟨14, 0, .rw, .val 0x0⟩]⟩,
  -- VFM_CEIL
  ⟨0x54, 1, 4, [⟨31, 20, .rw, .val 0x1⟩, ⟨19, 0, .rw, .val 0xFFFFF⟩]⟩,
  -- VFM_QUOTA_SLOTS
  ⟨0x58, 1, 4, [⟨20, 0, .rw, .val 0x100000⟩]⟩,
  -- VFM_QUOTA_STORE
  ⟨0x5C, 1, 4, [⟨31, 0, .rw, .val 0xFFFFFFFF⟩]⟩,
  -- VFM_QUOTA_MISC
  ⟨0x60, 1, 4, [⟨15, 8, .rw, .val 0x20⟩, ⟨6, 0, .rw, .val 0x40⟩]⟩,
  -- VFM_USE_SLOTS
  ⟨0x64, 1, 4, [⟨20, 0, .live, .val 0x0⟩]⟩,
  -- VFM_USE_STORE_LO
  ⟨0x68, 1, 4, [⟨31, 0, .live, .val 0x0⟩]⟩,
  -- VFM_USE_STORE_HI
  ⟨0x6C, 1, 4, [⟨31, 0, .live, .val 0x0⟩]⟩,
  -- VFM_STAT
  ⟨0x70, 1, 4, [⟨31, 16, .live, .val 0x0⟩, ⟨15, 8, .live, .val 0x0⟩, ⟨3, 0, .live, .val 0x0⟩]⟩,
  -- VFM_CNT_GRANT
  ⟨0x74, 1, 4, [⟨7, 0, .rw, .val 0x0⟩]⟩,
  -- VFM_MB_CTRL
  ⟨0x78, 1, 4, [⟨4, 4, .w1c, .val 0x0⟩, ⟨3, 3, .w1c, .val 0x0⟩, ⟨2, 2, .ro, .val 0x0⟩, ⟨1, 1, .w1s, .val 0x0⟩, ⟨0, 0, .w1s, .val 0x0⟩]⟩,
  -- VFM_T2M
  ⟨0x100, 64, 4, [⟨31, 0, .ro, .val 0x0⟩]⟩,
  -- VFM_M2T
  ⟨0x200, 64, 4, [⟨31, 0, .rw, .val 0x0⟩]⟩]

/-- Registers of the vf page. -/
def vfRows : List RegRow := [
  -- VF_CTRL
  ⟨0x40, 1, 4, [⟨0, 0, .rw, .val 0x0⟩]⟩,
  -- VF_INFO
  ⟨0x44, 1, 4, [⟨31, 16, .live, .val 0x0⟩, ⟨6, 0, .live, .val 0x0⟩]⟩,
  -- VF_TENANT
  ⟨0x48, 1, 4, [⟨31, 0, .live, .val 0x0⟩]⟩,
  -- QP_SQ_LO
  ⟨0x800, 64, 32, [⟨31, 12, .rw, .val 0x0⟩]⟩,
  -- QP_SQ_HI
  ⟨0x804, 64, 32, [⟨31, 0, .rw, .val 0x0⟩]⟩,
  -- QP_CQ_LO
  ⟨0x808, 64, 32, [⟨31, 12, .rw, .val 0x0⟩]⟩,
  -- QP_CQ_HI
  ⟨0x80C, 64, 32, [⟨31, 0, .rw, .val 0x0⟩]⟩,
  -- QP_CFG
  ⟨0x810, 64, 32, [⟨31, 31, .rwh, .val 0x0⟩, ⟨30, 30, .rw, .val 0x0⟩, ⟨29, 28, .rw, .val 0x0⟩, ⟨15, 8, .rw, .val 0x0⟩, ⟨7, 0, .rw, .val 0x0⟩]⟩,
  -- QP_STAT
  ⟨0x814, 64, 32, [⟨31, 16, .live, .val 0x0⟩, ⟨2, 2, .w1c, .val 0x0⟩, ⟨1, 1, .live, .val 0x0⟩, ⟨0, 0, .live, .val 0x0⟩]⟩]

/-- Registers of the mb page. -/
def mbRows : List RegRow := [
  -- MB_CTRL
  ⟨0x40, 1, 4, [⟨2, 2, .w1c, .val 0x0⟩, ⟨1, 1, .w1c, .val 0x0⟩, ⟨0, 0, .w1s, .val 0x0⟩]⟩,
  -- MB_STAT
  ⟨0x44, 1, 4, [⟨10, 8, .live, .val 0x0⟩, ⟨4, 4, .live, .val 0x0⟩, ⟨3, 3, .live, .val 0x0⟩, ⟨2, 2, .live, .val 0x0⟩, ⟨1, 1, .live, .val 0x0⟩, ⟨0, 0, .live, .val 0x0⟩]⟩,
  -- MB_T2M
  ⟨0x100, 64, 4, [⟨31, 0, .rw, .val 0x0⟩]⟩,
  -- MB_M2T
  ⟨0x200, 64, 4, [⟨31, 0, .ro, .val 0x0⟩]⟩]

/-- Registers of the vcnt page. -/
def vcntRows : List RegRow := [
  -- VCNT_EVT
  ⟨0x40, 8, 4, [⟨15, 0, .rw, .val 0x0⟩]⟩,
  -- VCNT_VAL
  ⟨0x60, 8, 4, [⟨31, 0, .cnt, .val 0x0⟩]⟩,
  -- VCNT_OVF
  ⟨0x80, 1, 4, [⟨7, 0, .w1c, .val 0x0⟩]⟩,
  -- VCNT_GRANT
  ⟨0x84, 1, 4, [⟨7, 0, .live, .val 0x0⟩]⟩]

end Sys2Proof.Machine
end

