-- ==== Sys2Proof/Machine/Codes.lean ====
section
/-! DEFINITION. The codes registers and completions carry for modes, states and statuses. -/

namespace Sys2Proof.Machine

/-- DEV_MODE.MODE (03_host_queues.md R121). -/
def Mode.code : Mode → Nat
  | .manufacture => 0 | .custody => 1 | .service => 2 | .maintenance => 3 | .quarantine => 4 | .zeroized => 5

/-- LOCAL_STATE of the VF pages (R560). -/
def VfState.code : VfState → Nat
  | .absent => 0 | .created => 1 | .active => 2 | .frozen => 3 | .draining => 4 | .destroyed => 5

/-- The byte of each status (R89). -/
def Status.code : Status → Nat
  | .ok => 0x00 | .okDelayed => 0x01 | .refusedCeiling => 0x10 | .refusedSaturated => 0x11
  | .refusedKeyBacklog => 0x12 | .refusedQuota => 0x13 | .epochAhead => 0x20 | .epochStale => 0x21
  | .keyAbsent => 0x30 | .keyPoisoned => 0x31 | .keyUsage => 0x32 | .faultWithheld => 0x41
  | .faultDouble => 0x42 | .mode => 0x50 | .format => 0x60 | .table => 0x61 | .migrated => 0x70 | .squashed => 0x7F

/-- The code of a port state (R463). -/
def PortState.code : PortState → Nat
  | .absent => 0 | .probing => 1 | .current => 2 | .rebuilding => 3 | .failed => 4 | .foreign => 5 | .unsuitable => 6

/-- One bit of CRC-16 with polynomial 0x1021 (16_power_clocks_startup.md R679). -/
def crc16Shift (c : Nat) : Nat := if c.testBit 15 then (c * 2) % 65536 ^^^ 0x1021 else c * 2

/-- CRC-16, polynomial 0x1021, initial value 0xFFFF (R679). -/
def crc16 (bs : Bytes) : Nat :=
  bs.foldl (fun c b => (crc16Shift ∘ crc16Shift ∘ crc16Shift ∘ crc16Shift ∘ crc16Shift ∘ crc16Shift ∘ crc16Shift
    ∘ crc16Shift) (c ^^^ b.toNat * 256)) 0xFFFF

/-- One bit of CRC-32C, reflected (10_record_store.md R418). -/
def crc32cShift (c : Nat) : Nat := if c % 2 = 1 then c / 2 ^^^ 0x82F63B78 else c / 2

/-- CRC-32C. -/
def crc32c (bs : Bytes) : Nat :=
  bs.foldl (fun c b => (List.range 8).foldl (fun c _ => crc32cShift c) (c ^^^ b.toNat)) 0xFFFFFFFF ^^^ 0xFFFFFFFF

/-- ASCII characters of a name. -/
def ascii (t : String) : Bytes := t.toList.map fun c => BitVec.ofNat 8 c.toNat

/-- A sealed generation slot of the settings store (R679): group, generation, 56 bytes of data. -/
def otpSlot (group gen : Nat) (data : Bytes) (isSealed : Bool) : Bytes :=
  let front : Bytes := leBytes 1 group ++ leBytes 1 gen ++ zeros 2 ++ padTo 56 data
  front ++ leBytes 2 (crc16 front) ++ zeros 1 ++ leBytes 1 (boolNat isSealed)

end Sys2Proof.Machine
end

