-- ==== Sys2Proof/Machine/State.lean ====
section
/-! DEFINITION. The state of the device, the state after reset, and the reasons a step can stop. -/

namespace Sys2Proof.Machine

/-- The faults of a step. The spec gives every command an effect (a refused access reads zero, a dropped write counts, a
withheld output completes with a status), so no meaning stops with a fault: there is no constructor. -/
inductive Fault where
deriving DecidableEq, Repr

/-- The refusals of a step. -/
inductive Refusal where
  /-- Raised by an arm of exec that has no meaning yet; safe (the machine stops where the device goes on). -/
  | notModelled (mnemonic : String)
deriving DecidableEq, Repr

/-- Everything the spec gives the device. The queue of waiting commands stands apart, in State. -/
structure Device where
  /-- SYS cycles since the last start-up. -/
  cycle : Nat
  /-- Free values drawn: the index of the next one (the model's own field). -/
  free : Nat
  /-- Everything that has left the device, newest first (the model's own record of its outputs). -/
  out : List Output
  pages : Pages
  front : Front
  sched : Sched
  units : Units
  keys : Keys
  store : Store
  dom : Domain
  cust : Custody
  tamp : Tamper
  sources : Table Source
  /-- Sources whose cause lasts as a state (15_faults.md R640). -/
  causes : NatSet
  rng : Rng
  power : Power
  pins : Pins
  rings : Table Ring
  exporting : Option Export
deriving DecidableEq, Repr

/-- The machine: the device, and the commands that wait, first in, first out. -/
structure State where
  pending : List Instr
  dev : Device
deriving DecidableEq, Repr

/-! ## Values of unlisted table entries -/

/-- A source that has reported nothing. -/
def Source.clear : Source :=
  { pending := false, sev := 0, severe := false, escalated := false, ack := false, winOpen := false, winCount := 0,
    timer := false }

/-- A window slot that holds nothing. -/
def Slot.empty : Slot := { mask := 0, bytes := zeros 64, occupant := none }

/-- A queue pair at VF reset (03_host_queues.md R65, R74). -/
def Qp.initial : Qp :=
  { enabled := false, draining := false, sqTail := 0, sqHead := 0, reads := [], cqHead := 0, cqTail := 0, phase := true,
    slots := [] }

/-- An MSI-X entry after reset: masked (DESIGN CHOICE, the spec gives no value; log entry 4). -/
def Msix.initial : Msix := { addr := 0, data := 0, masked := true, pending := false, withheld := false }

/-- A VF that is ABSENT (12_tenancy.md R530, R539, R547). -/
def Vf.initial : Vf :=
  { st := .absent, tenant := 0, pgen := 0, pool := 0, minLane := 0, minEngine := 0, minSlots := 0, rate := 0xFFFFF,
    burst := 1, quotaSlots := 0x100000, quotaStore := 0xFFFFFFFF, backlog := 0x20, qpQuota := 0x40, tokens := 0,
    frac := 0, laneWin := [], engWin := [], storeUse := 0, quotaOver := 0, reclaiming := false, reclaimQps := [], drainFrom := 0,
    unmapped := 0 }

/-- A gated cluster or engine group (05_cipher_lanes.md R210). -/
def Cluster.initial : Cluster :=
  { clk := .gated, wakeFails := 0, quarantined := false, stopped := none, testWake := false }

/-- An engine in service. -/
def Engine.initial : Engine := { quarantined := false, withdrawn := false }

/-- A pair with no yield outstanding. -/
def Pair.initial : Pair := { yieldFor := none }

/-- A SNAP that holds nothing (02_register_convention.md R57). -/
def Snap.initial : Snap :=
  { hold := false, posLo := 0, posHi := 0, totalLo := 0, totalHi := 0, pct := 0, op := 0 }

/-- Nothing happened yet in the present SYS cycle. -/
def Cyc.empty : Cyc :=
  { hwSet := [], cntAdd := [], hwLoad := [], swWrote := [], rcOld := [], events := [], hwm := [],
    viol := [], written := [], returned := [] }

/-- A pending entry of the tamper log that describes nothing. -/
def TampRec.none : TampRec :=
  { kind := 0, source := 0, flags := 0, mode := 0, first := 0, last := 0, count := 0, detail := 0 }

/-- A fresh segment (10_record_store.md R425). -/
def Seg.initial : Seg := { st := .fresh, gen := 0, blocks := 0 }

/-- A replay ring with capture off (18_counters_replay.md R733). -/
def Ring.initial : Ring :=
  { capture := false, inputs := false, sizeLog2 := 16, next := 0, lost := 0, units := [] }

/-! ## The parts after reset -/

/-- A BBRAM bank as shipped: EMPTY, with a module unique key (00_scope.md R10; DESIGN CHOICE for the key, log entry 5). -/
def Bank.shipped : Bank :=
  { seq := 0, st := .empty, rootEpoch := 0, root := zeros 32, prevEpoch := 0, prevRoot := zeros 32,
    moduleKey := zeros 32, treeRoot := zeros 32, treeVer := 0, tail := 0, pendBlocks := 0, pendDigest := zeros 14,
    checkOk := true }

def Pages.initial : Pages := { regs := [], hiCap := [], snaps := [], resetting := [], cyc := Cyc.empty }

def Front.initial : Front := { vfEnable := false, numVfs := 0, msix := [], qps := [], vfs := [] }

def Sched.initial : Sched :=
  { items := [], nextItem := 0, tick := 0, vfPtr := 0, delays := [], internalWin := [], rebuilding := [],
    warm := 0x000A1002, admitCfg := 0x05000032, ctrl := 0x00002801, timer := 0x03E81004, lanes := [] }

def Units.initial : Units :=
  { clusters := [], engines := [], groups := [], pairs := [], curves := [], curveLoad := none, tables := [],
    nextTable := 0, highest := [], load := none, staging := [] }

def Keys.initial : Keys :=
  { bank0 := Bank.shipped, bank1 := { Bank.shipped with checkOk := false }, active := 0, cls := 1, runs := [],
    faults := [], retired := [], tagKey := zeros 32, hbmKey := zeros 32, indexKey := zeros 32, sweepPos := 0, useStamp := 0, op := none }

def Store.initial : Store :=
  { ports := [.absent, .absent, .absent, .absent], segs0 := 0, segs1 := 0, segments := [], storeId := zeros 16,
    formatted := false, quarantined := false, recovering := false, readOnly := false, written := [], gathering := [],
    pending := [], commits := [], nextSeq := 0, checkpoint := (0, 0), unindexed := [], index := [], area := [], tree := [], top := [], scrubbed := 0, op := none, opCmd := false, auditSeq := 0,
    expelled := [], supers := [0, 0, 0, 0] }

def View.initial : View :=
  { domainId := zeros 16, moduleId := 0, inDomain := false, joining := false, epoch := 0, members := [], ids := [], k := 1,
    grace := [], prevMembers := [], prepared := none, votes := [], rolledBack := 0, requests := [], lastChange := 0, adopting := none }

def Domain.initial : Domain :=
  { view := View.initial, portUp := [false, false], portSecured := [false, false], unreach := [], reports := [],
    credits := [], lastPort := [], msgSeq := 0, waiting := [], outq := [], held := [], heldBlobs := [], ackDue := [], reads := [],
    asks := [], originAsked := [], fresh := false, resync := false, resyncCmd := false,
    leaving := false, blobs := [], stubs := [], frozen := [], moved := [], granted := [], mig := none }

def Custody.initial : Custody :=
  { mode := .manufacture, selected := false, returnTo := .manufacture, set := none, setStored := false, compat := false,
    ceremony := none, lastApproved := [], lastComponents := [], lastId := 0, maintEnd := none,
    partMbx := [], framesIn := [] }

def Tamper.initial : Tamper :=
  { armed := false, cond := [], sticky := [], zSeq := 0, zInterrupted := false, zCause := 0, zSource := 0,
    zPending := false, zStarted := false, line := false, fifo := [], pend := [], rows := [], nextRow := 0,
    burning := none, full := false, tick := 0, tj := 0, gradeE := false, batteryLost := false, patternKey := zeros 32 }

/-- An instance that is not instantiated (17_random_numbers.md R700, R703). -/
def Drbg.initial : Drbg := { requests := 0, reseeding := false, seeded := false, key := zeros 32, v := zeros 16 }

def Rng.initial : Rng :=
  { insts := List.replicate 8 Drbg.initial, started := false, rctTick := false, aptTick := false, draws := 0, blocks := 0,
    queue := [] }

def Chain.initial : Chain := { feedOk := false, outOk := false, selfTest := true, mv := 0 }

/-- The manufacturing settings of a shipped part: EXIT burnt, grade C, both key identifiers set (DESIGN CHOICE for the
identifiers, log entry 6). -/
def mfgData : Bytes := [1, 0] ++ List.replicate 16 1 ++ List.replicate 16 2 ++ zeros 22

def Power.initial : Power :=
  { st := .battery, chainA := Chain.initial, chainB := Chain.initial, active := 0, failover := false, claimA := 8,
    claimB := 8, ebbAllowed := true, ebbWait := false, stopRecorded := false, locked := 0, refclkOk := false,
    oscOk := false, otp := [(0, otpSlot 0 0 mfgData true)], burn := none }

def Pins.initial : Pins :=
  { perst := true, vioOk := true, zeroizeLow := false, link := 0, linkIdle := false, sdaLow := 0,
    alertReleased := false, pldmUnread := 0 }

/-- The device as shipped, on its battery, before its first start-up. -/
def Device.initial : Device :=
  { cycle := 0, free := 0, out := [], pages := Pages.initial, front := Front.initial, sched := Sched.initial,
    units := Units.initial, keys := Keys.initial, store := Store.initial, dom := Domain.initial,
    cust := Custody.initial, tamp := Tamper.initial, sources := [], causes := [], rng := Rng.initial,
    power := Power.initial, pins := Pins.initial, rings := [], exporting := none }

/-- The machine right after reset: no feed has risen yet, every register holds its reset value, and no command waits.
START_UP runs the start-up sequence of 16_power_clocks_startup.md R684. -/
def State.reset : State := { pending := [], dev := Device.initial }

/-- The outcome of a command that leaves the device so: the queue is kept. -/
def State.done (s : State) (d : Device) : Host.Outcome State Fault Refusal := .next { s with dev := d }

end Sys2Proof.Machine
end

