-- ==== Sys2Proof/Machine/Ops.lean ====
section
/-! DEFINITION. The named operations over registers, interrupts, outputs, items, queue pairs and VFs that the meanings share. -/

namespace Sys2Proof.Machine

/-! ## Where the parts of the state are -/

def Device.mapPages (d : Device) (f : Pages → Pages) : Device := { d with pages := f d.pages }
def Device.mapFront (d : Device) (f : Front → Front) : Device := { d with front := f d.front }
def Device.mapSched (d : Device) (f : Sched → Sched) : Device := { d with sched := f d.sched }
def Device.mapUnits (d : Device) (f : Units → Units) : Device := { d with units := f d.units }
def Device.mapKeys (d : Device) (f : Keys → Keys) : Device := { d with keys := f d.keys }
def Device.mapStore (d : Device) (f : Store → Store) : Device := { d with store := f d.store }
def Device.mapDom (d : Device) (f : Domain → Domain) : Device := { d with dom := f d.dom }
def Device.mapView (d : Device) (f : View → View) : Device := { d with dom := { d.dom with view := f d.dom.view } }
def Device.mapCust (d : Device) (f : Custody → Custody) : Device := { d with cust := f d.cust }
def Device.mapTamp (d : Device) (f : Tamper → Tamper) : Device := { d with tamp := f d.tamp }
def Device.mapRng (d : Device) (f : Rng → Rng) : Device := { d with rng := f d.rng }
def Device.mapPower (d : Device) (f : Power → Power) : Device := { d with power := f d.power }
def Device.mapPins (d : Device) (f : Pins → Pins) : Device := { d with pins := f d.pins }
def Device.mapCyc (d : Device) (f : Cyc → Cyc) : Device :=
  { d with pages := { d.pages with cyc := f d.pages.cyc } }

/-- Something leaves the device. -/
def Device.emit (d : Device) (o : Output) : Device := { d with out := o :: d.out }

/-- A value the spec leaves open, and the device with the next one in front. -/
def Device.freeNat (d : Device) : Nat := Config.freeNat d.free
def Device.drawFree (d : Device) : Device := { d with free := d.free + 1 }

/-! ## Pages -/

/-- Page offset 0 of a page in the device's register addresses: PF BAR0 offsets, and the BAR0 of VF v at
0x0400_0000 + 0x1_0000 × v (01_architecture.md R27, R29; 02_register_convention.md R62, R64). -/
def Page.base : Page → Nat → Nat
  | .dev, _ => 0x0000 | .pwr, _ => 0x1000 | .clk, _ => 0x2000 | .otp, _ => 0x3000
  | .flt, n => 0x4000 + 0x1000 * n | .tamp, _ => 0x8000 | .rng, _ => 0x9000 | .key, _ => 0xA000
  | .jnl, _ => 0xB000 | .dom, _ => 0xC000 | .sched, _ => 0xD000 | .acc, n => 0xE000 + 0x1000 * n
  | .cnt, _ => 0x12000 | .rpl, _ => 0x13000 | .cust, _ => 0x14000 | .side, _ => 0x15000 | .mbx, _ => 0x16000
  | .lc, n => 0x20000 + 0x1000 * n | .bn, n => 0x30000 + 0x1000 * n | .vfm, n => 0x01000000 + 0x1000 * n
  | .vf, n => 0x04000000 + 0x10000 * n | .mb, n => 0x04002000 + 0x10000 * n
  | .vcnt, n => 0x04003000 + 0x10000 * n

/-- The page that holds a register address, and its instance. -/
def pageAt (a : Nat) : Option (Page × Nat) :=
  let k := a / 0x1000
  if a < 0x17000 then
    if k = 0 then some (.dev, 0) else if k = 1 then some (.pwr, 0) else if k = 2 then some (.clk, 0)
    else if k = 3 then some (.otp, 0) else if k < 8 then some (.flt, k - 4) else if k = 8 then some (.tamp, 0)
    else if k = 9 then some (.rng, 0) else if k = 0xA then some (.key, 0) else if k = 0xB then some (.jnl, 0)
    else if k = 0xC then some (.dom, 0) else if k = 0xD then some (.sched, 0) else if k < 0x12 then some (.acc, k - 0xE)
    else if k = 0x12 then some (.cnt, 0) else if k = 0x13 then some (.rpl, 0) else if k = 0x14 then some (.cust, 0)
    else if k = 0x15 then some (.side, 0) else some (.mbx, 0)
  else if 0x20 ≤ k ∧ k < 0x30 then some (.lc, k - 0x20)
  else if 0x30 ≤ k ∧ k < 0x50 then some (.bn, k - 0x30)
  else if 0x1000 ≤ k ∧ k < 0x2000 then some (.vfm, k - 0x1000)
  else if 0x4000 ≤ k ∧ k < 0x14000 then
    let v := (k - 0x4000) / 16
    if (k - 0x4000) % 16 = 0 then some (.vf, v) else if (k - 0x4000) % 16 = 2 then some (.mb, v)
    else if (k - 0x4000) % 16 = 3 then some (.vcnt, v) else none
  else none

/-- TYPE of PAGE_ID (R62, R64). -/
def Page.typeCode : Page → Nat
  | .dev => 1 | .pwr => 2 | .clk => 3 | .otp => 4 | .flt => 5 | .tamp => 6 | .rng => 7 | .key => 8 | .jnl => 9
  | .dom => 0xA | .sched => 0xB | .acc => 0xC | .cnt => 0xD | .rpl => 0xE | .cust => 0xF | .side => 0x10
  | .mbx => 0x11 | .lc => 0x20 | .bn => 0x21 | .vfm => 0x30 | .vf => 0x40 | .mb => 0x41 | .vcnt => 0x42

/-- BASE and COUNT of FAULT_BASE (R62, R64). -/
def Page.faults : Page → Nat → Nat × Nat
  | .dev, _ => (208, 32) | .pwr, _ => (0, 16) | .clk, _ => (16, 16) | .flt, 0 => (252, 4) | .tamp, _ => (32, 28)
  | .rng, _ => (60, 4) | .key, _ => (160, 16) | .jnl, _ => (176, 16) | .dom, _ => (192, 16) | .sched, _ => (240, 12)
  | .lc, n => (64 + 4 * n, 4) | .bn, n => (128 + n, 1) | _, _ => (0, 0)

/-- Where a page permits a soft reset (R62, R64). -/
inductive SoftReset where
  | no | maintenance | yes | asVfReset
deriving DecidableEq, Repr

def Page.soft : Page → SoftReset
  | .jnl | .dom => .maintenance
  | .cnt | .rpl | .side | .mbx | .lc | .bn => .yes
  | .vfm | .vf => .asVfReset
  | _ => .no

/-- Pages of a VF BAR0 (R64). -/
def Page.vfSide : Page → Bool
  | .vf | .mb | .vcnt => true
  | _ => false

/-- The PF vector of a page (R62); none for the pages of a VF BAR0, which signal VF vector 64. -/
def Page.vector : Page → Option Nat
  | .dev => some 0 | .pwr => some 1 | .clk => some 2 | .otp => some 3 | .flt => some 4 | .tamp => some 5
  | .rng => some 6 | .key => some 7 | .jnl => some 8 | .dom => some 9 | .sched => some 10 | .acc => some 11
  | .cnt => some 12 | .rpl => some 13 | .cust => some 14 | .side => some 15 | .mbx => some 16 | .lc => some 17
  | .bn => some 18 | .vfm => some 19 | .vf | .mb | .vcnt => none

/-- The fields of PAGE_CTRL (R42, R52). -/
def ctrlRow (p : Page) : RegRow :=
  ⟨0x08, 1, 4, [⟨3, 3, .w1c, .val 0⟩]
    ++ (if p.vfSide then [] else [⟨2, 2, .rw, .val 0⟩])
    ++ (if p.soft = .no then [⟨0, 0, .ro, .val 1⟩] else [⟨1, 1, .w1s, .val 0⟩, ⟨0, 0, .rw, .val 1⟩])⟩

/-- The registers of a page after its header. -/
def Page.rows : Page → Nat → List RegRow
  | .dev, _ => devRows | .pwr, _ => pwrRows | .clk, _ => clkRows | .otp, _ => otpRows
  | .flt, 0 => flt0Rows | .flt, 1 => flt1Rows | .flt, 2 => flt2Rows | .flt, _ => flt3Rows
  | .tamp, _ => tampRows | .rng, _ => rngRows | .key, _ => keyRows | .jnl, _ => jnlRows | .dom, _ => domRows
  | .sched, _ => schedRows | .acc, 0 => accZeroRows ++ accRows | .acc, _ => accRows | .cnt, _ => cntRows
  | .rpl, _ => rplRows | .cust, _ => custRows | .side, _ => sideRows | .mbx, _ => mbxRows | .lc, _ => lcRows
  | .bn, 0 => bnRows ++ bnZeroRows | .bn, _ => bnRows | .vfm, _ => vfmRows | .vf, _ => vfRows | .mb, _ => mbRows
  | .vcnt, _ => vcntRows

/-- The fields at a page offset of a list of rows. -/
def rowsFieldsAt (off : Nat) : List RegRow → List Field
  | [] => []
  | r :: rs =>
    if r.off ≤ off ∧ (off - r.off) % r.stride = 0 ∧ (off - r.off) / r.stride < r.count then r.fields
    else rowsFieldsAt off rs

/-- The fields of the register at an address; none at an unused or reserved offset. -/
def fieldsAt (a : Nat) : List Field :=
  match pageAt a with
  | none => []
  | some (p, n) =>
    let off := a % 0x1000
    if off < 0x40 then rowsFieldsAt off (ctrlRow p :: headerRows) else rowsFieldsAt off (p.rows n)

/-! ## Reset values -/

/-- Listed severities (15_faults.md R634 to R636 and the tables R633 names). A number that no table gives an event is
never counted and has severity 0 (log entry 7). -/
def listedSeverity (s : Nat) : Nat :=
  if s < 32 then
    if s ∈ [0, 1, 3, 4, 6, 9, 10, 11, 16, 17, 21, 26, 27] then 1
    else if s ∈ [2, 7, 8, 19, 20, 24, 25] then 2 else if s ∈ [18, 22, 23] then 3 else 0
  else if s ≤ 53 then 4
  else if s < 64 then if s ∈ [54, 59, 62, 63] then 2 else 1
  else if s < 128 then if s % 4 = 0 then 1 else 2
  else if s < 160 then 2
  else if s < 176 then
    if s ∈ [160, 161, 165] then 1 else if s ∈ [162, 163, 166, 167, 168, 170] then 2 else if s = 171 then 3 else 0
  else if s < 192 then
    if s ∈ [177, 178, 182, 183, 185, 188] then 1 else if s ∈ [179, 180, 181, 184, 187, 189] then 2 else 0
  else if s < 208 then
    if s ∈ [192, 196, 198, 200, 206] then 1 else if s ∈ [197, 201, 202, 203, 205] then 2 else 0
  else if s < 240 then
    if s ∈ [212, 219, 220, 221, 234, 238] then 1
    else if s ∈ [208, 213, 214, 217, 218, 222, 224, 225, 226, 227, 228, 229, 230, 231, 235, 236] then 2
    else if s = 233 then 3 else 0
  else if s < 252 then if s ∈ [246, 248, 249] then 1 else if s = 240 then 0 else 2
  else 3

/-- The contents of the fixed regions 0–15 of the access table (19_interconnect_access.md R739): BASE, LIMIT, PERM_0,
PERM_1, ATTR. -/
def fixedRegion : Nat → List Nat
  | 0 => [0x0000000, 0x0000FFF, 0x00001303, 0, 0x80000020]
  | 1 => [0x0001000, 0x0001FFF, 0x00001303, 0, 0x80000020]
  | 2 => [0x0002000, 0x0003FFF, 0x00000103, 0x3, 0x80000000]
  | 3 => [0x0010000, 0x001003F, 0x00000500, 0, 0x80000012]
  | 4 => [0x0020000, 0x00207FF, 0x00000700, 0, 0x80000012]
  | 5 => [0x0040000, 0x0043FFF, 0x00010000, 0x3, 0x80000000]
  | 6 => [0x0400000, 0x08FFFFF, 0x03300300, 0, 0x80000012]
  | 7 => [0x0900000, 0x09FFFFF, 0x30000000, 0, 0x80000010]
  | 8 => [0x000000E, 0x0000011, 0x00001103, 0, 0x80000020]
  | _ => [0, 0, 0, 0, 0]

/-- The reset value of a field of the register at an address. -/
def Field.resetAt (f : Field) (a : Nat) : Nat :=
  match f.reset with
  | .val n => n
  | .listed =>
    let s := (a % 0x1000 - 0x400) / 4
    if f.hi = 22 then (if s < 32 ∨ 53 < s then min 3 (listedSeverity s + 1) else 4) else listedSeverity s
  | .pool =>
    if a / 8 % 0x20 = 0 then (if a % 8 = 0 then 10000 else 0x4000) else 0

/-- The reset value of the register at an address. -/
def resetWord (a : Nat) : Nat :=
  let r := (a % 0x1000 - 0x800) / 0x20
  if a / 0x1000 = 0xE ∧ 0x800 ≤ a % 0x1000 ∧ r < 16 then (fixedRegion r).getD (a % 0x20 / 4) 0
  else (fieldsAt a).foldl (fun w f => w + f.resetAt a * 2 ^ f.lo) 0

/-! ## The register file -/

/-- The stored fields of a register, as one number. -/
def Pages.reg (p : Pages) (a : Nat) : Nat :=
  match p.regs.find? a with
  | some w => w.toNat
  | none => resetWord a

/-- A register stored; its reset value removes the entry. -/
def Pages.setReg (p : Pages) (a v : Nat) : Pages :=
  { p with regs := if v = resetWord a then p.regs.erase a else p.regs.insert a (BitVec.ofNat 32 v) }

def Device.reg (d : Device) (a : Nat) : Nat := d.pages.reg a
def Device.setReg (d : Device) (a v : Nat) : Device := d.mapPages fun p => p.setReg a v

/-- A number with bits hi..lo replaced. -/
def putBits (w hi lo v : Nat) : Nat := w - bitsOf w hi lo * 2 ^ lo + (v % 2 ^ (hi + 1 - lo)) * 2 ^ lo

/-- A field of a register, as stored. -/
def Device.field (d : Device) (a hi lo : Nat) : Nat := bitsOf (d.reg a) hi lo

/-- Hardware drives an RO field. -/
def Device.setField (d : Device) (a hi lo v : Nat) : Device := d.setReg a (putBits (d.reg a) hi lo v)

/-- One bit of a register, as stored. -/
def Device.bit (d : Device) (a i : Nat) : Bool := bitOf (d.reg a) i

/-- Hardware clears bits. -/
def Device.clearBits (d : Device) (a m : Nat) : Device := d.setReg a (d.reg a - (d.reg a &&& m))

/-- Hardware sets bits of an HWS_W1C field: a write of 1 in the same SYS cycle leaves them 1 (R37). -/
def Device.hwSet (d : Device) (a m : Nat) : Device :=
  (d.setReg a (d.reg a ||| m)).mapCyc fun c => { c with hwSet := c.hwSet.insert a (c.hwSet.get 0 a ||| m) }

/-- Events of a CNT field: the count wraps past its maximum (R39), or stays there where its table says so. The increment
is kept for a write of the same SYS cycle (R37). -/
def Device.addCnt (d : Device) (a hi lo n : Nat) (saturates : Bool) : Device :=
  let w := 2 ^ (hi + 1 - lo)
  let v := d.field a hi lo + n
  (d.setField a hi lo (if saturates then min v (w - 1) else v % w)).mapCyc fun c =>
    { c with cntAdd := c.cntAdd.insert a (c.cntAdd.get 0 a + n) }

/-- WRITE_LOST of the page of an address counts one event; it saturates (R42, R53). -/
def Device.writeLost (d : Device) (a : Nat) : Device := d.addCnt (a / 0x1000 * 0x1000 + 0x0C) 23 16 1 true

/-- Software wrote an RWH register in this cycle and hardware loads it: the hardware value stands and the write is lost (R37). -/
def Device.rwhClash (d : Device) (a : Nat) : Device := if d.pages.cyc.swWrote.mem a then d.writeLost a else d

/-- Hardware loads a whole RWH register. -/
def Device.hwLoad (d : Device) (a v : Nat) : Device :=
  ((d.setReg a v).rwhClash a).mapCyc fun c => { c with hwLoad := c.hwLoad.add a }

/-- Software wrote fields of a register in this cycle. -/
def Device.noteWrite (d : Device) (a : Nat) : Device := d.mapCyc fun c => { c with written := c.written.add a }

/-- An event returned the fields of a register to their reset values in this cycle (R41). -/
def Device.returnedNow (d : Device) (a : Nat) : Bool := d.pages.cyc.returned.any fun r => decide (r.1 ≤ a ∧ a < r.2)

/-- An event returns the fields of a range of registers to their reset values: each write that one of them took earlier in this
cycle counts as lost, and so will each that comes later in it (R41). -/
def Device.noteReturn (d : Device) (lo hi : Nat) : Device :=
  ((d.pages.cyc.written.map Prod.fst).filter fun a => decide (lo ≤ a ∧ a < hi)).foldl (fun d a => d.writeLost a)
    (d.mapCyc fun c => { c with returned := (lo, hi) :: c.returned })

/-! ## Time -/

/-- Microseconds since start-up. -/
def Device.micros (d : Device) : Nat := d.cycle / 1200

/-- SYS cycles of a number of microseconds and of milliseconds. -/
def usCycles (n : Nat) : Nat := n * 1200
def msCycles (n : Nat) : Nat := n * 1200000

/-- SYS cycles go by: the record of the present cycle ends. -/
def Device.advance (d : Device) (n : Nat) : Device :=
  { d with cycle := d.cycle + n, pages := { d.pages with cyc := Cyc.empty } }

/-- One SYS cycle goes by. -/
def Device.passCycle (d : Device) : Device := d.advance 1

/-! ## Random numbers (17_random_numbers.md R695 to R705) -/

/-- An instance that may serve a request: not reseeding, and not past its 65,536th (17_random_numbers.md R700, R705). -/
def Drbg.serves (x : Drbg) : Bool := !x.reseeding && decide (x.requests < 65536)

/-- A shortage: no instance serves (R705). -/
def Rng.shortage (r : Rng) : Bool := !r.insts.any Drbg.serves

/-- The n-th 256-bit conditioner output (R695): SHA3-256 of 2,048 raw bits, 32 bytes of each latch, the latches in their order
(DESIGN CHOICE for the order, log entry 131). -/
def conditioner (pattern : Bool) (n : Nat) : Bytes :=
  Config.sha3 ((List.range 256).map fun i => if pattern then Config.patternByte n i else Config.latchByte n i)

/-- CTR_DRBG with AES-256 (R700): the three blocks after the counter v, v itself moved on by n. -/
def Drbg.counter (x : Drbg) (n : Nat) : Bytes := beBytes 16 (beNat x.v + n)
def Drbg.update (x : Drbg) (data : Bytes) : Drbg :=
  let t := xorBytes (Config.aesEnc x.key (x.counter 1) ++ Config.aesEnc x.key (x.counter 2) ++ Config.aesEnc x.key (x.counter 3)) data
  { x with key := t.take 32, v := t.drop 32 }

/-- An instance instantiated, or reseeded, from 384 bits of two conditioner outputs (R700, R703): the first 48 bytes of the two
(DESIGN CHOICE, log entry 131). -/
def Drbg.seed (x : Drbg) (pattern : Bool) (n : Nat) : Drbg :=
  let y := if x.seeded then x else Drbg.initial
  { y.update ((conditioner pattern n ++ conditioner pattern (n + 1)).take 48) with requests := 0, reseeding := false, seeded := true }

/-- A generate request: 32 bytes (R701). -/
def Drbg.bytes (x : Drbg) : Bytes := Config.aesEnc x.key (x.counter 1) ++ Config.aesEnc x.key (x.counter 2)
def Drbg.after (x : Drbg) : Drbg :=
  { ({ x with v := x.counter 2 } : Drbg).update (zeros 48) with requests := x.requests + 1 }

/-- The instance that serves the next request: the first that may, counted from the number of requests served on; in a shortage
the request waits for the instance of its number to reseed (R705; DESIGN CHOICE, log entry 35). -/
def Rng.choose (r : Rng) : Nat :=
  match ((List.range 8).map fun i => (r.draws + i) % 8).find? fun i => match r.insts[i]? with
      | some x => x.serves | none => false with
  | none => r.draws % 8
  | some i => i

/-- The instance as it stands when it serves: it is instantiated before its first output, and has reseeded after a wait. -/
def Rng.fresh (pattern : Bool) (r : Rng) : Drbg × Nat :=
  let x := r.insts.getD r.choose Drbg.initial
  if x.seeded && x.serves then (x, r.blocks) else (x.seed pattern r.blocks, r.blocks + 2)

/-- The 32 bytes of the next request, and the generator after it. -/
def Rng.bytes (pattern : Bool) (r : Rng) : Bytes := (r.fresh pattern).1.bytes
def Rng.count (pattern : Bool) (r : Rng) : Rng :=
  let (x, n) := r.fresh pattern
  { r with draws := r.draws + 1, blocks := n, insts := r.insts.set r.choose x.after }

/-- The latches give the test pattern (R706). -/
def Device.patterned (d : Device) : Bool := bitOf (d.pages.reg 0x9040) 0

/-- One request to the generator is served. -/
def Device.drawn (d : Device) : Device := d.mapRng fun r => r.count d.patterned

/-- The requests that n random bytes take are served. -/
def Device.drawnFor (d : Device) (n : Nat) : Device := (List.range ((n + 31) / 32)).foldl (fun d _ => d.drawn) d

/-- The bytes of the next k requests. -/
def Device.requests : Nat → Device → Bytes
  | 0, _ => []
  | k + 1, d => d.rng.bytes d.patterned ++ Device.requests k d.drawn

/-- The first n bytes of as many requests as they need. -/
def Device.random (d : Device) (n : Nat) : Bytes := (Device.requests ((n + 31) / 32) d).take n

/-! ## Interrupts -/

/-- The key of an MSI-X entry: PF vectors first, then 65 for each VF (01_architecture.md R27, R29). -/
def msixKey (fn vector : Nat) : Nat := if fn = 0 then vector else 32 + 65 * (fn - 1) + vector

/-- An MSI-X message goes out; a masked or withheld vector keeps it pending. -/
def Device.sendMsix (d : Device) (fn vector : Nat) : Device :=
  let e := d.front.msix.get Msix.initial (msixKey fn vector)
  if e.masked || e.withheld then
    d.mapFront fun f => { f with msix := f.msix.put Msix.initial (msixKey fn vector) { e with pending := true } }
  else d.emit (.msix fn vector)

/-- INT_STAT of the page at a base: INT_RAW and INT_EN (R42). -/
def Device.intStat (d : Device) (base : Nat) : Nat := d.reg (base + 0x10) &&& d.reg (base + 0x14)

/-- The message of a page on its vector (R44, R62, R64). -/
def Device.signalPage (d : Device) (base : Nat) : Device :=
  match pageAt base with
  | none => d
  | some (p, n) =>
    match p.vector with
    | some v => d.sendMsix 0 v
    | none => d.sendMsix (n + 1) 64

/-- Block events set INT_RAW bits; the page signals when INT_STAT leaves zero (R44). -/
def Device.raiseMask (d : Device) (base m : Nat) : Device :=
  let was := d.intStat base
  let d' := d.hwSet (base + 0x10) m
  if was = 0 ∧ d'.intStat base ≠ 0 then d'.signalPage base else d'

/-- One block event. -/
def Device.raiseInt (d : Device) (p : Page) (n i : Nat) : Device := d.raiseMask (p.base n) (2 ^ i)

/-! ## Commands, results and progress -/

/-- A W1S_HC action ends: its bit falls and its DONE bit is set (R36). -/
def Device.commandEnd (d : Device) (a req done : Nat) : Device := (d.clearBits a (2 ^ req)).hwSet a (2 ^ done)

/-- A W1S_HC action starts. -/
def Device.commandStart (d : Device) (a req : Nat) : Device := d.setReg a (d.reg a ||| 2 ^ req)

/-- A result register takes a code in [23:16] and its SEQ [31:24] increments. -/
def Device.setResult (d : Device) (a code : Nat) : Device :=
  (d.setField a 31 24 (d.field a 31 24 + 1)).setField a 23 16 code

/-- A long operation starts on a page (R59 to R61). -/
def Device.progStart (d : Device) (base op total : Nat) : Device :=
  let o := d.reg (base + Off.progOp)
  ((((d.setReg (base + Off.progOp) (((o / 2 ^ 24 + 1) % 256) * 2 ^ 24 + 2 ^ 16 + op)).setReg
    (base + Off.progPosLo) 0).setReg (base + Off.progPosHi) 0).setReg
    (base + Off.progTotalLo) (total % 2 ^ 32)).setReg (base + Off.progTotalHi) (total / 2 ^ 32)

/-- Units completed by the long operation of a page. -/
def Device.progPos (d : Device) (base pos : Nat) : Device :=
  (d.setReg (base + Off.progPosLo) (pos % 2 ^ 32)).setReg (base + Off.progPosHi) (pos / 2 ^ 32)

/-- Whether a page reports a running operation. -/
def Device.progRunning (d : Device) (base : Nat) : Bool := d.field (base + Off.progOp) 17 16 == 1

/-- The long operation of a page ends: STATE is 2 DONE or 3 ABORTED (R60). -/
def Device.progEnd (d : Device) (base : Nat) (aborted : Bool) : Device :=
  if d.progRunning base then d.setField (base + Off.progOp) 17 16 (if aborted then 3 else 2) else d

/-! ## VFs, queue pairs, items -/

def Device.vf (d : Device) (v : Nat) : Vf := d.front.vfs.get Vf.initial v
def Device.setVf (d : Device) (v : Nat) (x : Vf) : Device :=
  d.mapFront fun f => { f with vfs := f.vfs.put Vf.initial v x }

/-- A VF changed; a change of its state sets STATE_CHANGED on its page and on its management page (12_tenancy.md R560, R564). -/
def Device.changeVf (d : Device) (v : Nat) (x : Vf) : Device :=
  if x.st = (d.vf v).st then d.setVf v x else ((d.setVf v x).raiseInt .vf v 0).raiseInt .vfm v 0

/-- A VF is exposed while VF_ENABLE is set and its number is below NumVFs (12_tenancy.md R526). -/
def Device.exposed (d : Device) (v : Nat) : Bool := d.front.vfEnable && decide (v < d.front.numVfs)

def Device.qp (d : Device) (v q : Nat) : Qp := d.front.qps.get Qp.initial (v * 64 + q)
def Device.setQp (d : Device) (v q : Nat) (x : Qp) : Device :=
  d.mapFront fun f => { f with qps := f.qps.put Qp.initial (v * 64 + q) x }

def Device.item (d : Device) (n : Nat) : Option Item := d.sched.items.find? n
def Device.setItem (d : Device) (n : Nat) (x : Item) : Device :=
  d.mapSched fun s => { s with items := s.items.insert n x }
def Device.dropItem (d : Device) (n : Nat) : Device :=
  d.mapSched fun s => { s with items := s.items.erase n, delays := s.delays.filter fun e => e.item != n }

/-- An entry leaves a delay list. -/
def Device.dropDelay (d : Device) (list n : Nat) : Device :=
  d.mapSched fun s => { s with delays := s.delays.filter fun e => e.list != list || e.item != n }

/-- Does a delay list hold an entry for an item? -/
def Device.hasDelay (d : Device) (list n : Nat) : Bool := d.sched.delays.any fun e => e.list == list && e.item == n

/-- The delay lists (08_scheduler.md R353). -/
abbrev deferList : Nat := 0
abbrev holdList : Nat := 1
abbrev retryList : Nat := 2
abbrev sweepList : Nat := 3

/-- An entry put into a delay list, due at a tick. -/
def Device.addDelay (d : Device) (list n due : Nat) : Device :=
  d.mapSched fun s => { s with delays := s.delays ++ [{ list := list, due := due, item := n }] }

/-- FLAGS.BUNDLE (03_host_queues.md R76). -/
def Desc.bundle (x : Desc) : Bool := bitOf x.flags 1

/-- A diagnostics service (R93, R277). -/
def Desc.diagnostics (x : Desc) : Bool := decide (0x0F00 ≤ x.service ∧ x.service ≤ 0x0FFF)

/-- The completion of an item is formed; it waits for the completion writer. -/
def Item.finish (x : Item) (c : Comp) : Item :=
  { x with stage := .finished, comp := some c, adm := { x.adm with unstarted := 0 },
           ops := { x.ops with backlog := false, keyA := none, keyB := none },
           run := { x.run with staged := none } }

/-- A completion that carries a status and detail only. -/
def Comp.plain (st : Status) (detail : Nat) : Comp :=
  { status := st, detail := detail, result := zeros 16, buffer := none }

/-- An item completes without output. -/
def Device.finishItem (d : Device) (n : Nat) (st : Status) (detail : Nat) : Device :=
  match d.item n with
  | none => d
  | some x => (d.setItem n (x.finish (.plain st detail))).mapSched fun s =>
      { s with delays := s.delays.filter fun e => e.item != n }

/-! ## Bundles: the step that runs, and the completion (03_host_queues.md R82 to R85, 06_payment_services.md R281) -/

/-- The descriptor that runs: the descriptor itself, or the bundle step the item is at. -/
def Item.current (x : Item) : Desc := if x.desc.bundle then (x.steps.getD x.run.step x.desc) else x.desc

/-- Is the step a bundle stands at still open? -/
def Item.stepOpen (x : Item) : Bool := x.run.steps.length == x.run.step

/-- An item without operands: nothing asked for, nothing held. -/
def Opnds.empty : Opnds :=
  { a := .none, b := .none, buf := .none, rnd := .none, keyA := none, keyB := none, data := [], random := [], retries := 0
    backlog := false }

/-- The verdict byte of a step (R281). -/
def StepEnd.verdict (e : StepEnd) : Nat := if e.status = .ok then e.detail % 256 else 0

/-- The completion of a bundle whose steps have ended (R84, R85, R281). -/
def bundleComp (steps : List StepEnd) : Comp :=
  let bad := (steps.zipIdx.filter fun e => e.1.status != .ok).head?
  let result := padTo 4 (steps.map fun e => BitVec.ofNat 8 e.status.code)
    ++ padTo 12 (steps.map fun e => BitVec.ofNat 8 e.verdict)
  match bad with
  | some (e, k) => { status := e.status, detail := k * 256 + e.detail % 256, result := result, buffer := none }
  | none => { status := .ok, detail := 0, result := result
              buffer := some (steps.flatMap fun e => padTo 16 e.result) }

/-- Steps that do not run: SQUASHED. -/
def squashedSteps (n : Nat) : List StepEnd :=
  List.replicate n { status := .squashed, detail := 0, result := zeros 16 }

/-! ## Performance counters (18_counters_replay.md R711 to R718) -/

/-- Counter registers add an increment: past the maximum the count wraps and the overflow bit is set (R713). -/
def Device.bumpCounter (d : Device) (p : Page) (n val ovf bitNo inc : Nat) : Device :=
  let v := d.reg val + inc
  let d' := d.addCnt val 31 0 inc false
  if 2 ^ 32 ≤ v then (d'.hwSet ovf (2 ^ bitNo)).raiseInt p n 0 else d'

/-- PF counter c counts an event of a VF, where its EVT register is set up for it. -/
def Device.pfCounter (vf : Option Nat) (ev inc : Nat) (d : Device) (c : Nat) : Device :=
  match d.pages.regs.find? (0x12000 + Off.cntEvt + 4 * c) with
  | none => d
  | some w =>
    let e := w.toNat
    if bitOf e 31 && bitsOf e 15 0 == ev && (!bitOf e 30 || vf == some (bitsOf e 27 16)) then
      d.bumpCounter .cnt 0 (0x12000 + Off.cntVal + 4 * c) (0x12000 + Off.cntOvfLo + 4 * (c / 32)) (c % 32) inc
    else d

/-- VF counter c of VF v counts an event, where the grant is held and its EVT register names the event (R715, R718). -/
def Device.vfCounter (v ev inc : Nat) (d : Device) (c : Nat) : Device :=
  match d.pages.regs.find? (Page.vcnt.base v + Off.vcntEvt + 4 * c) with
  | none => d
  | some w =>
    if bitsOf w.toNat 15 0 == ev && d.bit (Page.vfm.base v + Off.vfmCntGrant) c then
      d.bumpCounter .vcnt v (Page.vcnt.base v + Off.vcntVal + 4 * c) (Page.vcnt.base v + Off.vcntOvf) c inc
    else d

/-- An event of R711, of a VF's item or of none. -/
def Device.countEvent (d : Device) (vf : Option Nat) (ev inc : Nat) : Device :=
  if inc = 0 then d else
  let d1 := if d.bit (0x12000 + 0x08) 0 then (List.range 64).foldl (Device.pfCounter vf ev inc) d else d
  match vf with
  | none => d1
  | some v => (List.range 8).foldl (Device.vfCounter v ev inc) d1

end Sys2Proof.Machine
end

