-- ==== Sys2Proof/Machine/Flags.lean ====
section
/-! DEFINITION. Flags the whole device shares: modes, the ends of ceremonies, the ZEROIZE line, the tamper log's staging, and
the fault collector's classification and reactions (13_modes_custody.md, 14_tamper.md, 15_faults.md). -/

namespace Sys2Proof.Machine

/-! ## Alerts (20_electrical_package.md R769, R770) -/

/-- A further cause for ALERT_N arises, and a PLDM event waits to be read. -/
def Device.alertCause (d : Device) : Device :=
  d.mapPins fun p => { p with pldmUnread := p.pldmUnread + 1, alertReleased := false }

/-- SIDE_CTRL.ALERT_SEV as it acts (R778). -/
def Device.alertSev (d : Device) : Nat :=
  let v := d.field (Page.side.base 0 + Off.sideCtrl) 10 8
  if v = 0 then 1 else min v 4

/-! ## Olihild replies and the frames of the MBX page (12_tenancy.md R567, 13_modes_custody.md R584) -/

/-- An Olihild message. -/
def olihildMessage (typ status id : Nat) (body : Bytes) : Bytes :=
  leBytes 2 0x4F4C ++ leBytes 1 1 ++ leBytes 1 typ ++ leBytes 4 id ++ leBytes 4 body.length ++ leBytes 1 status ++ zeros 3 ++ body

/-- A message cut into frames of up to 1,532 bytes on CHANNEL 0x01, joined by MORE. -/
def framesOf (msg : Bytes) : List Bytes :=
  let n := max 1 ((msg.length + 1531) / 1532)
  (List.range n).map fun i =>
    let part := (msg.drop (1532 * i)).take 1532
    leBytes 4 ((if i + 1 < n then 2 ^ 31 else 0) + 2 ^ 16 + part.length) ++ part

/-- Words stored in consecutive registers. -/
def Device.storeWords (d : Device) (a n : Nat) (bs : Bytes) : Device :=
  (List.range n).foldl (fun d i => d.setReg (a + 4 * i) (leNat (slice bs (4 * i) 4))) d

/-- The oldest waiting frame is placed in MBX_IN while IN_VALID is 0 and the page is not being reset. -/
def Device.placeFrame (d : Device) : Device :=
  let b := Page.mbx.base 0
  match d.cust.framesIn with
  | [] => d
  | x :: rest =>
    if d.bit (b + Off.mbxCmd) 2 || d.pages.resetting.mem b then d
    else (((d.mapCust fun c => { c with framesIn := rest }).storeWords (b + Off.mbxIn) 384 x).hwSet (b + Off.mbxCmd) 4).raiseInt .mbx 0 0

/-- A reply leaves on its carrier: 0 the MBX page, 1 the sideband. -/
def Device.olihildReply (d : Device) (carrier typ status id : Nat) (body : Bytes) : Device :=
  let d1 := d.emit (.olihild carrier typ status id body)
  if carrier = 0 then
    (d1.mapCust fun c => { c with framesIn := c.framesIn ++ framesOf (olihildMessage typ status id body) }).placeFrame
  else d1

/-! ## Ends of ceremonies (13_modes_custody.md R574, R585, R602) -/

/-- Ceremony types (R587). -/
def ceremonyTypes : List Nat :=
  [0x01, 0x02, 0x10, 0x11, 0x12, 0x13, 0x20, 0x30, 0x40, 0x41, 0x42, 0x43, 0x44, 0x4F]

/-- Ceremonies a mode accepts (R569). -/
def Mode.accepts (m : Mode) (t : Nat) : Bool :=
  match m with
  | .custody => decide (t ∈ ceremonyTypes ∧ t ∉ [0x41, 0x42, 0x13, 0x12, 0x44])
  | .service => decide (t ∈ [0x41, 0x12, 0x4F])
  | .maintenance => decide (t ∈ ceremonyTypes ∧ t ∉ [0x01, 0x10, 0x11, 0x40, 0x41])
  | .quarantine => decide (t = 0x4F)
  | .manufacture | .zeroized => false

/-- CUST_LAST takes the outcome and type of a ceremony that ended (R602). -/
def Device.ceremonyRecorded (d : Device) (outcome typ : Nat) : Device :=
  let a := Page.cust.base 0 + Off.custLast
  (d.setReg a (((d.field a 31 24 + 1) % 256) * 2 ^ 24 + outcome * 2 ^ 16 + typ * 2 ^ 8)).raiseInt .cust 0 2

/-- The open ceremony ends; RESULT goes to the carrier that opened it, unless it ends without one (R579, R582). -/
def Device.endCeremony (d : Device) (outcome : Nat) (result : Option Bytes) : Device :=
  match d.cust.ceremony with
  | none => d
  | some c =>
    let d1 := (d.mapCust fun x => { x with
                ceremony := none, lastApproved := c.approved,
                lastComponents := c.components.map Prod.fst, lastId := c.id }).ceremonyRecorded outcome c.typ
    match result with
    | none => d1
    | some body => d1.olihildReply c.carrier 0x07 outcome c.id body

/-! ## Modes (R569 to R576) -/

/-- The counting regime of the fault collector (15_faults.md R637). -/
def Device.counting (d : Device) : Bool := d.cust.selected && d.cust.mode == .service && !d.store.recovering

/-- Every window closes when the counting regime is left (R639). -/
def Source.closeWindow (x : Source) : Source := { x with winOpen := false, winCount := 0, severe := false }

/-- LOCK clears on every page on entry to MAINTENANCE (02_register_convention.md R50). -/
def Device.clearLocks (d : Device) : Device :=
  (d.pages.regs.filter fun e => e.1 % 0x1000 == 8).foldl (fun d e => d.clearBits e.1 4) d

/-- Mailbox pages of exposed VFs that are not ABSENT signal a mode change (R576). -/
def Device.signalMode (d : Device) : Device :=
  d.front.vfs.foldl (fun d e => if d.exposed e.1 && e.2.st != .absent then d.raiseInt .mb e.1 3 else d)
    (d.raiseInt .dev 0 0)

/-- A mode is entered: DEV INT_RAW bit 0, the mailbox pages, the regime, the locks and the maintenance limit. -/
def Device.enterMode (d : Device) (m : Mode) : Device :=
  let d1 := d.mapCust fun c => { c with
    mode := m
    maintEnd := match m with | .service | .custody | .zeroized => none | _ => c.maintEnd }
  let d2 := if m = .service then d1
    else { d1 with sources := d1.sources.mapD Source.clear fun _ x => x.closeWindow }
  let d3 := if m = .maintenance then d2.clearLocks else d2
  d3.signalMode.alertCause

/-- A collecting ceremony whose type the new mode does not accept ends with STATUS 0x03 (R574). -/
def Device.dropUnaccepted (d : Device) : Device :=
  match d.cust.ceremony with
  | some c => if !c.executing && !d.cust.mode.accepts c.typ then d.endCeremony 0x03 (some []) else d
  | none => d

/-- A mode change by a ceremony, by CLOSE_MAINT, by the maintenance limit or by leaving QUARANTINE. -/
def Device.changeMode (d : Device) (m : Mode) : Device := (d.enterMode m).dropUnaccepted

/-- Items that QUARANTINE stops: admitted, not dispatched, of no diagnostics service (15_faults.md R655). -/
def Item.undispatched (x : Item) : Bool :=
  (x.stage == .waiting || x.stage == .ready || x.stage == .parked) && x.work.isNone && !x.current.diagnostics

/-- An item that QUARANTINE stops completes MODE. The open step of a bundle does; its later steps follow CONTINUE. -/
def Device.stopItem (d : Device) (n : Nat) (x : Item) : Device :=
  if !x.desc.bundle then d.finishItem n .mode 0
  else
    let ends := if x.stepOpen then x.run.steps ++ [{ status := .mode, detail := 0, result := zeros 16 }] else x.run.steps
    let d1 := d.mapSched fun s => { s with delays := s.delays.filter fun e => e.item != n }
    if bitOf x.desc.param 0 then
      d1.setItem n { x with stage := .waiting, ops := Opnds.empty, run := { x.run with steps := ends, staged := none } }
    else d1.setItem n (x.finish (bundleComp (ends ++ squashedSteps (x.steps.length - ends.length))))

/-- A gate that opened in this SYS cycle stays shut after all: the item completes MODE, and so does the step of a bundle, with what
follows it by CONTINUE (R21). Records that have left for the store are not called back. -/
def Device.shutGate (d : Device) (n : Nat) (x : Item) : Device :=
  if x.run.opened ≠ some d.cycle then d
  else if !x.desc.bundle then
    let kept := match x.run.staged with | some st => !st.records.isEmpty | none => false
    if x.current.diagnostics || !(x.stage == .finished || (x.stage == .storing && kept)) then d else d.finishItem n .mode 0
  else if (x.steps.getD (x.run.steps.length - 1) x.desc).diagnostics || !(x.stage == .finished || x.stage == .waiting) then d
  else
    let ends := x.run.steps.dropLast ++ [{ status := .mode, detail := 0, result := zeros 16 }]
    if bitOf x.desc.param 0 && x.stage == .waiting then d.setItem n { x with run := { x.run with steps := ends } }
    else d.setItem n (x.finish (bundleComp (ends ++ squashedSteps (x.steps.length - ends.length))))

/-- QUARANTINE is entered (R21, R572, R574): undispatched items complete MODE, and an open ceremony ends ABORTED unless it
is a collecting ZEROIZE ceremony. -/
def Device.enterQuarantine (d : Device) : Device :=
  if !d.cust.selected || d.cust.mode == .quarantine || d.cust.mode == .zeroized then d else
  let d1 := (d.mapCust fun c => { c with returnTo := c.mode }).enterMode .quarantine
  let d2 := d1.sched.items.foldl (fun d e => d.shutGate e.1 e.2) d1
  let d2 := d2.sched.items.foldl (fun d e => if e.2.undispatched then d.stopItem e.1 e.2 else d) d2
  match d2.cust.ceremony with
  | some c => if c.typ == 0x4F && !c.executing then d2 else d2.endCeremony 0x09 (some [])
  | none => d2

/-- A source holds the gates shut: PENDING with SEV 3 or 4 (15_faults.md R641, R651). -/
def Device.safeHold (d : Device) : Bool := d.sources.any fun e => e.2.pending && decide (3 ≤ e.2.sev)

/-- The release gates, pair gates and key-side releases are shut, but for diagnostics items (R21, R641). -/
def Device.gatesShut (d : Device) : Bool :=
  d.cust.mode == .quarantine || d.cust.mode == .zeroized || d.safeHold || d.tamp.zStarted

/-! ## The tamper log's staging (14_tamper.md R624 to R629) -/

/-- Ticks of 32.768 kHz since manufacture. -/
def Device.tampTick (d : Device) : Nat := (d.tamp.tick + d.cycle * 32768 / 1200000000) % 2 ^ 48

/-- A record as it waits for its burn. -/
def TampRec.coalesced (s : Nat) (r : TampRec) : TampRec := { r with kind := 0x02, source := s }

/-- A further event goes into a source's pending entry (R625); counts saturate (R629). -/
def TampRec.absorb (p r : TampRec) : TampRec :=
  if p.count = 0 then r
  else { p with last := r.last, count := min (p.count + r.count) 0xFFFFFFFF, detail := p.detail ||| r.detail }

/-- Sources with a nonzero pending entry. -/
def Tamper.pendCount (t : Tamper) : Nat := t.pend.length

/-- Every FIFO entry of a TAMP source moved into the pending entries, oldest first (R629). -/
def Tamper.coalesceAll (t : Tamper) : Tamper :=
  { t with
    fifo := []
    pend := t.fifo.foldl (fun p r => if r.kind = 0x03 then p
      else p.put TampRec.none r.source ((p.get TampRec.none r.source).absorb r)) t.pend }

/-- The record to burn next: the oldest staged entry, then the pending entries in source order, and from row 2,032 on the
log-full record first (R626, R629). -/
def Tamper.nextRecord (t : Tamper) : Option TampRec :=
  if 2048 ≤ t.nextRow then none
  else if 2032 ≤ t.nextRow && !t.full then
    some
      { kind := 0x0F, source := 0, flags := 0, mode := 0, first := 0, last := 0, count := 1
        detail := t.pend.length }
  else match t.fifo with
    | r :: _ => some r
    | [] => match t.pend with
      | (s, r) :: _ => some (r.coalesced s)
      | [] => none

/-- Does a record wait? -/
def Tamper.waits (t : Tamper) : Bool := !t.fifo.isEmpty || !t.pend.isEmpty

/-- A record joins the run of burns (R630). -/
def Device.burnJoins (d : Device) : Device :=
  let a := Page.tamp.base 0 + Off.progTotalLo
  if d.progRunning (Page.tamp.base 0) then d.setReg a (d.reg a + 1) else d

/-- A burn begins when a record waits and none is being burnt (R626); the log-full record joins the run. On the battery
alone nothing is burnt. -/
def Device.startBurn (d : Device) : Device :=
  if d.tamp.burning.isSome || !d.tamp.waits || d.power.st == .battery || d.power.st == .stopping then d
  else
    let t := if 2032 ≤ d.tamp.nextRow ∧ d.tamp.nextRow < 2048 then d.tamp.coalesceAll else d.tamp
    match t.nextRecord with
    | none => d.mapTamp fun _ => t
    | some r =>
      let fullRec := decide (r.kind = 0x0F)
      let r := if fullRec then { r with mode := d.cust.mode.code, first := d.tampTick, last := d.tampTick } else r
      let d1 := d.mapTamp fun _ => { t with burning := some r }
      let d2 := if d1.progRunning (Page.tamp.base 0) then d1
        else d1.progStart (Page.tamp.base 0) 0x000A (t.fifo.length + t.pend.length)
      if fullRec then d2.burnJoins else d2

/-- An event is staged, or coalesced when the FIFO is full (R625); `raise` reports source 57. A ZEROIZATION record that
finds the FIFO full is not staged: it has no pending entry to go to (log entry 8). -/
def Device.stageRecord (raise : Device → Nat → Device) (d : Device) (r : TampRec) : Device :=
  if d.tamp.fifo.length < 16 ∧ d.tamp.nextRow < 2048 then
    ((d.mapTamp fun t => { t with fifo := t.fifo ++ [r] }).burnJoins).startBurn
  else
    let fresh := decide ((d.tamp.pend.get TampRec.none r.source).count = 0)
    let d1 := if r.kind = 0x03 then d else
      d.mapTamp fun t => { t with
        pend := t.pend.put TampRec.none r.source ((t.pend.get TampRec.none r.source).absorb r) }
    let d2 := if fresh && r.kind != 0x03 then d1.burnJoins else d1
    raise (d2.raiseInt .tamp 0 2).startBurn 57

/-- A TAMP_STICKY bit is set: source 32 + i had an event (14_tamper.md R613, R632; R37 for a write of the same cycle). -/
def Device.stick (d : Device) (i : Nat) : Device :=
  let a := Page.tamp.base 0 + Off.tampSticky
  (d.mapTamp fun t => { t with sticky := t.sticky.add i }).mapCyc fun c =>
    { c with hwSet := c.hwSet.insert a (c.hwSet.get 0 a ||| 2 ^ i) }

/-! ## The ZEROIZE line (09_key_hierarchy.md R405 to R408, 14_tamper.md R614, R618) -/

/-- A BBRAM bank with every byte zero, left so by a clearing that ended (log entry 34). -/
def Bank.zeroed : Bank :=
  { seq := 0, st := .cleared, rootEpoch := 0, root := zeros 32, prevEpoch := 0, prevRoot := zeros 32,
    moduleKey := zeros 32, treeRoot := zeros 32, treeVer := 0, tail := 0, pendBlocks := 0, pendDigest := zeros 14,
    checkOk := false }

/-- LOCAL_STATE of the KEY page changes (R409). -/
def Device.setRootClass (d : Device) (c : Nat) : Device :=
  if d.keys.cls = c then d else (d.mapKeys fun k => { k with cls := c }).raiseInt .key 0 3

/-- A command of the RPL page that runs ends with a code (18_counters_replay.md R728, R733). -/
def Device.endExport (d : Device) (code : Nat) : Device :=
  let b := Page.rpl.base 0
  match d.exporting with
  | none => d
  | some _ => ((({ d with exporting := none }).setResult (b + Off.rplResult) code).commandEnd (b + Off.rplCmd) 0 1).raiseInt
      .rpl 0 0

/-- Items stop (R174, R408): no descriptor accepted before the assertion has a completion. Completions that have not begun
to leave go with them, and the windows they held stay as they are. -/
def Device.squashAll (d : Device) : Device :=
  d.mapSched fun s => { s with items := [], delays := s.delays.filter fun e => e.list == sweepList }

/-- What the line clears at once, records not yet in the tree with it (R405, 15_faults.md R655): lanes, key ports, BBRAM, the HBM encryption key, the random number generator's state and
everything held only in HBM (R405, R407, 17_random_numbers.md R703, 01_architecture.md R23). -/
def Device.clearAtOnce (d : Device) : Device :=
  let d1 := (d.squashAll.endExport 0x06).setRootClass 4
  let d2 := { d1 with rings := d1.rings.mapD Ring.initial fun _ r => { r with units := [] } }
  let d3 := d2.mapKeys fun k => { k with bank0 := Bank.zeroed, bank1 := Bank.zeroed, op := none }
  let d4 := d3.mapDom fun x => { x with
    blobs := [], held := [], heldBlobs := [], waiting := [], outq := [], ackDue := [], reads := [], asks := [], moved := []
    portSecured := [false, false] }
  let d5 := d4.mapRng fun r => { r with
    insts := List.replicate 8 Drbg.initial, queue := [] }
  let d6 := (d5.mapTamp fun t => { t with zPending := false }).mapSched fun s => { s with lanes := [] }
  let d7 := d6.mapStore fun x => { x with gathering := [], pending := [], commits := [] }
  (d7.progEnd (Page.key.base 0) true).progStart (Page.key.base 0) 0x0007 1048576

/-- A ZEROIZATION record of the log (R624). -/
def zeroizationRecord (d : Device) (cause source : Nat) : TampRec :=
  { kind := 0x03, source := 0, flags := 0, mode := d.cust.mode.code, first := d.tampTick, last := d.tampTick, count := 1
    detail := cause + 256 * source }

/-- The tamper monitor drives the line, for a cause and a source. The first assertion since start-up is recorded in
TAMP_ZCAUSE, and a record is staged when no TAMP source caused it (R618, R624). -/
def Device.assertLine (raise : Device → Nat → Device) (d : Device) (cause source : Nat) : Device :=
  let d1 := d.mapTamp fun t => { t with line := true, zPending := true }
  let d2 := if d1.tamp.zStarted then d1 else
    let d' := (d1.mapTamp fun t => { t with
                zStarted := true, zSeq := (t.zSeq + 1) % 256, zCause := cause,
                zSource := source, zInterrupted := false }).raiseInt .tamp 0 5
    if cause = 0x01 then d' else
      Device.stageRecord raise d' (zeroizationRecord d' cause source)
  d2.clearAtOnce

/-! ## The fault collector (15_faults.md R633 to R649) -/

def Device.source (d : Device) (s : Nat) : Source := d.sources.get Source.clear s
def Device.setSource (d : Device) (s : Nat) (x : Source) : Device :=
  { d with sources := d.sources.put Source.clear s x }

/-- FLT_CFG of a source. -/
def cfgAddr (s : Nat) : Nat := 0x5400 + 4 * s

/-- The severity of an event and the source's window (the pseudocode after R639). -/
def Device.classify (d : Device) (s : Nat) : Nat × Source :=
  let x := d.source s
  let cfg := d.reg (cfgAddr s)
  if 32 ≤ s ∧ s ≤ 53 then (4, x)
  else if 252 ≤ s then (3, x)
  else if !d.counting then (bitsOf cfg 26 24, x)
  else
    let n := (if x.winOpen then x.winCount else 0) + 1
    let n := min n 255
    let severe := (x.winOpen && x.severe) || (bitsOf cfg 15 8 != 0 && decide (bitsOf cfg 15 8 ≤ n))
    let y := { x with winOpen := true, winCount := n, severe := severe }
    (if severe then max (bitsOf cfg 18 16) (bitsOf cfg 22 20) else bitsOf cfg 18 16, y)

/-- The status an event leaves: PENDING, SEV, ACK and the escalation timer (R641 to R643). Timers do not run during
start-up and journal recovery (R647). -/
def Source.report (x : Source) (sev : Nat) (timers : Bool) : Source :=
  if sev = 0 then x
  else
    let y := { x with pending := true, sev := max sev (if x.pending then x.sev else 0) }
    if sev = 2 then { y with ack := false, timer := x.timer || timers } else y

/-- The bits FLT INT_RAW takes for a severity (R641, R658). -/
def severityBits (sev : Nat) : Nat := if sev = 1 then 2 else if sev = 2 then 4 else if 3 ≤ sev then 16 else 0

/-- The events of one SYS cycle ranked: highest severity, then lowest source (R648). -/
def rankFirst : List (Nat × Nat) → Option (Nat × Nat)
  | [] => none
  | e :: es =>
    match rankFirst es with
    | none => some e
    | some b => if e.2 > b.2 || (e.2 == b.2 && e.1 < b.1) then some e else some b

/-- The high-water mark (R648): it records the first cycle with an event of S1 or above, and every source of that cycle. -/
def Device.highWater (d : Device) (s sev : Nat) : Device :=
  let b := Page.flt.base 0
  let valid := d.bit (b + Off.fltHwm) 31
  if sev = 0 ∨ (valid ∧ d.pages.cyc.hwm = []) then d else
  let evs := d.pages.cyc.hwm.filter (fun e => e.1 != s) ++ [(s, sev)]
  let mode := if valid then d.field (b + Off.fltHwm) 18 16 else d.cust.mode.code
  match rankFirst evs with
  | none => d
  | some (f, fs) =>
    let d1 := (d.mapCyc fun c => { c with hwm := evs }).setReg (b + Off.fltHwm)
      (2 ^ 31 + fs * 2 ^ 24 + mode * 2 ^ 16 + (evs.length - 1) * 2 ^ 8 + f)
    let d2 := (d1.setReg (b + Off.fltHwmTimeLo) (d.micros % 2 ^ 32)).setReg (b + Off.fltHwmTimeHi) (d.micros / 2 ^ 32)
    let d3 := (List.range 8).foldl (fun d j => d.setReg (b + Off.fltHwmAlso + 4 * j)
      ((evs.filter fun e => e.1 != f && e.1 / 32 == j).foldl (fun w e => w ||| 2 ^ (e.1 % 32)) 0)) d2
    if valid then d3 else d3.raiseInt .flt 0 0

/-- An event counted, classified and recorded; its severity. -/
def Device.recordEvent (d : Device) (s : Nat) : Device × Nat :=
  let d := if 32 ≤ s ∧ s < 60 then d.stick (s - 32) else d
  let d1 := (d.mapCyc fun c => { c with events := c.events.add s }).addCnt (0x7400 + 4 * s) 31 0 1 true
  let d1 := if (d1.classify s).1 = 2 then d1.rwhClash (0x6400 + 4 * s) else d1
  let (sev, x) := d1.classify s
  let timers := d1.cust.selected && !d1.store.recovering
  let d2 := (d1.setSource s (x.report sev timers)).highWater s sev
  let d3 := if sev = 0 then d2 else d2.raiseMask (Page.flt.base 0) (severityBits sev)
  (if d3.alertSev ≤ sev then d3.alertCause else d3, sev)

/-- An event with the reaction of its severity (R641). The first argument bounds the chain of events that the staging of
tamper records can cause (source 57, R625): an event, the ZEROIZATION record it stages, and that record's coalescing. -/
def Device.faultN : Nat → Device → Nat → Device
  | 0, d, s => (d.recordEvent s).1
  | k + 1, d, s =>
    let (d1, sev) := d.recordEvent s
    if sev = 3 then d1.enterQuarantine
    else if 4 ≤ sev then d1.assertLine (Device.faultN k) 0x02 s
    else d1

/-- A source reports an event. -/
def Device.fault (d : Device) (s : Nat) : Device := d.faultN 3 s

/-- A source whose cause lasts as a state takes it up, or loses it (R640). -/
def Device.holdCause (d : Device) (s : Nat) (held : Bool) : Device :=
  { d with causes := if held then d.causes.add s else d.causes.erase s }

/-- CAUSE of a source (R640). -/
def Device.cause (d : Device) (s : Nat) : Bool := d.causes.mem s || d.pages.cyc.events.mem s

/-- The ZEROIZE line driven with the collector's own reporting behind it. -/
def Device.zeroize (d : Device) (cause source : Nat) : Device := d.assertLine (Device.faultN 2) cause source

/-- QUARANTINE is left when the last SEV 3 status has cleared (R572, R651). -/
def Device.leaveQuarantine (d : Device) : Device :=
  if d.cust.mode == .quarantine && !(d.sources.any fun e => e.2.pending && e.2.sev == 3) then
    (d.changeMode d.cust.returnTo).raiseInt .flt 0 6
  else d

end Sys2Proof.Machine
end

