-- ==== Sys2Proof/Machine/Writes.lean ====
section
/-! DEFINITION. Writes that have rows of their own: what a page that is being reset or is locked does to them
(02_register_convention.md R41, R48, R49, R51, R53). -/

namespace Sys2Proof.Machine

/-- The base of the page of a register address. -/
def pageBase (a : Nat) : Nat := a / 0x1000 * 0x1000

/-- A soft reset of the page runs (R47). -/
def Device.pageResetting (d : Device) (a : Nat) : Bool := d.pages.resetting.mem (pageBase a)

/-- No write of the register is performed: the page's soft reset runs (R48), or an event returned the register's fields to their
reset values in this cycle (R41). -/
def Device.writeBarred (d : Device) (a : Nat) : Bool := d.pageResetting a || d.returnedNow a

/-- PAGE_CTRL.LOCK (R51). -/
def Device.pageLocked (d : Device) (a : Nat) : Bool := d.bit (pageBase a + 8) 2

/-- A write of a command bit, of an HWS_W1C or of a CNT field: dropped and counted while the register is barred. -/
def Device.onCommand (d : Device) (a : Nat) (f : Device → Device) : Device :=
  if d.writeBarred a then d.writeLost a else f d

/-- A write of RW fields: not performed either while the page is locked. `f` notes a write that it performs on a register which
an event may return to its reset value (R41). -/
def Device.onWrite (d : Device) (a : Nat) (f : Device → Device) : Device :=
  if d.writeBarred a || d.pageLocked a then d.writeLost a else f d

/-- A command that starts while none of the page's commands runs: `busy` masks the command bits of its register
(R38 for the command itself; another command that runs makes the write lost). -/
def Device.onIdle (d : Device) (a req busy : Nat) (f : Device → Device) : Device :=
  d.onCommand a fun d =>
    if d.bit a req then d
    else if d.reg a &&& busy ≠ 0 then d.writeLost a
    else f d

/-- A write of 1s to HWS_W1C bits: bits that hardware set in this cycle stay (R37). -/
def Device.w1c (d : Device) (a m : Nat) : Device :=
  let set := d.pages.cyc.hwSet.get 0 a
  d.clearBits a (m - (m &&& set))

/-- A soft reset of a page starts: refused while the page is locked; a running operation ends ABORTED (R45 to R49). -/
def Device.softStart (d : Device) (base : Nat) (f : Device → Device) : Device :=
  d.onCommand (base + 8) fun d =>
    if d.bit (base + 8) 2 then d.writeLost base
    else f (((d.commandStart (base + 8) 1).mapPages fun p => { p with resetting := p.resetting.add base }).progEnd base true)

end Sys2Proof.Machine
end

