-- ==== Sys2Proof/Machine/Access.lean ====
section
/-! DEFINITION. The access table: regions, the check of every internal access, violations and their capture, and writes of the
region registers (19_interconnect_access.md R735 to R749). -/

namespace Sys2Proof.Machine

def accAt (o : Nat) : Nat := Page.acc.base 0 + o

/-! ## Regions (R737 to R740) -/

/-- The address of register j of region i: 0 BASE, 1 LIMIT, 2 PERM_0, 3 PERM_1, 4 ATTR (R747). -/
def regionReg (i j : Nat) : Nat := Page.acc.base (i / 64) + 0x800 + 0x20 * (i % 64) + 4 * j

/-- A region matches an address. -/
def Device.regionMatches (d : Device) (i a : Nat) : Bool :=
  d.bit (regionReg i 4) 31 && decide (d.reg (regionReg i 0) ≤ a / 4096 ∧ a / 4096 ≤ d.reg (regionReg i 1))

/-- The region whose ATTR register stands at an address. -/
def attrRegion (a : Nat) : Option Nat :=
  if 0xE000 ≤ a ∧ a < 0x12000 ∧ 0x800 ≤ a % 0x1000 ∧ a % 0x20 = 0x10 then
    some (64 * ((a - 0xE000) / 0x1000) + (a % 0x1000 - 0x800) / 0x20)
  else none

/-- The highest fixed region that matches: the ceiling (R740). -/
def Device.ceiling (d : Device) (a : Nat) : Option Nat := [8, 7, 6, 5, 4, 3, 2, 1, 0].find? fun i => d.regionMatches i a

/-- The winning region: the highest-numbered one that matches (R738). Only regions with a written ATTR can be enabled above
the fixed ones. -/
def Device.winner (d : Device) (a : Nat) : Option Nat :=
  match ((d.pages.regs.filterMap fun e => attrRegion e.1).filter fun i => d.regionMatches i a).getLast? with
  | some i => some i
  | none => d.ceiling a

/-- A region grants a kind of access to a class: 0 read, 1 write, 2 execute. -/
def Device.regionGrants (d : Device) (i cls kind : Nat) : Bool := d.bit (regionReg i (2 + cls / 8)) (4 * (cls % 8) + kind)

/-- The check of R743, steps 1 and 2. -/
def Device.accessGranted (d : Device) (cls kind a : Nat) : Bool :=
  match d.winner a, d.ceiling a with
  | some w, some c => d.regionGrants w cls kind && d.regionGrants c cls kind
  | _, _ => false

/-- The attributes delivered with an access: CACHE and ORDER (R741, R742). -/
def Device.accessAttr (d : Device) (a : Nat) : Nat × Nat :=
  let attr := fun i => (d.field (regionReg i 4) 1 0, d.field (regionReg i 4) 5 4)
  match d.winner a, d.ceiling a with
  | some w, some c => if (attr c).2 = 2 then (0, 2) else attr w
  | some w, none => attr w
  | none, _ => (0, 0)

/-- The classes that the table checks: HOST_VF is routed by the front end, and 9 to 15 are never presented (R735, R736). -/
def checkedClass (cls : Nat) : Bool := cls != 1 && decide (cls < 9)

/-! ## Violations (R744, R749) -/

/-- The capture fields of a violation. -/
def Device.captureViolation (d : Device) (cls kind a : Nat) : Device :=
  let info := cls * 2 ^ 16 + kind * 2 ^ 12 + (match d.winner a with | some w => w | none => 2 ^ 8)
  let keep := d.reg (accAt Off.accViolInfo) / 2 ^ 30 * 2 ^ 30
  ((d.setReg (accAt Off.accViolInfo) (keep + info)).setReg (accAt Off.accViolAddrLo) (a % 2 ^ 32)).setReg
    (accAt Off.accViolAddrHi) (a / 2 ^ 32 % 2 ^ 8)

/-- Violations by class, then address. -/
def violBefore (x y : Nat × Nat) : Bool := decide (x.1 < y.1 ∨ (x.1 = y.1 ∧ x.2 < y.2))

/-- VALID set by hardware, with its interrupt (R747). -/
def Device.setValid (d : Device) : Device := (d.hwSet (accAt Off.accViolInfo) (2 ^ 31)).raiseInt .acc 0 0

/-- A violation recorded: loaded while VALID was 0 at the start of the cycle, the lowest of its cycle first; otherwise MORE. -/
def Device.recordViolation (d : Device) (cls kind a : Nat) : Device :=
  let info := accAt Off.accViolInfo
  let v := (cls, 4 * a + kind)
  let earlier := d.pages.cyc.viol
  let loadedNow := bitOf (d.pages.cyc.hwSet.get 0 info) 31
  let d1 := d.mapCyc fun c => { c with viol := v :: c.viol }
  if !d.bit info 31 then (d1.captureViolation cls kind a).setValid
  else
    let d2 := d1.hwSet info (2 ^ 30)
    if loadedNow && earlier.all fun x => violBefore v x then d2.captureViolation cls kind a else d2

/-- A violation: a read returns zero, a write is dropped, a fetch faults in its core, and the source counts. -/
def Device.violation (d : Device) (cls kind a : Nat) : Device :=
  let d1 := (d.recordViolation cls kind a).fault (if cls = 2 then 235 else 236)
  if kind = 0 then d1.emit (.value cls a 0) else if kind = 2 then d1.emit (.fetchFault a) else d1

/-- ACCESS_VIOLATION: an access, or the part of it in one block (R745), that fails the table. One that the table grants, or
does not check, is no violation. -/
def Device.accessViolation (d : Device) (cls kind a : Nat) : Device :=
  if checkedClass cls && decide (a < 2 ^ 40) && !d.accessGranted cls kind a then d.violation cls kind a else d

def execAccessViolation (cls : Fin 16) (kind : Fin 3) (addr : Nat) (s : State) : Host.Outcome State Fault Refusal :=
  s.done (s.dev.accessViolation cls kind addr)

/-- A write of 1s to VALID and MORE. A violation in the cycle of a clear of VALID keeps it set, with its own fields. -/
def Device.violClear (d : Device) (w : Nat) : Device :=
  let info := accAt Off.accViolInfo
  let d1 := d.w1c info (bitsOf w 31 30 * 2 ^ 30)
  match d.pages.cyc.viol with
  | [] => d1
  | v :: vs =>
    if bitOf w 31 && !d1.bit info 31 then
      let m := vs.foldl (fun m x => if violBefore x m then x else m) v
      (d1.captureViolation m.1 (m.2 % 4) (m.2 / 4)).setValid
    else d1

/-! ## Region writes (R746 to R748) -/

/-- What a region register takes of a written value; none where the write sets a reserved bit or code. -/
def regionValue (j v : Nat) : Option Nat :=
  if j < 2 then some (v % 2 ^ 28)
  else if j < 4 then (if v &&& 0x88888888 = 0 then some v else none)
  else if bitsOf v 5 4 = 3 ∨ bitsOf v 1 0 = 3 then none
  else some (v &&& 0x80000033)

/-- REGION_WRITE: performed in CUSTODY and MAINTENANCE; it takes effect in the next SYS cycle, which it lets come. The
registers of a fixed region are RO. -/
def Device.regionWrite (d : Device) (i j v : Nat) : Device :=
  let a := regionReg i j
  if !d.cust.selected || (d.cust.mode != .custody && d.cust.mode != .maintenance) then d.writeLost a
  else if i < 16 then d
  else d.onWrite a fun d =>
    if j < 4 && d.bit (regionReg i 4) 31 then d.writeLost a
    else match regionValue j v with
      | none => d.writeLost a
      | some w => d.passCycle.setReg a w

def execRegionWrite (region : Fin 256) (reg : Fin 5) (value : Word) (s : State) : Host.Outcome State Fault Refusal :=
  s.done (s.dev.regionWrite region reg value.toNat)

end Sys2Proof.Machine
end

