-- ==== Sys2Proof/Machine/Lattice.lean ====
section
/-! DEFINITION. The NTT unit and ML-KEM-768 over it (07_bignum_engines.md R312, R314): the transforms of FIPS 203 and FIPS 204, and
the algorithms of FIPS 203 as that standard gives them, which the spec names (DEDUCED, log entry 150). -/

namespace Sys2Proof.Machine

/-- A polynomial of 256 coefficients. -/
abbrev Poly := List Nat

/-! ## The transform (R312) -/

/-- The low bits of a number, so many of them, in reverse order. -/
def bitRev : Nat → Nat → Nat
  | 0, _ => 0
  | k + 1, n => (n % 2) * 2 ^ k + bitRev k (n / 2)

/-- A transform: its modulus, its root of unity, its layers. -/
structure Ntt where
  q : Nat
  zeta : Nat
  layers : Nat
deriving DecidableEq, Repr

def nttKem : Ntt := { q := 3329, zeta := 17, layers := 7 }
def nttDsa : Ntt := { q := 8380417, zeta := 1753, layers := 8 }

/-- The factor of block b in the layer whose blocks have two halves of `len` coefficients. -/
def Ntt.factor (t : Ntt) (len b : Nat) : Nat := t.zeta ^ bitRev t.layers (128 / len + b) % t.q

/-- One layer of butterflies. -/
def Ntt.layer (t : Ntt) (f : Poly) (len : Nat) : Poly :=
  (List.range 256).map fun j =>
    let w := t.factor len (j / (2 * len))
    if j % (2 * len) < len then (f.getD j 0 + w * f.getD (j + len) 0) % t.q
    else (f.getD (j - len) 0 + (t.q - w * f.getD j 0 % t.q)) % t.q

/-- The halves' lengths, first layer first. -/
def Ntt.lens (t : Ntt) : List Nat := (List.range t.layers).map fun i => 2 ^ (7 - i)

def Ntt.transform (t : Ntt) (f : Poly) : Poly := t.lens.foldl t.layer f

/-- A layer undone, without its factor of two. -/
def Ntt.unlayer (t : Ntt) (f : Poly) (len : Nat) : Poly :=
  (List.range 256).map fun j =>
    let b := j / (2 * len)
    -- the factors of a layer run backwards: their products with the forward ones are minus one
    let w := t.factor len (128 / len - 1 - b)
    if j % (2 * len) < len then (f.getD j 0 + f.getD (j + len) 0) % t.q
    else w * ((f.getD j 0 + t.q - f.getD (j - len) 0) % t.q) % t.q

/-- The inverse of 2 to the number of layers. -/
def Ntt.scale (t : Ntt) : Nat := ((t.q + 1) / 2) ^ t.layers % t.q

def Ntt.inverse (t : Ntt) (f : Poly) : Poly := (t.lens.reverse.foldl t.unlayer f).map fun c => c * t.scale % t.q

/-! ## Polynomials of ML-KEM -/

def Poly.add (a b : Poly) : Poly := (List.range 256).map fun i => (a.getD i 0 + b.getD i 0) % nttKem.q
def Poly.sub (a b : Poly) : Poly := (List.range 256).map fun i => (a.getD i 0 + (nttKem.q - b.getD i 0 % nttKem.q)) % nttKem.q

/-- The product of two transformed polynomials: 128 products modulo X² − γ. -/
def Poly.mul (a b : Poly) : Poly :=
  (List.range 256).map fun i =>
    let j := i / 2
    let g := nttKem.zeta ^ (2 * bitRev 7 j + 1) % nttKem.q
    let a0 := a.getD (2 * j) 0
    let a1 := a.getD (2 * j + 1) 0
    let b0 := b.getD (2 * j) 0
    let b1 := b.getD (2 * j + 1) 0
    if i % 2 = 0 then (a0 * b0 + a1 * b1 % nttKem.q * g) % nttKem.q else (a0 * b1 + a1 * b0) % nttKem.q

def Poly.zero : Poly := List.replicate 256 0
/-- The scalar product of two vectors of transformed polynomials. -/
def Poly.dot (u v : List Poly) : Poly := (List.zipWith Poly.mul u v).foldl Poly.add Poly.zero

def bitsOfBytes (b : Bytes) : List Nat := b.flatMap fun x => (List.range 8).map fun i => x.toNat / 2 ^ i % 2
/-- Numbers of w bits each, lowest bit first. -/
def packBits (w : Nat) (f : List Nat) : Bytes :=
  let bits := f.flatMap fun c => (List.range w).map fun i => c / 2 ^ i % 2
  (List.range (bits.length / 8)).map fun k =>
    BitVec.ofNat 8 (((List.range 8).map fun i => bits.getD (8 * k + i) 0 * 2 ^ i).sum)
def unpackBits (w : Nat) (b : Bytes) : List Nat :=
  let bits := bitsOfBytes b
  (List.range (bits.length / w)).map fun k => ((List.range w).map fun i => bits.getD (w * k + i) 0 * 2 ^ i).sum

def compress (w c : Nat) : Nat := (2 ^ (w + 1) * c + nttKem.q) / (2 * nttKem.q) % 2 ^ w
def decompress (w c : Nat) : Nat := (2 * nttKem.q * c + 2 ^ w) / 2 ^ (w + 1)

/-- A transformed polynomial from a seed: pairs of 12-bit numbers below the modulus, from 280 groups of three bytes. -/
def samplePoly (seed : Bytes) : Poly :=
  let b := Config.shake128 840 seed
  let two := fun i =>
    let v := leNat (slice b (3 * i) 3)
    [v % 4096, v / 4096]
  (((List.range 280).flatMap two).filter (· < nttKem.q)).take 256

/-- A polynomial of small coefficients from a seed and a counter. -/
def smallPoly (seed : Bytes) (n : Nat) : Poly :=
  let bits := bitsOfBytes (Config.shake256 128 (seed ++ [BitVec.ofNat 8 n]))
  (List.range 256).map fun i =>
    (bits.getD (4 * i) 0 + bits.getD (4 * i + 1) 0 + nttKem.q - bits.getD (4 * i + 2) 0 - bits.getD (4 * i + 3) 0) % nttKem.q

def kemEntry (rho : Bytes) (i j : Nat) : Poly := samplePoly (rho ++ [BitVec.ofNat 8 j, BitVec.ofNat 8 i])

/-- Key generation of the encryption scheme from its seed: the encapsulation key and the secret vector. -/
def kemPair (d : Bytes) : Bytes × List Poly :=
  let g := Config.sha3Long (d ++ [3])
  let rho := g.take 32
  let s := (List.range 3).map fun i => nttKem.transform (smallPoly (g.drop 32) i)
  let e := (List.range 3).map fun i => nttKem.transform (smallPoly (g.drop 32) (3 + i))
  let t := (List.range 3).map fun i => Poly.add (Poly.dot ((List.range 3).map (kemEntry rho i)) s) (e.getD i [])
  (t.flatMap (packBits 12) ++ rho, s)

/-- Encryption of 32 bytes under an encapsulation key with randomness. -/
def kemEncrypt (ek m r : Bytes) : Bytes :=
  let rho := slice ek 1152 32
  let t := (List.range 3).map fun i => unpackBits 12 (slice ek (384 * i) 384)
  let y := (List.range 3).map fun i => nttKem.transform (smallPoly r i)
  let u := (List.range 3).map fun i =>
    Poly.add (nttKem.inverse (Poly.dot ((List.range 3).map fun j => kemEntry rho j i) y)) (smallPoly r (3 + i))
  let mu := (unpackBits 1 m).map (decompress 1)
  let v := Poly.add (Poly.add (nttKem.inverse (Poly.dot t y)) (smallPoly r 6)) mu
  (u.flatMap fun p => packBits 10 (p.map (compress 10))) ++ packBits 4 (v.map (compress 4))

def kemDecrypt (s : List Poly) (c : Bytes) : Bytes :=
  let u := (List.range 3).map fun i => (unpackBits 10 (slice c (320 * i) 320)).map (decompress 10)
  let v := (unpackBits 4 (slice c 960 128)).map (decompress 4)
  let w := Poly.sub v (nttKem.inverse (Poly.dot s (u.map nttKem.transform)))
  packBits 1 (w.map (compress 1))

/-! ## Encapsulation and decapsulation (R314) -/

/-- The encapsulation key of the stored seeds d and z. -/
def kemPublic (key : Bytes) : Bytes := (kemPair (key.take 32)).1

/-- Encapsulation: the ciphertext and the shared secret that 32 random bytes give. -/
def encapsulate (ek r : Bytes) : Bytes × Bytes :=
  let m := padTo 32 r
  let g := Config.sha3Long (m ++ Config.sha3 ek)
  (kemEncrypt ek m (g.drop 32), g.take 32)

/-- The decapsulation key that the seeds expand to: secret vector, encapsulation key, its hash, z. -/
def kemExpand (key : Bytes) : Bytes :=
  let p := kemPair (key.take 32)
  p.2.flatMap (packBits 12) ++ p.1 ++ Config.sha3 p.1 ++ slice key 32 32

/-- The hash check of a decapsulation key. -/
def kemHashOk (dk : Bytes) : Bool := Config.sha3 (slice dk 1152 1184) == slice dk 2336 32

/-- Decapsulation: where re-encryption differs, or the key fails its hash check, the implicit-rejection secret. -/
def decapsulate (key ct : Bytes) : Bytes :=
  let dk := kemExpand key
  let s := (List.range 3).map fun i => unpackBits 12 (slice dk (384 * i) 384)
  let m := kemDecrypt s ct
  let g := Config.sha3Long (m ++ slice dk 2336 32)
  if kemHashOk dk && kemEncrypt (slice dk 1152 1184) m (g.drop 32) == ct then g.take 32
  else Config.shake256 32 (slice dk 2368 32 ++ ct)

end Sys2Proof.Machine
end

