-- ==== Sys2Proof/Machine/Operands.lean ====
section
/-! DEFINITION. Operand forms: descriptors, completions, PAN operands, PIN block codes, the contracts of the services as the
order of checks applies them (03_host_queues.md R76 to R90, 06_payment_services.md, 07_bignum_engines.md R321 to R324). -/

namespace Sys2Proof.Machine

/-! ## Descriptors (R76) -/

/-- The 64 bytes of a descriptor, little-endian. -/
def Desc.parse (bs : Bytes) : Desc :=
  { service := leNat (slice bs 0 2), flags := leNat (slice bs 2 2), tag := leNat (slice bs 4 4)
    epoch := leNat (slice bs 8 4), pgen := leNat (slice bs 0xC 2), param := leNat (slice bs 0xE 2)
    keyA := leNat (slice bs 0x10 8), keyB := leNat (slice bs 0x18 8), inline0 := slice bs 0x20 16
    inline1 := slice bs 0x30 16 }

/-- The 64 bytes of a descriptor, as a replay record or a migrated item carries them. -/
def Desc.encode (x : Desc) : Bytes :=
  leBytes 2 x.service ++ leBytes 2 x.flags ++ leBytes 4 x.tag ++ leBytes 4 x.epoch ++ leBytes 2 x.pgen
    ++ leBytes 2 x.param ++ leBytes 8 x.keyA ++ leBytes 8 x.keyB ++ padTo 16 x.inline0 ++ padTo 16 x.inline1

def Desc.buf (x : Desc) : Bool := bitOf x.flags 0
def Desc.fence (x : Desc) : Bool := bitOf x.flags 2
def Desc.noIrq (x : Desc) : Bool := bitOf x.flags 3
def Desc.variant (x : Desc) : Nat := x.param % 256
def Desc.paramHi (x : Desc) : Nat := x.param / 256
def Desc.inLen (x : Desc) : Nat := leNat (slice x.inline1 0 2)
def Desc.outCap (x : Desc) : Nat := leNat (slice x.inline1 2 2)
def Desc.bufAddr (x : Desc) : Nat := leNat (slice x.inline1 8 8)

/-! ## Completions (R87) -/

/-- The unit of DELAY: 16 ns, rounded up, from SYS cycles of 5/6 ns; it saturates (R103). -/
def delayUnits (cycles : Nat) : Nat := min ((cycles * 5 + 95) / 96) 0xFFFF

/-- ADMIT of a completion: REFUSED exactly for the refusals and the epoch statuses (R88). -/
def admitCode (st : Status) (decided : Option Admit) : Nat :=
  if st.code ∈ [0x10, 0x11, 0x12, 0x13, 0x20, 0x21] then 2
  else match decided with
    | some .delayed => 1
    | _ => 0

/-- STATUS of a completion: OK of an item that admission deferred reads OK_DELAYED (R89). -/
def Comp.statusByte (c : Comp) (deferred : Bool) : Nat :=
  if c.status = .ok ∧ deferred then 0x01 else c.status.code

/-- Whether a status lets outputs go (R78). -/
def Status.good (st : Status) : Bool := st == .ok || st == .okDelayed

/-- The 32 bytes of a completion. -/
def Item.completion (x : Item) (c : Comp) (sqHead qp : Nat) (phase : Bool) : Bytes :=
  let wrote := c.status.good && c.buffer.isSome
  leBytes 4 x.desc.tag ++ leBytes 1 (c.statusByte x.adm.deferred) ++ leBytes 1 (admitCode c.status x.adm.decided)
    ++ leBytes 2 x.adm.delay ++ leBytes 2 sqHead ++ leBytes 1 qp
    ++ leBytes 1 (if x.route.window then 0x80 + x.route.slot % 8 else 0) ++ leBytes 2 c.detail
    ++ leBytes 2 (boolNat phase + 2 * boolNat wrote)
    ++ (if c.status.good || x.desc.bundle then padTo 16 c.result else zeros 16)

/-! ## Digits, nibbles and the PAN operand (06_payment_services.md R227, R228) -/

/-- Nibble i of a string, the high nibble of each byte first. -/
def nibble (bs : Bytes) (i : Nat) : Nat :=
  let b := (bs.getD (i / 2) 0).toNat
  if i % 2 = 0 then b / 16 else b % 16

/-- The first n nibbles. -/
def nibbles (bs : Bytes) (n : Nat) : List Nat := (List.range n).map (nibble bs)

/-- Nibbles packed into bytes, high nibble first; an odd last nibble is followed by zero. -/
def packNibbles : List Nat → Bytes
  | [] => []
  | [a] => [BitVec.ofNat 8 (a * 16)]
  | a :: b :: r => BitVec.ofNat 8 (a * 16 + b) :: packNibbles r

/-- The number of PAN digits. -/
def panLen (p : Bytes) : Nat := nibble p 0 + 12

/-- The digits of a PAN operand. -/
def panDigits (p : Bytes) : List Nat := ((nibbles p 20).drop 1).take (panLen p)

/-- A valid PAN operand (R228). -/
def panOk (p : Bytes) : Bool :=
  decide (nibble p 0 ≤ 7) && (panDigits p).all (· ≤ 9) && ((nibbles p 20).drop (1 + panLen p)).all (· == 0)

/-- A PAN operand of digits. -/
def panOperand (digits : List Nat) : Bytes := padTo 10 (packNibbles ((digits.length - 12) :: digits))

/-- All bytes are zero. -/
def allZero (bs : Bytes) : Bool := bs.all (· == 0)

/-- Bits that are one in a number below 2^n. -/
def popCount (n v : Nat) : Nat := ((List.range n).filter fun i => v.testBit i).length

/-! ## PIN block codes (R229) -/

def pinCodes : List Nat := [0x0, 0x1, 0x3, 0x4, 0x5, 0x6, 0x8, 0x9, 0xB]

/-- A code of an AES format 4 block. -/
def pinAes (c : Nat) : Bool := decide (c ∈ [4, 5, 6])

/-- The ISO 9564-1 format of a code. -/
def pinFormat (c : Nat) : Nat := if pinAes c then 4 else c % 8

/-- An 8-byte block leaves bytes 8–15 of its field zero (R230). -/
def pinFieldOk (c : Nat) (field : Bytes) : Bool := pinAes c || allZero (field.drop 8)

/-- An outbound code that a translation offers (R245). -/
def pinOutOk (inc outc : Nat) : Bool :=
  decide (outc ∈ pinCodes) && outc != 0x1 && outc != 0x9 && (!pinAes inc || pinAes outc)

/-! ## The catalogue (R242, R321) -/

/-- Services of the catalogue and engine services. -/
def catalogue : List Nat :=
  [0x0101, 0x0102, 0x0103, 0x0104, 0x0105, 0x0201, 0x0210, 0x0211, 0x0301, 0x0302, 0x0303, 0x0304, 0x0305, 0x0306,
   0x0401, 0x0402, 0x0403, 0x0404, 0x0405, 0x0406, 0x0601, 0x0602, 0x0603, 0x0604, 0x0F00,
   0x0501, 0x0502, 0x0503, 0x0504, 0x0505, 0x0510, 0x0511, 0x0512, 0x0513, 0x0520, 0x0521, 0x0530, 0x0531, 0x0540]

/-- SERVICE_ID in a range of R79. -/
def serviceInRange (s : Nat) : Bool :=
  decide ((0x0100 ≤ s ∧ s ≤ 0x06FF) ∨ (0x0F00 ≤ s ∧ s ≤ 0x0FFF) ∨ (0x8000 ≤ s ∧ s ≤ 0xFFFF))

/-- An operator table's ID. -/
def isOperator (s : Nat) : Bool := decide (0x8000 ≤ s)
/-- An engine service's ID. -/
def isEngine (s : Nat) : Bool := decide (0x0500 ≤ s ∧ s ≤ 0x05FF)
/-- A key-side service's ID (R237). -/
def isKeySide (s : Nat) : Bool := decide (0x0400 ≤ s ∧ s ≤ 0x04FF)

/-- The variants each section defines (R224, R229, R245, R782, R321). -/
def definedVariant (s v : Nat) : Bool :=
  let hi := v / 16
  let lo := v % 16
  match s with
  | 0x0101 => decide (hi ∈ pinCodes) && pinOutOk hi lo
  | 0x0102 => decide (hi ∈ [0, 3, 4, 5, 6]) && pinOutOk hi lo
  | 0x0103 => decide (1 ≤ hi ∧ hi ≤ 5 ∧ lo ∈ pinCodes)
  | 0x0104 => decide (hi = 4 ∧ lo ∈ pinCodes)
  | 0x0105 => decide (hi ∈ [0, 4, 5, 6] ∧ lo ≤ 2)
  | 0x0201 => decide (v / 64 ≤ 2 ∧ lo ≤ 3 ∧ (hi % 4 = 0 ∨ (hi % 4 = 1 ∧ lo = 0)))
  | 0x0301 | 0x0302 => decide (1 ≤ hi ∧ hi ≤ 3 ∧ lo ≤ 2)
  | 0x0303 | 0x0304 => decide (hi ≤ 2 ∧ lo ≤ 2)
  | 0x0305 | 0x0306 => decide (hi = 0 ∧ lo ≤ 2)
  | 0x0401 | 0x0402 | 0x0403 | 0x0404 => decide (1 ≤ v ∧ v ≤ 5)
  | 0x0501 | 0x0502 => decide ((hi = 1 ∨ hi = 2) ∧ 1 ≤ lo ∧ lo ≤ 3)
  | 0x0503 => decide (1 ≤ v ∧ v ≤ 3)
  | 0x0504 => decide (v ∈ [0x01, 0x10, 0x11, 0x20, 0x30] ∨ (0x80 ≤ v ∧ v ≤ 0xBF))
  | 0x0510 | 0x0511 => decide (v = 0x10 ∨ v = 0x11)
  | 0x0512 | 0x0513 => decide (v ≤ 0x3F)
  | _ => decide (v = 0)

/-- Message authentication services. -/
def isMac (s : Nat) : Bool := decide (0x0301 ≤ s ∧ s ≤ 0x0306)

/-- Services that take an input stream: from a buffer outside a bundle, from bundle data inside one (R244). -/
def isStream (s : Nat) : Bool := isMac s || s == 0x0201

/-- Services that take FLAGS.BUF = 1 (R244, R321). -/
def needsBuf (s : Nat) : Bool := isStream s || isEngine s || decide (s ∈ [0x0102, 0x0105, 0x0403, 0x0404])

/-- Bundle steps of the catalogue (R242); an HMAC only with a MAC of up to 16 bytes. -/
def bundleStep (x : Desc) : Bool :=
  decide (x.service ∈ [0x0101, 0x0103, 0x0104, 0x0201, 0x0210, 0x0211, 0x0301, 0x0302, 0x0303, 0x0304, 0x0602, 0x0F00])
    || (decide (x.service = 0x0305 ∨ x.service = 0x0306) && decide (x.paramHi ≤ 16))

/-- Services whose KEY_A and KEY_B name something (R242, R321). -/
def usesKeyA (s : Nat) : Bool :=
  s ∉ [0x0401, 0x0602, 0x0603, 0x0F00, 0x0F01, 0x0502, 0x0504, 0x0511, 0x0513, 0x0521, 0x0530, 0x0540]
def usesKeyB (s : Nat) : Bool :=
  isOperator s || s ∈ [0x0101, 0x0102, 0x0103, 0x0104, 0x0401, 0x0403, 0x0404, 0x0602, 0x0603, 0x0604, 0x0503, 0x0504]

/-- Services that name in KEY_B a handle to create (R264). -/
def createsHandle (s : Nat) : Bool := decide (s ∈ [0x0401, 0x0403, 0x0503, 0x0504])

/-- Services that name in KEY_B a token record ID (R270). -/
def tokenInB (s : Nat) : Bool := decide (s ∈ [0x0602, 0x0603, 0x0604])

/-- Services that commit (R242, R321). The lifecycle service commits except for QUERY. -/
def Desc.commits (x : Desc) : Bool :=
  decide (x.service ∈ [0x0401, 0x0402, 0x0403, 0x0406, 0x0601, 0x0604, 0x0503, 0x0504])
    || (x.service == 0x0603 && x.paramHi != 0)

/-- Services that create record identities and count in store use (12_tenancy.md R537). -/
def Desc.createsRecords (x : Desc) : Bool :=
  decide (x.service ∈ [0x0401, 0x0402, 0x0403, 0x0503, 0x0504, 0x0601, 0x0604])

/-- The largest message of a size class; the retail MAC's class 2 is 1,024 bytes. -/
def sizeClass (s v : Nat) : Nat :=
  if v % 16 = 0 then 64 else if v % 16 = 1 then 512 else if s = 0x0301 ∨ s = 0x0302 then 1024 else 4096

/-- MAC lengths (R261). -/
def macLenOk (s n : Nat) : Bool :=
  if s = 0x0301 ∨ s = 0x0302 then decide (4 ≤ n ∧ n ≤ 8)
  else if s = 0x0303 ∨ s = 0x0304 then decide (4 ≤ n ∧ n ≤ 16)
  else if s = 0x0305 then decide (8 ≤ n ∧ n ≤ 32) else decide (8 ≤ n ∧ n ≤ 16)

/-- A DUKPT key serial number with its counter (R249, R250). -/
def ksnOk (code : Nat) (i0 : Bytes) : Bool :=
  if pinAes code then
    let c := beNat (slice i0 8 4)
    allZero (slice i0 12 4) && c != 0 && decide (popCount 32 c ≤ 16)
  else
    let c := beNat (slice i0 0 10) % 2 ^ 21
    allZero (slice i0 10 6) && c != 0 && decide (popCount 21 c ≤ 10)

/-- Usage codes of R236. -/
def usageCodes : List Nat := [0x11, 0x21, 0x22, 0x23, 0x24, 0x31, 0x32, 0x41, 0x42, 0x51, 0x52, 0x53, 0x61]

/-- A usage and algorithm that a key may be created with (R265, R591). -/
def createOk (usage alg : Nat) : Bool :=
  decide (usage ∈ usageCodes) && decide (1 ≤ alg ∧ alg ≤ 5) && (decide (usage ≠ 0x53 ∧ usage ≠ 0x61) || alg == 3)

/-- INLINE_0 of key generate (R265). -/
def generateOk (i0 : Bytes) : Bool :=
  createOk (i0.getD 0 0).toNat (i0.getD 1 0).toNat && decide ((i0.getD 2 0).toNat ≤ 1) && allZero (i0.drop 3)

/-- Digits of a token that are free under its rules (R272). -/
def freeDigits (rules len : Nat) : Nat := len - (if bitOf rules 0 then 4 else 0) - (if bitOf rules 1 then 6 else 0)

/-- A BCD string of n nibbles. -/
def bcdOk (bs : Bytes) (n : Nat) : Bool := (nibbles bs n).all (· ≤ 9)

/-- The offset of 0x0103: exactly n leading decimal digits, then nibbles of 0xF (R252). -/
def offsetOk (n : Nat) (bs : Bytes) : Bool :=
  ((nibbles bs 12).take n).all (· ≤ 9) && ((nibbles bs 12).drop n).all (· == 0xF)

/-- The inline operands of a service (R228, R230, R243, R252 to R263, R265, R272, R275, R783). The second argument says that
the descriptor is a bundle step; operand rules that depend on the variant are applied to a defined one only (R224). -/
def inlineOk (x : Desc) (step : Bool) : Bool :=
  let i0 := x.inline0
  let i1 := if x.buf then zeros 16 else x.inline1
  let v := x.variant
  let defd := definedVariant x.service v
  match x.service with
  | 0x0101 => (!defd || pinFieldOk (v / 16) i0) && panOk (i1.take 10) && allZero (i1.drop 10)
  | 0x0102 => allZero (i0.drop 12) && (!defd || ksnOk (v / 16) i0)
  | 0x0103 => (!defd || pinFieldOk (v % 16) i0) && panOk (i1.take 10) && decide (4 ≤ x.paramHi ∧ x.paramHi ≤ 12)
      && offsetOk x.paramHi (i1.drop 10)
  | 0x0104 => (!defd || pinFieldOk (v % 16) i0) && panOk (i1.take 10) && bcdOk (slice i1 10 2) 4
      && decide ((i1.getD 12 0).toNat ≤ 6) && allZero (i1.drop 13)
  | 0x0105 => allZero (i0.drop 12) && (!defd || ksnOk (v / 16) i0)
  | 0x0201 =>
      let m := v / 64
      allZero (i0.drop 15) && (!defd || (if m = 1 then allZero (i0.drop 13) else if m = 2 then true else allZero (i0.drop 11)))
        && bcdOk (slice i0 10 1) 2 && (!step || (panOk (i1.take 10) && allZero (i1.drop 10)))
  | 0x0210 => allZero i0 && panOk (i1.take 10) && bcdOk (slice i1 10 2) 4 && bcdOk (slice i1 12 2) 3
      && nibble (i1.drop 12) 3 == 0xF && allZero (i1.drop 14)
  | 0x0211 => bcdOk i0 3 && nibble i0 3 == 0xF && allZero (i0.drop 2) && panOk (i1.take 10) && bcdOk (slice i1 10 2) 4
      && bcdOk (slice i1 12 2) 3 && nibble (i1.drop 12) 3 == 0xF && allZero (i1.drop 14)
  | 0x0301 | 0x0303 | 0x0305 => macLenOk x.service x.paramHi && allZero i0 && allZero i1
  | 0x0302 | 0x0304 | 0x0306 => macLenOk x.service x.paramHi && allZero (i0.drop x.paramHi) && allZero i1
  | 0x0401 => generateOk i0 && (!defd || (i0.getD 1 0).toNat == v % 16) && allZero i1
  | 0x0503 => generateOk i0
  | 0x0504 => decide ((i0.getD 0 0).toNat ∈ [1, 2, 3, 4, 5]) && allZero (i0.drop 1)
      && (if v = 1 then decide (32 ≤ x.paramHi ∧ x.paramHi ≤ 128) else x.paramHi == 0)
  | 0x0540 => decide (1 ≤ leNat (slice i0 0 2) ∧ leNat (slice i0 0 2) ≤ 128 ∧ 1 ≤ leNat (slice i0 2 2)
      ∧ leNat (slice i0 2 2) ≤ 128) && allZero (i0.drop 4)
  | 0x0601 => allZero i0 && panOk (i1.take 10) && bcdOk (slice i1 10 2) 4 && allZero (i1.drop 12)
      && decide (6 ≤ freeDigits x.paramHi (panLen i1))
  | 0x0603 => allZero i0 && allZero i1 && decide (x.paramHi ≤ 3)
  | 0x0F00 => allZero i1
  | _ => isOperator x.service || !decide (x.service ∈ catalogue) || (allZero i0 && allZero i1)

/-- Keys the catalogue gives as 0 are zero; a handle to create has version zero (R243, R264). -/
def keysOk (x : Desc) : Bool :=
  isOperator x.service || !decide (x.service ∈ catalogue) ||
    ((usesKeyA x.service || x.keyA == 0) && (usesKeyB x.service || x.keyB == 0)
      && (!createsHandle x.service || bitsOf x.keyB 23 8 == 0))

/-- PARAM[15:8] of a catalogued service that defines none is zero (R223, R225, R272); of RSA key pair generation it is the
length, with a rule of its own (R322, R324). An ID outside the catalogue has no such rule (R79). -/
def paramOk (x : Desc) : Bool :=
  if isOperator x.service then x.param == 0
  else if x.service ∉ catalogue then true
  else if x.service ∈ [0x0103, 0x0603, 0x0504] || isMac x.service then true
  else if x.service = 0x0601 ∨ x.service = 0x0604 then decide (x.paramHi < 8)
  else x.paramHi == 0

/-- A digest's length by its hash code. -/
def hashLen (c : Nat) : Nat := if c = 1 then 32 else if c = 2 then 48 else 64

/-- Public-key lengths of R322 for a named curve variant. -/
def ecPubLen (v : Nat) : Nat := if v = 0x10 then 65 else 97
def ecSigLen (v : Nat) : Nat := if v = 0x10 then 64 else 96

/-- IN_LEN and OUT_CAP as far as the descriptor alone decides them (R249, R256, R258, R262, R265, R322, R324). -/
def lengthOk (x : Desc) : Bool :=
  let n := x.inLen
  let c := x.outCap
  let v := x.variant
  let defd := definedVariant x.service v
  match x.service with
  | 0x0102 => n == 32
  | 0x0105 =>
      let b := if v / 16 = 0 then 8 else 16
      decide (16 < n) && decide (n - 16 ≤ c) &&
        (!defd || (decide ((n - 16) % b = 0) && decide (n - 16 ≤ sizeClass x.service v)))
  | 0x0201 => decide (17 ≤ n ∧ n ≤ 272)
  | 0x0301 | 0x0302 | 0x0303 | 0x0304 | 0x0306 => !defd || decide (n ≤ sizeClass x.service v)
  | 0x0305 => (!defd || decide (n ≤ sizeClass x.service v)) && (decide (x.paramHi ≤ 16) || decide (x.paramHi ≤ c))
  | 0x0403 => decide (16 ≤ n ∧ n ≤ 512)
  | 0x0404 => n == 0
  | 0x0501 => n == hashLen (v % 16)
  | 0x0502 => decide (8 + hashLen (v % 16) < n)
  | 0x0503 => decide (0 < n)
  | 0x0504 => n == 0 && decide ((if v = 1 then x.paramHi * 8 else if v = 0x10 then 65 else if v = 0x11 then 97
      else if v = 0x20 then 1952 else if v = 0x30 then 1184 else 0) ≤ c)
  | 0x0505 => n == 0
  | 0x0510 => decide (20 ≤ n ∧ n ≤ 64) && decide (ecSigLen v ≤ c)
  | 0x0512 => decide (20 ≤ n ∧ n ≤ 64)
  | 0x0511 => decide (ecPubLen v + ecSigLen v + 20 ≤ n ∧ n ≤ ecPubLen v + ecSigLen v + 64)
  | 0x0513 => decide (20 < n)
  | 0x0520 => decide (1 ≤ n) && decide (3309 ≤ c)
  | 0x0521 => decide (1952 + 3309 + 1 ≤ n)
  | 0x0530 => n == 1184 && decide (1120 ≤ c)
  | 0x0531 => n == 1088 && decide (32 ≤ c)
  | 0x0540 => n == leNat (slice x.inline0 0 2) * 16 + leNat (slice x.inline0 2 2) * 8
      && decide (leNat (slice x.inline0 0 2) * 8 ≤ c)
  | _ => true

/-- Step 3 of R93 for a descriptor outside a bundle, or for a step entry: the FORMAT detail, if one applies. Several causes
at once give the lowest detail code (log entry 9). -/
def formatDetail (x : Desc) (step : Bool) : Option Nat :=
  if 16 ≤ x.flags ∨ (x.buf ∧ !allZero (slice x.inline1 4 4)) ∨ !paramOk x then some 0x01
  else if !serviceInRange x.service then some 0x02
  else if x.buf ∧ (x.bufAddr = 0 ∨ x.bufAddr % 64 ≠ 0) then some 0x03
  else if !step ∧ !isOperator x.service ∧ x.service ∈ catalogue ∧ (needsBuf x.service ≠ x.buf) then some 0x03
  else if !step ∧ x.buf ∧ !lengthOk x then some 0x03
  else if !keysOk x ∨ !inlineOk x step ∨ (isEngine x.service ∧ x.service ∈ catalogue
      ∧ !definedVariant x.service x.variant) then some 0x07
  else none

/-! ## Algorithms and key lengths (R137, R229) -/

/-- Key bytes of an ALG code. -/
def algLen (a : Nat) : Nat :=
  if a = 1 ∨ a = 4 then 16 else if a = 2 ∨ a = 5 then 24 else 32

/-- A TDES algorithm. -/
def algTdes (a : Nat) : Bool := a == 4 || a == 5

/-- Strength ranks of R267. -/
def algRank (a : Nat) : Nat :=
  if a = 4 then 0 else if a = 5 then 1 else if a = 1 then 2 else if a = 2 then 3 else 4

/-- ALG of a PIN block code (R229). -/
def pinAlg (c : Nat) : Nat :=
  if c = 4 then 3 else if c = 5 then 2 else if c = 6 then 1 else if c < 8 then 4 else 5

/-! ## Key-block headers (R266) -/

/-- The usage code that a key block's usage and mode give (R266). -/
def blockUsage (u m : Bytes) : Option Nat :=
  let usage := beNat u
  let mode := beNat m
  let is := fun (a b : Char) => usage == a.toNat * 256 + b.toNat
  let among := fun (cs : List Char) => cs.any fun c => c.toNat == mode
  if is 'K' '1' && among ['B', 'D', 'E'] then some 0x11
  else if is 'P' '0' && among ['B', 'D', 'E'] then some 0x21
  else if is 'V' '1' && among ['N', 'G', 'V', 'C'] then some 0x22
  else if is 'V' '2' && among ['N', 'G', 'V', 'C'] then some 0x23
  else if is 'B' '0' && among ['X', 'N'] then some 0x24
  else if is 'D' '0' && among ['E'] then some 0x31
  else if is 'D' '0' && among ['D'] then some 0x32
  else if is 'E' '0' && among ['X', 'N'] then some 0x41
  else if is 'C' '0' && among ['C', 'G', 'V'] then some 0x42
  else if is 'M' '3' && among ['C', 'G', 'V'] then some 0x51
  else if is 'M' '6' && among ['C', 'G', 'V'] then some 0x52
  else if is 'M' '7' && among ['C', 'G', 'V'] then some 0x53
  else none

/-- Decimal digits of a byte string. -/
def asciiNat (bs : Bytes) : Option Nat :=
  if bs.all fun b => decide (48 ≤ b.toNat ∧ b.toNat ≤ 57) then some (bs.foldl (fun n b => 10 * n + (b.toNat - 48)) 0) else none

/-- The header of a block to import, under a KBPK of an ALG: version letter, length, usage and mode, algorithm, version number "00",
exportability, the count of optional blocks (R265, R266). -/
def blockHeaderOk (alg : Nat) (blk : Bytes) : Bool :=
  (blk.getD 0 0).toNat == (if algTdes alg then 'B'.toNat else 'D'.toNat) && asciiNat (slice blk 1 4) == some blk.length
    && (blockUsage (slice blk 5 2) (slice blk 8 1)).isSome && decide ((blk.getD 7 0).toNat ∈ ['A'.toNat, 'T'.toNat, 'H'.toNat])
    && slice blk 9 2 == [48, 48] && decide ((blk.getD 11 0).toNat ∈ ['E'.toNat, 'S'.toNat, 'N'.toNat])
    && (asciiNat (slice blk 12 2)).isSome && slice blk 14 2 == [48, 48]

/-- A length or capacity that is too small beside what else step 3 found: the lowest detail code (log entry 9). -/
def withLength (bad : Bool) : Option Nat → Option Nat
  | some k => some (if bad && decide (3 < k) then 3 else k)
  | none => if bad then some 3 else none

/-- The bundle data of a stream-input step has a length the step's section gives (R258, R262). -/
def stepLengthOk (x : Desc) (n : Nat) : Bool :=
  if x.service = 0x0201 then decide (1 ≤ n ∧ n ≤ 256)
  else !isMac x.service || !definedVariant x.service x.variant || decide (n ≤ sizeClass x.service x.variant)

/-- Buffer contents that a service's section fixes, checked when the read ends (R94, R228, R230, R256, R324, R783). -/
def bufferDetail (x : Desc) (data : Bytes) : Option Nat :=
  let v := x.variant
  match x.service with
  | 0x0102 => if pinFieldOk (v / 16) (slice data 0 16) && panOk (slice data 16 10) && allZero (slice data 26 6) then none
      else some 0x07
  | 0x0105 => if v / 16 ≠ 0 || allZero (slice data 8 8) then none else some 0x07
  | 0x0201 => if panOk (slice data 0 10) && allZero (slice data 10 6) then none else some 0x07
  | 0x0403 => if blockHeaderOk (v % 16) (data.take x.inLen) then none else some 0x07
  | 0x0502 =>
      let l := leNat (slice data 0 2)
      let e := leNat (slice data 2 4)
      if !(decide (1024 ≤ l ∧ l ≤ 8192 ∧ l % 64 = 0) && decide (e % 2 = 1 ∧ 3 ≤ e) && allZero (slice data 6 2)) then some 0x07
      else if x.inLen ≠ 8 + l / 8 + l / 8 + hashLen (v % 16) then some 0x03 else none
  | 0x0520 => if (data.getD 0 0).toNat + 1 ≤ x.inLen then none else some 0x03
  | 0x0521 => if 1952 + 3309 + 1 + (data.getD (1952 + 3309) 0).toNat ≤ x.inLen then none else some 0x03
  | _ => none

/-! ## Bundles (R80 to R86, R278 to R281) -/

/-- A data carrier that keeps its rules (R278). -/
def carrierOk (x : Desc) : Bool :=
  let n := x.param % 64
  decide (1 ≤ n ∧ n ≤ 32) && decide (x.param < 64) && x.keyA == 0 && x.keyB == 0
    && allZero ((x.inline0 ++ x.inline1).drop n)

/-- A carrier entry. -/
def isCarrier (x : Desc) : Bool := x.service == 0x0F01

/-- The bundle data of step k: the counted bytes of every carrier before it (R279). -/
def bundleData (steps : List Desc) (k : Nat) : Bytes :=
  ((steps.take k).filter isCarrier).flatMap fun c => (c.inline0 ++ c.inline1).take (c.param % 64)

/-- Every carrier precedes a stream-input step (R280). -/
def carriersFeed : List Desc → Bool
  | [] => true
  | x :: xs => (!isCarrier x || xs.any fun y => isStream y.service) && carriersFeed xs

/-- The bundle rules over the step entries (R81, R278, R280). -/
def bundleOk (x : Desc) (steps : List Desc) : Bool :=
  steps.all (fun e => e.flags == 0 && (if isCarrier e then carrierOk e else bundleStep e)) && carriersFeed steps
    && (match steps.head? with | some e => e.service == x.service | none => false)

/-- Step 3 of R93 for a bundle descriptor's own fields (R80, R82, R86, R90). -/
def bundleDetail (x : Desc) : Option Nat :=
  if 16 ≤ x.flags ∨ (x.buf ∧ !allZero (slice x.inline1 4 4)) ∨ 2 ≤ x.param then some 0x01
  else if !serviceInRange x.service then some 0x02
  else if x.buf ∧ (x.bufAddr = 0 ∨ x.bufAddr % 64 ≠ 0) then some 0x03
  else if !x.buf ∨ x.inLen ∉ [128, 192, 256] ∨ x.outCap < x.inLen / 4 then some 0x04
  else none

/-- The step entries in a bundle's buffer. -/
def bundleSteps (data : Bytes) (inLen : Nat) : List Desc :=
  (List.range (inLen / 64)).map fun k => Desc.parse (slice data (64 * k) 64)

/-- Step 3 of R93 for step k of a bundle (R82, R224). -/
def stepDetail (steps : List Desc) (k : Nat) (x : Desc) : Option Nat :=
  withLength (!stepLengthOk x (bundleData steps k).length) (formatDetail x true)

/-! ## Contract headers (04_tide_tables.md R136 to R139) -/

def hdr (h : Bytes) (off n : Nat) : Nat := leNat (slice h off n)
def TableVersion.service (t : TableVersion) : Nat := hdr t.header 0x06 2
def TableVersion.variant (t : TableVersion) : Nat := hdr t.header 0x08 1
def TableVersion.signer (t : TableVersion) : Nat := hdr t.header 0x09 1
def TableVersion.ver (t : TableVersion) : Nat := hdr t.header 0x0A 2
def TableVersion.bundles (t : TableVersion) : Nat := hdr t.header 0x0C 2
def TableVersion.cycles (t : TableVersion) : Nat := hdr t.header 0x0E 2
def TableVersion.resMask (t : TableVersion) : Nat := hdr t.header 0x10 4
def TableVersion.compat (t : TableVersion) : Bool := bitOf (hdr t.header 0x14 2) 0
def TableVersion.rngBlocks (t : TableVersion) : Nat := hdr t.header 0x19 1
def TableVersion.inBytes (t : TableVersion) : Nat := hdr t.header 0x1C 2
def TableVersion.outBytes (t : TableVersion) : Nat := hdr t.header 0x1E 2

/-- The key uses of a header: usage, algorithm, direction, key B, cycle (R137). -/
def TableVersion.keyUses (t : TableVersion) : List Nat :=
  (List.range (min 8 (hdr t.header 0x16 1))).map fun i => hdr t.header (0x20 + 4 * i) 4
def useUsage (u : Nat) : Nat := bitsOf u 31 24
def useAlg (u : Nat) : Nat := bitsOf u 19 16
def useDir (u : Nat) : Nat := bitsOf u 15 14
def useKeyB (u : Nat) : Bool := bitOf u 13

/-- 4 KiB blocks a version occupies (R151). -/
def TableVersion.blocks (t : TableVersion) : Nat := 1 + (t.bundles * 16 + 4095) / 4096

/-- The version of the table store with a key. -/
def Device.table (d : Device) (k : Nat) : Option TableVersion := d.units.tables.find? k

/-- A version in whose stead another became active in this SYS cycle (R155). -/
def Device.justLeft (d : Device) (t : TableVersion) : Bool := t.activeTo == some d.cycle
/-- A version that was active before this SYS cycle. -/
def Device.wasActive (d : Device) (t : TableVersion) : Bool := t.active && t.activeFrom != some d.cycle

/-- The active version of a service and variant: its key in the table store. In the SYS cycle of a LOAD_DONE it is the version that was
active before (R155). -/
def Device.activeTable (d : Device) (s v : Nat) : Option (Nat × TableVersion) :=
  List.find? (fun e => (d.justLeft e.2 || d.wasActive e.2) && e.2.service == s && e.2.variant == v) d.units.tables

/-- The session derivation a variant names: d of VARIANT 0xF0 + d (R241, R249, R256, R257). -/
def sessionIndex (s v : Nat) : Option Nat :=
  if s = 0x0102 ∨ s = 0x0105 then some (v / 16) else if s = 0x0201 then some (v % 16) else none

end Sys2Proof.Machine
end

