-- ==== Sys2Proof/Machine/Blocks.lean ====
section
/-! DEFINITION. Block formats and modes the services share: PIN fields and blocks, chaining, message authentication
(06_payment_services.md R229 to R263; ISO 9564-1, ISO/IEC 9797-1 as the spec names them). -/

namespace Sys2Proof.Machine

/-! ## Block ciphers by ALG code (R137) -/

/-- Block bytes of an ALG code. -/
def algBlock (a : Nat) : Nat := if algTdes a then 8 else 16

/-- One block operation under a key of an ALG code. -/
def blockEnc (a : Nat) (key b : Bytes) : Bytes :=
  if algTdes a then Config.tdesEnc (key.take (algLen a)) (padTo 8 b) else Config.aesEnc (key.take (algLen a)) (padTo 16 b)
def blockDec (a : Nat) (key b : Bytes) : Bytes :=
  if algTdes a then Config.tdesDec (key.take (algLen a)) (padTo 8 b) else Config.aesDec (key.take (algLen a)) (padTo 16 b)

/-- A message in blocks of n bytes. -/
def chop (n : Nat) (bs : Bytes) : List Bytes := (List.range ((bs.length + n - 1) / n)).map fun i => slice bs (n * i) n

/-- CBC decryption of blocks after an initial value. -/
def cbcDec (a : Nat) (key : Bytes) : Bytes → List Bytes → Bytes
  | _, [] => []
  | iv, c :: cs => xorBytes (blockDec a key c) iv ++ cbcDec a key c cs

/-! ## PIN fields (R229, R230, R247) -/

/-- A PIN: its digits. -/
def pinDigits (field : Bytes) : List Nat := ((nibbles field 14).drop 2).take (nibble field 1)

/-- A PIN field is valid for a format: length 4–12, decimal digits, and the fill nibbles of ISO 9564-1. -/
def pinValid (fmt : Nat) (field : Bytes) : Bool :=
  let n := nibble field 1
  let fill := (nibbles field 16).drop (2 + n)
  nibble field 0 == fmt && decide (4 ≤ n ∧ n ≤ 12) && (pinDigits field).all (· ≤ 9)
    && (if fmt = 0 then fill.all (· == 0xF)
        else if fmt = 3 then fill.all (fun x => decide (0xA ≤ x))
        else if fmt = 4 then fill.all (· == 0xA)
        else if fmt = 2 then fill.all (· == 0xF) else true)

/-- The PAN field of formats 0 and 3: four zero nibbles, then the 12 rightmost digits with the check digit left out, right-justified
and filled on the left with zeros. -/
def panField (p : Bytes) : Bytes :=
  let ds := panDigits p
  let body := (ds.take (ds.length - 1)).drop (ds.length - 13)
  packNibbles (List.replicate (16 - body.length) 0 ++ body)

/-- The clear PIN field of a block under a key (R229, R230; 04_tide_tables.md, the worked table). -/
def pinOpen (code : Nat) (key block pan : Bytes) : Bytes :=
  let a := pinAlg code
  if pinAes code then
    blockDec a key (xorBytes (blockDec a key (padTo 16 block)) (padTo 16 pan))
  else
    let p := blockDec a key (block.take 8)
    if pinFormat code = 1 then p else xorBytes p (panField pan)

/-- The PIN field of a format with its fill: 0xF in format 0, from the random block in formats 3 and 4 (R247). -/
def pinFillField (fmt : Nat) (digits : List Nat) (random : Bytes) : Bytes :=
  let n := digits.length
  let room := 14 - n
  if fmt = 0 then packNibbles ([0, n] ++ digits ++ List.replicate room 0xF)
  else if fmt = 3 then
    packNibbles ([3, n] ++ digits ++ (List.range room).map fun i => 0xA + Config.fillDigit random i % 6)
  else packNibbles ([4, n] ++ digits ++ List.replicate room 0xA) ++ random.take 8

/-- The block of a clear PIN field under a key; 8-byte blocks stand in bytes 0–7 (R248). -/
def pinSeal (code : Nat) (key field pan : Bytes) : Bytes :=
  let a := pinAlg code
  if pinAes code then blockEnc a key (xorBytes (blockEnc a key field) (padTo 16 pan))
  else padTo 16 (blockEnc a key (xorBytes (field.take 8) (panField pan)))

/-! ## Message authentication (R258, R261 to R263) -/

/-- Padding methods 1, 2 and 3 of ISO/IEC 9797-1 for blocks of n bytes. -/
def isoPad (n method : Nat) (m : Bytes) : Bytes :=
  let fill := fun (x : Bytes) => padTo (max n ((x.length + n - 1) / n * n)) x
  if method = 1 then fill m
  else if method = 2 then fill (m ++ [0x80])
  else beBytes n (8 * m.length) ++ fill m

/-- ISO/IEC 9797-1 algorithm 3 over a padded message: DES chaining under the left key, then the right key's decryption and
the left key's encryption. -/
def retailMac (key padded : Bytes) : Bytes :=
  let l := key.take 8
  let r := slice key 8 8
  let h := (chop 8 padded).foldl (fun x b => Config.desEnc l (xorBytes x b)) (zeros 8)
  Config.desEnc l (Config.desDec r h)

end Sys2Proof.Machine
end

