-- ==== Sys2Proof/Machine/Bundles.lean ====
section
/-! DEFINITION. Bundles of a table body: their fields, their cycles, and what a lane does with them (04_tide_tables.md R126 to
R141, 05_cipher_lanes.md R171 to R190). -/

namespace Sys2Proof.Machine

/-! ## Bundles as numbers (R176, R177) -/

/-- Bundle i of a body: 16 bytes, little-endian. -/
def bundleAt (body : Bytes) (i : Nat) : Nat := leNat (slice body (16 * i) 16)

def bKind (b : Nat) : Nat := bitsOf b 7 4
def bAdv (b : Nat) : Nat := bitsOf b 3 0
/-- COUNT of a wait bundle; zero acts as 8,192. -/
def bCount (b : Nat) : Nat := if bitsOf b 20 8 = 0 then 8192 else bitsOf b 20 8

/-- The fields of BLK_R and of BLK_I. -/
structure BlkSlot where
  op : Nat
  src : Nat
  dst : Nat
  cmp : Nat
deriving DecidableEq, Repr

def blkR (b : Nat) : BlkSlot := { op := bitsOf b 10 8, src := bitsOf b 15 11, dst := bitsOf b 20 16, cmp := bitsOf b 25 21 }
def blkI (b : Nat) : BlkSlot := { op := bitsOf b 28 26, src := bitsOf b 33 29, dst := bitsOf b 38 34, cmp := bitsOf b 43 39 }

def faluOp (b : Nat) : Nat := bitsOf b 48 44
def faluA (b : Nat) : Nat := bitsOf b 53 49
def faluB (b : Nat) : Nat := bitsOf b 58 54
def faluDst (b : Nat) : Nat := bitsOf b 63 59
/-- IMM: SRC_A[2:0] followed by SRC_B (R179). -/
def faluImm (b : Nat) : Nat := (faluA b % 8) * 32 + faluB b
def hashOp (b : Nat) : Nat := bitsOf b 66 64
def hashCore (b : Nat) : Nat := bitsOf b 67 67
def hashSrc (b : Nat) : Nat := bitsOf b 72 68
def hashDst (b : Nat) : Nat := bitsOf b 77 73
def padOp (b : Nat) : Nat := bitsOf b 82 80
def padDst (b : Nat) : Nat := bitsOf b 87 83
def padMode (b : Nat) : Nat := bitsOf b 91 88
def keyOp (b : Nat) : Nat := bitsOf b 94 92
def keyAlg (b : Nat) : Nat := bitsOf b 97 95
def keyDir (b : Nat) : Nat := bitsOf b 99 98
def keyCore (b : Nat) : Nat := bitsOf b 100 100
def strmOp (b : Nat) : Nat := bitsOf b 103 102
def strmReg (b : Nat) : Nat := bitsOf b 108 104
def ctlRel (b : Nat) : Bool := bitOf b 117
def ctlIdx (b : Nat) : Nat := bitsOf b 116 114

/-- The cycle of the next bundle: a wait bundle moves the schedule on by COUNT, an issue bundle by ADV; the first bundle
issues in cycle 0 (R126; DEDUCED, log entry 15). -/
def nextCycle (isFirst : Bool) (at_ b : Nat) : Nat :=
  if bKind b = 1 then at_ + bCount b else if isFirst then 0 else at_ + bAdv b

/-- The bundles of a body with their numbers and cycles. -/
def schedule (body : Bytes) (n : Nat) : List (Nat × Nat × Nat) :=
  (((List.range n).foldl (fun (acc : List (Nat × Nat × Nat) × Nat) i =>
    let b := bundleAt body i
    let c := nextCycle (i == 0) acc.2 b
    (acc.1 ++ [(i, c, b)], c)) ([], 0))).1

/-- Cycles that a body occupies. -/
def bodyCycles (sched : List (Nat × Nat × Nat)) : Nat := match sched.getLast? with | some (_, c, _) => c + 1 | none => 0

/-! ## Costs (R175, R179, R388) -/

def attachCost (a : Nat) : Nat := if a = 1 then 64 else if a = 2 then 80 else if a = 3 then 96 else 48
def blockCost (a : Nat) : Nat := if a = 1 then 12 else if a = 2 then 14 else if a = 3 then 16 else 50
def faluCost (op : Nat) : Nat :=
  if op ∈ [0x04, 0x05, 0x0F, 0x10] then 1 else if op ∈ [0x08, 0x09, 0x0A, 0x0D, 0x12] then 4 else 2
def hashCost (op kind : Nat) : Nat :=
  if op ≤ 4 then 1 else if op = 5 then (if kind = 1 then 66 else if kind = 4 then 26 else 82) else 2

/-- Registers a block of a hash core takes, by kind: 4, 8, or 9 with the last one half used. -/
def absorbRegs (kind : Nat) : Nat := if kind = 1 then 4 else if kind = 4 then 9 else 8

/-! ## Padding modes (R185 to R188) -/

/-- b of a mode. -/
def padBlock (m : Nat) : Nat :=
  if m = 5 then 64 else if m = 6 then 128 else if m = 7 then 136 else if m = 0xD ∨ m < 8 then 16 else 8

/-- The padded message of a mode. -/
def padMessage (mode : Nat) (msg : Bytes) : Bytes :=
  let b := padBlock mode
  let l := msg.length
  if mode = 0xD then (if l ≠ 0 ∧ l % 16 = 0 then msg else isoPad 16 2 msg)
  else if mode = 5 ∨ mode = 6 then
    let f := if mode = 5 then 8 else 16
    padTo ((l + 1 + f + b - 1) / b * b - f) (msg ++ [0x80]) ++ beBytes f (8 * l)
  else if mode = 7 then
    let t := padTo ((l / b + 1) * b) (msg ++ [0x06])
    t.set (t.length - 1) (t.getD (t.length - 1) 0 ||| 0x80)
  else if mode % 8 = 0 then msg
  else if mode % 8 = 4 then msg ++ List.replicate (b - l % b) (BitVec.ofNat 8 (b - l % b))
  else isoPad b (mode % 8) msg

/-- N(L): live blocks of a message of L bytes. -/
def liveBlocks (mode l : Nat) : Nat :=
  let b := padBlock mode
  if mode = 0xD then max 1 ((l + 15) / 16)
  else if mode = 5 then (l + 9 + 63) / 64
  else if mode = 6 then (l + 17 + 127) / 128
  else if mode = 7 then l / 136 + 1
  else if mode % 8 = 0 then l / b
  else if mode % 8 = 1 then max 1 ((l + b - 1) / b)
  else if mode % 8 = 3 then 1 + max 1 ((l + b - 1) / b)
  else l / b + 1

/-- Message bytes that a length cannot have: MODE 0x0 or 0x8 with a length that fills no whole blocks (R189). -/
def padRefuses (body : Bytes) (n l : Nat) : Bool :=
  (List.range n).any fun i =>
    let b := bundleAt body i
    bKind b == 0 && padOp b == 1 && padMode b % 8 == 0 && padMode b != 0xD && l % padBlock (padMode b) != 0

/-! ## The lane that runs a table -/

/-- A lane that is wiped (R173). -/
def Lane.wiped : Lane :=
  { regs := List.replicate 32 (zeros 16), pend := [], sched := (0, []), cores := [(0, []), (0, [])], mode := 0, nexts := 0
    cursor := 0, msg := [], result := zeros 16, out := [], sw := [none, none, none, none], checks := 0, differs := 0 }

/-- A check comparison of two values (R178, R179, R196). -/
def Lane.compare (x : Lane) (a b : Bytes) : Lane :=
  { x with checks := x.checks + 1, differs := x.differs + (if a = b then 0 else 1) }

def Lane.reg (x : Lane) (r : Nat) : Bytes := padTo 16 (x.regs.getD r [])
def Lane.setReg (x : Lane) (r : Nat) (v : Bytes) : Lane := { x with regs := x.regs.set r (padTo 16 v) }

/-- Results land (R175): an operation of cycle c with a cost of n lands in cycle c + n − 1. -/
def Lane.land (x : Lane) (before : Nat) : Lane :=
  let (due, rest) := x.pend.partition fun p => decide (p.1 < before)
  let order := due.insertionSort fun a b => a.1 ≤ b.1
  { order.foldl (fun y p => y.setReg p.2.1 p.2.2) x with pend := rest }

/-- A result that lands later. -/
def Lane.later (x : Lane) (cyc cost r : Nat) (v : Bytes) : Lane := { x with pend := x.pend ++ [(cyc + cost - 1, r, v)] }

/-- All ones and all zeros. -/
def ones16 : Bytes := List.replicate 16 0xFF
def mask16 (b : Bool) : Bytes := if b then ones16 else zeros 16

/-- One as a register value: byte 0, which a release of one word captures (DEDUCED, log entry 16). -/
def flag16 (b : Bool) : Bytes := padTo 16 [if b then 1 else 0]

/-- Product in the GCM field (R179). -/
def gfStep (v : Nat) : Nat := if v % 2 = 1 then (v / 2) ^^^ (0xE1 * 2 ^ 120) else v / 2
def gfMul (a b : Bytes) : Bytes :=
  let x := beNat a
  let r := (List.range 128).foldl (fun (acc : Nat × Nat) i =>
    (if x.testBit (127 - i) then acc.1 ^^^ acc.2 else acc.1, gfStep acc.2)) (0, beNat b)
  beBytes 16 r.1

/-- The decimal digits of a register in order, then its hex letters as 0 to 5 (R179). -/
def digitExtract (a : Bytes) : Bytes :=
  let ns := nibbles a 32
  packNibbles (ns.filter (· ≤ 9) ++ (ns.filter fun x => decide (10 ≤ x)).map (· - 10))

/-- The field ALU: value of an operation on 128-bit operands; `old` is DST before it (R179). -/
def faluValue (op b : Nat) (a v old : Bytes) : Bytes :=
  if op = 0x01 then xorBytes a v
  else if op = 0x02 then List.zipWith (· &&& ·) a v
  else if op = 0x03 then List.zipWith (· ||| ·) a v
  else if op = 0x04 then a
  else if op = 0x05 then zeros 16
  else if op = 0x06 then
    List.zipWith (· ||| ·) (List.zipWith (· &&& ·) a old) (List.zipWith (fun x m => x &&& ~~~m) v old)
  else if op = 0x07 then packNibbles ((nibbles v 32).map fun i => nibble a i)
  else if op = 0x08 then packNibbles ((nibbles a 32).map fun i => (v.getD i 0).toNat % 16)
  else if op = 0x09 then flag16 (pinValid (v.getD 0 0).toNat a)
  else if op = 0x0A then
    let n := 2 + nibble a 1
    packNibbles ((nibbles a 32).take n ++ (nibbles v 32).drop n)
  else if op = 0x0B then flag16 (a == v)
  else if op = 0x0C then beBytes 16 (beNat a + beNat v)
  else if op = 0x0D then gfMul a v
  else if op = 0x0E then a.drop (faluB b % 16) ++ a.take (faluB b % 16)
  else if op = 0x0F then List.replicate 16 (BitVec.ofNat 8 (faluImm b))
  else if op = 0x10 then padTo 16 (List.replicate (min 16 (faluImm b)) 0xFF)
  else digitExtract a

/-- FALU slot of a bundle issued in a cycle; `old` is the lane before the cycle. -/
def Lane.falu (x old : Lane) (c b : Nat) : Lane :=
  let op := faluOp b
  let a := faluA b
  if op = 0 ∨ 0x14 ≤ op then x
  else if op = 0x13 then x.compare (old.reg a) (old.reg (faluB b))
  else if op = 0x11 then
    let p := fun r => r / 2 * 2
    let v := fun k => xorBytes (old.reg (p a + k)) (old.reg (p (faluB b) + k))
    (x.later c 2 (p (faluDst b)) (v 0)).later c 2 (p (faluDst b) + 1) (v 1)
  else
    let y := x.later c (faluCost op) (faluDst b) (faluValue op b (old.reg a) (old.reg (faluB b)) (old.reg (faluDst b)))
    if op = 0x05 then y.later c 1 a (zeros 16) else y

/-- A block unit's slot (R178). -/
def Lane.blk (x old : Lane) (c : Nat) (s : BlkSlot) : Lane :=
  if s.op = 0 ∨ 4 < s.op then x
  else
    let (a, k) := old.sched
    let v := if s.op = 1 ∨ s.op = 3 then blockEnc a k (old.reg s.src) else blockDec a k (old.reg s.src)
    let y := x.later c (blockCost a) s.dst v
    if 3 ≤ s.op then y.compare v (old.reg s.cmp) else y

/-- HASH slot. -/
def Lane.hash (x old : Lane) (c b : Nat) : Lane :=
  let op := hashOp b
  let k := hashCore b
  let (kind, blocks) := old.cores.getD k (0, [])
  if op = 0 then x
  else if op ≤ 4 then { x with cores := x.cores.set k (op, []) }
  else if op = 5 then
    let n := absorbRegs kind
    let bytes := (List.range n).flatMap fun i => old.reg (hashSrc b + i)
    { x with cores := x.cores.set k (kind, blocks ++ [bytes.take (padBlock (if kind = 1 then 5 else if kind = 4 then 7 else 6))]) }
  else if op = 6 then
    let d := Config.coreDigest kind blocks
    (x.later c 2 (hashDst b) (d.take 16)).later c 2 (hashDst b + 1) (d.drop 16)
  else x.compare (padTo 32 (Config.coreDigest kind blocks)) (old.reg (hashDst b) ++ old.reg (hashDst b + 1))

/-- PAD slot (R185 to R190). A block is read through the stream's one cursor (R171): where STRM IN has taken nothing, block j is
block j of the padded message. The length block of method 3 takes nothing from the stream. -/
def Lane.pad (x : Lane) (c b : Nat) : Lane :=
  let l := x.msg.length
  if padOp b = 1 then
    let m := padMode b
    { x.later c 1 (padDst b) (mask16 (l != 0 && l % padBlock m == 0)) with mode := m, nexts := 0 }
  else if padOp b = 2 then
    let n := padBlock x.mode
    let j := x.nexts + 1
    let live := decide (j ≤ liveBlocks x.mode l)
    let ahead := if x.mode % 8 = 3 then 1 else 0
    let lenBlock := decide (j ≤ ahead)
    let blk := if live then slice (padMessage x.mode x.msg) (if lenBlock then 0 else n * ahead + x.cursor) n else zeros n
    let k := (n + 15) / 16
    let y := (List.range k).foldl (fun y i => y.later c 2 (padDst b + i) (slice blk (16 * i) 16)) x
    let z := (y.later c 2 (padDst b + k) (mask16 live)).later c 2 (padDst b + k + 1) (mask16 (j == liveBlocks x.mode l))
    { z with nexts := j, cursor := if lenBlock then x.cursor else x.cursor + n }
  else x

/-- KEYP slot of a lane: attaches, HMAC key loads and the wipe (R178). -/
def Lane.keyp (x : Lane) (b : Nat) (ka kb : Bytes) : Lane :=
  let op := keyOp b
  let block := fun (k : Bytes) (m : Byte) => (padTo 64 k).map (· ^^^ m)
  let load := fun (y : Lane) (k : Bytes) (m : Byte) =>
    let (kind, bs) := y.cores.getD (keyCore b) (0, [])
    { y with cores := y.cores.set (keyCore b) (kind, bs ++ [block k m]) }
  if op = 1 then { x with sched := (keyAlg b, ka) }
  else if op = 2 then { x with sched := (keyAlg b, kb) }
  else if op = 3 then load x ka 0x36
  else if op = 4 then load x kb 0x36
  else if op = 5 then load x ka 0x5C
  else if op = 6 then load x kb 0x5C
  else if op = 7 then { x with sched := (0, []) }
  else x

/-- STRM slot. -/
def Lane.strm (x old : Lane) (c b : Nat) : Lane :=
  if strmOp b = 1 then { x.later c 1 (strmReg b) (slice x.msg x.cursor 16) with cursor := x.cursor + 16 }
  else if strmOp b = 2 then { x with out := x.out ++ old.reg (strmReg b) }
  else x

/-- A release entry captured (R139, R231). Words past word 3 of RESULT are cut, and a capture for the output stream stands there in
its place among the OUT operations by issue (DESIGN CHOICE, log entry 138). -/
def Lane.capture (x old : Lane) (e : Nat) : Lane :=
  let words := (old.reg (bitsOf e 17 13)).take (4 * bitsOf e 26 24)
  let off := bitsOf e 21 20
  let dest := bitsOf e 19 18
  if dest = 0 then { x with result := padTo 16 (x.result.take (4 * off) ++ words ++ x.result.drop (4 * off + words.length)) }
  else if dest = 1 then { x with out := x.out ++ words }
  else if dest = 2 then { x with sw := x.sw.set off (some (!allZero words)) }
  else x

/-- Release entry i of a header. -/
def TableVersion.release (t : TableVersion) (i : Nat) : Nat := hdr t.header (0x60 + 4 * i) 4

/-- One issue bundle. -/
def Lane.issue (x : Lane) (t : TableVersion) (ka kb : Bytes) (c b : Nat) : Lane :=
  let old := x.land c
  let y := (((((old.blk old c (blkR b)).blk old c (blkI b)).falu old c b).hash old c b).pad c b).keyp b ka kb
  let z := y.strm old c b
  if ctlRel b then z.capture old (t.release (ctlIdx b)) else z

/-- The preloads of a header (R138). -/
def TableVersion.inputs (t : TableVersion) : List Nat :=
  (List.range (min 8 (hdr t.header 0x17 1))).map fun i => hdr t.header (0x40 + 4 * i) 4

/-- A lane before cycle 0. Bytes past the end of a source are zero (DESIGN CHOICE, log entry 138). -/
def Lane.start (t : TableVersion) (i0 i1 random msg : Bytes) : Lane :=
  let x : Lane := { Lane.wiped with msg := msg }
  t.inputs.foldl (fun x e =>
    let src := if bitsOf e 7 5 = 0 then i0 else if bitsOf e 7 5 = 1 then i1 else random
    x.setReg (bitsOf e 4 0) (padTo 16 (slice src (bitsOf e 15 8) (bitsOf e 20 16)))) x

/-- A table run on a lane, fault-free: what its gate holds after cycle CYCLES − 1. -/
def runTableBody (t : TableVersion) (i0 i1 random msg ka kb : Bytes) : Lane :=
  (schedule t.body t.bundles).foldl (fun x e => if bKind e.2.2 = 0 then x.issue t ka kb e.2.1 e.2.2 else x)
    (Lane.start t i0 i1 random msg)

/-- What status words make of staged outputs (06_payment_services.md R231, R232): validity and match, where captured. -/
def mapStatus (validity match_ : Option Bool) (result : Bytes) (buffer : Option Bytes) (records : List NewRec) : Staged :=
  if validity = some false then
    { status := .format, detail := 7, result := zeros 16, buffer := none, records := [], session := none }
  else if match_ = some false then
    { status := .ok, detail := 1, result := zeros 16, buffer := none, records := [], session := none }
  else { status := .ok, detail := 0, result := padTo 16 result, buffer := buffer, records := records, session := none }

end Sys2Proof.Machine
end

