-- ==== Sys2Proof/Machine/Loader.lean ====
section
/-! DEFINITION. The loader's checks of a table body (04_tide_tables.md R132, R149 steps 7 to 14; 05_cipher_lanes.md R175 to
R190, R198; 09_key_hierarchy.md R388, R389): a body is walked once, registers hold symbolic values. -/

namespace Sys2Proof.Machine

/-! ## Symbolic values -/

/-- What a register holds, as a term over the inputs of the table. -/
inductive Val where
  | input (n : Nat)
  | app (op par : Nat) (a b c : Val)
deriving DecidableEq, Repr

/-- A block or hash operation is named by its bundle and unit: bundle × 4 + unit (0 raw, 1 inverse, 2 and 3 the hash cores). -/
def opId (i unit : Nat) : Nat := 4 * i + unit

/-- A register's contents: its value, the operation that produced it, the operations it depends on, and whether it carries a
protected value or a key. -/
structure Cell where
  val : Val
  maker : Option Nat
  deps : List Nat
  prot : Bool
  isKey : Bool
deriving DecidableEq, Repr

def Cell.zero : Cell := { val := .input 0, maker := none, deps := [], prot := false, isKey := false }

/-- A value computed from others. -/
def Cell.from3 (op par : Nat) (a b c : Cell) : Cell :=
  { val := .app op par a.val b.val c.val, maker := none, deps := (a.deps ++ b.deps ++ c.deps).dedup
    prot := a.prot || b.prot || c.prot, isKey := a.isKey || b.isKey || c.isKey }

/-- A block operation or a hash read that coverage looks at: its unit, start, direction, key schedule, source with the operation
that made it, and result. -/
structure OpRec where
  idx : Nat
  cycle : Nat
  unit : Nat
  fwd : Bool
  key : Val
  src : Val
  srcFrom : Option Nat
  dst : Val
  isCheck : Bool
deriving DecidableEq, Repr

def OpRec.id (o : OpRec) : Nat := opId o.idx o.unit

/-- A check comparison: the two values, their makers, and the cycle in which it compares. -/
structure Compared where
  a : Cell
  b : Cell
  at_ : Nat
deriving DecidableEq, Repr

/-- A capture, or a write of the output stream. -/
structure Released where
  idx : Nat
  cycle : Nat
  entry : Option Nat
  cell : Cell
deriving DecidableEq, Repr

/-- An attach as the body makes it: algorithm, direction, key B, cycle, and whether it loads a hash core (R184). -/
structure Attach where
  idx : Nat
  cycle : Nat
  alg : Nat
  dir : Nat
  keyB : Bool
  hmac : Bool
deriving DecidableEq, Repr

/-- The walk's state. -/
structure Walk where
  regs : List Cell
  /-- Results that have not landed: start, landing cycle, register, value. -/
  pend : List (Nat × Nat × Nat × Cell)
  sched : Cell
  kregs : List Cell
  cores : List (Nat × Cell)
  /-- Busy until and with the cycle: raw, inverse, core 0, core 1, key port, and the pipelined units. -/
  busy : List (Nat × Nat)
  ops : List OpRec
  checks : List Compared
  rels : List Released
  attaches : List Attach
  /-- Registers read before any result landed in them. -/
  early : List Nat
  landed : List Nat
  pads : List (Nat × Nat)
  ins : Nat
  outs : Nat
  /-- Bundles that break step 9, and those whose result lands after the last cycle (step 8). -/
  conflict : Option Nat
  late : Option Nat
  /-- The last cycle of the table. -/
  last : Nat
  /-- Values that are protected, wherever they stand, and values that are keys because the body takes them as keys (R132,
  06_payment_services.md R238). -/
  prots : List Val
  keyVals : List Val
  taken : List Val
deriving DecidableEq, Repr

def Walk.flag (w : Walk) (i : Nat) (bad : Bool) : Walk :=
  if bad && w.conflict.isNone then { w with conflict := some i } else w

/-- Results that landed before a cycle enter their registers. -/
def Walk.land (w : Walk) (c : Nat) : Walk :=
  let (due, rest) := w.pend.partition fun p => decide (p.2.1 < c)
  { w with
    regs := due.foldl (fun r p => r.set p.2.2.1 p.2.2.2) w.regs
    pend := rest
    landed := (w.landed ++ due.map fun p => p.2.2.1).dedup }

/-- A register read in a cycle: an earlier operation's result must have landed. -/
def Walk.read (w : Walk) (i c r : Nat) : Walk :=
  let w1 := w.flag i (w.pend.any fun p => p.2.2.1 == r && decide (p.1 < c))
  if w1.landed.contains r || w1.early.contains r then w1 else { w1 with early := w1.early ++ [r] }

def Walk.reads (w : Walk) (i c : Nat) (rs : List Nat) : Walk := rs.foldl (fun w r => w.read i c r) w
def Walk.cell (w : Walk) (r : Nat) : Cell := w.regs.getD r .zero

/-- An operation of a cycle and cost must end by the last cycle (R126). -/
def Walk.ends (w : Walk) (i c cost : Nat) : Walk :=
  if w.last < c + cost - 1 && w.late.isNone then { w with late := some i } else w

/-- A result that lands; two in one register in one cycle conflict, and one after the last cycle is late. -/
def Walk.write (w : Walk) (i c cost r : Nat) (v : Cell) : Walk :=
  let l := c + cost - 1
  let w1 := (w.flag i (w.pend.any fun p => p.2.2.1 == r && p.2.1 == l)).ends i c cost
  { w1 with pend := w1.pend ++ [(c, l, r, v)], prots := if v.prot then v.val :: w1.prots else w1.prots }

/-- A unit starts an operation and is busy for n cycles. -/
def Walk.take (w : Walk) (i c unit n : Nat) : Walk :=
  let w1 := (w.flag i (w.busy.any fun b => b.1 == unit && decide (c ≤ b.2))).ends i c n
  { w1 with busy := (unit, c + n - 1) :: w1.busy.filter fun b => decide (c ≤ b.2) }

/-! ## The slots -/

/-- The result of a block operation: an inverse undoes a forward operation under the same schedule, and the reverse. -/
def blockVal (fwd : Bool) (key src : Val) : Val :=
  match src with
  | .app op _ a k _ => if op = (if fwd then 101 else 100) ∧ k = key then a else .app (if fwd then 100 else 101) 0 src key (.input 0)
  | _ => .app (if fwd then 100 else 101) 0 src key (.input 0)

/-- Algorithm of the schedule in force. -/
def Cell.alg (k : Cell) : Nat := match k.val with | .app 200 a _ _ _ => a | _ => 0

/-- BLK_R and BLK_I. An encryption consumes what it takes; its result is a protected value all the same where it is one that is
protected already, such as the re-encryption of a protected value's decryption. What is decrypted is protected where its key or its
source is (R132), and a key in a key-side table, as is every result that the body takes as a key (06_payment_services.md R238). -/
def Walk.blk (w : Walk) (i c unit : Nat) (keySide : Bool) (s : BlkSlot) : Walk :=
  if s.op = 0 then w
  else
    let cost := blockCost w.sched.alg
    let chk := decide (3 ≤ s.op)
    let fwd := s.op == 1 || s.op == 3
    let w1 := (w.take i c unit cost).reads i c (s.src :: if chk then [s.cmp] else [])
    let x := w1.cell s.src
    let val := blockVal fwd w1.sched.val x.val
    let v : Cell :=
      { val := val, maker := some (opId i unit), deps := opId i unit :: x.deps
        prot := (!fwd && (w1.sched.prot || x.prot)) || w1.prots.contains val
        isKey := (keySide && !fwd) || w1.keyVals.contains val }
    let rec_ : OpRec :=
      { idx := i, cycle := c, unit := unit, fwd := fwd, key := w1.sched.val, src := x.val, srcFrom := x.maker, dst := v.val, isCheck := chk }
    let w2 : Walk := { w1 with
      ops := w1.ops ++ [rec_]
      checks := if chk then w1.checks ++ [{ a := v, b := w1.cell s.cmp, at_ := c + cost - 1 }] else w1.checks }
    w2.write i c cost s.dst v

/-- A value that a forward cipher or a hash yields: a keystream. -/
def Val.isStream : Val → Bool
  | .app op _ _ _ _ => op == 100 || op == 302
  | .input _ => false

/-- The field ALU. An equality flag and a PIN check reduce a value to one bit (R132; DEDUCED for the PIN check). A CLEAR whose SRC_A
is its DST lands two results in one register (DESIGN CHOICE, log entry 139). A key combined with a keystream is a key enciphered in
counter mode, and no key value (DEDUCED, log entry 140). -/
def Walk.falu (w : Walk) (i c b : Nat) : Walk :=
  let op := faluOp b
  let a := faluA b
  let v := faluB b
  let d := faluDst b
  let cost := faluCost op
  if op = 0 then w
  else
    let w0 := w.take i c 5 1
    if op = 0x0F ∨ op = 0x10 then w0.write i c cost d { Cell.zero with val := .app op (faluImm b) (.input 0) (.input 0) (.input 0) }
    else if op = 0x05 then (w0.write i c cost d .zero).write i c cost a .zero
    else if op = 0x13 then
      let w1 := (w0.reads i c [a, v]).ends i c 2
      { w1 with checks := w1.checks ++ [{ a := w1.cell a, b := w1.cell v, at_ := c + 1 }] }
    else if op = 0x11 then
      let p := fun r => r / 2 * 2
      let w1 := w0.reads i c [p a, p a + 1, p v, p v + 1]
      let x := fun k => Cell.from3 0x01 0 (w1.cell (p a + k)) (w1.cell (p v + k)) .zero
      (w1.write i c cost (p d) (x 0)).write i c cost (p d + 1) (x 1)
    else if op = 0x04 then (w0.read i c a).write i c cost d (w0.cell a)
    else if op = 0x0E then (w0.read i c a).write i c cost d (Cell.from3 op (v % 16) (w0.cell a) .zero .zero)
    else
      let w1 := w0.reads i c ([a, v] ++ if op = 0x06 then [d] else [])
      let x := Cell.from3 op 0 (w1.cell a) (w1.cell v) (if op = 0x06 then w1.cell d else .zero)
      let mask := (w1.cell a).val.isStream || (w1.cell v).val.isStream
      w1.write i c cost d (if op = 0x0B ∨ op = 0x09 then { x with prot := false, isKey := false }
        else if op = 0x01 ∧ mask then { x with isKey := false } else x)

/-- The hash cores: absorbing consumes a protected value; a digest is a forward-only value of its core. -/
def Walk.hash (w : Walk) (i c b : Nat) : Walk :=
  let op := hashOp b
  let k := hashCore b
  let st := w.cores.getD k (0, .zero)
  if op = 0 then w
  else if op ≤ 4 then
    { w.take i c (2 + k) 1 with cores := w.cores.set k (c, { Cell.zero with val := .app 300 op (.input 0) (.input 0) (.input 0) }) }
  else if op = 5 then
    let kind := match st.2.val with | .app _ p _ _ _ => p | _ => 0
    let rs := (List.range (absorbRegs kind)).map fun j => hashSrc b + j
    let w1 := (w.take i c (2 + k) (hashCost 5 kind)).reads i c rs
    let x := rs.foldl (fun s r => Cell.from3 301 kind s (w1.cell r) .zero) st.2
    { w1 with cores := w1.cores.set k (st.1, { x with prot := false, isKey := false }) }
  else
    let d := hashDst b
    let w1 := w.take i c (2 + k) 2
    let half : Nat → Cell := fun h => { Cell.from3 302 h st.2 .zero .zero with maker := some (opId i (2 + k)), deps := opId i (2 + k) :: st.2.deps }
    let o : OpRec :=
      { idx := i, cycle := st.1, unit := 2 + k, fwd := true, key := .input 0, src := st.2.val, srcFrom := st.2.maker, dst := (half 0).val, isCheck := op == 7 }
    let w2 : Walk := { w1 with ops := w1.ops ++ [o] }
    if op = 7 then
      let w3 := w2.reads i c [d, d + 1]
      { w3 with checks := w3.checks ++ [{ a := half 0, b := w3.cell d, at_ := c + 1 }] }
    else (w2.write i c 2 d (half 0)).write i c 2 (d + 1) (half 1)

/-- The padding unit. -/
def Walk.pad (w : Walk) (i c b : Nat) : Walk :=
  let op := padOp b
  let v : Nat → Cell := fun k => ({ Cell.zero with val := .app 400 (w.pads.length * 32 + k) (.input 0) (.input 0) (.input 0) } : Cell)
  if op = 0 then w
  else
    let w1 := { w.take i c 6 1 with pads := w.pads ++ [(op, padMode b)] }
    if op = 1 then w1.write i c 1 (padDst b) (v 0)
    else
      let mode := match w.pads.find? fun p => p.1 == 1 with | some p => p.2 | none => 0
      (List.range ((padBlock mode + 15) / 16 + 2)).foldl (fun w k => w.write i c 2 (padDst b + k) (v k)) w1

/-- The streams. -/
def Walk.strm (w : Walk) (i c b : Nat) : Walk :=
  let r := strmReg b
  if strmOp b = 1 then
    { (w.take i c 7 1).write i c 1 r { Cell.zero with val := .app 500 w.ins (.input 0) (.input 0) (.input 0) } with ins := w.ins + 1 }
  else if strmOp b = 2 then
    let w1 := (w.take i c 8 1).read i c r
    { w1 with outs := w1.outs + 1, rels := w1.rels ++ [{ idx := i, cycle := c, entry := none, cell := w1.cell r }] }
  else w

/-- A block attach: both units take a schedule; a key use of usage 0x21 in that cycle makes what they decrypt protected. -/
def Walk.attach (w : Walk) (t : TableVersion) (i c alg dir : Nat) (key : Cell) (named : Option Bool) : Walk :=
  let cost := attachCost alg
  let w1 := ((w.take i c 4 cost).take i c 0 cost).take i c 1 cost
  let use := t.keyUses.find? fun u => u % 8192 == c
  { w1 with
    sched := { key with val := .app 200 alg key.val (.input 0) (.input 0)
                        prot := match use with | some u => useUsage u == 0x21 | none => false }
    attaches := match named with
      | some b => w1.attaches ++ [{ idx := i, cycle := c, alg := alg, dir := dir, keyB := b, hmac := false }]
      | none => w1.attaches }

/-- The key port of a lane. An HMAC key load takes its core for the whole cost, and the port itself in its first cycle only; the
block units go on (R175; DEDUCED for the port, log entry 157). -/
def Walk.keyp (w : Walk) (t : TableVersion) (i c b : Nat) : Walk :=
  let op := keyOp b
  let k := keyCore b
  let kb := op % 2 == 0
  if op = 0 then w
  else if op ≤ 2 then w.attach t i c (keyAlg b) (keyDir b) { Cell.zero with val := .input (1 + boolNat kb) } (some kb)
  else if op = 7 then { (((w.take i c 4 2).take i c 0 2).take i c 1 2) with sched := .zero }
  else
    let w1 := (w.take i c 4 1).take i c (2 + k) 66
    let st := w1.cores.getD k (0, .zero)
    { w1 with
      cores := w1.cores.set k (st.1, { st.2 with val := .app 303 op st.2.val (.input 0) (.input 0) })
      attaches := w1.attaches ++ [{ idx := i, cycle := c, alg := 3, dir := 0, keyB := kb, hmac := true }] }

/-- KREG and AUX of a key-side KEYP slot (R388). -/
def keyReg (b : Nat) : Nat := bitsOf b 98 95
def keyAux (b : Nat) : Nat := bitsOf b 101 99

/-- The key port of a key-side pipeline (R388). -/
def Walk.keySide (w : Walk) (t : TableVersion) (i c b : Nat) : Walk :=
  let op := keyOp b
  let r := keyReg b
  let kr := w.kregs.getD r .zero
  let put := fun (w : Walk) (v : Cell) => { w with kregs := w.kregs.set r v }
  if op = 0 then w
  else if op = 1 then put (w.take i c 4 4) { Cell.zero with val := .input (1 + keyAux b), isKey := true }
  else if op = 2 then
    w.attach t i c (keyAux b) 0 kr (match kr.val with | .input 1 => some false | .input 2 => some true | _ => none)
  else if op = 3 then
    let w1 := (w.take i c 4 48).reads i c [28, 29, 30, 31]
    let x := [28, 29, 30, 31].foldl (fun s q => Cell.from3 600 (keyAux b) s (w1.cell q) .zero) .zero
    put w1 { x with isKey := true }
  else if op = 4 then put (w.take i c 4 2) { Cell.zero with val := .input 3, isKey := true }
  else if op = 5 then
    let h := fun k => ({ Cell.from3 601 k kr .zero .zero with isKey := true } : Cell)
    ((w.take i c 4 2).write i c 2 30 (h 0)).write i c 2 31 (h 1)
  else if op = 6 then
    let w1 := (w.take i c 4 2).reads i c [30, 31]
    put { w1 with taken := (w1.cell 30).val :: (w1.cell 31).val :: w1.taken }
      { Cell.from3 602 0 (w1.cell 30) (w1.cell 31) .zero with isKey := true }
  else { w.take i c 4 2 with kregs := List.replicate 16 .zero }

/-- One issue bundle. Every slot reads the registers as they stand before the cycle. -/
def Walk.issue (keySide : Bool) (t : TableVersion) (w : Walk) (i c b : Nat) : Walk :=
  let w1 := (((((w.land c).blk i c 0 keySide (blkR b)).blk i c 1 keySide (blkI b)).falu i c b).hash i c b).pad i c b
  let w2 := (if keySide then w1.keySide t i c b else w1.keyp t i c b).strm i c b
  if ctlRel b then
    let e := t.release (ctlIdx b)
    let r := bitsOf e 17 13
    let n := if bitsOf e 19 18 = 3 then (if bitsOf e 21 20 = 0 then 8 else 3) else 1
    let rs := (List.range n).map fun k => r + k
    let w3 := w2.reads i c rs
    { w3 with
      rels := w3.rels ++ rs.map fun q => { idx := i, cycle := c, entry := some (ctlIdx b), cell := w3.cell q }
      taken := if bitsOf e 19 18 = 3 ∧ bitsOf e 21 20 = 1 then (w3.cell r).val :: (w3.cell (r + 1)).val :: w3.taken else w3.taken }
  else w2

/-- The walk before cycle 0: preloaded registers hold inputs. -/
def Walk.start (t : TableVersion) (last : Nat) (keyVals : List Val) : Walk :=
  { regs := t.inputs.zipIdx.foldl (fun r e => r.set (bitsOf e.1 4 0) { Cell.zero with val := .input (10 + e.2) })
      (List.replicate 32 Cell.zero)
    pend := [], sched := .zero, kregs := List.replicate 16 .zero, cores := [(0, .zero), (0, .zero)], busy := [], ops := []
    checks := [], rels := [], attaches := [], early := [], landed := [], pads := [], ins := 0, outs := 0, conflict := none
    late := none, last := last, prots := [], keyVals := keyVals, taken := [] }

/-- A key-side table (06_payment_services.md R237). -/
def TableVersion.keySide (t : TableVersion) : Bool :=
  isKeySide t.service || (decide (0xF0 ≤ t.variant) && !isOperator t.service)

/-- A walk of the body with values known to be keys. -/
def TableVersion.walkWith (t : TableVersion) (keyVals : List Val) : Walk :=
  let s := schedule t.body t.bundles
  s.foldl (fun w e => if bKind e.2.2 = 0 then Walk.issue t.keySide t w e.1 e.2.1 e.2.2 else w) (Walk.start t (bodyCycles s - 1) keyVals)

/-- The walk: a key-side body is walked once before, for the values that it takes as keys. -/
def TableVersion.walk (t : TableVersion) : Walk := t.walkWith (if t.keySide then (t.walkWith []).taken else [])

/-! ## Step 7: encodings (R127, R136 to R139, R178, R179, R388, R389) -/

/-- An issue or wait bundle whose fields are all among those listed. -/
def bundleEncodes (keySide : Bool) (b : Nat) : Bool :=
  if bKind b = 1 then bAdv b == 0 && bitsOf b 127 21 == 0
  else if bKind b ≠ 0 then false
  else
    let blk := fun (s : BlkSlot) (inv : Bool) => decide (s.op ≤ 4) && (inv || (s.op != 2 && s.op != 4))
    let key := if keySide then
        match keyOp b with
        | 0 => true
        | 1 => decide (keyAux b ≤ 1)
        | 2 => decide (1 ≤ keyAux b ∧ keyAux b ≤ 5)
        | 3 => keyAux b / 2 != 0
        | _ => keyAux b == 0
      else bitsOf b 101 101 == 0 && (!decide (keyOp b = 1 ∨ keyOp b = 2) || (decide (1 ≤ keyAlg b ∧ keyAlg b ≤ 5) && keyDir b != 3))
    blk (blkR b) false && blk (blkI b) true && decide (faluOp b ≤ 0x13)
      && (!decide (faluOp b = 0x0F ∨ faluOp b = 0x10) || faluA b / 8 == 0)
      && bitsOf b 79 78 == 0 && decide (padOp b ≤ 2) && (padOp b != 1 || decide (padMode b ≤ 0xD)) && key
      && decide (strmOp b ≤ 2) && bitsOf b 113 109 == 0 && bitsOf b 127 118 == 0

/-- Step 7: header offset of the first field out of its limits; 0x100 stands for a bundle, which has no header offset. -/
def TableVersion.encodingFails (t : TableVersion) : Option Nat :=
  let h := t.header
  let nk := hdr h 0x16 1
  let ni := hdr h 0x17 1
  let nr := hdr h 0x18 1
  let entry := fun (base n : Nat) (ok : Nat → Bool) => (List.range 8).filterMap fun i =>
    let e := hdr h (base + 4 * i) 4
    if (if i < n then ok e else e == 0) then none else some (base + 4 * i)
  let use := fun e => bitsOf e 23 20 == 0 && decide (1 ≤ useAlg e ∧ useAlg e ≤ 5) && useDir e != 3
    && (useUsage e != 0x53 || (useAlg e == 3 && useDir e == 0))
  let inp := fun e => bitsOf e 31 21 == 0 && decide (1 ≤ bitsOf e 20 16 ∧ bitsOf e 20 16 ≤ 16) && decide (bitsOf e 7 5 ∈ [0, 1, 3])
  let rel := fun e => bitsOf e 31 27 == 0 && bitsOf e 23 22 == 0 && decide (1 ≤ bitsOf e 26 24 ∧ bitsOf e 26 24 ≤ 4)
    && (bitsOf e 19 18 != 3 || (t.keySide && decide (bitsOf e 21 20 ≤ 1))) && (bitsOf e 19 18 != 2 || decide (bitsOf e 21 20 ≤ 1))
  let fields : List (Nat × Bool) :=
    [(0x0A, decide (1 ≤ t.ver)), (0x0C, decide (1 ≤ t.bundles ∧ t.bundles ≤ 16384)), (0x0E, decide (1 ≤ t.cycles ∧ t.cycles ≤ 8192)),
     (0x10, decide (t.resMask < 256)), (0x14, decide (hdr h 0x14 2 ≤ 1)), (0x16, decide (nk ≤ 8)), (0x17, decide (ni ≤ 8)),
     (0x18, decide (1 ≤ nr ∧ nr ≤ 8)), (0x19, decide (t.rngBlocks ≤ 1))]
  let bad := (fields.filter fun f => !f.2).map Prod.fst ++ entry 0x20 nk use ++ entry 0x40 ni inp ++ entry 0x60 nr rel
  match bad with
  | o :: _ => some o
  | [] => if (List.range t.bundles).all fun i => bundleEncodes t.keySide (bundleAt t.body i) then none else some 0x100

/-! ## Steps 8 to 14 -/

/-- Step 9: the bundle that issues third in its cycle. -/
def thirdIssue : List (Nat × Nat × Nat) → Option Nat
  | [] => none
  | e :: es =>
    if bKind e.2.2 = 0 ∧ 2 ≤ (es.filter fun f => bKind f.2.2 == 0 && f.2.1 == e.2.1).length then
      ((es.filter fun f => bKind f.2.2 == 0 && f.2.1 == e.2.1)[1]?).map Prod.fst
    else thirdIssue es

/-- The units a bundle uses, as RES_MASK bits. The padding unit reads the input stream (R171). -/
def bundleUnits (t : TableVersion) (b : Nat) : Nat :=
  if bKind b ≠ 0 then 0 else
  boolNat ((blkR b).op != 0) + 2 * boolNat ((blkI b).op != 0) + 4 * boolNat (padOp b != 0) + 8 * boolNat (faluOp b != 0)
    + 16 * boolNat (hashOp b != 0) + 32 * boolNat (keyOp b != 0) + 64 * boolNat (strmOp b == 1 || padOp b != 0)
    + 128 * boolNat (strmOp b == 2 || (ctlRel b && bitsOf (t.release (ctlIdx b)) 19 18 == 1))

/-- Step 10. -/
def TableVersion.unitsFail (t : TableVersion) : Option (Option Nat) :=
  let us := (List.range t.bundles).map fun i => (i, bundleUnits t (bundleAt t.body i))
  match us.find? fun e => e.2 ||| t.resMask != t.resMask with
  | some e => some (some e.1)
  | none => if (us.foldl (fun m e => m ||| e.2) 0) == t.resMask then none else some none

/-- Does an attach of the body match a key use? -/
def Attach.matches (keySide : Bool) (a : Attach) (u : Nat) : Bool :=
  u % 8192 == a.cycle && useKeyB u == a.keyB && useAlg u == a.alg && (keySide || useDir u == a.dir)
    && (useUsage u == 0x53) == a.hmac

/-- Step 11. -/
def TableVersion.attachesFail (t : TableVersion) (w : Walk) : Option (Option Nat) :=
  match w.attaches.find? fun a => !t.keyUses.any (a.matches t.keySide) with
  | some a => some (some a.idx)
  | none =>
    if w.attaches.length = t.keyUses.length ∧ t.keyUses.all (fun u => w.attaches.any fun a => a.matches t.keySide u) then none
    else some none

/-- Step 12: captures, streams, padding (R186) and preloads. OUT operations write 16 bytes each, so OUT_BYTES equals the bytes
written up to the last block's unused part: 0 to 15 less (DESIGN CHOICE, log entry 138). -/
def TableVersion.streamsFail (t : TableVersion) (w : Walk) : Option (Option Nat) :=
  let rels := w.rels.filter fun r => r.entry.isSome
  let nr := hdr t.header 0x18 1
  let entryOk := fun (r : Released) => match r.entry with
    | some k => decide (k < nr) && t.release k % 8192 == r.cycle
    | none => true
  match rels.find? fun r => !entryOk r with
  | some r => some (some r.idx)
  | none =>
    let once := (List.range nr).all fun k => ((rels.filter fun r => r.entry == some k).map fun r => r.idx).dedup.length == 1
    let words := ((List.range nr).map fun k => if bitsOf (t.release k) 19 18 = 1 then 4 * bitsOf (t.release k) 26 24 else 0).sum
    let out := 16 * w.outs + words
    let sets := w.pads.filter fun p => p.1 == 1
    let padOk := if w.pads = [] then decide (w.ins = (t.inBytes + 15) / 16)
      else match w.pads with
        | (1, m) :: nexts => sets.length == 1 && nexts.length == liveBlocks m t.inBytes
        | _ => false
    let pre := t.inputs.map fun e => bitsOf e 4 0
    if once && decide (t.outBytes ≤ out ∧ out < t.outBytes + 16) && padOk && pre.all (fun r => w.early.contains r)
        && w.early.all (fun r => pre.contains r) then none else some none

/-- One side of a comparison rests on an operation and not on its twin. -/
def Cell.restsOn (x : Cell) (o j : OpRec) : Bool := x.deps.contains o.id && !x.deps.contains j.id

/-- A comparison covers an operation (R132, R198): an inverse run on the other unit, of this operation's own result, gives its source
back; or a second run at least 3 cycles apart on another unit computes the same value from the same source, and the comparison is of
two equal values of which one rests on the one run and the other on the other: the two results, or the final values of a chain that
is computed twice in full. -/
def covers (w : Walk) (o : OpRec) (m : Compared) : Bool :=
  w.ops.any fun j =>
    let back := fun (x y : Cell) => x.maker == some j.id && x.val == o.src && y.val == o.src
    j.unit != o.unit && decide (o.unit / 2 = j.unit / 2) && j.key == o.key &&
      ((j.fwd != o.fwd && j.srcFrom == some o.id && j.src == o.dst && (back m.a m.b || back m.b m.a))
        || (j.fwd && o.fwd && j.src == o.src && decide (o.cycle + 3 ≤ j.cycle ∨ j.cycle + 3 ≤ o.cycle)
            && m.a.val == m.b.val && ((m.a.restsOn o j && m.b.restsOn j o) || (m.b.restsOn o j && m.a.restsOn j o))))

/-- Step 13. -/
def TableVersion.checksFail (t : TableVersion) (w : Walk) : Option (Option Nat) :=
  let ops := w.ops.filter fun o => !o.isCheck
  let bad := ops.find? fun o =>
    let ms := w.checks.filter (covers w o)
    ms.isEmpty || w.rels.any fun r => r.cell.deps.contains o.id && !ms.any fun m => decide (m.at_ < r.cycle)
  match bad with
  | some o => some (some o.idx)
  | none => if w.checks.length = hdr t.header 0x1A 2 then none else some none

/-- Step 14: protected values (R132), and the key values of a key-side table, which go to one key-operand entry at most
(06_payment_services.md R238). -/
def TableVersion.secretsFail (t : TableVersion) (w : Walk) : Option (Option Nat) :=
  let dest := fun (r : Released) => match r.entry with | some k => bitsOf (t.release k) 19 18 | none => 1
  let off := fun (r : Released) => match r.entry with | some k => bitsOf (t.release k) 21 20 | none => 0
  let operand := fun r => dest r == 3 && off r == 1
  let entries := ((w.rels.filter operand).map fun r => r.entry).dedup
  match w.rels.find? fun r => r.cell.prot || (r.cell.isKey && !operand r)
      || (operand r && (!decide (0xF0 ≤ t.variant) || r.entry != entries.getD 0 none)) with
  | some r => some (some r.idx)
  | none => none

/-- Steps 8 to 14 of R149: the code of the first that fails, with the index of its bundle where one bundle fails. -/
def TableVersion.bodyFails (t : TableVersion) : Option (Nat × Option Nat) :=
  let s := schedule t.body t.bundles
  let w := t.walk
  let or := fun (code : Nat) (r : Option (Option Nat)) (next : Option (Nat × Option Nat)) => match r with
    | some i => some (code, i)
    | none => next
  if bodyCycles s ≠ t.cycles then some (0x06, some (t.bundles - 1))
  else or 0x06 (w.late.map some) <| or 0x07 ((thirdIssue s).map some) <| or 0x07 (w.conflict.map some)
    <| or 0x08 t.unitsFail <| or 0x09 (t.attachesFail w) <| or 0x0A (t.streamsFail w) <| or 0x0B (t.checksFail w)
    <| or 0x10 (t.secretsFail w) none

end Sys2Proof.Machine
end

