-- ==== Sys2Proof/Machine/Records.lean ====
section
/-! DEFINITION. Records of the store: identities, the current record, locations, the keys that are derived, and the index that
finds a record (10_record_store.md R417 to R436, 09_key_hierarchy.md R383 to R387, 05_cipher_lanes.md R193). -/

namespace Sys2Proof.Machine

/-! ## Records (R424) -/

/-- Record types (R419). -/
abbrev tKey : Nat := 1
abbrev tVault : Nat := 2
abbrev tAudit : Nat := 3
abbrev tMeta : Nat := 4

/-- A VOID record cancels the record of its identity whose SEQ it carries (R423). -/
def Rec.voids (v r : Rec) : Bool := v.state == 0xFF && v.ident == r.ident && leNat (slice v.body 0 8) == r.seq

/-- Of two records of one identity, the one that is current (R424). -/
def Rec.newer (a b : Rec) : Rec := if b.pgen < a.pgen || (a.pgen == b.pgen && decide (b.seq ≤ a.seq)) then a else b

/-- The current record of an identity among records. -/
def currentRec (rs : List Rec) (i : Ident) : Option Rec :=
  (rs.filter fun r => r.ident == i && r.state != 0xFF && !rs.any fun v => v.voids r).foldl
    (fun b r => match b with | none => some r | some x => some (r.newer x)) none

/-- The records whose local write has passed (10_record_store.md R432). -/
def Device.records (d : Device) : List Rec := d.store.written.map Prod.fst

/-! ## Locations (R417) -/

/-- The fields of a record location (R417). -/
def locPair (l : Nat) : Nat := l / 2 ^ 37
def locSegment (l : Nat) : Nat := l / 2 ^ 19 % 2 ^ 18
def locBlock (l : Nat) : Nat := l / 32 % 2 ^ 14
def makeLoc (pair seg block slot : Nat) : Nat := pair * 2 ^ 37 + seg * 2 ^ 19 + block * 32 + slot

/-- The key of a segment in the table of segments. -/
def segKey (pair seg : Nat) : Nat := pair * 262144 + seg

/-- The segment a written record lies in. -/
def locSegKey (l : Nat) : Nat := segKey (locPair l) (locSegment l)

/-! ## Derived keys -/

/-- The context label of R383. -/
def contextLabel (purpose usage alg tenant zone keyId version epoch : Nat) (sub : Bytes) : Bytes :=
  beBytes 2 1 ++ beBytes 1 purpose ++ beBytes 1 usage ++ beBytes 1 alg ++ zeros 3 ++ beBytes 4 tenant ++ beBytes 2 zone
    ++ zeros 2 ++ beBytes 8 keyId ++ beBytes 2 version ++ zeros 2 ++ beBytes 4 epoch ++ padTo 32 sub

/-- The derivation of R193: SP 800-108 counter mode with AES-256-CMAC under a root, over a context label, n bytes of key. -/
def kdf (root label : Bytes) (n : Nat) : Bytes :=
  let block := fun i => Config.aesCmac root (beBytes 4 i ++ label ++ [0] ++ beBytes 4 (8 * n))
  (block 1 ++ if n ≤ 16 then [] else block 2).take n

/-- A domain service key: its SUBLABEL, its KEY_ID, and the root it is drawn from (R387). -/
def serviceKey (root : Bytes) (epoch keyId : Nat) (name : String) : Bytes :=
  kdf root (contextLabel 3 0 3 0 0 keyId 0 epoch (ascii name)) 32

/-- The active BBRAM bank. -/
def Keys.bank (k : Keys) : Bank := if k.active = 0 then k.bank0 else k.bank1

/-- The module's own keys for segment headers and for the index (R426). -/
def Device.headerKey (d : Device) : Bytes := serviceKey d.keys.bank.moduleKey 0 0 "STORE-HDR"
def Device.indexKey (d : Device) : Bytes := serviceKey d.keys.bank.moduleKey 0 0 "STORE-INDEX"

/-! ## The index (R434 to R436) -/

/-- The identity of a record as the index's CMAC takes it, in the order and widths of R418. -/
def Ident.bytes (i : Ident) : Bytes :=
  leBytes 1 i.typ ++ leBytes 1 i.sub ++ leBytes 4 i.tenant ++ leBytes 8 i.id ++ leBytes 2 i.version ++ leBytes 2 i.frag

def Device.indexTag (d : Device) (i : Ident) : Bytes := (Config.aesCmac d.indexKey i.bytes).take 8

/-- Entries of the index area: 8 MiB, 2,048 buckets of 256, a segment (R417). -/
def Store.indexSize (x : Store) : Nat := max 1 (x.segs0 + x.segs1) * 2048 * 256

/-- The places of an identity's probe, from the start of its bucket on, up to the first that holds no entry. -/
def Store.probe (x : Store) (i : Ident) : List Nat :=
  let start := Config.indexHash i.bytes % (x.indexSize / 256) * 256
  ((List.range (x.index.length + 1)).map fun j => (start + j) % x.indexSize).takeWhile fun p => (x.index.find? p).isSome

/-- An entry whose GENERATION is that of its segment (R435). -/
def Store.fresh (x : Store) (e : IndexEntry) : Bool :=
  e.valid && e.gen == (x.segments.get Seg.initial (locSegKey e.loc)).gen % 2 ^ 16

/-- The entry of an identity. -/
def Device.indexFind (d : Device) (i : Ident) : Option (Nat × IndexEntry) :=
  let tag := d.indexTag i
  (d.store.probe i).findSome? fun p => match d.store.index.find? p with
    | some e => if d.store.fresh e && e.tag == tag then some (p, e) else none
    | none => none

/-- The entry of an identity is dropped (R435, R396): its place is not VALID, and a probe goes on past it. -/
def Device.indexDrop (d : Device) (i : Ident) : Device :=
  match d.indexFind i with
  | none => d
  | some (p, e) => d.mapStore fun s => { s with index := s.index.insert p { e with valid := false } }

/-- An identity's entry names a location: its own entry, else the first place of the probe that is not VALID, else the place
after the probe. -/
def Device.indexPut (d : Device) (i : Ident) (loc : Nat) : Device :=
  let x := d.store
  let ps := x.probe i
  let start := Config.indexHash i.bytes % (x.indexSize / 256) * 256
  let free := ps.find? fun p => match x.index.find? p with | some e => !x.fresh e | none => true
  let place := match d.indexFind i with
    | some (p, _) => p
    | none => free.getD ((start + ps.length) % x.indexSize)
  let e : IndexEntry :=
    { tag := d.indexTag i, loc := loc, gen := (x.segments.get Seg.initial (locSegKey loc)).gen % 2 ^ 16, valid := true }
  d.mapStore fun s => { s with index := s.index.insert place e }

/-- The 16 bytes of an entry. -/
def IndexEntry.bytes (e : IndexEntry) : Bytes := padTo 8 e.tag ++ leBytes 5 e.loc ++ leBytes 2 e.gen ++ leBytes 1 (boolNat e.valid)

/-- A read of a record goes to one CURRENT SSD of its pair, alternating by block (R417, R436). -/
def Device.readRecord (d : Device) (i : Ident) : Device :=
  match d.indexFind i with
  | none => d
  | some (_, e) =>
    let pair := locPair e.loc
    let turn := locBlock e.loc % 2
    let ok := fun p => d.store.ports.getD p .absent == .current
    let port := if ok (2 * pair + turn) then 2 * pair + turn else 2 * pair + (1 - turn)
    if ok port then d.emit (.ssdRead port i) else d

end Sys2Proof.Machine
end

