-- ==== Sys2Proof/Machine/Keys.lean ====
section
/-! DEFINITION. The key cache and its lookups, the records that hold keys and tokens, and what keys items may use
(09_key_hierarchy.md R378 to R400, 10_record_store.md R418 to R424, 04_tide_tables.md R164, 05_cipher_lanes.md R180 to R183). -/

namespace Sys2Proof.Machine

/-! ## Attributes and record bodies (R391, R420, R421) -/

/-- FLAGS of a slot (R391). -/
def KeyAttr.flags (a : KeyAttr) : Nat :=
  boolNat a.exportable + 2 * boolNat a.pk + 4 * boolNat a.tdesWeak + 8 * boolNat a.vault + 16 * boolNat a.ceremony

/-- The 16 attribute bytes of slot i of a run of n. -/
def KeyAttr.encode (a : KeyAttr) (i n : Nat) : Bytes :=
  leBytes 1 a.usage ++ leBytes 1 a.alg ++ leBytes 1 a.flags ++ leBytes 1 i ++ leBytes 1 (a.keyId / 2 ^ 32)
    ++ leBytes 2 a.version ++ leBytes 1 n ++ leBytes 4 a.tenant ++ leBytes 4 a.keyId

/-- Attributes read back from the bytes of a slot. -/
def KeyAttr.decode (b : Bytes) : KeyAttr :=
  let f := (b.getD 2 0).toNat
  { usage := (b.getD 0 0).toNat, alg := (b.getD 1 0).toNat, exportable := bitOf f 0, pk := bitOf f 1
    tdesWeak := bitOf f 2, vault := bitOf f 3, ceremony := bitOf f 4, tenant := leNat (slice b 8 4)
    keyId := (b.getD 4 0).toNat * 2 ^ 32 + leNat (slice b 12 4), version := leNat (slice b 5 2), state := 1 }

/-- Slots that a key of n bytes fills (R292, R391). -/
def slotsFor (n : Nat) : Nat := max 1 ((n + 31) / 32)

/-- The clear bodies of a key's fragments: 32 key bytes and 16 attribute bytes each (R420). -/
def keyBodies (a : KeyAttr) (key : Bytes) : List Bytes :=
  let n := slotsFor key.length
  (List.range n).map fun i => slice key (32 * i) 32 ++ a.encode i n

/-- The clear body of a VAULT record: vault key handle, PAN operand, expiry, zero (R421). -/
def vaultBody (handle : Nat) (pan expiry : Bytes) : Bytes := leBytes 8 handle ++ padTo 10 pan ++ padTo 2 expiry ++ zeros 4

/-- A TDES key whose first two parts are equal, parity bits aside (05_cipher_lanes.md R183). -/
def tdesWeak (alg : Nat) (key : Bytes) : Bool :=
  algTdes alg && (slice key 0 8).map (· &&& 0xFE) == (slice key 8 8).map (· &&& 0xFE)

def keyIdent (tenant id version frag : Nat) : Ident :=
  { typ := tKey, sub := 0, tenant := tenant, id := id, version := version, frag := frag }
def vaultIdent (tenant id : Nat) : Ident := { typ := tVault, sub := 0, tenant := tenant, id := id, version := 0, frag := 0 }

/-- The current first fragment of a key version. -/
def Device.keyRecord (d : Device) (tenant id version : Nat) : Option Rec :=
  currentRec d.records (keyIdent tenant id version 0)

/-- A key version held in the store: attributes and key bytes of its fragments; none when it is absent or retired. -/
def Device.storedKey (d : Device) (tenant id version : Nat) : Option (KeyAttr × Bytes) :=
  match d.keyRecord tenant id version with
  | none => none
  | some r =>
    if r.state ≠ 1 then none else
    let bodies := (List.range r.fragCount).map fun i =>
      match currentRec d.records (keyIdent tenant id version i) with | some f => slice f.body 0 32 | none => zeros 32
    some (KeyAttr.decode (r.body.drop 32), bodies.flatten)

/-- A version retired by 0x0406 (R394, R420). -/
def Device.keyRetired (d : Device) (tenant id version : Nat) : Bool :=
  match d.keyRecord tenant id version with | some r => r.state == 2 | none => false

/-- Every version number of a key ID among the store's current records. -/
def Device.keyVersions (d : Device) (tenant id : Nat) : List Nat :=
  ((d.records.filter fun r => r.ident.typ == tKey && r.ident.tenant == tenant && r.ident.id == id && r.ident.frag == 0
      && r.state != 0xFF && !d.records.any fun v => v.voids r).map fun r => r.ident.version).dedup

/-- The highest version of a key ID; zero without one. -/
def Device.highestVersion (d : Device) (tenant id : Nat) : Nat := (d.keyVersions tenant id).foldl max 0

/-! ## The key cache -/

/-- The run of a key or of a token record (the lookup index). -/
def Device.findRun (d : Device) (tenant : Nat) (vault : Bool) (id version : Nat) : Option (Nat × KeyRun) :=
  List.find? (fun e => e.2.tenant == tenant && e.2.vault == vault && e.2.id == id && e.2.version == version) d.keys.runs

def Device.setRun (d : Device) (k : Nat) (r : KeyRun) : Device :=
  d.mapKeys fun x => { x with runs := x.runs.insert k r }
def Device.dropRun (d : Device) (k : Nat) : Device := d.mapKeys fun x => { x with runs := x.runs.erase k }

/-- Slots that a tenant's runs occupy (12_tenancy.md R537). -/
def Device.slotUse (d : Device) (tenant : Nat) : Nat :=
  (d.keys.runs.map fun e => if e.2.tenant = tenant then e.2.len else 0).sum

/-- Slots k .. k + n - 1 lie in one page and are free and not RETIRED (R390, R393). -/
def Keys.slotsFree (x : Keys) (k n : Nat) : Bool :=
  decide (k / 128 = (k + n - 1) / 128) && decide (k + n ≤ 1048576)
    && x.runs.all (fun e => decide (k + n ≤ e.1) || decide (e.1 + e.2.len ≤ k))
    && x.retired.all (fun e => decide (e.1 < k) || decide (k + n ≤ e.1))

/-- The lowest place for a run of n slots among the places that follow a run, a retired slot or the start of a page
(DESIGN CHOICE, log entry 10). -/
def Keys.freePlace (x : Keys) (n : Nat) : Option Nat :=
  let ends := x.runs.map (fun e => e.1 + e.2.len) ++ x.retired.map fun e => e.1 + 1
  ((0 :: ends ++ ends.map fun e => (e / 128 + 1) * 128).filter fun k => x.slotsFree k n).foldl
    (fun b k => match b with | none => some k | some j => some (min j k)) none

/-- The guaranteed minimum of a tenant, in slots (12_tenancy.md R530). -/
def Device.minSlotsOf (d : Device) (tenant : Nat) : Nat :=
  match List.find? (fun e => e.2.tenant == tenant && e.2.st != .absent) d.front.vfs with
  | some e => 64 * e.2.minSlots
  | none => 0

/-- The least-recently-used run of a list. -/
def oldestRun : List (Nat × KeyRun) → Option (Nat × KeyRun)
  | [] => none
  | e :: es => match oldestRun es with | some b => if b.2.used < e.2.used then some b else some e | none => some e

/-- Runs that may be evicted (R399): VALID and not being read. -/
def Device.evictable (d : Device) : List (Nat × KeyRun) := d.keys.runs.filter fun e => e.2.st == .valid && !e.2.reading

/-- The run that makes room for a fill (R399): of tenants above their minimum first, then of any tenant. -/
def Device.victim (d : Device) : Option Nat :=
  match oldestRun (d.evictable.filter fun e => decide (d.minSlotsOf e.2.tenant < d.slotUse e.2.tenant)) with
  | some e => some e.1
  | none => (oldestRun d.evictable).map Prod.fst

/-- A tenant's own least-recently-used run (R399, R537). -/
def Device.ownVictim (d : Device) (tenant : Nat) : Option Nat :=
  (oldestRun (d.evictable.filter fun e => e.2.tenant == tenant)).map Prod.fst

/-- Room for a run of n slots: evictions one by one, at most `fuel` of them. -/
def Device.makeRoom (n : Nat) : Nat → Device → Device × Option Nat
  | 0, d => (d, d.keys.freePlace n)
  | f + 1, d =>
    match d.keys.freePlace n with
    | some k => (d, some k)
    | none => match d.victim with
      | none => (d, none)
      | some k => Device.makeRoom n f (d.dropRun k)

/-- A fresh use stamp: the order of last use (R399). -/
def Device.stamp (d : Device) : Device := d.mapKeys fun x => { x with useStamp := x.useStamp + 1 }

/-- The identity that a run's record has. -/
def KeyRun.ident (r : KeyRun) : Ident := if r.vault then vaultIdent r.tenant r.id else keyIdent r.tenant r.id r.version 0

/-- Slots of a poisoned run fail: fault counts grow and slots at POISON_LIMIT are RETIRED (R396). -/
def Device.failSlot (d : Device) (k : Nat) : Device :=
  let b := Page.key.base 0
  let limit := max 1 (d.field (b + Off.keyCtrl) 1 0)
  let n := d.keys.faults.get 0 k + 1
  let d1 := (d.mapKeys fun x => { x with faults := x.faults.insert k (min n 3) }).fault 160
  if n < limit ∨ d1.keys.retired.mem k then d1
  else
    let d2 := ((d1.mapKeys fun x => { x with retired := x.retired.add k }).raiseInt .key 0 0).fault 161
    let cap := 256 * max 1 (d2.field (b + Off.keyCtrl) 15 8)
    if d2.keys.retired.length = cap then (d2.raiseInt .key 0 1).fault 168 else d2

/-- A run is POISONED and its record is fetched again into other slots (R394, R396, R397). -/
def Device.refetchRun (d : Device) (k : Nat) : Device :=
  match d.keys.runs.find? k with
  | none => d
  | some r =>
    let r' := { r with st := .poisoned, refetch := true, key := [], reading := false }
    match (d.setRun k r').makeRoom r.len 8 with
    | (d1, some p) => ((d1.dropRun k).setRun p r').readRecord r.ident
    | (d1, none) => (d1.setRun k r').readRecord r.ident

/-! ## Keys that items may use (R164, R180, R182 to R184, R236, R251, R267, R295, R296) -/

/-- The tenant of an item. -/
def Device.tenantOf (d : Device) (x : Item) : Nat := (d.vf x.route.vf).tenant

/-- Directions a usage code permits: encrypt 0, decrypt 1, both 2 (R180, R236). -/
def usagePermits (usage dir : Nat) : Bool :=
  if usage = 0x11 ∨ usage = 0x21 then true
  else if usage = 0x24 then false
  else if usage = 0x32 then dir == 1
  else dir == 0

/-- The table version that runs: the one bound at step 4, of the item or of the bundle step it stands at (R82, R154). -/
def Device.runTable (d : Device) (x : Item) : Option TableVersion :=
  match x.bound with | some k => d.table k | none => none

/-- The key uses of a table version for key A or key B. -/
def TableVersion.usesOf (t : TableVersion) (b : Bool) : List Nat := t.keyUses.filter fun u => useKeyB u == b

/-- A key entry against the uses that name it: the attributes carry the declared code, direction and algorithm. -/
def entryFits (e : KeyEntry) (uses : List Nat) : Bool :=
  (e.attr.vault && uses.isEmpty) ||
    (!e.attr.vault && uses.all fun u => !e.attr.pk && e.attr.usage == useUsage u && usagePermits e.attr.usage (useDir u)
        && e.attr.alg == useAlg u)

/-- Usage code and algorithm an engine service needs (R295, R296); the slot-curve services check the set too. -/
def engineKey (s v : Nat) : Option (Nat × Nat) :=
  if s = 0x0501 then some (1, 0x10) else if s = 0x0503 then some (2, 0x10)
  else if s = 0x0510 then some (3, if v = 0x10 then 0x11 else 0x12)
  else if s = 0x0512 then some (3, 0x13) else if s = 0x0520 then some (4, 0x14)
  else if s = 0x0531 then some (5, 0x15) else none

/-- NBITS of the set in a curve slot: the bit length of the order of its base point (R315). -/
def Device.curveBits (d : Device) (slot : Nat) : Nat :=
  match d.units.curves.find? slot with | some c => hdr c.set 8 2 | none => 0

/-- The digest prefix of the set in a curve slot (R292). -/
def Device.curveDigest (d : Device) (slot : Nat) : Bytes :=
  match d.units.curves.find? slot with | some c => (Config.sha3 c.set).take 8 | none => zeros 8

/-- What a delivered key A or key B does to its item: none where the item may use it. The key of a rotation is of the algorithm that the
variant names (06_payment_services.md R782). -/
def Device.keyCheck (d : Device) (x : Item) (b : Bool) (e : KeyEntry) : Option (Status × Nat) :=
  let c := x.current
  let v := c.variant
  if isEngine c.service then
    match engineKey c.service v with
    | some (u, a) =>
      if e.attr.pk && e.attr.usage == u && e.attr.alg == a
        && (c.service != 0x0512 || slice e.key ((d.curveBits v + 7) / 8) 8 == d.curveDigest v) then none else some (.keyUsage, 0)
    | none => if e.attr.pk then none else some (.keyUsage, 0)
  else if e.attr.tdesWeak then some (.keyUsage, 0)
  else if c.service = 0x0402 ∧ !b ∧ (e.attr.pk ∨ e.attr.alg ≠ v % 16) then some (.keyUsage, 0)
  else match (if x.run.derived then none else sessionIndex c.service v), b with
    | some k, false =>
      if c.service = 0x0201 then
        if e.attr.usage == 0x41 && !e.attr.pk && e.attr.alg == (if k = 0 then 4 else k) then none else some (.keyUsage, 0)
      else if e.attr.usage != 0x24 || e.attr.pk then some (.keyUsage, 0)
      else if pinAes k then
        if !algTdes e.attr.alg && decide (algRank (pinAlg k) ≤ algRank e.attr.alg) then none else some (.keyUsage, 5)
      else if e.attr.alg == 4 then none else some (.keyUsage, 5)
    | _, _ =>
      match d.runTable x with
      | none => none
      | some t => if entryFits e (t.usesOf b) then none else some (.keyUsage, 0)

/-- The USAGE and ALG that a derived-class key takes from the uses that name it (R384, R385). -/
def derivedUse : List Nat → Option (Nat × Nat)
  | [] => none
  | u :: us => if us.all (fun w => useUsage w == useUsage u && useAlg w == useAlg u) then some (useUsage u, useAlg u) else none

/-- The uses that name a derived-class key: of the derivation table where the variant names one, else of the table. -/
def Device.derivedUses (d : Device) (x : Item) (b : Bool) : List Nat :=
  match sessionIndex x.current.service x.current.variant, b with
  | some k, false => match d.activeTable x.current.service (0xF0 + k) with | some (_, t) => t.usesOf false | none => []
  | _, _ => match d.runTable x with | some t => t.usesOf b | none => []

/-- A derived-class key (R384). -/
def Device.derivedKey (d : Device) (tenant handle usage alg : Nat) : KeyEntry :=
  let bank := d.keys.bank
  let key := kdf bank.root
    (contextLabel 1 usage alg tenant (bitsOf handle 63 48) (bitsOf handle 63 24) (bitsOf handle 23 8) bank.rootEpoch [])
    (algLen alg)
  { key := key, derived := true
    attr := { usage := usage, alg := alg, exportable := false, pk := false, tdesWeak := tdesWeak alg key, vault := false
              ceremony := false, tenant := tenant, keyId := bitsOf handle 63 24, version := bitsOf handle 23 8, state := 1 } }

/-! ## Records as they leave the device (R386; 10_record_store.md R418 to R421, R426) -/

/-- The root that a ROOT_EPOCH names, of the two that a bank may hold (R402). -/
def Bank.rootOf (b : Bank) (epoch : Nat) : Bytes := if epoch = b.prevEpoch ∧ epoch ≠ b.rootEpoch then b.prevRoot else b.root

/-- The record-wrapping key of a stored key's record (R386). -/
def Device.wrapKey (d : Device) (i : Ident) (epoch : Nat) : Bytes :=
  kdf (d.keys.bank.rootOf epoch) (contextLabel 2 0 3 i.tenant 0xFFFF i.id i.version epoch (ascii "KEY-WRAP")) 32

/-- A vault key, by its handle, as a record of an epoch names it (06_payment_services.md R270). The local store and the key cache
are asked (DESIGN CHOICE, log entry 136). -/
def Device.vaultKey (d : Device) (tenant handle epoch : Nat) : Option Bytes :=
  let id := bitsOf handle 63 24
  let ver := bitsOf handle 23 8
  if handle % 256 = 1 then
    some (kdf (d.keys.bank.rootOf epoch) (contextLabel 1 0x61 3 tenant (bitsOf handle 63 48) id ver epoch []) 32)
  else match d.storedKey tenant id ver with
    | some (_, key) => some (key.take 32)
    | none => match d.findRun tenant false id ver with
      | some (_, r) => if r.st = .valid ∧ !d.keyRetired tenant id ver then some (r.key.take 32) else none
      | none => none

/-- The associated data of a KEY body. -/
def Rec.keyData (r : Rec) : Bytes :=
  leBytes 1 r.ident.typ ++ leBytes 1 r.ident.sub ++ leBytes 4 r.ident.tenant ++ leBytes 8 r.ident.id ++ leBytes 2 r.ident.version
    ++ leBytes 2 r.ident.frag ++ leBytes 2 r.fragCount ++ leBytes 4 r.epoch

/-- The associated data of a VAULT body. -/
def Rec.vaultData (r : Rec) : Bytes := leBytes 4 r.ident.tenant ++ leBytes 8 r.ident.id

/-- A record whose body is sealed: a KEY record that holds a key, and a VAULT record. -/
def Rec.secret (r : Rec) : Bool := (r.ident.typ == tKey && r.state == 1) || (r.ident.typ == tVault && r.state != 0xFF)

/-- A VAULT body sealed under a vault key, for a tenant and a record ID (R421). -/
def sealVault (k nonce body : Bytes) (tenant id : Nat) : Bytes :=
  let data := leBytes 4 tenant ++ leBytes 8 id
  let t := slice body 8 16
  nonce ++ slice body 0 8 ++ Config.gcmSeal k nonce data t ++ Config.gcmTag k nonce data t ++ zeros 28

/-- The 80 bytes of BODY, sealed with a nonce (R420, R421). -/
def Device.sealBody (d : Device) (r : Rec) (nonce : Bytes) : Bytes :=
  if !r.secret then padTo 80 r.body
  else if r.ident.typ = tKey then
    let k := d.wrapKey r.ident r.epoch
    let t := slice r.body 0 48
    nonce ++ zeros 4 ++ Config.gcmSeal k nonce r.keyData t ++ Config.gcmTag k nonce r.keyData t
  else
    let h := slice r.body 0 8
    sealVault ((d.vaultKey r.ident.tenant (leNat h) r.epoch).getD (zeros 32)) nonce r.body r.ident.tenant r.ident.id

/-- A record as it goes onto an SSD or the fabric. -/
def Rec.wire (r : Rec) : Rec := if r.sealed.isEmpty then r else { r with body := r.sealed, sealed := [] }

/-- A record that came over the fabric, its body unsealed. A body whose tag fails is empty: no lookup takes it (R437). -/
def Device.unwire (d : Device) (r : Rec) : Rec :=
  let nonce := slice r.body 0 12
  let opened := fun (k data ct tag front : Bytes) =>
    let t := Config.gcmOpen k nonce data ct
    if Config.gcmTag k nonce data t = tag then padTo 80 (front ++ t) else []
  if !r.secret then r
  else if r.ident.typ = tKey then
    { r with sealed := r.body, body := opened (d.wrapKey r.ident r.epoch) r.keyData (slice r.body 16 48) (slice r.body 64 16) [] }
  else
    let h := slice r.body 12 8
    { r with
      sealed := r.body
      body := match d.vaultKey r.ident.tenant (leNat h) r.epoch with
        | some k => opened k r.vaultData (slice r.body 20 16) (slice r.body 36 16) h
        | none => [] }

/-- The clear body of a record: one that could not be unsealed when it came is tried again. -/
def Device.clearBody (d : Device) (r : Rec) : Bytes := if r.body.isEmpty then (d.unwire { r with body := r.sealed }).body else r.body

/-- The vault key handle of a VAULT record, which stands in clear. -/
def Rec.vaultHandle (r : Rec) : Nat := if r.body.isEmpty then leNat (slice r.sealed 12 8) else leNat (slice r.body 0 8)

/-- A token record held in the store: its state, PAN operand and expiry; DELETED resolves as absent (06_payment_services.md R270). So
does a record whose vault key is not held. -/
def Device.storedVault (d : Device) (tenant id : Nat) : Option (Nat × Bytes × Bytes) :=
  match currentRec d.records (vaultIdent tenant id) with
  | none => none
  | some r =>
    if r.state = 3 ∨ (d.vaultKey tenant r.vaultHandle r.epoch).isNone then none
    else some (r.state, slice (d.clearBody r) 8 10, slice (d.clearBody r) 18 2)

/-- The 128 bytes of a record (R418). -/
def Rec.bytes (r : Rec) : Bytes :=
  let front := leBytes 1 r.ident.typ ++ [1] ++ leBytes 1 r.state ++ leBytes 1 r.ident.sub ++ leBytes 4 r.ident.tenant
    ++ leBytes 8 r.ident.id ++ leBytes 2 r.ident.version ++ leBytes 2 r.ident.frag ++ leBytes 2 r.fragCount ++ leBytes 2 r.pgen
    ++ leBytes 4 r.epoch ++ leBytes 2 r.origin ++ zeros 2 ++ leBytes 8 r.seq ++ padTo 80 r.wire.body ++ zeros 4
  front ++ leBytes 4 (crc32c front)

/-! ## Lookups (R394 to R399) -/

/-- Key operands of an item: its state changed. -/
def Item.setOp (x : Item) (b : Bool) (o : Operand) : Item :=
  { x with ops := if b then { x.ops with b := o } else { x.ops with a := o } }

/-- Items of a tenant that wait for key fetches (03_host_queues.md R106). -/
def Device.backlogOf (d : Device) (v : Nat) : Nat :=
  (d.sched.items.filter fun e => e.2.route.vf == v && e.2.ops.backlog).length

/-- Slots the record of a miss will need. -/
def Device.fetchLen (d : Device) (tenant : Nat) (vault : Bool) (id version : Nat) : Nat :=
  if vault then 1 else match d.keyRecord tenant id version with | some r => max 1 r.fragCount | none => 1

/-- RETRY_BASE, RETRY_DOUBLINGS and the delay after a number of earlier retries, in ticks (08_scheduler.md R355). -/
def Device.retryDoublings (d : Device) : Nat := min 8 (bitsOf d.sched.timer 3 0)
def Device.retryDelay (d : Device) (n : Nat) : Nat := max 1 (bitsOf d.sched.timer 15 8) * 2 ^ min n d.retryDoublings

/-- A fill without room is asked for again, each time after twice the delay (R355). -/
def Device.retryFill (d : Device) (n : Nat) : Device :=
  match d.item n with
  | none => d
  | some y => (d.setItem n { y with ops := { y.ops with retries := y.ops.retries + 1 } }).addDelay retryList n
      ((d.sched.tick + d.retryDelay y.ops.retries) % 2 ^ 32)

/-- A run FILLING for a miss: at quota the tenant's own least-recently-used run makes room, else R399. Without room the
request waits on the RETRY list. -/
def Device.startFill (d : Device) (n : Nat) (x : Item) (vault : Bool) (id version : Nat) : Device :=
  let tenant := d.tenantOf x
  let len := d.fetchLen tenant vault id version
  let vf := d.vf x.route.vf
  let d0 := if vf.quotaSlots ≤ d.slotUse tenant then
      match d.ownVictim tenant with | some k => d.dropRun k | none => d
    else d
  match d0.makeRoom len 128 with
  | (d1, none) => d1.retryFill n
  | (d1, some k) =>
    let run : KeyRun :=
      { len := len, st := .filling, tenant := tenant, vault := vault, id := id, version := version, key := []
        attr := KeyAttr.decode [], used := d1.keys.useStamp, refetch := false, reading := false }
    ((d1.stamp).setRun k run).readRecord run.ident

/-- The open step of a bundle ends with a status, a detail and an inline output (03_host_queues.md R83 to R85, R99). -/
def Device.endStep (d : Device) (n : Nat) (e : StepEnd) : Device :=
  match d.item n with
  | none => d
  | some x =>
    if !x.stepOpen then d else
    let cycles := match d.activeTable x.current.service x.current.variant with | some (_, t) => t.cycles | none => 0
    let left := if x.run.begun then x.adm.unstarted else x.adm.unstarted - cycles
    d.setItem n { x with
      stage := .waiting
      adm := { x.adm with unstarted := left }
      ops := Opnds.empty
      bound := none
      run := { x.run with steps := x.run.steps ++ [e], unit := none, firstUnit := none, staged := none, derived := false, begun := false, doom := none } }

/-- An item, or the open step of a bundle, is refused before it runs (08_scheduler.md R338). -/
def Device.refuse (d : Device) (n : Nat) (st : Status) (detail : Nat) : Device :=
  match d.item n with
  | none => d
  | some x =>
    if x.desc.bundle then d.endStep n { status := st, detail := detail, result := zeros 16 }
    else d.finishItem n st detail

/-- A stored-class key or a token record is looked up (R394). -/
def Device.lookupStored (d : Device) (n : Nat) (b vault : Bool) (id version : Nat) : Device :=
  match d.item n with
  | none => d
  | some x =>
    let tenant := d.tenantOf x
    let asked := x.setOp b .asked
    if !vault && d.keyRetired tenant id version then d.refuse n .keyAbsent 0
    else match d.findRun tenant vault id version with
      | some _ => d.setItem n asked
      | none =>
        let vf := d.vf x.route.vf
        if vf.quotaSlots < d.slotUse tenant then d.refuse n .refusedQuota 0
        else if !x.ops.backlog && decide (max 1 vf.backlog ≤ d.backlogOf x.route.vf) then
          d.refuse n .refusedKeyBacklog 0
        else
          (d.setItem n { asked with ops := { asked.ops with backlog := true } }).startFill n x vault id version

/-- The request for key A or key B of an item (R336, R378 to R385, R394). -/
def Device.requestKey (d : Device) (n : Nat) (b : Bool) : Device :=
  match d.item n with
  | none => d
  | some x =>
    if x.stage ≠ .waiting || (x.desc.bundle && !x.stepOpen) then d else
    let c := x.current
    let h := if b then c.keyB else c.keyA
    if b && tokenInB c.service then d.lookupStored n b true h 0
    else if b && createsHandle c.service then
      if h % 256 = 2 then d else d.refuse n .keyUsage 6
    else if c.service = 0x0405 then
      if h % 256 = 1 then d.refuse n .keyUsage 0
      else (d.setItem n (x.setOp b .asked)).readRecord (keyIdent (d.tenantOf x) (bitsOf h 63 24) (bitsOf h 23 8) 0)
    else if (h % 256 ≠ 1 ∧ h % 256 ≠ 2) ∨ bitsOf h 23 8 = 0 then d.refuse n .keyAbsent 0
    else if h % 256 = 2 then d.lookupStored n b false (bitsOf h 63 24) (bitsOf h 23 8)
    else if b && c.service == 0x0404 then d.refuse n .keyUsage 4
    else if isEngine c.service || c.service == 0x0402 || c.service == 0x0406 then d.refuse n .keyUsage 0
    else match derivedUse (d.derivedUses x b) with
      | none => d.refuse n .keyUsage 0
      | some _ => d.setItem n (x.setOp b .asked)

/-- Keys an item needs: those its service uses (R242), or, for an operator table, those its descriptor names. -/
def Desc.needsA (c : Desc) : Bool := if isOperator c.service then c.keyA != 0 else usesKeyA c.service
def Desc.needsB (c : Desc) : Bool := if isOperator c.service then c.keyB != 0 else usesKeyB c.service

end Sys2Proof.Machine
end

