-- ==== Sys2Proof/Machine/Journal.lean ====
section
/-! DEFINITION. What the record store has room for: segments, live and dead records, the read-only and full conditions
(10_record_store.md R417, R424, R442 to R448, R461). -/

namespace Sys2Proof.Machine

/-- Segments of a pair. -/
def Store.segs (x : Store) (pair : Nat) : Nat := if pair = 0 then x.segs0 else x.segs1

/-- A segment that holds nothing: FRESH or ERASED. -/
def Seg.isFree (g : Seg) : Bool := g.st == .fresh || g.st == .erased

/-- FRESH and ERASED segments of a pair, the reserve of R444 included. -/
def Store.freeSegs (x : Store) (pair : Nat) : Nat :=
  x.segs pair - (x.segments.filter fun e => decide (e.1 / 262144 = pair) && !e.2.isFree).length

/-- Is a record voided by another? -/
def voided (rs : List Rec) (r : Rec) : Bool := rs.any fun v => v.voids r

/-- The tenants of this module: those whose ID a VF holds. Every other tenant is destroyed on it (R447; 12_tenancy.md R550; a DESTROYED
VF holds none: DEDUCED, log entry 164). -/
def Device.held (d : Device) : List Nat :=
  (d.front.vfs.filter fun e => e.2.st != .absent && e.2.st != .destroyed).map fun e => e.2.tenant

/-- A dead record, where VFs hold these tenants (R447). -/
def deadRec (held : List Nat) (rs : List Rec) (r : Rec) : Bool :=
  if r.ident.typ = tAudit then false
  else if (r.ident.typ == tKey || r.ident.typ == tVault) && !held.contains r.ident.tenant then false
  else if r.state = 0xFF then !rs.any fun x => r.voids x
  else match currentRec rs r.ident with
    | none => true
    | some c => r != c && !(r.ident.typ == tVault && c.state == 3 && !voided rs r)

/-- A SEALED segment with a dead record (R448). -/
def Store.compactable (held : List Nat) (x : Store) : Bool :=
  x.segments.any fun e => e.2.st == .sealed &&
    x.written.any fun w => locSegKey w.2 == e.1 && deadRec held (x.written.map Prod.fst) w.1

/-- The store is full (R444): nothing free beyond the reserve of two segments per pair, and compaction can free nothing. -/
def Store.full (held : List Nat) (x : Store) : Bool :=
  x.formatted && decide (x.freeSegs 0 ≤ 2) && decide (x.freeSegs 1 ≤ 2) && !x.compactable held

def Device.compactable (d : Device) : Bool := d.store.compactable d.held
def Device.storeFull (d : Device) : Bool := d.store.full d.held

/-- The store is read-only, or treated so (R442, R443). -/
def Store.noWrite (x : Store) : Bool := x.readOnly || !x.formatted || x.quarantined

/-- The placement factor k in force. -/
def Device.factor (d : Device) : Nat := max 1 d.dom.view.k

/-- The MODE detail of a descriptor that stores replicated records, where the store refuses it (R443 to R445). -/
def Device.storeRefusal (d : Device) : Option Nat :=
  if d.store.noWrite && decide (d.factor < 3) then some 0x10
  else if d.storeFull then some 0x11 else none

/-- LOCAL_STATE of the JNL page (R461). -/
def Store.localState (held : List Nat) (x : Store) : Nat :=
  let cur := fun p => x.ports.getD p .absent == .current
  if x.quarantined then 6 else if !x.formatted then 0 else if x.recovering then 1 else if x.readOnly then 4
  else if x.full held then 5
  else if cur 0 != cur 1 || (decide (0 < x.segs1) && cur 2 != cur 3) then 3 else 2

def Device.storeState (d : Device) : Nat := d.store.localState d.held

/-- A change of the store, with STATE_CHANGED when LOCAL_STATE changes and PORT_CHANGED when a port's state does. -/
def Device.storeStep (d : Device) (f : Store → Store) : Device :=
  let d1 := d.mapStore f
  let d2 := if d1.storeState = d.storeState then d1 else d1.raiseInt .jnl 0 0
  if d1.store.ports = d.store.ports then d2 else d2.raiseInt .jnl 0 1

end Sys2Proof.Machine
end

