-- ==== Sys2Proof/Machine/Jobs.lean ====
section
/-! DEFINITION. What items declare: execution classes, lane and engine cycles (08_scheduler.md R341,
07_bignum_engines.md R288, R289, 04_tide_tables.md R136). -/

namespace Sys2Proof.Machine

/-- RSA private operation by modulus bits (R288). -/
def rsaPrivateCycles (l : Nat) : Nat :=
  if l ≤ 2048 then 100000 else if l ≤ 3072 then 290000 else if l ≤ 4096 then 666000 else 4800000

/-- 64-bit words of the modulus of an RSA key read back from its slots: of the lengths whose stored form, 20 bytes a word, fills
as many slots, the smallest beyond whose form every byte is zero (R292; DEDUCED, log entry 159). -/
def rsaWords (key : Bytes) : Nat :=
  let n := slotsFor key.length
  ((List.range (8 * n / 5)).find? fun w => slotsFor (20 * w) == n && allZero (key.drop (20 * w))).getD (8 * n / 5)

/-- Words of the field prime of a curve slot. -/
def Device.curveWords (d : Device) (slot : Nat) : Nat :=
  match d.units.curves.find? slot with | some c => (hdr c.set 6 2 + 63) / 64 | none => 0

/-- Bytes of a coordinate of a curve slot's curve. -/
def Device.curveBytes (d : Device) (slot : Nat) : Nat :=
  match d.units.curves.find? slot with | some c => (hdr c.set 6 2 + 7) / 8 | none => 0

/-- The slot whose set a slot-curve key records: a digest prefix stands behind its scalar (R292, R296). -/
def Device.slotHolding (d : Device) (key : Bytes) : Option Nat :=
  (List.find? (fun e => slice key ((hdr e.2.set 8 2 + 7) / 8) 8 == (Config.sha3 e.2.set).take 8) d.units.curves).map Prod.fst

/-- Key pair generation by algorithm code (R288). For a slot curve the table names no cost: a signature's is taken
(DESIGN CHOICE, log entry 11). -/
def Device.keyPairCycles (d : Device) (alg slot : Nat) : Nat :=
  if alg = 0x10 then 5000 else if alg = 0x11 then 14000 else if alg = 0x12 then 30000
  else if alg = 0x14 then 16000 else if alg = 0x15 then 11000 else 20000 * d.curveWords slot ^ 2 / 16

/-- The algorithm code and bytes of a key at admission: of its run in the key cache, else of the store's records. A key that only
peers hold has no algorithm yet, and is priced as the cheapest job of its service (DESIGN CHOICE, log entry 11). -/
def Device.keyAShape (d : Device) (tenant handle : Nat) : Nat × Bytes :=
  let id := bitsOf handle 63 24
  let ver := bitsOf handle 23 8
  match d.findRun tenant false id ver, d.storedKey tenant id ver with
  | some (_, r), none => if r.st = .valid then (r.attr.alg, r.key) else (0, [])
  | _, some (a, key) => (a.alg, key)
  | none, none => (0, [])

/-- Public-key export (R288): as key pair generation of the algorithm, 5,000 for RSA. -/
def Device.exportCycles (d : Device) (alg : Nat) (key : Bytes) : Nat :=
  if alg = 0 then 5000 else d.keyPairCycles alg ((d.slotHolding key).getD 64)

/-- Per-engine cycles of a descriptor's job (R288). -/
def Device.engineCycles (d : Device) (tenant : Nat) (x : Desc) : Nat :=
  let v := x.variant
  let (alg, key) := d.keyAShape tenant x.keyA
  match x.service with
  | 0x0501 => rsaPrivateCycles (64 * rsaWords key)
  | 0x0503 => rsaPrivateCycles (x.inLen * 8)
  | 0x0502 => 3 * ((x.inLen - 8 - hashLen (v % 16)) * 4 / 64) ^ 2
  | 0x0504 =>
      if v = 0x01 then 30000000 * (x.paramHi * 64) ^ 3 / 2048 ^ 3
      else if v = 0x10 then 14000 else if v = 0x11 then 30000 else if v = 0x20 then 16000 else if v = 0x30 then 11000
      else d.keyPairCycles 0x13 (v - 0x80)
  | 0x0505 => d.exportCycles alg key
  | 0x0510 => if v = 0x10 then 20000 else 42000
  | 0x0511 => if v = 0x10 then 12000 else 26000
  | 0x0512 => 20000 * d.curveWords v ^ 2 / 16
  | 0x0513 => 12000 * d.curveWords v ^ 2 / 16
  | 0x0520 => 32000
  | 0x0521 => 11000
  | 0x0530 => 9600
  | 0x0531 => 12800
  | 0x0540 => (leNat (slice x.inline0 2 2) * 64 * leNat (slice x.inline0 0 2) ^ 2 + 5) / 6 + 500
  | _ => 0

/-- Execution class of a descriptor (R237, R341). -/
def Desc.execClass (x : Desc) : ExecClass :=
  if isEngine x.service then .engine else if isKeySide x.service && !x.bundle then .keySide else .lane

/-- Cycles of a table, zero where none is active. -/
def Device.stepCycles (d : Device) (x : Desc) : Nat :=
  match d.activeTable x.service x.variant with | some (_, t) => t.cycles | none => 0

/-- Declared cycles of an item at admission (R82, R98, R289). -/
def Device.declared (d : Device) (x : Item) : Nat :=
  if x.desc.bundle then (x.steps.map fun e => d.stepCycles e).sum
  else if x.exec = .engine then 2 * d.engineCycles (d.tenantOf x) x.desc
  else match x.bound with
    | some k => (match d.table k with | some t => t.cycles | none => 0)
    | none => 0

/-- Declared pair time of an engine item in µs, rounded up (R289: per-engine cycles at 2.0 GHz). -/
def Item.pairTime (x : Item) : Nat := (x.adm.cycles / 2 + 1999) / 2000

/-- Classes share capacity: LANE items and key-side tables count against the lanes (R240). -/
def Item.onEngines (x : Item) : Bool := x.exec == .engine

/-- Admitted and unstarted declared cycles of a class (R99). -/
def Device.unstarted (d : Device) (engines : Bool) : Nat :=
  (d.sched.items.map fun e => if e.2.onEngines = engines then e.2.adm.unstarted else 0).sum

/-- A tick of capacity of a class. -/
def classTick (engines : Bool) : Nat := if engines then 64000 else 204800

/-- Saturation (R99). -/
def Device.saturated (d : Device) (engines : Bool) : Bool := decide (classTick engines ≤ d.unstarted engines)

/-- The share of a VF in a class has room (R531): a sum of charges below the allowance. -/
def Vf.withinShare (x : Vf) (engines : Bool) : Bool :=
  let w := if engines then x.engWin else x.laneWin
  let m := if engines then x.minEngine else x.minLane
  decide (w.sum * 10000 < m * 16 * classTick engines)

/-- A charge on the newest tick of a window. -/
def chargeHead (n : Nat) : List Nat → List Nat
  | [] => [n]
  | h :: t => (h + n) :: t

/-- A charge returned to the tick of a window in which it was made (R94): so many ticks before the newest. -/
def returnAt (age n : Nat) (w : List Nat) : List Nat := w.modify age (· - n)

def Vf.charge (x : Vf) (engines : Bool) (n : Nat) : Vf :=
  if engines then { x with engWin := chargeHead n x.engWin } else { x with laneWin := chargeHead n x.laneWin }
def Vf.uncharge (x : Vf) (engines : Bool) (age n : Nat) : Vf :=
  if engines then { x with engWin := returnAt age n x.engWin } else { x with laneWin := returnAt age n x.laneWin }

end Sys2Proof.Machine
end

