-- ==== Sys2Proof/Machine/Replay.lean ====
section
/-! DEFINITION. Replay capture and export: the rings, the units that items leave in them, and the RPL page's commands
(18_counters_replay.md R719 to R728, R733, R734). -/

namespace Sys2Proof.Machine

def Device.ring (d : Device) (v : Nat) : Ring := d.rings.get Ring.initial v
def Device.setRing (d : Device) (v : Nat) (r : Ring) : Device := { d with rings := d.rings.put Ring.initial v r }

/-! ## Units (R719 to R723) -/

/-- The head of a record (R722). -/
def recordHead (kind part parts seq : Nat) : Bytes := leBytes 1 kind ++ leBytes 1 part ++ leBytes 1 parts ++ zeros 1 ++ leBytes 4 seq

/-- UNIT of an ITEM record. -/
def unitCode : Option RunUnit → Nat
  | some (.lane c l) => c * 8 + l
  | some (.pair p) => 0x80 + p
  | _ => 0xFF

/-- The buffer and bundle-data input of an item. -/
def Item.inputBytes (x : Item) : Bytes := if x.desc.bundle then x.steps.flatMap Desc.encode else x.ops.data

/-- SYS cycles in 16 ns units, rounded up. -/
def units16 (cycles : Nat) : Nat := (cycles * 5 + 95) / 96

/-- A byte string in pieces of n bytes, the last filled with zeros. -/
def pieces (n count : Nat) (bs : Bytes) : List Bytes := (List.range count).map fun i => slice bs (n * i) n

/-- Services whose draws are never recorded (R723). -/
def secretDraws (s : Nat) : Bool := isEngine s || isKeySide s

/-- The records of an item that completes or is discarded with a status byte (R722, R723). -/
def Device.itemRecords (d : Device) (x : Item) (seq status : Nat) (c : Option Comp) (inputs : Bool) : List Bytes :=
  let input := x.inputBytes
  let draws := if secretDraws x.desc.service then [] else x.run.draws
  let randoms := (List.range ((draws.length + 1) / 2)).map fun i => (draws.drop (2 * i)).take 2
  let ins := if inputs && decide (input.length ≤ 1056) then pieces 88 ((input.length + 87) / 88) input else []
  let parts := 2 + randoms.length + ins.length
  let ver := match x.bound with | some k => (match d.table k with | some t => t.ver | none => 0) | none => 0
  let out := match c with
    | some c => if c.status.good then (Config.sha3 (padTo 16 c.result ++ c.buffer.getD [])).take 8 else zeros 8
    | none => zeros 8
  let item := recordHead 1 0 parts seq ++ leBytes 2 x.desc.service ++ leBytes 1 x.desc.variant ++ leBytes 1 status
    ++ leBytes 2 ver ++ leBytes 1 (boolNat x.run.firstUnit.isSome) ++ leBytes 1 (unitCode x.run.unit)
    ++ leBytes 8 x.desc.keyA ++ leBytes 8 x.desc.keyB ++ leBytes 8 x.run.treeVer ++ leBytes 8 (x.accepted / 1200)
    ++ leBytes 4 (units16 (x.run.startedAt - x.accepted)) ++ leBytes 4 (units16 (x.run.releasedAt - x.accepted))
    ++ Config.sha3 (x.desc.inline0 ++ x.desc.inline1 ++ input) ++ out
  let desc := recordHead 2 1 parts seq ++ x.desc.encode ++ leBytes 4 x.run.rootEpoch ++ leBytes 4 x.run.domEpoch
    ++ leBytes 2 (d.vf x.route.vf).pgen ++ zeros 14
  let rnd := randoms.zipIdx.map fun e =>
    recordHead 3 (2 + e.2) parts seq ++ leBytes 1 e.1.length ++ zeros 7 ++ padTo 64 (e.1.flatMap fun b => padTo 32 b) ++ zeros 16
  let inp := ins.zipIdx.map fun e => recordHead 4 (2 + randoms.length + e.2) parts seq ++ e.1
  [item, desc] ++ rnd ++ inp

/-- Records a ring holds. -/
def Ring.used (r : Ring) : Nat := (r.units.map fun u => u.records.length).sum

/-- The oldest whole units overwritten until n records fit; their number. -/
def Ring.makeRoom (r : Ring) (n : Nat) : Nat → Ring
  | 0 => r
  | f + 1 =>
    if r.used + n ≤ 2 ^ r.sizeLog2 then r
    else match r.units with
      | [] => r
      | _ :: us => Ring.makeRoom { r with units := us, lost := r.lost + 1 } n f

/-- A unit not yet exported would be overwritten (R727). -/
def Device.exportHolds (d : Device) (v : Nat) (before after : Ring) : Bool :=
  match d.exporting with
  | none => false
  | some e => e.vf == v && before.units.any fun u => !after.units.contains u && e.units.contains u

/-- The unit of an item goes into its VF's ring; a unit that may not overwrite, or that the ring cannot hold, is dropped
(R720, R727). -/
def Device.recordUnit (d : Device) (x : Item) (status : Nat) (c : Option Comp) : Device :=
  let v := x.route.vf
  let r := d.ring v
  match x.run.itemSeq with
  | none => d
  | some seq =>
    if !r.capture then d else
    let recs := d.itemRecords x seq status c r.inputs
    let room := r.makeRoom recs.length r.units.length
    if d.exportHolds v r room || decide (2 ^ r.sizeLog2 < recs.length) then d.setRing v { r with lost := r.lost + 1 }
    else d.setRing v { room with units := room.units ++ [{ seq := seq, records := recs }] }

/-- An item that is dispatched for the first time takes the next ITEM_SEQ of its VF while capture is on (R719, R722). -/
def Device.takeSeq (d : Device) (n : Nat) : Device :=
  match d.item n with
  | none => d
  | some x =>
    if x.run.itemSeq.isSome || x.work.isSome then d else
    let r := d.ring x.route.vf
    let run := { x.run with
      startedAt := d.cycle, treeVer := d.keys.bank.treeVer, rootEpoch := d.keys.bank.rootEpoch, domEpoch := d.dom.view.epoch }
    if !r.capture then d.setItem n { x with run := run }
    else (d.setItem n { x with run := { run with itemSeq := some r.next } }).setRing x.route.vf
      { r with next := (r.next + 1) % 2 ^ 32 }

/-! ## CAPTURE_WRITE (R733, R734) -/

def rplAt (o : Nat) : Nat := Page.rpl.base 0 + o

/-- The VF that RPL_SEL names. -/
def Device.rplVf (d : Device) : Nat := d.field (rplAt Off.rplSel) 11 0

/-- HBM bytes of every ring that captures. -/
def Device.ringBytes (d : Device) : Nat :=
  (d.rings.map fun e => if e.2.capture then 96 * 2 ^ e.2.sizeLog2 else 0).sum

/-- A write of RPL_CFG. -/
def Device.captureWrite (d : Device) (w : Nat) : Device :=
  let a := rplAt Off.rplCfg
  d.onWrite a fun d =>
    let v := d.rplVf
    let r := d.ring v
    let on := bitOf w 31
    let inp := bitOf w 30
    let size := bitsOf w 4 0
    let st := (d.vf v).st
    let fits := decide (d.ringBytes - (if r.capture then 96 * 2 ^ r.sizeLog2 else 0) + 96 * 2 ^ size ≤ 4096 * 2 ^ 20)
    if (on && (st == .absent || st == .destroyed)) || (on && !fits) || (r.capture && (size != r.sizeLog2 || inp != r.inputs))
        || size < 10 || 24 < size then d.writeLost a
    else if on && r.capture then d
    else d.setRing v { Ring.initial with capture := on, inputs := inp, sizeLog2 := size }

def execCaptureWrite (value : Word) (s : State) : Host.Outcome State Fault Refusal := s.done (s.dev.captureWrite value.toNat)

/-! ## Export (R724 to R728) -/

/-- How far an ITEM_SEQ lies after another: the sequence is 32 bits and wraps. -/
def seqAfter (first seq : Nat) : Nat := (seq + 2 ^ 32 - first) % 2 ^ 32

/-- How many sequence numbers lie from one up to another; none where it is ahead of the other (DEDUCED, log entry 165). -/
def seqSpan (first next : Nat) : Nat := if seqAfter first next < 2 ^ 31 then seqAfter first next else 0

/-- The units of an export range. -/
def Ring.range (r : Ring) (first count : Nat) : List Unit96 :=
  r.units.filter fun u => decide (seqAfter first u.seq < count)

/-- An EXPORT that ends at once with a code. -/
def Device.exportRefused (d : Device) (code : Nat) : Device :=
  (((d.commandStart (rplAt Off.rplCmd) 0).setResult (rplAt Off.rplResult) code).commandEnd (rplAt Off.rplCmd) 0 1).raiseInt
    .rpl 0 0

/-- EXPORT (R728: the conditions in the order of its table). -/
def Device.exportStart (d : Device) : Device :=
  let a := rplAt Off.rplCmd
  d.onCommand a fun d =>
    if d.exporting.isSome then d.writeLost a else
    let v := d.rplVf
    let r := d.ring v
    let first := d.reg (rplAt Off.rplExpFirst)
    let asked := d.reg (rplAt Off.rplExpCount)
    let count := if asked = 0 then seqSpan first r.next else asked
    let units := r.range first count
    let recs := (units.map fun u => u.records.length).sum
    if !d.bit (Page.vf.base v + Off.vfCtrl) 0 then d.exportRefused 1
    else if !r.capture || units.isEmpty then d.exportRefused 2
    else if d.reg (rplAt Off.rplCap) < 64 + 96 * recs then d.exportRefused 3
    else if (match r.units with | u :: _ => decide (0 < seqSpan first u.seq) | [] => true) then d.exportRefused 5
    else if d.cust.mode ≠ .service ∧ d.cust.mode ≠ .maintenance then d.exportRefused 7
    else { d.commandStart a 0 with exporting := some { vf := v, first := first, count := count, units := units } }

def execExportBlob (s : State) : Host.Outcome State Fault Refusal := s.done s.dev.exportStart

/-- The sealed blob: header and body (R725, R726). -/
def Device.exportBlob (d : Device) (e : Export) : Bytes :=
  let recs := e.units.flatMap fun u => u.records
  let bank := d.keys.bank
  let tenant := (d.vf e.vf).tenant
  let nonce := d.random 12
  let member := d.dom.view.inDomain
  let head := [0x4A, 0x52, 0x50, 0x4C] ++ leBytes 2 1 ++ leBytes 2 (if member then d.dom.view.moduleId else 0)
    ++ leBytes 4 tenant ++ leBytes 4 bank.rootEpoch ++ leBytes 4 e.first ++ leBytes 4 e.count ++ leBytes 4 recs.length
    ++ leBytes 4 (e.count - e.units.length) ++ nonce ++ leBytes 1 (boolNat member) ++ zeros 3
  let key := serviceKey bank.root bank.rootEpoch tenant "REPLAY"
  let body := recs.flatMap id
  head ++ Config.gcmTag key nonce head body ++ Config.gcmSeal key nonce head body

/-- EXPORT_END: the body, then the header, reach the host; or a host write failed (CODE 0x04). -/
def Device.exportEnd (d : Device) (hostOk : Bool) : Device :=
  match d.exporting with
  | none => d
  | some e =>
    if !hostOk then d.endExport 4
    else
      let blob := d.exportBlob e
      let addr := d.reg (rplAt Off.rplAddrLo) + 2 ^ 32 * d.reg (rplAt Off.rplAddrHi)
      ((((d.drawn.emit (.hostWrite (addr + 0x40) (blob.drop 0x40))).emit (.hostWrite addr (blob.take 0x40))).setReg
        (rplAt Off.rplExpLen) blob.length)).endExport 0

def execExportEnd (hostOk : Bool) (s : State) : Host.Outcome State Fault Refusal := s.done (s.dev.exportEnd hostOk)

end Sys2Proof.Machine
end

