-- ==== Sys2Proof/Machine/Ready.lean ====
section
/-! DEFINITION. Ready items: their order, the engine pairs that may take them, and yield requests (08_scheduler.md R342 to
R347, R357 to R360; 07_bignum_engines.md R282 to R311). -/

namespace Sys2Proof.Machine

/-! ## Order (R342 to R344) -/

/-- The least element of a list under a strict order. -/
def pickBy {α : Type} (lt : α → α → Bool) : List α → Option α
  | [] => none
  | x :: xs => match pickBy lt xs with
    | none => some x
    | some y => if lt y x then some y else some x

/-- Lexicographic order of lists of numbers. -/
def lexLt : List Nat → List Nat → Bool
  | a :: as, b :: bs => decide (a < b) || (a == b && lexLt as bs)
  | _, _ => false

/-- Where an item stands in its class: level, acceptance, VF from the pointer on, queue pair, window before ring, slot. -/
def Device.place (d : Device) (e : Nat × Item) : List Nat :=
  let r := e.2.route
  [7 - e.2.level, e.2.accepted, (r.vf + 4096 - d.sched.vfPtr) % 4096, r.qp, boolNat (!r.window), r.slot, e.1]

/-- The first of some items in the order of R344. -/
def Device.firstOf (d : Device) (es : List (Nat × Item)) : Option (Nat × Item) :=
  pickBy (fun a b => lexLt (d.place a) (d.place b)) es

/-- Passes and steps that their own rows run: no unit takes them (R353). -/
def Item.selfRun (x : Item) : Bool := x.work == some .sweep || x.work == some .scrub || x.work == some .compaction


/-- The device dispatches in SLACK and FLOOD. -/
def Device.awake (d : Device) : Bool := d.power.st == .slack || d.power.st == .flood

/-- The PLLs of SYS, of the scheduler and of a class's units have lock (16_power_clocks_startup.md R677). -/
def Device.clocksRun (d : Device) (cls : Nat) : Bool :=
  bitOf d.power.locked 0 && bitOf d.power.locked 5 && (cls != 0 || bitOf d.power.locked 6) && (cls != 1 || bitOf d.power.locked 7)

/-- Dispatch of a class pauses while its ready list is rebuilt (R371 source 242): class 0 LANE, 1 ENGINE, 2 CORE. -/
def Device.dispatches (d : Device) (cls : Nat) : Bool :=
  d.awake && d.clocksRun cls && !d.sched.rebuilding.contains (cls, false)

/-- A VF that is frozen, or whose freeze runs (11_jochevy_domain.md R507). -/
def Device.vfHeld (d : Device) (v : Nat) : Bool :=
  (d.vf v).st == .frozen || (match d.dom.mig with | some (.freeze, w, _, _) => w == v | _ => false)

/-- Ready items of an execution class, by a test. None of a VF that freezes is dispatched unless it has started (R362). -/
def Device.readyItems (d : Device) (c : ExecClass) (p : Nat → Item → Bool) : List (Nat × Item) :=
  d.sched.items.filter fun e => e.2.stage == .ready && e.2.exec == c && !e.2.selfRun
    && !(d.vfHeld e.2.route.vf && e.2.work.isNone && e.2.run.firstUnit.isNone) && p e.1 e.2

/-! ## Pairs (07_bignum_engines.md R282 to R285, R305 to R308) -/

def Item.onPair (x : Item) (p : Nat) : Bool := x.stage == .running && x.run.unit == some (.pair p)
def Item.parkedOn (x : Item) (p : Nat) : Bool := x.stage == .parked && x.run.unit == some (.pair p)
def Device.pairBusy (d : Device) (p : Nat) : Bool := d.sched.items.any fun e => e.2.onPair p
def Device.parkedCount (d : Device) (p : Nat) : Nat := (d.sched.items.filter fun e => e.2.parkedOn p).length

/-- RSA key pair generation. -/
def Item.rsaGen (x : Item) : Bool := x.desc.service == 0x0504 && x.desc.variant == 0x01

/-- A pair holds an RSA key generation, running or parked (R308). -/
def Device.holdsRsaGen (d : Device) (p : Nat) : Bool :=
  d.sched.items.any fun e => e.2.rsaGen && (e.2.onPair p || e.2.parkedOn p)

/-- A lattice job (R285, R312): the services of ML-DSA-65 and ML-KEM-768, their key pairs and their public keys. -/
def Item.lattice (x : Item) : Bool :=
  let s := x.desc.service
  decide (s ∈ [0x0520, 0x0521, 0x0530, 0x0531]) || (s == 0x0504 && decide (x.desc.variant ∈ [0x20, 0x30]))
    || (s == 0x0505 && (match x.ops.keyA with | some e => decide (e.attr.alg ∈ [0x14, 0x15]) | none => false))

def Device.engine (d : Device) (e : Nat) : Engine := d.units.engines.get Engine.initial e
def Device.setEngine (d : Device) (e : Nat) (x : Engine) : Device :=
  d.mapUnits fun u => { u with engines := u.engines.put Engine.initial e x }
def Device.pair (d : Device) (p : Nat) : Pair := d.units.pairs.get Pair.initial p
def Device.setPair (d : Device) (p : Nat) (x : Pair) : Device :=
  d.mapUnits fun u => { u with pairs := u.pairs.put Pair.initial p x }
def Device.group (d : Device) (g : Nat) : Cluster := d.units.groups.get Cluster.initial g
def Device.setGroup (d : Device) (g : Nat) (x : Cluster) : Device :=
  d.mapUnits fun u => { u with groups := u.groups.put Cluster.initial g x }

/-- An engine that R285 lets serve. -/
def Device.engineServes (d : Device) (e : Nat) (lattice : Bool) : Bool :=
  let b := Page.bn.base e
  let fail := d.reg (b + Off.bnFail)
  d.bit (b + 8) 0 && !(d.engine e).quarantined && !(d.engine e).withdrawn && fail &&& 0x7D == 0
    && !(lattice && fail.testBit 1)

/-- A pair that R285 lets serve. -/
def Device.pairServes (d : Device) (p : Nat) (lattice : Bool) : Bool :=
  d.engineServes (2 * p) lattice && d.engineServes (2 * p + 1) lattice

/-- A pair that may take an item, busy or not (R347). -/
def Device.pairMay (d : Device) (x : Item) (p : Nat) : Bool :=
  d.pairServes p x.lattice && !(x.rsaGen && d.holdsRsaGen p)
    && (match x.run.firstUnit with | some (.pair f) => f / 2 != p / 2 | _ => true)

/-- A job that waits in its rerun state in the store of its first pair (08_scheduler.md R362): it resumes elsewhere. -/
def Item.parkedRerun (x : Item) : Bool := x.run.firstUnit.isSome && x.run.firstUnit == x.run.unit

/-- The parked jobs that a pair may resume: of no frozen VF, on a pair in service (R306, R326, R510). -/
def Device.resumable (d : Device) (p : Nat) : List (Nat × Item) :=
  let ok := fun e => !(d.engine e).quarantined && !(d.engine e).withdrawn
  d.sched.items.filter fun e => e.2.parkedOn p && !e.2.parkedRerun && !d.vfHeld e.2.route.vf && ok (2 * p) && ok (2 * p + 1)

/-- A free pair that may take an item: no job parked on it comes first (R358). -/
def Device.pairTakes (d : Device) (x : Item) (p : Nat) : Bool :=
  !d.pairBusy p && d.pairMay x p && (d.resumable p).all fun e => decide (e.2.level < x.level)

/-- The pair an ENGINE item goes to: in a clocked group before a gated one, then the lowest number (R347). -/
def Device.choosePair (d : Device) (x : Item) : Option Nat :=
  let ps := (List.range 16).filter fun p => d.pairTakes x p
  match ps.filter fun p => (d.group (p / 2)).clk == .clocked with
  | p :: _ => some p
  | [] => ps.head?

/-! ## Yield requests (R358, R359) -/

/-- SCHED_CTRL.LONG_JOB in force, in µs. -/
def Device.longJob (d : Device) : Nat := max 1 (bitsOf d.sched.ctrl 15 8)

/-- The job that runs on a pair. -/
def Device.jobOn (d : Device) (p : Nat) : Option (Nat × Item) := List.find? (fun e => e.2.onPair p) d.sched.items

/-- The pairs that may be asked to yield for an item, with the order in which they are chosen: the lowest level of the
running job, then its latest acceptance, then the lowest pair number. -/
def Device.yieldCandidates (d : Device) (x : Item) : List (Nat × Item) :=
  (List.range 16).filterMap fun p =>
    match d.jobOn p with
    | none => none
    | some (_, j) =>
      if decide (j.level < x.level) && decide (d.longJob ≤ j.pairTime) && decide (d.parkedCount p < 8)
          && (d.pair p).yieldFor.isNone && d.pairMay x p then some (p, j) else none

/-- A waiting engine item requests a yield, where the conditions of R358 hold. -/
def Device.askYield (d : Device) (n : Nat) : Device :=
  match d.item n with
  | none => d
  | some x =>
    if x.stage ≠ .ready || x.exec ≠ .engine || (d.choosePair x).isSome || !bitOf d.sched.ctrl 0
        || decide (d.longJob ≤ x.pairTime) || d.units.pairs.any (fun e => e.2.yieldFor == some n) then d
    else
      match pickBy (fun a b => decide (a.2.level < b.2.level) || (a.2.level == b.2.level
          && (decide (b.2.accepted < a.2.accepted) || (a.2.accepted == b.2.accepted && decide (a.1 < b.1)))))
          (d.yieldCandidates x) with
      | some (p, _) => d.setPair p { d.pair p with yieldFor := some n }
      | none => d

/-- Every waiting engine item asks. -/
def Device.askYields (d : Device) : Device :=
  ((d.readyItems .engine fun _ _ => true).map Prod.fst).foldl (fun d n => d.askYield n) d

/-! ## Starting a run (03_host_queues.md R99, 18_counters_replay.md R719) -/

/-- An item begins on a unit: its declared cycles leave the unstarted work, a bundle's step by step. -/
def Device.startRun (d : Device) (n : Nat) (u : RunUnit) : Device :=
  match d.item n with
  | none => d
  | some x =>
    let cycles := if x.desc.bundle then d.stepCycles x.current else x.adm.cycles
    let left := if x.run.begun then x.adm.unstarted else x.adm.unstarted - cycles
    (d.setItem n { x with
      stage := .running
      adm := { x.adm with unstarted := left }
      run := { x.run with unit := some u, checkFail := false, unitFail := false, staged := none, begun := true
                          differs := 0, blinds := [], points := 0 } }).takeSeq n

end Sys2Proof.Machine
end

