-- ==== Sys2Proof/Machine/HostQueues.lean ====
section
/-! DEFINITION. The host front end: acceptance, the order of checks, admission, fences, doorbells, SQ fetch and the posting
of completions (03_host_queues.md; 08_scheduler.md R334 to R337, R342, R343, R361). -/

namespace Sys2Proof.Machine

/-! ## Registers of queue pairs (12_tenancy.md R560) -/

def qpBase (v q : Nat) : Nat := Page.vf.base v + 0x800 + 0x20 * q
def qpCfg (v q : Nat) : Nat := qpBase v q + 0x10
def Device.sqDepth (d : Device) (v q : Nat) : Nat := 2 ^ d.field (qpCfg v q) 7 0
def Device.cqDepth (d : Device) (v q : Nat) : Nat := 2 ^ d.field (qpCfg v q) 15 8

/-- The service class of a queue pair (R66). -/
def Device.qpClass (d : Device) (v q : Nat) : SvcClass :=
  match d.field (qpCfg v q) 29 28 with
  | 0 => .interactive
  | 1 => .bulk
  | _ => .background

/-- No free entry in a CQ: one entry is kept free (R118; DEDUCED, log entry 12). -/
def Device.cqFull (d : Device) (v q : Nat) : Bool :=
  let x := d.qp v q
  (x.cqTail + 1) % d.cqDepth v q == x.cqHead

/-- PAGE_CTRL.ENABLE of the VF page and of the VF management page are both 1 (R781). -/
def Device.vfPagesOn (d : Device) (v : Nat) : Bool :=
  d.bit (Page.vf.base v + 8) 0 && d.bit (Page.vfm.base v + 8) 0

/-- A VF with queue pairs: it is ACTIVE, FROZEN or DRAINING. -/
def Vf.live (x : Vf) : Bool := x.st == .active || x.st == .frozen || x.st == .draining

/-- A VF whose drain has ended accepts nothing more: no descriptor accepted before the DRAIN write is left, and no engine job
is parked (12_tenancy.md R549). -/
def Device.drained (d : Device) (v : Nat) (x : Vf) : Bool :=
  x.st == .draining && !d.sched.items.any fun e => e.2.route.vf == v && e.2.work.isNone && !e.2.run.squash
    && (decide (e.1 < x.drainFrom) || e.2.stage == .parked)

/-- Why a window or doorbell write is dropped: the source that counts it (R28, R97, R544, R546, R551, R781). -/
def Device.intakeDrop (d : Device) (v q : Nat) : Option Nat :=
  let f := d.vf v
  let x := d.qp v q
  if x.enabled && !x.draining && f.live && !d.drained v f && d.vfPagesOn v then none
  else if f.live && decide (f.qpQuota ≤ q) && (!x.enabled || x.draining) then some 210
  else some 211

/-- A doorbell or window access that the intake drops: one event of its source, an unmapped one against the VF as well
(02_register_convention.md R35). -/
def Device.dropAccess (d : Device) (v src : Nat) : Device :=
  let d1 := d.fault src
  if src = 210 then d1.setVf v { d1.vf v with unmapped := (d1.vf v).unmapped + 1 } else d1

/-! ## The matching store (R334, R335, R361) -/

/-- Entries in use in a partition. -/
def Device.entries (d : Device) (p : Partition) : Nat :=
  (d.sched.items.filter fun e => e.2.part == some p).length

/-- The partition that gives a descriptor's item its entry. -/
def Device.takeEntry (d : Device) (reserve : Bool) : Option Partition :=
  if d.entries .shared < 241664 then some .shared
  else if reserve && decide (d.entries .interactive < 16384) then some .interactive
  else none

/-- Entries of a delay list. -/
def Device.listLength (d : Device) (l : Nat) : Nat := (d.sched.delays.filter fun e => e.list == l).length

/-- The DEFER and HOLD lists have room. -/
def Device.listsOpen (d : Device) : Bool :=
  decide (d.listLength deferList < 65536) && decide (d.listLength holdList < 65536)

/-- A descriptor that waits for a matching-store entry: SQ fetch stops (R117). -/
def Device.ingestHeld (d : Device) : Bool := d.sched.items.any fun e => e.2.stage == .ingest

/-! ## Steps 1, 2, 4 and 5 of R93 -/

/-- Step 2 for a descriptor or a bundle step of item n; DRAINING stops what was accepted after the DRAIN write (R549). -/
def Device.checkMode (d : Device) (n v : Nat) (x : Desc) : Option (Status × Nat) :=
  let m := d.cust.mode
  if (!x.diagnostics && !(m == .service || m == .maintenance)) || ((d.vf v).st == .draining && decide ((d.vf v).drainFrom ≤ n)) then
    some (.mode, 0)
  else if x.commits && !x.bundle then
    match d.storeRefusal with | some k => some (.mode, k) | none => none
  else none

/-- Steps 1 and 2. -/
def Device.checkEarly (d : Device) (n v : Nat) (x : Desc) : Option (Status × Nat) :=
  if (d.vf v).st == .frozen || (x.pgen != 0 && x.pgen != (d.vf v).pgen) then some (.migrated, 0) else d.checkMode n v x

/-- What step 4 answers: the version the item binds to (none for an engine service), or the TABLE detail. Several causes
at once give the lowest detail (log entry 9). -/
inductive ServiceCheck where
  | bound (version : Option Nat)
  | refused (detail : Nat)
deriving DecidableEq, Repr

/-- Compatibility services of the engines (07_bignum_engines.md R320). -/
def compatEngine (s v : Nat) : Bool := s == 0x0512 || s == 0x0513 || (s == 0x0504 && decide (0x80 ≤ v))

/-- The curve slot an engine service names. -/
def slotOf (s v : Nat) : Nat := if s = 0x0504 then v - 0x80 else v

/-- Step 4 (R79, R154, R158, R162, R166, R241, R224, R245, R319, R320, R594). -/
def Device.checkTable (d : Device) (v : Nat) (x : Desc) : ServiceCheck :=
  let s := x.service
  let a := x.variant
  if isEngine s then
    if s ∉ catalogue then .refused 1
    else if compatEngine s a then
      match d.units.curves.find? (slotOf s a) with
      | some c => if c.retiring then .refused 1 else if d.cust.compat then .bound none else .refused 6
      | none => if d.cust.compat then .refused 1 else .refused 6
    else .bound none
  else if !isOperator s && s ∈ catalogue && !definedVariant s a then .refused 1
  else match d.activeTable s a with
    | none => .refused 1
    | some (k, t) =>
      if (match sessionIndex s a with | some i => (d.activeTable s (0xF0 + i)).isNone | none => false) then .refused 1
      else if t.withdrawn then .refused 3
      else if isOperator s && decide ((d.vf v).tenant ∉ t.grant) then .refused 5
      else if t.compat && !d.cust.compat then .refused 6
      else .bound (some k)

/-- An epoch newer than another, modulo 2^32 (11_jochevy_domain.md R494). -/
def epochNewer (a b : Nat) : Bool :=
  let k := (a + 2 ^ 32 - b) % 2 ^ 32
  decide (1 ≤ k ∧ k ≤ 2 ^ 31 - 1)

/-- What step 5 answers. -/
inductive EpochCheck where
  | proceed | hold | stale
deriving DecidableEq, Repr

/-- Step 5 (R95, R96). -/
def Device.checkEpoch (d : Device) (e : Nat) : EpochCheck :=
  let w := d.dom.view
  if e = 0 ∨ e = w.epoch then .proceed
  else if epochNewer e w.epoch then .hold
  else if w.grace.contains e then .proceed else .stale

/-! ## Operand requests and readiness (08_scheduler.md R336, R337, R342, R343) -/

/-- An operand that is not outstanding. -/
def Operand.settled (o : Operand) : Bool := o == .none || o == .here

/-- Every needed operand is here. -/
def Item.operandsIn (x : Item) : Bool :=
  x.ops.a.settled && x.ops.b.settled && x.ops.buf.settled && x.ops.rnd.settled

/-- A session derivation is still to come (06_payment_services.md R241). -/
def Item.needsSession (x : Item) : Bool :=
  (sessionIndex x.current.service x.current.variant).isSome && !x.run.derived

/-- The level of an item when it becomes ready (R342). -/
def Item.readyLevel (x : Item) : Nat :=
  if x.run.firstUnit.isSome then 7
  else match x.work with
    | some .sweep => 1
    | some .scrub | some .compaction => 0
    | some _ => 5
    | none => match x.cls with
      | .interactive => if x.adm.withinShare then 6 else 4
      | .bulk => 3
      | .background => 2

/-- The operands of an item, or of the step a bundle stands at, requested together (R336). -/
def Device.requestOperands (d : Device) (n : Nat) : Device :=
  match d.item n with
  | none => d
  | some x =>
    let c := x.current
    let reads := !x.desc.bundle && c.buf
    let random := match d.runTable x with | some t => t.rngBlocks == 1 | none => false
    let ops : Opnds := { Opnds.empty with
      a := if c.needsA then .needed else .none
      b := if c.needsB && !createsHandle c.service then .needed else .none
      buf := if !reads then .none else if c.inLen = 0 then .here else .asked
      rnd := if random then .asked else .none }
    let d1 := d.setItem n { x with stage := .waiting, ops := ops }
    let d2 := if reads && c.inLen != 0 then d1.emit (.bufRead n c.bufAddr c.inLen) else d1
    let d3 := if c.needsA then d2.requestKey n false else d2
    if c.needsB then d3.requestKey n true else d3

/-- The checks of a bundle step, from step 2 of R93 on (R82); a carrier runs no table (R278). -/
def Device.openStep (d : Device) (n : Nat) : Device :=
  match d.item n with
  | none => d
  | some x =>
    let c := x.current
    let v := x.route.vf
    if isCarrier c then d.refuse n .ok 0
    else match d.checkMode n v c with
      | some (st, k) => d.refuse n st k
      | none => match stepDetail x.steps x.run.step c with
        | some k => d.refuse n .format k
        | none => match d.checkTable v c with
          | .refused k => d.refuse n .table k
          | .bound b => (d.setItem n { x with bound := b }).requestOperands n

/-- Whether a step lets the next one run when CONTINUE is 0 (R83, R281). -/
def StepEnd.goesOn (e : StepEnd) : Bool := e.status == .ok && e.verdict == 0

/-- A bundle ends. -/
def Device.finishBundle (d : Device) (n : Nat) (x : Item) (steps : List StepEnd) : Device :=
  d.setItem n (x.finish (bundleComp steps))

/-- An item whose operands are all here becomes ready (R337); a bundle whose step has ended goes to its next step or ends.
The first argument bounds the steps that end at once. -/
def Device.settleN : Nat → Device → Nat → Device
  | 0, d, _ => d
  | f + 1, d, n =>
    match d.item n with
    | none => d
    | some x =>
      if x.stage ≠ .waiting then d
      else if x.desc.bundle && !x.stepOpen then
        let ends := x.run.steps
        let on := bitOf x.desc.param 0 || (match ends.getLast? with | some e => e.goesOn | none => true)
        if x.steps.length ≤ ends.length then d.finishBundle n x ends
        else if !on then d.finishBundle n x (ends ++ squashedSteps (x.steps.length - ends.length))
        else Device.settleN f ((d.setItem n { x with run := { x.run with step := ends.length } }).openStep n) n
      else if !x.operandsIn || x.needsSession then d
      else if d.gatesShut && !x.current.diagnostics then Device.settleN f (d.refuse n .mode 0) n
      else d.setItem n { x with stage := .ready, level := x.readyLevel }

/-- An item settles; a ready engine item that finds no pair asks for a yield (08_scheduler.md R358). -/
def Device.settle (d : Device) (n : Nat) : Device := (Device.settleN 6 d n).askYield n

/-! ## Admission (R98 to R106, 12_tenancy.md R531 to R537) -/

/-- DEFER_LIMIT in force, in SYS cycles. -/
def Device.deferLimit (d : Device) : Nat := usCycles (min (d.sched.admitCfg % 2 ^ 16) 1000)

/-- No ceiling token is held, and a ceiling applies (R532). -/
def Vf.noTokens (x : Vf) : Bool := x.rate != 0xFFFFF && x.tokens == 0

/-- One token taken. -/
def Vf.takeToken (x : Vf) : Vf := if x.rate = 0xFFFFF then x else { x with tokens := x.tokens - 1 }

/-- The tick at or after a SYS cycle of this start-up, as a tick number (08_scheduler.md R354). -/
def Device.tickAt (d : Device) (cycle : Nat) : Nat :=
  (d.sched.tick + ((cycle + 1199) / 1200 - d.cycle / 1200)) % 2 ^ 32

/-- The time from acceptance to now, as DELAY (R103). -/
def Device.delaySince (d : Device) (x : Item) : Nat := delayUnits (d.cycle - x.accepted)

/-- Admission refuses an item. -/
def Device.refuseAdmission (d : Device) (n : Nat) (st : Status) : Device :=
  match d.item n with
  | none => d
  | some x =>
    (d.setItem n { x with adm := { x.adm with decided := some .refused, delay := d.delaySince x } }).finishItem n st 0

/-- An item is admitted: its token, its charge, its declared cycles, and its operand requests. -/
def Device.admitItem (d : Device) (n : Nat) (x : Item) : Device :=
  let v := x.route.vf
  let f := d.vf v
  let e := x.onEngines
  let within := f.withinShare e
  let served := x.adm.first
  let f1 := (if within then f.charge e x.adm.cycles else f).takeToken
  let x1 := { x with
    stage := .waiting
    adm := { x.adm with
      decided := some (if served then .served else .delayed)
      delay := if served then 0 else d.delaySince x
      withinShare := within
      unstarted := x.adm.cycles
      chargedAt := d.sched.tick } }
  let d1 := (((d.setVf v f1).setItem n x1).dropDelay deferList n).countEvent (some v) (if e then 0x11 else 0x10) x.adm.cycles
  (if x.desc.bundle then d1.openStep n else d1.requestOperands n).settle n

/-- A deferred item waits: its DEFER entry falls due at its time limit (R353). -/
def Device.deferItem (d : Device) (n : Nat) (x : Item) : Device :=
  let y := { x with stage := .deferred, adm := { x.adm with first := false, deferred := true } }
  if d.hasDelay deferList n then d.setItem n y
  else (d.setItem n y).addDelay deferList n (d.tickAt (x.adm.limitFrom + d.deferLimit))

/-- A full CQ holds an item of the window path before admission (R118). -/
def Device.windowHeld (d : Device) (x : Item) : Bool := x.route.window && d.cqFull x.route.vf x.route.qp

/-- One pass of the loop of admission. `due` says that the item's DEFER entry has been released. While the CQ of a deferred window
descriptor is full it is neither admitted (R118) nor refused: its limit is applied when there is room (DESIGN CHOICE, log
entry 132). -/
def Device.admitTry (d : Device) (n : Nat) (due : Bool) : Device :=
  match d.item n with
  | none => d
  | some x =>
    let f := d.vf x.route.vf
    let expired := due || decide (d.deferLimit ≤ d.cycle - x.adm.limitFrom)
    if d.windowHeld x then d.deferItem n x
    else if f.noTokens then (if expired then d.refuseAdmission n .refusedCeiling else d.deferItem n x)
    else if x.cls = .interactive ∧ f.withinShare x.onEngines then d.admitItem n x
    else if !d.saturated x.onEngines
        && (x.cls != .background || !d.sched.items.any fun e => e.1 != n && e.2.stage == .deferred) then d.admitItem n x
    else if x.cls = .background ∨ expired then d.refuseAdmission n .refusedSaturated
    else d.deferItem n x

/-- The group of a deferred item in the order of R101. -/
def Device.admitGroup (d : Device) (x : Item) : Nat :=
  match x.cls with
  | .interactive => if (d.vf x.route.vf).withinShare x.onEngines then 0 else 1
  | .bulk => 2
  | .background => 3

/-- Deferred items tried in the order of R101: by group, and in acceptance order within a group. -/
def Device.admitDeferred (d : Device) : Device :=
  let waiting := d.sched.items.filter fun e => e.2.stage == .deferred
  let order := [0, 1, 2, 3].flatMap fun g => (waiting.filter fun e => d.admitGroup e.2 == g).map Prod.fst
  order.foldl (fun d n => d.admitTry n false) d

/-! ## Fences and the way to admission (R109, R118) -/

/-- A fence holds an item: it carries FENCE and an earlier descriptor of its queue pair has not completed, or an earlier
one that carries FENCE has not. Completed is read as posted (DESIGN CHOICE, log entry 133). -/
def Device.fenceHolds (d : Device) (n : Nat) (x : Item) : Bool :=
  d.sched.items.any fun e => decide (e.1 < n) && e.2.work.isNone && !e.2.run.squash && e.2.route.vf == x.route.vf && e.2.route.qp == x.route.qp
    && (x.desc.fence || e.2.desc.fence)

/-- Admission begins: the refusals made once, then the loop. -/
def Device.admitStart (d : Device) (n : Nat) (x : Item) : Device :=
  let f := d.vf x.route.vf
  let y := { x with adm := { x.adm with cycles := d.declared x } }
  let d1 := d.setItem n y
  if x.desc.createsRecords && !x.desc.bundle && decide (f.quotaStore * 1024 ≤ f.storeUse) then
    d1.refuseAdmission n .refusedQuota
  else if (d.qp x.route.vf x.route.qp).draining then d1.refuseAdmission n .refusedQuota
  else d1.admitTry n false

/-- An item that passed step 5 waits for its fence and its CQ, or goes to admission. -/
def Device.preAdmit (d : Device) (n : Nat) : Device :=
  match d.item n with
  | none => d
  | some x =>
    if d.fenceHolds n x then d.setItem n { x with stage := .fenced, adm := { x.adm with first := false, fenced := true } }
    else if d.windowHeld x then d.setItem n { x with stage := .fenced }
    else d.admitStart n x

/-- An item that a fence or a CQ held goes on, once neither holds it; its time limit counts from the SYS cycle in which a fence
stops holding it (R109). -/
def Device.unfence (d : Device) (n : Nat) : Device :=
  match d.item n with
  | none => d
  | some x =>
    if x.stage ≠ .fenced || d.fenceHolds n x then d
    else
      let y := if x.adm.fenced then { x with adm := { x.adm with limitFrom := d.cycle, fenced := false } } else x
      if d.windowHeld y then d.setItem n y else (d.setItem n y).admitStart n y

/-- Step 5 (R95, R96). -/
def Device.epochStep (d : Device) (n : Nat) : Device :=
  match d.item n with
  | none => d
  | some x =>
    match d.checkEpoch x.desc.epoch with
    | .proceed => d.preAdmit n
    | .stale => d.refuseAdmission n .epochStale
    | .hold =>
      let y := { x with stage := .epochHold, adm := { x.adm with first := false } }
      if d.hasDelay holdList n then d.setItem n y
      else (d.setItem n y).addDelay holdList n (d.tickAt (x.accepted + msCycles 2))

/-- Held items once more at step 5, when the device's epoch or its grace has changed. -/
def Device.epochChanged (d : Device) : Device :=
  ((d.sched.items.filter fun e => e.2.stage == .epochHold).map Prod.fst).foldl
    (fun d n => match d.item n with
      | some x => if d.checkEpoch x.desc.epoch = .hold then d else (d.dropDelay holdList n).epochStep n
      | none => d) d

/-- Step 4. -/
def Device.serviceStep (d : Device) (n : Nat) : Device :=
  match d.item n with
  | none => d
  | some x =>
    if x.desc.bundle then d.epochStep n
    else match d.checkTable x.route.vf x.desc with
      | .refused k => d.finishItem n .table k
      | .bound b => (d.setItem n { x with bound := b }).epochStep n

/-- OUT_CAP takes the output of the operator table that is active for a descriptor, or of a slot curve (R93, R324; 04_tide_tables.md
R136). -/
def Device.outCapOk (d : Device) (x : Desc) : Bool :=
  if !x.buf then true
  else if isOperator x.service then
    match d.activeTable x.service x.variant with | some (_, t) => decide (t.outBytes ≤ x.outCap) | none => true
  else if x.service = 0x0512 then decide (2 * ((d.curveBits x.variant + 7) / 8) ≤ x.outCap)
  else if x.service = 0x0504 ∧ 0x80 ≤ x.variant then decide (1 + 2 * d.curveBytes (x.variant - 0x80) ≤ x.outCap)
  else true

/-- The checks of a buffer's contents, those of a slot curve's lengths among them (R94, R324). -/
def Device.bufferCheck (d : Device) (x : Desc) (data : Bytes) : Option Nat :=
  if x.service = 0x0513 then
    match d.units.curves.find? x.variant with
    | none => none
    | some c =>
      let n := 1 + 2 * d.curveBytes x.variant + 2 * ((hdr c.set 8 2 + 7) / 8)
      if n + 20 ≤ x.inLen ∧ x.inLen ≤ n + 64 then none else some 3
  else bufferDetail x data

/-- Steps 1 to 3, and for a bundle the read of its step entries before step 3 (R93, R94). -/
def Device.checkItem (d : Device) (n : Nat) : Device :=
  match d.item n with
  | none => d
  | some x =>
    match d.checkEarly n x.route.vf x.desc with
    | some (st, k) => d.finishItem n st k
    | none =>
      if x.route.intruder then d.finishItem n .format 6
      else if x.desc.bundle then
        match bundleDetail x.desc with
        | some k => d.finishItem n .format k
        | none => (d.setItem n { x with stage := .bundleRead }).emit (.bufRead n x.desc.bufAddr x.desc.inLen)
      else match withLength (!d.outCapOk x.desc) (formatDetail x.desc false) with
        | some k => d.finishItem n .format k
        | none => d.serviceStep n

/-- A descriptor without an entry takes one and is checked; without room it stays where it is (R117). -/
def Device.ingest (d : Device) (n : Nat) : Device :=
  match d.item n with
  | none => d
  | some x =>
    if x.stage ≠ .ingest then d
    else if x.route.intruder then d.checkItem n
    else match d.takeEntry (x.route.window && x.cls == .interactive) with
      | none => d
      | some p => if d.listsOpen then (d.setItem n { x with part := some p }).checkItem n else d

/-- Descriptors that wait for an entry go on, in acceptance order, as far as there is room. -/
def Device.ingestAll (d : Device) : Device :=
  ((d.sched.items.filter fun e => e.2.stage == .ingest).map Prod.fst).foldl (fun d n => d.ingest n) d

/-! ## Acceptance (R68, R69, R71, R107) -/

/-- Admission has decided nothing yet. -/
def Adm.atAcceptance (now : Nat) : Adm :=
  { limitFrom := now, first := true, decided := none, delay := 0, withinShare := false, cycles := 0, unstarted := 0
    deferred := false, fenced := false, chargedAt := 0 }

/-- A work item at acceptance. -/
def Item.atAcceptance (r : Route) (x : Desc) (cls : SvcClass) (now : Nat) : Item :=
  { route := r, desc := x, steps := [], accepted := now, stage := .ingest, part := none, cls := cls, exec := x.execClass
    level := 0, work := none
    adm := Adm.atAcceptance now
    ops := Opnds.empty
    run := { unit := none, firstUnit := none, checkFail := false, unitFail := false, staged := none, step := 0, steps := []
             squash := false, derived := false, itemSeq := none, startedAt := 0, releasedAt := 0
             treeVer := 0, rootEpoch := 0, domEpoch := 0, draws := [] }
    bound := none, comp := none }

/-- The device accepts a descriptor: a work item is made and checked (DESCRIPTOR_ACCEPT). -/
def Device.accept (d : Device) (r : Route) (bytes : Bytes) : Device :=
  let n := d.sched.nextItem
  let x := Item.atAcceptance r (Desc.parse bytes) (d.qpClass r.vf r.qp) d.cycle
  let d1 := (d.setItem n x).mapSched fun s => { s with nextItem := n + 1 }
  (d1.countEvent (some r.vf) 0x01 1).ingest n

/-- Bytes of a host write that fall into a slot. -/
def Slot.write (s : Slot) (off : Nat) : Bytes → Slot
  | [] => s
  | b :: bs =>
    if off < 64 then
      Slot.write { s with bytes := s.bytes.set off b, mask := s.mask ||| BitVec.ofNat 64 (2 ^ off) } (off + 1) bs
    else s

/-- A queue pair with a slot changed. -/
def Qp.putSlot (x : Qp) (k : Nat) (s : Slot) : Qp := { x with slots := x.slots.put Slot.empty k s }

/-- A host write into a window slot; the write that completes the mask gets the descriptor accepted (R69 to R72). -/
def Device.windowWrite (d : Device) (v q k off : Nat) (data : Bytes) : Device :=
  if !d.exposed v then d else
  match d.intakeDrop v q with
  | some src => d.dropAccess v src
  | none =>
    let x := d.qp v q
    let s := (x.slots.get Slot.empty k).write off data
    if s.mask ≠ BitVec.allOnes 64 then d.setQp v q (x.putSlot k s)
    else
      let intruder := s.occupant.isSome
      let s1 := { s with mask := 0, occupant := if intruder then s.occupant else some d.sched.nextItem }
      (d.setQp v q (x.putSlot k s1)).accept { vf := v, qp := q, window := true, slot := k, intruder := intruder } s.bytes

/-- WINDOW_SLOT_WRITE. -/
def execWindowSlotWrite (vf : Fin 4096) (qp : Fin 64) (slot : Fin 8) (off : Nat) (data : Bytes) (s : State) :
    Host.Outcome State Fault Refusal :=
  s.done (s.dev.windowWrite vf qp slot off data)

/-! ## Doorbells and SQ fetch (R67, R110, R117 to R120) -/

/-- A doorbell write: whether it is well formed for a ring of this depth. -/
def doorbellOk (be : BitVec 4) (value : Word) (depth : Nat) : Bool :=
  be == 0xF && decide (value.toNat < depth) && decide (value.toNat < 65536)

/-- SUBMISSION_TAIL_DOORBELL. -/
def Device.tailDoorbell (d : Device) (v q : Nat) (be : BitVec 4) (value : Word) : Device :=
  if !d.exposed v then d else
  match d.intakeDrop v q with
  | some src => d.dropAccess v src
  | none =>
    if doorbellOk be value (d.sqDepth v q) then d.setQp v q { d.qp v q with sqTail := value.toNat } else d.fault 211

def execSubmissionTailDoorbell (vf : Fin 4096) (qp : Fin 64) (be : BitVec 4) (value : Word) (s : State) :
    Host.Outcome State Fault Refusal :=
  s.done (s.dev.tailDoorbell vf qp be value)

/-- Window descriptors that a full CQ held go on (R118). -/
def Device.unholdWindow (d : Device) (v q : Nat) : Device :=
  ((d.sched.items.filter fun e => e.2.stage == .fenced && e.2.route.vf == v && e.2.route.qp == q).map Prod.fst).foldl
    (fun d n => d.unfence n) d

/-- COMPLETION_HEAD_DOORBELL. -/
def Device.headDoorbell (d : Device) (v q : Nat) (be : BitVec 4) (value : Word) : Device :=
  if !d.exposed v then d else
  match d.intakeDrop v q with
  | some src => d.dropAccess v src
  | none =>
    if doorbellOk be value (d.cqDepth v q) then
      (d.setQp v q { d.qp v q with cqHead := value.toNat }).unholdWindow v q
    else d.fault 211

def execCompletionHeadDoorbell (vf : Fin 4096) (qp : Fin 64) (be : BitVec 4) (value : Word) (s : State) :
    Host.Outcome State Fault Refusal :=
  s.done (s.dev.headDoorbell vf qp be value)

/-- SQ fetch of a queue pair may go on (R110, R117, R118, R120, R544, R781). -/
def Device.canFetch (d : Device) (v q : Nat) : Bool :=
  let x := d.qp v q
  d.exposed v && (d.intakeDrop v q).isNone && !d.bit (qpBase v q + 0x14) 2 && x.sqHead != x.sqTail && !d.cqFull v q
    && !d.ingestHeld && (d.takeEntry false).isSome && d.listsOpen

/-- SQ_FETCH_ISSUE: the next entry below the tail is read by DMA. -/
def Device.fetchIssue (d : Device) (v q : Nat) : Device :=
  let x := d.qp v q
  if d.canFetch v q then
    (d.setQp v q { x with sqHead := (x.sqHead + 1) % d.sqDepth v q, reads := x.reads ++ [x.sqHead] }).emit
      (.sqRead v q x.sqHead)
  else d

def execSqFetchIssue (vf : Fin 4096) (qp : Fin 64) (s : State) : Host.Outcome State Fault Refusal :=
  s.done (s.dev.fetchIssue vf qp)

/-- Reads that are outstanding deliver nothing: SQ_HEAD names their first entry again (R544, R781; DEDUCED, log entry 27). -/
def Device.dropReads (d : Device) (v q : Nat) : Device :=
  let x := d.qp v q
  d.setQp v q { x with reads := [], sqHead := x.reads.headD x.sqHead }

/-- SQ_READ_COMPLETION: the oldest outstanding read delivers its descriptor, unless intake has stopped. The row names no read; that
completions come back in the order of the reads is the model's (DESIGN CHOICE, log entry 134). -/
def Device.readCompletion (d : Device) (v q : Nat) (data : Bytes) : Device :=
  let x := d.qp v q
  match x.reads with
  | [] => d
  | i :: is =>
    if (d.intakeDrop v q).isSome then d.dropReads v q else
    (d.setQp v q { x with reads := is }).accept { vf := v, qp := q, window := false, slot := i, intruder := false }
      (padTo 64 data)

def execSqReadCompletion (vf : Fin 4096) (qp : Fin 64) (data : Bytes) (s : State) : Host.Outcome State Fault Refusal :=
  s.done (s.dev.readCompletion vf qp data)

/-- SQ_READ_FAILURE: fetch stops at the entry that failed, and the error state is set (R120; DEDUCED, log entry 13). -/
def Device.readFailure (d : Device) (v q : Nat) : Device :=
  let x := d.qp v q
  match x.reads with
  | [] => d
  | i :: _ =>
    ((d.setQp v q { x with reads := [], sqHead := i }).hwSet (qpBase v q + 0x14) 4).raiseInt .vf v 1 |>.fault 212

def execSqReadFailure (vf : Fin 4096) (qp : Fin 64) (s : State) : Host.Outcome State Fault Refusal :=
  s.done (s.dev.readFailure vf qp)

/-! ## Buffers (R77, R94) -/

/-- A buffer read that fails, or contents that a check refuses: the item completes without dispatch, keeps its class and
DELAY, and its charge returns to its share (R94). -/
def Device.refuseBuffer (d : Device) (n : Nat) (x : Item) (detail : Nat) : Device :=
  let v := x.route.vf
  let age := (d.sched.tick + 2 ^ 32 - x.adm.chargedAt) % 2 ^ 32
  let d1 := if x.adm.withinShare then d.setVf v ((d.vf v).uncharge x.onEngines age x.adm.cycles) else d
  d1.finishItem n .format detail

/-- BUFFER_READ_END. -/
def Device.bufferEnd (d : Device) (n : Nat) (data : Option Bytes) : Device :=
  match d.item n with
  | none => d
  | some x =>
    let counted := match data with
      | some b => d.countEvent (some x.route.vf) 0x13 (min b.length x.desc.inLen)
      | none => d
    if x.stage = .bundleRead then
      match data with
      | none => (d.finishItem n .format 5).fault 212
      | some b =>
        let steps := bundleSteps (padTo x.desc.inLen b) x.desc.inLen
        if bundleOk x.desc steps then (counted.setItem n { x with steps := steps }).serviceStep n
        else counted.finishItem n .format 4
    else if x.stage = .waiting ∧ x.ops.buf = .asked then
      match data with
      | none => (d.refuseBuffer n x 5).fault 212
      | some b =>
        let got := padTo x.desc.inLen b
        match d.bufferCheck x.desc got with
        | some k => counted.refuseBuffer n x k
        | none => (counted.setItem n { x with ops := { x.ops with buf := .here, data := got } }).settle n
    else d

def execBufferReadEnd (item : Nat) (data : Option Bytes) (s : State) : Host.Outcome State Fault Refusal :=
  s.done (s.dev.bufferEnd item data)

/-! ## Deferral, holds and fences -/

/-- DEFERRED_ADMIT: capacity has been released (R101). -/
def execDeferredAdmit (s : State) : Host.Outcome State Fault Refusal := s.done s.dev.admitDeferred

/-- DEFER_DEADLINE: the pseudocode of admission decides, its time limit reached (08_scheduler.md R353). -/
def Device.deferDue (d : Device) (n : Nat) : Device :=
  match d.item n with
  | some x => if x.stage = .deferred ∧ d.hasDelay deferList n then (d.dropDelay deferList n).admitTry n true else d
  | none => d

def execDeferDeadline (item : Nat) (s : State) : Host.Outcome State Fault Refusal := s.done (s.dev.deferDue item)

/-- EPOCH_HOLD_EXPIRY (R95, R353). -/
def Device.holdDue (d : Device) (n : Nat) : Device :=
  match d.item n with
  | some x =>
    if x.stage = .epochHold ∧ d.hasDelay holdList n then
      let d1 := d.dropDelay holdList n
      if d.checkEpoch x.desc.epoch = .hold then d1.refuseAdmission n .epochAhead else d1.epochStep n
    else d
  | none => d

def execEpochHoldExpiry (item : Nat) (s : State) : Host.Outcome State Fault Refusal := s.done (s.dev.holdDue item)

/-- FENCE_RELEASE (R109). -/
def execFenceRelease (item : Nat) (s : State) : Host.Outcome State Fault Refusal := s.done (s.dev.unfence item)

/-! ## Posting (R73 to R75, R78, R91, R118; 18_counters_replay.md R711, R719) -/

/-- The events of R711 that a posted completion counts. -/
def Item.postEvents (x : Item) (c : Comp) : List Nat :=
  let code := c.status.code
  let adm := admitCode c.status x.adm.decided
  [2] ++ (if c.status.good then [3] else []) ++ (if adm = 1 then [4] else []) ++ (if adm = 2 then [5] else [])
    ++ (if code ∈ [0x41, 0x42] then [6] else []) ++ (if code ∈ [0x70, 0x20, 0x21] then [7] else [])
    ++ (if code ∈ [0x30, 0x31, 0x32] then [8] else []) ++ (if code ∈ [0x60, 0x61, 0x50] then [9] else [])
    ++ (if c.status.good && decide (c.detail % 256 = 1) then [0xA] else [])

/-- The bytes of a completion's buffer output that leave: none unless it is OK (R78). -/
def Comp.bufferOut (c : Comp) : Bytes := if c.status.good then c.buffer.getD [] else []

/-- The slot of a posted completion becomes free, unless an intruder's completion was posted (R70, R71). -/
def Qp.freeSlot (x : Qp) (r : Route) : Qp :=
  if r.window && !r.intruder then x.putSlot r.slot { x.slots.get Slot.empty r.slot with occupant := none } else x

/-- COMPLETION_POST: buffer outputs, then the completion, then the message; the slot and the entry become free. -/
def Device.postCompletion (d : Device) (n : Nat) : Device :=
  match d.item n with
  | none => d
  | some x =>
    match x.comp with
    | none => d
    | some c =>
      let v := x.route.vf
      let q := x.route.qp
      let p := d.qp v q
      -- a completion that came with a restore waits until its queue pair is enabled (11_jochevy_domain.md R517)
      if x.stage ≠ .finished || d.cqFull v q || !(p.enabled || p.draining) then d else
      let out := c.bufferOut
      let d1 := if out.isEmpty then d else d.emit (.buffer v x.desc.bufAddr out)
      let d2 := d1.emit (.completion v q p.cqTail (x.completion c p.sqHead q p.phase))
      let tail := (p.cqTail + 1) % d.cqDepth v q
      let d3 := d2.setQp v q (({ p with cqTail := tail, phase := if tail = 0 then !p.phase else p.phase }).freeSlot x.route)
      let d4 := if d3.bit (qpCfg v q) 30 && !x.desc.noIrq then d3.sendMsix (v + 1) q else d3
      let d5 := (x.postEvents c).foldl (fun d e => d.countEvent (some v) e 1) d4
      let d6 := (d5.countEvent (some v) 0x14 out.length).recordUnit x (c.statusByte x.adm.deferred) (some c)
      (d6.dropItem n).ingestAll

def execCompletionPost (item : Nat) (s : State) : Host.Outcome State Fault Refusal := s.done (s.dev.postCompletion item)

end Sys2Proof.Machine
end

