-- ==== Sys2Proof/Machine/Lanes.lean ====
section
/-! DEFINITION. Lane clusters: dispatch, the release gate, failures, quarantine, wakes and gating (05_cipher_lanes.md R196 to
R222, 08_scheduler.md R346 to R351, 04_tide_tables.md R160 to R165), and the key-side pipelines (06_payment_services.md R237
to R241). -/

namespace Sys2Proof.Machine

/-! ## Clusters and lanes -/

def lcAt (c o : Nat) : Nat := Page.lc.base c + o
def Device.cluster (d : Device) (c : Nat) : Cluster := d.units.clusters.get Cluster.initial c
def Device.setCluster (d : Device) (c : Nat) (x : Cluster) : Device :=
  d.mapUnits fun u => { u with clusters := u.clusters.put Cluster.initial c x }

/-- LC_FAIL bits of a lane (R215). -/
def Device.laneFail (d : Device) (c l : Nat) : Nat := bitsOf (d.reg (lcAt c (Off.lcFail0 + 4 * (l / 4)))) (8 * (l % 4) + 7) (8 * (l % 4))

/-- The mismatch count of a lane (R207). -/
def Device.laneMismatch (d : Device) (c l : Nat) : Nat := d.field (lcAt c Off.lcMismatch) (4 * l + 3) (4 * l)

/-- A lane runs an item. -/
def Item.onLane (x : Item) (c l : Nat) : Bool := x.stage == .running && x.run.unit == some (.lane c l)
def Device.laneBusy (d : Device) (c l : Nat) : Bool := d.sched.items.any fun e => e.2.onLane c l

/-- A cluster that may take work once clocked: in service and enabled (R215, R218). -/
def Device.clusterUsable (d : Device) (c : Nat) : Bool :=
  let x := d.cluster c
  !x.quarantined && x.stopped.isNone && d.bit (lcAt c 8) 0

/-- A cluster that takes dispatches; one whose gating was decided in this very cycle still does (R213). -/
def Cluster.runs (x : Cluster) (now : Nat) : Bool :=
  match x.clk with
  | .clocked => true
  | .gating _ => x.gateAt == some now
  | _ => false
def Device.clusterOn (d : Device) (c : Nat) : Bool := (d.cluster c).runs d.cycle && d.clusterUsable c

/-- Idle lanes of a cluster, and those whose units cover a mask (R160, R209). -/
def Device.idleLanes (d : Device) (c : Nat) : List Nat := (List.range 8).filter fun l => !d.laneBusy c l
def Device.fitLanes (d : Device) (c mask : Nat) : List Nat :=
  (d.idleLanes c).filter fun l => d.laneFail c l &&& mask == 0

/-- A cluster has a lane with every unit of a mask healthy. -/
def Device.clusterHealthy (d : Device) (c mask : Nat) : Bool :=
  d.clusterUsable c && (List.range 8).any fun l => d.laneFail c l &&& mask == 0

/-- Some cluster but one has such a lane, clocked or wakeable (R163, R200). -/
def Device.healthyElsewhere (d : Device) (mask : Nat) (except_ : Option Nat) : Bool :=
  (List.range 16).any fun c => some c != except_ && d.clusterHealthy c mask

/-- The cluster of an item's first run, when the item is a rerun. -/
def Item.firstCluster (x : Item) : Option Nat := match x.run.firstUnit with | some (.lane c _) => some c | _ => none

/-- The lane an item goes to (R346): of the clusters that can take it, the one with the fewest idle lanes, then the lowest
number; in it the lowest lane (DESIGN CHOICE for the lane, log entry 14). -/
def Device.chooseLane (d : Device) (mask : Nat) (except_ : Option Nat) : Option (Nat × Nat) :=
  let cs := (List.range 16).filter fun c => d.clusterOn c && some c != except_ && !(d.fitLanes c mask).isEmpty
  match pickBy (fun a b => decide ((d.idleLanes a).length < (d.idleLanes b).length)) cs with
  | some c => (d.fitLanes c mask).head?.map fun l => (c, l)
  | none => none

/-! ## Quarantine (R203 to R205, R209, R212, R222) -/

/-- A cluster is quarantined with a cause and a lane; what runs there counts as failed. -/
def Device.quarantineCluster (d : Device) (c cause lane : Nat) : Device :=
  let x := d.cluster c
  if x.quarantined then d else
  let d1 := d.setCluster c { x with quarantined := true, stopped := none }
  let d2 := (d1.setField (lcAt c Off.lcStat) 15 8 cause).setField (lcAt c Off.lcStat) 2 0 lane
  let d3 := d2.mapSched fun s => { s with
    items := s.items.mapV fun _ i => match i.run.unit with
      | some (.lane k _) => if k = c ∧ i.stage = .running then { i with run := { i.run with unitFail := true } } else i
      | _ => i }
  d3.raiseInt .lc c 1

/-- LC_FAIL bits are set by hardware; when every lane has one, the cluster is quarantined with cause 0x02. -/
def Device.markLane (d : Device) (c l bits : Nat) : Device :=
  let d1 := (d.hwSet (lcAt c (Off.lcFail0 + 4 * (l / 4))) (bits * 2 ^ (8 * (l % 4)))).raiseInt .lc c 0
  if (List.range 8).all fun l => d1.laneFail c l != 0 then d1.quarantineCluster c 2 0 else d1

/-- A check failure of a lane (R207). -/
def Device.checkFailure (d : Device) (c l : Nat) : Device :=
  let n := min 15 (d.laneMismatch c l + 1)
  let d1 := (d.setField (lcAt c Off.lcMismatch) (4 * l + 3) (4 * l) n).fault (64 + 4 * c)
  if max 1 (d1.field (lcAt c Off.lcCtrl) 11 8) ≤ n ∧ d1.laneFail c l ≠ 255 then d1.markLane c l 255 else d1

/-! ## Dispatch to lanes (R346, 04_tide_tables.md R160 to R164) -/

/-- The input stream of an item, or of the bundle step it stands at. -/
def Item.stream (x : Item) : Bytes := if x.desc.bundle then bundleData x.steps x.run.step else x.ops.data

/-- Internal lane work keeps below 5 % of the window (03_host_queues.md R100, 08_scheduler.md R345). -/
def Device.internalRoom (d : Device) (x : Item) : Bool :=
  x.work.isNone || x.run.firstUnit.isSome || decide (d.sched.internalWin.sum + x.adm.cycles ≤ 163840)

/-- The operands that a header preloads are the item's: INLINE_1 is an operand only where FLAGS.BUF is 0, and a random block only
where the header takes one (04_tide_tables.md R138, R160). -/
def Item.inputsFit (x : Item) (t : TableVersion) : Bool :=
  t.inputs.all fun e => (bitsOf e 7 5 != 1 || !x.current.buf) && (bitsOf e 7 5 != 3 || t.rngBlocks == 1)

/-- What the dispatch check answers for an item whose table's tag is right: none lets it run. Operands that do not match INPUTS end
FORMAT, detail 0x07 (DESIGN CHOICE, log entry 141). -/
def Device.dispatchCheck (d : Device) (x : Item) (t : TableVersion) : Option (Status × Nat) :=
  if !x.inputsFit t then some (.format, 7)
  else if t.inBytes < x.stream.length ∨ padRefuses t.body t.bundles x.stream.length then some (.format, 3)
  else
    let key := fun (b : Bool) (e : Option KeyEntry) => match e with
      | some e => d.keyCheck x b e
      | none => if (t.usesOf b).isEmpty then none else some (.keyAbsent, 0)
    match key false x.ops.keyA with
    | some r => some r
    | none => key true x.ops.keyB

/-- An item completes with a status: at once, or, while its table runs on a lane, at the end of that run (01_architecture.md R17). -/
def Device.refuseOrDoom (d : Device) (n : Nat) (st : Status) (detail : Nat) : Device :=
  match d.item n with
  | none => d
  | some x =>
    match x.run.unit, x.stage with
    | some (.lane _ _), .running => d.setItem n { x with run := { x.run with doom := some (st, detail) } }
    | _, _ => (d.refuse n st detail).settle n

/-- A tag mismatch withdraws the version: every item bound to it that has not completed completes TABLE, detail 0x03 (R161). -/
def Device.withdraw (d : Device) (k : Nat) : Device :=
  let d1 := d.mapUnits fun u => { u with tables := u.tables.adjust k fun t => { t with withdrawn := true } }
  let bound := (d1.sched.items.filter fun e => e.2.bound == some k && e.2.stage != .finished).map Prod.fst
  (bound.foldl (fun d n => d.refuseOrDoom n .table 3) d1).fault 244

/-- The tag over a header as the device computes it at load and at each dispatch (04_tide_tables.md R159, R160). -/
def Device.headerTag (d : Device) (t : TableVersion) : Bytes := Config.tableTag d.keys.indexKey t.header

/-- Units that an item's table needs. -/
def Device.needMask (d : Device) (x : Item) : Nat := match d.runTable x with | some t => t.resMask | none => 0

/-- An item that DISPATCH_LANE can take up: it has a lane, or no lane anywhere can ever take it. -/
def Device.laneReady (d : Device) (x : Item) : Bool :=
  d.internalRoom x && ((d.chooseLane (d.needMask x) x.firstCluster).isSome || !d.healthyElsewhere (d.needMask x) x.firstCluster)

/-- Capacity is released: deferred items are admitted (03_host_queues.md R101). -/
def Device.released (d : Device) : Device := d.admitDeferred

/-- An internal item's lane time counts in the window (R100); a rerun's does not (R202). -/
def Device.chargeInternal (d : Device) (x : Item) : Device :=
  if x.work.isSome && x.run.firstUnit.isNone then
    d.mapSched fun s => { s with internalWin := chargeHead x.adm.cycles s.internalWin }
  else d

/-! ## The lanes' registers (R171 to R174) -/

def Device.lane (d : Device) (c l : Nat) : Lane := d.sched.lanes.get Lane.wiped (8 * c + l)
def Device.setLane (d : Device) (c l : Nat) (x : Lane) : Device :=
  d.mapSched fun s => { s with lanes := s.lanes.put Lane.wiped (8 * c + l) x }

/-- Key bytes of an operand entry. -/
def Item.keyBytesA (x : Item) : Bytes := match x.ops.keyA with | some e => e.key | none => []
def Item.keyBytesB (x : Item) : Bytes := match x.ops.keyB with | some e => e.key | none => []

/-- A lane with an item's operands before cycle 0, and after cycle CYCLES − 1 of its table. -/
def Item.laneStart (x : Item) (t : TableVersion) : Lane :=
  Lane.start t x.current.inline0 x.current.inline1 x.ops.random x.stream
def Item.laneEnd (x : Item) (t : TableVersion) : Lane :=
  runTableBody t x.current.inline0 x.current.inline1 x.ops.random x.stream x.keyBytesA x.keyBytesB

/-- An item begins on a lane; a gating decided in this cycle loses (R213). -/
def Device.startLane (d : Device) (n c l : Nat) (x : Item) (t : TableVersion) : Device :=
  let d1 := (d.startRun n (.lane c l)).setLane c l (x.laneStart t)
  match (d.cluster c).clk with
  | .gating _ => d1.setCluster c { d.cluster c with clk := .clocked, gateAt := none }
  | _ => d1

/-- The lane runs an item's table: its comparisons that differ are the item's (R140, R196). -/
def Device.runLane (d : Device) (x : Item) : Device × Nat :=
  match x.run.unit, d.runTable x with
  | some (.lane c l), some t => (d.setLane c l (x.laneEnd t), (x.laneEnd t).differs)
  | _, _ => (d, 0)

/-- DISPATCH_LANE: the first item in order goes to its lane, or completes at the dispatch check. -/
def Device.dispatchLane (d : Device) (tagOk : Bool) : Device :=
  if !d.dispatches 0 then d else
  match d.firstOf (d.readyItems .lane fun _ x => d.laneReady x) with
  | none => d
  | some (n, x) =>
    match d.runTable x with
    | none => (d.refuse n .table 1).settle n
    | some t =>
      match d.chooseLane t.resMask x.firstCluster with
      | none =>
        if x.firstCluster.isSome then (d.refuse n .faultWithheld 2).settle n else ((d.refuse n .table 4).settle n).released
      | some (c, l) =>
        if !tagOk || d.headerTag t != t.tag then (match x.bound with | some k => d.withdraw k | none => d).released
        else match d.dispatchCheck x t with
          | some (st, k) => ((d.refuse n st k).settle n).released
          | none => ((d.chargeInternal x).startLane n c l x t).released

def execDispatchLane (tagOk : Bool) (s : State) : Host.Outcome State Fault Refusal := s.done (s.dev.dispatchLane tagOk)

/-! ## The release gate (R199 to R206) -/

/-- A record of a replay unit is written and the item leaves without a completion (18_counters_replay.md R719). -/
def Device.discardItem (d : Device) (n : Nat) : Device :=
  match d.item n with
  | none => d
  | some x => ((d.recordUnit x 0x7F none).dropItem n).ingestAll

/-- Staged values are handed on together (R199): a bundle's step ends, records go to the store, a completion is formed. -/
def Device.releaseStaged (d : Device) (n : Nat) (st : Staged) : Device :=
  match d.item n with
  | none => d
  | some x =>
    let y := { x with run := { x.run with releasedAt := d.cycle, opened := some d.cycle } }
    let c : Comp := { status := st.status, detail := st.detail, result := padTo 16 st.result, buffer := st.buffer }
    if x.desc.bundle then
      ((d.setItem n y).endStep n { status := st.status, detail := st.detail, result := padTo 16 st.result }).settle n
    else if st.records.isEmpty then d.setItem n (y.finish c)
    else d.setItem n { y with stage := .storing, comp := some c, ops := { x.ops with keyA := none, keyB := none } }

/-- An item completes without its outputs. -/
def Device.withhold (d : Device) (n : Nat) (st : Status) (detail : Nat) : Device :=
  match d.item n with
  | none => d
  | some x => ((d.setItem n { x with run := { x.run with releasedAt := d.cycle } }).refuse n st detail).settle n

/-- The run of a rerun before its unit: its first unit is known, and nothing of the first run's outcome is left. -/
def Run.again (r : Run) : Run :=
  { r with
    unit := none
    firstUnit := r.unit
    checkFail := false
    unitFail := false
    staged := none
    differs := 0
    tries := 0 }

/-- The failed first run of an item is repeated: it is ready again at level 7 (R202, 08_scheduler.md R342). -/
def Device.rerun (d : Device) (n : Nat) (x : Item) : Device :=
  (d.setItem n { x with
    stage := .ready
    level := 7
    run := x.run.again }).countEvent none 0x20 1

/-- The gate of a lane decides (the table of R200). -/
def Device.laneGate (d : Device) (n c l : Nat) (failed : Bool) : Device :=
  match d.item n with
  | none => d
  | some x =>
    let stage := match x.run.staged with
      | some st => st
      | none => mapStatus none none (zeros 16) none []
    if x.run.squash then d.discardItem n
    else if d.gatesShut && !x.current.diagnostics then d.withhold n .mode 0
    else match x.run.doom with
    | some (st, detail) => d.withhold n st detail
    | none =>
    if x.run.firstUnit.isNone then
      if !failed && !x.run.unitFail then d.releaseStaged n stage
      else if d.healthyElsewhere (d.needMask x) (some c) then d.rerun n x
      else d.withhold n .faultWithheld 2
    else if x.run.unitFail then (d.quarantineCluster c 1 l).withhold n .faultDouble c
    else if failed then d.withhold n .faultWithheld 1
    else d.releaseStaged n stage

/-- LANE_RUN_END: check failures are counted, those that the body's own comparisons found and those that a fault caused in the run;
the gate decides, and the lane is wiped and free (R140, R165, R173, R196, R200, R207). -/
def Device.laneRunEnd (d : Device) (n mismatches : Nat) (countersOk : Bool) : Device :=
  match d.item n with
  | none => d
  | some x =>
    match x.run.unit with
    | some (.lane c l) =>
      if x.stage ≠ .running || (x.run.staged.isNone && x.run.doom.isNone) then d
      else
        let k := mismatches + (if countersOk then 0 else 1) + x.run.differs
        (((List.range k).foldl (fun d _ => d.checkFailure c l) d).setLane c l Lane.wiped).laneGate n c l (decide (0 < k))
    | _ => d

def execLaneRunEnd (item : Nat) (mismatches : Nat) (countersOk : Bool) (s : State) : Host.Outcome State Fault Refusal :=
  s.done (s.dev.laneRunEnd item mismatches countersOk)

/-! ## Lane failures (R197, R203, R208) -/

/-- LC_FAIL bits of a lane failure, and its source's place in the cluster's four. -/
def LaneUnit.bits : LaneUnit → Nat
  | .parity | .fetchEcc => 255 | .falu => 8 | .pad => 4 | .hash => 16 | .keyPort => 32 | .streamIn => 64 | .streamOut => 128
def LaneUnit.source : LaneUnit → Nat
  | .keyPort => 2 | _ => 1

/-- The items that run on a lane have failed; a rerun among them stops dispatch to the cluster (R203). -/
def Device.failRuns (d : Device) (c : Nat) (p : Nat → Bool) : Device :=
  let hit := fun (x : Item) => (List.range 8).find? fun l => p l && x.onLane c l
  let d1 := d.mapSched fun s => { s with
    items := s.items.mapV fun _ x => if (hit x).isSome then { x with run := { x.run with unitFail := true } } else x }
  match List.find? (fun e => e.2.run.firstUnit.isSome && (hit e.2).isSome) d.sched.items with
  | some e =>
    let x := d1.cluster c
    if x.quarantined || x.stopped.isSome then d1 else d1.setCluster c { x with stopped := hit e.2 }
  | none => d1

/-- LANE_FAILURE. -/
def Device.laneFailure (d : Device) (c l : Nat) (u : LaneUnit) : Device :=
  if d.laneBusy c l then ((d.fault (64 + 4 * c + u.source)).failRuns c (· == l)).markLane c l u.bits else d

def execLaneFailure (cluster : Fin 16) (lane : Fin 8) (unit : LaneUnit) (s : State) : Host.Outcome State Fault Refusal :=
  s.done (s.dev.laneFailure cluster lane unit)

/-- GLITCH_DETECTOR_TRIP: a lane failure of every lane that runs, and one event; a gated cluster's detector does not run (R210). -/
def Device.glitch (d : Device) (c : Nat) : Device :=
  if (d.cluster c).clk ≠ .gated then (d.fault (64 + 4 * c + 3)).failRuns c fun _ => true else d

def execGlitchDetectorTrip (cluster : Fin 16) (s : State) : Host.Outcome State Fault Refusal := s.done (s.dev.glitch cluster)

/-! ## Wakes and gating (R210 to R214, 03_host_queues.md R114 to R116) -/

/-- The warm limits in force. -/
def Device.warmFloor (d : Device) : Nat := min 16 (bitsOf d.sched.warm 4 0)
def Device.headroom (d : Device) : Nat := min 64 (bitsOf d.sched.warm 15 8)

/-- Clusters that count toward the limits, and their idle lanes. -/
def Device.warmClusters (d : Device) : List Nat :=
  (List.range 16).filter fun c => d.clusterUsable c && (d.cluster c).clk == .clocked
def Device.warmIdle (d : Device) : Nat := ((d.warmClusters).map fun c => (d.idleLanes c).length).sum

/-- A reason to wake a cluster: FLOOD, the warm limits, or an item that no clocked cluster can take. -/
def Device.wakeWanted (d : Device) (c : Nat) : Bool :=
  d.power.st == .flood || decide ((d.warmClusters).length < d.warmFloor) || decide (d.warmIdle < d.headroom)
    || d.sched.items.any fun e => e.2.stage == .ready && e.2.exec == .lane
        && (d.chooseLane (d.needMask e.2) e.2.firstCluster).isNone && some c != e.2.firstCluster
        && d.clusterHealthy c (d.needMask e.2)

/-- A wake of a cluster: from gated at once, during the 8 ns of gating after it (R210, R214). -/
def Cluster.wake (x : Cluster) : Cluster :=
  match x.clk with
  | .gated => { x with clk := .waking }
  | .gating _ => { x with clk := .gating true, gateAt := none }
  | _ => x

/-- CLUSTER_WAKE_REQUEST. In FLOOD every cluster is clocked, in service or not (03_host_queues.md R116). -/
def Device.clusterWake (d : Device) (c : Nat) : Device :=
  if d.awake && (d.power.st == .flood || (d.clusterUsable c && d.wakeWanted c)) then d.setCluster c (d.cluster c).wake else d

/-- Every cluster and every engine group wakes: FLOOD begins, in which no domain is gated (03_host_queues.md R116,
16_power_clocks_startup.md R671). -/
def Device.floodWake (d : Device) : Device :=
  (List.range 8).foldl (fun d g => d.setGroup g (d.group g).wake) ((List.range 16).foldl (fun d c => d.setCluster c (d.cluster c).wake) d)

/-- The clusters that the warm limits need begin to wake: the lowest that are in service, as many as FLOOR, or as HEADROOM fills with
eight idle lanes each (03_host_queues.md R114, 16_power_clocks_startup.md R675). -/
def Device.warmWake (d : Device) : Device :=
  let need := max d.warmFloor ((d.headroom + 7) / 8)
  (((List.range 16).filter d.clusterUsable).take need).foldl (fun d c => d.setCluster c (d.cluster c).wake) d

/-- Test wakes of RELEASE that waited for the wake from EBB begin (R214, R218). -/
def Device.testWakes (d : Device) : Device :=
  (List.range 16).foldl (fun d c => if (d.cluster c).testWake then d.setCluster c (d.cluster c).wake else d) d

def execClusterWakeRequest (cluster : Fin 16) (s : State) : Host.Outcome State Fault Refusal := s.done (s.dev.clusterWake cluster)

/-- A RELEASE of an LC page ends (R218). -/
def Device.lcReleaseEnd (d : Device) (c : Nat) : Device := (d.commandEnd (lcAt c Off.lcCtrl) 1 2).raiseInt .lc c 3

/-- CLUSTER_WAKE_END. -/
def Device.clusterWakeEnd (d : Device) (c : Nat) (ok : Bool) : Device :=
  let x := d.cluster c
  if x.clk ≠ .waking then d
  else if x.testWake then
    if ok then
      ((d.setCluster c Cluster.initial).setReg (lcAt c Off.lcStat) 0).lcReleaseEnd c
    else
      ((((d.setCluster c { x with clk := .gated, testWake := false }).setField (lcAt c Off.lcStat) 16 16 1).fault
        (64 + 4 * c + 3)).raiseInt .lc c 2).lcReleaseEnd c
  else if ok then d.setCluster c { x with clk := .clocked, wakeFails := 0 }
  else
    let d1 := ((d.setCluster c { x with clk := .gated, wakeFails := x.wakeFails + 1 }).fault (64 + 4 * c + 3)).raiseInt .lc c 2
    if 3 ≤ x.wakeFails + 1 then d1.quarantineCluster c 3 0 else d1

def execClusterWakeEnd (cluster : Fin 16) (ok : Bool) (s : State) : Host.Outcome State Fault Refusal :=
  s.done (s.dev.clusterWakeEnd cluster ok)

/-- CLUSTER_IDLE_GATE: an idle cluster above both limits is withdrawn (R115, R213). One that is quarantined or disabled counts toward
neither limit and gates whatever they are (DESIGN CHOICE, log entry 137). -/
def Device.clusterIdleGate (d : Device) (c : Nat) : Device :=
  let x := d.cluster c
  let idle := d.idleLanes c
  let above := !d.clusterUsable c
    || (decide (d.warmFloor < (d.warmClusters).length) && decide (d.headroom + 8 ≤ d.warmIdle))
  if x.clk = .clocked && idle.length == 8 && d.power.st == .slack && bitsOf d.sched.warm 23 16 != 0 && above then
    d.setCluster c { x with clk := .gating false, gateAt := some d.cycle }
  else d

def execClusterIdleGate (cluster : Fin 16) (s : State) : Host.Outcome State Fault Refusal := s.done (s.dev.clusterIdleGate cluster)

/-- CLUSTER_GATED (R213, R214). -/
def Device.clusterGated (d : Device) (c : Nat) : Device :=
  let x := d.cluster c
  match x.clk with
  | .gating again => d.setCluster c { x with clk := if again then .waking else .gated, gateAt := none }
  | _ => d

def execClusterGated (cluster : Fin 16) (s : State) : Host.Outcome State Fault Refusal := s.done (s.dev.clusterGated cluster)

/-! ## LC pages (R216 to R220) -/

/-- LC_RELEASE. Its test wake waits for a gating to end, and for a wake from EBB (R214, R218). -/
def Device.lcRelease (d : Device) (c : Nat) : Device :=
  let x := d.cluster c
  d.onIdle (lcAt c Off.lcCtrl) 1 0 fun d =>
    if d.cust.mode ≠ .maintenance ∨ !x.quarantined then d.writeLost (lcAt c 0)
    else
      let clk := match x.clk with
        | .gating _ => .gating true
        | _ => if d.awake then .waking else .gated
      (d.commandStart (lcAt c Off.lcCtrl) 1).setCluster c { x with clk := clk, testWake := true, gateAt := none }

def execLcRelease (cluster : Fin 16) (s : State) : Host.Outcome State Fault Refusal := s.done (s.dev.lcRelease cluster)

/-- LC_FAIL_CLEAR: a lane with a cleared bit starts its mismatch count afresh. -/
def Device.lcFailClear (d : Device) (c half bits : Nat) : Device :=
  let a := lcAt c (Off.lcFail0 + 4 * half)
  d.onCommand a fun d =>
    if bits = 0 then d
    else if d.cust.mode ≠ .maintenance then d.writeLost a
    else
      let was := d.reg a
      let d1 := d.w1c a bits
      (List.range 4).foldl (fun d i =>
        if bitsOf (was &&& bits) (8 * i + 7) (8 * i) ≠ bitsOf (d1.reg a &&& bits) (8 * i + 7) (8 * i) then
          d.setField (lcAt c Off.lcMismatch) (4 * (4 * half + i) + 3) (4 * (4 * half + i)) 0
        else d) d1

def execLcFailClear (cluster : Fin 16) (half : Fin 2) (bits : Word) (s : State) : Host.Outcome State Fault Refusal :=
  s.done (s.dev.lcFailClear cluster half bits.toNat)

/-- The effect of a soft reset of an LC page: every lane is wiped, which no table that runs feels (R46), and the mismatch
counts are zero. -/
def Device.lcReset (d : Device) (c : Nat) : Device := d.setReg (lcAt c Off.lcMismatch) 0

def Device.lcSoftReset (d : Device) (c : Nat) : Device := d.softStart (lcAt c 0) fun d => d.lcReset c

def execLcSoftReset (cluster : Fin 16) (s : State) : Host.Outcome State Fault Refusal := s.done (s.dev.lcSoftReset cluster)

/-! ## Key-side pipelines (06_payment_services.md R237 to R241, 08_scheduler.md R348) -/

def Item.onPipe (x : Item) (p : Nat) : Bool := x.stage == .running && x.run.unit == some (.pipe p)

/-- The first pipeline pair that is free. -/
def Device.freePipe (d : Device) : Option Nat := (List.range 4).find? fun p => !d.sched.items.any fun e => e.2.onPipe p

/-- DISPATCH_KEY_SIDE. -/
def Device.dispatchKeySide (d : Device) : Device :=
  if !d.dispatches 0 then d else
  match d.freePipe, d.firstOf (d.readyItems .keySide fun _ _ => true) with
  | some p, some (n, x) =>
    match d.runTable x with
    | none => (d.refuse n .table 1).settle n
    | some t =>
      match d.dispatchCheck x t with
      | some (st, k) => ((d.refuse n st k).settle n).released
      | none => (d.startRun n (.pipe p)).released
  | _, _ => d

def execDispatchKeySide (s : State) : Host.Outcome State Fault Refusal := s.done s.dev.dispatchKeySide

/-- KEY_SIDE_TABLE_END: one mismatch repeats the run, a second withholds the item (R239, R21). -/
def Device.keySideEnd (d : Device) (n mismatches : Nat) : Device :=
  match d.item n with
  | none => d
  | some x =>
    match x.run.unit with
    | some (.pipe _) =>
      if x.stage ≠ .running then d else
      match x.run.staged with
      | none => d
      | some st =>
        let d1 := (List.range mismatches).foldl (fun d _ => d.fault 162) d
        if x.run.squash then d1.discardItem n
        else if d1.gatesShut then d1.withhold n .mode 0
        else if 2 ≤ mismatches then d1.withhold n .faultWithheld 3
        else d1.releaseStaged n st
    | _ => d

def execKeySideTableEnd (item : Nat) (mismatches : Fin 3) (s : State) : Host.Outcome State Fault Refusal :=
  s.done (s.dev.keySideEnd item mismatches)

end Sys2Proof.Machine
end

