-- ==== Sys2Proof/Machine/KeyCache.lean ====
section
/-! DEFINITION. Operands that arrive: key lookups that end, derivations, fills of the key cache, random blocks and the expiry
sweep (08_scheduler.md R336 to R339, 09_key_hierarchy.md R391 to R400, 05_cipher_lanes.md R193 to R195,
06_payment_services.md R241). -/

namespace Sys2Proof.Machine

/-! ## Entries delivered -/

/-- A key-operand entry is filled (R394). The record of a re-tokenize must leave six digits free, and neither it nor that of a
detokenize may be SUSPENDED (06_payment_services.md R272, R276). -/
def Device.deliverKey (d : Device) (n : Nat) (b : Bool) (e : Option KeyEntry) : Device :=
  match d.item n with
  | none => d
  | some x =>
    let ops := if b then { x.ops with b := Operand.here, keyB := e } else { x.ops with a := Operand.here, keyA := e }
    let waits := (ops.a == .asked) || (ops.b == .asked)
    let d1 := d.setItem n { x with ops := { ops with backlog := x.ops.backlog && waits } }
    match (if b then e else none) with
    | some k =>
      if k.attr.vault && x.current.service == 0x0604 && decide (freeDigits x.current.paramHi (panLen k.key) < 6) then
        d1.refuseBuffer n x 7
      else if k.attr.vault && k.attr.state == 2 && decide (x.current.service ∈ [0x0602, 0x0604]) then (d1.refuse n .keyUsage 1).settle n
      else d1.settle n
    | none => d1.settle n

/-- The entry of a run. -/
def KeyRun.entry (r : KeyRun) : KeyEntry := { key := r.key, attr := r.attr, derived := false }

/-- The state of key operand A or B of an item. -/
def Item.op (x : Item) (b : Bool) : Operand := if b then x.ops.b else x.ops.a

/-- The handle or token record ID that a key operand names. -/
def Item.handle (x : Item) (b : Bool) : Nat := if b then x.current.keyB else x.current.keyA

/-- A key operand that names a run. -/
def Device.namesRun (d : Device) (x : Item) (b : Bool) (r : KeyRun) : Bool :=
  let h := x.handle b
  d.tenantOf x == r.tenant &&
    (if b && tokenInB x.current.service then r.vault && r.id == h
     else !r.vault && h % 256 == 2 && r.id == bitsOf h 63 24 && r.version == bitsOf h 23 8 && x.current.service != 0x0405)

/-- The operand requests that wait for a run, in the order of their items (R398). -/
def Device.waitersOf (d : Device) (r : KeyRun) : List (Nat × Bool) :=
  d.sched.items.flatMap fun e => ([false, true].filter fun b =>
    e.2.stage == .waiting && e.2.op b == .asked && d.namesRun e.2 b r).map fun b => (e.1, b)

/-- Waiting requests end with a status. -/
def Device.refuseWaiters (d : Device) (r : KeyRun) (st : Status) (detail : Nat) : Device :=
  (d.waitersOf r).foldl (fun d e => (d.refuse e.1 st detail).settle e.1) d

/-! ## Fills (R394, R396 to R398; 10_record_store.md R436) -/

/-- Attributes of a vault slot (R391). -/
def vaultAttr (tenant id state : Nat) : KeyAttr :=
  { KeyAttr.decode [] with vault := true, tenant := tenant, keyId := id, state := state }

/-- The roots that are held: the current one, and during a re-wrap the previous one (R402). -/
def Device.rootHeld (d : Device) (epoch : Nat) : Bool :=
  let b := d.keys.bank
  (b.st == .rooted || b.st == .rewrap) && (epoch == b.rootEpoch || (b.st == .rewrap && epoch == b.prevEpoch))

/-- Every fragment of a key unsealed. -/
def Device.keyWhole (d : Device) (tenant id version n : Nat) : Bool :=
  (List.range n).all fun i => match currentRec d.records (keyIdent tenant id version i) with
    | some f => !f.body.isEmpty
    | none => false

/-- What the local store's current record gives a run: none when it does not unwrap. -/
def Device.unwrapRun (d : Device) (r : KeyRun) : Option KeyRun :=
  if r.vault then
    match d.storedVault r.tenant r.id, currentRec d.records (vaultIdent r.tenant r.id) with
    | some (st, pan, expiry), some rc =>
      if d.rootHeld rc.epoch && !(d.clearBody rc).isEmpty then some { r with
        st := .valid, key := padTo 32 (pan ++ expiry), attr := vaultAttr r.tenant r.id st, refetch := false, epoch := rc.epoch }
      else none
    | _, _ => none
  else
    match d.storedKey r.tenant r.id r.version, d.keyRecord r.tenant r.id r.version with
    | some (a, key), some rc =>
      if d.rootHeld rc.epoch && d.keyWhole r.tenant r.id r.version rc.fragCount then some { r with
        st := .valid, key := key, refetch := false, epoch := rc.epoch
        attr := { a with tdesWeak := tdesWeak a.alg key } }
      else none
    | _, _ => none

/-- A fill ends: the run is VALID and every request that waits for it is served. -/
def Device.fillRun (d : Device) (k : Nat) (r : KeyRun) : Device :=
  let d1 := (d.stamp).setRun k { r with used := d.keys.useStamp }
  (d.waitersOf r).foldl (fun d e => d.deliverKey e.1 e.2 (some r.entry)) d1

/-- No copy exists. -/
def Device.fillAbsent (d : Device) (k : Nat) (r : KeyRun) : Device := (d.dropRun k).refuseWaiters r .keyAbsent 0

/-- No copy authenticates (R395, R412 source 163). -/
def Device.fillBad (d : Device) (k : Nat) (r : KeyRun) : Device :=
  ((d.dropRun k).fault 163).refuseWaiters r .keyPoisoned (if r.refetch then 0 else 1)

/-- STORE_FETCH_END. -/
def Device.fetchEnd (d : Device) (k : Nat) (f : FetchEnd) : Device :=
  match d.keys.runs.find? k with
  | none => d
  | some r =>
    if r.st = .valid then d else
    match f with
    | .absent => d.fillAbsent k r
    | .unauthentic => d.fillBad k r
    | .found =>
      if (d.keyRecord r.tenant r.id r.version).isNone && !r.vault then d.fillAbsent k r
      else if !r.vault && d.keyRetired r.tenant r.id r.version then d.fillAbsent k r
      else if r.vault && (d.storedVault r.tenant r.id).isNone then d.fillAbsent k r
      else match d.unwrapRun r with
        | some r' => d.fillRun k r'
        | none => d.fillBad k r

def execStoreFetchEnd (slot : Nat) (fetched : FetchEnd) (s : State) : Host.Outcome State Fault Refusal :=
  s.done (s.dev.fetchEnd slot fetched)

/-! ## OPERAND_ARRIVAL (08_scheduler.md R337, 09_key_hierarchy.md R394, R396; 05_cipher_lanes.md R194, R195) -/

/-- A slot read of a run ends. -/
def Device.slotRead (d : Device) (n : Nat) (b : Bool) (k : Nat) (r : KeyRun) (f : SlotRead) : Device :=
  match f with
  | .good => ((d.stamp).setRun k { r with used := d.keys.useStamp }).deliverKey n b (some r.entry)
  | .tagFail slots =>
    let bad := slots.filter fun i => decide (k ≤ i ∧ i < k + r.len)
    if bad.isEmpty then d else (bad.foldl (fun d i => d.failSlot i) d).refetchRun k
  | .otherKey => (d.fault 165).refetchRun k
  | .kdfOnce | .kdfTwice => d

/-- A key arrives, or its slot read or derivation fails. -/
def Device.keyArrival (d : Device) (n : Nat) (x : Item) (b : Bool) (f : SlotRead) : Device :=
  let h := x.handle b
  let tenant := d.tenantOf x
  if x.current.service = 0x0405 ∧ !b then
    (if f = .good then
      (if (d.keyRecord tenant (bitsOf h 63 24) (bitsOf h 23 8)).isSome then d.deliverKey n b none else d)
     else d)
  else if h % 256 = 1 && !(b && tokenInB x.current.service) then
    match derivedUse (d.derivedUses x b) with
    | none => d
    | some (u, a) =>
      let e := d.derivedKey tenant h u a
      match f with
      | .good => d.deliverKey n b (some e)
      | .kdfOnce => (d.fault 162).deliverKey n b (some e)
      | .kdfTwice => (((d.fault 162).fault 162).refuse n .faultWithheld 3).settle n
      | _ => d
  else
    let vault := b && tokenInB x.current.service
    let id := if vault then h else bitsOf h 63 24
    let ver := if vault then 0 else bitsOf h 23 8
    match d.findRun tenant vault id ver with
    | some (k, r) => if r.st = .valid then d.slotRead n b k r f else d
    | none => d.lookupStored n b vault id ver

/-- The random block of an item that asks for one (08_scheduler.md R336). -/
def Device.giveBlock (d : Device) (n : Nat) : Device :=
  match d.item n with
  | none => d
  | some x =>
    if x.stage ≠ .waiting ∨ x.ops.rnd ≠ .asked then d
    else
      let blk := d.random 32
      (d.drawn.setItem n { x with
        ops := { x.ops with rnd := .here, random := blk }
        run := { x.run with draws := x.run.draws ++ [blk] } }).settle n

/-- A request that waits in a shortage stands in the queue once (17_random_numbers.md R704, R705). -/
def Device.queueRequest (d : Device) (q : RngReq) : Device :=
  d.mapRng fun r => { r with queue := r.queue.filter (· != q) ++ [q] }

/-- OPERAND_ARRIVAL: operand 0 is key A, 1 key B, 2 the random block. A block asked for in a shortage waits, in class 3. -/
def Device.operandArrival (d : Device) (n which : Nat) (f : SlotRead) : Device :=
  match d.item n with
  | none => d
  | some x =>
    if x.stage ≠ .waiting then d
    else if which = 2 then
      if x.ops.rnd ≠ .asked then d
      else if d.rng.shortage then d.queueRequest { cls := 3, item := n } else d.giveBlock n
    else if x.op (which == 1) = .asked then d.keyArrival n x (which == 1) f
    else d

def execOperandArrival (item : Nat) (which : Fin 3) (read : SlotRead) (s : State) : Host.Outcome State Fault Refusal :=
  s.done (s.dev.operandArrival item which read)

/-! ## OPERAND_REFUSAL (08_scheduler.md R338) -/

/-- Status and detail of a refusal. -/
def Refuse.status : Refuse → Status × Nat
  | .keyAbsent => (.keyAbsent, 0) | .keyPoisonedTag => (.keyPoisoned, 0) | .keyPoisonedMiss => (.keyPoisoned, 1)
  | .keyUsage => (.keyUsage, 0) | .keyBacklog => (.refusedKeyBacklog, 0) | .bufferRead => (.format, 5)

/-- An operand that is asked for: 0 key A, 1 key B, 2 the random block, 3 the buffer. -/
def Item.outstanding (x : Item) (which : Nat) : Bool :=
  x.stage == .waiting &&
    (if which = 0 then x.ops.a == .asked else if which = 1 then x.ops.b == .asked
     else if which = 2 then x.ops.rnd == .asked else x.ops.buf == .asked)

/-- KEY_STATUS never ends KEY_ABSENT (06_payment_services.md R269). -/
def Item.asksStatus (x : Item) : Bool := x.current.service == 0x0405

/-- OPERAND_REFUSAL: the keys' refusals answer key requests, the front end's a buffer request. -/
def Device.operandRefusal (d : Device) (n which : Nat) (why : Refuse) : Device :=
  match d.item n with
  | none => d
  | some x =>
    if !x.outstanding which then d
    else if why = .bufferRead then (if which = 3 then d.refuseBuffer n x 5 else d)
    else if which < 2 then
      (if x.asksStatus && why.status.1 == .keyAbsent then d else (d.refuse n why.status.1 why.status.2).settle n)
    else d

def execOperandRefusal (item : Nat) (which : Fin 4) (why : Refuse) (s : State) : Host.Outcome State Fault Refusal :=
  s.done (s.dev.operandRefusal item which why)

/-! ## Session derivation (06_payment_services.md R241, R249 to R251, R256, R257) -/

/-- The working key of a session derivation: its entry carries the algorithm and the usage the service gives. -/
def Item.sessionKey (x : Item) (base : KeyEntry) (k : Nat) : KeyEntry :=
  let c := x.current
  let pan := if x.desc.bundle then c.inline1.take 10 else slice x.ops.data 0 10
  let (usage, alg) :=
    if c.service = 0x0201 then (0x41, if k = 0 then 4 else k)
    else (if c.service = 0x0105 then 0x32 else 0x21, pinAlg k)
  let key :=
    if c.service = 0x0201 then Config.emvSessionRaw base.key pan (slice c.inline0 10 1) (slice c.inline0 8 2) k
    else Config.dukptRaw base.key c.inline0 k usage
  { key := padTo (algLen alg) key, derived := base.derived
    attr := { base.attr with usage := usage, alg := alg, exportable := false, tdesWeak := false } }

/-- SESSION_DERIVATION_END: a derivation needs its base key and the serial number or card data, whatever else is still to come (R241). -/
def Device.sessionEnd (d : Device) (n mismatches : Nat) : Device :=
  match d.item n with
  | none => d
  | some x =>
    match sessionIndex x.current.service x.current.variant, x.ops.keyA with
    | some k, some base =>
      if x.stage ≠ .waiting || x.ops.a != .here || !x.ops.buf.settled || x.run.derived then d
      else match d.keyCheck x false base with
        | some (st, det) => (d.refuse n st det).settle n
        | none =>
          let d1 := (List.range mismatches).foldl (fun d _ => d.fault 162) d
          if 2 ≤ mismatches then (d1.refuse n .faultWithheld 3).settle n
          else match d1.item n with
            | none => d1
            | some y => (d1.setItem n { y with
                ops := { y.ops with keyA := some (y.sessionKey base k) }
                run := { y.run with derived := true } }).settle n
    | _, _ => d

def execSessionDerivationEnd (item : Nat) (mismatches : Fin 3) (s : State) : Host.Outcome State Fault Refusal :=
  s.done (s.dev.sessionEnd item mismatches)

/-! ## The expiry sweep (09_key_hierarchy.md R400) -/

/-- A run that a sweep pass frees: of a retired version, of a destroyed tenant, or of a root no longer held. -/
def Device.staleRun (d : Device) (r : KeyRun) : Bool :=
  let held := d.front.vfs.any fun e => e.2.tenant == r.tenant && e.2.st != .absent && e.2.st != .destroyed
  r.st == .valid && (!held || (!r.vault && d.keyRetired r.tenant r.id r.version)
    || !d.rootHeld r.epoch)

/-- SWEEP_MS in force, in ticks. -/
def Device.sweepTicks (d : Device) : Nat := 1000 * max 1 (bitsOf d.sched.timer 31 16)

/-- The next sweep pass is put into the SWEEP list. -/
def Device.queueSweep (d : Device) : Device := d.addDelay sweepList 0 ((d.sched.tick + d.sweepTicks) % 2 ^ 32)

/-- One run met by a pass. -/
def Device.sweepRun (failing : List Nat) (d : Device) (e : Nat × KeyRun) : Device :=
  let bad := failing.filter fun i => decide (e.1 ≤ i ∧ i < e.1 + e.2.len)
  if e.2.st ≠ .valid then d
  else if bad.isEmpty then (if d.staleRun e.2 then d.dropRun e.1 else d)
  else (bad.foldl (fun d i => d.failSlot i) d).dropRun e.1

/-- KEY_EXPIRY_SWEEP_PASS: the pass that is ready runs over the next 65,536 slots. -/
def Device.sweepPass (d : Device) (failing : List Nat) : Device :=
  match List.find? (fun e => e.2.work == some .sweep && e.2.stage == .ready) d.sched.items with
  | none => d
  | some (n, _) =>
    let p := d.keys.sweepPos
    let met := d.keys.runs.filter fun e => decide (p ≤ e.1 ∧ e.1 < p + 65536)
    let d1 := met.foldl (Device.sweepRun failing) (d.dropItem n)
    (d1.mapKeys fun k => { k with sweepPos := (p + 65536) % 1048576 }).queueSweep

def execKeyExpirySweepPass (failing : List Nat) (s : State) : Host.Outcome State Fault Refusal :=
  s.done (s.dev.sweepPass failing)

end Sys2Proof.Machine
end

