-- ==== Sys2Proof/Machine/Tree.lean ====
section
/-! DEFINITION. The blocks and headers of the store's segments, and the integrity tree over them (10_record_store.md R417, R425, R428
to R431). -/

namespace Sys2Proof.Machine

/-! ## Blocks -/

/-- The 4 KiB of a record block: up to 32 records, unused slots zero (R417, R418). -/
def blockBytes (rs : List Rec) : Bytes := padTo 4096 (rs.flatMap Rec.bytes)

/-- Blocks that records fill, and the records of each. -/
def blocksOf (n : Nat) : Nat := (n + 31) / 32
def recordBlocks (rs : List Rec) : List (List Rec) := (List.range (blocksOf rs.length)).map fun i => (rs.drop (32 * i)).take 32

/-- PEND_DIGEST of the blocks of a write (R431). -/
def pendDigestOf (rs : List Rec) : Bytes := (Config.sha3 ((recordBlocks rs).flatMap blockBytes)).take 14

/-! ## The tree (R429, R430) -/

/-- Leaves of the store: one for each record block, by pair, segment and block. -/
def Store.leaves (x : Store) : Nat := (x.segs0 + x.segs1) * 16383
def Store.leafAt (x : Store) (loc : Nat) : Nat := (locPair loc * x.segs0 + locSegment loc) * 16383 + locBlock loc - 1

/-- The level of the root: the least whose 16-ary tree holds every leaf. -/
def Store.height (x : Store) : Nat := ((List.range 10).find? fun h => decide (x.leaves ≤ 16 ^ h)).getD 10

/-- A node over leaves that were never written. Children past the last leaf count as such (DEDUCED, log entry 142). -/
def emptyNode : Nat → Bytes
  | 0 => zeros 32
  | l + 1 => Config.sha3 (List.replicate 16 (emptyNode l)).flatten

/-- The lowest level that HBM holds: the top six. Leaves stand in the tree area. -/
def Store.topFrom (x : Store) : Nat := max 1 (x.height - 5)

def nodeKey (level place : Nat) : Nat := level * 2 ^ 40 + place

def Store.node (x : Store) (level place : Nat) : Bytes :=
  (if x.topFrom ≤ level then x.top else x.tree).get (emptyNode level) (nodeKey level place)

def Store.putNode (x : Store) (level place : Nat) (v : Bytes) : Store :=
  if x.topFrom ≤ level then { x with top := x.top.put (emptyNode level) (nodeKey level place) v }
  else { x with tree := x.tree.put (emptyNode level) (nodeKey level place) v }

/-- A node's value from its 16 children. -/
def Store.hashOf (x : Store) (level place : Nat) : Bytes :=
  Config.sha3 ((List.range 16).flatMap fun i => x.node (level - 1) (16 * place + i))

/-- The nodes above one, up to the root, follow it. -/
def Store.climb (x : Store) (level place : Nat) : Store :=
  (List.range (x.height - level)).foldl (fun s i =>
    s.putNode (level + i + 1) (place / 16 ^ (i + 1)) (s.hashOf (level + i + 1) (place / 16 ^ (i + 1)))) x

def Store.setLeaf (x : Store) (leaf : Nat) (v : Bytes) : Store := (x.putNode 0 leaf v).climb 0 leaf

/-- The root of the tree. -/
def Store.root (x : Store) : Bytes := x.node x.height 0

/-- The leaves of the blocks of a write at a location take the blocks' digests. -/
def Store.setBlocks (x : Store) (loc : Nat) (rs : List Rec) : Store :=
  (recordBlocks rs).zipIdx.foldl (fun s e => s.setLeaf (x.leafAt loc + e.2) (Config.sha3 (blockBytes e.1))) x

/-- The leaves of a segment's written blocks become zero. -/
def Store.zeroSegment (x : Store) (k : Nat) : Store :=
  let first := x.leafAt (makeLoc (k / 262144) (k % 262144) 1 0)
  (List.range (x.segments.get Seg.initial k).blocks).foldl (fun s i => s.setLeaf (first + i) (zeros 32)) x

/-- The levels that HBM holds, rebuilt from the tree area (R430). -/
def Store.rebuildTop (x : Store) : Store :=
  let base := x.topFrom - 1
  (x.tree.filter fun e => e.1 / 2 ^ 40 == base).foldl (fun s e => s.climb base (e.1 % 2 ^ 40)) { x with top := [] }

/-- The tree-area nodes that a write at a location changes, as their keys and values. -/
def Store.areaNodes (x : Store) (loc blocks : Nat) : List (Nat × Bytes) :=
  let first := x.leafAt loc
  (List.range x.topFrom).flatMap fun l =>
    (((List.range blocks).map fun i => (first + i) / 16 ^ l).dedup).map fun p => (nodeKey l p, x.node l p)

/-- TREE_ROOT and TREE_VER advance (R431). -/
def Bank.advance (b : Bank) (root : Bytes) : Bank := { b with treeRoot := root, treeVer := b.treeVer + 1 }

/-! ## Segment headers (R425) -/

def SegState.code : SegState → Nat
  | .fresh => 1 | .open => 2 | .sealed => 3 | .eraseIntent => 4 | .erased => 5 | .torn => 0

/-- The first 512 bytes of a segment's header block. -/
def Device.headerBytes (d : Device) (k : Nat) (g : Seg) : Bytes :=
  let front := [0x4A, 0x53, 0x45, 0x47] ++ leBytes 2 1 ++ leBytes 1 g.st.code ++ leBytes 1 (k / 262144) ++ leBytes 4 (k % 262144)
    ++ leBytes 4 g.gen ++ padTo 16 d.store.storeId ++ leBytes 8 g.openedVer ++ leBytes 4 g.blocks ++ zeros 180
  padTo 512 (front ++ Config.aesCmac d.headerKey front)

/-- Ports of a pair whose SSD is CURRENT. -/
def Store.currentPorts (x : Store) (pair : Nat) : List Nat :=
  [2 * pair, 2 * pair + 1].filter fun p => x.ports.getD p .absent == .current

/-- Something is written beside the blocks, to every CURRENT SSD of a pair. -/
def Device.writeArea (d : Device) (pair area place : Nat) (bytes : Bytes) : Device :=
  (d.store.currentPorts pair).foldl (fun d p => d.emit (.ssdArea p area place bytes)) d

/-- A superblock copy: its fields and a MAC under the store header key. The expel mark names the partner SSD by its port (R417, R426,
R441). -/
def Device.superBytes (d : Device) (p : Nat) : Bytes :=
  let x := d.store
  let partner := if p % 2 = 0 then p + 1 else p - 1
  let front := Config.superblockRaw x.storeId [x.segs0, x.segs1, p / 2, p, x.checkpoint.1, x.checkpoint.2, x.supers.getD p 0,
    if x.expelled.mem partner then partner + 1 else 0]
  front ++ Config.aesCmac d.headerKey front

/-- A superblock is written to a port's SSD; the two copies take turns (R417). -/
def Device.writeSuper (d : Device) (p : Nat) : Device :=
  let n := d.store.supers.getD p 0
  (d.emit (.ssdArea p 0 (n % 2) (d.superBytes p))).mapStore fun s => { s with supers := s.supers.set p (n + 1) }

/-- The record blocks of a segment are deallocated on every CURRENT SSD of its pair (R449). -/
def Device.deallocate (d : Device) (k : Nat) : Device :=
  (d.store.currentPorts (k / 262144)).foldl (fun d p => d.emit (.ssdDeallocate p k)) d

/-- Both header copies of a segment are written. -/
def Device.writeHeader (d : Device) (k : Nat) (g : Seg) : Device := d.writeArea (k / 262144) 3 k (d.headerBytes k g)

end Sys2Proof.Machine
end

