-- ==== Sys2Proof/Machine/Fabric.lean ====
section
/-! DEFINITION. The fabric: members, placement, messages that are sent, and the commits of records with their targets
(11_jochevy_domain.md R467 to R492, 10_record_store.md R431, R438 to R443; 09_key_hierarchy.md R374). -/

namespace Sys2Proof.Machine

def domAt (o : Nat) : Nat := Page.dom.base 0 + o
def jnlAt (o : Nat) : Nat := Page.jnl.base 0 + o

/-! ## Members (R478, R479, R521) -/

def View.others (w : View) : List Nat := w.members.filter (· != w.moduleId)

/-- DOM_STAT.ROLE (R479, R522). The coordinator is the lowest module ID. -/
def View.role (w : View) : Nat := if !w.inDomain then 0 else if w.members.head? = some w.moduleId then 2 else 1

/-- The epoch after another (R494). -/
def epochSucc (e : Nat) : Nat := if 0xFFFFFFFF ≤ e then 4 else e + 1

/-- Members this module does not mark unreachable. -/
def Device.reached (d : Device) : List Nat := d.dom.view.others.filter fun m => !d.dom.unreach.mem m

/-- ISOLATED: both ports lost link, or no other member is reachable (R490, R521; DEDUCED, log entry 17). -/
def Device.isolated (d : Device) : Bool :=
  d.dom.view.inDomain && (!d.dom.portUp.contains true || (!d.dom.view.others.isEmpty && d.reached.isEmpty))

/-- LOCAL_STATE of the DOM page (R521). -/
def Device.domState (d : Device) : Nat :=
  if d.keys.cls = 1 ∨ d.keys.cls = 4 then 0
  else if d.dom.view.prepared.isSome then 5
  else if !d.dom.view.inDomain then 1
  else if d.dom.view.joining then 2
  else if d.isolated then 4 else 3

/-- The ring neighbours: four members above and four below, cyclically (R480). -/
def View.neighbours (w : View) : List Nat :=
  let n := w.members.length
  let i := w.members.idxOf w.moduleId
  (((List.range 4).flatMap fun j => [w.members.getD ((i + 1 + j) % n) 0, w.members.getD ((i + 4 * n - 1 - j) % n) 0]).filter
    (· != w.moduleId)).dedup

/-- A change of the domain unit, with ROLE_CHANGED and the count of ISOLATED where they follow (R521, R525). -/
def Device.domStep (d : Device) (f : Domain → Domain) : Device :=
  let d1 := d.mapDom f
  let d2 := if d1.dom.view.role = d.dom.view.role then d1 else d1.raiseInt .dom 0 1
  if d2.isolated && !d.isolated then (d2.fault 201).holdCause 201 true
  else if d.isolated && !d2.isolated then d2.holdCause 201 false else d2

/-! ## Placement (R484, R485) -/

/-- The first 8 bytes of a digest as a ring position. -/
def ringPoint (bs : Bytes) : Nat := beNat ((Config.sha3 bs).take 8)

def memberPoints (dom : Bytes) (m : Nat) : List Nat :=
  (List.range 64).map fun i => ringPoint (dom ++ beBytes 2 m ++ beBytes 1 i)

def recordPoint (dom : Bytes) (i : Ident) : Nat :=
  ringPoint (dom ++ beBytes 1 i.typ ++ beBytes 4 i.tenant ++ beBytes 8 i.id)

/-- The first occurrence of each number. -/
def firstDistinct (l : List Nat) : List Nat := l.reverse.dedup.reverse

/-- Members in the order in which their points are met going upward from a point; equal points, lower ID first. -/
def ringOrder (dom : Bytes) (members : List Nat) (from_ : Nat) : List Nat :=
  let pts := members.flatMap fun m => (memberPoints dom m).map fun p => ((p + 2 ^ 64 - from_) % 2 ^ 64, m)
  firstDistinct ((pts.insertionSort fun a b => a.1 < b.1 ∨ (a.1 = b.1 ∧ a.2 ≤ b.2)).map Prod.snd)

/-- The placement list of a record in a view's members. -/
def placementOf (dom : Bytes) (members : List Nat) (i : Ident) : List Nat :=
  (ringOrder dom members (recordPoint dom i)).take 16

/-- The placement list under the present epoch. -/
def Device.placement (d : Device) (i : Ident) : List Nat := placementOf d.dom.view.domainId d.dom.view.members i

/-- A record that is replicated (R486). -/
def Rec.replicated (r : Rec) : Bool := r.ident.typ == tKey || r.ident.typ == tVault

/-- Acknowledgements of peers that a record needs (R438, R479). -/
def Device.acksNeeded (d : Device) (r : Rec) : Nat := if r.replicated then d.factor - 1 else 0

/-! ## Sending (R467, R472 to R474) -/

def Msg.blank : Msg :=
  { typ := 0, domainTag := 0, epoch := 0, src := 0, dst := 0, mcast := false, viaStub := false, pgen := 0, tenant := 0, seq := 0
    ref := 0, status := 0, credits := 0, recs := [], idents := [], marks := [], next := none, payload := [] }

/-- DOMAIN_TAG. -/
def domainTag (dom : Bytes) : Nat := beNat ((Config.sha3 dom).take 4)

/-- Graced messages; the others are exempt from the epoch checks (R474). HEARTBEAT and the exempt ones need no credit. -/
def gracedType (t : Nat) : Bool := decide (t ∉ [0x01, 0x02, 0x30, 0x31, 0x32, 0x33, 0x34, 0x35])

/-- Messages to one member that an answer ends (R480). -/
def answeredType (t : Nat) : Bool := decide (t ∈ [0x10, 0x18, 0x1A, 0x40, 0x42])

/-- The fabric is silent in MANUFACTURE, QUARANTINE and ZEROIZED (13_modes_custody.md R569). -/
def Device.fabricOn (d : Device) : Bool :=
  d.cust.selected && (d.cust.mode == .custody || d.cust.mode == .service || d.cust.mode == .maintenance)

/-- The port a message to a member leaves on: where the member was last heard, or the other while that has no link. A
multicast leaves on FAB_A, or on FAB_B while FAB_A has no link (DESIGN CHOICE, log entry 18). -/
def Device.outPort (d : Device) (m : Msg) : Option Nat :=
  let up := fun p => d.dom.portUp.getD p false
  let p := if m.mcast then 0 else d.dom.lastPort.get 0 m.dst
  if !d.fabricOn then none else if up p then some p else if up (1 - p) then some (1 - p) else none

/-- The CREDITS field: a value the spec leaves open, but no grant while the internal reserve is full (R472, R361). -/
def Device.grant (d : Device) : Nat := if 4096 ≤ d.entries .internal then 0 else d.freeNat % 256

/-- The secure association key of a domain epoch: a domain service key under the root in force at that epoch (R469). -/
def Device.sak (d : Device) (e : Nat) : Bytes :=
  let b := d.keys.bank
  let (root, epoch) := if epochNewer b.rootEpoch e then (b.prevRoot, b.prevEpoch) else (b.root, b.rootEpoch)
  serviceKey root epoch e "JOCHEVY-SAK"

/-- The IPv6 address of a module, and the group's (R471). -/
def Device.moduleAddress (d : Device) (m : Nat) : Bytes :=
  beBytes 8 (d.reg (domAt Off.domPrefixLo) + 2 ^ 32 * d.reg (domAt Off.domPrefixHi)) ++ beBytes 8 (0x4A590000 + m)
def groupAddress : Bytes := [0xFF, 0x12] ++ zeros 12 ++ [0x4A, 0x59]

/-- A message in its frame, secured under the key of this module's own epoch (R468, R469, R471; DESIGN CHOICE, log entry 162). -/
def Device.frameOf (d : Device) (m : Msg) : Frame :=
  let e := d.dom.view.epoch
  { assoc := e % 4, icv := Config.frameIcv (d.sak e) (e % 4) m
    address := if m.mcast then groupAddress else d.moduleAddress m.dst, udpPort := d.field (domAt Off.domUdp) 15 0 }
def Device.emitFrame (d : Device) (p : Nat) (m : Msg) : Device := d.emit (.fabric p (d.frameOf m) m)

/-- A message leaves, its header filled in. -/
def Device.transmit (d : Device) (m : Msg) : Device :=
  let w := d.dom.view
  let s := d.dom.msgSeq + 1
  let y := { m with
    domainTag := domainTag w.domainId, epoch := w.epoch, src := w.moduleId, seq := s, credits := d.grant }
  let port := d.outPort y
  let d1 := (d.drawFree).mapDom fun x => { x with
    msgSeq := s
    waiting := if answeredType y.typ && !y.mcast then
        x.waiting ++ [{ msg := y, port := port.getD 0, resent := false }]
      else x.waiting }
  match port with
  | some p => (d1.emitFrame p y).countEvent none 0x21 1
  | none => d1

/-- A message is sent, once its receiver's credits allow it. -/
def Device.send (d : Device) (m : Msg) : Device :=
  if m.mcast || !gracedType m.typ then d.transmit m
  else
    let c := d.dom.credits.get 0 m.dst
    if c = 0 then d.mapDom fun x => { x with outq := x.outq ++ [m] }
    else (d.mapDom fun x => { x with credits := x.credits.put 0 m.dst (c - 1) }).transmit m

/-- Messages to a member that waited for credits leave, oldest first. -/
def Device.flushQueue (d : Device) (m : Nat) : Device :=
  let (mine, rest) := d.dom.outq.partition fun q => q.dst == m
  mine.foldl (fun d q => d.send q) (d.mapDom fun x => { x with outq := rest })

/-- A message to one member, or to the group. -/
def Msg.to (t dst : Nat) : Msg := { Msg.blank with typ := t, dst := dst }
def Msg.group (t : Nat) : Msg := { Msg.blank with typ := t, mcast := true }

/-- The reply to a message. -/
def Msg.reply (m : Msg) (t status : Nat) : Msg :=
  { Msg.to t m.src with ref := m.seq, status := status, tenant := m.tenant, pgen := m.pgen }

/-- REPLICATE of a record to a member, tagged with its tenant and placement generation (R439); its body goes sealed (R420, R421). -/
def Device.replicateTo (d : Device) (r : Rec) (m : Nat) : Device :=
  d.send { Msg.to 0x10 m with recs := [r.wire], tenant := r.ident.tenant, pgen := r.pgen }

/-! ## BBRAM updates (09_key_hierarchy.md R373, R374) -/

/-- The inactive bank is written with SEQ one above the active bank's, read back and made active. -/
def Device.bankUpdate (d : Device) (f : Bank → Bank) : Device :=
  let b := { f d.keys.bank with seq := d.keys.bank.seq + 1, checkOk := true }
  d.mapKeys fun k => if k.active = 0 then { k with bank1 := b, active := 1 } else { k with bank0 := b, active := 0 }

/-! ## Records released to the store (R438 to R443, R486 to R490) -/

/-- This module's counter of records is its own; records of another origin keep their SEQ. -/
def Device.commitOf (d : Device) (seq : Nat) : Option Commit := d.store.commits.find? fun c => c.rcd.seq == seq
def Device.setCommit (d : Device) (c : Commit) : Device :=
  d.mapStore fun s => { s with commits := s.commits.map fun e => if e.rcd.seq = c.rcd.seq then c else e }
def Device.dropCommit (d : Device) (seq : Nat) : Device :=
  d.mapStore fun s => { s with commits := s.commits.filter fun e => e.rcd.seq != seq }

/-- Peers whose acknowledgement is still to come: sent to, reachable, not acknowledged. -/
def Device.liveTargets (d : Device) (c : Commit) : List Nat :=
  c.targets.filter fun m => !d.dom.unreach.mem m && !c.acks.contains m

/-- The members of the list that may still be asked to hold a record. -/
def Device.spareTargets (d : Device) (c : Commit) : List Nat :=
  (d.placement c.rcd.ident).filter fun m => m != d.dom.view.moduleId && !d.dom.unreach.mem m && !c.targets.contains m
    && !c.acks.contains m

/-- A record is sent to as many further members of its placement list as its acknowledgements lack (R485, R489); no record
is sent while the module waits for the answers of R456. -/
def Device.pursue (d : Device) (seq : Nat) (again : Bool) : Device :=
  match d.commitOf seq with
  | none => d
  | some c =>
    let lack := d.acksNeeded c.rcd - c.acks.length - (d.liveTargets c).length
    if lack = 0 || d.dom.fresh then d else
    let more := (d.spareTargets c).take lack
    let d1 := d.setCommit { c with targets := c.targets ++ more }
    let d2 := more.foldl (fun d m => d.replicateTo c.rcd m) d1
    if again && !more.isEmpty then (d2.countEvent none 0x23 1).fault 196 else d2

/-- A record's body is sealed: a KEY or VAULT body takes 12 bytes of a random block as its nonce (R420, R421; DESIGN CHOICE that each
record takes a block of its own, log entry 143). A VAULT body that its table sealed under a stored key stands as it is. -/
def Device.sealRecord (d : Device) (r : Rec) : Device × Rec :=
  if !r.secret || (!r.sealed.isEmpty && r.vaultHandle % 256 == 2) then (d, r)
  else (d.drawn, { r with sealed := d.sealBody r (d.random 12) })

/-- A record is given its ORIGIN and SEQ, joins the gathering local write while the store can be written, and is sent to
its placement peers (the pseudocode after R439). -/
def Device.releaseRecord (item : Option Nat) (d0 : Device) (r : Rec) : Device :=
  let (d, s) := d0.sealRecord r
  let seq := d.store.nextSeq + 1
  let y := { s with origin := d.dom.view.moduleId, seq := seq }
  let c : Commit :=
    { rcd := y, item := item, localDone := false, acks := [], targets := [], firstEpoch := d.dom.view.epoch
      firstList := if d.acksNeeded y = 0 then [] else d.placement y.ident
      since := d.cycle, late := false }
  let d1 := d.mapStore fun s => { s with
    nextSeq := seq
    gathering := if s.noWrite then s.gathering else s.gathering ++ [y]
    commits := s.commits ++ [c] }
  d1.pursue seq false

def Device.releaseRecords (d : Device) (item : Option Nat) (rs : List Rec) : Device :=
  rs.foldl (Device.releaseRecord item) d

/-- A record as a service releases it, for a tenant: PGEN of the VF, and the root epoch for a wrapped body (R418, R506). -/
def Device.recordOf (d : Device) (tenant pgen : Nat) (r : NewRec) : Rec :=
  { ident := { typ := r.typ, sub := 0, tenant := tenant, id := r.id, version := r.version, frag := r.frag }
    state := r.state, fragCount := r.fragCount, pgen := pgen
    epoch := if r.typ = tKey ∨ r.typ = tVault then d.keys.bank.rootEpoch else 0
    origin := 0, seq := 0, body := padTo 80 r.body, sealed := r.sealed }

/-- META records of an object: 80 bytes a fragment (R422). -/
def metaRecords (sub id state : Nat) (content : Bytes) : List Rec :=
  let n := max 1 ((content.length + 79) / 80)
  (List.range n).map fun i =>
    { ident := { typ := tMeta, sub := sub, tenant := 0, id := id, version := 0, frag := i }
      state := state, fragCount := n, pgen := 0, epoch := 0, origin := 0, seq := 0, body := slice content (80 * i) 80 }

/-- The VOID record of a record (R423). -/
def Rec.voidOf (r : Rec) : Rec :=
  { r with state := 0xFF, body := padTo 80 (leBytes 8 r.seq), sealed := [] }

/-- A record is voided locally and at peers that hold it (R443, R454). The VOID record is this module's own. -/
def Device.voidRecord (d : Device) (r : Rec) (holders : List Nat) : Device :=
  let v := r.voidOf
  let seq := d.store.nextSeq + 1
  let y := { v with origin := d.dom.view.moduleId, seq := seq }
  let d1 := d.mapStore fun s => { s with
    nextSeq := seq
    gathering := if s.noWrite then s.gathering else s.gathering ++ [y] }
  holders.foldl (fun d m => d.replicateTo y m) d1

/-- A record fetched from peers is kept locally, without peers' acknowledgement, while there is room (R437). -/
def Device.copyForward (d : Device) (rs : List Rec) : Device :=
  if d.store.noWrite || d.storeFull then d
  else d.mapStore fun s => { s with gathering := s.gathering ++ rs.filter fun r => !s.gathering.contains r }

/-- This store holds a record, by identity, ORIGIN and SEQ. -/
def Device.holdsRecord (d : Device) (i : Ident) (origin seq : Nat) : Bool :=
  !d.store.quarantined && d.records.any fun r => r.ident == i && r.origin == origin && r.seq == seq

/-! ## Marks (R480, R481, R489) -/

/-- A member is marked unreachable: commits that waited for it are sent on (R489), and its unanswered messages end. -/
def Device.markMember (d : Device) (m : Nat) : Device :=
  if d.dom.unreach.mem m || !d.dom.view.others.contains m then d else
  let hit := d.store.commits.filter fun c => c.targets.contains m && !c.acks.contains m
  let d1 := ((d.domStep fun x => { x with
    unreach := x.unreach.add m
    waiting := x.waiting.filter fun w => w.msg.dst != m }).fault 195).raiseInt .dom 0 2
  (hit.map fun c => c.rcd.seq).foldl (fun d s => d.pursue s true) d1

/-- A mark is cleared: records that this member has not acknowledged are sent to it again where they still lack
acknowledgements (R490). -/
def Device.clearMark (d : Device) (m : Nat) : Device :=
  if !d.dom.unreach.mem m then d else
  let d1 := d.domStep fun x => { x with unreach := x.unreach.erase m }
  d1.store.commits.foldl (fun d c =>
    if c.targets.contains m && !c.acks.contains m && decide (c.acks.length < d.acksNeeded c.rcd) then d.replicateTo c.rcd m
    else d.pursue c.rcd.seq false) d1

end Sys2Proof.Machine
end

