-- ==== Sys2Proof/Machine/Curves.lean ====
section
/-! DEFINITION. Curve slots as the CURVE registers show them, and the end of their retirement (07_bignum_engines.md R319,
R332). -/

namespace Sys2Proof.Machine

def curveAt (o : Nat) : Nat := Page.bn.base 0 + o

/-- CURVE_MAP follows the slots: a retiring slot holds its set until it is emptied. -/
def Device.showCurves (d : Device) : Device :=
  let bits := fun lo => (d.units.curves.filter fun e => e.1 / 32 == lo).foldl (fun m e => m + 2 ^ (e.1 % 32)) 0
  (d.setReg (curveAt Off.curveMapLo) (bits 0)).setReg (curveAt Off.curveMapHi) (bits 1)

/-- A curve command ends. -/
def Device.curveEnd (d : Device) (req code slot : Nat) : Device :=
  (((d.setResult (curveAt Off.curveResult) code).setField (curveAt Off.curveResult) 5 0 slot).commandEnd (curveAt Off.curveCmd)
    req (req + 2)).raiseInt .bn 0 4

/-- A job that uses a curve slot and has not completed (R319). -/
def Item.usesCurve (x : Item) (slot : Nat) : Bool :=
  x.stage != .finished && (match x.desc.service with
    | 0x0512 | 0x0513 => x.desc.variant == slot
    | 0x0504 => x.desc.variant == 0x80 + slot
    | _ => false)

/-- Retiring slots that no job uses any more are emptied, and their RETIRE ends (R319). -/
def Device.emptyCurves (d : Device) : Device :=
  (d.units.curves.filter fun e => e.2.retiring && !d.sched.items.any fun i => i.2.usesCurve e.1).foldl (fun d e =>
    let d1 := d.mapUnits fun u => { u with curves := u.curves.erase e.1 }
    ((d1.releaseRecords none (metaRecords 3 e.1 2 [])).showCurves).curveEnd 1 0 e.1) d

end Sys2Proof.Machine
end

