-- ==== Sys2Proof/Machine/Engines.lean ====
section
/-! DEFINITION. Big-number and lattice engines: dispatch, the pair gate, yields, failures, group wakes and the BN pages
(07_bignum_engines.md R282 to R311, R326 to R331; 08_scheduler.md R347, R351, R358). -/

namespace Sys2Proof.Machine

def bnAt (e o : Nat) : Nat := Page.bn.base e + o

/-! ## Pairs that become free, engines that fail -/

/-- A pair is free: the request of its yield has ended (R359). -/
def Device.freePair (d : Device) (p : Nat) : Device := d.setPair p Pair.initial

/-- An event on a BN page of each engine of a list. -/
def Device.onEngines (d : Device) (es : List Nat) (f : Device → Nat → Device) : Device := es.foldl f d

/-- A pair is quarantined with a cause: both its engines. -/
def Device.quarantinePair (d : Device) (p cause : Nat) : Device :=
  d.onEngines [2 * p, 2 * p + 1] fun d e =>
    if (d.engine e).quarantined then d else
    ((d.setEngine e { d.engine e with quarantined := true }).setField (bnAt e Off.bnStat) 15 8 cause).raiseInt .bn e 1

/-- A mismatch or failed check: both counts grow, and a count at FAIL_LIMIT sets BN_FAIL bit 6 (R302, R330). -/
def Device.pairMismatch (d : Device) (p : Nat) : Device :=
  d.onEngines [2 * p, 2 * p + 1] fun d e =>
    let n := min 15 (d.field (bnAt e Off.bnMismatch) 3 0 + 1)
    let d1 := (d.setReg (bnAt e Off.bnMismatch) n).fault (128 + e)
    if max 1 (d1.field (bnAt e Off.bnCtrl) 11 8) ≤ n ∧ !d1.bit (bnAt e Off.bnFail) 6 then
      (d1.hwSet (bnAt e Off.bnFail) 64).raiseInt .bn e 0
    else d1

/-! ## Dispatch (R284, R285, R347) -/

/-- ALG of a key pair variant (R321, R391). -/
def pairAlg (v : Nat) : Nat :=
  if v = 0x01 then 0x10 else if v = 0x10 then 0x11 else if v = 0x11 then 0x12 else if v = 0x20 then 0x14 else if v = 0x30 then 0x15
  else 0x13

/-- Bytes that blind one secret scalar multiplication or one use of a lattice key (the table of R297): a 64-bit multiplier and a
Z coordinate; a seed of 32 bytes for the mask and the butterfly order (DESIGN CHOICE for the lengths, log entry 149). -/
def Device.secretLen (d : Device) (alg slot : Nat) : Nat :=
  if alg = 0x11 then 8 + 32 else if alg = 0x12 then 8 + 48 else if alg = 0x13 then 8 + d.curveBytes slot
  else if alg = 0x14 ∨ alg = 0x15 then 32 else 0

/-- Bytes that blind one engine's run of a job: for RSA the base r, of the modulus's length, and two 64-bit multipliers; for a prime
search two Miller–Rabin bases of 32 bytes; nothing for public-only operations (R297). -/
def Device.blindLen (d : Device) (x : Item) : Nat :=
  let v := x.desc.variant
  match x.desc.service with
  | 0x0501 | 0x0503 => 8 * rsaWords x.keyBytesA + 16
  | 0x0504 => if v = 0x01 then 64 else d.secretLen (pairAlg v) (v - 0x80)
  | 0x0505 => (match x.ops.keyA with | some e => d.secretLen e.attr.alg ((d.slotHolding e.key).getD 64) | none => 0)
  | 0x0510 => d.secretLen (if v = 0x10 then 0x11 else 0x12) 0
  | 0x0512 => d.secretLen 0x13 v
  | 0x0520 => d.secretLen 0x14 0
  | 0x0530 | 0x0531 => d.secretLen 0x15 0
  | _ => 0

/-- A job starts on a pair whose engines are awake: each engine draws its own blinding (R298). -/
def Device.startPair (d : Device) (n p : Nat) : Device :=
  let d1 := d.startRun n (.pair p)
  match d1.item n with
  | none => d1
  | some x =>
    let k := d1.blindLen x
    if k = 0 then d1
    else
      let d2 := d1.drawnFor k
      (d2.drawnFor k).setItem n { x with run := { x.run with blinds := [d1.random k, d2.random k] } }

/-- An engine item is given a pair; a gated group wakes first, and the job waits for it. -/
def Device.giveEngine (d : Device) (n p : Nat) (x : Item) : Device :=
  let g := p / 2
  let d1 := if x.rsaGen && !d.progRunning (bnAt (2 * p) 0) then d.progStart (bnAt (2 * p) 0) 8 0 else d
  if (d1.group g).clk = .clocked then (d1.startPair n p).released
  else (d1.setGroup g { d1.group g with clk := .waking }).setItem n
    { x with stage := .running, run := { x.run with unit := some (.pair p), checkFail := false, unitFail := false, staged := none } }

/-- The check of the private key an engine job names (R296): on an item that has a pair. -/
def Device.startEngine (d : Device) (n p : Nat) (x : Item) : Device :=
  match x.ops.keyA with
  | some e => match d.keyCheck x false e with
    | some (st, k) => (d.refuse n st k).released
    | none => d.giveEngine n p x
  | none => d.giveEngine n p x

/-- DISPATCH_ENGINE: the first ready item that a free pair can take; those that wait ask for yields. -/
def Device.dispatchEngine (d : Device) : Device :=
  if !d.dispatches 1 then d else
  match d.firstOf (d.readyItems .engine fun _ x => (d.choosePair x).isSome) with
  | none => d.askYields
  | some (n, x) => match d.choosePair x with
    | some p => (d.startEngine n p x).askYields
    | none => d

def execDispatchEngine (s : State) : Host.Outcome State Fault Refusal := s.done s.dev.dispatchEngine

/-- A parked job resumes on its pair (R306). -/
def Device.resume (d : Device) (n : Nat) (x : Item) : Device := d.setItem n { x with stage := .running }

/-- PAIR_FREE: a free pair takes the highest of the ready items it may take and its parked jobs; at one level a parked job
comes first (R358). -/
def Device.pairFree (d : Device) (p : Nat) : Device :=
  if d.pairBusy p || !d.dispatches 1 then d else
  let parked := d.firstOf (d.resumable p)
  let ready := d.firstOf (d.readyItems .engine fun _ x => d.pairMay x p)
  match parked, ready with
  | none, none => d
  | some (n, x), none => d.resume n x
  | none, some (n, x) => (d.startEngine n p x).askYields
  | some (n, x), some (m, y) => if x.level < y.level then (d.startEngine m p y).askYields else d.resume n x

def execPairFree (pair : Fin 16) (s : State) : Host.Outcome State Fault Refusal := s.done (s.dev.pairFree pair)

/-! ## The pair gate (R286, R299 to R303) -/

/-- A pair of another group that meets R285 for a rerun. -/
def Device.otherGroup (d : Device) (x : Item) (p : Nat) : Bool :=
  (List.range 16).any fun q => q / 2 != p / 2 && d.pairServes q x.lattice

/-- The failed first run of a job is repeated; during a freeze the job is parked in its rerun state (R301,
08_scheduler.md R362). -/
def Device.rerunEngine (d : Device) (n : Nat) (x : Item) : Device :=
  if d.vfHeld x.route.vf then
    (d.setItem n { x with
      stage := .parked
      level := 7
      run := { x.run with firstUnit := x.run.unit, checkFail := false, unitFail := false, staged := none } }).countEvent none 0x20 1
  else (d.rerun n x).askYield n

/-- The gate of a pair decides (the table of R300). -/
def Device.pairGate (d : Device) (n p : Nat) (failed : Bool) (st : Staged) : Device :=
  match d.item n with
  | none => d
  | some x =>
    if x.run.squash then d.discardItem n
    else if d.gatesShut then d.withhold n .mode 0
    else if x.run.firstUnit.isNone then
      if !failed && !x.run.unitFail then d.releaseStaged n st
      else if d.otherGroup x p then d.rerunEngine n x
      else d.withhold n .faultWithheld 5
    else if x.run.unitFail then (d.quarantinePair p 1).withhold n .faultDouble (0x20 + p)
    else if failed then d.withhold n .faultWithheld 4
    else d.releaseStaged n st

/-- The progress report of an RSA key generation ends with its job. -/
def Device.endGeneration (d : Device) (p : Nat) (x : Item) : Device :=
  if x.rsaGen then d.progEnd (bnAt (2 * p) 0) false else d

/-- The progress report of an RSA key generation that its pair holds and does not bring to an end (02_register_convention.md R60). -/
def Device.abortGeneration (d : Device) (x : Item) : Device :=
  match x.run.unit with
  | some (.pair p) => if x.rsaGen then d.progEnd (bnAt (2 * p) 0) true else d
  | _ => d

/-- ML_DSA_ATTEMPT_LIMIT: no rerun and no fault event (R291). -/
def Device.attemptLimit (d : Device) (n : Nat) : Device :=
  match d.item n with
  | none => d
  | some x =>
    match x.run.unit with
    | some (.pair p) =>
      if x.stage ≠ .running || x.desc.service != 0x0520 then d
      else if x.run.squash then (d.discardItem n).freePair p
      else (d.withhold n .faultWithheld 6).freePair p
    | _ => d

def execMlDsaAttemptLimit (item : Nat) (s : State) : Host.Outcome State Fault Refusal := s.done (s.dev.attemptLimit item)

/-- ENGINE_FAILURE: a BN_FAIL bit is set and the job on the pair has failed (R293, R301, R330). -/
def Device.engineFailure (d : Device) (e unit : Nat) : Device :=
  let d1 := (((d.hwSet (bnAt e Off.bnFail) (2 ^ unit)).raiseInt .bn e 0).fault (128 + e))
  match d1.jobOn (e / 2) with
  | some (n, x) => d1.setItem n { x with run := { x.run with unitFail := true } }
  | none => d1

def execEngineFailure (engine : Fin 32) (unit : Fin 6) (s : State) : Host.Outcome State Fault Refusal :=
  s.done (s.dev.engineFailure engine unit)

/-! ## Yield points (R305 to R311) -/

/-- The run of a job that starts over as the same run. -/
def Run.restart (r : Run) : Run :=
  { r with
    unit := none
    checkFail := false
    unitFail := false
    staged := none
    points := 0
    tries := 0 }

/-- A job restarts from cycle 0 on another pair, as the same run (R331). -/
def Device.restartJob (d : Device) (n : Nat) (x : Item) : Device :=
  ((d.abortGeneration x).setItem n { x with stage := .ready, run := x.run.restart }).askYield n

/-- A job parks: both engines' states and their blinding stand in the pair's context store (R305). -/
def Item.park (x : Item) : Item := { x with stage := .parked, run := { x.run with points := x.run.points + 1 } }

/-- YIELD_POINT: a VF reset wipes the job, a freeze or a request parks it, a soft reset takes it; else it goes on. -/
def Device.yieldPoint (d : Device) (n : Nat) : Device :=
  match d.item n with
  | none => d
  | some x =>
    match x.run.unit with
    | some (.pair p) =>
      if x.stage ≠ .running || (d.group (p / 2)).clk != .clocked then d
      else if x.run.squash then ((d.discardItem n).freePair p).abortGeneration x
      else if d.vfHeld x.route.vf then (d.setItem n x.park).freePair p
      else if (d.engine (2 * p)).withdrawn then (d.freePair p).restartJob n x
      else if (d.pair p).yieldFor.isSome && decide (d.parkedCount p < 8) then (d.setItem n x.park).freePair p
      else d.setItem n { x.park with stage := .running }
    | _ => d

def execYieldPoint (item : Nat) (s : State) : Host.Outcome State Fault Refusal := s.done (s.dev.yieldPoint item)

/-! ## Group wakes (01_architecture.md R24; 07_bignum_engines.md R301, R327) -/

/-- Engines of a group. -/
def groupEngines (g : Nat) : List Nat := [4 * g, 4 * g + 1, 4 * g + 2, 4 * g + 3]

/-- Items that wait on the pairs of a waking group. -/
def Device.waitingOn (d : Device) (g : Nat) : List (Nat × Item) :=
  d.sched.items.filter fun e => e.2.onPair (2 * g) || e.2.onPair (2 * g + 1)

/-- A test wake of RELEASE ends, for every engine of the group that asked (R218, R327). -/
def Device.bnReleaseEnd (d : Device) (g : Nat) (ok : Bool) : Device :=
  ((groupEngines g).filter fun e => d.bit (bnAt e Off.bnCtrl) 1).foldl (fun d e =>
    let d1 :=
      if ok then (d.setEngine e { d.engine e with quarantined := false }).setReg (bnAt e Off.bnStat) 0
      else ((d.setField (bnAt e Off.bnStat) 16 16 1).fault (128 + e)).raiseInt .bn e 2
    (d1.commandEnd (bnAt e Off.bnCtrl) 1 2).raiseInt .bn e 3) d

/-- A wake of a group fails: an engine failure of its engines; three in a row quarantine them (R301, R327). -/
def Device.groupWakeFailed (d : Device) (g : Nat) : Device :=
  let x := d.group g
  let d1 := d.setGroup g { x with clk := .gated, wakeFails := x.wakeFails + 1 }
  let d2 := (groupEngines g).foldl (fun d e => (d.fault (128 + e)).raiseInt .bn e 2) d1
  let d3 := (d2.waitingOn g).foldl (fun d e => match e.2.run.unit with
    | some (.pair p) =>
      let d' := (d.abortGeneration e.2).setItem e.1 { e.2 with run := { e.2.run with unitFail := true } }
      (d'.pairGate e.1 p true (mapStatus none none (zeros 16) none [])).freePair p
    | _ => d) d2
  if 3 ≤ x.wakeFails + 1 then (d3.quarantinePair (2 * g) 3).quarantinePair (2 * g + 1) 3 else d3

/-- GROUP_WAKE_END. -/
def Device.groupWakeEnd (d : Device) (g : Nat) (ok : Bool) : Device :=
  let x := d.group g
  if !d.awake then d else
  let d1 := if x.testWake then
      (d.setGroup g { x with testWake := false, wakeFails := if ok then 0 else x.wakeFails }).bnReleaseEnd g ok
    else d
  if x.clk ≠ .waking then d1
  else if !ok then d1.groupWakeFailed g
  else
    let d2 := d1.setGroup g { d1.group g with clk := .clocked, wakeFails := 0 }
    ((d2.waitingOn g).foldl (fun d e => match e.2.run.unit with
      | some (.pair p) => d.startPair e.1 p
      | _ => d) d2).released

def execGroupWakeEnd (group : Fin 8) (ok : Bool) (s : State) : Host.Outcome State Fault Refusal :=
  s.done (s.dev.groupWakeEnd group ok)

/-- ENGINE_GROUP_GATED: in SLACK a group with nothing to run or resume is gated. -/
def Device.groupGated (d : Device) (g : Nat) : Device :=
  let x := d.group g
  let used := d.sched.items.any fun e => [2 * g, 2 * g + 1].any fun p => e.2.onPair p || e.2.parkedOn p
  if x.clk = .clocked && !used && d.power.st == .slack then d.setGroup g { x with clk := .gated } else d

def execEngineGroupGated (group : Fin 8) (s : State) : Host.Outcome State Fault Refusal := s.done (s.dev.groupGated group)

/-! ## BN pages (R326 to R331) -/

/-- BN_RELEASE. -/
def Device.bnRelease (d : Device) (e : Nat) : Device :=
  d.onIdle (bnAt e Off.bnCtrl) 1 0 fun d =>
    if d.cust.mode ≠ .maintenance ∨ !(d.engine e).quarantined then d.writeLost (bnAt e 0)
    else (d.commandStart (bnAt e Off.bnCtrl) 1).setGroup (e / 4) { d.group (e / 4) with testWake := true }

def execBnRelease (engine : Fin 32) (s : State) : Host.Outcome State Fault Refusal := s.done (s.dev.bnRelease engine)

/-- BN_FAIL_CLEAR. -/
def Device.bnFailClear (d : Device) (e bits : Nat) : Device :=
  let a := bnAt e Off.bnFail
  d.onCommand a fun d =>
    if bits % 128 = 0 then d
    else if d.cust.mode ≠ .maintenance then d.writeLost a
    else
      let was := d.reg a
      let d1 := d.w1c a (bits % 128)
      if was &&& (bits % 128) ≠ d1.reg a &&& (bits % 128) then d1.setReg (bnAt e Off.bnMismatch) 0 else d1

def execBnFailClear (engine : Fin 32) (bits : Word) (s : State) : Host.Outcome State Fault Refusal :=
  s.done (s.dev.bnFailClear engine bits.toNat)

/-- The effect of a soft reset of a BN page: the pair is withdrawn, its parked jobs restart elsewhere as the same runs, and
its running job follows at its next yield point. -/
def Device.bnReset (d : Device) (e : Nat) : Device :=
  let p := e / 2
  let d1 := [2 * p, 2 * p + 1].foldl (fun d i => d.setEngine i { d.engine i with withdrawn := true }) d
  let d2 := (d1.sched.items.filter fun i => i.2.parkedOn p && !d1.vfHeld i.2.route.vf).foldl (fun d i => d.restartJob i.1 i.2) d1
  d2.setReg (bnAt e Off.bnMismatch) 0

/-- The end of that soft reset: the pair serves again. -/
def Device.bnResetEnd (d : Device) (e : Nat) : Device :=
  let p := e / 2
  let d1 := match d.jobOn p with
    | some (n, x) => (d.freePair p).restartJob n x
    | none => d
  [2 * p, 2 * p + 1].foldl (fun d i => d.setEngine i { d.engine i with withdrawn := false }) d1

def Device.bnSoftReset (d : Device) (e : Nat) : Device := d.softStart (bnAt e 0) fun d => d.bnReset e

def execBnSoftReset (engine : Fin 32) (s : State) : Host.Outcome State Fault Refusal := s.done (s.dev.bnSoftReset engine)

end Sys2Proof.Machine
end

