-- ==== Sys2Proof/Machine/Store.lean ====
section
/-! DEFINITION. The record store at work: commits, local writes, reads, scrubs, compaction, ADOPT and FORMAT
(10_record_store.md R425 to R466). -/

namespace Sys2Proof.Machine

/-! ## Segments (R425, R428) -/

def Device.seg (d : Device) (k : Nat) : Seg := d.store.segments.get Seg.initial k
def Device.setSeg (d : Device) (k : Nat) (g : Seg) : Device :=
  d.mapStore fun s => { s with segments := s.segments.put Seg.initial k g }

/-- The lowest FRESH or ERASED segment of a pair. -/
def Store.lowestFree (x : Store) (pair : Nat) : Option Nat :=
  let used := x.segments.filter fun e => decide (e.1 / 262144 = pair) && !e.2.isFree
  pickBy (fun a b => decide (a < b))
    ((0 :: used.map fun e => e.1 % 262144 + 1).filter fun n => decide (n < x.segs pair) && !used.any fun e => e.1 == segKey pair n)

/-- The segment that opens next: of the other pair than the last one while that pair has a free segment. -/
def Store.nextSegment (x : Store) (last : Nat) : Option (Nat × Nat) :=
  match x.lowestFree (1 - last), x.lowestFree last with
  | some n, _ => some (1 - last, n)
  | none, some n => some (last, n)
  | none, none => none

/-- The OPEN segment's key, if one is. -/
def Store.openSeg (x : Store) : Option Nat :=
  (List.find? (fun e => e.2.st == .open) x.segments).map Prod.fst

/-- A segment opens, and TAIL moves to its first record block. -/
def Device.openSegment (d : Device) (pair n : Nat) : Device :=
  let k := segKey pair n
  let g : Seg := { st := .open, gen := (d.seg k).gen + 1, blocks := 0, openedVer := d.keys.bank.treeVer }
  ((d.setSeg k g).writeHeader k g).bankUpdate fun b => { b with tail := makeLoc pair n 1 0 }

/-- A segment opens where none is (R428); from the reserve, where nothing else is free (DESIGN CHOICE, log entry 163). -/
def Device.openNext (d : Device) (last : Nat) : Device :=
  if d.store.openSeg.isSome then d else
  match d.store.nextSegment last with
  | some (p, n) => d.openSegment p n
  | none => d

/-! ## Commands of the JNL page -/

def jnlCmd : Nat := jnlAt Off.jnlCmd

def JnlOp.bit : JnlOp → Nat
  | .scrub => 0 | .compact => 1 | .adopt _ => 2 | .format => 3

/-- A JNL operation ends; a command ends with its code and CMD_ENDED. -/
def Device.jnlEnd (d : Device) (aborted : Bool) (code : Nat) : Device :=
  match d.store.op with
  | none => d
  | some o =>
    let d1 := (d.storeStep fun s => { s with op := none, opCmd := false }).progEnd (Page.jnl.base 0) aborted
    let d2 := d1.mapSched fun s => { s with delays := s.delays.filter fun e => e.list != sweepList || e.item != o.bit + 1 }
    if d.store.opCmd then
      ((d2.setResult (jnlAt Off.jnlResult) code).commandEnd jnlCmd o.bit (o.bit + 8)).raiseInt .jnl 0 2
    else d2

/-- An operation starts. -/
def Device.jnlStart (d : Device) (o : JnlOp) (cmd : Bool) : Device :=
  let d1 := d.mapStore fun s => { s with op := some o, opCmd := cmd }
  if cmd then d1.commandStart jnlCmd o.bit else d1

/-- Scrub and compaction run as steps from the SWEEP list (R458). -/
def Device.queueStep (d : Device) (o : JnlOp) : Device := d.addDelay sweepList (o.bit + 1) ((d.sched.tick + 1) % 2 ^ 32)

/-- A scrub starts: TOTAL is the records in OPEN and SEALED segments (R457). -/
def Device.startScrub (d : Device) (cmd : Bool) : Device :=
  ((d.jnlStart .scrub cmd).progStart (Page.jnl.base 0) 0x0003 d.store.written.length).queueStep .scrub

/-- Segments of the store. -/
def Store.total (x : Store) : Nat := x.segs0 + x.segs1
def Store.freeTotal (x : Store) : Nat := x.freeSegs 0 + x.freeSegs 1

/-- COMPACT_LOW in force (R463). -/
def Device.compactLow (d : Device) : Nat := min 50 (max 1 (d.field (jnlAt Off.jnlCtrl) 15 8))

/-- Free segments fall below a percentage of all. -/
def Device.freeBelow (d : Device) (percent : Nat) : Bool := decide (d.store.freeTotal * 100 < percent * d.store.total)

/-- A compaction run starts. -/
def Device.startCompaction (d : Device) (cmd : Bool) : Device :=
  ((d.jnlStart .compact cmd).progStart (Page.jnl.base 0) 0x0004 d.store.segments.length).queueStep .compact

/-- PAGE_CTRL.ENABLE of the JNL page. -/
def Device.jnlOn (d : Device) : Bool := d.bit (jnlAt 8) 0

/-- The store can be read and written by its own operations. -/
def Store.usable (x : Store) : Bool := x.formatted && !x.quarantined

/-- Compaction starts by itself (R448). -/
def Device.autoCompaction (d : Device) : Device :=
  if d.store.usable && !d.store.readOnly && d.store.op.isNone && d.jnlOn && d.compactable && d.freeBelow d.compactLow then
    d.startCompaction false
  else d

/-! ## Commit (R438 to R446) -/

/-- COMMIT: the records of an item that its gate released go to their local write and their peers. -/
def Device.commitItem (d : Device) (n : Nat) : Device :=
  match d.item n with
  | none => d
  | some x =>
    match x.stage, x.run.staged with
    | .storing, some st =>
      if st.records.isEmpty then d
      else match d.storeRefusal with
        | some k => d.finishItem n .mode k
        | none =>
          let f := d.vf x.route.vf
          (d.setItem n { x with run := { x.run with staged := some { st with records := [] } } }).releaseRecords (some n)
            (st.records.map fun r => d.recordOf f.tenant f.pgen r)
    | _, _ => d

def execCommit (item : Nat) (s : State) : Host.Outcome State Fault Refusal := s.done (s.dev.commitItem item)

/-- Both parts of R438 are done. Without a writable local copy the local part is not needed (the pseudocode after R439,
R442). -/
def Device.committable (d : Device) (c : Commit) : Bool :=
  (c.localDone || d.store.noWrite) && decide (d.acksNeeded c.rcd ≤ c.acks.length)

/-- A record of this identity was committed before. -/
def Device.knownIdentity (d : Device) (r : Rec) : Bool :=
  d.records.any fun x => x.ident == r.ident && !(x.origin == r.origin && x.seq == r.seq)

/-- A commit notice reaches its item: its completion is released when no record of it is open. -/
def Device.commitNotice (d : Device) (n : Nat) : Device :=
  match d.item n with
  | none => d
  | some x =>
    match x.stage, x.comp with
    | .storing, some c =>
      if d.store.commits.any (fun e => e.item == some n) || d.dom.moved.any (fun e => e.item == some n) then d
      else d.setItem n (x.finish c)
    | _, _ => d

/-- The VF that holds a tenant ID. -/
def Device.vfOf (d : Device) (tenant : Nat) : Option (Nat × Vf) :=
  List.find? (fun e => e.2.st != .absent && e.2.tenant == tenant) d.front.vfs

/-- A record of the executing ceremony is committed: it counts in its tenant's store use, and RESULT follows the last one
(13_modes_custody.md R592). -/
def Device.ceremonyCommit (d : Device) (c : Commit) : Device :=
  match d.cust.ceremony with
  | none => d
  | some y =>
    if !y.wait.contains c.rcd.seq then d else
    let d1 := match d.vfOf c.rcd.ident.tenant with
      | some (v, f) => if d.knownIdentity c.rcd then d else d.setVf v { f with storeUse := f.storeUse + 1 }
      | none => d
    let rest := y.wait.filter (· != c.rcd.seq)
    if rest.isEmpty then d1.endCeremony 0 (some y.reply)
    else d1.mapCust fun x => { x with ceremony := some { y with wait := rest } }

/-- A record is committed: event 0x12, store use, and the notice (R438, R439; 12_tenancy.md R538). -/
def Device.markCommitted (d : Device) (c : Commit) : Device :=
  match c.item.bind fun n => (d.item n).map fun x => (n, x.route.vf) with
  | none => (d.countEvent none 0x12 1).ceremonyCommit c
  | some (n, v) =>
    let f := d.vf v
    let d1 := if d.knownIdentity c.rcd then d else d.setVf v { f with storeUse := f.storeUse + 1 }
    (d1.countEvent (some v) 0x12 1).commitNotice n

/-- RECORD_COMMITTED. -/
def Device.recordCommitted (d : Device) (seq : Nat) : Device :=
  match d.commitOf seq with
  | none => d
  | some c => if d.committable c then (d.dropCommit seq).markCommitted c else d

def execRecordCommitted (seq : Nat) (s : State) : Host.Outcome State Fault Refusal := s.done (s.dev.recordCommitted seq)

/-- COMMIT_WAIT_LATE: source 188 once, and source 197 where fewer than k − 1 list members are reachable (R466, R490). -/
def Device.commitLate (d : Device) (seq : Nat) : Device :=
  match d.commitOf seq with
  | none => d
  | some c =>
    let k := d.acksNeeded c.rcd
    if c.late || decide (k ≤ c.acks.length) then d
    else
      let open_ := (d.placement c.rcd.ident).filter fun m => m != d.dom.view.moduleId && !d.dom.unreach.mem m
      let d1 := (d.setCommit { c with late := true }).fault 188
      if open_.length < k then d1.fault 197 else d1

def execCommitWaitLate (seq : Nat) (s : State) : Host.Outcome State Fault Refusal := s.done (s.dev.commitLate seq)

/-! ## Local writes (R431, R432) -/

/-- LOCAL_WRITE: steps 1 and 2 of R432. The blocks, sealed, and the tree nodes below HBM's that they change go to every CURRENT SSD
of the pair (R430). -/
def Device.localWrite (d : Device) : Device :=
  let x := d.store
  if x.noWrite || !x.pending.isEmpty || x.gathering.isEmpty || x.openSeg.isNone then d else
  let tail := d.keys.bank.tail
  let room := min 16 (16384 - locBlock tail)
  let recs := x.gathering.take (32 * room)
  let d1 := (d.mapStore fun s => { s with pending := recs, gathering := s.gathering.drop (32 * room) }).bankUpdate fun b =>
    { b with pendBlocks := blocksOf recs.length, pendDigest := pendDigestOf recs }
  let d2 := (x.currentPorts (locPair tail)).foldl (fun d p => d.emit (.ssd p tail (recs.map Rec.wire))) d1
  (((x.setBlocks tail recs).areaNodes tail (blocksOf recs.length)).foldl (fun d e => d.writeArea (locPair tail) 1 e.1 e.2) d2).countEvent
    none 0x24 1

def execLocalWrite (s : State) : Host.Outcome State Fault Refusal := s.done s.dev.localWrite

/-- The location of record i of a write at TAIL. -/
def recLoc (tail i : Nat) : Nat := makeLoc (locPair tail) (locSegment tail) (locBlock tail + i / 32) (i % 32)

/-- A record that landed is entered in the index, where it is the current one of its identity; a VOID record gives the identity's entry
to the record that is current then, or to none (R434, R435, R454). -/
def Device.indexRecord (d : Device) (r : Rec) : Device :=
  match currentRec d.records r.ident with
  | none => d.indexDrop r.ident
  | some c => match List.find? (fun w => w.1 == c) d.store.written.reverse with
    | some w => d.indexPut r.ident w.2
    | none => d

/-- Steps 3 and 4 of R432: the records stand in the store, TAIL moves on, a full segment is SEALED and the next opens. -/
def Device.landWrite (d : Device) : Device :=
  let recs := d.store.pending
  let tail := d.keys.bank.tail
  let n := blocksOf recs.length
  let key := locSegKey tail
  let next := locBlock tail + n
  let d1 := (d.mapStore fun s => { s.setBlocks tail recs with
      pending := []
      written := s.written ++ recs.zipIdx.map fun e => (e.1, recLoc tail e.2)
      unindexed := s.unindexed ++ recs
      commits := s.commits.map fun c => if recs.contains c.rcd then { c with localDone := true } else c }).bankUpdate fun b =>
    { b.advance (d.store.setBlocks tail recs).root with
      tail := if next < 16384 then makeLoc (locPair tail) (locSegment tail) next 0 else b.tail
      pendBlocks := 0, pendDigest := zeros 14 }
  let g := d1.seg key
  let d2 := recs.foldl (fun d r => d.indexRecord r) (d1.setSeg key { g with blocks := g.blocks + n })
  if next < 16384 then d2
  else
    let h : Seg := { g with st := .sealed, blocks := g.blocks + n }
    ((d2.setSeg key h).writeHeader key h).openNext (locPair tail)

/-- A cached run whose record is no longer the current one leaves the cache (R424: every lookup uses only the current
record; DEDUCED, log entry 19). -/
def Device.dropSuperseded (d : Device) (r : Rec) : Device :=
  if !r.replicated || r.ident.frag ≠ 0 then d else
  match d.findRun r.ident.tenant (r.ident.typ == tVault) r.ident.id r.ident.version with
  | some (k, run) => if run.st = .valid then d.dropRun k else d
  | none => d

/-- STATE_CHANGED after a step that changed LOCAL_STATE (R461). -/
def Device.noteState (d : Device) (was : Nat) : Device := if d.storeState = was then d else d.raiseInt .jnl 0 0

/-- Source 187 and its cause: the store is full (R444, R466). -/
def Device.checkFull (d : Device) : Device :=
  let was := d.causes.mem 187
  if d.storeFull && !was then (d.fault 187).holdCause 187 true
  else if !d.storeFull && was then d.holdCause 187 false else d

/-! ## FUA write failures and the read-only store (R441 to R443) -/

/-- A commit ends with MODE, detail 0x10; its record is voided at every peer that acknowledged it. -/
def Device.abandonCommit (d : Device) (c : Commit) : Device :=
  let d1 := (d.dropCommit c.rcd.seq).voidRecord c.rcd c.acks
  match c.item with
  | some n => d1.finishItem n .mode 0x10
  | none => match d1.cust.ceremony with
    | some y => if y.wait.contains c.rcd.seq then d1.endCeremony 7 (some []) else d1
    | none => d1

/-- The store becomes read-only: local writes are abandoned, and commits that need it end. -/
def Device.becomeReadOnly (d : Device) : Device :=
  let d1 := (d.storeStep fun s => { s with readOnly := true, pending := [], gathering := [] }).fault 181 |>.holdCause 181 true
  let d2 := d1.dom.ackDue.foldl (fun d e =>
    d.send { Msg.to 0x12 e.1 with
      ref := e.2.1, status := 1, tenant := e.2.2.ident.tenant, pgen := e.2.2.pgen
      idents := [(e.2.2.ident, e.2.2.origin, e.2.2.seq)] }) (d1.mapDom fun x => { x with ackDue := [] })
  (d2.store.commits.filter fun c => !c.rcd.replicated || decide (d2.factor < 3)).foldl (fun d c => d.abandonCommit c) d2

/-- An SSD becomes FAILED; the survivor's superblock expels it (R441, R442). -/
def Device.failPort (d : Device) (p : Nat) : Device :=
  let d1 := (d.storeStep fun s => { s with ports := s.ports.set p .failed }).fault 180
  let partner := if p % 2 = 0 then p + 1 else p - 1
  if d.store.ports.getD partner .absent = .current then
    (d1.mapStore fun s => { s with expelled := s.expelled.add p }).writeSuper partner
  else if d.store.formatted && !d.store.readOnly then d1.becomeReadOnly else d1

/-- FUA_WRITE_FAILURE: of an SSD that the pending write goes to. -/
def Device.fuaFailure (d : Device) (p : Nat) : Device :=
  if d.store.ports.getD p .absent = .current ∧ !d.store.pending.isEmpty ∧ p / 2 = locPair d.keys.bank.tail then
    (d.fault 189).failPort p
  else d

def execFuaWriteFailure (port : Fin 4) (s : State) : Host.Outcome State Fault Refusal := s.done (s.dev.fuaFailure port)

/-! ## Reads (R436, R437; 11_jochevy_domain.md R491, R492) -/

/-- RETRY entries of reads: above every item number. -/
def readKey (k : Nat) : Nat := 2 ^ 40 + k

def Device.readOf (d : Device) (k : Nat) : Option PeerRead := d.dom.reads.find? fun r => r.key == k
def Device.setRead (d : Device) (r : PeerRead) : Device :=
  d.mapDom fun x => { x with reads := x.reads.map fun e => if e.key = r.key then r else e }
def Device.dropRead (d : Device) (k : Nat) : Device :=
  (d.mapDom fun x => { x with reads := x.reads.filter fun e => e.key != k }).dropDelay retryList (readKey k)

/-- Identities of a read that are still missing: fragment 0 first, then those its FRAG_COUNT names, up to 64. -/
def PeerRead.missing (r : PeerRead) : List Ident :=
  match r.got.head? with
  | none => [r.ident]
  | some g => (((List.range g.fragCount).filter fun i => !r.got.any fun x => x.ident.frag == i).map fun i =>
      { r.ident with frag := i }).take 64

/-- The members a read asks, in order (R491). -/
def Device.readMembers (d : Device) (i : Ident) : List Nat :=
  let w := d.dom.view
  let old := if !w.grace.isEmpty || d.dom.resync then placementOf w.domainId w.prevMembers i else []
  (firstDistinct (d.placement i ++ old)).filter (· != w.moduleId)

/-- The lookup of an item, as a read. -/
abbrev probeKey (n : Nat) : Nat := 2 ^ 50 + n

/-- An item that looks a key ID up in the store, as KEY_STATUS does (06_payment_services.md R269). -/
def Item.asksStore (x : Item) : Bool := x.stage == .waiting && x.current.service == 0x0405 && x.ops.a == .asked

/-- The key of the read that a KEY_IMPORT makes of its key ID; runs have the keys below 2 ^ 20. -/
abbrev importRead (id : Nat) : Nat := 2 ^ 20 + id % 2 ^ 20

/-- The peers hold no copy of what an item looks up; `bad`: an unauthentic copy stands here (R437). -/
def Device.probeAbsent (d : Device) (n : Nat) (bad : Bool) : Device :=
  match d.item n with
  | none => d
  | some x =>
    if x.asksStore then (if bad then (d.refuse n .keyPoisoned 1).settle n else d.deliverKey n false none)
    else d.setItem n { x with ops := { x.ops with cleared := true } }

/-- The peers gave records that an item looks up. They are kept as a copy-forward; where none of them authenticates, KEY_STATUS ends
KEY_POISONED (R437; 06_payment_services.md R269). -/
def Device.probeFound (d : Device) (n : Nat) (recs : List Rec) : Device :=
  let d1 := d.copyForward recs
  match d1.item n with
  | none => d1
  | some x =>
    if !x.asksStore then d1.setItem n { x with ops := { x.ops with found := recs } }
    else if recs.any fun r => r.secret && r.body.isEmpty then (d1.refuse n .keyPoisoned 1).settle n
    else (d1.setItem n { x with ops := { x.ops with found := recs } }).deliverKey n false none

/-- A read from peers ends without a copy. -/
def Device.readAbsent (d : Device) (r : PeerRead) : Device :=
  let d1 := d.dropRead r.key
  if 2 ^ 50 ≤ r.key then d1.probeAbsent (r.key - 2 ^ 50) r.bad else
  match d1.keys.runs.find? r.key with
  | some run => if run.st = .valid then d1 else if r.bad then d1.fillBad r.key run else d1.fillAbsent r.key run
  | none => d1

/-- A read asks its next member; when none is left it ends, or begins again after the longest delay (R492). -/
def Device.readNext (d : Device) (r : PeerRead) : Device :=
  match r.next.filter fun m => !d.dom.unreach.mem m with
  | m :: rest =>
    let d1 := (d.dropDelay retryList (readKey r.key)).setRead { r with asked := some m, next := rest }
    (d1.addDelay retryList (readKey r.key) ((d.sched.tick + 40) % 2 ^ 32)).send { Msg.to 0x18 m with
      idents := r.missing.map fun i => (i, 0, 0), tenant := r.ident.tenant }
  | [] =>
    if (r.members.all fun m => d.dom.unreach.mem m || r.absent.contains m) && decide (d.factor - 1 ≤ r.absent.length) then
      d.readAbsent r
    else
      ((d.dropDelay retryList (readKey r.key)).setRead { r with asked := none, next := r.members, absent := [] }).addDelay
        retryList (readKey r.key) ((d.sched.tick + d.retryDelay d.retryDoublings) % 2 ^ 32)

/-- A read from peers starts (R437, R491). -/
def Device.peerRead (d : Device) (k : Nat) (i : Ident) (bad : Bool) : Device :=
  if (d.readOf k).isSome then d else
  let ms := d.readMembers i
  let r : PeerRead := { key := k, ident := i, bad := bad, next := ms, asked := none, absent := [], members := ms, got := [] }
  (d.mapDom fun x => { x with reads := x.reads ++ [r] }).readNext r

/-- The lookup of an item ends at the local store (R436, R437). -/
def Device.probeReadEnd (d : Device) (n : Nat) (f : ReadEnd) : Device :=
  match d.item n with
  | none => d
  | some x =>
    let k := probeKey n
    let h := x.current.keyA
    let i := keyIdent (d.tenantOf x) (bitsOf h 63 24) (bitsOf h 23 8) 0
    if !x.asksStore || (d.readOf k).isSome then d else
    match f with
    | .good => d
    | .transient =>
      if x.ops.retries < d.retryDoublings then
        (((d.fault 176).setItem n { x with ops := { x.ops with retries := x.ops.retries + 1 } }).dropDelay retryList (readKey k)).addDelay
          retryList (readKey k) ((d.sched.tick + d.retryDelay x.ops.retries) % 2 ^ 32)
      else if d.store.written.any fun w => w.1.ident == i && (d.store.currentPorts (locPair w.2)).length == 2 then
        (d.fault 177).raiseInt .jnl 0 3
      else (d.fault 179).peerRead k i true
    | .mediaPartner => (d.fault 177).raiseInt .jnl 0 3
    | .badPartner => (d.fault 178).raiseInt .jnl 0 3
    | .noLocal => ((d.fault 179).indexDrop i).peerRead k i true
    | .noEntry => d.peerRead k i false

/-- RECORD_READ_END: a read for a key-cache run ends, or, from 2^50 on, the lookup of an item. -/
def Device.recordReadEnd (d : Device) (k : Nat) (f : ReadEnd) : Device :=
  if 2 ^ 50 ≤ k then d.probeReadEnd (k - 2 ^ 50) f else
  match d.keys.runs.find? k with
  | none => d
  | some r =>
    if r.st = .valid || (d.readOf k).isSome then d else
    match f with
    | .good => d
    | .transient =>
      if r.retries < d.retryDoublings then
        (((d.fault 176).setRun k { r with retries := r.retries + 1 }).dropDelay retryList (readKey k)).addDelay retryList (readKey k)
          ((d.sched.tick + d.retryDelay r.retries) % 2 ^ 32)
      else if d.store.written.any fun w => w.1.ident == r.ident && (d.store.currentPorts (locPair w.2)).length == 2 then
        (d.fault 177).raiseInt .jnl 0 3
      else (d.fault 179).peerRead k r.ident true
    | .mediaPartner => (d.fault 177).raiseInt .jnl 0 3
    | .badPartner => (d.fault 178).raiseInt .jnl 0 3
    | .noLocal => ((d.fault 179).indexDrop r.ident).peerRead k r.ident true
    | .noEntry => d.peerRead k r.ident false

def execRecordReadEnd (slot : Nat) (found : ReadEnd) (s : State) : Host.Outcome State Fault Refusal :=
  s.done (s.dev.recordReadEnd slot found)

/-- A retry of a read falls due: an SSD is read again, or the next peer is asked. -/
def Device.retryRead (d : Device) (k : Nat) : Device :=
  let d1 := d.dropDelay retryList (readKey k)
  match d.readOf k with
  | some r => d1.readNext r
  | none => match d.keys.runs.find? k with
    | some r => if r.st = .valid then d1 else d1.readRecord r.ident
    | none => match d1.item (k - 2 ^ 50) with
      | some x => if x.asksStore then
          d1.readRecord (keyIdent (d1.tenantOf x) (bitsOf x.current.keyA 63 24) (bitsOf x.current.keyA 23 8) 0) else d1
      | none => d1

/-! ## Checkpoints, scrubs, compaction (R435, R447 to R449, R457, R458) -/

/-- The dirty buckets: those of entries that the index area holds otherwise, with their 4 KiB (R434). -/
def Store.dirtyBuckets (x : Store) : List Nat :=
  (((x.index.filter fun e => x.area.find? e.1 != some e.2) ++ x.area.filter fun e => (x.index.find? e.1).isNone).map fun e => e.1 / 256).dedup
def Store.bucketBytes (x : Store) (n : Nat) : Bytes :=
  (List.range 256).flatMap fun i => match x.index.find? (256 * n + i) with
    | some e => e.bytes
    | none => zeros 16

/-- INDEX_CHECKPOINT: the dirty buckets are written, then a superblock with the checkpoint (R435). A bucket lies on the pair of its number's
parity, where there are two (DESIGN CHOICE, log entry 158). -/
def Device.indexCheckpoint (d : Device) : Device :=
  if d.store.usable && !d.store.readOnly then
    let pairOf := fun n => if d.store.segs1 = 0 then 0 else n % 2
    let d1 := (d.store.dirtyBuckets.foldl (fun e n => e.writeArea (pairOf n) 2 n (d.store.bucketBytes n)) d).mapStore fun s => { s with
      checkpoint := (d.keys.bank.tail, d.keys.bank.treeVer), unindexed := [], area := s.index }
    (d.store.currentPorts 0 ++ d.store.currentPorts 1).foldl (fun d p => d.writeSuper p) d1
  else d

def execIndexCheckpoint (s : State) : Host.Outcome State Fault Refusal := s.done s.dev.indexCheckpoint

/-- A command of JNL_CMD that starts while no other runs. -/
def Device.jnlCommand (d : Device) (o : JnlOp) (f : Device → Device) : Device := d.onIdle jnlCmd o.bit 0xF f

/-- SCRUB and COMPACT: with ENABLE at 0, or without a store to work on, no run starts; an automatic run of the same kind
becomes the command's, and one of the other kind ends for it (DESIGN CHOICE, log entry 20). -/
def Device.sweepCommand (d : Device) (o : JnlOp) (start : Device → Device) : Device :=
  d.jnlCommand o fun d =>
    if !d.jnlOn || !d.store.usable then d.writeLost jnlCmd
    else if d.store.op = some o then (d.mapStore fun s => { s with opCmd := true }).commandStart jnlCmd o.bit
    else start (d.jnlEnd true 0)

def execScrub (s : State) : Host.Outcome State Fault Refusal :=
  s.done (s.dev.sweepCommand .scrub fun d => d.startScrub true)

/-- SCRUB_TIMER: an automatic scrub (R458). -/
def Device.scrubTimer (d : Device) : Device :=
  if d.field (jnlAt Off.jnlCtrl) 31 16 ≠ 0 ∧ d.jnlOn ∧ d.store.usable ∧ d.store.op.isNone then d.startScrub false else d

def execScrubTimer (s : State) : Host.Outcome State Fault Refusal := s.done s.dev.scrubTimer

/-- SCRUB_END. -/
def Device.scrubEnd (d : Device) : Device :=
  if d.store.op = some .scrub then
    ((d.progPos (Page.jnl.base 0) d.store.written.length).mapStore fun s => { s with scrubbed := d.cycle }).jnlEnd false 0
  else d

def execScrubEnd (s : State) : Host.Outcome State Fault Refusal := s.done s.dev.scrubEnd

def execCompact (s : State) : Host.Outcome State Fault Refusal :=
  s.done (s.dev.sweepCommand .compact fun d => d.startCompaction true)

/-- Live records that lie in a segment and nowhere else. -/
def Store.liveIn (held : List Nat) (x : Store) (k : Nat) : List Rec :=
  let rs := x.written.map Prod.fst
  (x.written.filter fun w => locSegKey w.2 == k && !deadRec held rs w.1
    && !x.written.any fun v => v.1 == w.1 && locSegKey v.2 != k).map Prod.fst

/-- A SEALED segment holds a dead record. -/
def Store.hasDead (held : List Nat) (x : Store) (k : Nat) : Bool :=
  x.written.any fun w => locSegKey w.2 == k && deadRec held (x.written.map Prod.fst) w.1

/-- SEALED segments with a dead record, fewest live records first (R448). -/
def Store.candidate (held : List Nat) (x : Store) : Option Nat :=
  pickBy (fun a b => decide ((x.liveIn held a).length < (x.liveIn held b).length))
    ((x.segments.filter fun e => e.2.st == .sealed && x.hasDead held e.1).map Prod.fst)
def Device.liveIn (d : Device) (k : Nat) : List Rec := d.store.liveIn d.held k
def Device.candidate (d : Device) : Option Nat := d.store.candidate d.held

/-- A copied-out segment is erased in the steps of R449. -/
def Device.eraseSegment (d : Device) (k : Nat) : Device :=
  let g := d.seg k
  let pos := d.reg (Page.jnl.base 0 + Off.progPosLo)
  let h : Seg := { g with st := .erased, blocks := 0 }
  let d0 := (d.writeHeader k { g with st := .eraseIntent }).storeStep fun s => { s.zeroSegment k with
      segments := s.segments.put Seg.initial k h
      written := s.written.filter fun w => locSegKey w.2 != k }
  let d1 := ((d0.bankUpdate fun b => b.advance (d.store.zeroSegment k).root).deallocate k).writeHeader k h
  ((d1.progPos (Page.jnl.base 0) (pos + 1)).openNext (k / 262144)).checkFull.noteState d1.storeState

/-- A compaction step: the live records of the candidate are copied forward; once every copy stands, it is erased. -/
def Device.compactStep (d : Device) : Device :=
  match d.candidate with
  | none => d
  | some k =>
    let live := d.liveIn k
    if live.isEmpty then d.eraseSegment k
    else
      let fresh := live.filter fun r => !d.store.gathering.contains r && !d.store.pending.contains r
      d.mapStore fun s => { s with gathering := s.gathering ++ fresh }

/-- COMPACTION_END: a last segment that is copied out is erased; the run ends on its target or without a candidate. -/
def Device.compactionEnd (d : Device) : Device :=
  if d.store.op ≠ some .compact then d else
  let d1 := match d.candidate with
    | some k => if (d.liveIn k).isEmpty then d.eraseSegment k else d
    | none => d
  if d1.candidate.isNone || !d1.freeBelow (d1.compactLow + 2) then d1.jnlEnd false 0 else d1

def execCompactionEnd (s : State) : Host.Outcome State Fault Refusal := s.done s.dev.compactionEnd

/-- SWEEP_RELEASE of a scrub step: the next block is read and checked. -/
def Device.scrubStep (d : Device) : Device :=
  let b := Page.jnl.base 0
  (d.progPos b (min d.store.written.length (d.reg (b + Off.progPosLo) + 32))).queueStep .scrub

/-! ## ADOPT, FORMAT and the soft reset (R417, R450, R459 to R465) -/

/-- A suitable SSD stands on a port. -/
def PortState.suitable (p : PortState) : Bool := p != .absent && p != .unsuitable && p != .probing

/-- The ports meet R414 and R415. -/
def Store.portsOk (x : Store) : Bool :=
  let s := fun p => (x.ports.getD p .absent).suitable
  s 0 && s 1 && s 2 == s 3

/-- The modes in which FORMAT and ADOPT run (R464). -/
def Device.formatMode (d : Device) : Bool := d.cust.mode == .custody || d.cust.mode == .maintenance

/-- ADOPT. -/
def Device.adopt (d : Device) : Device :=
  d.jnlCommand (.adopt 0) fun d =>
    let p := d.field (jnlAt Off.jnlArg) 1 0
    let partner := if p % 2 = 0 then p + 1 else p - 1
    if !d.formatMode then d.writeLost jnlCmd
    else
      let d1 := ((d.jnlEnd true 0).jnlStart (.adopt p) true).setField (jnlAt Off.jnlResult) 1 0 p
      if d.store.ports.getD p .absent = .absent then d1.jnlEnd true 2
      else if d.store.ports.getD partner .absent ≠ .current then d1.jnlEnd true 6
      else (d1.storeStep fun s => { s with ports := s.ports.set p .rebuilding }).progStart (Page.jnl.base 0) 0x0003
        d.store.written.length

def execAdopt (s : State) : Host.Outcome State Fault Refusal := s.done s.dev.adopt

/-- The superblock of an adopted SSD is written last, and its partner's without the expel mark (R459, R460). -/
def Device.adoptSuper (d : Device) (p code : Nat) : Device :=
  if code = 0 then (d.writeSuper p).writeSuper (if p % 2 = 0 then p + 1 else p - 1) else d

/-- ADOPT_END: the port is CURRENT, or the SSD proves unsuitable (codes 0x03 and 0x04). -/
def Device.adoptEnd (d : Device) (code : Nat) : Device :=
  match d.store.op with
  | some (.adopt p) =>
    let st : PortState := if code = 0 then .current else if code = 3 ∨ code = 4 then .unsuitable else .foreign
    ((d.storeStep fun s => { s with
      ports := s.ports.set p st
      expelled := if code = 0 then s.expelled.erase p else s.expelled }).adoptSuper p code |>.progPos (Page.jnl.base 0)
        (if code = 0 then d.store.written.length else d.reg (Page.jnl.base 0 + Off.progPosLo))).jnlEnd (code != 0) code
  | _ => d

def execAdoptEnd (code : Fin 8) (s : State) : Host.Outcome State Fault Refusal := s.done (s.dev.adoptEnd code)

/-- FORMAT: not while any SSD is CURRENT. -/
def Device.format (d : Device) : Device :=
  d.jnlCommand .format fun d =>
    if !d.formatMode || d.store.ports.contains .current then d.writeLost jnlCmd
    else (d.jnlEnd true 0).jnlStart .format true

def execFormat (s : State) : Host.Outcome State Fault Refusal := s.done s.dev.format

/-- The layout of R417 is written to every suitable SSD: segments by the capacity of the SSDs, which the spec leaves open
(R416, R417), a fresh STORE_ID, an empty tree and one OPEN segment. -/
def Device.formatStore (d : Device) : Device :=
  let two := (d.store.ports.getD 2 .absent).suitable
  let size := fun n => 1024 + Config.freeNat n % 261121
  let id := d.random 16
  let d1 := (((d.drawn).drawFree).drawFree).storeStep fun s => { s with
    ports := s.ports.map fun p => if p.suitable then .current else p
    segs0 := size d.free, segs1 := if two then size (d.free + 1) else 0
    segments := [], storeId := id, formatted := true, quarantined := false, readOnly := false, written := [], gathering := []
    pending := [], commits := [], checkpoint := (0, 0), unindexed := [], expelled := []
    index := [], area := [], tree := [], top := [], supers := [0, 0, 0, 0] }
  let d2 := ((d1.holdCause 181 false).bankUpdate fun b => { b.advance d1.store.root with pendBlocks := 0, pendDigest := zeros 14 }).openSegment 0 0
  (d2.store.currentPorts 0 ++ d2.store.currentPorts 1).foldl (fun d p => d.writeSuper p) d2

/-- FORMAT_END: code 0x05 where the ports break R414 or R415, code 0x03 or 0x04 as the SSDs prove. -/
def Device.formatEnd (d : Device) (code : Nat) : Device :=
  if d.store.op ≠ some .format then d
  else if !d.store.portsOk then d.jnlEnd true 5
  else if code = 0 then d.formatStore.jnlEnd false 0
  else d.jnlEnd true code

def execFormatEnd (code : Fin 8) (s : State) : Host.Outcome State Fault Refusal := s.done (s.dev.formatEnd code)

/-- A soft reset of the JNL page ends the running command and probes FAILED ports again; an SSD whose partner expels it
is then FOREIGN (R460, R462). -/
def Device.jnlReset (d : Device) : Device :=
  let d1 := match d.store.op with
    | some (.adopt p) => d.storeStep fun s => { s with ports := s.ports.set p .foreign }
    | _ => d
  (d1.jnlEnd true 7).storeStep fun s => { s with
    ports := s.ports.zipIdx.map fun e => if e.1 = .failed ∧ s.expelled.mem e.2 then .foreign else e.1 }

/-- JNL_SOFT_RESET: only in MAINTENANCE (02_register_convention.md R49). -/
def Device.jnlSoftReset (d : Device) : Device :=
  d.softStart (Page.jnl.base 0) fun d => d.jnlReset

def execJnlSoftReset (s : State) : Host.Outcome State Fault Refusal :=
  s.done (if s.dev.cust.mode = .maintenance then s.dev.jnlSoftReset else s.dev.writeLost (jnlAt 8))

end Sys2Proof.Machine
end

