-- ==== Sys2Proof/Machine/Domain.lean ====
section
/-! DEFINITION. The domain: messages received, replication, epochs and their changes, resynchronisation, and the end of a
local write, which acknowledges, commits and adopts (11_jochevy_domain.md R467 to R505, 10_record_store.md R432, R454 to
R456; 09_key_hierarchy.md R402, 13_modes_custody.md R590). -/

namespace Sys2Proof.Machine

/-! ## Records of the domain unit (R477) -/

/-- Object IDs: of the DOMAIN record, of a VIEW record (its epoch and k), of a PREPARED record (its epoch and answer). The spec
fixes no layout (DESIGN CHOICE, log entry 21). -/
def viewId (n : Next) : Nat := n.epoch * 8 + n.k % 8
def preparedId (p refused : Nat) : Nat := p * 2 + refused

def domainRecords (w : View) (joinEpoch : Nat) : List Rec :=
  metaRecords 0x04 0 1 (w.domainId ++ beBytes 2 w.moduleId ++ beBytes 4 joinEpoch)
def viewRecords (n : Next) : List Rec := metaRecords 0x05 (viewId n) 1 (n.members.flatMap fun m => beBytes 2 m)

/-! ## Messages received (R468, R472, R475, R476, R480) -/

/-- An older epoch within its grace, or this module's own. -/
def Device.epochServed (d : Device) (e : Nat) : Bool :=
  e == d.dom.view.epoch || d.dom.view.grace.contains e

/-- The reply type of a graced request; none of a message that has no reply. -/
def replyType (t : Nat) : Option Nat :=
  if t = 0x10 then some 0x12 else if t = 0x18 then some 0x19 else if t = 0x1A then some 0x1B else if t = 0x1C then some 0x1D
  else if t = 0x40 then some 0x41 else if t = 0x42 then some 0x43 else none

/-- A graced message is answered EPOCH_AHEAD or EPOCH_STALE. -/
def Device.answerEpoch (d : Device) (m : Msg) (status : Nat) : Device :=
  let d1 := d.fault 199
  match replyType m.typ with
  | some t => d1.send { m.reply t status with idents := m.idents ++ m.recs.map fun r => (r.ident, r.origin, r.seq) }
  | none => d1

/-- What a verified message tells of its sender: its mark is cleared, the port it was heard on, its grants, and the message
it answers. -/
def Device.heard (d : Device) (p : Nat) (m : Msg) : Device :=
  let secured := d.dom.portSecured.getD p false
  let d1 := d.domStep fun x => { x with
    portSecured := x.portSecured.set p true
    lastPort := x.lastPort.put 0 m.src p
    credits := x.credits.put 0 m.src (x.credits.get 0 m.src + 8 * m.credits)
    waiting := if m.ref = 0 then x.waiting else x.waiting.filter fun w => !(w.msg.seq == m.ref && w.msg.dst == m.src)
    reports := x.reports.filter fun r => r.2 != m.src }
  let d2 := if secured then d1 else d1.raiseInt .dom 0 3
  ((d2.countEvent none 0x22 1).clearMark m.src).flushQueue m.src

/-- The epoch checks of a graced message. -/
def Device.graced (d : Device) (m : Msg) (f : Device → Device) : Device :=
  if !gracedType m.typ then f d
  else if epochNewer m.epoch d.dom.view.epoch then d.mapDom fun x => { x with held := x.held ++ [m] }
  else if d.epochServed m.epoch then f d
  else d.answerEpoch m 0x21

/-- A Jochevy message is received. A module outside a domain holds no key under which a frame verifies (R469). -/
def Device.receive (d : Device) (p : Nat) (m : Msg) (f : Device → Device) : Device :=
  if !d.dom.view.inDomain || !d.fabricOn || !d.dom.portUp.getD p false then d
  else if m.domainTag ≠ domainTag d.dom.view.domainId then d.fault 194
  else if !m.mcast && m.dst != d.dom.view.moduleId then d
  else if m.viaStub then (d.countEvent none 0x22 1).graced m f
  else (d.heard p m).graced m f

/-! ## Settling records (10_record_store.md R454 to R456; R503, R519) -/

/-- A HOLD_QUERY for a record goes to members. -/
def Device.askHold (d : Device) (r : Rec) (why : AskWhy) (members : List Nat) : Device :=
  let a : HoldAsk := { rcd := r, why := why, asked := members, holds := [], lacks := [] }
  members.foldl (fun d m => d.send { Msg.to 0x1A m with
      idents := [(r.ident, r.origin, r.seq)], tenant := r.ident.tenant, pgen := r.pgen })
    (d.mapDom fun x => { x with asks := x.asks ++ [a] })

def HoldAsk.isOf (a : HoldAsk) (i : Ident) (origin seq : Nat) : Bool :=
  a.rcd.ident == i && a.rcd.origin == origin && a.rcd.seq == seq

def Device.dropAsk (d : Device) (a : HoldAsk) : Device :=
  d.mapDom fun x => { x with asks := x.asks.filter fun b => b != a }

/-- An open commit that moved here ends: its notice, or SQUASHED (R519). -/
def Device.endMoved (d : Device) (c : Commit) (committed : Bool) : Device :=
  let d1 := d.mapDom fun x => { x with moved := x.moved.filter fun e => e != c }
  if committed then d1.markCommitted c
  else match c.item with | some n => d1.finishItem n .squashed 0 | none => d1

/-- Modules that hold an open commit that moved here: its origin once its local write is known, and its ACKs. -/
def Commit.holders (c : Commit) : Nat := (c.acks ++ if c.localDone then [c.rcd.origin] else []).dedup.length

/-- A moved commit that k modules hold is committed. -/
def Device.settleMoved (d : Device) (c : Commit) : Device := if d.factor ≤ c.holders then d.endMoved c true else d

/-- A question is settled, where its answers suffice. -/
def Device.settleAsk (d : Device) (a : HoldAsk) : Device :=
  let need := d.factor - 1
  let all := a.asked.all fun m => a.holds.contains m || a.lacks.contains m
  match a.why with
  | .resync =>
    if all then (a.lacks.foldl (fun d m => d.replicateTo a.rcd m) (d.dropAsk a)).progPos (Page.dom.base 0)
      (d.reg (domAt Off.progPosLo) + 1) else d
  | .own =>
    if need ≤ a.holds.length then
      let d1 := if d.records.contains a.rcd then d.dropAsk a else (d.dropAsk a).copyForward [a.rcd]
      match d1.commitOf a.rcd.seq with
      | some c => (d1.dropCommit a.rcd.seq).markCommitted c
      | none => d1
    else if all then ((d.dropAsk a).dropCommit a.rcd.seq).voidRecord a.rcd a.holds else d
  | .origin =>
    let others := a.holds.filter (· != a.rcd.origin)
    if need ≤ others.length + 1 then (if all || need ≤ others.length then d.dropAsk a else d)
    else if all then (d.dropAsk a).voidRecord a.rcd a.holds else d
  | .moved =>
    match d.dom.moved.find? fun c => a.isOf c.rcd.ident c.rcd.origin c.rcd.seq with
    | none => d.dropAsk a
    | some c =>
      let c1 := { c with
        acks := (c.acks ++ a.holds.filter (· != c.rcd.origin)).dedup
        localDone := c.localDone || a.holds.contains c.rcd.origin }
      let d1 := d.mapDom fun x => { x with moved := x.moved.map fun e => if e = c then c1 else e }
      if d.factor ≤ c1.holders then (d1.dropAsk a).endMoved c1 true
      else if all then ((d1.dropAsk a).voidRecord a.rcd a.holds).endMoved c1 false else d1

/-- Every question that an answer may have settled. -/
def Device.settleAsks (d : Device) (p : HoldAsk → Bool) : Device :=
  (d.dom.asks.filter p).foldl (fun d a => d.settleAsk a) d

/-! ## Resynchronisation (R503 to R505) -/

/-- Current replicated records of the store. -/
def Device.currentReplicated (d : Device) : List Rec :=
  let rs := d.records
  (rs.filter fun r => r.replicated && r.state != 0xFF && currentRec rs r.ident == some r).dedup

/-- A resynchronisation starts, or starts again. -/
def Device.startResync (d : Device) (cmd : Bool) : Device :=
  let rs := d.currentReplicated
  let d1 := (d.mapDom fun x => { x with
    resync := true, resyncCmd := x.resyncCmd || cmd, asks := x.asks.filter fun a => a.why != .resync }).progStart
      (Page.dom.base 0) 0x0009 rs.length
  rs.foldl (fun d r =>
    let all := (d.placement r.ident).filter fun m => !d.dom.unreach.mem m
    let ms := (all.take d.factor).filter (· != d.dom.view.moduleId)
    let d2 := if all.length < d.factor then d.fault 202 else d
    if ms.isEmpty then d2.progPos (Page.dom.base 0) (d2.reg (domAt Off.progPosLo) + 1) else d2.askHold r .resync ms) d1

/-- A RESYNC run ends with its DONE bit, where it is a command's. -/
def Device.endResync (d : Device) (aborted : Bool) : Device :=
  let d1 := (d.mapDom fun x => { x with
    resync := false, resyncCmd := false, asks := x.asks.filter fun a => a.why != .resync }).progEnd (Page.dom.base 0) aborted
  if d.dom.resyncCmd then (d1.commandEnd (domAt Off.domCmd) 2 10).raiseInt .dom 0 4 else d1

/-- RESYNC_END: every record has been checked. -/
def Device.resyncEnd (d : Device) : Device :=
  if d.dom.resync && !(d.dom.asks.any fun a => a.why == .resync) && !(d.dom.reads.any fun r => decide (2 ^ 21 ≤ r.key ∧ r.key < 2 ^ 50)) then
    d.endResync false
  else d

def execResyncEnd (s : State) : Host.Outcome State Fault Refusal := s.done s.dev.resyncEnd

/-- DOM_CMD commands: not while another of the register runs (R523). -/
def Device.domCommand (d : Device) (bit : Nat) (f : Device → Device) : Device := d.onIdle (domAt Off.domCmd) bit 0x7 f

/-- The digest of records' identities and SEQ values (R474). -/
def Device.rangeDigest (recs : List Rec) : Bytes :=
  Config.sha3 (recs.flatMap fun r => beBytes 1 r.ident.typ ++ beBytes 4 r.ident.tenant ++ beBytes 8 r.ident.id
    ++ beBytes 2 r.ident.version ++ beBytes 2 r.ident.frag ++ beBytes 2 r.origin ++ beBytes 8 r.seq)

/-- Members whose ring points lie next to a position, on both sides. -/
def Device.ringSides (d : Device) (pos : Nat) : List Nat :=
  let w := d.dom.view
  let up := ringOrder w.domainId w.others pos
  let down := (w.others.flatMap fun m => (memberPoints w.domainId m).map fun p => ((pos + 2 ^ 64 - p) % 2 ^ 64, m)).insertionSort
    fun a b => a.1 ≤ b.1
  ((up.head?.toList) ++ (down.head?.map Prod.snd).toList).dedup

/-- The low end of the range that one of the module's ring points stands for: the k-th other member's nearest point below it, so that
the range holds what this module is among the first k to hold; the whole ring where there are fewer (R485, R505; DESIGN CHOICE,
log entry 22). -/
def Device.ringLow (d : Device) (pos : Nat) : Nat :=
  let w := d.dom.view
  let below := (w.others.map fun m => ((memberPoints w.domainId m).map fun p => (pos + 2 ^ 64 - p) % 2 ^ 64).foldl min (2 ^ 64)).insertionSort
    (· ≤ ·)
  match below[d.factor - 1]? with
  | some x => (pos + 2 ^ 64 - x) % 2 ^ 64
  | none => pos

/-- Current replicated records above one ring position and up to another. -/
def Device.rangeRecords (d : Device) (lo hi : Nat) : List Rec :=
  d.currentReplicated.filter fun r =>
    decide ((recordPoint d.dom.view.domainId r.ident + 2 ^ 64 - lo - 1) % 2 ^ 64 ≤ (hi + 2 ^ 64 - lo - 1) % 2 ^ 64)

/-- RESYNC_DIGEST of a range, as a question or in answer to a message: the range, its digest, and the identities that the digest
covers (R474, R505; DESIGN CHOICE, log entry 22). -/
def Device.digestOf (d : Device) (to_ ref lo hi : Nat) : Msg :=
  let rs := d.rangeRecords lo hi
  { Msg.to 0x20 to_ with
    ref := ref, payload := beBytes 8 lo ++ beBytes 8 hi ++ Device.rangeDigest rs
    idents := rs.map fun r => (r.ident, r.origin, r.seq) }

/-- RESYNC: the run of R503, and RESYNC_DIGEST to the members on both sides of each of the module's ring points (R505). -/
def Device.resyncCommand (d : Device) : Device :=
  d.domCommand 2 fun d =>
    let d1 := (d.startResync true).commandStart (domAt Off.domCmd) 2
    (memberPoints d.dom.view.domainId d.dom.view.moduleId).foldl (fun d pos =>
      (d.ringSides pos).foldl (fun d m => d.send (d.digestOf m 0 (d.ringLow pos) pos)) d) d1

def execResync (s : State) : Host.Outcome State Fault Refusal := s.done s.dev.resyncCommand

/-- A fresh key for a read of resynchronisation. -/
def Device.resyncKey (d : Device) : Nat :=
  (d.dom.reads.filter fun r => decide (2 ^ 21 ≤ r.key ∧ r.key < 2 ^ 50)).foldl (fun k r => max k (r.key + 1)) (2 ^ 21)

/-- RESYNC_DIGEST: where the digests of the range differ, a question is answered with this module's own, and the records placed here
that this module lacks are fetched (R505). -/
def Device.resyncDigest (d : Device) (m : Msg) : Device :=
  let lo := beNat (slice m.payload 0 8)
  let hi := beNat (slice m.payload 8 8)
  if m.payload.drop 16 = Device.rangeDigest (d.rangeRecords lo hi) then d else
  let d1 := if m.ref = 0 then d.send (d.digestOf m.src m.seq lo hi) else d
  (m.idents.filter fun i => !d.holdsRecord i.1 i.2.1 i.2.2 && (d.placement i.1).contains d.dom.view.moduleId).foldl
    (fun d i => d.peerRead d.resyncKey { i.1 with frag := 0 } false) d1

/-! ## Replication (R487 to R492, R519) -/

/-- REPLICATE. -/
def Device.replicateIn (d : Device) (m : Msg) : Device :=
  m.recs.foldl (fun d w =>
    let r := d.unwire w
    let id := [(r.ident, r.origin, r.seq)]
    if !r.replicated then d
    else if d.holdsRecord r.ident r.origin r.seq then d.send { m.reply 0x11 0 with idents := id }
    else if d.store.noWrite then d.send { m.reply 0x12 1 with idents := id }
    else if d.storeFull then d.send { m.reply 0x12 2 with idents := id }
    else
      let here := d.store.gathering.contains r || d.store.pending.contains r
      (d.mapStore fun s => { s with gathering := if here then s.gathering else s.gathering ++ [r] }).mapDom fun x => { x with
        ackDue := x.ackDue ++ [(m.src, m.seq, r)] }) d

/-- A commit, of this module or moved here, that an answer names. -/
def Commit.named (c : Commit) (i : Ident × Nat × Nat) : Bool :=
  c.rcd.ident == i.1 && c.rcd.origin == i.2.1 && c.rcd.seq == i.2.2

/-- An ACK counts from a member of the record's placement list, then or now, once (R488). -/
def Device.ackFrom (d : Device) (m : Msg) (src : Nat) : Device :=
  m.idents.foldl (fun d i =>
    let d1 := match d.store.commits.find? fun c => c.named i with
      | some c =>
        if c.acks.contains src || !(c.firstList.contains src || (d.placement i.1).contains src) then d
        else d.setCommit { c with acks := c.acks ++ [src] }
      | none => d
    match d1.dom.moved.find? fun c => c.named i with
    | some c =>
      let c1 := { c with acks := (c.acks ++ [src]).dedup }
      (d1.mapDom fun x => { x with moved := x.moved.map fun e => if e = c then c1 else e }).settleMoved c1
    | none => d1) d

/-- A forwarded message keeps its header but for DST and FLAGS.VIA_STUB (DESIGN CHOICE, log entry 24). -/
def Device.forward (d : Device) (m : Msg) (target : Nat) : Device :=
  let y := { m with dst := target, mcast := false, viaStub := true }
  match d.outPort y with
  | some p => (d.emitFrame p y).countEvent none 0x21 1
  | none => d

/-- Messages that a forwarding stub takes (R518): of a tenant and generation that moved away. -/
def Device.toStub (d : Device) (m : Msg) (f : Device → Device) : Device :=
  match d.dom.stubs.find? fun s => s.tenant == m.tenant && s.pgen == m.pgen with
  | some s => if m.tenant = 0 || m.viaStub then f d else d.forward m s.target
  | none =>
    match List.find? (fun e => (d.vf e.1).tenant == m.tenant && (d.vf e.1).pgen == m.pgen) d.dom.frozen with
    | some (v, fr) =>
      if m.tenant = 0 || m.viaStub then f d
      else if 4096 ≤ fr.queue.length then d.fault 204
      else d.mapDom fun x => { x with frozen := x.frozen.insert v { fr with queue := fr.queue ++ [m] } }
    | none => f d

/-- The module an ACK speaks for: its sender, or the REF's sender inside a forwarded one (the stub keeps SRC). -/
def Device.ackIn (d : Device) (m : Msg) : Device := d.toStub m fun d => d.ackFrom m m.src

/-- A NAK: the record is sent to the next member of its list (R489). EPOCH_STALE is met by a resend under the present epoch, and by
the next member when the answer repeats (R490). -/
def Device.nakIn (d : Device) (m : Msg) : Device :=
  d.toStub m fun d => m.idents.foldl (fun d i =>
    match d.store.commits.find? fun c => c.named i with
    | some c =>
      if !c.targets.contains m.src || c.acks.contains m.src then d
      else if m.status = 0x21 ∧ !c.stale.contains m.src then
        (d.setCommit { c with stale := c.stale ++ [m.src] }).replicateTo c.rcd m.src
      else
        let more := (d.spareTargets c).take 1
        let d1 := d.setCommit { c with targets := c.targets ++ more }
        let d2 := more.foldl (fun d k => d.replicateTo c.rcd k) d1
        if more.isEmpty then d2 else (d2.countEvent none 0x23 1).fault 196
    | none => d) d

/-- READ: records, or ABSENT marks (STATUS 0x30 where none of them is held). -/
def Device.readIn (d : Device) (m : Msg) : Device :=
  let have_ := if d.store.quarantined then [] else m.idents.filterMap fun i => (currentRec d.records i.1).map Rec.wire
  d.send { m.reply 0x19 (if have_.isEmpty then 0x30 else 0) with
    recs := have_, idents := m.idents.filter fun i => !have_.any fun r => r.ident == i.1 }

/-- What a run's record unwraps to, of records that peers sent: they stand in place of this store's copies of their identities. -/
def Device.unwrapFrom (d : Device) (recs : List Rec) (run : KeyRun) : Option KeyRun :=
  let others := d.store.written.filter fun w => !recs.any fun r => r.ident == w.1.ident
  ((d.mapStore fun s => { s with written := others ++ recs.map fun x => (x, 0) }).unwrapRun run).map fun y => { y with fetched := recs }

/-- A peer holds the key ID of a KEY_IMPORT that executes. -/
def Device.importFound (d : Device) (k : Nat) : Device :=
  d.mapCust fun x => { x with ceremony := x.ceremony.map fun c => { c with found := c.found || importRead c.id == k } }

/-- A run is filled from records that peers sent, or an item's lookup ends, or a ceremony's; the records are kept as a copy-forward
(R437). -/
def Device.fillFromPeers (d : Device) (r : PeerRead) : Device :=
  if 2 ^ 50 ≤ r.key then (d.dropRead r.key).probeFound (r.key - 2 ^ 50) r.got else
  let d1 := ((d.dropRead r.key).importFound r.key).copyForward r.got
  match d1.keys.runs.find? r.key with
  | none => d1
  | some run =>
    if run.st = .valid then d1
    else if r.got.any fun x => x.ident.typ == tKey && x.state != 1 then d1.fillAbsent r.key run
    else if r.got.any fun x => x.ident.typ == tVault && x.state == 3 then d1.fillAbsent r.key run
    else match d1.unwrapFrom r.got run with
      | some filled => d1.fillRun r.key filled
      | none => d1.fillBad r.key run

/-- READ_REPLY in a read that this module runs. -/
def Device.readAnswer (m : Msg) (d : Device) (r : PeerRead) : Device :=
  let same := fun (i : Ident) => i.typ == r.ident.typ && i.tenant == r.ident.tenant && i.id == r.ident.id
    && i.version == r.ident.version
  let fresh := (m.recs.map d.unwire).filter fun x => same x.ident && !r.got.any fun g => g.ident.frag == x.ident.frag
  if !fresh.isEmpty then
    let first := fresh.filter fun x => x.ident.frag == 0
    let got := if r.got.isEmpty then first ++ fresh.filter (fun x => x.ident.frag != 0) else r.got ++ fresh
    let y := { r with got := got }
    if y.missing.isEmpty then (d.setRead y).fillFromPeers y else d.readNext { y with next := m.src :: r.next }
  else if m.status = 0x30 && (m.idents.any fun i => same i.1) then
    let y := { r with absent := (r.absent ++ [m.src]).dedup }
    if r.asked = some m.src then d.readNext y else d.setRead y
  else d

/-- A forwarded READ_REPLY fills the key cache for its tenant (R520). -/
def Device.readForwarded (d : Device) (w : Rec) : Device :=
  let r := d.unwire w
  let vault := r.ident.typ == tVault
  if r.fragCount ≠ 1 || !r.replicated || (d.findRun r.ident.tenant vault r.ident.id r.ident.version).isSome then d else
  match d.makeRoom 1 128 with
  | (_, none) => d
  | (d1, some k) =>
    let run : KeyRun :=
      { len := 1, st := .filling, tenant := r.ident.tenant, vault := vault, id := r.ident.id, version := r.ident.version
        key := [], attr := KeyAttr.decode [], used := d1.keys.useStamp, refetch := false, reading := false }
    match d1.unwrapFrom [r] run with
    | some filled => (d1.stamp).setRun k filled
    | none => d

def Device.readReplyIn (d : Device) (m : Msg) : Device :=
  if m.viaStub then m.recs.foldl (fun d r => d.readForwarded r) d
  else d.toStub m fun d => (d.dom.reads.filter fun r => r.members.contains m.src).foldl (Device.readAnswer m) d

/-- HOLD_QUERY: marks say, in order, which of the records are held. -/
def Device.holdQueryIn (d : Device) (m : Msg) : Device :=
  d.send { m.reply 0x1B 0 with
    idents := m.idents, marks := m.idents.map fun i => boolNat (d.holdsRecord i.1 i.2.1 i.2.2) }

/-- HOLD_REPLY. -/
def Device.holdReplyIn (d : Device) (m : Msg) : Device :=
  if m.status ≠ 0 then d else
  (m.idents.zip m.marks).foldl (fun d e =>
    let i := e.1
    let note := fun (a : HoldAsk) =>
      if a.isOf i.1 i.2.1 i.2.2 && a.asked.contains m.src && !a.holds.contains m.src && !a.lacks.contains m.src then
        (if e.2 = 1 then { a with holds := a.holds ++ [m.src] } else { a with lacks := a.lacks ++ [m.src] })
      else a
    let d1 := d.mapDom fun x => { x with asks := x.asks.map note }
    d1.settleAsks fun a => a.isOf i.1 i.2.1 i.2.2) d

/-- ORIGIN_QUERY: marks are the origin and the floor, where one is given. -/
def Device.originQueryIn (d : Device) (m : Msg) : Device :=
  let o := m.marks.getD 0 0
  let floor := match m.marks[1]? with | some f => f | none => 0
  let rs := (d.records.filter fun r => r.replicated && r.origin == o).dedup
  let above := if m.marks.length < 2 then rs else rs.filter fun r => decide (floor < r.seq)
  d.send { m.reply 0x1D 0 with
    marks := [o, rs.foldl (fun b r => max b r.seq) 0], idents := above.map fun r => (r.ident, r.origin, r.seq) }

/-- ORIGIN_REPLY: the origin's next SEQ rises, and records of its own that it does not hold are settled (R455, R456). -/
def Device.originReplyIn (d : Device) (m : Msg) : Device :=
  if m.status ≠ 0 || m.marks.getD 0 0 ≠ d.dom.view.moduleId || !d.dom.originAsked.contains m.src then d else
  let d1 := (d.mapStore fun s => { s with nextSeq := max s.nextSeq (m.marks.getD 1 0) }).mapDom fun x => { x with
    originAsked := x.originAsked.filter (· != m.src) }
  let d2 := if d1.dom.fresh && d1.dom.originAsked.isEmpty then
      let e := d1.mapDom fun x => { x with fresh := false }
      e.store.commits.foldl (fun d c => d.pursue c.rcd.seq false) e
    else d1
  if d.dom.fresh then d2 else
  m.idents.foldl (fun d i =>
    if d.holdsRecord i.1 i.2.1 i.2.2 || d.dom.asks.any fun a => a.isOf i.1 i.2.1 i.2.2 then d
    else
      let r : Rec := { ident := i.1, state := 1, fragCount := 1, pgen := 0, epoch := 0, origin := i.2.1, seq := i.2.2
                       body := zeros 80 }
      d.askHold r .own ((d.placement i.1).filter (· != d.dom.view.moduleId))) d2

/-! ## Changes of the epoch (R493 to R502) -/

/-- A change applied to a membership. -/
def Next.apply (n : Next) : Change → Next
  | .add m digest => { n with members := (n.members ++ [m]).dedup.insertionSort (· ≤ ·), ids := n.ids.insert m digest }
  | .remove m => { n with members := n.members.filter (· != m), ids := n.ids.erase m }
  | .setK k => { n with k := k }
  | .newRoot _ => n

/-- The epoch that batched changes make. -/
def View.next (w : View) (changes : List Change) : Next :=
  let base := if w.rolledBack ≠ 0 ∧ epochNewer w.rolledBack w.epoch then w.rolledBack else w.epoch
  changes.foldl Next.apply { epoch := epochSucc base, k := w.k, members := w.members, ids := w.ids, changes := changes }

/-- A strict majority of the members of the present view. -/
def View.majority (w : View) (answers : List Nat) : Bool :=
  decide (w.members.length < 2 * (answers.filter fun m => w.members.contains m).length)

/-- The PREPARED record is written, with the module's answer. -/
def Device.writePrepared (d : Device) (p : Prepared) : Device :=
  (d.mapView fun w => { w with prepared := some p }).releaseRecords none
    (metaRecords 0x06 (preparedId p.epoch (boolNat p.refused)) 1 (beBytes 4 p.epoch ++ [if p.refused then 2 else 1]))

/-- The VIEW record is written; the module adopts the epoch when its local write has passed. -/
def Device.writeView (d : Device) (n : Next) (tell : Bool) : Device :=
  (d.mapView fun w => { w with adopting := some (n, tell) }).releaseRecords none (viewRecords n)

/-- An answer for a prepared epoch is counted; a strict majority completes it, or, for a recovering coordinator, rolls it
back (R495, R500). -/
def Device.countVote (d : Device) (n : Next) (src : Nat) (ack : Bool) : Device :=
  let w := d.dom.view
  if !epochNewer n.epoch w.epoch then d else
  let old := (w.votes.find? fun v => v.next.epoch == n.epoch).getD { next := n, acks := [], refusals := [] }
  let v := if ack then { old with acks := (old.acks ++ [src]).dedup, next := n }
    else { old with refusals := (old.refusals ++ [src]).dedup }
  let d1 := d.mapView fun w => { w with votes := (w.votes.filter fun x => x.next.epoch != n.epoch) ++ [v] }
  if w.majority v.acks && w.adopting.isNone then d1.writeView v.next true else d1

/-- A rolled-back epoch: its PREPARED record is discarded (R500, R501). Changes this module had batched wait again. -/
def Device.rollBack (d : Device) (p : Nat) : Device :=
  match d.dom.view.prepared with
  | none => d
  | some x =>
    if x.epoch ≠ p then d else
    (d.domStep fun y => { y with view := { y.view with
      prepared := none, rolledBack := p, votes := y.view.votes.filter fun v => v.next.epoch != p
      requests := (match x.mine, x.next with | true, some n => n.changes | _, _ => []) ++ y.view.requests } }).fault 198

/-- PREPARE_CHANGE: the coordinator batches the requested changes, not before 50 ms after the last change (R493). -/
def Device.prepareChange (d : Device) : Device :=
  let w := d.dom.view
  if w.role ≠ 2 || w.joining || w.requests.isEmpty || w.prepared.isSome || w.adopting.isSome
      || decide (d.cycle < w.lastChange + msCycles 50) then d else
  let n := w.next w.requests
  (d.mapView fun w => { w with requests := [] }).writePrepared
    { epoch := n.epoch, next := some n, refused := false, mine := true, recovering := false, asker := none, since := d.cycle }

def execPrepareChange (s : State) : Host.Outcome State Fault Refusal := s.done s.dev.prepareChange

/-- PREPARE_ACK of this module for a prepared epoch. -/
def Device.sendAck (d : Device) (n : Next) : Device := d.send { Msg.group 0x31 with marks := [n.epoch], next := some n }

/-- PREPARE: answered once; a repeated PREPARE is acknowledged again. -/
def Device.prepareIn (d : Device) (m : Msg) : Device :=
  match m.next with
  | none => d
  | some n =>
    let w := d.dom.view
    if !epochNewer n.epoch w.epoch then d else
    match w.prepared with
    | some x =>
      if x.epoch = n.epoch then (if x.refused then d else d.sendAck n)
      else if epochNewer n.epoch x.epoch then d.writePrepared
        { epoch := n.epoch, next := some n, refused := false, mine := false, recovering := false, asker := none, since := d.cycle }
      else d
    | none => d.writePrepared
        { epoch := n.epoch, next := some n, refused := false, mine := false, recovering := false, asker := none, since := d.cycle }

/-- PREPARE_RESEND_TIMER: to members whose acknowledgement is missing. -/
def Device.prepareResend (d : Device) : Device :=
  let w := d.dom.view
  match w.prepared with
  | some x => match x.mine, x.next with
    | true, some n =>
      let got := match w.votes.find? fun v => v.next.epoch == n.epoch with | some v => v.acks | none => []
      (w.others.filter fun m => !got.contains m).foldl (fun d m => d.send { Msg.to 0x30 m with
        marks := [n.epoch], next := some n }) d
    | _, _ => d
  | none => d

def execPrepareResendTimer (s : State) : Host.Outcome State Fault Refusal := s.done s.dev.prepareResend

def Device.prepareAckIn (d : Device) (m : Msg) : Device :=
  match m.next with | some n => d.countVote n m.src true | none => d

/-- COMMIT. -/
def Device.commitIn (d : Device) (m : Msg) : Device :=
  match m.next with
  | some n => if epochNewer n.epoch d.dom.view.epoch && d.dom.view.adopting.isNone then d.writeView n false else d
  | none => d

/-- RECOVERY_TAKEOVER (R498). -/
def Device.takeover (d : Device) : Device :=
  let w := d.dom.view
  match w.prepared, w.members.head? with
  | some x, some coord =>
    if x.refused || x.mine || x.recovering || w.adopting.isSome || !d.dom.unreach.mem coord
        || d.reached.any fun m => decide (m < w.moduleId) then d
    else ((d.mapView fun w => { w with prepared := some { x with recovering := true } }).fault 200).send
      { Msg.group 0x33 with marks := [x.epoch] }
  | _, _ => d

def execRecoveryTakeover (s : State) : Host.Outcome State Fault Refusal := s.done s.dev.takeover

/-- RECOVER_RESEND_TIMER. -/
def Device.recoverResend (d : Device) : Device :=
  match d.dom.view.prepared with
  | some x => if x.recovering then d.send { Msg.group 0x33 with marks := [x.epoch] } else d
  | none => d

def execRecoverResendTimer (s : State) : Host.Outcome State Fault Refusal := s.done s.dev.recoverResend

/-- The answer to RECOVER: marks are the epoch and 1 for an acknowledgement, 0 for a refusal. -/
def Device.recoverAnswer (d : Device) (dst : Nat) (x : Prepared) : Device :=
  d.send { Msg.to 0x34 dst with marks := [x.epoch, boolNat (!x.refused)], next := x.next }

/-- RECOVER (R499). -/
def Device.recoverIn (d : Device) (m : Msg) : Device :=
  let p := m.marks.getD 0 0
  if !epochNewer p d.dom.view.epoch then d else
  match d.dom.view.prepared with
  | some x =>
    if x.epoch = p then d.recoverAnswer m.src x
    else if epochNewer p x.epoch then d.writePrepared
      { epoch := p, next := none, refused := true, mine := false, recovering := false, asker := some m.src, since := d.cycle }
    else d
  | none => d.writePrepared
      { epoch := p, next := none, refused := true, mine := false, recovering := false, asker := some m.src, since := d.cycle }

/-- RECOVER_REPLY (R500). -/
def Device.recoverReplyIn (d : Device) (m : Msg) : Device :=
  let p := m.marks.getD 0 0
  match d.dom.view.prepared with
  | some x =>
    match x.next with
    | some n =>
      if x.epoch ≠ p then d
      else
        let d1 := d.countVote n m.src (m.marks.getD 1 0 == 1)
        let refusals := match d1.dom.view.votes.find? fun v => v.next.epoch == p with | some v => v.refusals | none => []
        if x.recovering && d1.dom.view.adopting.isNone && d1.dom.view.majority refusals then
          (d1.send { Msg.group 0x35 with marks := [p] }).rollBack p
        else d1
    | none => d
  | none => d

def Device.rollbackIn (d : Device) (m : Msg) : Device := d.rollBack (m.marks.getD 0 0)

/-! ## HELLO, HEARTBEAT, REPORT (R480 to R482) -/

/-- A change is requested of the coordinator. How a member's request reaches it the spec does not say: it is kept (DESIGN
CHOICE, log entry 160). -/
def Device.request (d : Device) (c : Change) : Device :=
  if d.dom.view.requests.contains c then d else d.mapView fun w => { w with requests := w.requests ++ [c] }

/-- HELLO: the coordinator has the module re-added, unless another identity holds its ID. -/
def Device.helloIn (d : Device) (m : Msg) : Device :=
  let w := d.dom.view
  let digest := m.payload.drop 16
  if w.role ≠ 2 || m.payload.take 16 != w.domainId then d
  else match w.ids.find? m.src with
    | some x => if x = digest ∨ !w.members.contains m.src then d.request (.add m.src digest) else d
    | none => d.request (.add m.src digest)

/-- HELLO_TIMER. -/
def Device.helloTimer (d : Device) : Device :=
  let w := d.dom.view
  if w.inDomain && w.joining && (d.keys.cls == 2 || d.keys.cls == 3) then
    d.send { Msg.group 0x01 with payload := w.domainId ++ padTo 32 Config.identityDigest, marks := [w.epoch] }
  else d

def execHelloTimer (s : State) : Host.Outcome State Fault Refusal := s.done s.dev.helloTimer

/-- HEARTBEAT_TIMER. -/
def Device.heartbeatTimer (d : Device) : Device :=
  if d.dom.view.inDomain then d.dom.view.neighbours.foldl (fun d m => d.send (Msg.to 0x02 m)) d else d

def execHeartbeatTimer (s : State) : Host.Outcome State Fault Refusal := s.done s.dev.heartbeatTimer

/-- REPORT. -/
def Device.reportIn (d : Device) (m : Msg) : Device :=
  d.mapDom fun x => { x with reports := (x.reports.filter fun r => r.1 != m.src) ++ m.marks.map fun k => (m.src, k) }

/-- REPORT_TIMER: while any mark lasts, up to 512 IDs to the coordinator. -/
def Device.reportTimer (d : Device) : Device :=
  match d.dom.view.members.head? with
  | some c =>
    if d.dom.unreach.isEmpty || c == d.dom.view.moduleId || !d.dom.view.inDomain then d
    else d.send { Msg.to 0x03 c with marks := (d.dom.unreach.map Prod.fst).take 512 }
  | none => d

def execReportTimer (s : State) : Host.Outcome State Fault Refusal := s.done s.dev.reportTimer

def execMemberUnreachable (member : Nat) (s : State) : Host.Outcome State Fault Refusal :=
  s.done (if s.dev.dom.view.inDomain then s.dev.markMember member else s.dev)

/-- MEMBER_LOST (R481): the coordinator marks the member, and another member reports it. -/
def Device.memberLost (d : Device) (m : Nat) : Device :=
  if d.dom.view.role = 2 ∧ d.dom.unreach.mem m ∧ (d.dom.reports.any fun r => r.2 == m && r.1 != m) then d.request (.remove m) else d

def execMemberLost (member : Nat) (s : State) : Host.Outcome State Fault Refusal := s.done (s.dev.memberLost member)

/-- OTHER_PORT_RESEND. -/
def Device.otherPort (d : Device) (seq : Nat) : Device :=
  match d.dom.waiting.find? fun w => w.msg.seq == seq with
  | none => d
  | some w =>
    let p := 1 - w.port
    if w.resent || !d.dom.portUp.getD p false then d
    else ((d.mapDom fun x => { x with waiting := x.waiting.map fun y =>
        if y.msg.seq = seq then { y with resent := true } else y }).emitFrame p w.msg).countEvent none 0x21 1

def execOtherPortResend (seq : Nat) (s : State) : Host.Outcome State Fault Refusal := s.done (s.dev.otherPort seq)

/-! ## Ports (R467, R468, R522) -/

/-- FABRIC_LINK_LOSS. -/
def Device.linkLoss (d : Device) (p : Nat) : Device :=
  if d.dom.portUp.getD p false then
    ((d.domStep fun x => { x with portUp := x.portUp.set p false, portSecured := x.portSecured.set p false }).fault 192).raiseInt
      .dom 0 3
  else d

def execFabricLinkLoss (port : Fin 2) (s : State) : Host.Outcome State Fault Refusal := s.done (s.dev.linkLoss port)

/-- FABRIC_LINK_UP. -/
def Device.linkUp (d : Device) (p : Nat) : Device :=
  if d.dom.portUp.getD p false then d
  else (d.domStep fun x => { x with portUp := x.portUp.set p true }).raiseInt .dom 0 3

def execFabricLinkUp (port : Fin 2) (s : State) : Host.Outcome State Fault Refusal := s.done (s.dev.linkUp port)

/-- NO_FRAME_VERIFIED_1MS. -/
def Device.unsecured (d : Device) (p : Nat) : Device :=
  if d.dom.portSecured.getD p false then
    (d.mapDom fun x => { x with portSecured := x.portSecured.set p false }).raiseInt .dom 0 3
  else d

def execNoFrameVerified1ms (port : Fin 2) (s : State) : Host.Outcome State Fault Refusal := s.done (s.dev.unsecured port)

def execFrameRejected (port : Fin 2) (s : State) : Host.Outcome State Fault Refusal :=
  s.done (if s.dev.dom.portUp.getD port false then s.dev.fault 193 else s.dev)

def execMalformedMessage (port : Fin 2) (s : State) : Host.Outcome State Fault Refusal :=
  s.done (if s.dev.dom.portUp.getD port false then s.dev.fault 194 else s.dev)

/-! ## Messages by type -/

/-- CLAIM and its reply, BLOB_ACK: the moves of tenants (R512 to R518) are given their own meanings; a held one is served by
the function that a caller passes. -/
def Device.process (moves : Device → Msg → Device) (d : Device) (m : Msg) : Device :=
  if m.typ = 0x03 then d.reportIn m else if m.typ = 0x10 then d.replicateIn m else if m.typ = 0x11 then d.ackIn m
  else if m.typ = 0x12 then d.nakIn m else if m.typ = 0x18 then d.readIn m else if m.typ = 0x19 then d.readReplyIn m
  else if m.typ = 0x1A then d.holdQueryIn m else if m.typ = 0x1B then d.holdReplyIn m
  else if m.typ = 0x1C then d.originQueryIn m else if m.typ = 0x1D then d.originReplyIn m
  else if m.typ = 0x20 then d.resyncDigest m else moves d m

/-- A message of a type is received: a message of another type is not this row's. -/
def Device.message (d : Device) (p t : Nat) (m : Msg) (f : Device → Device) : Device :=
  if m.typ = t then d.receive p m f else d

def execHello (port : Fin 2) (msg : Msg) (s : State) : Host.Outcome State Fault Refusal :=
  s.done (s.dev.message port 0x01 msg fun d => d.helloIn msg)
def execHeartbeat (port : Fin 2) (msg : Msg) (s : State) : Host.Outcome State Fault Refusal :=
  s.done (s.dev.message port 0x02 msg id)
def execReport (port : Fin 2) (msg : Msg) (s : State) : Host.Outcome State Fault Refusal :=
  s.done (s.dev.message port 0x03 msg fun d => d.reportIn msg)
def execReplicate (port : Fin 2) (msg : Msg) (s : State) : Host.Outcome State Fault Refusal :=
  s.done (s.dev.message port 0x10 msg fun d => d.replicateIn msg)
def execAck (port : Fin 2) (msg : Msg) (s : State) : Host.Outcome State Fault Refusal :=
  s.done (s.dev.message port 0x11 msg fun d => d.ackIn msg)
def execNak (port : Fin 2) (msg : Msg) (s : State) : Host.Outcome State Fault Refusal :=
  s.done (s.dev.message port 0x12 msg fun d => d.nakIn msg)
def execRead (port : Fin 2) (msg : Msg) (s : State) : Host.Outcome State Fault Refusal :=
  s.done (s.dev.message port 0x18 msg fun d => d.readIn msg)
def execReadReply (port : Fin 2) (msg : Msg) (s : State) : Host.Outcome State Fault Refusal :=
  s.done (s.dev.message port 0x19 msg fun d => d.readReplyIn msg)
def execHoldQuery (port : Fin 2) (msg : Msg) (s : State) : Host.Outcome State Fault Refusal :=
  s.done (s.dev.message port 0x1A msg fun d => d.holdQueryIn msg)
def execHoldReply (port : Fin 2) (msg : Msg) (s : State) : Host.Outcome State Fault Refusal :=
  s.done (s.dev.message port 0x1B msg fun d => d.holdReplyIn msg)
def execOriginQuery (port : Fin 2) (msg : Msg) (s : State) : Host.Outcome State Fault Refusal :=
  s.done (s.dev.message port 0x1C msg fun d => d.originQueryIn msg)
def execOriginReply (port : Fin 2) (msg : Msg) (s : State) : Host.Outcome State Fault Refusal :=
  s.done (s.dev.message port 0x1D msg fun d => d.originReplyIn msg)
def execResyncDigest (port : Fin 2) (msg : Msg) (s : State) : Host.Outcome State Fault Refusal :=
  s.done (s.dev.message port 0x20 msg fun d => d.resyncDigest msg)
def execPrepare (port : Fin 2) (msg : Msg) (s : State) : Host.Outcome State Fault Refusal :=
  s.done (s.dev.message port 0x30 msg fun d => d.prepareIn msg)
def execPrepareAck (port : Fin 2) (msg : Msg) (s : State) : Host.Outcome State Fault Refusal :=
  s.done (s.dev.message port 0x31 msg fun d => d.prepareAckIn msg)
def execCommitMessage (port : Fin 2) (msg : Msg) (s : State) : Host.Outcome State Fault Refusal :=
  s.done (s.dev.message port 0x32 msg fun d => d.commitIn msg)
def execRecover (port : Fin 2) (msg : Msg) (s : State) : Host.Outcome State Fault Refusal :=
  s.done (s.dev.message port 0x33 msg fun d => d.recoverIn msg)
def execRecoverReply (port : Fin 2) (msg : Msg) (s : State) : Host.Outcome State Fault Refusal :=
  s.done (s.dev.message port 0x34 msg fun d => d.recoverReplyIn msg)
def execRollback (port : Fin 2) (msg : Msg) (s : State) : Host.Outcome State Fault Refusal :=
  s.done (s.dev.message port 0x35 msg fun d => d.rollbackIn msg)

/-- GRACED_HOLD_EXPIRY: of a message or a BLOB message. -/
def Device.gracedExpiry (d : Device) (src seq : Nat) : Device :=
  let hit := fun (m : Msg) => m.src == src && m.seq == seq
  let bhit := fun (b : Blob) => b.src == src && b.seq == seq
  let ms := d.dom.held.filter hit
  let bs := d.dom.heldBlobs.filter bhit
  let d1 := d.mapDom fun x => { x with
    held := x.held.filter fun m => !hit m, heldBlobs := x.heldBlobs.filter fun b => !bhit b }
  let d2 := ms.foldl (fun d m => d.answerEpoch m 0x20) d1
  bs.foldl (fun d b => d.answerEpoch { Msg.blank with typ := 0x40, src := b.src, seq := b.seq } 0x20) d2

def execGracedHoldExpiry (src seq : Nat) (s : State) : Host.Outcome State Fault Refusal := s.done (s.dev.gracedExpiry src seq)

/-! ## Adoption (R496, R497, R501, R503) -/

/-- A new root at adoption: REWRAP is written, and every KEY record under the old root is wrapped again (09_key_hierarchy.md
R402, 13_modes_custody.md R590). -/
def Device.rewrapRecords (d : Device) : List Rec :=
  let old := d.keys.bank.prevEpoch
  (d.currentReplicated.filter fun r => decide (r.epoch = old) && (r.ident.typ == tKey
      || (r.ident.typ == tVault && decide (leNat (slice r.body 0 8) % 256 = 1))))

def Device.adoptRoot (d : Device) (root : Bytes) (epoch : Nat) : Device :=
  let d1 := (d.bankUpdate fun b => { b with
    st := .rewrap, rootEpoch := epoch, root := root, prevEpoch := b.rootEpoch, prevRoot := b.root }).setRootClass 3
  let rs := d1.rewrapRecords
  let op : KeyOp := { rewrap := true, tenant := 0, todo := rs.map fun r => (r.ident.id, r.ident.version), skipped := 0 }
  let d2 := (d1.mapKeys fun k => { k with op := some op }).progStart (Page.key.base 0) 0x0002 rs.length
  d2.releaseRecords none (rs.map fun r => { r with epoch := epoch })

/-- The root that a change carries, opened under the present root's ROOT-NEXT key. -/
def Device.openRoot (d : Device) (blob : Bytes) : Bytes :=
  Config.gcmOpen (serviceKey d.keys.bank.root d.keys.bank.rootEpoch 0 "ROOT-NEXT") (zeros 12) [] (blob.take 32)

/-- An epoch is adopted: DOM_EPOCH, the grace of the superseded one, held work once more, and resynchronisation. -/
def Device.adoptEpoch (moves : Device → Msg → Device) (blobs : Device → Blob → Device) (d : Device) (n : Next) : Device :=
  let w := d.dom.view
  let gone := w.members.filter fun m => !n.members.contains m
  let changed := n.members != w.members || n.k != w.k
  let d1 := (d.domStep fun x => { x with
    unreach := x.unreach.filter fun e => n.members.contains e.1
    view := { x.view with
      epoch := n.epoch, members := n.members, ids := n.ids, k := n.k, grace := w.grace ++ [w.epoch], prevMembers := w.members
      prepared := match w.prepared with
        | some p => if epochNewer p.epoch n.epoch then some p else none
        | none => none
      votes := w.votes.filter fun v => epochNewer v.next.epoch n.epoch
      adopting := none, joining := x.view.joining && !n.members.contains w.moduleId, lastChange := d.cycle
      requests := w.requests.filter fun c => !n.changes.contains c } }).raiseInt .dom 0 0
  let d2 := gone.foldl (fun d _ => d.fault 206) d1
  let d3 := (n.changes.foldl (fun d c => match c with
    | .newRoot blob => d.adoptRoot (d.openRoot blob) n.epoch
    | _ => d) d2).epochChanged
  -- records of members that left or came back are settled (R456)
  let back := n.changes.filterMap fun c => match c with | .add m _ => some m | .remove m => some m | _ => none
  let d4 := (d3.currentReplicated.filter fun r => back.contains r.origin && r.origin != w.moduleId).foldl
    (fun d r => d.askHold r .origin ((d.placement r.ident).filter (· != w.moduleId))) d3
  let ready := d4.dom.held.filter fun m => !epochNewer m.epoch n.epoch
  let bready := d4.dom.heldBlobs.filter fun b => !epochNewer b.epoch n.epoch
  let d5 := d4.mapDom fun x => { x with
    held := x.held.filter fun m => epochNewer m.epoch n.epoch, heldBlobs := x.heldBlobs.filter fun b => epochNewer b.epoch n.epoch }
  let d6 := ready.foldl (fun d m => d.graced m fun d => d.process moves m) d5
  let d7 := bready.foldl blobs d6
  let d8 := d7.store.commits.foldl (fun d c => d.pursue c.rcd.seq false) d7
  let d9 := if d8.dom.fresh && n.members.contains w.moduleId && d8.dom.originAsked.isEmpty then
      (d8.mapDom fun x => { x with originAsked := d8.dom.view.others }).send { Msg.group 0x1C with marks := [w.moduleId] }
    else d8
  -- a module that leaves pushes every record to its placement under the new view (R483)
  if d9.dom.leaving && !n.members.contains w.moduleId then
    d9.currentReplicated.foldl (fun d r => ((placementOf w.domainId n.members r.ident).take n.k).foldl
      (fun d m => d.replicateTo r m) d) d9
  else if changed && n.members.contains w.moduleId then d9.startResync false else d9

/-- EPOCH_GRACE_END: the 100 ms of the epoch that was superseded first end (R475, R496). -/
def Device.graceEnd (d : Device) : Device := (d.mapView fun w => { w with grace := w.grace.drop 1 }).epochChanged

def execEpochGraceEnd (s : State) : Host.Outcome State Fault Refusal :=
  s.done (if s.dev.dom.view.grace.isEmpty then s.dev else s.dev.graceEnd)

/-! ## Commands of the DOM page (R483, R521 to R523) -/

/-- APPLY_K: the coordinator is asked; the command ends with its asking (DEDUCED, log entry 23). -/
def Device.applyK (d : Device) : Device :=
  d.domCommand 0 fun d =>
    let k := max 1 (d.field (domAt Off.domCfg) 2 0)
    let d1 := d.commandStart (domAt Off.domCmd) 0
    ((if d.dom.view.inDomain then d1.request (.setK k) else d1).commandEnd (domAt Off.domCmd) 0 8).raiseInt .dom 0 4

def execApplyK (s : State) : Host.Outcome State Fault Refusal := s.done s.dev.applyK

/-- LEAVE: only in MAINTENANCE. -/
def Device.leave (d : Device) : Device :=
  d.domCommand 1 fun d =>
    if d.cust.mode ≠ .maintenance then d.writeLost (domAt Off.domCmd)
    else if !d.dom.view.inDomain then
      ((d.commandStart (domAt Off.domCmd) 1).commandEnd (domAt Off.domCmd) 1 9).raiseInt .dom 0 4
    else ((d.commandStart (domAt Off.domCmd) 1).mapDom fun x => { x with leaving := true }).request (.remove d.dom.view.moduleId)

def execLeave (s : State) : Host.Outcome State Fault Refusal := s.done s.dev.leave

/-- LEAVE_END: the push has ended; the DOMAIN record is removed and the module is STANDALONE. -/
def Device.leaveEnd (d : Device) : Device :=
  let w := d.dom.view
  if !d.dom.leaving || w.members.contains w.moduleId || d.dom.waiting.any fun x => x.msg.typ == 0x10 then d else
  let d0 := if d.dom.resync then d.endResync true else d
  let d1 := d0.releaseRecords none (metaRecords 0x04 0 2 [])
  ((d1.domStep fun x => { x with
    leaving := false, waiting := [], outq := [], held := [], heldBlobs := [], asks := [], unreach := [], resync := false,
    view := { x.view with
      inDomain := false, members := [], ids := [], k := 1, grace := [], prepared := none, votes := [], requests := []
      adopting := none } }).commandEnd (domAt Off.domCmd) 1 9).raiseInt .dom 0 4

def execLeaveEnd (s : State) : Host.Outcome State Fault Refusal := s.done s.dev.leaveEnd

/-- A soft reset of the DOM page: marks cleared, unacknowledged REPLICATEs sent again, RESYNC and LEAVE end (R521). -/
def Device.domReset (d : Device) : Device :=
  let d1 := (d.dom.unreach.map Prod.fst).foldl (fun d m => d.clearMark m) d
  let d2 := d1.store.commits.foldl (fun d c => (d.liveTargets c).foldl (fun d m => d.replicateTo c.rcd m) d) d1
  let d3 := if d2.dom.resync then d2.endResync true else d2
  if d3.dom.leaving then
    (((d3.mapDom fun x => { x with leaving := false }).mapView fun w => { w with
      requests := w.requests.filter fun c => c != .remove w.moduleId }).commandEnd (domAt Off.domCmd) 1 9).raiseInt .dom 0 4
  else d3

/-- DOM_SOFT_RESET: only in MAINTENANCE (R62, R521). -/
def execDomSoftReset (s : State) : Host.Outcome State Fault Refusal :=
  s.done (if s.dev.cust.mode = .maintenance then s.dev.softStart (Page.dom.base 0) fun d => d.domReset
    else s.dev.writeLost (domAt 8))

end Sys2Proof.Machine
end

