-- ==== Sys2Proof/Machine/Migration.lean ====
section
/-! DEFINITION. Moving a tenant: freeze, save, restore, claims and forwarding stubs; and the end of a local write, which
acknowledges, commits and adopts (11_jochevy_domain.md R506 to R524, 08_scheduler.md R362, 10_record_store.md R432). -/

namespace Sys2Proof.Machine

/-! ## Pools (12_tenancy.md R534, R535) -/

/-- Capacity of a pool: lane share, engine share, slots in units of 64. -/
def Device.poolCap (d : Device) (p : Nat) : Nat × Nat × Nat :=
  let a := Page.mbx.base 0 + Off.poolShare + 8 * p
  (d.field a 15 0, d.field a 31 16, d.field (Page.mbx.base 0 + Off.poolSlots + 8 * p) 14 0)

/-- Minima that the VFs of a pool hold, one of them left out. -/
def Device.poolUse (d : Device) (p : Nat) (but : Option Nat) : Nat × Nat × Nat :=
  let fs := d.front.vfs.filter fun e => e.2.st != .absent && e.2.pool == p && some e.1 != but
  ((fs.map fun e => e.2.minLane).sum, (fs.map fun e => e.2.minEngine).sum, (fs.map fun e => e.2.minSlots).sum)

/-- A pool covers minima beside those that its other VFs hold. -/
def Device.poolCovers (d : Device) (p : Nat) (but : Option Nat) (lane engine slots : Nat) : Bool :=
  let c := d.poolCap p
  let u := d.poolUse p but
  decide (u.1 + lane ≤ c.1 ∧ u.2.1 + engine ≤ c.2.1 ∧ u.2.2 + slots ≤ c.2.2)

/-! ## Commands (R522 to R524, 13_modes_custody.md R600) -/

def migCmd : Nat := domAt Off.domMigCmd
def Device.migVf (d : Device) : Nat := d.field (domAt Off.domMigArg) 15 4
def Device.migPeer (d : Device) : Nat := d.field (domAt Off.domMigArg) 31 16
def Device.migSlot (d : Device) : Nat := d.field (domAt Off.domMigArg) 3 0

/-- A migration command ends: its code, and the PGEN of the VF it named. -/
def Device.migEnd (d : Device) (bit v code : Nat) : Device :=
  let a := domAt Off.domMigResult
  (((d.mapDom fun x => { x with mig := none }).setResult a code).setField a 15 0 (d.vf v).pgen |>.commandEnd migCmd bit (bit + 8)).raiseInt
    .dom 0 5

/-- A command of DOM_MIG_CMD starts while none of the register runs. -/
def Device.migCommand (d : Device) (bit : Nat) (f : Device → Device) : Device :=
  d.onIdle migCmd bit 0x1F fun d => f (d.commandStart migCmd bit)

/-- The modes in which FREEZE, SAVE and RESTORE run, and those in which UNFREEZE and DISCARD do. -/
def Device.serving (d : Device) : Bool := d.cust.mode == .service || d.cust.mode == .maintenance
def Device.notLocked (d : Device) : Bool := d.cust.selected && d.cust.mode != .manufacture && d.cust.mode != .zeroized

/-! ## Freeze (R507 to R510) -/

/-- An item that a freeze completes MIGRATED: it has not started (08_scheduler.md R362). -/
def Item.freezes (x : Item) : Bool :=
  match x.stage with
  | .ingest | .bundleRead | .epochHold | .fenced | .deferred => true
  | .waiting | .ready => x.run.firstUnit.isNone
  | _ => false

/-- An engine job that waits for its rerun is parked in the store of its first pair. -/
def Item.parkRerun (x : Item) : Item := { x with stage := .parked, run := { x.run with unit := x.run.firstUnit } }

/-- The VF's unstarted items complete MIGRATED. -/
def Device.freezeItems (d : Device) (v : Nat) : Device :=
  d.sched.items.foldl (fun d e =>
    if e.2.route.vf ≠ v || e.2.work.isSome then d
    else if e.2.freezes then d.finishItem e.1 .migrated 0
    else if e.2.stage = .ready && e.2.exec = .engine then d.setItem e.1 e.2.parkRerun
    else d) d

/-- FREEZE. -/
def Device.freeze (d : Device) : Device :=
  d.migCommand 0 fun d =>
    let v := d.migVf
    if !d.serving then d.migEnd 0 v 0x0A
    else if (d.vf v).st ≠ .active then d.migEnd 0 v 1
    else if (d.vf v).pgen = 0xFFFF then d.migEnd 0 v 2
    else (d.mapDom fun x => { x with mig := some (.freeze, v, 0, 0) }).freezeItems v

def execFreeze (s : State) : Host.Outcome State Fault Refusal := s.done s.dev.freeze

/-- Descriptors whose records are uncommitted become open commits: their notices are dropped here (R446, R509). -/
def Device.takeOpens (d : Device) (v : Nat) : Device × List (Item × List Commit) :=
  let storing := d.sched.items.filter fun e => e.2.route.vf == v && e.2.stage == .storing
  let opens := storing.map fun e => (e.2, d.store.commits.filter fun c => c.item == some e.1)
  let ns := storing.map Prod.fst
  let mine := fun (c : Commit) => match c.item with | some n => ns.contains n | none => false
  let d1 := d.mapStore fun s => { s with commits := s.commits.map fun c => if mine c then { c with item := none } else c }
  (ns.foldl (fun d n => d.dropItem n) d1, opens)

/-- VF_FROZEN: its last lane item has completed and its last job has parked. Whatever still waits to be posted is
MIGRATED, without output (R508). -/
def Device.vfFrozen (d : Device) (v : Nat) : Device :=
  if d.dom.mig ≠ some (.freeze, v, 0, 0) || d.sched.items.any fun e => e.2.route.vf == v && e.2.work.isNone
      && (e.2.stage == .running || (e.2.stage == .ready && e.2.run.firstUnit.isSome && e.2.exec != .engine)) then d else
  let d1 := d.freezeItems v
  let (d2, opens) := d1.takeOpens v
  let d3 := (d2.sched.items.filter fun e => e.2.route.vf == v && e.2.stage == .finished && e.2.work.isNone).foldl
    (fun d e => d.setItem e.1 { e.2 with comp := some (.plain .migrated 0) }) d2
  ((d3.changeVf v { d3.vf v with st := .frozen }).mapDom fun x => { x with
    frozen := x.frozen.insert v { claimed := false, blob := none, opens := opens, queue := [] } }).migEnd 0 v 0

def execVfFrozen (vf : Fin 4096) (s : State) : Host.Outcome State Fault Refusal := s.done (s.dev.vfFrozen vf)

/-! ## Save (R512 to R514) -/

/-- Registers of a page by their offsets, those that hold their reset values left out. -/
def Device.pageRegs (d : Device) (base lo hi : Nat) : List (Nat × Nat) :=
  (d.pages.regs.filter fun e => decide (base + lo ≤ e.1 ∧ e.1 < base + hi)).map fun e => (e.1 - base, e.2.toNat)

/-- The body of a blob: at least one block of 16 bytes and at most 64 MiB (R513). -/
def Blob.body (b : Blob) : Bytes :=
  let t := Blob.layout { b with tagOk := true, nonce := [], sealed := [], tag := [] }
  padTo (16 * max 1 (min 4194304 ((t.length + 15) / 16))) t

/-- Header bytes 0x00 to 0x6F (R513). -/
def Blob.header (b : Blob) (len : Nat) : Bytes :=
  padTo 112 ([0x4A, 0x56, 0x46, 0x42] ++ leBytes 2 1 ++ leBytes 2 0x80 ++ padTo 16 b.domainId ++ leBytes 4 b.epoch ++ leBytes 4 b.rootEpoch
    ++ leBytes 2 b.src ++ leBytes 2 b.dst ++ leBytes 2 b.srcVf ++ leBytes 2 b.pgenOld ++ leBytes 2 (b.pgenOld + 1)
    ++ leBytes 2 b.parked.length ++ leBytes 4 (b.opens.map fun o => o.2.length).sum ++ leBytes 4 b.vf.tenant ++ leBytes 4 len
    ++ padTo 12 b.nonce)

/-- The key of a blob (R514). -/
def Bank.blobKey (k : Bank) (b : Blob) : Bytes :=
  kdf (k.rootOf b.rootEpoch) (contextLabel 3 0 3 0 0 (b.src * 65536 + b.dst) (b.pgenOld + 1) b.rootEpoch (ascii "VF-BLOB")) 32

/-- A blob sealed with a nonce (R514). -/
def Bank.sealBlob (k : Bank) (nonce : Bytes) (b : Blob) : Blob :=
  let b' := { b with rootEpoch := k.rootEpoch, nonce := nonce }
  let t := b'.body
  let h := b'.header t.length
  { b' with sealed := Config.gcmSeal (k.blobKey b') nonce h t, tag := Config.gcmTag (k.blobKey b') nonce h t }

/-- The tag of a blob that stands in a slot verifies: over its header and over the body that its ciphertext opens to. -/
def Bank.blobOpens (k : Bank) (b : Blob) : Bool :=
  let h := b.header b.sealed.length
  let t := Config.gcmOpen (k.blobKey b) b.nonce h b.sealed
  b.tagOk && t == b.body && Config.gcmTag (k.blobKey b) b.nonce h t == b.tag

/-- The blob of a frozen VF for a target. -/
def Device.makeBlob (d : Device) (v dst : Nat) (opens : List (Item × List Commit)) : Blob :=
  let w := d.dom.view
  let f := d.vf v
  let parked := (d.sched.items.filter fun e => e.2.route.vf == v && e.2.stage == .parked).map Prod.snd
  { domainId := w.domainId, epoch := w.epoch, src := w.moduleId, dst := dst, srcVf := v, pgenOld := f.pgen, vf := f
    qpClasses := (List.range 64).filterMap fun q => if (d.qp v q).enabled then some (d.field (qpCfg v q) 29 28) else none
    limits := d.pageRegs (Page.vfm.base v) Off.vfmCeil (Off.vfmCntGrant + 4)
    counters := d.pageRegs (Page.vcnt.base v) 0x40 0x1000
    ring := d.rings.find? v, parked := parked
    -- the open commits as they stand at SAVE: those that have committed since the freeze hold k copies (R519)
    opens := opens.map fun o => (o.1, o.2.map fun c => (d.commitOf c.rcd.seq).getD
      { c with localDone := true, acks := c.targets })
    tagOk := true, seq := d.dom.msgSeq + 1 }

/-- SAVE: the blob is sealed, with a nonce from the RNG, and sent. -/
def Device.save (d : Device) : Device :=
  d.migCommand 1 fun d =>
    let v := d.migVf
    let peer := d.migPeer
    if !d.serving then d.migEnd 1 v 0x0A
    else match d.dom.frozen.find? v with
      | none => d.migEnd 1 v 1
      | some fr =>
        if (d.vf v).st ≠ .frozen then d.migEnd 1 v 1
        else if !d.reached.contains peer then d.migEnd 1 v 3
        else
          let b := d.keys.bank.sealBlob (d.random 12) (d.makeBlob v peer fr.opens)
          let len := b.sealed.length
          let msgs := (128 + len + 8911) / 8912
          let d1 := (d.drawn.mapDom fun x => { x with
            frozen := x.frozen.insert v { fr with blob := some b }, mig := some (.save, v, peer, 0)
            msgSeq := x.msgSeq + msgs }).progStart (Page.vfm.base v) 0x0005 len
          ((d1.progPos (Page.vfm.base v) len).emit (.blob peer b)).countEvent none 0x21 msgs

def execSave (s : State) : Host.Outcome State Fault Refusal := s.done s.dev.save

/-- A blob is placed in the lowest free of the 16 slots and answered; marks say whether one was free. -/
def Device.placeBlob (d : Device) (b : Blob) : Device :=
  let m : Msg := { Msg.blank with typ := 0x40, src := b.src, seq := b.seq }
  match (List.range 16).find? fun k => !d.dom.blobs.has k with
  | some k => ((d.mapDom fun x => { x with blobs := x.blobs.insert k b }).raiseInt .dom 0 6).send { m.reply 0x41 0 with marks := [1] }
  | none => d.send { m.reply 0x41 0 with marks := [0] }

/-- The epoch checks of a blob (R475). -/
def Device.gracedBlob (d : Device) (b : Blob) : Device :=
  if epochNewer b.epoch d.dom.view.epoch then d.mapDom fun x => { x with heldBlobs := x.heldBlobs ++ [b] }
  else if d.epochServed b.epoch then d.placeBlob b
  else d.answerEpoch { Msg.blank with typ := 0x40, src := b.src, seq := b.seq } 0x21

/-- BLOB. -/
def Device.blobIn (d : Device) (p : Nat) (b : Blob) : Device :=
  if !d.dom.view.inDomain || !d.fabricOn || !d.dom.portUp.getD p false || b.dst != d.dom.view.moduleId then d
  else (d.heard p { Msg.blank with typ := 0x40, src := b.src, seq := b.seq }).gracedBlob b

def execBlob (port : Fin 2) (blob : Blob) (s : State) : Host.Outcome State Fault Refusal := s.done (s.dev.blobIn port blob)

/-- BLOB_ACK ends the SAVE. -/
def Device.blobAckIn (d : Device) (m : Msg) : Device :=
  match d.dom.mig with
  | some (.save, v, peer, _) =>
    if m.src ≠ peer || m.status ≠ 0 then d
    else (d.progEnd (Page.vfm.base v) (m.marks.head? != some 1)).migEnd 1 v (if m.marks.head? = some 1 then 0 else 4)
  | _ => d

def execBlobAck (port : Fin 2) (msg : Msg) (s : State) : Host.Outcome State Fault Refusal :=
  s.done (s.dev.message port 0x41 msg fun d => d.blobAckIn msg)

/-! ## Restore and claims (R515 to R517) -/

/-- The checks of R515 up to the CLAIM: the code of the first failure. -/
def Device.restoreCheck (d : Device) (v slot : Nat) : Option Nat :=
  if !d.serving then some 0x0A
  else match d.dom.blobs.find? slot with
    | none => some 5
    | some b =>
      if (d.vf v).st ≠ .created then some 1
      else if !d.poolCovers (d.vf v).pool (some v) b.vf.minLane b.vf.minEngine b.vf.minSlots then some 9
      else if b.domainId ≠ d.dom.view.domainId ∨ b.dst ≠ d.dom.view.moduleId ∨ b.src ≠ d.migPeer ∨ !d.keys.bank.blobOpens b then some 6
      else none

/-- RESTORE. -/
def Device.restore (d : Device) : Device :=
  d.migCommand 2 fun d =>
    let v := d.migVf
    let slot := d.migSlot
    match d.restoreCheck v slot, d.dom.blobs.find? slot with
    | some code, b =>
      let bad := code == 6 && (match b with | some b => !d.keys.bank.blobOpens b | none => false)
      (if bad then d.fault 203 else d).migEnd 2 v code
    | none, none => d.migEnd 2 v 5
    | none, some b =>
      ((d.mapDom fun x => { x with mig := some (.restore, v, b.src, slot) }).progStart (Page.vfm.base v) 0x0006
        b.sealed.length).send { Msg.to 0x42 b.src with tenant := b.vf.tenant, pgen := b.pgenOld }

def execRestore (s : State) : Host.Outcome State Fault Refusal := s.done s.dev.restore

/-- CLAIM: granted once, for a VF that is FROZEN at this generation; the grant starts a stub, which takes what waited. -/
def Device.claimIn (d : Device) (m : Msg) : Device :=
  match List.find? (fun e => (d.vf e.1).tenant == m.tenant && (d.vf e.1).pgen == m.pgen && (d.vf e.1).st == .frozen) d.dom.frozen with
  | none => d.send { m.reply 0x43 0 with marks := [0] }
  | some (v, fr) =>
    if fr.claimed || fr.blob.isNone || d.dom.granted.contains (m.tenant, m.pgen) then d.send { m.reply 0x43 0 with marks := [0] }
    else
      let stub : Stub := { tenant := m.tenant, pgen := m.pgen, target := m.src, queue := [] }
      let d1 := d.mapDom fun x => { x with
        frozen := x.frozen.insert v { fr with claimed := true, blob := none, queue := [] }
        granted := x.granted ++ [(m.tenant, m.pgen)], stubs := x.stubs ++ [stub] }
      fr.queue.foldl (fun d q => d.forward q m.src) (d1.send { m.reply 0x43 0 with marks := [1] })

def execClaim (port : Fin 2) (msg : Msg) (s : State) : Host.Outcome State Fault Refusal :=
  s.done (s.dev.message port 0x42 msg fun d => d.claimIn msg)

/-- An item of a blob as it stands on the receiving module: under a new number, its VF here, its acceptance now for its
DELAY's sake unchanged. -/
def Device.adoptItem (v : Nat) (d : Device) (x : Item) : Device :=
  let n := d.sched.nextItem
  (d.setItem n { x with route := { x.route with vf := v }, accepted := d.cycle, part := none }).mapSched fun s => { s with
    nextItem := n + 1 }

/-- The pair of the receiving module that a parked first run goes to: of those that serve and may hold it (R285, R308), the
pair with the fewest parked contexts; with none of them, of all (DESIGN CHOICE, log entry 152). -/
def Device.adoptPair (d : Device) (x : Item) : Nat :=
  let may := (List.range 16).filter fun p => !(x.rsaGen && d.holdsRsaGen p)
  let ps := match may.filter fun p => d.pairServes p x.lattice with
    | [] => (match may with | [] => List.range 16 | q :: qs => q :: qs)
    | q :: qs => q :: qs
  (pickBy (fun a b => decide (d.parkedCount a < d.parkedCount b)) ps).getD 0

/-- A parked job resumes on any pair of the receiving module (R310): a first run is parked on one of its pairs, whose page
reports an RSA key generation from then on, and a rerun waits for any, its first pair being one of another module. -/
def Device.adoptParked (v : Nat) (d : Device) (x : Item) : Device :=
  match x.run.firstUnit with
  | some _ => d.adoptItem v { x with stage := .ready, level := 7, run := { x.run with unit := none, firstUnit := some (.pair 16) } }
  | none =>
    let p := d.adoptPair x
    let d1 := if x.rsaGen && !d.progRunning (Page.bn.base (2 * p)) then
        (d.progStart (Page.bn.base (2 * p)) 8 0).progPos (Page.bn.base (2 * p)) x.run.points else d
    d1.adoptItem v { x with run := { x.run with unit := some (.pair p) } }

/-- A descriptor with open commits waits for them here (R519). -/
def Device.adoptOpen (v : Nat) (d : Device) (o : Item × List Commit) : Device :=
  let n := d.sched.nextItem
  let d1 := (d.adoptItem v o.1).mapDom fun x => { x with moved := x.moved ++ o.2.map fun c => { c with item := some n } }
  ((d1.dom.moved.filter fun c => c.item == some n).foldl (fun d c => d.settleMoved c) d1).commitNotice n

/-- RESTORE ends: the VF is ACTIVE at PGEN_NEW with every queue pair disabled. -/
def Device.restoreVf (d : Device) (v slot : Nat) (b : Blob) : Device :=
  let old := d.vf v
  let f : Vf := { b.vf with
    st := .active, pgen := b.pgenOld + 1, pool := old.pool, laneWin := [], engWin := [], frac := 0, reclaiming := false
    reclaimQps := [], drainFrom := 0
    tokens := if b.vf.rate = 0 then 0 else b.vf.burst * 16 }
  let d1 := (d.changeVf v f).mapDom fun x => { x with blobs := x.blobs.erase slot }
  let d2 := b.limits.foldl (fun d e => d.setReg (Page.vfm.base v + e.1) e.2) d1
  let d3 := b.counters.foldl (fun d e => d.setReg (Page.vcnt.base v + e.1) e.2) d2
  let d4 := match b.ring with
    | some r => { d3 with rings := d3.rings.put Ring.initial v r }
    | none => d3
  let d5 := b.parked.foldl (Device.adoptParked v) d4
  let d6 := b.opens.foldl (Device.adoptOpen v) d5
  ((d6.progPos (Page.vfm.base v) (d6.reg (Page.vfm.base v + Off.progTotalLo))).progEnd (Page.vfm.base v) false).migEnd 2 v 0

/-- CLAIM_REPLY. -/
def Device.claimReplyIn (d : Device) (m : Msg) : Device :=
  match d.dom.mig with
  | some (.restore, v, peer, slot) =>
    if m.src ≠ peer || m.status ≠ 0 then d
    else match d.dom.blobs.find? slot with
      | none => (d.progEnd (Page.vfm.base v) true).migEnd 2 v 5
      | some b =>
        if m.marks.head? = some 1 then d.restoreVf v slot b else (d.progEnd (Page.vfm.base v) true).migEnd 2 v 7
  | _ => d

def execClaimReply (port : Fin 2) (msg : Msg) (s : State) : Host.Outcome State Fault Refusal :=
  s.done (s.dev.message port 0x43 msg fun d => d.claimReplyIn msg)

/-- CLAIM_TIMEOUT. -/
def Device.claimTimeout (d : Device) : Device :=
  match d.dom.mig with
  | some (.restore, v, _, _) => (d.progEnd (Page.vfm.base v) true).migEnd 2 v 8
  | _ => d

def execClaimTimeout (s : State) : Host.Outcome State Fault Refusal := s.done s.dev.claimTimeout

/-! ## Unfreeze, discard, stubs (R511, R518, R519) -/

/-- UNFREEZE. -/
def Device.unfreeze (d : Device) : Device :=
  d.migCommand 3 fun d =>
    let v := d.migVf
    if !d.notLocked then d.migEnd 3 v 0x0A
    else if (d.vf v).st ≠ .frozen then d.migEnd 3 v 1
    else match d.dom.frozen.find? v with
      | some fr =>
        if fr.claimed then d.migEnd 3 v 7
        else
          let d1 := ((d.changeVf v { d.vf v with st := .active }).mapDom fun x => { x with frozen := x.frozen.erase v })
          let d2 := d1.sched.items.foldl (fun d e =>
            if e.2.route.vf = v && e.2.stage = .parked && e.2.run.firstUnit.isSome && e.2.run.firstUnit = e.2.run.unit then
              d.setItem e.1 { e.2 with stage := .ready, level := 7, run := { e.2.run with unit := none } }
            else d) d1
          -- answers that waited for a claim are served here after all
          (fr.queue.foldl (fun d m => if m.typ = 0x11 then d.ackFrom m m.src else d) d2).migEnd 3 v 0
      | none => d.migEnd 3 v 1

def execUnfreeze (s : State) : Host.Outcome State Fault Refusal := s.done s.dev.unfreeze

/-- DISCARD. -/
def Device.discardBlob (d : Device) : Device :=
  d.migCommand 4 fun d =>
    if !d.notLocked then d.migEnd 4 d.migVf 0x0A
    else if d.dom.blobs.has d.migSlot then
      (d.mapDom fun x => { x with blobs := x.blobs.erase d.migSlot }).migEnd 4 d.migVf 0
    else d.migEnd 4 d.migVf 5

def execDiscard (s : State) : Host.Outcome State Fault Refusal := s.done s.dev.discardBlob

/-- HOLD_QUERY for an open commit that moved here: to its origin and its placement list (R519). -/
def Device.queryMoved (d : Device) (c : Commit) : Device :=
  let me := d.dom.view.moduleId
  let ms := firstDistinct ((c.rcd.origin :: d.placement c.rcd.ident).filter (· != me))
  (d.mapDom fun x => { x with asks := x.asks.filter fun a =>
    !(a.why == .moved && a.isOf c.rcd.ident c.rcd.origin c.rcd.seq) }).askHold c.rcd .moved ms

/-- STUB_EXPIRY: the source's stub ends; the target asks for its open commits of that tenant and generation. -/
def Device.stubExpiry (d : Device) (tenant pgen : Nat) : Device :=
  let d1 := d.mapDom fun x => { x with stubs := x.stubs.filter fun s => !(s.tenant == tenant && s.pgen == pgen) }
  (d1.dom.moved.filter fun c => c.rcd.ident.tenant == tenant && c.rcd.pgen == pgen).foldl (fun d c => d.queryMoved c) d1

def execStubExpiry (tenant pgen : Nat) (s : State) : Host.Outcome State Fault Refusal := s.done (s.dev.stubExpiry tenant pgen)

/-- OPEN_COMMIT_QUERY_TIMER. -/
def execOpenCommitQueryTimer (s : State) : Host.Outcome State Fault Refusal :=
  s.done (s.dev.dom.moved.foldl (fun d c => d.queryMoved c) s.dev)

/-! ## LOCAL_WRITE_END (R432, R438, R487, R495, R496) -/

/-- Messages that move tenants, by type. -/
def Device.moveIn (d : Device) (m : Msg) : Device :=
  if m.typ = 0x41 then d.blobAckIn m else if m.typ = 0x42 then d.claimIn m else if m.typ = 0x43 then d.claimReplyIn m else d

/-- A VIEW record has passed: the epoch is adopted, and COMMIT multicast by a module that held the majority. -/
def Device.viewWritten (d : Device) : Device :=
  match d.dom.view.adopting with
  | none => d
  | some (n, tell) =>
    let d1 := d.adoptEpoch Device.moveIn Device.gracedBlob n
    if tell then d1.send { Msg.group 0x32 with marks := [n.epoch], next := some n } else d1

/-- A PREPARED record has passed: the coordinator multicasts PREPARE, a member PREPARE_ACK, a refusal its answer. -/
def Device.preparedWritten (d : Device) : Device :=
  let me := d.dom.view.moduleId
  match d.dom.view.prepared with
  | none => d
  | some x =>
    match x.next with
    | some n =>
      if x.refused then (match x.asker with | some a => d.recoverAnswer a x | none => d)
      else if x.mine then (d.send { Msg.group 0x30 with marks := [n.epoch], next := some n }).countVote n me true
      else (d.sendAck n).countVote n me true
    | none => match x.asker with | some a => d.recoverAnswer a x | none => d

/-- What the passing of a record's local write lets happen. -/
def Device.recordLanded (d : Device) (r : Rec) : Device :=
  let due := d.dom.ackDue.filter fun e => e.2.2 == r
  let d1 := d.mapDom fun x => { x with ackDue := x.ackDue.filter fun e => e.2.2 != r }
  let d2 := due.foldl (fun d e => d.send { Msg.to 0x11 e.1 with
    ref := e.2.1, tenant := r.ident.tenant, pgen := r.pgen, idents := [(r.ident, r.origin, r.seq)] }) d1
  let d3 := d2.dropSuperseded r
  if r.ident.typ ≠ tMeta || r.ident.frag + 1 ≠ r.fragCount || r.origin ≠ d.dom.view.moduleId then d3
  else if r.ident.sub = 0x05 then
    (match d3.dom.view.adopting with | some (n, _) => if r.ident.id = viewId n then d3.viewWritten else d3 | none => d3)
  else if r.ident.sub = 0x06 then
    (match d3.dom.view.prepared with
     | some x => if r.ident.id = preparedId x.epoch (boolNat x.refused) then d3.preparedWritten else d3
     | none => d3)
  else if r.ident.sub = 0x07 then d3.mapCust fun c => { c with setStored := true }
  else d3

/-- LOCAL_WRITE_END. During the orderly power-loss stop no BBRAM update is issued (16_power_clocks_startup.md R670). -/
def Device.writeEnd (d : Device) : Device :=
  if d.store.pending.isEmpty || d.power.st == .stopping then d else
  let recs := d.store.pending
  ((recs.foldl (fun d r => d.recordLanded r) d.landWrite).autoCompaction.checkFull).noteState d.storeState

def execLocalWriteEnd (s : State) : Host.Outcome State Fault Refusal := s.done s.dev.writeEnd

end Sys2Proof.Machine
end

