-- ==== Sys2Proof/Machine/Scheduler.lean ====
section
/-! DEFINITION. The tick, the delay lists, internal items and the control cores, and the scheduler's own errors
(08_scheduler.md R334 to R356, R361, R371, R780; 12_tenancy.md R532 to R540). -/

namespace Sys2Proof.Machine

/-! ## Internal items (R335, R342, R349) -/

/-- The entry an internal item takes: shared first, then the internal reserve. -/
def Device.internalEntry (d : Device) : Option Partition :=
  if d.entries .shared < 241664 then some .shared
  else if d.entries .internal < 4096 then some .internal else none

/-- An internal item, ready at its level. It belongs to no VF; without an entry its source keeps it (R361): none is made. -/
def Device.internalItem (d : Device) (w : Work) (c : ExecClass) (level cycles : Nat) : Device :=
  match d.internalEntry with
  | none => d
  | some p =>
    let n := d.sched.nextItem
    let x := Item.atAcceptance { vf := 0, qp := 0, window := false, slot := 0, intruder := false } (Desc.parse []) .background d.cycle
    (d.setItem n { x with
      stage := .ready, part := some p, exec := c, level := level, work := some w
      adm := { x.adm with cycles := cycles } }).mapSched fun s => { s with nextItem := n + 1 }

/-- Work for a control core: firmware work of a path (R342). Kinds: 1 MBX frame, 2 SPDM, 3 PLDM, 4 Olihild. -/
def Device.coreItem (d : Device) (kind : Nat) : Device := d.internalItem (.firmware kind) .core 5 0

/-! ## Control cores (R349, R350) -/

def Device.coreUp (d : Device) (c : Nat) : Bool := d.bit Off.devCoreStat c

/-- The item that runs on a core. -/
def Device.onCore (d : Device) (c : Nat) : Option (Nat × Item) :=
  List.find? (fun e => e.2.stage == .running && e.2.run.unit == some (.core c)) d.sched.items

/-- The core that takes work of a level: one that is up and runs nothing at that level or above, the lowest level first. -/
def Device.chooseCore (d : Device) (level : Nat) (but : Option Nat) : Option Nat :=
  let lv := fun c => match d.onCore c with | some e => e.2.level + 1 | none => 0
  pickBy (fun a b => decide (lv a < lv b) || (lv a == lv b && decide (a < b)))
    ((List.range 4).filter fun c => d.coreUp c && some c != but && decide (lv c ≤ level))

def Device.giveCore (d : Device) (n : Nat) (x : Item) (c : Nat) : Device :=
  (d.setItem n { x with stage := .running, run := { x.run with unit := some (.core c) } }).emit (.coreIrq c n)

/-- DISPATCH_CORE. -/
def Device.dispatchCore (d : Device) : Device :=
  if !d.dispatches 2 then d else
  match d.firstOf (d.readyItems .core fun _ _ => true) with
  | none => d
  | some (n, x) => match d.chooseCore x.level none with | some c => d.giveCore n x c | none => d

def execDispatchCore (s : State) : Host.Outcome State Fault Refusal := s.done s.dev.dispatchCore

/-- CORE_WORK_REPORT. -/
def Device.coreReport (d : Device) (n : Nat) : Device :=
  match d.item n with
  | some x => if x.stage = .running ∧ x.exec = .core then (d.dropItem n).ingestAll else d
  | none => d

def execCoreWorkReport (item : Nat) (s : State) : Host.Outcome State Fault Refusal := s.done (s.dev.coreReport item)

/-- CORE_ITEM_LATE: the first core's interrupt is withdrawn, and another core is offered the item. -/
def Device.coreLate (d : Device) (n : Nat) : Device :=
  match d.item n with
  | none => d
  | some x =>
    match x.stage, x.run.unit with
    | .running, some (.core c) =>
      let d1 := (d.setItem n { x with stage := .ready, run := { x.run with unit := none } }).raiseInt .sched 0 1 |>.fault 245
      match d1.item n with
      | some y => (match d1.chooseCore y.level (some c) with | some k => d1.giveCore n y k | none => d1)
      | none => d1
    | _, _ => d

def execCoreItemLate (item : Nat) (s : State) : Host.Outcome State Fault Refusal := s.done (s.dev.coreLate item)

/-! ## Errors of the scheduler (R340, R371) -/

/-- DISPATCH_NOT_ACCEPTED: the item is dispatched elsewhere, as the same run. -/
def Device.notAccepted (d : Device) (n : Nat) : Device :=
  match d.item n with
  | none => d
  | some x =>
    let onUnit := match x.run.unit with | some (.lane _ _) | some (.pipe _) | some (.pair _) => true | _ => false
    if x.stage ≠ .running || !onUnit || x.run.staged.isSome then d
    else
      let d1 := match x.run.unit with | some (.pair p) => d.freePair p | _ => d
      let cycles := if x.run.firstUnit.isSome then 0 else if x.desc.bundle then d.stepCycles x.current else x.adm.cycles
      (d1.setItem n { x with
        stage := .ready
        adm := { x.adm with unstarted := x.adm.unstarted + cycles }
        run := { x.run with unit := none, begun := x.run.firstUnit.isSome } }).fault 249

def execDispatchNotAccepted (item : Nat) (s : State) : Host.Outcome State Fault Refusal := s.done (s.dev.notAccepted item)

/-- MATCHING_STORE_UNREADABLE: SQUASHED, from the routing record. -/
def Device.unreadable (d : Device) (n : Nat) : Device :=
  match d.item n with
  | none => d
  | some x =>
    if x.stage = .finished then d
    else if x.work.isSome then (d.dropItem n).fault 241
    else match x.run.unit, x.stage with
      -- a lane is not stopped mid-table (01_architecture.md R17)
      | some (.lane _ _), .running => (d.setItem n { x with run := { x.run with doom := some (.squashed, 0) } }).fault 241
      | _, _ => (d.finishItem n .squashed 0).fault 241

def execMatchingStoreUnreadable (item : Nat) (s : State) : Host.Outcome State Fault Refusal := s.done (s.dev.unreadable item)

/-- LIST_REBUILD_END. -/
def Device.rebuildEnd (d : Device) (c : Nat) (delay : Bool) : Device :=
  if d.sched.rebuilding.contains (c, delay) then
    (d.mapSched fun s => { s with rebuilding := s.rebuilding.filter fun e => e != (c, delay) }).raiseInt .sched 0 0
  else d

def execListRebuildEnd (cls : Fin 3) (delay : Bool) (s : State) : Host.Outcome State Fault Refusal :=
  s.done (s.dev.rebuildEnd cls delay)

/-! ## Releases of the delay lists (R353 to R356) -/

/-- RETRY_RELEASE: a read is asked again, or a lookup that found no room asks for room again. -/
def Device.retryDue (d : Device) (n : Nat) : Device :=
  if 2 ^ 40 ≤ n then d.retryRead (n - 2 ^ 40)
  else
    let d1 := d.dropDelay retryList n
    match d1.item n with
    | none => d1
    | some x =>
      if x.stage ≠ .waiting then d1 else
      [false, true].foldl (fun d b =>
        let h := x.handle b
        let vault := b && tokenInB x.current.service
        let id := if vault then h else bitsOf h 63 24
        let ver := if vault then 0 else bitsOf h 23 8
        if x.op b ≠ .asked || (!vault && h % 256 != 2) || x.current.service = 0x0405
            || (d.findRun (d.tenantOf x) vault id ver).isSome then d
        else d.startFill n x vault id ver) d1

def execRetryRelease (item : Nat) (s : State) : Host.Outcome State Fault Refusal :=
  s.done (if s.dev.hasDelay retryList item then s.dev.retryDue item else s.dev)

/-- An entry of the SWEEP list falls due: 0 a sweep pass, 1 a scrub step, 2 a compaction step. -/
def Device.sweepDue (d : Device) (k : Nat) : Device :=
  let d1 := d.dropDelay sweepList k
  if k = 0 then
    (if d1.internalEntry.isSome then d1.internalItem .sweep .keySide 1 0
     else d1.addDelay sweepList 0 ((d1.sched.tick + 1) % 2 ^ 32))
  else if k = 1 then (if d1.store.op = some .scrub then d1.scrubStep else d1)
  else if d1.store.op = some .compact then d1.compactStep.queueStep .compact else d1

def execSweepRelease (kind : Fin 3) (s : State) : Host.Outcome State Fault Refusal :=
  s.done (if s.dev.hasDelay sweepList kind then s.dev.sweepDue kind else s.dev)

/-- A release tick has come, modulo 2^32. -/
def dueAt (tick due : Nat) : Bool := decide ((tick + 2 ^ 32 - due) % 2 ^ 32 < 2 ^ 31)

/-- How far an entry's release tick lies behind. -/
def lateness (tick : Nat) (e : Delay) : Nat := (tick + 2 ^ 32 - e.due) % 2 ^ 32

/-- The entries of a list that a tick releases: due, earliest first, equal ones in insertion order, at most 1,024. -/
def Device.dueEntries (d : Device) (list : Nat) : List Delay :=
  (((d.sched.delays.filter fun e => e.list == list && dueAt d.sched.tick e.due).insertionSort fun a b =>
    lateness d.sched.tick b ≤ lateness d.sched.tick a).take 1024)

/-- One entry released. -/
def Device.releaseEntry (d : Device) (e : Delay) : Device :=
  if !d.hasDelay e.list e.item then d
  else if e.list = deferList then d.deferDue e.item
  else if e.list = holdList then d.holdDue e.item
  else if e.list = retryList then d.retryDue e.item
  else d.sweepDue e.item

/-- One list; a list under repair releases nothing. -/
def Device.releaseList (d : Device) (list : Nat) : Device :=
  if d.sched.rebuilding.any fun r => r.2 then d else (d.dueEntries list).foldl (fun d e => d.releaseEntry e) d

/-! ## The tick (R352, R370, R780; 12_tenancy.md R532, R533, R539, R540) -/

/-- Limits as the manager's registers give them. -/
def Device.limitsOf (d : Device) (v : Nat) (x : Vf) : Vf :=
  let b := Page.vfm.base v
  { x with
    rate := d.field (b + Off.vfmCeil) 19 0
    burst := max 1 (d.field (b + Off.vfmCeil) 31 20)
    quotaSlots := d.field (b + Off.vfmQuotaSlots) 20 0
    quotaStore := d.field (b + Off.vfmQuotaStore) 31 0
    backlog := max 1 (d.field (b + Off.vfmQuotaMisc) 15 8)
    qpQuota := min 64 (d.field (b + Off.vfmQuotaMisc) 6 0) }

/-- Tokens of a tick: RATE / 1,000 with the fraction carried, at most BURST × 16, none while RATE is 0. -/
def Vf.refill (x : Vf) : Vf :=
  if x.rate = 0 then { x with tokens := 0, frac := 0 }
  else
    let sum := x.frac + x.rate
    { x with tokens := min (x.burst * 16) (x.tokens + sum / 1000), frac := sum % 1000 }

/-- An accounting window advances by a tick; it keeps 16. -/
def slide (w : List Nat) : List Nat := 0 :: w.take 15

/-- The QUOTA_OVER bits: queue pairs, store, slots, and any of them (R540). -/
def Device.quotaBits (d : Device) (v : Nat) (x : Vf) : Nat :=
  let q := (List.range 64).any fun q => decide (x.qpQuota ≤ q) && (d.qp v q).enabled
  let st := decide (x.quotaStore * 1024 ≤ x.storeUse)
  let sl := decide (x.quotaSlots < d.slotUse x.tenant)
  boolNat (q || st || sl) + 2 * boolNat sl + 4 * boolNat st + 8 * boolNat q

/-- A VF at a tick. -/
def Device.tickVf (d : Device) (v : Nat) (x : Vf) : Device :=
  if x.st = .absent then d else
  let y := (d.limitsOf v x).refill
  let bits := d.quotaBits v y
  let z := { y with laneWin := slide x.laneWin, engWin := slide x.engWin, quotaOver := bits }
  let d1 := d.setVf v z
  if bits = x.quotaOver then d1 else d1.raiseInt .mb v 2

/-- Bundles and items that wait for the gates or the window go on. -/
def Device.settleAll (d : Device) : Device :=
  ((d.sched.items.filter fun e => e.2.stage == .waiting).map Prod.fst).foldl (fun d n => d.settle n) d

/-- TICK. -/
def Device.doTick (d : Device) (aon : Nat) : Device :=
  if d.power.st = .battery ∨ d.power.st = .stopping then d else
  let d1 := d.advance ((d.cycle / 1200 + 1) * 1200 - d.cycle)
  let checked := d.power.st == .slack || d.power.st == .flood
  let d2 := if checked && (decide (aon < 7) || decide (9 < aon)) then d1.fault 246 else d1
  let d3 := d2.mapSched fun s => { s with
    tick := (s.tick + 1) % 2 ^ 32, vfPtr := (s.vfPtr + 1) % 4096
    warm := d2.reg Off.devWarm, admitCfg := d2.reg Off.devAdmit
    ctrl := d2.reg (Page.sched.base 0 + Off.schedCtrl), timer := d2.reg (Page.sched.base 0 + Off.schedTimer)
    internalWin := slide s.internalWin }
  let d4 := (d3.front.vfs.foldl (fun d e => d.tickVf e.1 e.2) d3).mapRng fun r => { r with rctTick := false, aptTick := false }
  let d5 := [deferList, holdList, retryList, sweepList].foldl (fun d l => d.releaseList l) d4
  d5.settleAll.admitDeferred.emptyCurves

def execTick (aon : Nat) (s : State) : Host.Outcome State Fault Refusal := s.done (s.dev.doTick aon)

end Sys2Proof.Machine
end

