-- ==== Sys2Proof/Machine/Settings.lean ====
section
/-! DEFINITION. The settings antifuse: generation slots, the generation in force, and what the settings say
(16_power_clocks_startup.md R679 to R683). -/

namespace Sys2Proof.Machine

/-- The bytes of a generation slot; an unlisted slot is blank. -/
def Power.slotBytes (p : Power) (g n : Nat) : Bytes := padTo 64 (p.otp.get (zeros 64) (4 * g + n))

/-- The validity test of R680. -/
def slotValid (g n : Nat) (b : Bytes) : Bool :=
  (b.getD 63 0).toNat == 1 && crc16 (b.take 60) == leNat (slice b 60 2) && (b.getD 0 0).toNat == g && (b.getD 1 0).toNat == n

/-- The active generation of a group (R680). -/
def Power.active? (p : Power) (g : Nat) : Option Nat := [3, 2, 1, 0].find? fun n => slotValid g n (p.slotBytes g n)

/-- A slot that reads all zero (R679). -/
def Power.blank (p : Power) (g n : Nat) : Bool := (p.slotBytes g n).all (· == 0)

/-- The next slot to burn: one above the highest that is not blank (R680). -/
def Power.nextSlot (p : Power) (g : Nat) : Nat :=
  match [3, 2, 1, 0].find? fun n => !p.blank g n with
  | some n => n + 1
  | none => 0

/-- Slots that are neither blank nor valid (R680): each counts one event of source 9. -/
def Power.tornSlots (p : Power) (g : Nat) : Nat :=
  ([0, 1, 2, 3].filter fun n => !p.blank g n && !slotValid g n (p.slotBytes g n)).length

/-- The DATA in force for a group: of the active generation, else the defaults of R681. -/
def Power.settings (p : Power) (g : Nat) : Bytes :=
  match p.active? g with
  | some n => slice (p.slotBytes g n) 4 56
  | none =>
    if g = 1 then padTo 56 [0x88, 1] else if g = 2 then padTo 56 [0, 0x40] else if g = 3 then padTo 56 [0, 0x4C]
    else zeros 56

/-- The library key identifier of group MFG (04_tide_tables.md R144). -/
def Power.libraryKey (p : Power) : Bytes := slice (p.settings 0) 2 16

/-- The manufacturing exit seal is burnt (R682). -/
def Power.exited (p : Power) : Bool :=
  [0, 1, 2, 3].any fun n => let b := p.slotBytes 0 n; (b.getD 63 0).toNat == 1 && bitOf (b.getD 4 0).toNat 0

end Sys2Proof.Machine
end

