-- ==== Sys2Proof/Machine/Tables.lean ====
section
/-! DEFINITION. The table store and the curve slots: staging, loading, retiring, and the reload of a withdrawn version
(04_tide_tables.md R142 to R170; 07_bignum_engines.md R315 to R319, R332, R333; 13_modes_custody.md R594). -/

namespace Sys2Proof.Machine

/-! ## The staging window (R146) -/

/-- STAGING_WINDOW_WRITE: a naturally aligned write of 4 to 64 bytes; any other write is not performed. -/
def Device.stage (d : Device) (off : Nat) (data : Bytes) : Device :=
  let n := data.length
  if n ∈ [4, 8, 16, 32, 64] ∧ off % n = 0 ∧ off + n ≤ 2 ^ 25 then
    d.mapUnits fun u => { u with staging := data.zipIdx.foldl (fun t e => t.put 0 (off + e.2) e.1) u.staging }
  else d

def execStagingWindowWrite (off : Nat) (data : Bytes) (s : State) : Host.Outcome State Fault Refusal :=
  s.done (s.dev.stage off data)

/-- Bytes of the window. -/
def Device.staged (d : Device) (off n : Nat) : Bytes := (List.range n).map fun i => d.units.staging.get 0 (off + i)

/-! ## Images (R136, R142, R593) -/

/-- Bytes of an image: header, body, signature block, and the grant block of an operator table. -/
def imageLen (header : Bytes) : Nat :=
  0x100 + 16 * hdr header 0x0C 2 + 3456 + if hdr header 0x09 1 = 2 then 3760 else 0

/-- An image as a version of the table store. -/
def imageVersion (image : Bytes) (replayOnly : Bool) : TableVersion :=
  let n := 16 * hdr image 0x0C 2
  let grant := image.drop (0x100 + n + 3456)
  { header := padTo 256 (image.take 256), body := slice image 256 n
    grant := if hdr image 0x09 1 = 2 then (List.range (hdr grant 4 2)).map fun i => hdr grant (48 + 4 * i) 4 else []
    active := false, leaving := false, replayOnly := replayOnly, withdrawn := false, tag := [] }

/-- The version record's identity in META records: service, variant and version, and the high-water mark's (DESIGN CHOICE, log
entry 25). -/
def TableVersion.objectId (t : TableVersion) : Nat := t.service * 2 ^ 24 + t.variant * 2 ^ 16 + t.ver
def TableVersion.key (t : TableVersion) : Nat := t.service * 256 + t.variant

/-- Public keys by scheme, as R322 lays them out; a library key is known by its identifier alone. -/
structure HybridKey where
  mldsa : Bytes
  ecdsa : Bytes
deriving DecidableEq, Repr

/-- The table-approval key of the domain (R145): the key pair kept as keys 1 and 2 of tenant 0. -/
def Device.approvalKey (d : Device) : Option (Bytes × Bytes) :=
  match d.storedKey 0 1 (d.highestVersion 0 1), d.storedKey 0 2 (d.highestVersion 0 2) with
  | some m, some e => some (m.2, e.2)
  | _, _ => none
def Device.approvalPublic (d : Device) : Option HybridKey :=
  d.approvalKey.map fun k => { mldsa := Config.publicKey 1952 0x14 k.1, ecdsa := Config.publicKey 97 0x12 k.2 }

/-- SIGNER_KEY_ID of two public keys (R136). -/
def HybridKey.id (k : HybridKey) : Bytes := (Config.sha3 (k.mldsa ++ k.ecdsa)).take 16

/-- Both signatures of a signature block (R142). What stands behind them in the block is not read (DESIGN CHOICE, log entry 147). -/
def HybridKey.verifies (k : HybridKey) (msg block : Bytes) : Bool :=
  Config.verify 0x14 k.mldsa msg (slice block 0 3309) && Config.verify 0x12 k.ecdsa msg (slice block 3309 96)

/-- The keys a SIGNER_KEY_ID names. -/
def Device.signerKey (d : Device) (id : Bytes) : Option HybridKey :=
  if id = d.power.libraryKey ∧ !allZero id then some { mldsa := id, ecdsa := id }
  else match d.approvalPublic with
    | some k => if k.id = id then some k else none
    | none => none

/-- A grant block that verifies and matches its image (R594). -/
def Device.grantOk (d : Device) (image : Bytes) : Bool :=
  let g := image.drop (0x100 + 16 * hdr image 0x0C 2 + 3456)
  match d.approvalPublic with
  | none => false
  | some k => g.take 4 == [0x4F, 0x47, 0x4E, 0x54] && hdr g 6 2 == hdr image 0x0A 2 && hdr g 8 2 == hdr image 0x06 2
      && slice g 16 32 == slice image 0x80 32 && k.verifies (slice g 0 0x130) (slice g 0x130 3456)

/-- Steps 2 to 14 of R149 on a copy: the code of the first that fails and its WHERE, none where one is not stated. `signed`
applies step 4 (R593 leaves it out). -/
def Device.imageFails (d : Device) (image : Bytes) (off : Nat) (signed : Bool) : Option (Nat × Option Nat) :=
  let t := imageVersion image false
  let h := t.header
  let msg := h ++ t.body
  let first := fun (fs : List (Nat × Bool)) => (fs.find? fun f => !f.2).map Prod.fst
  let inside := if signed then imageLen h else 0x100 + 16 * t.bundles
  match first ((0x0C, decide (off + inside ≤ 2 ^ 25)) :: (List.range 74).map fun i => (0xB6 + i, h.getD (0xB6 + i) 0 == 0)) with
  | some o => some (0x0F, some o)
  | none =>
  match first [(0, hdr h 0 4 == 0x45444954), (4, hdr h 4 2 == 1), (0xB4, hdr h 0xB4 2 == 1)] with
  | some o => some (0x01, some o)
  | none =>
  let key := d.signerKey (slice h 0xA0 16)
  let sigs := match key with
    | some k => k.verifies msg (slice image (0x100 + 16 * t.bundles) 3456) && (t.signer != 2 || d.grantOk image)
    | none => false
  if signed && !sigs then some (0x02, if key.isNone then some 0xA0 else none)
  else
  let lib := decide ((0x0100 ≤ t.service ∧ t.service ≤ 0x06FF ∧ ¬(0x0500 ≤ t.service ∧ t.service ≤ 0x05FF))
    ∨ (0x0F00 ≤ t.service ∧ t.service ≤ 0x0FFF))
  let ours := match d.approvalPublic with | some k => slice h 0xA0 16 == k.id | none => false
  match first [(0x06, if t.signer = 1 then lib else t.signer != 2 || decide (0x8000 ≤ t.service)),
      (0x08, t.signer != 2 || t.variant == 0), (0x09, decide (t.signer = 1 ∨ t.signer = 2)),
      (0xA0, if t.signer = 1 then slice h 0xA0 16 == d.power.libraryKey else ours)] with
  | some o => some (0x03, some o)
  | none =>
  if slice h 0x80 32 ≠ Config.sha3 t.body then some (0x04, some 0x80)
  else match t.encodingFails with
    | some o => some (0x05, if o = 0x100 then none else some o)
    | none => t.bodyFails

/-! ## Occupancy, results -/

def schedAt (o : Nat) : Nat := Page.sched.base 0 + o

/-- Blocks in use (R151). -/
def Units.blocksUsed (u : Units) : Nat := (u.tables.map fun e => e.2.blocks).sum

/-- TBL_OCC follows the table store (R167). -/
def Device.showTables (d : Device) : Device :=
  d.setReg (schedAt Off.tblOcc) ((16384 - d.units.blocksUsed) * 2 ^ 16 + d.units.tables.length)

/-- WHERE of a result: a free value where the spec names no field and no bundle. -/
def Device.whereOf (d : Device) (w : Option Nat) : Device × Nat :=
  match w with
  | some x => (d, x % 2 ^ 16)
  | none => (d.drawFree, d.freeNat % 2 ^ 16)

/-- TBL_CMD ends: SEQ, CODE and WHERE, the DONE bit, and TABLE_CMD_DONE (R167 to R170). -/
def Device.tableEnd (d : Device) (req code : Nat) (w : Option Nat) : Device :=
  let (d1, x) := d.whereOf w
  (((d1.setResult (schedAt Off.tblResult) code).setField (schedAt Off.tblResult) 15 0 x).commandEnd (schedAt Off.tblCmd) req
    (req + 2)).raiseInt .sched 0 8

/-- The records of an object, the newest of each fragment, written or on their way. -/
def Device.metaImage (d : Device) (sub id : Nat) : Bytes :=
  let rs := d.records ++ d.store.pending ++ d.store.gathering
  let at_ := fun f => currentRec rs { typ := tMeta, sub := sub, tenant := 0, id := id, version := 0, frag := f }
  match at_ 0 with
  | some r => if r.state ≠ 1 then [] else (List.range r.fragCount).flatMap fun f => match at_ f with
      | some x => padTo 80 x.body
      | none => zeros 80
  | none => []

/-- Modes that load tables and curves (R147). -/
def Device.mayLoad (d : Device) : Bool := d.cust.mode == .custody || d.cust.mode == .maintenance

/-! ## LOAD and RETIRE (R147 to R158, R168) -/

/-- A load's lane time counts as internal work, within the 5 % that internal work may take (R150, 03_host_queues.md R100). How much it
is the spec does not say: it is free (log entry 146). -/
def Device.chargeLoad (d : Device) : Device :=
  (d.mapSched fun s => { s with internalWin := chargeHead (min d.freeNat (163840 - s.internalWin.sum)) s.internalWin }).drawFree

/-- LOAD: the image is copied; step 1 of R149 is decided now, `slot` holds its code. -/
def Device.tableLoad (d : Device) : Device :=
  d.onIdle (schedAt Off.tblCmd) 0 3 fun d =>
    let src := d.reg (schedAt Off.tblSrc)
    let off := bitsOf src 24 12 * 4096
    let ro := bitOf src 31
    let len := imageLen (d.staged off 256)
    let code := if d.mayLoad && (!ro || d.cust.mode == .maintenance) then 0 else 0x0E
    (d.commandStart (schedAt Off.tblCmd) 0).chargeLoad.mapUnits fun u => { u with
      load := some { image := d.staged off (min len (2 ^ 25 - off)), offset := off, replayOnly := ro, slot := code } }

def execLoad (s : State) : Host.Outcome State Fault Refusal := s.done s.dev.tableLoad

/-- A version enters the table store, is kept as META records and, unless it serves replay alone, becomes active (R152,
R155, R157). -/
def Device.keepTable (d : Device) (t : TableVersion) (image : Bytes) : Device :=
  let high := max t.ver (d.units.highest.get 0 t.key)
  let d1 := d.mapUnits fun u => { u with
    tables := Table.insert u.nextTable { t with active := !t.replayOnly, tag := d.headerTag t, activeFrom := some d.cycle }
      (if t.replayOnly then u.tables
       else u.tables.mapV fun _ x =>
        if x.active && x.key == t.key then { x with active := false, leaving := true, activeTo := some d.cycle } else x)
    nextTable := u.nextTable + 1
    highest := u.highest.insert t.key high }
  (d1.releaseRecords none (metaRecords 1 t.objectId 1 image ++ metaRecords 2 t.key 1 (leBytes 2 high))).showTables

/-- LOAD_END. -/
def Device.tableLoadEnd (d : Device) : Device :=
  match d.units.load with
  | none => d
  | some l =>
    let d0 := d.mapUnits fun u => { u with load := none }
    let t := imageVersion l.image l.replayOnly
    if l.slot ≠ 0 then d0.tableEnd 0 l.slot (some 0)
    else match d.imageFails l.image l.offset true with
      | some (code, w) => d0.tableEnd 0 code w
      | none =>
        if !l.replayOnly ∧ t.ver ≤ d.units.highest.get 0 t.key then d0.tableEnd 0 0x0C (some 0)
        else if 4096 ≤ d.units.tables.length ∨ 16384 < d.units.blocksUsed + t.blocks then d0.tableEnd 0 0x0D (some 0)
        else (d0.keepTable t l.image).tableEnd 0 0 (some 0)

def execLoadEnd (s : State) : Host.Outcome State Fault Refusal := s.done s.dev.tableLoadEnd

/-- RETIRE: every held version that TBL_SEL and TBL_SEL_VER name leaves. -/
def Device.tableRetire (d : Device) : Device :=
  d.onIdle (schedAt Off.tblCmd) 1 3 fun d =>
    let sel := d.reg (schedAt Off.tblSel)
    let ver := d.field (schedAt Off.tblSelVer) 15 0
    let named := fun (t : TableVersion) => t.service == bitsOf sel 15 0 && t.variant == bitsOf sel 23 16 && t.ver == ver
    let d0 := d.commandStart (schedAt Off.tblCmd) 1
    if !d.mayLoad then d0.tableEnd 1 0x0E (some 0)
    else match List.find? (fun e => named e.2) d.units.tables with
      | none => d0.tableEnd 1 0x11 (some 0)
      | some e =>
        let d1 := d0.mapUnits fun u => { u with
          tables := u.tables.mapV fun _ t => if named t then { t with active := false, leaving := true } else t }
        (d1.releaseRecords none (metaRecords 1 e.2.objectId 2 [])).tableEnd 1 0 (some 0)

def execRetire (s : State) : Host.Outcome State Fault Refusal := s.done s.dev.tableRetire

/-- Items bound to a version that have not completed. -/
def Device.boundTo (d : Device) (k : Nat) : Bool :=
  d.sched.items.any fun e => e.2.bound == some k && e.2.stage != .finished

/-- VERSION_FREE (R156). -/
def Device.versionFree (d : Device) (k : Nat) : Device :=
  match d.table k with
  | some t =>
    if t.leaving && !d.boundTo k then
      let d1 := (d.mapUnits fun u => { u with tables := u.tables.erase k }).showTables
      if d.metaImage 1 t.objectId = [] then d1 else d1.releaseRecords none (metaRecords 1 t.objectId 2 [])
    else d
  | none => d

def execVersionFree (version : Nat) (s : State) : Host.Outcome State Fault Refusal := s.done (s.dev.versionFree version)

/-- TABLE_RELOAD_END: the image of the META records passes steps 2 to 14 again, or the version is not loaded and source 244
counts (R153, R162; DESIGN CHOICE, log entry 148: R153's outcome, which it gives for start-up, holds of this reload too). Its META
records stand, and the next start-up reads them again. -/
def Device.tableReloadEnd (d : Device) (k : Nat) : Device :=
  match d.table k with
  | some t =>
    if !t.withdrawn then d
    else
      let image := d.metaImage 1 t.objectId
      if image ≠ [] ∧ d.imageFails image 0 true = none then
        let fresh := imageVersion image t.replayOnly
        d.mapUnits fun u => { u with
          tables := u.tables.adjust k fun t =>
            { t with withdrawn := false, header := fresh.header, body := fresh.body, grant := fresh.grant, tag := d.headerTag fresh } }
      else ((d.mapUnits fun u => { u with tables := u.tables.erase k }).showTables).fault 244
  | none => d

def execTableReloadEnd (version : Nat) (s : State) : Host.Outcome State Fault Refusal := s.done (s.dev.tableReloadEnd version)

/-! ## Curve slots (07_bignum_engines.md R315 to R319, R332, R333) -/

/-- Powers modulo m; `f` bounds the bits of the exponent. -/
def modPow (m : Nat) : Nat → Nat → Nat → Nat
  | 0, _, _ => 1 % m
  | f + 1, b, e => let h := modPow m f (b * b % m) (e / 2); if e % 2 = 1 then h * b % m else h

/-- Points of a curve, none at infinity; addition in affine form, inverses by Fermat. -/
def ecAdd (p a : Nat) (x y : Option (Nat × Nat)) : Option (Nat × Nat) :=
  match x, y with
  | none, q | q, none => q
  | some (x1, y1), some (x2, y2) =>
    if x1 = x2 ∧ (y1 + y2) % p = 0 then none
    else
      let num := if x1 = x2 then 3 * x1 * x1 + a else y2 + p - y1
      let den := if x1 = x2 then 2 * y1 % p else (x2 + p - x1) % p
      let l := num * modPow p 1024 den (p - 2) % p
      let x3 := (l * l + 2 * p - x1 - x2) % p
      some (x3, (l * (x1 + p - x3) + p - y1) % p)

/-- A multiple of a point; the first argument bounds the bits. -/
def ecMul (p a : Nat) : Nat → Nat → Option (Nat × Nat) → Option (Nat × Nat)
  | 0, _, _ => none
  | f + 1, k, g => let h := ecMul p a f (k / 2) (ecAdd p a g g); if k % 2 = 1 then ecAdd p a h g else h

/-- Fields of a curve set (R315). -/
def curveField (s : Bytes) (off : Nat) : Nat := beNat (slice s off 128)

/-- Bits of a number. -/
def bitLen (n : Nat) : Nat := if n = 0 then 0 else Nat.log2 n + 1

/-- Steps 5 to 13 of R316: codes of the checks that fail. Primality (codes 0x21, 0x25) and equality of the pair's results
(0x29) are what the engines find. -/
def curveFails (s : Bytes) : List Nat :=
  let p := curveField s 0x010
  let a := curveField s 0x090
  let b := curveField s 0x110
  let gx := curveField s 0x190
  let gy := curveField s 0x210
  let n := curveField s 0x290
  let h := hdr s 0x0A 1
  let diff := max (h * n) (p + 1) - min (h * n) (p + 1)
  ([(0x20, p % 2 == 1 && bitLen p == hdr s 6 2 && decide (128 ≤ bitLen p ∧ bitLen p ≤ 1024)),
    (0x22, decide (a < p ∧ b < p ∧ gx < p ∧ gy < p)), (0x23, (4 * a ^ 3 + 27 * b ^ 2) % p != 0),
    (0x24, gy ^ 2 % p == (gx ^ 3 + a * gx + b) % p), (0x25, bitLen n == hdr s 8 2 && n != p),
    (0x26, (ecMul p a (bitLen n) n (some (gx, gy))).isNone), (0x27, decide (1 ≤ h ∧ h ≤ 4 ∧ diff ^ 2 ≤ 4 * p)),
    (0x28, (List.range 100).all fun k => p ^ (k + 1) % n != 1 % n)].filter fun e => !e.2).map Prod.fst

/-- CURVE_LOAD: outside CUSTODY and MAINTENANCE the write is lost (R333). -/
def Device.curveLoad (d : Device) : Device :=
  d.onCommand (curveAt Off.curveCmd) fun d =>
    if !d.mayLoad ∨ d.reg (curveAt Off.curveCmd) &&& 3 ≠ 0 then d.writeLost (curveAt 0)
    else
      let src := d.reg (curveAt Off.curveSrc)
      let off := bitsOf src 24 12 * 4096
      (d.commandStart (curveAt Off.curveCmd) 0).mapUnits fun u => { u with
        curveLoad := some { image := d.staged off 1024, offset := off, replayOnly := false, slot := bitsOf src 5 0 } }

def execCurveLoad (s : State) : Host.Outcome State Fault Refusal := s.done s.dev.curveLoad

/-- The first code of steps 2 to 14 of R316 for a set at an offset of the window and a target slot; `found` is what the engines found
of primality and equality, 0 for nothing. -/
def setCode (s : Bytes) (offset : Nat) (held : Bool) (found : Nat) : Nat :=
  if 2 ^ 25 < offset + 1024 ∨ s.getD 0x0B 0 ≠ 0 ∨ !allZero (slice s 0x310 240) then 0x0F
  else if hdr s 0 4 ≠ 0x43355354 ∨ hdr s 4 2 ≠ 3 then 0x01
  else if held then 0x30
  else
    let codes := curveFails s ++ if found ∈ [0x21, 0x25, 0x29] then [found] else []
    match codes with
    | [] => 0
    | c :: cs => cs.foldl min c

/-- The first code of R316 for a copied set. -/
def Device.curveCode (d : Device) (l : Load) (found : Nat) : Nat :=
  if !d.mayLoad then 0x0E else setCode l.image l.offset (d.units.curves.has l.slot) found

/-- CURVE_LOAD_END. -/
def Device.curveLoadEnd (d : Device) (found : Nat) : Device :=
  match d.units.curveLoad with
  | none => d
  | some l =>
    let d0 := d.mapUnits fun u => { u with curveLoad := none }
    let code := d.curveCode l found
    if code ≠ 0 then d0.curveEnd 0 code l.slot
    else
      let d1 := d0.mapUnits fun u => { u with curves := u.curves.insert l.slot { set := l.image, retiring := false } }
      ((d1.releaseRecords none (metaRecords 3 l.slot 1 l.image)).showCurves).curveEnd 0 0 l.slot

def execCurveLoadEnd (engineCode : Nat) (s : State) : Host.Outcome State Fault Refusal := s.done (s.dev.curveLoadEnd engineCode)

/-- CURVE_RETIRE: the slot takes no new job; it empties once no job uses it, at once or at a later tick (R319). -/
def Device.curveRetire (d : Device) : Device :=
  let slot := d.field (curveAt Off.curveSrc) 5 0
  let a := curveAt Off.curveCmd
  d.onCommand a fun d =>
    if !d.mayLoad ∨ d.reg a &&& 3 ≠ 0 then d.writeLost a
    else match d.units.curves.find? slot with
      | none => (d.commandStart a 1).curveEnd 1 0x31 slot
      | some c => ((d.commandStart a 1).mapUnits fun u => { u with
          curves := u.curves.insert slot { c with retiring := true } }).emptyCurves

def execCurveRetire (s : State) : Host.Outcome State Fault Refusal := s.done s.dev.curveRetire

end Sys2Proof.Machine
end

