-- ==== Sys2Proof/Machine/Services.lean ====
section
/-! DEFINITION. The services of the payment library that lanes run, and operator tables: what a run stages in its gate
(06_payment_services.md R227 to R281; 04_tide_tables.md R140, R145). -/

namespace Sys2Proof.Machine

/-! ## Runs -/

/-- The item is on a unit that computes: a lane, a pipeline pair, or a pair whose engines are awake. -/
def Device.onUnit (d : Device) (x : Item) : Bool :=
  match x.run.unit with
  | some (.pair p) => (d.group (p / 2)).clk == .clocked
  | some (.core _) | none => false
  | some _ => true

/-- What a computed run leaves in the device and in its item: on a lane the item's table has run too, and its comparisons that
differ are the item's (R140, R196). -/
def Device.stageIn (n : Nat) (o : Device × Item × Staged) : Device :=
  let (d, k) := o.1.runLane o.2.1
  d.setItem n { o.2.1 with run := { o.2.1.run with staged := some o.2.2, differs := o.2.1.run.differs + k } }

/-- A run of a service whose outputs are not yet computed: `f` computes what it stages, or goes on. -/
def Device.stageOpt (d : Device) (n : Nat) (p : Desc → Bool) (f : Device → Item → Device × Item × Option Staged) : Device :=
  match d.item n with
  | none => d
  | some x =>
    if x.stage = .running ∧ x.run.staged = none ∧ d.onUnit x ∧ p x.current then
      match f d x with
      | (d1, y, some st) => Device.stageIn n (d1, y, st)
      | (d1, y, none) => d1.setItem n y
    else d

/-- A run of a service whose outputs are not yet computed: `f` computes what it stages. -/
def Device.stageRun (d : Device) (n : Nat) (p : Desc → Bool) (f : Device → Item → Device × Item × Staged) : Device :=
  match d.item n with
  | none => d
  | some x =>
    if x.stage = .running ∧ x.run.staged = none ∧ d.onUnit x ∧ p x.current then Device.stageIn n (f d x) else d

/-- A run that draws nothing further. -/
def Device.stagePure (d : Device) (n : Nat) (p : Desc → Bool) (f : Item → Staged) : Device :=
  d.stageRun n p fun d x => (d, x, f x)

/-- Outputs that are not released: a status and its detail. -/
def stagedPlain (st : Status) (detail : Nat) : Staged :=
  { status := st, detail := detail, result := zeros 16, buffer := none, records := [], session := none }

/-- A verdict without output. -/
def stagedVerdict (validity match_ : Option Bool) : Staged := mapStatus validity match_ (zeros 16) none []

/-- A RESULT. -/
def stagedResult (r : Bytes) : Staged := mapStatus none none r none []

def isService (s : Nat) (x : Desc) : Bool := !x.bundle && x.service == s

/-! ## PIN services (R245 to R256) -/

/-- Translation of a block (R247, R248). -/
def translate (x : Item) (block pan : Bytes) : Staged :=
  let v := x.current.variant
  let field := pinOpen (v / 16) x.keyBytesA block pan
  let out := pinSeal (v % 16) x.keyBytesB (pinFillField (pinFormat (v % 16)) (pinDigits field) x.ops.random) pan
  mapStatus (some (pinValid (pinFormat (v / 16)) field)) none out none []

/-- PIN_TRANSLATE. -/
def execPinTranslate (item : Nat) (s : State) : Host.Outcome State Fault Refusal :=
  s.done (s.dev.stagePure item (isService 0x0101) fun x => translate x x.current.inline0 (x.current.inline1.take 10))

/-- PIN_TRANSLATE_DUKPT: the block and the PAN stand in the buffer (R249). -/
def execPinTranslateDukpt (item : Nat) (s : State) : Host.Outcome State Fault Refusal :=
  s.done (s.dev.stagePure item (isService 0x0102) fun x => translate x (slice x.ops.data 0 16) (slice x.ops.data 16 10))

/-- The validation data of R253: the last 16 PAN digits, filled on the left with 0xF. -/
def validationData (pan : Bytes) : Bytes :=
  let ds := panDigits pan
  packNibbles (List.replicate (16 - ds.length) 0xF ++ ds.drop (ds.length - 16))

/-- The offset method (R253, R254). -/
def offsetVerify (x : Item) : Staged :=
  let c := x.current
  let code := c.variant % 16
  let n := c.paramHi
  let pan := c.inline1.take 10
  let field := pinOpen code x.keyBytesA c.inline0 pan
  let natural := (nibbles (blockEnc (c.variant / 16) x.keyBytesB (validationData pan)) n).map (· % 10)
  let pin := pinDigits field
  let offset := (nibbles (c.inline1.drop 10) 12).take n
  let same := decide (n ≤ pin.length) &&
    (List.range n).all fun i => (pin.getD i 0 + 10 - natural.getD i 0) % 10 == offset.getD i 0
  stagedVerdict (some (pinValid (pinFormat code) field)) (some same)

/-- PIN_VERIFY_OFFSET. -/
def execPinVerifyOffset (item : Nat) (s : State) : Host.Outcome State Fault Refusal :=
  s.done (s.dev.stagePure item (isService 0x0103) offsetVerify)

/-- The PVV method (R255): the transformed security parameter's 16 digits. -/
def pvvVerify (x : Item) : Staged :=
  let c := x.current
  let code := c.variant % 16
  let pan := c.inline1.take 10
  let ds := panDigits pan
  let field := pinOpen code x.keyBytesA c.inline0 pan
  let tsp := (ds.take (ds.length - 1)).drop (ds.length - 12) ++ [(c.inline1.getD 12 0).toNat] ++ (pinDigits field).take 4
  let pvv := (List.range 4).map fun i => Config.pvvDigit x.keyBytesB tsp i % 10
  stagedVerdict (some (pinValid (pinFormat code) field)) (some (pvv == nibbles (slice c.inline1 10 2) 4))

/-- PIN_VERIFY_PVV. -/
def execPinVerifyPvv (item : Nat) (s : State) : Host.Outcome State Fault Refusal :=
  s.done (s.dev.stagePure item (isService 0x0104) pvvVerify)

/-- DUKPT_DATA_DECRYPT: CBC decryption after the initial value (R256). -/
def execDukptDataDecrypt (item : Nat) (s : State) : Host.Outcome State Fault Refusal :=
  s.done (s.dev.stagePure item (isService 0x0105) fun x =>
    let a := pinAlg (x.current.variant / 16)
    let b := algBlock a
    mapStatus none none (zeros 16) (some (cbcDec a x.keyBytesA (slice x.ops.data 0 b) (chop b (x.ops.data.drop 16)))) [])

/-! ## Card authentication (R257 to R260) -/

/-- The transaction data: bundle data in a bundle, else the buffer after the PAN operand. -/
def Item.transaction (x : Item) : Bytes := if x.desc.bundle then bundleData x.steps x.run.step else x.ops.data.drop 16

/-- ARQC verification and ARPC generation (R258, R259). -/
def arqcVerify (x : Item) : Staged :=
  let c := x.current
  let v := c.variant
  let data := x.transaction
  let key := x.keyBytesA
  let alg := if v % 16 = 0 then 4 else v % 16
  let mac := if v % 16 = 0 then retailMac (key.take 16) (isoPad 8 (v / 16 % 4 + 1) data) else (Config.aesCmac (key.take (algLen alg)) data).take 8
  let arqc := slice c.inline0 0 8
  let arpc :=
    if v / 64 = 1 then padTo 8 (Config.arpcRaw 1 alg key arqc (slice c.inline0 11 2))
    else if v / 64 = 2 then padTo 4 (Config.arpcRaw 2 alg key arqc (slice c.inline0 11 4)) else []
  if data.length < 1 ∨ 256 < data.length then stagedPlain .format 3
  else mapStatus none (some (mac == arqc)) arpc none []

/-- ARQC_VERIFY. -/
def execArqcVerify (item : Nat) (s : State) : Host.Outcome State Fault Refusal :=
  s.done (s.dev.stagePure item (isService 0x0201) arqcVerify)

/-- The card verification value: three digits and a nibble of 0xF (R260). -/
def cardValue (x : Item) : Bytes :=
  let c := x.current
  packNibbles (((List.range 3).map fun i =>
    Config.cvvDigit x.keyBytesA (panDigits c.inline1) (slice c.inline1 10 2) (slice c.inline1 12 2) i % 10) ++ [0xF])

/-- CVV_GENERATE. -/
def execCvvGenerate (item : Nat) (s : State) : Host.Outcome State Fault Refusal :=
  s.done (s.dev.stagePure item (isService 0x0210) fun x => stagedResult (cardValue x))

/-- CVV_VERIFY. -/
def execCvvVerify (item : Nat) (s : State) : Host.Outcome State Fault Refusal :=
  s.done (s.dev.stagePure item (isService 0x0211) fun x => stagedVerdict none (some (cardValue x == slice x.current.inline0 0 2)))

/-! ## Message authentication (R261 to R263) -/

/-- The MAC of a message under a key, by service. -/
def macOf (x : Item) : Bytes :=
  let c := x.current
  let key := x.keyBytesA
  let m := x.stream
  if c.service ≤ 0x0302 then retailMac (key.take 16) (isoPad 8 (c.variant / 16) m)
  else if c.service ≤ 0x0304 then
    Config.aesCmac (key.take (if c.variant / 16 = 0 then 32 else if c.variant / 16 = 1 then 16 else 24)) m
  else Config.hmac (key.take 32) m

/-- Generation: RESULT, or the buffer for an HMAC of more than 16 bytes. -/
def macGenerate (x : Item) : Staged :=
  let n := x.current.paramHi
  let mac := (macOf x).take n
  if 16 < n then mapStatus none none (zeros 16) (some mac) [] else stagedResult mac

/-- Verification against INLINE_0. -/
def macVerify (x : Item) : Staged :=
  let n := x.current.paramHi
  stagedVerdict none (some ((macOf x).take n == slice x.current.inline0 0 n))

/-- RETAIL_MAC_GENERATE. -/
def execRetailMacGenerate (item : Nat) (s : State) : Host.Outcome State Fault Refusal :=
  s.done (s.dev.stagePure item (isService 0x0301) macGenerate)
/-- RETAIL_MAC_VERIFY. -/
def execRetailMacVerify (item : Nat) (s : State) : Host.Outcome State Fault Refusal :=
  s.done (s.dev.stagePure item (isService 0x0302) macVerify)
/-- AES_CMAC_GENERATE. -/
def execAesCmacGenerate (item : Nat) (s : State) : Host.Outcome State Fault Refusal :=
  s.done (s.dev.stagePure item (isService 0x0303) macGenerate)
/-- AES_CMAC_VERIFY. -/
def execAesCmacVerify (item : Nat) (s : State) : Host.Outcome State Fault Refusal :=
  s.done (s.dev.stagePure item (isService 0x0304) macVerify)
/-- HMAC_SHA_256_GENERATE. -/
def execHmacSha256Generate (item : Nat) (s : State) : Host.Outcome State Fault Refusal :=
  s.done (s.dev.stagePure item (isService 0x0305) macGenerate)
/-- HMAC_SHA_256_VERIFY. -/
def execHmacSha256Verify (item : Nat) (s : State) : Host.Outcome State Fault Refusal :=
  s.done (s.dev.stagePure item (isService 0x0306) macVerify)

/-! ## The token vault (R270 to R276) -/

/-- Sum of the Luhn digits, the last digit counted once. -/
def luhnSum (ds : List Nat) : Nat :=
  (ds.reverse.zipIdx.map fun e => if e.2 % 2 = 1 then (if 4 < e.1 then 2 * e.1 - 9 else 2 * e.1) else e.1).sum

/-- Positions that the token rules keep (R272). -/
def keptDigit (rules len i : Nat) : Bool := (bitOf rules 0 && decide (len ≤ i + 4)) || (bitOf rules 1 && decide (i < 6))

/-- A candidate token that a random block gives for a PAN. -/
def tokenCandidate (rules : Nat) (pan : List Nat) (block : Bytes) : List Nat :=
  let n := pan.length
  let drawn := (List.range n).map fun i => if keptDigit rules n i then pan.getD i 0 else Config.tokenDigit block i % 10
  if !bitOf rules 2 then drawn
  else match ((List.range n).filter fun i => !keptDigit rules n i).getLast? with
    | none => drawn
    | some p => match (List.range 10).find? fun k => luhnSum (drawn.set p k) % 10 == 0 with
      | some k => drawn.set p k
      | none => drawn

/-- A token's record ID: its value (after R269). -/
def tokenId (ds : List Nat) : Nat := ds.foldl (fun n k => 10 * n + k) 0

/-- A token whose record is in flight: released and not yet committed, or staged by another item. -/
def Device.tokenFlies (d : Device) (tenant id : Nat) : Bool :=
  (d.store.commits.any fun c => c.rcd.ident == vaultIdent tenant id)
    || d.sched.items.any fun e => d.tenantOf e.2 == tenant && (match e.2.run.staged with
      | some st => st.records.any fun r => r.typ == tVault && r.id == id
      | none => false)

/-- A record of an ID is present in this module's store, DELETED ones included, or on its way, or staged by another item (R273). -/
def Device.tokenPresent (d : Device) (tenant id : Nat) : Bool :=
  (currentRec d.records (vaultIdent tenant id)).isSome || d.tokenFlies tenant id

/-- How a search for a token stands: one is found, eight candidates were present, or it goes on. -/
inductive Draw where
  | token (digits : List Nat)
  | full
  | more
deriving DecidableEq, Repr

/-- Candidates in turn: each further one takes a fresh random block, and the run counts those that were present. The first argument
bounds the candidates of one command, those equal to the PAN included: the run then goes on with the next. -/
def Device.drawToken (rules : Nat) (pan : List Nat) (tenant : Nat) (held : List Nat) : Nat → Device → Item → Device × Item × Draw
  | 0, d, x => (d, x, .more)
  | f + 1, d, x =>
    let t := tokenCandidate rules pan x.ops.random
    let present := d.tokenPresent tenant (tokenId t) || held.contains (tokenId t)
    let seen := if t != pan && present then x.run.tries + 1 else x.run.tries
    if t != pan && !present then (d, x, .token t)
    else if 8 ≤ seen then (d, x, .full)
    else
      let next := d.random 32
      Device.drawToken rules pan tenant held f d.drawn { x with
        ops := { x.ops with random := next }, run := { x.run with draws := x.run.draws ++ [next], tries := seen } }

/-- A new vault record, sealed under its vault key by the table that made it: under a stored key with the entry's bytes and a nonce
of its own (R274; 10_record_store.md R421). -/
def Device.tokenRecord (d : Device) (x : Item) (id : Nat) (pan expiry : Bytes) : Device × NewRec :=
  let body := vaultBody x.current.keyA (pan.take 10) expiry
  let r : NewRec := { typ := tVault, id := id, version := 0, state := 1, frag := 0, fragCount := 1, body := body }
  if x.current.keyA % 256 = 2 then
    (d.drawn, { r with sealed := sealVault (padTo 32 x.keyBytesA) (d.random 12) body (d.tenantOf x) id })
  else (d, r)

/-- Tokenize and re-tokenize: a token drawn for a PAN, its record released, or eight candidates present. -/
def Device.newToken (held : List Nat) (pan expiry : Bytes) (d : Device) (x : Item) : Device × Item × Option Staged :=
  match Device.drawToken x.current.paramHi (panDigits pan) (d.tenantOf x) held 64 d x with
  | (d1, y, .more) => (d1, y, none)
  | (d1, y, .full) => (d1, y, some (stagedPlain .refusedQuota 1))
  | (d1, y, .token t) =>
    ((d1.tokenRecord y (tokenId t) pan expiry).1, y,
      some { stagedResult (panOperand t) with records := [(d1.tokenRecord y (tokenId t) pan expiry).2] })

/-- TOKENIZE. `held` are the record IDs that modules of the placement report present. -/
def execTokenize (item : Nat) (held : List Nat) (s : State) : Host.Outcome State Fault Refusal :=
  s.done (s.dev.stageOpt item (isService 0x0601) fun d x =>
    d.newToken held (x.current.inline1.take 10) (slice x.current.inline1 10 2) x)

/-- The PAN operand and expiry of a vault-class entry. -/
def Item.vaultPan (x : Item) : Bytes := x.keyBytesB.take 10
def Item.vaultExpiry (x : Item) : Bytes := slice x.keyBytesB 10 2

/-- DETOKENIZE (R274). -/
def execDetokenize (item : Nat) (s : State) : Host.Outcome State Fault Refusal :=
  s.done (s.dev.stagePure item (isService 0x0602) fun x => stagedResult (x.vaultPan ++ x.vaultExpiry))

/-- RE_TOKENIZE (R274). -/
def execReTokenize (item : Nat) (held : List Nat) (s : State) : Host.Outcome State Fault Refusal :=
  s.done (s.dev.stageOpt item (isService 0x0604) fun d x => d.newToken held x.vaultPan x.vaultExpiry x)

/-- The state of the record an item holds. -/
def Item.vaultState (x : Item) : Nat := match x.ops.keyB with | some e => e.attr.state | none => 0

/-- The lifecycle service with an action. -/
def isLifecycle (action : Nat) (x : Desc) : Bool := isService 0x0603 x && x.paramHi == action

/-- A token's record as it stands now: the store's, else the copy that its slot was filled from. -/
def Device.tokenRec (d : Device) (tenant id : Nat) : Option Rec :=
  match currentRec d.records (vaultIdent tenant id) with
  | some r => some r
  | none => match d.findRun tenant true id 0 with
    | some (_, r) => currentRec r.fetched (vaultIdent tenant id)
    | none => none

/-- A change of a token record's state; the vault key and the contents stay. It acts on the record as it then stands, and waits while a
record of the token is in flight (DEDUCED, log entry 144). A DELETED record resolves as absent (R270). -/
def Device.lifecycle (new result : Nat) (d : Device) (x : Item) : Device × Item × Option Staged :=
  let id := x.current.keyB
  let out := stagedResult [BitVec.ofNat 8 result]
  if d.tokenFlies (d.tenantOf x) id then (d, x, none)
  else match d.tokenRec (d.tenantOf x) id with
    | some r =>
      if r.state = 3 then (d, x, some (stagedPlain .keyAbsent 0))
      else if r.state = new then (d, x, some out)
      else (d, x, some { out with
        records := [{ typ := tVault, id := id, version := 0, state := new, frag := 0, fragCount := 1, body := d.clearBody r }] })
    | none => (d, x, some (stagedPlain .keyAbsent 0))

/-- TOKEN_QUERY. -/
def execTokenQuery (item : Nat) (s : State) : Host.Outcome State Fault Refusal :=
  s.done (s.dev.stagePure item (isLifecycle 0) fun x => stagedResult [BitVec.ofNat 8 x.vaultState])
/-- TOKEN_SUSPEND. -/
def execTokenSuspend (item : Nat) (s : State) : Host.Outcome State Fault Refusal :=
  s.done (s.dev.stageOpt item (isLifecycle 1) fun d x => d.lifecycle 2 2 x)
/-- TOKEN_RESUME. -/
def execTokenResume (item : Nat) (s : State) : Host.Outcome State Fault Refusal :=
  s.done (s.dev.stageOpt item (isLifecycle 2) fun d x => d.lifecycle 1 1 x)
/-- TOKEN_DELETE. -/
def execTokenDelete (item : Nat) (s : State) : Host.Outcome State Fault Refusal :=
  s.done (s.dev.stageOpt item (isLifecycle 3) fun d x => d.lifecycle 3 0 x)

/-! ## Diagnostics, bundles and operator tables -/

/-- ECHO (R277). -/
def execEcho (item : Nat) (s : State) : Host.Outcome State Fault Refusal :=
  s.done (s.dev.stagePure item (isService 0x0F00) fun x => stagedResult x.current.inline0)

/-- SERVICE_BUNDLE: a bundle whose step has ended goes on to its next step, whose checks and operand requests follow, or
completes (03_host_queues.md R82 to R85). -/
def execServiceBundle (item : Nat) (s : State) : Host.Outcome State Fault Refusal :=
  s.done (match s.dev.item item with
    | some x => if x.desc.bundle then s.dev.settle item else s.dev
    | none => s.dev)

/-- A table run as its bundles give it: RESULT, the output stream, and the status words. -/
def Device.runOperator (d : Device) (x : Item) : Device × Item × Staged :=
  match d.runTable x with
  | none => (d, x, stagedPlain .table 1)
  | some t =>
    let c := x.current
    let l := runTableBody t c.inline0 (if c.buf then zeros 16 else c.inline1) x.ops.random x.stream x.keyBytesA x.keyBytesB
    let out := padTo t.outBytes l.out
    if c.buf ∧ c.outCap < t.outBytes then (d, x, stagedPlain .format 3)
    else (d, x, mapStatus (l.sw.getD 0 none) (l.sw.getD 1 none) l.result (if t.outBytes = 0 then none else some out) [])

/-- OPERATOR_TABLE_SERVICE. -/
def execOperatorTableService (item : Nat) (s : State) : Host.Outcome State Fault Refusal :=
  s.done (s.dev.stageRun item (fun c => !c.bundle && isOperator c.service) fun d x => d.runOperator x)

end Sys2Proof.Machine
end

