-- ==== Sys2Proof/Machine/KeyServices.lean ====
section
/-! DEFINITION. Key management: the key-side services, rotation and the end of a re-wrap (06_payment_services.md R264 to R269;
09_key_hierarchy.md R402 to R404, R409 to R411). -/

namespace Sys2Proof.Machine

/-! ## Handles, check values, versions -/

/-- A stored-class handle (09_key_hierarchy.md R378). -/
def storedHandle (id version : Nat) : Nat := id * 2 ^ 24 + version * 256 + 2

/-- The check value of R265. -/
def checkValue (alg : Nat) (key : Bytes) : Bytes :=
  if algTdes alg then padTo 5 ((Config.tdesEnc (key.take (algLen alg)) (zeros 8)).take 3)
  else (Config.aesCmac (key.take (algLen alg)) (zeros 16)).take 5

/-- A public key as R322 writes it, of a private key's stored form (R292). -/
def Device.publicOf (d : Device) (alg : Nat) (key : Bytes) : Bytes :=
  if alg = 0x10 then
    let n := 4 * rsaWords key
    beBytes (2 * n) (beNat (key.take n) * beNat (slice key n n))
  else if alg = 0x11 then Config.publicKey 65 alg key
  else if alg = 0x12 then Config.publicKey 97 alg key
  else if alg = 0x13 then
    match (d.slotHolding key).bind fun k => d.units.curves.find? k with
    | none => []
    | some c =>
      let w := (hdr c.set 6 2 + 7) / 8
      match ecMul (curveField c.set 0x010) (curveField c.set 0x090) (hdr c.set 8 2) (beNat (key.take ((hdr c.set 8 2 + 7) / 8)))
          (some (curveField c.set 0x190, curveField c.set 0x210)) with
      | some (x, y) => [0x04] ++ beBytes w x ++ beBytes w y
      | none => []
  else if alg = 0x14 then Config.publicKey 1952 alg key
  else kemPublic key

/-- The check value of a key: R265, or R323 for a public-key key. -/
def Device.checkOf (d : Device) (a : KeyAttr) (key : Bytes) : Bytes :=
  if a.pk then (Config.sha3 (d.publicOf a.alg key)).take 5 else checkValue a.alg key

/-- RESULT of R265: the handle of the version and its check value. -/
def Device.keyResult (d : Device) (a : KeyAttr) (key : Bytes) : Bytes :=
  leBytes 8 (storedHandle a.keyId a.version) ++ d.checkOf a key

/-- The records of a key version (R420). -/
def keyRecords (a : KeyAttr) (key : Bytes) : List NewRec :=
  let bodies := keyBodies a key
  bodies.zipIdx.map fun e =>
    { typ := tKey, id := a.keyId, version := a.version, state := 1, frag := e.2, fragCount := bodies.length, body := e.1 }

/-- The records of a retired version: its check value, and no key bytes (R420). -/
def Device.retiredRecords (d : Device) (a : KeyAttr) (key : Bytes) : List NewRec :=
  (List.range (slotsFor key.length)).map fun i =>
    { typ := tKey, id := a.keyId, version := a.version, state := 2, frag := i, fragCount := slotsFor key.length, body := d.checkOf a key }

/-- Versions of a key ID whose store is in flight: released, or staged by another item (R404). -/
def Device.versionsInFlight (d : Device) (tenant id : Nat) (except_ : Option Nat) : List Nat :=
  (d.store.commits.filter fun c => c.rcd.ident.typ == tKey && c.rcd.ident.tenant == tenant && c.rcd.ident.id == id).map
      (fun c => c.rcd.ident.version)
    ++ d.sched.items.flatMap fun e =>
      if some e.1 = except_ ∨ d.tenantOf e.2 ≠ tenant then []
      else match e.2.run.staged with
        | some st => (st.records.filter fun r => r.typ == tKey && r.id == id).map fun r => r.version
        | none => []

/-- Stages a key-side or engine service that stores versions of a key: it waits while the same key ID has a version in flight,
so that version creation is serialised (R404). -/
def Device.stageSerial (d : Device) (n : Nat) (p : Desc → Bool) (keyB : Bool) (f : Device → Item → Device × Item × Staged) : Device :=
  match d.item n with
  | none => d
  | some x =>
    let id := bitsOf (if keyB then x.current.keyB else x.current.keyA) 63 24
    if d.versionsInFlight (d.tenantOf x) id (some n) = [] then d.stageRun n p f else d

/-- What an item that creates a key knows of the key ID: this store holds it, the peers of its placement were asked (or there are none
to ask), or they have still to be (R264; 10_record_store.md R437). -/
inductive KeyKnown where
  | known
  | unasked
deriving DecidableEq, Repr

/-- The record that stands for a key ID from its creation on. -/
def Device.firstIdent (d : Device) (x : Item) : Ident := keyIdent (d.tenantOf x) (bitsOf x.current.keyB 63 24) 1 0

def Device.keyKnown (d : Device) (x : Item) : KeyKnown :=
  if d.keyVersions (d.tenantOf x) (bitsOf x.current.keyB 63 24) ≠ [] ∨ x.ops.cleared ∨ x.ops.found ≠ []
      ∨ d.readMembers (d.firstIdent x) = [] then .known
  else .unasked

/-- Stages a service that creates a key: the peers are asked first whether the tenant holds the key ID (R264), and it waits while a
version of that key ID is in flight (R404). -/
def Device.stageNewKey (d : Device) (n : Nat) (p : Desc → Bool) (f : Device → Item → Device × Item × Option Staged) : Device :=
  match d.item n with
  | none => d
  | some x =>
    if d.versionsInFlight (d.tenantOf x) (bitsOf x.current.keyB 63 24) (some n) ≠ [] then d
    else match d.keyKnown x with
      | .known => d.stageOpt n p f
      | .unasked =>
        if x.stage = .running ∧ x.run.staged = none ∧ d.onUnit x ∧ p x.current then d.peerRead (probeKey n) (d.firstIdent x) false else d

/-- Stages a service that creates a key in one step. -/
def Device.stageCreate (d : Device) (n : Nat) (p : Desc → Bool) (f : Device → Item → Staged) : Device :=
  d.stageNewKey n p fun d x => (d, x, some (f d x))

/-- A key created for KEY_B, version 1: refused when the tenant holds the key ID (R264). -/
def Device.createKey (d : Device) (x : Item) (a : KeyAttr) (key : Bytes) (buffer : Option Bytes) : Staged :=
  let tenant := d.tenantOf x
  let id := bitsOf x.current.keyB 63 24
  let b := { a with tenant := tenant, keyId := id, version := 1, vault := false, ceremony := false, tdesWeak := !a.pk && tdesWeak a.alg key, state := 1 }
  if d.keyVersions tenant id ≠ [] ∨ x.ops.found ≠ [] then stagedPlain .keyUsage 2
  else mapStatus none none (d.keyResult b key) buffer (keyRecords b key)

/-- Attributes of a key by its codes. -/
def newAttr (usage alg : Nat) (exportable pk : Bool) : KeyAttr :=
  { KeyAttr.decode [] with usage := usage, alg := alg, exportable := exportable, pk := pk }

/-- Usage, ALG and EXPORTABLE of INLINE_0 (R265). -/
def Desc.keySpec (c : Desc) : KeyAttr :=
  newAttr (c.inline0.getD 0 0).toNat (c.inline0.getD 1 0).toNat (bitOf (c.inline0.getD 2 0).toNat 0) false

/-! ## Generate, rotate, import, export, status, retire -/

/-- KEY_GENERATE: the key is drawn. -/
def execKeyGenerate (item : Nat) (s : State) : Host.Outcome State Fault Refusal :=
  s.done (s.dev.stageCreate item (isService 0x0401) fun d x =>
    d.createKey x x.current.keySpec (padTo (algLen x.current.keySpec.alg) x.ops.random) none)

/-- The next version of a key: same usage, algorithm and EXPORTABLE (R265). -/
def Device.nextVersion (d : Device) (a : KeyAttr) (flying : List Nat) (random : Bytes) : Option (KeyAttr × Bytes) :=
  let v := flying.foldl max (d.highestVersion a.tenant a.keyId) + 1
  let key := padTo (algLen a.alg) random
  if 0xFFFF < v then none
  else some ({ a with version := v, ceremony := false, tdesWeak := tdesWeak a.alg key, state := 1 }, key)

/-- KEY_ROTATE. -/
def execKeyRotate (item : Nat) (s : State) : Host.Outcome State Fault Refusal :=
  s.done (s.dev.stageSerial item (isService 0x0402) false fun d x =>
    match x.ops.keyA with
    | none => (d, x, stagedPlain .keyAbsent 0)
    | some e =>
      if e.attr.pk ∨ e.attr.alg ≠ x.current.variant % 16 then (d, x, stagedPlain .keyUsage 0)
      else match d.nextVersion e.attr [] x.ops.random with
        | none => (d, x, stagedPlain .keyUsage 3)
        | some (a, key) => (d, x, mapStatus none none (d.keyResult a key) none (keyRecords a key)))

/-- ALG by a block's algorithm byte and the key's length; none for any other pair. -/
def blockAlg (algorithm : Nat) (n : Nat) : Option Nat :=
  if algorithm = 'A'.toNat then (if n = 16 then some 1 else if n = 24 then some 2 else if n = 32 then some 3 else none)
  else if algorithm = 'T'.toNat then (if n = 16 then some 4 else if n = 24 then some 5 else none)
  else if algorithm = 'H'.toNat ∧ n = 32 then some 3
  else none

/-- KEY_BLOCK_IMPORT (R265 to R268), of a block whose header has been checked. -/
def Device.importBlock (d : Device) (x : Item) : Staged :=
  let blk := x.ops.data
  let kbpk := x.keyBytesA
  let alg := x.current.variant % 16
  let exp := (blk.getD 11 0).toNat
  if !Config.keyBlockMac kbpk blk then stagedVerdict none (some false)
  else
    let key := Config.keyBlockKey kbpk blk
    match blockUsage (slice blk 5 2) (slice blk 8 1), blockAlg (blk.getD 7 0).toNat key.length with
    | some usage, some a =>
      if !createOk usage a then stagedPlain .format 7
      else if d.keyVersions (d.tenantOf x) (bitsOf x.current.keyB 63 24) ≠ [] ∨ x.ops.found ≠ [] then stagedPlain .keyUsage 2
      else if algRank alg < algRank a then stagedPlain .keyUsage 5
      else d.createKey x (newAttr usage a (exp ≠ 'N'.toNat) false) key none
    | _, _ => stagedPlain .format 7

def execKeyBlockImport (item : Nat) (s : State) : Host.Outcome State Fault Refusal :=
  s.done (s.dev.stageCreate item (isService 0x0403) fun d x => d.importBlock x)

/-- Characters of the block that exports a key of n bytes: header, enciphered length and key, MAC. -/
def blockLen (tdes : Bool) (n : Nat) : Nat :=
  let b := if tdes then 8 else 16
  16 + 2 * ((n + 2 + b - 1) / b * b) + 2 * b

/-- Usage and mode of use of an exported block, by usage code (R266's table read backwards). Where the table gives several modes, or
no usage, the spec does not say which characters stand there: they are free (log entry 135). -/
def exportUse (usage : Nat) : Bytes × Bytes :=
  let two := fun (t : String) => (ascii t, [Config.blockMode usage])
  match usage with
  | 0x11 => two "K1" | 0x21 => two "P0" | 0x22 => two "V1" | 0x23 => two "V2" | 0x24 => two "B0"
  | 0x31 => (ascii "D0", ascii "E") | 0x32 => (ascii "D0", ascii "D")
  | 0x41 => two "E0" | 0x42 => two "C0" | 0x51 => two "M3" | 0x52 => two "M6" | 0x53 => two "M7"
  | u => ([Config.blockUsageChar u 0, Config.blockUsageChar u 1], [Config.blockMode u])

/-- The 16 characters before an exported key: version letter, length, usage, algorithm, mode, version number, no export, no
optional blocks (R265, R266, R268). -/
def exportHeader (tdes : Bool) (n : Nat) (a : KeyAttr) : Bytes :=
  let (u, m) := exportUse a.usage
  let digit := fun k => BitVec.ofNat 8 (48 + n / 10 ^ k % 10)
  let alg := if algTdes a.alg then "T" else if a.usage = 0x53 then "H" else "A"
  ascii (if tdes then "B" else "D") ++ [digit 3, digit 2, digit 1, digit 0] ++ u ++ ascii alg ++ m ++ ascii "00" ++ ascii "N" ++ ascii "0000"

/-- KEY_BLOCK_EXPORT (R265, R267). -/
def Device.exportBlock (d : Device) (x : Item) : Staged :=
  match x.ops.keyB with
  | none => stagedPlain .keyAbsent 0
  | some e =>
    let alg := x.current.variant % 16
    let n := blockLen (algTdes alg) (algLen e.attr.alg)
    if !e.attr.exportable ∨ e.attr.pk then stagedPlain .keyUsage 4
    else if algRank alg < algRank e.attr.alg then stagedPlain .keyUsage 5
    else if x.current.outCap < n then stagedPlain .format 3
    else mapStatus none none (d.keyResult e.attr e.key ++ leBytes 2 n)
      (some (exportHeader (algTdes alg) n e.attr
        ++ padTo (n - 16) (Config.keyBlockRaw alg x.keyBytesA (exportHeader (algTdes alg) n e.attr) (e.key.take (algLen e.attr.alg))))) []

def execKeyBlockExport (item : Nat) (s : State) : Host.Outcome State Fault Refusal :=
  s.done (s.dev.stageRun item (isService 0x0404) fun d x => (d, x, d.exportBlock x))

/-- The store with the records that an item's lookup found at peers. -/
def Device.withFound (d : Device) (x : Item) : Device :=
  d.mapStore fun s => { s with written := s.written ++ x.ops.found.map fun r => (r, 0) }

/-- Versions of a key ID whose creation is still in flight: no committed record of them exists. -/
def Device.uncommitted (d : Device) (tenant id : Nat) : List Nat :=
  let open_ := fun (r : Rec) => d.store.commits.any fun c => c.rcd.ident == r.ident && c.rcd.seq == r.seq && c.rcd.origin == r.origin
  let mine := d.records.filter fun r => r.ident.typ == tKey && r.ident.tenant == tenant && r.ident.id == id && r.ident.frag == 0
  (mine.map fun r => r.ident.version).filter fun v => mine.all fun r => r.ident.version != v || open_ r

/-- State and check value of a key version (R269). -/
def Device.versionState (d : Device) (tenant id v : Nat) : Nat × Bytes :=
  if (d.versionsInFlight tenant id none).contains v then (3, zeros 5)
  else match d.keyRecord tenant id v with
    | none => (0, zeros 5)
    | some r =>
      if r.state = 2 then (2, slice r.body 0 5)
      else match d.storedKey tenant id v with
        | some (a, key) => (1, d.checkOf a key)
        | none => (0, zeros 5)

/-- KEY_STATUS (R269), of this store and of what the peers gave; a weak TDES key fails every item that names it
(05_cipher_lanes.md R183). -/
def Device.keyStatus (d : Device) (x : Item) : Staged :=
  let e := d.withFound x
  let tenant := d.tenantOf x
  let h := x.current.keyA
  let id := bitsOf h 63 24
  let v := bitsOf h 23 8
  let high := ((e.keyVersions tenant id).filter fun k => !(d.uncommitted tenant id).contains k).foldl max 0
  let weak := match e.storedKey tenant id v with
    | some (a, key) => !a.pk && tdesWeak a.alg key
    | none => false
  if weak then stagedPlain .keyUsage 0
  else stagedResult (leBytes 8 h ++ leBytes 1 (e.versionState tenant id v).1 ++ leBytes 2 high ++ (e.versionState tenant id v).2)

def execKeyStatus (item : Nat) (s : State) : Host.Outcome State Fault Refusal :=
  s.done (s.dev.stageRun item (isService 0x0405) fun d x => (d, x, d.keyStatus x))

/-- KEY_VERSION_RETIRE (R265). -/
def Device.retireKey (d : Device) (x : Item) : Staged :=
  match x.ops.keyA with
  | none => stagedPlain .keyAbsent 0
  | some e =>
    let tenant := d.tenantOf x
    let live := (d.keyVersions tenant e.attr.keyId).filter fun v => !d.keyRetired tenant e.attr.keyId v
    if live.all (· == e.attr.version) then stagedPlain .keyUsage 0
    else mapStatus none none (d.keyResult e.attr e.key) none (d.retiredRecords e.attr e.key)

def execKeyVersionRetire (item : Nat) (s : State) : Host.Outcome State Fault Refusal :=
  s.done (s.dev.stageSerial item (isService 0x0406) false fun d x => (d, x, d.retireKey x))

/-! ## Rotation and re-wrap (09_key_hierarchy.md R402 to R404, R409 to R411) -/

def keyAt (o : Nat) : Nat := Page.key.base 0 + o

/-- The keys a rotation takes: of each key ID of the tenant its highest active version, where the usage matches and neither
PK nor CEREMONY is set (R403). -/
def Device.rotates (d : Device) (tenant usage : Nat) : List KeyAttr :=
  let ids := ((d.records.filter fun r => r.ident.typ == tKey && r.ident.tenant == tenant && r.state == 1).map fun r => r.ident.id).dedup
  (ids.filterMap fun id =>
    let live := (d.keyVersions tenant id).filter fun v => !d.keyRetired tenant id v
    (d.storedKey tenant id (live.foldl max 0)).map Prod.fst).filter fun a =>
      !a.pk && !a.ceremony && (usage == 0 || a.usage == usage)

/-- One key of a rotation. -/
def Device.rotateKey (pgen : Nat) (d : Device) (a : KeyAttr) : Device :=
  let todo := fun (d : Device) (f : KeyOp → KeyOp) => d.mapKeys fun k => { k with op := k.op.map f }
  match d.nextVersion a (d.versionsInFlight a.tenant a.keyId none) (d.random 32) with
  | none => todo d fun o => { o with skipped := o.skipped + 1 }
  | some (b, key) =>
    todo (d.drawn.releaseRecords none ((keyRecords b key).map (d.recordOf a.tenant pgen)))
      fun o => { o with todo := o.todo ++ [(b.keyId, b.version)] }

/-- ROTATE; its work takes no lane time (R403; DESIGN CHOICE, log entry 166). -/
def Device.rotate (d : Device) : Device :=
  d.onIdle (keyAt Off.keyCmd) 0 0 fun d =>
    if (d.cust.mode ≠ .service ∧ d.cust.mode ≠ .maintenance) ∨ d.keys.op.isSome ∨ d.progRunning (keyAt 0) then d.writeLost (keyAt 0)
    else
      let tenant := d.reg (keyAt Off.keyRotTenant)
      let vf := List.find? (fun e => e.2.tenant == tenant && e.2.st != .absent && e.2.st != .destroyed) d.front.vfs
      let keys := if vf.isSome then d.rotates tenant (d.field (keyAt Off.keyRotUsage) 7 0) else []
      let op : KeyOp := { rewrap := false, tenant := tenant, todo := [], skipped := 0 }
      let d1 := ((d.commandStart (keyAt Off.keyCmd) 0).progStart (keyAt 0) 0x0001 keys.length).mapKeys fun k => { k with op := some op }
      keys.foldl (Device.rotateKey (match vf with | some e => e.2.pgen | none => 0)) d1

def execRotate (s : State) : Host.Outcome State Fault Refusal := s.done s.dev.rotate

/-- Every record an operation released has been committed. -/
def Device.opCommitted (d : Device) (o : KeyOp) : Bool :=
  !d.store.commits.any fun c => o.todo.contains (c.rcd.ident.id, c.rcd.ident.version) && c.item.isNone
    && (o.rewrap || c.rcd.ident.tenant == o.tenant)

/-- ROTATION_END. -/
def Device.rotationEnd (d : Device) : Device :=
  match d.keys.op with
  | some o =>
    if o.rewrap || !d.opCommitted o then d
    else
      let d1 := ((d.mapKeys fun k => { k with op := none }).progPos (keyAt 0) o.todo.length).progEnd (keyAt 0) false
      ((d1.setReg (keyAt Off.keyRotResult) o.skipped).commandEnd (keyAt Off.keyCmd) 0 1).raiseInt .key 0 2
  | none => d

def execRotationEnd (s : State) : Host.Outcome State Fault Refusal := s.done s.dev.rotationEnd

/-- REWRAP_END: the bank is rewritten ROOTED, without the previous root (R402). -/
def Device.rewrapEnd (d : Device) : Device :=
  match d.keys.op with
  | some o =>
    if !o.rewrap || !d.opCommitted o then d
    else
      let d1 := ((d.mapKeys fun k => { k with op := none }).progPos (keyAt 0) o.todo.length).progEnd (keyAt 0) false
      let d2 := (d1.bankUpdate fun b => { b with st := .rooted, prevEpoch := 0, prevRoot := zeros 32 }).setRootClass 2
      d2.raiseInt .key 0 2
  | none => d

def execRewrapEnd (s : State) : Host.Outcome State Fault Refusal := s.done s.dev.rewrapEnd

end Sys2Proof.Machine
end

