-- ==== Sys2Proof/Machine/EngineServices.lean ====
section
/-! DEFINITION. The engine services: what a job stages in its pair's gate (07_bignum_engines.md R291 to R296, R312 to R314,
R320 to R325). -/

namespace Sys2Proof.Machine

/-- An item with its signing randomness, drawn once before the first run; a rerun uses it again (R298, R301). -/
def Device.signingOf (d : Device) (x : Item) : Device × Item × Bytes :=
  match x.run.signing with
  | some r => (d, x, r)
  | none => (d.drawnFor 64, { x with run := { x.run with signing := some (d.random 64) } }, d.random 64)

/-- A service whose engine program takes random bytes of its own. -/
def Device.stageDrawn (d : Device) (n : Nat) (p : Desc → Bool) (f : Device → Item → Bytes → Staged) : Device :=
  d.stageRun n p fun d x =>
    ((d.signingOf x).1, (d.signingOf x).2.1, f (d.signingOf x).1 (d.signingOf x).2.1 (d.signingOf x).2.2)

/-- A buffer output, where it fits OUT_CAP (R324). -/
def stagedBuffer (x : Item) (result out : Bytes) : Staged :=
  if x.current.outCap < out.length then stagedPlain .format 3 else mapStatus none none result (some out) []

/-- The scheme of a padded RSA signature: padding and hash of the variant. -/
def rsaScheme (v : Nat) : Nat := 0x1000 + v

/-- RSA_SIGN: the signature has the modulus's length. -/
def execRsaSign (item : Nat) (s : State) : Host.Outcome State Fault Refusal :=
  s.done (s.dev.stageDrawn item (isService 0x0501) fun _ x r =>
    stagedBuffer x (zeros 16) (Config.sign (8 * rsaWords x.keyBytesA) (rsaScheme x.current.variant) x.keyBytesA x.ops.data r))

/-- RSA_VERIFY. -/
def execRsaVerify (item : Nat) (s : State) : Host.Outcome State Fault Refusal :=
  s.done (s.dev.stagePure item (isService 0x0502) fun x =>
    let b := x.ops.data
    let n := leNat (slice b 0 2) / 8
    stagedVerdict none (some (Config.verify (rsaScheme x.current.variant) (slice b 0 (8 + n)) (b.drop (8 + 2 * n)) (slice b (8 + n) n))))

/-- RSA_OAEP_KEY_IMPORT (R325). -/
def Device.oaepImport (d : Device) (x : Item) : Staged :=
  let a := x.current.keySpec
  if x.ops.data.length ≠ 8 * rsaWords x.keyBytesA then stagedPlain .format 3
  else match Config.oaepDecode (x.current.variant % 16) x.keyBytesA x.ops.data with
    | none => stagedVerdict none (some false)
    | some key => if key.length = algLen a.alg then d.createKey x a key none else stagedVerdict none (some false)

def execRsaOaepKeyImport (item : Nat) (s : State) : Host.Outcome State Fault Refusal :=
  s.done (s.dev.stageCreate item (isService 0x0503) fun d x => d.oaepImport x)

/-! ### RSA key generation (R292, R294, R297; 02_register_convention.md R61) -/

/-- A number below m that a times it is 1 modulo m, by Euclid; the first argument bounds the steps. -/
def modInv (a m : Nat) : Nat :=
  let step := fun (s : Int × Int × Int × Int) (_ : Nat) =>
    if s.2.1 = 0 then s else (s.2.1, s.1 % s.2.1, s.2.2.2, s.2.2.1 - s.1 / s.2.1 * s.2.2.2)
  let r := (List.range (2 * bitLen m + 2)).foldl step ((m : Int), ((a % m : Nat) : Int), 0, 1)
  (r.2.2.1 % (m : Int)).toNat

/-- One Miller–Rabin round: n − 1 is d × 2^s, and b the base. -/
def millerRabin (n b : Nat) : Bool :=
  let s := ((List.range (bitLen n)).find? fun k => (n - 1) / 2 ^ k % 2 == 1).getD 0
  let y := modPow n (bitLen n) b ((n - 1) / 2 ^ s)
  y == 1 || (List.range s).any fun r => modPow n (bitLen n) y (2 ^ r) == n - 1

/-- An odd number that every Miller–Rabin base of a list passes. The rounds follow FIPS 186-5, whose number the spec does not give:
the two bases that an engine draws (DESIGN CHOICE, log entry 149). -/
def probablePrime (bases : Bytes) (n : Nat) : Bool :=
  n % 2 == 1 && decide (3 < n) && [slice bases 0 32, slice bases 32 32].all fun b => millerRabin n (2 + beNat b % (n - 3))

/-- The RSA public exponent of generated keys (R294). -/
def rsaExponent : Nat := 65537

/-- The i-th candidate for a prime of so many bits: odd, with its two highest bits set, so that the product of two has all its bits. -/
def primeCandidate (r : Bytes) (i bits : Nat) : Nat :=
  let c := beNat (Config.primeBytes r i) % 2 ^ bits
  c ||| (3 * 2 ^ (bits - 2)) ||| 1

/-- The candidates, n of them from the i-th on, that are probable primes and fit the exponent. -/
def primesFrom (bases r : Bytes) (bits i n : Nat) : List (Nat × Nat) :=
  ((List.range n).map fun k => (i + k, primeCandidate r (i + k) bits)).filter fun e =>
    probablePrime bases e.2 && Nat.gcd (e.2 - 1) rsaExponent == 1

/-- The stored form of an RSA key of two primes: p, q, dP, dQ, qInv (R292). -/
def rsaForm (w p q : Nat) : Bytes :=
  beBytes (4 * w) p ++ beBytes (4 * w) q ++ beBytes (4 * w) (modInv rsaExponent (p - 1)) ++ beBytes (4 * w) (modInv rsaExponent (q - 1))
    ++ beBytes (4 * w) (modInv q p)

/-- A batch of candidates is tried: the key, once two distinct probable primes stand among those tried so far; and how many were. -/
def rsaSearch (bases r : Bytes) (w tried : Nat) : Option Bytes × Nat :=
  match primesFrom bases r (32 * w) 0 (tried + 64) with
  | (_, p) :: rest => match rest.find? fun e => e.2 != p with
    | some (k, q) => (some (rsaForm w p q), k + 1)
    | none => (none, tried + 64)
  | [] => (none, tried + 64)

/-- Bytes of a private key's stored form (R292). -/
def Device.privateLen (d : Device) (x : Desc) : Nat :=
  let a := pairAlg x.variant
  if a = 0x10 then 5 * (x.paramHi * 4) else if a = 0x12 then 48 else if a = 0x15 then 64
  else if a = 0x13 then (d.curveBits (x.variant - 0x80) + 7) / 8 + 8 else 32

/-- A generated private key, RSA apart; a slot curve's carries the set's digest (R292). -/
def Device.newPrivate (d : Device) (x : Desc) (r : Bytes) : Bytes :=
  let n := d.privateLen x
  let a := pairAlg x.variant
  if a = 0x13 then Config.privateKey (n - 8) a r ++ d.curveDigest (x.variant - 0x80)
  else if a = 0x14 ∨ a = 0x15 then r.take n else Config.privateKey n a r

/-- What KEY_PAIR_GENERATE stages for a generated key: never exportable (R294). -/
def Device.generatePair (d : Device) (x : Item) (key : Bytes) : Staged :=
  let a := newAttr (x.current.inline0.getD 0 0).toNat (pairAlg x.current.variant) false true
  let pub := d.publicOf a.alg key
  if x.current.outCap < pub.length then stagedPlain .format 3 else d.createKey x a key (some pub)

/-- KEY_PAIR_GENERATE: an RSA generation reports the candidates it has tried on the page of its even engine, and goes on until it
has its primes (R61, R294). -/
def Device.pairRun (d : Device) (x : Item) : Device × Item × Option Staged :=
  let o := d.signingOf x
  if x.rsaGen then
    let f := rsaSearch (x.run.blinds.getD 0 []) o.2.2 x.current.paramHi x.run.tries
    let e := match x.run.unit with | some (.pair p) => o.1.progPos (bnAt (2 * p) 0) f.2 | _ => o.1
    (e, { o.2.1 with run := { o.2.1.run with tries := f.2 } }, f.1.map (d.generatePair x))
  else (o.1, o.2.1, some (d.generatePair x (d.newPrivate x.current o.2.2)))

def execKeyPairGenerate (item : Nat) (s : State) : Host.Outcome State Fault Refusal :=
  s.done (s.dev.stageNewKey item (isService 0x0504) fun d x => d.pairRun x)

/-- PUBLIC_KEY_EXPORT (R323). A slot-curve key needs a slot that holds its set (R296). -/
def execPublicKeyExport (item : Nat) (s : State) : Host.Outcome State Fault Refusal :=
  s.done (s.dev.stageRun item (isService 0x0505) fun d x =>
    match x.ops.keyA with
    | none => (d, x, stagedPlain .keyAbsent 0)
    | some e =>
      let pub := d.publicOf e.attr.alg e.key
      if pub = [] then (d, x, stagedPlain .keyUsage 0) else (d, x, stagedBuffer x (d.keyResult e.attr e.key) pub))

/-- Bytes of one half of a signature. -/
def Device.sigHalf (d : Device) (x : Desc) : Nat :=
  if x.service = 0x0512 ∨ x.service = 0x0513 then (d.curveBits x.variant + 7) / 8 else ecSigLen x.variant / 2

/-- The set that a slot curve's signature is over; nothing for a named curve. -/
def Device.curveOf (d : Device) (x : Desc) : Bytes :=
  if x.service = 0x0512 ∨ x.service = 0x0513 then
    match d.units.curves.find? x.variant with | some c => c.set | none => []
  else []

/-- ALG of an ECDSA service's curve. -/
def ecAlg (x : Desc) : Nat := if x.service = 0x0512 ∨ x.service = 0x0513 then 0x13 else if x.variant = 0x10 then 0x11 else 0x12

/-- Bit length of n, and p, a and b of the curve (R315; P-256 and P-384 as SP 800-186 gives them, PRESUMED, log entry 161). -/
def Device.orderBits (d : Device) (x : Desc) : Nat :=
  if x.service = 0x0512 ∨ x.service = 0x0513 then d.curveBits x.variant else if x.variant = 0x10 then 256 else 384
def Device.curveEq (d : Device) (x : Desc) : Nat × Nat × Nat :=
  if x.service = 0x0512 ∨ x.service = 0x0513 then
    let s := d.curveOf x
    (curveField s 0x010, curveField s 0x090, curveField s 0x110)
  else if x.variant = 0x10 then
    let p := 2 ^ 256 - 2 ^ 224 + 2 ^ 192 + 2 ^ 96 - 1
    (p, p - 3, 0x5ac635d8aa3a93e7b3ebbd55769886bc651d06b0cc53b0f63bce3c3e27d2604b)
  else
    let p := 2 ^ 384 - 2 ^ 128 - 2 ^ 96 + 2 ^ 32 - 1
    (p, p - 3, 0xb3312fa7e23ee7e4988e056be3f82d19181d9c6efe8141120314088f5013875ac656398d8a2ed19d2a85c8edd3ec2aef)

/-- The encoding and validity checks of an EC public key: 0x04, both coordinates below p, the point on the curve (R322, R325;
DEDUCED, log entry 161). -/
def Device.ecPublicOk (d : Device) (x : Desc) (pub : Bytes) : Bool :=
  let (p, a, b) := d.curveEq x
  let n := (pub.length - 1) / 2
  let u := beNat (slice pub 1 n)
  let v := beNat (slice pub (1 + n) n)
  hdr pub 0 1 == 4 && decide (u < p ∧ v < p) && v ^ 2 % p == (u ^ 3 + a * u + b) % p

/-- A digest truncated to its leftmost bits (R322). -/
def truncDigest (bits : Nat) (b : Bytes) : Bytes :=
  if 8 * b.length ≤ bits then b else beBytes ((bits + 7) / 8) (beNat b / 2 ^ (8 * b.length - bits))

/-- ECDSA signing: r and s (R322). -/
def Device.ecSign (d : Device) (x : Item) (r : Bytes) : Staged :=
  stagedBuffer x (zeros 16) (Config.sign (2 * d.sigHalf x.current) (ecAlg x.current) x.keyBytesA
    (d.curveOf x.current ++ truncDigest (d.orderBits x.current) x.ops.data) r)

/-- ECDSA verification: public key, r, s, digest. -/
def Device.ecVerify (d : Device) (x : Item) : Staged :=
  let c := x.current
  let pub := if c.service = 0x0513 then 1 + 2 * ((hdr (d.curveOf c) 6 2 + 7) / 8) else ecPubLen c.variant
  let sig := 2 * d.sigHalf c
  let b := x.ops.data
  if c.service = 0x0513 ∧ ¬(pub + sig + 20 ≤ b.length ∧ b.length ≤ pub + sig + 64) then stagedPlain .format 3
  else stagedVerdict none (some (d.ecPublicOk c (slice b 0 pub)
    && Config.verify (ecAlg c) (d.curveOf c ++ slice b 0 pub) (truncDigest (d.orderBits c) (b.drop (pub + sig))) (slice b pub sig)))

/-- ECDSA_SIGN. -/
def execEcdsaSign (item : Nat) (s : State) : Host.Outcome State Fault Refusal :=
  s.done (s.dev.stageDrawn item (isService 0x0510) fun d x r => d.ecSign x r)
/-- ECDSA_VERIFY. -/
def execEcdsaVerify (item : Nat) (s : State) : Host.Outcome State Fault Refusal :=
  s.done (s.dev.stageRun item (isService 0x0511) fun d x => (d, x, d.ecVerify x))
/-- ECDSA_SIGN_SLOT_CURVE. -/
def execEcdsaSignSlotCurve (item : Nat) (s : State) : Host.Outcome State Fault Refusal :=
  s.done (s.dev.stageDrawn item (isService 0x0512) fun d x r => d.ecSign x r)
/-- ECDSA_VERIFY_SLOT_CURVE. -/
def execEcdsaVerifySlotCurve (item : Nat) (s : State) : Host.Outcome State Fault Refusal :=
  s.done (s.dev.stageRun item (isService 0x0513) fun d x => (d, x, d.ecVerify x))

/-- ML_DSA_65_SIGN: hedged; the context stands before the message (R313, R322). -/
def execMlDsa65Sign (item : Nat) (s : State) : Host.Outcome State Fault Refusal :=
  s.done (s.dev.stageDrawn item (isService 0x0520) fun _ x r =>
    stagedBuffer x (zeros 16) (Config.sign 3309 0x14 x.keyBytesA x.ops.data r))

/-- ML_DSA_65_VERIFY. -/
def execMlDsa65Verify (item : Nat) (s : State) : Host.Outcome State Fault Refusal :=
  s.done (s.dev.stagePure item (isService 0x0521) fun x =>
    let b := x.ops.data
    stagedVerdict none (some (Config.verify 0x14 (slice b 0 1952) (b.drop 5261) (slice b 1952 3309))))

/-- The encapsulation-key modulus check of FIPS 203: the 12-bit coefficients are below 3,329 (R314). -/
def mlKemKeyOk (ek : Bytes) : Bool :=
  (List.range 384).all fun i =>
    let v := leNat (slice ek (3 * i) 3)
    decide (v % 4096 < 3329 ∧ v / 4096 < 3329)

/-- ML_KEM_768_ENCAPSULATE. -/
def execMlKem768Encapsulate (item : Nat) (s : State) : Host.Outcome State Fault Refusal :=
  s.done (s.dev.stageDrawn item (isService 0x0530) fun _ x r =>
    if mlKemKeyOk x.ops.data then stagedBuffer x (zeros 16) ((encapsulate x.ops.data r).1 ++ (encapsulate x.ops.data r).2)
    else stagedVerdict none (some false))

/-- ML_KEM_768_DECAPSULATE: implicit rejection, never MISMATCH (R314, R325). -/
def execMlKem768Decapsulate (item : Nat) (s : State) : Host.Outcome State Fault Refusal :=
  s.done (s.dev.stagePure item (isService 0x0531) fun x => stagedBuffer x (zeros 16) (decapsulate x.keyBytesA x.ops.data))

/-- MODULAR_EXPONENTIATION: modulus, base and exponent stand in the buffer, big-endian as the RSA forms (DEDUCED, log
entry 26); an even modulus, or a base not below it, is a mismatch (R322, R325). -/
def execModularExponentiation (item : Nat) (s : State) : Host.Outcome State Fault Refusal :=
  s.done (s.dev.stagePure item (isService 0x0540) fun x =>
    let w := 8 * leNat (slice x.current.inline0 0 2)
    let e := 8 * leNat (slice x.current.inline0 2 2)
    let m := beNat (slice x.ops.data 0 w)
    let b := beNat (slice x.ops.data w w)
    if m % 2 = 0 ∨ m ≤ b then stagedVerdict none (some false)
    else stagedBuffer x (zeros 16) (beBytes w (modPow m (8 * e) b (beNat (slice x.ops.data (2 * w) e)))))

/-! ## The check before release, and the end of a job (R299, R300, R302) -/

/-- The public key of an RSA key as RSA_VERIFY takes it: L, e, zeros, n; e is what dP inverts (R292, R322). -/
def rsaPublic (key : Bytes) : Bytes :=
  let w := rsaWords key
  let p := beNat (key.take (4 * w))
  let q := beNat (slice key (4 * w) (4 * w))
  leBytes 2 (64 * w) ++ leBytes 4 (modInv (beNat (slice key (8 * w) (4 * w))) (p - 1)) ++ zeros 2 ++ beBytes (8 * w) (p * q)

/-- (m^e)^d = m for an m, by the two halves of a new RSA key, whose primes pass the odd engine's bases too (R297). -/
def rsaConsistent (bases key r : Bytes) : Bool :=
  let w := rsaWords key
  let p := beNat (key.take (4 * w))
  let q := beNat (slice key (4 * w) (4 * w))
  let m := beNat r % (p * q)
  let c := modPow (p * q) 17 m rsaExponent
  probablePrime bases p && probablePrime bases q
    && modPow p (32 * w) c (beNat (slice key (8 * w) (4 * w))) == m % p && modPow q (32 * w) c (beNat (slice key (12 * w) (4 * w))) == m % q

/-- Pair-wise consistency of a new key pair: sign and verify, encapsulate and decapsulate, or exponentiate there and back. -/
def Device.pairConsistent (d : Device) (x : Item) (key : Bytes) : Bool :=
  let a := pairAlg x.current.variant
  let r := x.run.signing.getD []
  let pub := d.publicOf a key
  if a = 0x10 then rsaConsistent (x.run.blinds.getD 1 []) key r
  else if a = 0x15 then (decapsulate key (encapsulate pub r).1) == (encapsulate pub r).2
  else
    let set := if a = 0x13 then (match d.units.curves.find? (x.current.variant - 0x80) with | some c => c.set | none => []) else []
    let n := if a = 0x14 then 3309 else if a = 0x11 then 64 else if a = 0x12 then 96
      else 2 * ((d.curveBits (x.current.variant - 0x80) + 7) / 8)
    Config.verify a (set ++ pub) r (Config.sign n a key (set ++ r) r)

/-- The key of the records that a job stages. -/
def Staged.key (st : Staged) : Bytes := (st.records.map fun r => slice r.body 0 32).flatten

/-- The check that a job's staged outputs pass before release (the table of R299). Decoding is the check of an RSA-OAEP decryption
(R325). -/
def Device.gateCheck (d : Device) (x : Item) (st : Staged) : Bool :=
  let c := x.current
  let key := x.keyBytesA
  let out := st.buffer.getD []
  if st.buffer.isNone ∧ st.records.isEmpty then true
  else match c.service with
    | 0x0501 => Config.verify (rsaScheme c.variant) (rsaPublic key) x.ops.data out
    | 0x0510 | 0x0512 => Config.verify (ecAlg c) (d.curveOf c ++ d.publicOf (ecAlg c) key) (truncDigest (d.orderBits c) x.ops.data) out
    | 0x0520 => Config.verify 0x14 (d.publicOf 0x14 key) x.ops.data out
    | 0x0504 => d.pairConsistent x st.key
    | _ => true

/-- ENGINE_JOB_END: `mismatch` says that a fault made the two engines' results differ. -/
def Device.engineJobEnd (d : Device) (n : Nat) (mismatch : Bool) : Device :=
  match d.item n with
  | none => d
  | some x =>
    match x.run.unit, x.run.staged with
    | some (.pair p), some st =>
      if x.stage ≠ .running then d
      else
        let bad := mismatch || !d.gateCheck x st
        let d1 := if bad then d.pairMismatch p else d
        ((d1.pairGate n p bad st).freePair p).endGeneration p x
    | _, _ => d

def execEngineJobEnd (item : Nat) (mismatch : Bool) (s : State) : Host.Outcome State Fault Refusal :=
  s.done (s.dev.engineJobEnd item mismatch)

end Sys2Proof.Machine
end

