-- ==== Sys2Proof/Machine/Counters.lean ====
section
/-! DEFINITION. The rows of the performance counters (18_counters_replay.md R711 to R718). -/

namespace Sys2Proof.Machine

/-- Events of R711; the second list is marked "No" for VF counters. -/
def tenantEvents : List Nat := [0, 1, 2, 3, 4, 5, 6, 7, 8, 9, 0xA, 0x10, 0x11, 0x12, 0x13, 0x14, 0x15]
def deviceEvents : List Nat := [0x20, 0x21, 0x22, 0x23, 0x24]

/-- A VF counter back at its reset values (R716, R717). -/
def Device.zeroVfCounter (d : Device) (v c : Nat) : Device :=
  let e := Page.vcnt.base v + Off.vcntEvt + 4 * c
  let n := Page.vcnt.base v + Off.vcntVal + 4 * c
  ((((d.noteReturn e (e + 4)).noteReturn n (n + 4)).setReg e 0).setReg n 0).clearBits (Page.vcnt.base v + Off.vcntOvf) (2 ^ c)

/-- COUNTER_GRANT_WRITE: counters whose grant falls return to zero (R716). -/
def Device.grantWrite (d : Device) (v g : Nat) : Device :=
  let a := Page.vfm.base v + Off.vfmCntGrant
  d.onWrite a fun d =>
    let old := d.field a 7 0
    (List.range 8).foldl (fun d c => if old.testBit c && !g.testBit c then d.zeroVfCounter v c else d) ((d.noteWrite a).setReg a (g % 256))

def execCounterGrantWrite (vf : Fin 4096) (grant : BitVec 8) (s : State) : Host.Outcome State Fault Refusal :=
  s.done (s.dev.grantWrite vf grant.toNat)

/-- A write of CNT_EVT, or of VCNT_EVT of a VF (R712, R715). -/
def Device.eventWrite (d : Device) (vf : Option Nat) (c w : Nat) : Device :=
  match vf with
  | none =>
    let a := Page.cnt.base 0 + Off.cntEvt + 4 * c
    d.onWrite a fun d =>
      let e := w % 2 ^ 16
      if decide (e ∈ tenantEvents ++ deviceEvents) && (!bitOf w 30 || decide (e ∈ tenantEvents)) then
        (d.noteWrite a).setReg a (w - bitsOf w 29 28 * 2 ^ 28)
      else d.writeLost a
  | some v =>
    let a := Page.vcnt.base v + Off.vcntEvt + 4 * (c % 8)
    d.onWrite a fun d =>
      if decide (w % 2 ^ 16 ∈ tenantEvents) && d.bit (Page.vfm.base v + Off.vfmCntGrant) (c % 8) then (d.noteWrite a).setReg a (w % 2 ^ 16)
      else d.writeLost a

def execCounterEventWrite (vf : Option (Fin 4096)) (counter : Fin 64) (value : Word) (s : State) :
    Host.Outcome State Fault Refusal :=
  s.done (s.dev.eventWrite (vf.map Fin.val) counter value.toNat)

/-- Every PF counter, event and overflow bit at zero (R714). -/
def Device.zeroCounters (d : Device) : Device :=
  let b := Page.cnt.base 0
  (List.range 64).foldl (fun d c => (d.setReg (b + Off.cntEvt + 4 * c) 0).setReg (b + Off.cntVal + 4 * c) 0)
    (((d.noteReturn (b + 0x40) (b + 0x1000)).setReg (b + Off.cntOvfLo) 0).setReg (b + Off.cntOvfHi) 0)

end Sys2Proof.Machine
end

