-- ==== Sys2Proof/Machine/Tenancy.lean ====
section
/-! DEFINITION. Tenants: the life of a VF, its queue pairs, reclaim, drain and reset, pools, and the mailbox between a tenant
and the manager (12_tenancy.md R526 to R566, R781; 13_modes_custody.md R569). -/

namespace Sys2Proof.Machine

/-! ## VF management commands (R547, R565, R566) -/

def vfmAt (v o : Nat) : Nat := Page.vfm.base v + o
def mbAt (v o : Nat) : Nat := Page.mb.base v + o

/-- A command bit of VFM_CMD is written: 0 CREATE, 1 ACTIVATE, 2 DRAIN, 3 DESTROY, 4 RECLAIM. -/
def Device.vfmCommand (d : Device) (v bit : Nat) (f : Device → Device) : Device :=
  d.onIdle (vfmAt v Off.vfmCmd) bit 0x1F fun d => f (d.commandStart (vfmAt v Off.vfmCmd) bit)

/-- A management command ends with a code. -/
def Device.vfmEnd (d : Device) (v bit code : Nat) : Device :=
  ((d.setResult (vfmAt v Off.vfmResult) code).commandEnd (vfmAt v Off.vfmCmd) bit (bit + 8)).raiseInt .vfm v 1

/-- The management commands a mode permits (13_modes_custody.md R569). -/
def Mode.permitsVfm (m : Mode) (bit : Nat) : Bool :=
  match m with
  | .manufacture => false
  | .custody | .service | .maintenance => true
  | .quarantine => decide (bit ∈ [2, 3, 4])
  | .zeroized => bit == 3

/-- The checks every management command makes, in order: mode, exposure, state (R566). -/
def Device.vfmCheck (d : Device) (v bit : Nat) (states : List VfState) : Option Nat :=
  if !d.cust.mode.permitsVfm bit then some 5
  else if !d.exposed v then some 4
  else if (d.vf v).st ∉ states then some 1
  else none

/-- The further checks of CREATE: tenant ID, minima and quota, pool capacity (R528, R535, R566). -/
def Device.createCheck (d : Device) (v : Nat) : Option Nat :=
  let tenant := d.reg (vfmAt v Off.vfmTenant)
  let lane := d.field (vfmAt v Off.vfmMinShare) 15 0
  let engine := d.field (vfmAt v Off.vfmMinShare) 31 16
  let slots := d.field (vfmAt v Off.vfmMinSlots) 14 0
  let pool := d.field (vfmAt v Off.vfmMinSlots) 26 24
  if tenant = 0 || d.front.vfs.any fun e => e.2.st != .absent && e.2.tenant == tenant then some 2
  else if 10000 < lane ∨ 10000 < engine ∨ d.field (vfmAt v Off.vfmQuotaSlots) 20 0 < 64 * slots then some 6
  else if !d.poolCovers pool (some v) lane engine slots then some 3
  else none

/-- A queue pair is disabled: hardware loads 0 into ENABLE (R545, R560). -/
def Device.disableQp (d : Device) (v q : Nat) : Device :=
  let c := d.reg (qpCfg v q)
  ((d.setQp v q { d.qp v q with enabled := false, draining := false, reads := [] })).hwLoad (qpCfg v q) (c % 2 ^ 31)

/-- Every queue pair of a VF that is enabled or draining is disabled. -/
def Device.disableQps (d : Device) (v : Nat) : Device :=
  (List.range 64).foldl (fun d q => if (d.qp v q).enabled || (d.qp v q).draining then d.disableQp v q else d) d

/-- CREATE. -/
def Device.createVf (d : Device) (v : Nat) : Device :=
  d.vfmCommand v 0 fun d =>
    match (d.vfmCheck v 0 [.absent]).or (d.createCheck v) with
    | some code => d.vfmEnd v 0 code
    | none =>
      let x : Vf := { Vf.initial with
        st := .created, tenant := d.reg (vfmAt v Off.vfmTenant), pgen := 1
        pool := d.field (vfmAt v Off.vfmMinSlots) 26 24
        minLane := d.field (vfmAt v Off.vfmMinShare) 15 0, minEngine := d.field (vfmAt v Off.vfmMinShare) 31 16
        minSlots := d.field (vfmAt v Off.vfmMinSlots) 14 0 }
      ((d.disableQps v).changeVf v (d.limitsOf v x)).vfmEnd v 0 0

def execCreate (vf : Fin 4096) (s : State) : Host.Outcome State Fault Refusal := s.done (s.dev.createVf vf)

/-- ACTIVATE: BURST × 16 tokens, none while RATE is 0 (R533). -/
def Device.activateVf (d : Device) (v : Nat) : Device :=
  d.vfmCommand v 1 fun d =>
    match d.vfmCheck v 1 [.created] with
    | some code => d.vfmEnd v 1 code
    | none =>
      let x := d.vf v
      (d.changeVf v { x with st := .active, tokens := if x.rate = 0 then 0 else x.burst * 16, frac := 0 }).vfmEnd v 1 0

def execActivate (vf : Fin 4096) (s : State) : Host.Outcome State Fault Refusal := s.done (s.dev.activateVf vf)

/-- DRAIN: the command runs until the drain ends. -/
def Device.drainVf (d : Device) (v : Nat) : Device :=
  d.vfmCommand v 2 fun d =>
    match d.vfmCheck v 2 [.active] with
    | some code => d.vfmEnd v 2 code
    | none => d.changeVf v { d.vf v with st := .draining, drainFrom := d.sched.nextItem }

def execDrain (vf : Fin 4096) (s : State) : Host.Outcome State Fault Refusal := s.done (s.dev.drainVf vf)

/-- Descriptors of a VF, or of one of its queue pairs, that have not completed. -/
def Device.busyVf (d : Device) (v : Nat) (q : Option Nat) : Bool :=
  d.sched.items.any fun e => e.2.route.vf == v && e.2.work.isNone && !e.2.run.squash
    && (match q with | some q => e.2.route.qp == q | none => true)

/-- DRAIN_END: every accepted descriptor has completed and no job is parked (R549). -/
def Device.drainEnd (d : Device) (v : Nat) : Device :=
  if (d.vf v).st ≠ .draining || d.busyVf v none then d
  else ((d.disableQps v).changeVf v { d.vf v with st := .created, drainFrom := 0 }).vfmEnd v 2 0

def execDrainEnd (vf : Fin 4096) (s : State) : Host.Outcome State Fault Refusal := s.done (s.dev.drainEnd vf)

/-- Registers of a range of addresses return to their reset values. -/
def Device.eraseRegs (d : Device) (lo hi : Nat) : Device :=
  (d.noteReturn lo hi).mapPages fun p => { p with regs := p.regs.filter fun e => !decide (lo ≤ e.1 ∧ e.1 < hi) }

/-- DESTROY: runs, parked contexts and the blob go; the management registers return to reset (R550). -/
def Device.destroyVf (d : Device) (v : Nat) : Device :=
  d.vfmCommand v 3 fun d =>
    match d.vfmCheck v 3 [.created, .frozen] with
    | some code => d.vfmEnd v 3 code
    | none =>
      let tenant := (d.vf v).tenant
      let d1 := d.mapKeys fun k => { k with runs := k.runs.filter fun e => e.2.tenant != tenant }
      let parked := d1.sched.items.filter fun e => e.2.route.vf == v && e.2.stage == .parked
      let d2 := (parked.foldl (fun d e => d.dropItem e.1) d1).mapDom fun x => { x with frozen := x.frozen.erase v }
      let d3 := (List.range 8).foldl (fun d c => d.zeroVfCounter v c) d2
      (d3.eraseRegs (vfmAt v Off.vfmTenant) (vfmAt v 0x1000)).changeVf v { d3.vf v with st := .destroyed, reclaiming := false }

def execDestroy (vf : Fin 4096) (s : State) : Host.Outcome State Fault Refusal := s.done (s.dev.destroyVf vf)

/-- VF_ABSENT: a DESTROYED VF becomes ABSENT, and DESTROY ends. -/
def Device.vfAbsent (d : Device) (v : Nat) : Device :=
  if (d.vf v).st = .destroyed then (d.changeVf v Vf.initial).vfmEnd v 3 0 else d

def execVfAbsent (vf : Fin 4096) (s : State) : Host.Outcome State Fault Refusal := s.done (s.dev.vfAbsent vf)

/-! ## Queue pairs (R544 to R546, R560 to R562) -/

/-- Items of a queue pair that are accepted and not yet admitted. -/
def Item.unadmitted (x : Item) : Bool :=
  x.work.isNone && (x.stage == .ingest || x.stage == .bundleRead || x.stage == .epochHold || x.stage == .fenced
    || x.stage == .deferred)

/-- A drain of a queue pair starts (R544). -/
def Device.startDrain (d : Device) (v q : Nat) : Device :=
  let d1 := (d.setQp v q { d.qp v q with draining := true }).dropReads v q
  d1.sched.items.foldl (fun d e =>
    if e.2.route.vf = v && e.2.route.qp = q && e.2.unadmitted then d.refuseAdmission e.1 .refusedQuota else d) d1

/-- A drain ends when every descriptor that the queue pair accepted has completed (R545). -/
def Device.qpDrainEnd (d : Device) (v q : Nat) : Device :=
  if !(d.qp v q).draining || d.busyVf v (some q) then d else (d.disableQp v q).raiseInt .vf v 2

def execQpDrainEnd (vf : Fin 4096) (qp : Fin 64) (s : State) : Host.Outcome State Fault Refusal :=
  s.done (s.dev.qpDrainEnd vf qp)

/-- The writable bits of QP_CFG below ENABLE; while the queue pair is enabled, CLASS and the LOG2 fields keep their values. -/
def qpCfgValue (old w : Nat) (enabled : Bool) : Nat :=
  bitsOf w 31 30 * 2 ^ 30 + (if enabled then bitsOf old 29 28 * 2 ^ 28 + bitsOf old 15 0 else bitsOf w 29 28 * 2 ^ 28 + bitsOf w 15 0)

/-- A write of QP_CFG that changes CLASS or a LOG2 field. -/
def qpCfgDiffers (old w : Nat) : Bool := bitsOf old 29 28 != bitsOf w 29 28 || bitsOf old 15 0 != bitsOf w 15 0

/-- Why a write of ENABLE 1 is not performed (R561). -/
def Device.enableRefused (d : Device) (v q w : Nat) : Bool :=
  let sq := bitsOf w 7 0
  let cq := bitsOf w 15 8
  (d.vf v).st != .active || decide ((d.vf v).qpQuota ≤ q) || decide (sq < 4 ∨ 16 < sq ∨ cq < 4 ∨ 16 < cq)
    || bitsOf w 29 28 == 3 || (d.qp v q).draining

/-- A write of QP_CFG (R544, R561, R562). ENABLE that hardware loads in this cycle keeps the hardware value (R37). -/
def Device.qpCfgWrite (d : Device) (v q w : Nat) : Device :=
  let a := qpCfg v q
  if !d.exposed v then d else
  d.onWrite a fun d =>
    let x := d.qp v q
    let old := d.reg a
    let held := x.enabled && qpCfgDiffers old w
    let loaded := d.pages.cyc.hwLoad.mem a
    let w := if loaded then putBits w 31 31 (bitsOf old 31 31) else w
    let d1 := ((d.noteWrite a).setReg a (qpCfgValue old w x.enabled)).mapCyc fun c => { c with swWrote := c.swWrote.add a }
    if loaded then d1.writeLost a
    else if bitOf w 31 then
      if d.enableRefused v q w then d.writeLost a
      else if x.enabled then (if held then d1.writeLost a else d1)
      else d1.setQp v q { Qp.initial with enabled := true }
    else
      let d2 := if held then d1.writeLost a else d1
      if x.enabled && !x.draining then d2.startDrain v q else d2

/-- QP_ENABLE_WRITE: QP_CFG is written with ENABLE 1. -/
def execQpEnableWrite (vf : Fin 4096) (qp : Fin 64) (value : Word) (s : State) : Host.Outcome State Fault Refusal :=
  s.done (s.dev.qpCfgWrite vf qp (value ||| 0x80000000).toNat)

/-- QP_DRAIN: QP_CFG is written with ENABLE 0. -/
def execQpDrain (vf : Fin 4096) (qp : Fin 64) (value : Word) (s : State) : Host.Outcome State Fault Refusal :=
  s.done (s.dev.qpCfgWrite vf qp (value &&& 0x7FFFFFFF).toNat)

/-- QP_ERROR_CLEAR: a write of 1 to QP_STAT.ERROR (R120, R560). -/
def Device.qpErrorClear (d : Device) (v q : Nat) : Device :=
  let a := qpBase v q + 0x14
  if !d.exposed v then d else d.onCommand a fun d => d.w1c a 4

def execQpErrorClear (vf : Fin 4096) (qp : Fin 64) (s : State) : Host.Outcome State Fault Refusal :=
  s.done (s.dev.qpErrorClear vf qp)

/-! ## Reclaim (R542, R543) -/

/-- Evictions of a tenant's runs down to a quota, least recently used first, as far as there are runs to evict. -/
def Device.evictDown (tenant quota : Nat) : Nat → Device → Device
  | 0, d => d
  | f + 1, d =>
    if d.slotUse tenant ≤ quota then d
    else match d.ownVictim tenant with
      | some k => Device.evictDown tenant quota f (d.dropRun k)
      | none => d

/-- RECLAIM: drains start above the queue-pair quota, and runs are evicted. -/
def Device.reclaimVf (d : Device) (v : Nat) : Device :=
  d.vfmCommand v 4 fun d =>
    match d.vfmCheck v 4 [.created, .active, .frozen, .draining] with
    | some code => d.vfmEnd v 4 code
    | none =>
      let x := d.vf v
      let qs := (List.range 64).filter fun q => decide (x.qpQuota ≤ q) && (d.qp v q).enabled && !(d.qp v q).draining
      let d1 := d.setVf v { x with reclaiming := true, reclaimQps := qs }
      let d2 := qs.foldl (fun d q => d.startDrain v q) d1
      Device.evictDown x.tenant x.quotaSlots d2.keys.runs.length d2

def execReclaim (vf : Fin 4096) (s : State) : Host.Outcome State Fault Refusal := s.done (s.dev.reclaimVf vf)

/-- RECLAIM_END: eviction reaches the quota in force, and the drains that the reclaim started have ended. -/
def Device.reclaimEnd (d : Device) (v : Nat) : Device :=
  let x := d.vf v
  if !x.reclaiming then d else
  let d1 := Device.evictDown x.tenant x.quotaSlots d.keys.runs.length d
  if x.quotaSlots < d1.slotUse x.tenant || x.reclaimQps.any fun q => (d1.qp v q).draining then d1
  else (d1.setVf v { x with reclaiming := false, reclaimQps := [] }).vfmEnd v 4 0

def execReclaimEnd (vf : Fin 4096) (s : State) : Host.Outcome State Fault Refusal := s.done (s.dev.reclaimEnd vf)

/-! ## VF reset (R552 to R555) -/

/-- A migration command that a VF reset ends, CODE 0x0C (11_jochevy_domain.md R510); UNFREEZE ends as it is written. -/
def Device.resetMigration (d : Device) (v : Nat) : Device :=
  match d.dom.mig with
  | some (.freeze, w, _, _) => if w = v then d.migEnd 0 v 0x0C else d
  | some (.save, w, _, _) => if w = v then (d.progEnd (Page.vfm.base v) true).migEnd 1 v 0x0C else d
  | _ => d

/-- An item that a VF reset meets: a run on a unit ends squashed, everything else is discarded (R206, R309, R364). -/
def Device.resetItem (d : Device) (n : Nat) (x : Item) : Device :=
  if x.stage = .running then d.setItem n { x with run := { x.run with squash := true } }
  else
    let d1 := if x.stage = .parked then d.abortGeneration x else d
    (d1.recordUnit x 0x7F none).dropItem n

/-- The work of a VF that is not FROZEN goes: items, delay entries, operand requests, commit notices (R446, R552). -/
def Device.resetWork (d : Device) (v : Nat) : Device :=
  let mine := d.sched.items.filter fun e => e.2.route.vf == v && e.2.work.isNone
  let drop := fun (c : Commit) => match c.item with
    | some n => if mine.any (fun e => e.1 == n) then { c with item := none } else c
    | none => c
  let d1 := (d.mapStore fun s => { s with commits := s.commits.map drop }).mapDom fun x => { x with moved := x.moved.map drop }
  let d2 := mine.foldl (fun d e => d.resetItem e.1 e.2) d1
  let drains := (List.range 64).filter fun q => (d2.qp v q).draining
  let d4 := if drains.isEmpty then d2 else d2.raiseInt .vf v 2
  let d5 := (List.range 8).foldl (fun d c => d.zeroVfCounter v c) d4
  match d5.exporting with
  | some e => if e.vf = v then d5.endExport 6 else d5
  | none => d5

/-- Completions of a FROZEN VF that have not left go with the reset of its queue pairs (R552). -/
def Device.dropFinished (d : Device) (v : Nat) : Device :=
  (d.sched.items.filter fun e => e.2.route.vf == v && e.2.work.isNone && e.2.stage == .finished).foldl
    (fun d e => d.resetItem e.1 e.2) d

/-- The VF page, its queue pairs and the tenant side of the mailbox after a VF reset: a running SEND or POST ends with its DONE bit, nothing
is delivered, and both message buffers are zero (R553). -/
def Device.resetPages (d : Device) (v : Nat) : Device :=
  let sending := d.bit (mbAt v Off.mbCtrl) 0
  let posting := d.bit (vfmAt v Off.vfmMbCtrl) 0
  let d1 := (d.eraseRegs (Page.vf.base v + 0x40) (Page.vf.base v + 0x1000)).eraseRegs (mbAt v 0x40) (mbAt v 0x1000)
  let d2 := (d1.eraseRegs (vfmAt v Off.vfmT2m) (vfmAt v (Off.vfmM2t + 0x100))).clearBits (vfmAt v Off.vfmMbCtrl) 4
  let d2 := (List.range 64).foldl (fun d q => d.setQp v q Qp.initial) d2
  let d3 := if sending then d2.hwSet (mbAt v Off.mbCtrl) 2 else d2
  if posting then d3.commandEnd (vfmAt v Off.vfmMbCtrl) 0 3 else d3

/-- A VF reset, whatever starts it. A FROZEN VF keeps everything but its pages and what they stand for (R554). -/
def Device.resetVf (d : Device) (v : Nat) : Device :=
  let d1 := d.resetMigration v
  let d2 := if (d1.vf v).st = .frozen then d1.dropFinished v else d1.resetWork v
  (((d2.resetPages v).hwSet (Page.vf.base v + 8) 8).hwSet (Page.vfm.base v + 8) 8).ingestAll

/-- VF_RESET: cause 0 a Function Level Reset, 1 SOFT_RESET of the VF page, 2 SOFT_RESET of the VF management page, which its
LOCK refuses (02_register_convention.md R49). The first two set TENANT_RESET. -/
def Device.vfReset (d : Device) (v cause : Nat) : Device :=
  if cause = 2 then
    (if d.bit (Page.vfm.base v + 8) 2 then d.writeLost (Page.vfm.base v) else d.resetVf v)
  else if d.exposed v then (d.raiseInt .vfm v 4).resetVf v else d

def execVfReset (vf : Fin 4096) (cause : Fin 3) (s : State) : Host.Outcome State Fault Refusal :=
  s.done (s.dev.vfReset vf cause)

/-- VF_ENABLE_SET: SR-IOV VF Enable, with NumVFs of at most 4,096 (R526). While VF Enable is 1 the count does not change. -/
def Device.vfEnableSet (d : Device) (n : Nat) : Device :=
  if d.front.vfEnable then d else d.mapFront fun f => { f with vfEnable := true, numVfs := min n 4096 }

def execVfEnableSet (numVfs : Nat) (s : State) : Host.Outcome State Fault Refusal := s.done (s.dev.vfEnableSet numVfs)

/-- VF_ENABLE_CLEAR: a VF reset of every exposed VF; no state and no resource changes (R527). -/
def Device.vfEnableClear (d : Device) : Device :=
  if d.front.vfEnable then
    ((List.range d.front.numVfs).foldl (fun d v => d.resetVf v) d).mapFront fun f => { f with vfEnable := false }
  else d

def execVfEnableClear (s : State) : Host.Outcome State Fault Refusal := s.done s.dev.vfEnableClear

/-! ## Intake (R781) -/

/-- VF_PAGE_ENABLE_WRITE: PAGE_CTRL.ENABLE of the VF page, or of the VF management page. -/
def Device.vfPageEnable (d : Device) (v : Nat) (manager enable : Bool) : Device :=
  let a := (if manager then Page.vfm.base v else Page.vf.base v) + 8
  if !manager && !d.exposed v then d else
  d.onWrite a fun d => (d.noteWrite a).setField a 0 0 (boolNat enable)

def execVfPageEnableWrite (vf : Fin 4096) (manager enable : Bool) (s : State) : Host.Outcome State Fault Refusal :=
  s.done (s.dev.vfPageEnable vf manager enable)

/-! ## Pools (R534 to R536) -/

/-- A sum over the pools, with one pool at a new value. -/
def Device.poolTotal (d : Device) (p new : Nat) (f : Nat × Nat × Nat → Nat) : Nat :=
  ((List.range 8).map fun i => if i = p then new else f (d.poolCap i)).sum

/-- POOL_WRITE: POOL_SHARE_p, or POOL_SLOTS_p. -/
def Device.poolWrite (d : Device) (p : Nat) (slots : Bool) (w : Nat) : Device :=
  let a := Page.mbx.base 0 + (if slots then Off.poolSlots else Off.poolShare) + 8 * p
  d.onWrite a fun d =>
    let u := d.poolUse p none
    let lane := bitsOf w 15 0
    let engine := bitsOf w 31 16
    let cap := bitsOf w 14 0
    let ok := if slots then
        decide (d.poolTotal p cap (fun c => c.2.2) ≤ 16384 ∧ u.2.2 ≤ cap)
      else
        decide (d.poolTotal p lane (fun c => c.1) ≤ 10000 ∧ d.poolTotal p engine (fun c => c.2.1) ≤ 10000
          ∧ u.1 ≤ lane ∧ u.2.1 ≤ engine)
    if ok then d.setReg a (if slots then cap else w) else d.writeLost a

def execPoolWrite (pool : Fin 8) (slots : Bool) (value : Word) (s : State) : Host.Outcome State Fault Refusal :=
  s.done (s.dev.poolWrite pool slots value.toNat)

/-! ## The mailbox (R556 to R559) -/

/-- A message of 64 words is carried: the header and its first LEN words; the rest reads zero. -/
def Device.carry (d : Device) (src dst : Nat) : Device :=
  let len := d.field src 15 8
  (List.range 64).foldl (fun d i => d.setReg (dst + 4 * i) (if i ≤ len then d.reg (src + 4 * i) else 0)) d

/-- A VF that takes no mailbox command. -/
def Device.noMailbox (d : Device) (v : Nat) : Bool := (d.vf v).st == .absent || (d.vf v).st == .destroyed

/-- SEND (R557). -/
def Device.mbSend (d : Device) (v : Nat) : Device :=
  let a := mbAt v Off.mbCtrl
  if !d.exposed v then d else
  d.onCommand a fun d =>
    if d.bit a 0 then d
    else if d.noMailbox v || decide (63 < d.field (mbAt v Off.mbT2m) 15 8) then d.writeLost a
    else (((d.commandStart a 0).carry (mbAt v Off.mbT2m) (vfmAt v Off.vfmT2m)).setField (vfmAt v Off.vfmMbCtrl) 2 2 1).raiseInt
      .vfm v 2

def execSend (vf : Fin 4096) (s : State) : Host.Outcome State Fault Refusal := s.done (s.dev.mbSend vf)

/-- TAKE (R557). -/
def Device.mbTake (d : Device) (v : Nat) : Device :=
  let a := vfmAt v Off.vfmMbCtrl
  d.onCommand a fun d =>
    if !d.bit a 2 then d.writeLost a
    else (((d.clearBits a 4).commandEnd (mbAt v Off.mbCtrl) 0 1).raiseInt .mb v 1).commandEnd a 1 4

def execTake (vf : Fin 4096) (s : State) : Host.Outcome State Fault Refusal := s.done (s.dev.mbTake vf)

/-- A running POST is delivered as soon as M2T_VALID is 0 (R558). -/
def Device.deliverPost (d : Device) (v : Nat) : Device :=
  let a := vfmAt v Off.vfmMbCtrl
  if d.bit a 0 && !d.bit (mbAt v Off.mbCtrl) 2 then
    (((d.carry (vfmAt v Off.vfmM2t) (mbAt v Off.mbM2t)).hwSet (mbAt v Off.mbCtrl) 4).raiseInt .mb v 0).commandEnd a 0 3
  else d

/-- POST (R558). -/
def Device.mbPost (d : Device) (v : Nat) : Device :=
  let a := vfmAt v Off.vfmMbCtrl
  d.onCommand a fun d =>
    if d.bit a 0 then d
    else if d.noMailbox v || decide (63 < d.field (vfmAt v Off.vfmM2t) 15 8) then d.writeLost a
    else (d.commandStart a 0).deliverPost v

def execPost (vf : Fin 4096) (s : State) : Host.Outcome State Fault Refusal := s.done (s.dev.mbPost vf)

/-- M2T_FREE: the tenant frees MB_M2T, and a waiting POST is delivered. -/
def Device.m2tFree (d : Device) (v : Nat) : Device :=
  let a := mbAt v Off.mbCtrl
  if !d.exposed v then d else
  d.onCommand a fun d =>
    let d1 := d.w1c a 4
    if d.bit a 2 && !d1.bit a 2 then (d1.raiseInt .vfm v 3).deliverPost v else d1

def execM2tFree (vf : Fin 4096) (s : State) : Host.Outcome State Fault Refusal := s.done (s.dev.m2tFree vf)

end Sys2Proof.Machine
end

