-- ==== Sys2Proof/Machine/Ceremonies.lean ====
section
/-! DEFINITION. The quorum gate: Olihild messages, the opening of ceremonies, approvals and inputs, windows and limits
(13_modes_custody.md R575 to R587, R591, R601 to R603). -/

namespace Sys2Proof.Machine

def custAt (o : Nat) : Nat := Page.cust.base 0 + o

/-! ## The custodian set (R577, R580) -/

def Custodian.bytes (c : Custodian) : Bytes := padTo 1952 c.mldsa ++ padTo 97 c.ecdsa ++ zeros 15 ++ padTo 16 c.name

def Custodian.parse (b : Bytes) : Custodian := { mldsa := slice b 0 1952, ecdsa := slice b 1952 97, name := slice b 2064 16 }

/-- The bytes that CSET_DIGEST covers. -/
def CSet.bytes (s : CSet) : Bytes := leBytes 1 s.m ++ leBytes 1 s.entries.length ++ s.entries.flatMap Custodian.bytes

/-- A set as ENROL parameters give it: 2 ≤ M ≤ N ≤ 16, and N well-formed entries. -/
def CSet.parse (p : Bytes) : Option CSet :=
  let m := hdr p 0 1
  let n := hdr p 1 1
  let entries := (List.range n).map fun i => slice p (4 + 2080 * i) 2080
  if 2 ≤ m ∧ m ≤ n ∧ n ≤ 16 ∧ hdr p 2 2 = 0 ∧ p.length = 4 + 2080 * n then
    (if entries.all fun e => (e.getD 1952 0).toNat == 4 && allZero (slice e 2049 15) then
      some { m := m, entries := entries.map Custodian.parse } else none)
  else none

/-- CSET_DIGEST; zero without a set (R602). -/
def Custody.digest (c : Custody) : Bytes := match c.set with | some s => Config.sha3 s.bytes | none => zeros 32

/-- Two entries name one custodian. -/
def Custodian.same (a b : Custodian) : Bool := a.mldsa == b.mldsa && a.ecdsa == b.ecdsa

/-! ## What the CUST page shows (R601, R602) -/

def bitmapOf (l : List Nat) : Nat := (List.range 16).foldl (fun w i => if l.contains i then w + 2 ^ i else w) 0

/-- Approvals and components of the open or last ceremony. -/
def Custody.approvals (c : Custody) : List Nat := match c.ceremony with | some x => x.approved | none => c.lastApproved
def Custody.components (c : Custody) : List Nat :=
  match c.ceremony with | some x => x.components.map Prod.fst | none => c.lastComponents

def Custody.stat (c : Custody) : Nat :=
  (match c.ceremony with | some x => x.typ * 2 ^ 24 | none => 0) + min 16 c.approvals.length * 2 ^ 19
    + (match c.set with | some s => s.entries.length * 2 ^ 14 + s.m * 2 ^ 9 + (if c.setStored then 2 else 1) * 2 ^ 7 | none => 0)
    + boolNat c.compat * 2 ^ 6
def Custody.tally (c : Custody) : Nat := bitmapOf c.components * 2 ^ 16 + bitmapOf c.approvals

/-- The body of STATE. -/
def Custody.stateBody (c : Custody) : Bytes := leBytes 4 c.stat ++ leBytes 4 c.tally ++ leBytes 4 c.lastId

/-! ## Root states and parameters (R587, R591, R593, R729) -/

def Device.rooted (d : Device) : Bool := d.keys.cls == 2 || d.keys.cls == 3

/-- The root-state column of R587. -/
def Device.rootPermits (d : Device) (t : Nat) : Bool :=
  if t = 0x4F then true
  else if t = 0x01 then !d.rooted
  else if t = 0x10 ∨ t = 0x11 then !d.rooted && d.cust.set.isSome
  else if t = 0x13 then d.keys.cls == 2
  else if t = 0x12 then d.rooted && d.dom.view.inDomain
  else if t = 0x40 then d.rooted && d.cust.set.isSome && d.cust.setStored && decide (d.storeState ∈ [2, 3])
  else d.rooted

/-- Approval threshold and size of the set held. -/
def Device.setSize (d : Device) : Nat := match d.cust.set with | some s => s.entries.length | none => 0

/-- Parameters of KEY_IMPORT. -/
def importTenant (p : Bytes) : Nat := hdr p 0 4
def importId (p : Bytes) : Nat := hdr p 4 8
def importUsage (p : Bytes) : Nat := hdr p 12 1
def importAlg (p : Bytes) : Nat := hdr p 13 1
def importExportable (p : Bytes) : Bool := bitOf (hdr p 14 1) 0
def importCount (p : Bytes) : Nat := hdr p 15 1

/-- Parameters are well formed and in range. -/
def Device.paramsOk (d : Device) (t : Nat) (p : Bytes) : Bool :=
  let n := p.length
  match t with
  | 0x01 | 0x02 => (CSet.parse p).isSome
  | 0x11 => n == 16
  | 0x12 => n == 1280
  | 0x20 => n == 16 && importTenant p != 0 && decide (importId p < 2 ^ 40) && createOk (importUsage p) (importAlg p)
      && decide (hdr p 14 1 ≤ 1 ∧ 2 ≤ importCount p ∧ importCount p ≤ d.setSize)
  | 0x30 => decide (1 ≤ hdr p 4 1 ∧ hdr p 4 1 ≤ 64) && hdr p 5 3 == 0 && n == 8 + 4 * hdr p 4 1
  | 0x41 => n == 2 && decide (1 ≤ hdr p 0 2 ∧ hdr p 0 2 ≤ 1440)
  | 0x43 => n == 1 && decide (hdr p 0 1 ≤ 1)
  | 0x44 => n == 12 && decide (1 ≤ hdr p 8 4 ∧ hdr p 8 4 ≤ 65536)
  | _ => n == 0

/-- A replay blob in the staging window, header and body in clear, when it opens under a root that is held (R725, R729). -/
def Device.openReplay (d : Device) (off : Nat) : Option Bytes :=
  let h := d.staged off 64
  let n := hdr h 0x18 4
  let len := 96 * n
  if slice h 0 4 ≠ [0x4A, 0x52, 0x50, 0x4C] ∨ hdr h 4 2 ≠ 1 ∨ 2 ^ 25 < off + 64 + len then none
  else
    let b := d.keys.bank
    let epoch := hdr h 0x0C 4
    let root := if epoch = b.rootEpoch then some b.root
      else if b.st = .rewrap ∧ epoch = b.prevEpoch then some b.prevRoot else none
    match root with
    | none => none
    | some r =>
      let key := serviceKey r epoch (hdr h 8 4) "REPLAY"
      let body := Config.gcmOpen key (slice h 0x20 12) (h.take 0x30) (d.staged (off + 64) len)
      if Config.gcmTag key (slice h 0x20 12) (h.take 0x30) body = slice h 0x30 16 then some (h ++ body) else none

/-- What OPEN copies, or the refusal: status and RESULT body. -/
def Device.openCopy (d : Device) (t : Nat) (p : Bytes) : Bytes ⊕ (Nat × Bytes) :=
  if t = 0x12 then (if slice p 1216 32 = d.cust.digest then .inl [] else .inr (0x06, []))
  else if t = 0x30 then
    let off := hdr p 0 4
    let h := d.staged off 256
    let image := d.staged off (0x100 + 16 * hdr h 0x0C 2)
    if hdr h 0x09 1 ≠ 2 then .inr (0x08, leBytes 1 0x03 ++ leBytes 2 0x09)
    else match d.imageFails image off false with
      | some (code, w) => .inr (0x08, leBytes 1 code ++ leBytes 2 (d.whereOf w).2)
      | none => .inl image
  else if t = 0x44 then
    match d.openReplay (hdr p 0 4) with
    | none => .inr (0x05, [])
    | some b =>
      let first := hdr p 4 4
      if seqAfter (hdr b 0x10 4) first + hdr p 8 4 ≤ hdr b 0x14 4 then .inl b else .inr (0x05, [])
  else .inl []

/-- Why an OPEN is refused, in order: type, mode and root state, another ceremony, parameters and what they name (DEDUCED, log
entry 28). -/
def Device.openRefusal (d : Device) (t : Nat) (body : Bytes) : Option (Nat × Bytes) :=
  let p := body.drop 4
  if t ∉ ceremonyTypes then some (0x05, [])
  else if !d.cust.mode.accepts t || !d.rootPermits t then some (0x03, [])
  else if d.cust.ceremony.isSome then some (0x04, [])
  else if body.length < 4 || hdr body 1 3 != 0 || !d.paramsOk t p then some (0x05, [])
  else match d.openCopy t p with
    | .inr e => some e
    | .inl _ => none

/-! ## OPEN (R579, R580, R582, R602) -/

/-- Minutes of the approval window. -/
def Device.windowMin (d : Device) : Nat := min 120 (max 1 (d.field (custAt Off.custCtrl) 7 0))

/-- SYS cycles of a number of minutes. -/
def minCycles (n : Nat) : Nat := msCycles (60000 * n)

/-- The first SYS cycle at which an arrival no longer counts: after the AON cycle in which the window ends (R581). -/
def Ceremony.deadline (c : Ceremony) : Nat := ((c.opened + minCycles c.windowMin) / 150 + 1) * 150

/-- T. -/
def Device.transcript (d : Device) (id t : Nat) (nonce params : Bytes) : Bytes :=
  Config.sha3 ("OLIHILD-T1".toList.map (fun c => BitVec.ofNat 8 c.toNat) ++ Config.identityDigest ++ leBytes 4 id ++ leBytes 1 t
    ++ leBytes 4 d.dom.view.epoch ++ d.cust.digest ++ nonce ++ params)

/-- OPEN. -/
def Device.openCeremony (d : Device) (carrier : Nat) (body : Bytes) : Device :=
  let t := hdr body 0 1
  let p := body.drop 4
  match d.openRefusal t body with
  | some (st, r) => ((if t = 0x30 ∧ st = 8 then d.drawFree else d).ceremonyRecorded st t).olihildReply carrier 0x07 st 0 r
  | none =>
    let id := (d.cust.lastId + 1) % 2 ^ 32
    let nonce := d.random 32
    let d1 := d.drawn
    let keyed := t == 0x20 || t == 0x11
    let kem := if keyed then d1.random 64 else []
    let d2 := if keyed then d1.drawnFor 64 else d1
    let tr := d.transcript id t nonce p
    let c : Ceremony :=
      { typ := t, id := id, carrier := carrier, params := p, nonce := nonce, transcript := tr, approved := [], components := []
        transport := none, windowMin := d.windowMin, opened := d.cycle, executing := false
        image := match d.openCopy t p with | .inl b => b | .inr _ => []
        kem := kem, wait := [], reply := [] }
    let endTick := (d.cycle + minCycles d.windowMin) / 1200
    ((d2.mapCust fun x => { x with ceremony := some c, lastId := id }).raiseInt .cust 0 0).olihildReply carrier 0x02 0 id
      (leBytes 4 id ++ leBytes 1 t ++ zeros 3 ++ tr ++ nonce ++ leBytes 8 endTick
        ++ if keyed then kemPublic kem else [])

def execOpenCeremony (carrier : Fin 2) (body : Bytes) (s : State) : Host.Outcome State Fault Refusal :=
  s.done (s.dev.openCeremony carrier body)

/-! ## Quorum and execution (R581, R583, R587) -/

/-- The custodians that may approve under an index, with the numbers their approvals are kept under: custodians of the set held
by their index, and those that an ENROL adds at 16 above theirs (DESIGN CHOICE, log entry 29). -/
def Device.approvers (d : Device) (c : Ceremony) : List (Nat × Custodian) :=
  let held := match d.cust.set with | some s => s.entries.zipIdx.map fun e => (e.2, e.1) | none => []
  let given := match CSet.parse c.params with | some s => s.entries.zipIdx.map fun e => (e.2, e.1) | none => []
  if c.typ = 0x01 then given
  else if c.typ = 0x02 then
    held ++ (given.filter fun e => !held.any fun h => h.2.same e.2).map fun e => (16 + e.1, e.2)
  else held

/-- The approvals that a ceremony needs are counted. -/
def Device.quorumMet (d : Device) (c : Ceremony) : Bool :=
  if c.typ = 0x01 then (d.approvers c).all fun e => c.approved.contains e.1
  else match d.cust.set with
    | none => false
    | some s => decide (s.m ≤ (c.approved.filter (· < 16)).length)
        && ((d.approvers c).filter fun e => decide (16 ≤ e.1)).all fun e => c.approved.contains e.1

/-- Every other input is present: components of distinct custodians who also approve, a transport blob (R589, R591). -/
def Ceremony.inputsMet (c : Ceremony) : Bool :=
  if c.typ = 0x20 then c.components.length == importCount c.params && c.components.all fun e => c.approved.contains e.1
  else if c.typ = 0x11 then c.transport.isSome else true

/-- A root sealed for an epoch change under the ROOT-NEXT key of the present root (R590). -/
def Device.sealRoot (d : Device) (root : Bytes) : Bytes :=
  let key := serviceKey d.keys.bank.root d.keys.bank.rootEpoch 0 "ROOT-NEXT"
  Config.gcmSeal key (zeros 12) [] root ++ Config.gcmTag key (zeros 12) [] root

/-- The lowest module ID that no member of the view holds (11_jochevy_domain.md R476). -/
def View.lowestFree (w : View) : Nat := ((List.range (w.members.length + 1)).find? fun m => !w.members.contains m).getD 0

/-- What execution asks of others: SPONSOR the identity's admission and ROOT_REPLACE the new root, of the coordinator (R589, R590); KEY_IMPORT
its key ID, of the peers of its placement (R586 code 0x0B, 10_record_store.md R437). -/
def Device.executionAsks (d : Device) (c : Ceremony) : Device :=
  let w := d.dom.view
  if c.typ = 0x12 then
    let digest := slice c.params 1184 32
    if w.ids.any fun e => e.2 == digest && w.members.contains e.1 then d else d.request (.add w.lowestFree digest)
  else if c.typ = 0x13 ∧ w.inDomain then d.drawn.request (.newRoot (d.sealRoot (d.random 32)))
  else if c.typ = 0x20 then d.peerRead (importRead c.id) (keyIdent (importTenant c.params) (importId c.params) 1 0) false
  else d

/-- The ceremony executes once its last required approval or input is counted. -/
def Device.tryExecute (d : Device) : Device :=
  match d.cust.ceremony with
  | none => d
  | some c =>
    if c.executing || !d.quorumMet c || !c.inputsMet then d
    else (d.mapCust fun x => { x with ceremony := some { c with
      executing := true, reply := leBytes 4 d.keys.bank.rootEpoch } }).executionAsks c

/-- TALLY. -/
def Device.tallyReply (d : Device) (carrier status id : Nat) (kcv : Bytes) : Device :=
  let t := d.cust.tally
  d.olihildReply carrier 0x04 status id (leBytes 2 (t % 2 ^ 16) ++ leBytes 2 (t / 2 ^ 16) ++ padTo 5 kcv ++ zeros 7)

/-- A collecting ceremony whose window has ended ends EXPIRED before a later message meets it. -/
def Device.expireLate (d : Device) : Device :=
  match d.cust.ceremony with
  | some c => if !c.executing && decide (c.deadline ≤ d.cycle) then d.endCeremony 0x01 (some []) else d
  | none => d

/-- A message that gives an input to a ceremony: answered 0x13 where it names none that is open, 0x15 once it executes or where
it does not take such an input. -/
def Device.ceremonyInput (d0 : Device) (carrier id : Nat) (takes : Ceremony → Bool) (f : Device → Ceremony → Device) : Device :=
  let d := d0.expireLate
  match d.cust.ceremony with
  | none => d.tallyReply carrier 0x13 id []
  | some c =>
    if c.id ≠ id then d.tallyReply carrier 0x13 id []
    else if c.executing || !takes c then d.tallyReply carrier 0x15 id []
    else f d c

/-- The two signatures of an approval over T: ML-DSA-65 with the context string "Olihild", and ECDSA P-384 (R581). Scheme 0x114
is ML-DSA-65 under that context string. -/
def Custodian.approves (k : Custodian) (t body : Bytes) : Bool :=
  body.length == 3409 && Config.verify 0x114 k.mldsa t (slice body 4 3309) && Config.verify 0x12 k.ecdsa t (slice body 3313 96)

/-- APPROVE. -/
def Device.approve (d : Device) (carrier id : Nat) (body : Bytes) : Device :=
  d.ceremonyInput carrier id (fun _ => true) fun d c =>
    let i := hdr body 0 1
    let ks := (d.approvers c).filter fun e => e.1 % 16 == i
    match ks.find? fun e => e.2.approves c.transcript body with
    | none => d.tallyReply carrier (if ks.isEmpty then 0x11 else 0x10) id []
    | some (n, _) =>
      if c.approved.contains n then d.tallyReply carrier 0x12 id []
      else
        let c1 : Ceremony := { c with approved := c.approved ++ [n] }
        (((d.mapCust fun x => { x with ceremony := some c1 }).raiseInt .cust 0 1).tallyReply carrier 0 id []).tryExecute

def execApprove (carrier : Fin 2) (ceremony : Word) (body : Bytes) (s : State) : Host.Outcome State Fault Refusal :=
  s.done (s.dev.approve carrier ceremony.toNat body)

/-- A component decrypted (R591). -/
def Ceremony.openComponent (c : Ceremony) (body : Bytes) : Option Bytes :=
  let n := algLen (importAlg c.params)
  let key := decapsulate c.kem (slice body 4 1088)
  let nonce := slice body 1092 12
  let aad := c.transcript ++ body.take 1
  let plain := Config.gcmOpen key nonce aad (slice body 1104 n)
  if body.length = 1120 + n ∧ Config.gcmTag key nonce aad plain = slice body (1104 + n) 16 then some plain else none

/-- COMPONENT. -/
def Device.component (d : Device) (carrier id : Nat) (body : Bytes) : Device :=
  d.ceremonyInput carrier id (fun c => c.typ == 0x20) fun d c =>
    let i := hdr body 0 1
    if d.setSize ≤ i then d.tallyReply carrier 0x11 id []
    else match c.openComponent body with
      | none => d.tallyReply carrier 0x10 id []
      | some k =>
        if c.components.any fun e => e.1 == i then d.tallyReply carrier 0x12 id []
        else if importCount c.params ≤ c.components.length then d.tallyReply carrier 0x15 id []
        else
          let c1 : Ceremony := { c with components := c.components ++ [(i, k)] }
          (((d.mapCust fun x => { x with ceremony := some c1 }).raiseInt .cust 0 1).tallyReply carrier 0 id
            (checkValue (importAlg c.params) k)).tryExecute

def execComponent (carrier : Fin 2) (ceremony : Word) (body : Bytes) (s : State) : Host.Outcome State Fault Refusal :=
  s.done (s.dev.component carrier ceremony.toNat body)

/-- The root that a transport blob carries to this module's open ceremony, if its checks pass (R589). -/
def Device.openTransport (d : Device) (c : Ceremony) (b : Bytes) : Option Bytes :=
  let key := decapsulate c.kem (slice b 100 1088)
  let root := Config.gcmOpen key (slice b 1188 12) (b.take 1200) (slice b 1200 32)
  if b.length = 1248 ∧ Config.gcmTag key (slice b 1188 12) (b.take 1200) root = slice b 1232 16 ∧ slice b 8 16 = c.params
      ∧ slice b 36 32 = d.cust.digest ∧ slice b 68 32 = c.transcript then some root else none

/-- TRANSPORT: a blob that fails its checks ends the ceremony with 0x0A (DEDUCED, log entry 30). -/
def Device.transport (d : Device) (carrier id : Nat) (body : Bytes) : Device :=
  d.ceremonyInput carrier id (fun c => c.typ == 0x11 && c.transport.isNone) fun d c =>
    match d.openTransport c body with
    | none => (d.tallyReply carrier 0x0A id []).endCeremony 0x0A (some [])
    | some _ =>
      ((d.mapCust fun x => { x with ceremony := some { c with transport := some body } }).tallyReply carrier 0 id []).tryExecute

def execTransport (carrier : Fin 2) (ceremony : Word) (body : Bytes) (s : State) : Host.Outcome State Fault Refusal :=
  s.done (s.dev.transport carrier ceremony.toNat body)

/-! ## CANCEL, QUERY, other types (R585) -/

/-- CANCEL_MESSAGE: its reply is a RESULT on its own carrier, and the ceremony's RESULT goes to the opener's. -/
def Device.cancelMessage (d0 : Device) (carrier id : Nat) : Device :=
  let d := d0.expireLate
  match d.cust.ceremony with
  | none => d.olihildReply carrier 0x07 0x13 id []
  | some c =>
    if c.id ≠ id then d.olihildReply carrier 0x07 0x13 id []
    else if c.executing then d.olihildReply carrier 0x07 0x15 id []
    else
      let d1 := d.endCeremony 0x02 (some [])
      if c.carrier = carrier then d1 else d1.olihildReply carrier 0x07 0x02 id []

def execCancelMessage (carrier : Fin 2) (ceremony : Word) (s : State) : Host.Outcome State Fault Refusal :=
  s.done (s.dev.cancelMessage carrier ceremony.toNat)

/-- QUERY. -/
def Device.query (d : Device) (carrier : Nat) : Device := d.olihildReply carrier 0x0A 0 0 d.cust.stateBody

def execQuery (carrier : Fin 2) (s : State) : Host.Outcome State Fault Refusal := s.done (s.dev.query carrier)

/-- UNKNOWN_OLIHILD_TYPE: a TYPE that no request has. -/
def Device.unknownType (d : Device) (carrier typ : Nat) : Device :=
  if typ ∈ [0x01, 0x03, 0x05, 0x06, 0x08, 0x09] then d else d.olihildReply carrier 0x0A 0x14 0 d.cust.stateBody

def execUnknownOlihildType (carrier : Fin 2) (typ : Byte) (s : State) : Host.Outcome State Fault Refusal :=
  s.done (s.dev.unknownType carrier typ.toNat)

/-- An Olihild message received whole. One whose header is not as R584 gives is answered as an unknown TYPE (DESIGN CHOICE, log
entry 32). -/
def Device.olihild (d : Device) (carrier : Nat) (msg : Bytes) : Device :=
  let typ := hdr msg 3 1
  let id := hdr msg 4 4
  let body := msg.drop 16
  if hdr msg 0 2 ≠ 0x4F4C ∨ hdr msg 2 1 ≠ 1 ∨ hdr msg 8 4 ≠ body.length ∨ msg.length < 16 then
    d.olihildReply carrier 0x0A 0x14 0 d.cust.stateBody
  else if typ = 0x01 then d.openCeremony carrier body
  else if typ = 0x03 then d.approve carrier id body
  else if typ = 0x05 then d.component carrier id body
  else if typ = 0x06 then d.transport carrier id body
  else if typ = 0x08 then d.cancelMessage carrier id
  else if typ = 0x09 then d.query carrier
  else d.unknownType carrier typ

/-! ## Windows, limits and CUST_CMD (R575, R582, R601, R603) -/

/-- CEREMONY_WINDOW_EXPIRY. -/
def Device.windowExpiry (d : Device) : Device :=
  match d.cust.ceremony with
  | some c => if c.executing then d else d.endCeremony 0x01 (some [])
  | none => d

def execCeremonyWindowExpiry (s : State) : Host.Outcome State Fault Refusal := s.done s.dev.windowExpiry

/-- CLOSE_MAINT. In the cycle of the limit's expiry the one transition has occurred, and CLOSE_DONE is set (R575). -/
def Device.closeMaint (d : Device) : Device :=
  let a := custAt Off.custCmd
  d.onCommand a fun d =>
    if d.cust.mode = .maintenance then (d.changeMode .service).commandEnd a 0 2
    else if d.pages.cyc.limit then d.commandEnd a 0 2 else d.writeLost a

def execCloseMaint (s : State) : Host.Outcome State Fault Refusal := s.done s.dev.closeMaint

/-- CANCEL. -/
def Device.cancelCeremony (d : Device) : Device :=
  let a := custAt Off.custCmd
  d.onCommand a fun d =>
    match d.cust.ceremony with
    | some c => if c.executing then d.writeLost a else (d.endCeremony 0x02 (some [])).commandEnd a 1 3
    | none => d.writeLost a

def execCancel (s : State) : Host.Outcome State Fault Refusal := s.done s.dev.cancelCeremony

/-- MAINTENANCE_LIMIT_EXPIRY: back to SERVICE, at once or on leaving QUARANTINE. -/
def Device.maintLimit (d : Device) : Device :=
  if d.cust.maintEnd.isNone then d
  else if d.cust.mode = .maintenance then (d.mapCyc fun c => { c with limit := true }).changeMode .service
  else d.mapCust fun c => { c with maintEnd := none, returnTo := if c.returnTo = .maintenance then .service else c.returnTo }

def execMaintenanceLimitExpiry (s : State) : Host.Outcome State Fault Refusal := s.done s.dev.maintLimit

/-- MAINT_EXPIRING. -/
def Device.maintExpiring (d : Device) : Device := if d.cust.maintEnd.isSome then d.raiseInt .cust 0 3 else d

def execMaintExpiring (s : State) : Host.Outcome State Fault Refusal := s.done s.dev.maintExpiring

end Sys2Proof.Machine
end

