-- ==== Sys2Proof/Machine/Custody.lean ====
section
/-! DEFINITION. What each ceremony does when its execution ends (13_modes_custody.md R587 to R595). -/

namespace Sys2Proof.Machine

/-- The open ceremony, when it is of a type and executes. -/
def Device.executing (d : Device) (t : Nat) : Option Ceremony :=
  match d.cust.ceremony with
  | some c => if c.typ = t ∧ c.executing then some c else none
  | none => none

/-- A ceremony of a type that executes runs to its end. -/
def Device.atEnd (d : Device) (t : Nat) (f : Device → Ceremony → Device) : Device :=
  match d.executing t with
  | some c => f d c
  | none => d

/-- Module records can be stored: the store is writable and not full (R586 code 0x07, 10_record_store.md R443, R444). -/
def Device.canStore (d : Device) : Bool := !d.store.noWrite && !d.storeFull

/-! ## Records of the custody chapter (R578) -/

def setRecords (s : CSet) : List Rec := metaRecords 0x07 0 1 s.bytes
def settingRecords (compat : Bool) : List Rec := metaRecords 0x08 0 1 (leBytes 1 (boolNat compat))

/-! ## Enrolment (R577, R578, R587) -/

/-- ENROL_INITIAL: the set is held; it is stored once the store is formatted. -/
def Device.enrolInitial (d : Device) : Device :=
  d.atEnd 0x01 fun d c =>
    let d1 := d.mapCust fun x => { x with set := CSet.parse c.params, setStored := false }
    d1.endCeremony 0 (some d1.cust.digest)

def execEnrolInitial (s : State) : Host.Outcome State Fault Refusal := s.done s.dev.enrolInitial

/-- ENROL: the set is replaced and stored. -/
def Device.enrol (d : Device) : Device :=
  d.atEnd 0x02 fun d c =>
    match CSet.parse c.params with
    | none => d.endCeremony 0x05 (some [])
    | some s =>
      if !d.canStore then d.endCeremony 0x07 (some [])
      else
        let d1 := (d.mapCust fun x => { x with set := some s, setStored := true }).releaseRecords none (setRecords s)
        d1.endCeremony 0 (some d1.cust.digest)

def execEnrol (s : State) : Host.Outcome State Fault Refusal := s.done s.dev.enrol

/-! ## Roots (R588 to R590) -/

/-- A root enters BBRAM (09_key_hierarchy.md R374, R409). -/
def Device.setRoot (d : Device) (root : Bytes) (epoch : Nat) : Device :=
  (d.bankUpdate fun b => { b with
    st := .rooted, rootEpoch := epoch, root := root, prevEpoch := 0, prevRoot := zeros 32
    treeRoot := zeros 32, treeVer := 0, tail := 0, pendBlocks := 0, pendDigest := zeros 14 }).setRootClass 2

/-- The set held becomes a stored one, with the compatibility setting (R578, R588, R589). -/
def Device.storeCustody (d : Device) : Device :=
  let rs := match d.cust.set with | some s => setRecords s | none => []
  (d.mapCust fun x => { x with setStored := true, compat := false }).releaseRecords none (rs ++ settingRecords false)

/-- The table-approval key pair: KEY records of tenant 0, key IDs 1 and 2, with PK set; usages as the engines' signing services
take them (R588). -/
def approvalAttr (id usage alg : Nat) : KeyAttr :=
  { newAttr usage alg false true with keyId := id, version := 1, state := 1, ceremony := false }

def Device.drawApproval (d : Device) : Device :=
  let a := d.random 32
  let d1 := d.drawn
  let b := Config.privateKey 48 0x12 (d1.random 64)
  (d1.drawnFor 64).releaseRecords none (((keyRecords (approvalAttr 1 4 0x14) a) ++ (keyRecords (approvalAttr 2 3 0x12) b)).map
    fun r => d.recordOf 0 0 r)

/-- ROOT_GENERATE. -/
def Device.rootGenerate (d : Device) : Device :=
  d.atEnd 0x10 fun d _ =>
    if !d.store.portsOk then d.endCeremony 0x07 (some [])
    else
      let root := d.random 32
      let d1 := (d.drawn.setRoot root 1)
      let dom := d1.random 16
      let d2 := d1.drawn.formatStore.storeCustody
      let n : Next := { epoch := 1, k := 1, members := [0], ids := [(0, padTo 32 Config.identityDigest)], changes := [] }
      let d3 := (d2.domStep fun x => { x with
        fresh := false, resync := false, leaving := false
        view := { View.initial with domainId := dom, inDomain := true, epoch := 1, members := [0], ids := n.ids, k := 1
                                    lastChange := d2.cycle } }).raiseInt .dom 0 0
      let d4 := d3.releaseRecords none (domainRecords d3.dom.view 1 ++ viewRecords n)
      d4.drawApproval.endCeremony 0 (some (dom ++ leBytes 2 0))

def execRootGenerate (s : State) : Host.Outcome State Fault Refusal := s.done s.dev.rootGenerate

/-- JOIN: the root of the blob, a formatted store, and a view that is yet to be learned; domain resynchronisation follows the
adoption of the epoch that adds this module (R589, 10_record_store.md R456). -/
def Device.join (d : Device) : Device :=
  d.atEnd 0x11 fun d c =>
    match c.transport with
    | none => d
    | some b =>
      match d.openTransport c b with
      | none => d.endCeremony 0x0A (some [])
      | some root =>
        if !d.store.portsOk then d.endCeremony 0x07 (some [])
        else
          let me := hdr b 32 2
          let epoch := hdr b 28 4
          let d1 := (d.setRoot root (hdr b 24 4)).formatStore.storeCustody
          let d2 := (d1.domStep fun x => { x with
            fresh := true, originAsked := [], resync := false, leaving := false
            view := { View.initial with domainId := slice b 8 16, moduleId := me, inDomain := true, joining := true, epoch := epoch
                                        k := hdr b 34 1, lastChange := d1.cycle } }).raiseInt .dom 0 0
          (d2.releaseRecords none (domainRecords d2.dom.view epoch)).endCeremony 0 (some (leBytes 2 me ++ slice b 8 16))

def execJoin (s : State) : Host.Outcome State Fault Refusal := s.done s.dev.join

/-- The root transport blob (R589). -/
def Device.transportBlob (d : Device) (c : Ceremony) (m : Nat) : Bytes :=
  let w := d.dom.view
  let b := d.keys.bank
  let msg := d.random 32
  let nonce := d.drawn.random 12
  let head := padTo 6 Config.transportHead ++ zeros 2 ++ padTo 16 w.domainId ++ leBytes 4 b.rootEpoch ++ leBytes 4 w.epoch
    ++ leBytes 2 m ++ leBytes 1 w.k ++ zeros 1 ++ slice c.params 1216 32 ++ slice c.params 1248 32
    ++ (encapsulate (c.params.take 1184) msg).1 ++ nonce
  let key := (encapsulate (c.params.take 1184) msg).2
  head ++ Config.gcmSeal key nonce head (padTo 32 b.root) ++ Config.gcmTag key nonce head (padTo 32 b.root)

/-- SPONSOR: once the view holds the identity, the blob is returned. -/
def Device.sponsor (d : Device) : Device :=
  d.atEnd 0x12 fun d c =>
    let w := d.dom.view
    match List.find? (fun e => e.2 == slice c.params 1184 32 && w.members.contains e.1) w.ids with
    | none => d
    | some (m, _) => (d.drawn.drawn).endCeremony 0 (some (d.transportBlob c m))

def execSponsor (s : State) : Host.Outcome State Fault Refusal := s.done s.dev.sponsor

/-- ROOT_REPLACE: the new root is in force once its epoch is adopted; a STANDALONE module adopts the successor of its own
epoch itself. -/
def Device.rootReplace (d : Device) : Device :=
  d.atEnd 0x13 fun d c =>
    let done := fun (d : Device) => d.endCeremony 0 (some (leBytes 4 d.keys.bank.rootEpoch))
    if leBytes 4 d.keys.bank.rootEpoch ≠ c.reply then done d
    else if d.dom.view.inDomain then d
    else
      let e := epochSucc d.dom.view.epoch
      done (((d.drawn.mapView fun w => { w with epoch := e }).raiseInt .dom 0 0).adoptRoot (d.random 32) e)

def execRootReplace (s : State) : Host.Outcome State Fault Refusal := s.done s.dev.rootReplace

/-! ## Keys and tables (R591 to R593) -/

/-- KEY_IMPORT: once the peers have answered for its key ID (DESIGN CHOICE, log entry 71), the components combined; RESULT follows the commit. -/
def Device.keyImport (d : Device) : Device :=
  d.atEnd 0x20 fun d c =>
    let p := c.params
    let tenant := importTenant p
    let id := importId p
    if !c.wait.isEmpty || (d.readOf (importRead c.id)).isSome then d
    else if d.storeRefusal.isSome then d.endCeremony 0x07 (some [])
    else if c.found ∨ d.keyVersions tenant id ≠ [] ∨ d.versionsInFlight tenant id none ≠ [] then d.endCeremony 0x0B (some [])
    else
      let alg := importAlg p
      let key := (c.components.map Prod.snd).foldl xorBytes (zeros (algLen alg))
      let a : KeyAttr := { newAttr (importUsage p) alg (importExportable p) false with
        tenant := tenant, keyId := id, version := 1, state := 1, ceremony := true, tdesWeak := tdesWeak alg key }
      let pgen := match d.vfOf tenant with | some (_, f) => f.pgen | none => 0
      let rs := (keyRecords a key).map fun r => d.recordOf tenant pgen r
      let seqs := (List.range rs.length).map fun i => d.store.nextSeq + 1 + i
      let body := leBytes 8 (storedHandle id 1) ++ checkValue alg key ++ zeros 3
      (d.mapCust fun x => { x with ceremony := some { c with wait := seqs, reply := body } }).releaseRecords none rs

def execKeyImport (s : State) : Host.Outcome State Fault Refusal := s.done s.dev.keyImport

/-- A signature block over a message (04_tide_tables.md R142). -/
def signBlock (k : Bytes × Bytes) (msg r : Bytes) : Bytes :=
  padTo 3456 (Config.sign 3309 0x14 k.1 msg r ++ Config.sign 96 0x12 k.2 msg r)

/-- The signed bytes of a grant block. -/
def grantHead (image : Bytes) (tenants : List Nat) : Bytes :=
  [0x4F, 0x47, 0x4E, 0x54] ++ leBytes 2 tenants.length ++ leBytes 2 (hdr image 0x0A 2) ++ leBytes 2 (hdr image 0x06 2) ++ zeros 6
    ++ slice image 0x80 32 ++ padTo 256 (tenants.flatMap fun t => leBytes 4 t)

/-- TABLE_APPROVE: the two blocks go into the staging window behind the body, and into RESULT. -/
def Device.tableApprove (d : Device) : Device :=
  d.atEnd 0x30 fun d c =>
    match d.approvalKey with
    | none => d.endCeremony 0x08 (some (leBytes 1 0x02 ++ leBytes 2 0xA0))
    | some k =>
      let tenants := (List.range (hdr c.params 4 1)).map fun i => hdr c.params (8 + 4 * i) 4
      let sig := signBlock k c.image (d.random 64)
      let d1 := d.drawnFor 64
      let head := grantHead c.image tenants
      let blocks := sig ++ head ++ signBlock k head (d1.random 64)
      let off := hdr c.params 0 4 + c.image.length
      let d2 := (d1.drawnFor 64).mapUnits fun u => { u with
        staging := (blocks.take (2 ^ 25 - off)).zipIdx.foldl (fun t e => t.put 0 (off + e.2) e.1) u.staging }
      d2.endCeremony 0 (some blocks)

def execTableApprove (s : State) : Host.Outcome State Fault Refusal := s.done s.dev.tableApprove

/-! ## Modes and settings (R572, R575, R587, R595) -/

/-- ENTER_SERVICE. -/
def execEnterService (s : State) : Host.Outcome State Fault Refusal :=
  s.done (s.dev.atEnd 0x40 fun d _ => (d.endCeremony 0 (some [])).changeMode .service)

/-- OPEN_MAINTENANCE: the limit starts; one of 5 minutes or less sets MAINT_EXPIRING at entry. -/
def Device.openMaintenance (d : Device) : Device :=
  d.atEnd 0x41 fun d c =>
    let m := hdr c.params 0 2
    let d1 := ((d.endCeremony 0 (some [])).changeMode .maintenance).mapCust fun x => { x with maintEnd := some (d.cycle + minCycles m) }
    if m ≤ 5 then d1.raiseInt .cust 0 3 else d1

def execOpenMaintenance (s : State) : Host.Outcome State Fault Refusal := s.done s.dev.openMaintenance

/-- RETURN_CUSTODY. -/
def execReturnCustody (s : State) : Host.Outcome State Fault Refusal :=
  s.done (s.dev.atEnd 0x42 fun d _ => (d.endCeremony 0 (some [])).changeMode .custody)

/-- COMPAT_SET. -/
def Device.compatSet (d : Device) : Device :=
  d.atEnd 0x43 fun d c =>
    let on := hdr c.params 0 1 == 1
    if !d.canStore then d.endCeremony 0x07 (some [])
    else ((d.mapCust fun x => { x with compat := on }).releaseRecords none (settingRecords on)).endCeremony 0 (some [])

def execCompatSet (s : State) : Host.Outcome State Fault Refusal := s.done s.dev.compatSet

/-- ZEROIZE_CEREMONY: recorded with outcome 0x00, no RESULT, and the line is driven (cause 0x03, 14_tamper.md R618). -/
def execZeroizeCeremony (s : State) : Host.Outcome State Fault Refusal :=
  s.done (s.dev.atEnd 0x4F fun d _ => (d.endCeremony 0 none).zeroize 0x03 0)

end Sys2Proof.Machine
end

