-- ==== Sys2Proof/Machine/Tamper.lean ====
section
/-! DEFINITION. The rows of the tamper monitor: conditions, ZEROIZE_N, the end of a zeroization, the battery sampling
window, the burns of the log and the sticky flags (14_tamper.md R605 to R632). -/

namespace Sys2Proof.Machine

/-- Fault sources a monitor drives (R608); 56 to 59 are events of the tamper logic itself. -/
def monitored (s : Nat) : Bool := decide (32 ≤ s ∧ s < 56)

/-- Sources watched on the battery (R608). -/
def batteryWatched (s : Nat) : Bool := decide ((32 ≤ s ∧ s ≤ 50) ∨ s = 52)

/-- The record of a tamper event (R624): on the battery MODE is 0x07 and the BATTERY flag is set. -/
def Device.eventRecord (d : Device) (battery : Bool) (s detail : Nat) : TampRec :=
  { kind := 0x01, source := s, flags := if battery then 2 else 0, mode := if battery then 7 else d.cust.mode.code
    first := d.tampTick, last := d.tampTick, count := 1, detail := detail }

/-- What an event that finds the staging FIFO full reports (R625): source 57, of which the battery domain keeps the sticky
bit only. -/
def Device.reportCoalesced (battery : Bool) (d : Device) (s : Nat) : Device :=
  if battery then d.stick (s - 32) else d.fault s

/-- Detection of a tamper event (R613): the flags, the staged record, the collector's count, and for S4 the ZEROIZE line.
Tj is the DETAIL of the temperature sources. -/
def Device.detect (d : Device) (battery : Bool) (s detail : Nat) : Device :=
  let d1 := (d.mapTamp fun t => { t with
    cond := t.cond.add (s - 32)
    tj := if s = 49 ∨ s = 50 ∨ s = 54 then detail else t.tj }).stick (s - 32)
  let d2 := Device.stageRecord (Device.reportCoalesced battery) d1 (d1.eventRecord battery s detail)
  let (d3, sev) := if battery then (d2, 0) else ((d2.raiseInt .tamp 0 0).holdCause s true).recordEvent s
  if s ≤ 53 then d3.assertLine (Device.reportCoalesced battery) 0x01 s
  else if sev = 3 then d3.enterQuarantine
  else if 4 ≤ sev then d3.assertLine (Device.reportCoalesced battery) 0x02 s
  else d3

/-- A monitor enters condition with a feed present and the monitor armed; a condition that persists is one event (R605). -/
def Device.tamperEvent (d : Device) (s detail : Nat) : Device :=
  if monitored s && d.tamp.armed && d.power.st != .battery && !d.tamp.cond.mem (s - 32) then d.detect false s detail
  else d

def execTamperEvent (source : Fin 28) (detail : BitVec 16) (s : State) : Host.Outcome State Fault Refusal :=
  s.done (s.dev.tamperEvent (32 + source) detail.toNat)

/-- A monitor leaves condition (R605): CAUSE falls, and the line is let go when no S4 source is left (R614). -/
def Device.conditionEnd (d : Device) (s : Nat) : Device :=
  let d1 := d.mapTamp fun t =>
    let c := t.cond.erase (s - 32)
    { t with cond := c, line := c.any fun e => decide (e.1 ≤ 21) }
  (if s = 48 then d1.mapPins fun p => { p with zeroizeLow := false } else d1).holdCause s false

def execTamperConditionEnd (source : Fin 28) (s : State) : Host.Outcome State Fault Refusal :=
  s.done (if s.dev.tamp.cond.mem source then s.dev.conditionEnd (32 + source) else s.dev)

/-- ZEROIZE_N has been low for 10 µs without a break (R620). -/
def execZeroizeNLow (s : State) : Host.Outcome State Fault Refusal :=
  s.done (if s.dev.power.st == .battery then s.dev
    else (s.dev.mapPins fun p => { p with zeroizeLow := true }).tamperEvent 48 0)

/-- The end of the sequence of R405: the volatile state is cleared, operation 0x0007 ends, and ZEROIZED is entered, which
ends an open ceremony ABORTED without a RESULT (R407, R574, R582, R615). -/
def Device.zeroizeEnd (d : Device) : Device :=
  let b := Page.key.base 0
  let d1 := d.mapKeys fun k => { k with runs := [], faults := [], retired := [], tagKey := zeros 32, hbmKey := zeros 32, indexKey := zeros 32, op := none }
  let d2 := ((d1.progPos b 1048576).progEnd b false).raiseInt .key 0 2
  if d2.cust.mode == .zeroized || !d2.cust.selected then d2
  else (d2.enterMode .zeroized).endCeremony 0x09 none

def execZeroizationComplete (s : State) : Host.Outcome State Fault Refusal :=
  let b := Page.key.base 0
  s.done (if s.dev.tamp.zStarted && s.dev.progRunning b && s.dev.field (b + Off.progOp) 15 0 == 7 then s.dev.zeroizeEnd
    else s.dev)

/-- A battery sampling window (R611, R616): the watched sources found in condition, each with its DETAIL. The others that it
watches are out of condition. -/
def Device.samplingWindow (d : Device) (found : List (Nat × Nat)) : Device :=
  let seen := fun s => found.any fun e => e.1 == s
  let gone := d.tamp.cond.filter fun e => batteryWatched (32 + e.1) && !seen (32 + e.1)
  let d1 := gone.foldl (fun d e => d.conditionEnd (32 + e.1)) d
  let d2 := d1.mapPins fun p => { p with zeroizeLow := seen 48 }
  (found.filter fun e => batteryWatched e.1).foldl
    (fun d e => if d.tamp.cond.mem (e.1 - 32) then d else d.detect true e.1 (e.2 % 65536)) d2

def execBatterySamplingWindow (found : List (Nat × Nat)) (s : State) : Host.Outcome State Fault Refusal :=
  let d := s.dev
  s.done (if d.power.st == .battery || d.power.st == .stopping then
      (d.mapPower fun p => { p with st := .battery }).samplingWindow found
    else d)

/-! ## The tamper log (R624 to R630) -/

/-- The entry a burnt record came from is freed. -/
def Tamper.freeEntry (t : Tamper) (r : TampRec) : Tamper :=
  if r.kind = 0x0F then { t with full := true }
  else if r.kind = 0x02 then { t with pend := t.pend.erase r.source }
  else { t with fifo := t.fifo.tail }

/-- A row is burnt and read back, or read torn (R626, R627); the next record starts, or the run ends (R630). -/
def Device.rowBurnt (d : Device) (torn : Bool) : Device :=
  match d.tamp.burning with
  | none => d
  | some r =>
    if d.power.st == .battery then d else
    let b := Page.tamp.base 0
    let row : Row := if torn then .torn else .burnt r
    let d1 := d.mapTamp fun t => { t with burning := none, rows := t.rows.insert t.nextRow row, nextRow := t.nextRow + 1 }
    let d2 := (d1.progPos b (d1.reg (b + Off.progPosLo) + 1)).raiseInt .tamp 0 (if torn then 3 else 1)
    let d3 := if torn then d2.fault 58
      else
        let d' := d2.mapTamp fun t => t.freeEntry r
        if r.kind = 0x0F then (d'.raiseInt .tamp 0 4).fault 59 else d'
    let d4 := d3.startBurn
    if d4.tamp.burning.isSome then d4 else d4.progEnd b false

def execLogRowBurnt (torn : Bool) (s : State) : Host.Outcome State Fault Refusal := s.done (s.dev.rowBurnt torn)

/-- A write of 1s to TAMP_STICKY (R623): performed in CUSTODY and MAINTENANCE; a bit whose source is in condition, or that
is set in this cycle, stays (R37). -/
def Device.stickyClear (d : Device) (bits : Nat) : Device :=
  let a := Page.tamp.base 0 + Off.tampSticky
  d.onCommand a fun d =>
    if bits % 2 ^ 28 = 0 then d
    else if !d.cust.selected || (d.cust.mode != .custody && d.cust.mode != .maintenance) then d.writeLost a
    else
      let now := d.pages.cyc.hwSet.get 0 a
      d.mapTamp fun t => { t with
        sticky := t.sticky.filter fun e => !bitOf bits e.1 || t.cond.mem e.1 || bitOf now e.1 }

def execTampStickyClear (bits : Word) (s : State) : Host.Outcome State Fault Refusal :=
  s.done (s.dev.stickyClear bits.toNat)

end Sys2Proof.Machine
end

