-- ==== Sys2Proof/Machine/Faults.lean ====
section
/-! DEFINITION. The rows of the fault collector (15_faults.md R633 to R661). -/

namespace Sys2Proof.Machine

/-- Source numbers that no event counts (R412, R466, R525, R635, R690, R692). -/
def neverCounted (s : Nat) : Bool :=
  decide ((13 ≤ s ∧ s ≤ 15) ∨ (29 ≤ s ∧ s ≤ 31) ∨ (172 ≤ s ∧ s ≤ 175) ∨ s = 190 ∨ s = 191 ∨ s = 207 ∨ s = 223 ∨ s = 239)

/-- Sources whose cause lasts as a state (R640, R690, R692, R710). -/
def conditionType (s : Nat) : Bool :=
  monitored s || decide (s ∈ [0, 1, 3, 4, 7, 16, 17, 62, 181, 187, 192, 201, 220, 221, 222, 233])

/-- What a source's block does at its event, where no row of its own does it. `place` says what the event concerns: the
first slot of a run (165), an item (217), an MSI-X entry (222), a class (242, 243) or a VF (247). -/
def Device.blockEffect (d : Device) (s place : Nat) : Device :=
  if s = 165 then d.mapKeys fun k => { k with runs := k.runs.erase place }
  else if s = 217 then d.finishItem place .squashed 0
  else if s = 222 then d.mapFront fun f =>
    { f with msix := f.msix.put Msix.initial place { f.msix.get Msix.initial place with withheld := true } }
  else if s = 242 ∨ s = 243 then d.mapSched fun x =>
    { x with rebuilding := if x.rebuilding.contains (place % 3, s == 243) then x.rebuilding
                           else x.rebuilding ++ [(place % 3, s == 243)] }
  else if s = 247 then d.setVf place { d.vf place with laneWin := [], engWin := [] }
  else d

/-- Every FLT_CFG field at its reset value (R653). -/
def Device.resetConfig (d : Device) : Device :=
  (d.noteReturn 0x5400 0x5800).mapPages fun p => { p with regs := p.regs.filter fun e => !decide (0x5400 ≤ e.1 ∧ e.1 < 0x5800) }

/-- An escalation (R645): SEV 3, ESCALATED, and the S3 reaction. -/
def Device.escalate (d : Device) (s : Nat) : Device :=
  let x := d.source s
  if !x.timer then d
  else
    let d1 := (d.setSource s { x with timer := false, escalated := true, sev := 3 }).raiseMask (Page.flt.base 0) 0x18
    (if x.sev < d1.alertSev ∧ d1.alertSev ≤ 3 then d1.mapPins fun p => { p with alertReleased := false } else d1).enterQuarantine

/-- The high-water mark invalid, every ALSO bit zero (R648, R653). -/
def Device.clearHwm (d : Device) : Device :=
  let b := Page.flt.base 0
  (List.range 8).foldl (fun d j => d.setReg (b + Off.fltHwmAlso + 4 * j) 0)
    ((((d.mapCyc fun c => { c with hwm := [] }).setReg (b + Off.fltHwm) 0).setReg (b + Off.fltHwmTimeLo) 0).setReg
      (b + Off.fltHwmTimeHi) 0)

/-- What a self-error does besides QUARANTINE (R653). The words and counts that fail are rewritten before the error's own
event is recorded; the timers expire after it. -/
def Device.selfRepair (d : Device) (which : Nat) (words counts : List Nat) (hwm : Bool) : Device :=
  if which = 0 then d.resetConfig
  else if which = 1 then
    let d1 := words.foldl (fun d s => if s < 256 then d.setSource s { Source.clear with
      pending := true, sev := 3, timer := (d.source s).timer } else d) d
    let d2 := counts.foldl (fun d s => if s < 256 then d.setReg (0x7400 + 4 * s) 0 else d) d1
    if hwm then d2.clearHwm else d2
  else d

/-- A self-error of the collector (R636, R653). -/
def Device.selfError (d : Device) (which : Nat) (words counts : List Nat) (hwm : Bool) : Device :=
  let d1 := (d.selfRepair which words counts hwm).fault (252 + which)
  if which = 3 then d1.sources.foldl (fun d e => d.escalate e.1) d1 else d1

def execCollectorSelfError (which : Fin 4) (words counts : List Nat) (hwm : Bool) (s : State) :
    Host.Outcome State Fault Refusal :=
  s.done (s.dev.selfError which words counts hwm)

/-- A source reports an event (R641). A tamper source acts as its monitor does (R608), a self-error source as R653 gives. -/
def Device.faultEvent (d : Device) (s : Nat) (held : Bool) (place : Nat) : Device :=
  if neverCounted s || d.power.st == .battery then d
  else if monitored s then d.tamperEvent s 0
  else if 252 ≤ s then d.selfError (s - 252) [] [] false
  else
    let d1 := (d.blockEffect s place).fault s
    if conditionType s then d1.holdCause s held else d1

def execFaultEvent (source : Fin 256) (held : Bool) (place : Nat) (s : State) : Host.Outcome State Fault Refusal :=
  s.done (s.dev.faultEvent source held place)

/-- A counting window ends (R638). -/
def execFaultWindowEnd (source : Fin 256) (s : State) : Host.Outcome State Fault Refusal :=
  s.done (s.dev.setSource source (s.dev.source source).closeWindow)

/-- An escalation timer expires (R645). -/
def execEscalationTimerExpiry (source : Fin 256) (s : State) : Host.Outcome State Fault Refusal :=
  s.done (s.dev.escalate source)

/-- A write of 1 to FLT_STAT.ACK (R644). An S2 event of the same cycle wins: ACK stays 0, the timer runs on and the write is
lost (R37, R646). -/
def Device.faultAck (d : Device) (s : Nat) : Device :=
  let a := 0x6400 + 4 * s
  let x := d.source s
  d.onCommand a fun d =>
    if d.pages.cyc.events.mem s && x.pending && x.sev == 2 && !x.ack then d.writeLost a
    else (d.setSource s { x with ack := true, timer := false }).mapCyc fun c => { c with swWrote := c.swWrote.add a }

def execFaultAck (source : Fin 256) (s : State) : Host.Outcome State Fault Refusal := s.done (s.dev.faultAck source)

/-- A write of 1 to PENDING (R650), and QUARANTINE left with the last SEV 3 status (R651). -/
def Device.pendingClear (d : Device) (s : Nat) : Device :=
  d.onCommand (0x6400 + 4 * s) fun d =>
    if d.cause s then d.raiseInt .flt 0 5
    else
      let x := d.source s
      (d.setSource s { x with pending := false, sev := 0, escalated := false, ack := false, timer := false }).leaveQuarantine

def execPendingClear (source : Fin 256) (s : State) : Host.Outcome State Fault Refusal :=
  s.done (s.dev.pendingClear source)

/-- REARM: the high-water mark is cleared at the next SYS cycle, which the command lets come (R648). -/
def Device.rearm (d : Device) : Device :=
  let a := Page.flt.base 0 + Off.fltCtrl
  d.onIdle a 1 0 fun d => (((d.commandStart a 1).passCycle).clearHwm).commandEnd a 1 2

def execRearm (s : State) : Host.Outcome State Fault Refusal := s.done s.dev.rearm

/-- A write of FLT_CFG (R661): in CUSTODY and MAINTENANCE, every severity field 0 to 4. The severities of sources 32 to 53
and 252 to 255 are constant (R660). -/
def Device.cfgWrite (d : Device) (s w : Nat) : Device :=
  let a := cfgAddr s
  d.onWrite a fun d =>
    let sevOk := decide (bitsOf w 26 24 ≤ 4 ∧ bitsOf w 22 20 ≤ 4 ∧ bitsOf w 18 16 ≤ 4)
    if !(d.cust.mode == .custody || d.cust.mode == .maintenance) || !d.cust.selected || !sevOk then d.writeLost a
    else
      let fixed := decide ((32 ≤ s ∧ s ≤ 53) ∨ 252 ≤ s)
      let keep := bitsOf w 15 8 * 256 + bitsOf w 3 0
      (d.noteWrite a).setReg a (if fixed then d.reg a / 65536 * 65536 + keep
        else bitsOf w 26 24 * 2 ^ 24 + bitsOf w 22 20 * 2 ^ 20 + bitsOf w 18 16 * 2 ^ 16 + keep)

def execFltCfgWrite (source : Fin 256) (value : Word) (s : State) : Host.Outcome State Fault Refusal :=
  s.done (s.dev.cfgWrite source value.toNat)

end Sys2Proof.Machine
end

