-- ==== Sys2Proof/Machine/Rerun.lean ====
section
/-! DEFINITION. REPLAY_RERUN: the units of a replay blob run again on this module (18_counters_replay.md R729 to R732). -/

namespace Sys2Proof.Machine

/-! ## The units of a blob (R722, R726) -/

/-- Records grouped into units: an ITEM record begins one. -/
def groupUnits : List Bytes → List (List Bytes)
  | [] => []
  | r :: rs =>
    match groupUnits rs with
    | [] => [[r]]
    | g :: gs => if hdr (g.headD []) 0 1 = 1 then [r] :: g :: gs else (r :: g) :: gs

/-- A unit read back. -/
structure Replayed where
  seq : Nat
  service : Nat
  variant : Nat
  status : Nat
  ver : Nat
  rerun : Nat
  unit : Nat
  outDigest : Bytes
  desc : Desc
  rootEpoch : Nat
  draws : List Bytes
  input : Bytes
  hasInput : Bool
deriving DecidableEq, Repr

def Replayed.parse (g : List Bytes) : Replayed :=
  let i := g.getD 0 []
  let q := g.getD 1 []
  let ins := g.filter fun r => hdr r 0 1 == 4
  { seq := hdr i 4 4, service := hdr i 8 2, variant := hdr i 0x0A 1, status := hdr i 0x0B 1, ver := hdr i 0x0C 2, rerun := hdr i 0x0E 1
    unit := hdr i 0x0F 1, outDigest := slice i 0x58 8, desc := Desc.parse (slice q 8 64), rootEpoch := hdr q 0x48 4
    draws := (g.filter fun r => hdr r 0 1 == 3).flatMap fun r => (List.range (hdr r 8 1)).map fun k => slice r (0x10 + 32 * k) 32
    input := ins.flatMap fun r => slice r 8 88, hasInput := !ins.isEmpty }

/-! ## Reasons to skip (R731) -/

/-- Services that change vault or key state, or draw what is never recorded (R723). RSASSA-PSS draws its salt. -/
def rerunBarred (x : Desc) : Bool :=
  decide (x.service / 256 = 4 ∨ x.service / 256 = 6 ∨ x.service ∈ [0x0503, 0x0504, 0x0510, 0x0512, 0x0520, 0x0530])
    || (x.service == 0x0501 && x.variant / 16 == 2)

/-- The steps of a unit: its descriptor, or the entries of its bundle. -/
def Replayed.steps (u : Replayed) : List Desc := if u.desc.bundle then bundleSteps (padTo u.desc.inLen u.input) u.desc.inLen else [u.desc]

/-- The version a step runs: the recorded one, and for a bundle step the active one. -/
def Device.rerunTable (d : Device) (u : Replayed) (c : Desc) : Option Nat :=
  (List.find? (fun e => e.2.service == c.service && e.2.variant == c.variant
    && (if u.desc.bundle then e.2.active else e.2.ver == u.ver)) d.units.tables).map Prod.fst

/-- The bank under which a root epoch's keys are derived. -/
def Device.bankOf (d : Device) (epoch : Nat) : Option Bank :=
  let b := d.keys.bank
  if (b.st == .rooted || b.st == .rewrap) && b.rootEpoch == epoch then some b
  else if b.st = .rewrap ∧ b.prevEpoch = epoch then some { b with root := b.prevRoot, rootEpoch := b.prevEpoch } else none

/-- The entry of a key operand, or the reason it cannot be used. -/
def Device.rerunKey (d : Device) (x : Item) (b : Bool) (epoch : Nat) : KeyEntry ⊕ Nat :=
  let h := x.handle b
  let tenant := d.tenantOf x
  if h % 256 = 2 then
    match d.storedKey tenant (bitsOf h 63 24) (bitsOf h 23 8) with
    | some (a, key) =>
      if d.keyRetired tenant (bitsOf h 63 24) (bitsOf h 23 8) then .inr 3
      else .inl { key := key, attr := { a with tdesWeak := tdesWeak a.alg key }, derived := false }
    | none => .inr 3
  else if h % 256 = 1 then
    match d.bankOf epoch, derivedUse (d.derivedUses x b) with
    | some k, some (u, a) =>
      .inl (Device.derivedKey (d.mapKeys fun y => { y with bank0 := k, active := 0 }) tenant h u a)
    | none, _ => .inr 5
    | _, none => .inr 3
  else .inr 3

/-! ## Runs (R730) -/

/-- A meaning of a service run on a device by itself. -/
def Device.via (d : Device) (f : State → Host.Outcome State Fault Refusal) : Device :=
  match f { pending := [], dev := d } with
  | .next t => t.dev
  | _ => d

/-- The service of an item that runs. -/
def Device.runService (d : Device) (n s : Nat) : Device :=
  d.via (match s with
    | 0x0101 => execPinTranslate n | 0x0102 => execPinTranslateDukpt n | 0x0103 => execPinVerifyOffset n
    | 0x0104 => execPinVerifyPvv n | 0x0105 => execDukptDataDecrypt n | 0x0201 => execArqcVerify n
    | 0x0210 => execCvvGenerate n | 0x0211 => execCvvVerify n | 0x0301 => execRetailMacGenerate n
    | 0x0302 => execRetailMacVerify n | 0x0303 => execAesCmacGenerate n | 0x0304 => execAesCmacVerify n
    | 0x0305 => execHmacSha256Generate n | 0x0306 => execHmacSha256Verify n | 0x0F00 => execEcho n
    | 0x0501 => execRsaSign n | 0x0502 => execRsaVerify n | 0x0505 => execPublicKeyExport n | 0x0511 => execEcdsaVerify n
    | 0x0513 => execEcdsaVerifySlotCurve n | 0x0521 => execMlDsa65Verify n | 0x0531 => execMlKem768Decapsulate n
    | 0x0540 => execModularExponentiation n
    | _ => execOperatorTableService n)

/-- The key entries of the step an item stands at. -/
def Device.rerunKeys (d : Device) (x : Item) (epoch : Nat) : (Option KeyEntry × Option KeyEntry) ⊕ Nat :=
  let c := x.current
  match (if c.needsA then (d.rerunKey x false epoch).map some id else .inl none),
        (if c.needsB then (d.rerunKey x true epoch).map some id else .inl none) with
  | .inl a, .inl b => .inl (a, b)
  | .inr k, _ => .inr k
  | _, .inr k => .inr k

/-- One step run to its gate: what it stages, or the reason it is skipped. -/
def Device.rerunStep (d : Device) (n : Nat) (x : Item) (u : Replayed) : Staged ⊕ Nat :=
  let c := x.current
  if isCarrier c then .inl (stagedPlain .ok 0)
  else
    let bound := d.rerunTable u c
    if !isEngine c.service && bound.isNone then .inr 2
    else
      let y := { x with bound := bound }
      match d.rerunKeys y u.rootEpoch with
      | .inr k => .inr k
      | .inl (a, b) =>
        let bad := (a.bind fun e => d.keyCheck y false e).or (b.bind fun e => d.keyCheck y true e)
        match bad with
        | some (st, k) => .inl (stagedPlain st k)
        | none =>
          let a1 := match sessionIndex c.service c.variant, a with
            | some k, some e => some (y.sessionKey e k)
            | _, _ => a
          let z := { y with
            stage := .running
            ops := { y.ops with keyA := a1, keyB := b }
            run := { y.run with unit := some (.lane 0 0), staged := none } }
          match ((d.setItem n z).runService n c.service).item n with
          | some w => .inl (w.run.staged.getD (stagedPlain .ok 0))
          | none => .inl (stagedPlain .ok 0)

/-- The steps of a bundle, one after another. -/
def Device.rerunSteps (d : Device) (n : Nat) (u : Replayed) : Nat → Item → Comp ⊕ Nat
  | 0, x => .inl (bundleComp x.run.steps)
  | f + 1, x =>
    if x.steps.length ≤ x.run.steps.length then .inl (bundleComp x.run.steps)
    else
      let y := { x with run := { x.run with step := x.run.steps.length } }
      match d.rerunStep n y u with
      | .inr k => .inr k
      | .inl st =>
        let e : StepEnd := { status := st.status, detail := st.detail, result := padTo 16 st.result }
        let ends := y.run.steps ++ [e]
        if bitOf x.desc.param 0 || e.goesOn then Device.rerunSteps d n u f { y with run := { y.run with steps := ends } }
        else .inl (bundleComp (ends ++ squashedSteps (x.steps.length - ends.length)))

/-- A unit run again: its completion, or the reason it is skipped. -/
def Device.rerunUnit (d : Device) (tenant : Nat) (u : Replayed) : Comp ⊕ Nat :=
  if u.steps.any rerunBarred then .inr 1
  else if u.desc.buf && u.desc.inLen != 0 && !u.hasInput then .inr 4
  else
    let n := d.sched.nextItem
    let d1 := d.setVf 0 { d.vf 0 with tenant := tenant }
    let x0 := Item.atAcceptance { vf := 0, qp := 0, window := false, slot := 0, intruder := false } u.desc .background d.cycle
    let x := { x0 with
      steps := if u.desc.bundle then u.steps else []
      ops := { x0.ops with data := if u.desc.buf then padTo u.desc.inLen u.input else [], random := u.draws.headD [] } }
    if u.desc.bundle then d1.rerunSteps n u u.steps.length x
    else match d1.rerunStep n x u with
      | .inr k => .inr k
      | .inl st => .inl { status := st.status, detail := st.detail, result := padTo 16 st.result, buffer := st.buffer }

/-! ## RESULT (R732) -/

/-- What a re-run has found so far. -/
structure RerunTally where
  ran : Nat
  matched : Nat
  skipped : Nat
  firstDiff : Option (Nat × Nat × Nat × Nat)
  firstSkip : Option (Nat × Nat)
deriving DecidableEq, Repr

/-- OUT_DIGEST of a completion. -/
def Comp.outDigest (c : Comp) : Bytes :=
  if c.status.good then (Config.sha3 (padTo 16 c.result ++ c.buffer.getD [])).take 8 else zeros 8

/-- One unit of the range. A unit that completed OK_DELAYED matches OK: a re-run is not admitted (DEDUCED, log entry 33). -/
def Device.rerunCount (d : Device) (tenant : Nat) (t : RerunTally) (u : Replayed) : RerunTally :=
  match d.rerunUnit tenant u with
  | .inr k => { t with skipped := t.skipped + 1, firstSkip := t.firstSkip.or (some (u.seq, k)) }
  | .inl c =>
    let status := decide (c.status.code ≠ (if u.status = 1 then 0 else u.status))
    let output := decide (c.outDigest ≠ u.outDigest)
    if !status && !output then { t with ran := t.ran + 1, matched := t.matched + 1 }
    else { t with
      ran := t.ran + 1
      firstDiff := t.firstDiff.or (some (u.seq, boolNat status + 2 * boolNat output, u.rerun, u.unit)) }

/-- The RESULT body. -/
def RerunTally.body (t : RerunTally) : Bytes :=
  leBytes 4 t.ran ++ leBytes 4 t.matched ++ leBytes 4 (t.ran - t.matched) ++ leBytes 4 t.skipped
    ++ (match t.firstDiff with
        | some (s, k, r, u) => leBytes 4 s ++ leBytes 1 k ++ leBytes 1 r ++ leBytes 1 u ++ zeros 1
        | none => leBytes 4 0xFFFFFFFF ++ zeros 4)
    ++ (match t.firstSkip with
        | some (s, k) => leBytes 4 s ++ leBytes 1 k ++ zeros 3
        | none => leBytes 4 0xFFFFFFFF ++ zeros 4)

/-- REPLAY_RERUN. -/
def Device.replayRerun (d : Device) : Device :=
  d.atEnd 0x44 fun d c =>
    let b := c.image
    let recs := (List.range (hdr b 0x18 4)).map fun i => slice b (64 + 96 * i) 96
    let first := hdr c.params 4 4
    let us := ((groupUnits recs).map Replayed.parse).filter fun u => decide (seqAfter first u.seq < hdr c.params 8 4)
    let t := us.foldl (d.rerunCount (hdr b 8 4)) { ran := 0, matched := 0, skipped := 0, firstDiff := none, firstSkip := none }
    d.endCeremony 0 (some t.body)

def execReplayRerun (s : State) : Host.Outcome State Fault Refusal := s.done s.dev.replayRerun

end Sys2Proof.Machine
end

