-- ==== Sys2Proof/Machine/Mailbox.lean ====
section
/-! DEFINITION. The manager's channel: frames of the MBX page; and the soft resets of the MBX, CNT and RPL pages
(12_tenancy.md R567, R568; 18_counters_replay.md R714, R733). -/

namespace Sys2Proof.Machine

def mbxAt (o : Nat) : Nat := Page.mbx.base 0 + o

/-- A frame joins the message of its carrier; the last one makes it whole. A message beyond 65,536 bytes is dropped (R584; DESIGN
CHOICE, log entry 32). -/
def Device.frameIn (d : Device) (more : Bool) (data : Bytes) : Device :=
  let msg := d.cust.partMbx ++ data
  if more then d.mapCust fun c => { c with partMbx := msg.take 65537 }
  else
    let d1 := d.mapCust fun c => { c with partMbx := [] }
    if 65536 < msg.length then d1 else d1.olihild 0 msg

/-- MBX_SEND: the frame in MBX_OUT is taken, or refused with 0x02 or 0x03. -/
def Device.mbxSend (d : Device) : Device :=
  let a := mbxAt Off.mbxCmd
  d.onCommand a fun d =>
    let h := d.reg (mbxAt Off.mbxOut)
    let len := bitsOf h 10 0
    let code := if bitsOf h 23 16 ≠ 1 then 2 else if 1532 < len then 3 else 0
    let words := (List.range ((len + 3) / 4)).flatMap fun i => leBytes 4 (d.reg (mbxAt Off.mbxOut + 4 + 4 * i))
    let d1 := (((d.commandStart a 0).setResult (mbxAt Off.mbxResult) code).commandEnd a 0 1).raiseInt .mbx 0 1
    if code = 0 then (d1.coreItem 1).frameIn (bitOf h 31) (words.take len) else d1

def execMbxSend (s : State) : Host.Outcome State Fault Refusal := s.done s.dev.mbxSend

/-- MBX_IN_FREE. -/
def Device.mbxInFree (d : Device) : Device := d.onCommand (mbxAt Off.mbxCmd) fun d => (d.w1c (mbxAt Off.mbxCmd) 4).placeFrame

def execMbxInFree (s : State) : Host.Outcome State Fault Refusal := s.done s.dev.mbxInFree

/-- What a soft reset of the MBX page does: frames are discarded, the pool table stays (R568). -/
def Device.mbxReset (d : Device) : Device :=
  ((d.mapCust fun c => { c with partMbx := [], framesIn := [] }).eraseRegs (mbxAt Off.mbxOut) (mbxAt 0x1000)).clearBits
    (mbxAt Off.mbxCmd) 4

/-- MBX_SOFT_RESET. -/
def execMbxSoftReset (s : State) : Host.Outcome State Fault Refusal :=
  s.done (s.dev.softStart (mbxAt 0) fun d => d.mbxReset)

/-- CNT_SOFT_RESET. -/
def execCntSoftReset (s : State) : Host.Outcome State Fault Refusal :=
  s.done (s.dev.softStart (Page.cnt.base 0) fun d => d.zeroCounters)

/-- RPL_SOFT_RESET: a running EXPORT ends with 0x06. -/
def execRplSoftReset (s : State) : Host.Outcome State Fault Refusal :=
  s.done (s.dev.softStart (Page.rpl.base 0) fun d => d.endExport 6)

end Sys2Proof.Machine
end

