-- ==== Sys2Proof/Machine/Power.lean ====
section
/-! DEFINITION. The rows of power, clocks, settings burns and the host's pins (16_power_clocks_startup.md R662 to R694;
20_electrical_package.md R761, R771, R773; 03_host_queues.md R122, R123, R125). -/

namespace Sys2Proof.Machine

def pwrAt (o : Nat) : Nat := Page.pwr.base 0 + o
def otpAt (o : Nat) : Nat := Page.otp.base 0 + o

/-- The die has its rails, and no power-loss stop runs. -/
def Device.running (d : Device) : Bool := d.power.st != .battery && d.power.st != .stopping

/-- The control cores stop with their clock, and go on with it; none runs where the firmware did not verify (R123, R671, R675, R677;
DEDUCED from R121, log entry 151). -/
def Device.coresStop (d : Device) : Device :=
  if d.field Off.devCoreStat 3 0 = 0 then d else (d.setField Off.devCoreStat 3 0 0).raiseInt .dev 0 2
def Device.coresResume (d : Device) : Device := d.setField Off.devCoreStat 3 0 (if d.causes.mem 233 then 0 else 0xF)

/-- Whether a clock domain runs (01_architecture.md R24; R671, R677): the lane clusters and engine groups by their gating, OTP during
reads and burns, JNL_n while its port has an SSD. A read of the antifuses ends within its own command. -/
def Device.domainRuns (d : Device) (n : Nat) : Bool :=
  let up := d.awake || d.power.st == .starting
  let pll := fun k => bitOf d.power.locked k
  if n = 1 then true
  else if n = 2 ∨ n = 16 then d.running
  else if n = 3 then d.running && (d.power.st == .ebb || pll 0)
  else if n = 4 then up && pll 1
  else if n = 5 ∨ n = 6 then up && pll 2
  else if 7 ≤ n ∧ n ≤ 10 then up && pll 3 && d.store.ports.getD (n - 7) .absent != .absent
  else if n = 11 then up && pll 4
  else if n = 12 ∨ n = 13 then up && pll 5
  else if n = 14 then up && pll 8
  else if n = 15 then up && (d.power.st == .flood || d.power.burn.isSome)
  else if 17 ≤ n ∧ n ≤ 32 then up && pll 6 && (d.cluster (n - 17)).clk != .gated
  else if 33 ≤ n ∧ n ≤ 40 then up && pll 7 && (d.group (n - 33)).clk != .gated
  else false

/-! ## Chains (R662 to R669) -/

/-- A healthy chain (R662). -/
def Chain.healthy (c : Chain) : Bool := c.feedOk && c.outOk

/-- A chain by number: 0 is A, 1 is B. -/
def Power.chain (p : Power) (c : Nat) : Chain := if c = 0 then p.chainA else p.chainB
def Power.setChain (p : Power) (c : Nat) (x : Chain) : Power :=
  if c = 0 then { p with chainA := x } else { p with chainB := x }
def Power.claim (p : Power) (c : Nat) : Nat := if c = 0 then p.claimA else p.claimB

/-- The chain in standby. -/
def Power.standby (p : Power) : Nat := if p.active = 2 then 0 else 1

/-- The chain that R664 chooses; none where no chain is healthy. -/
def Power.choice (p : Power) : Option Nat :=
  match p.chainA.healthy, p.chainB.healthy with
  | true, true => some (if p.claimA < p.claimB then 1 else 0)
  | true, false => some 0
  | false, true => some 1
  | false, false => none

/-- The byte of a chain in FEED_HEALTH (R689). -/
def Power.health (p : Power) (c : Nat) : Nat :=
  let x := p.chain c
  boolNat x.feedOk + 2 * boolNat x.outOk + 4 * boolNat (x.selfTest && x.feedOk) + 8 * boolNat (p.active == c + 1)
    + 16 * boolNat (x.healthy && p.active != c + 1)

/-- A change of the power path, with FEED_CHANGED and HEALTH_CHANGED where FEED_HEALTH changes. -/
def Device.powerStep (d : Device) (f : Power → Power) : Device :=
  let p := d.power
  let d1 := d.mapPower f
  let q := d1.power
  let feed := q.chainA.feedOk != p.chainA.feedOk || q.chainB.feedOk != p.chainB.feedOk
  let other := [0, 1].any fun c => q.health c / 2 != p.health c / 2
  let d2 := if feed then d1.raiseInt .pwr 0 1 else d1
  if other then d2.raiseInt .pwr 0 2 else d2

/-- STATE_CHANGED with a new power state. -/
def Device.setPowerState (d : Device) (st : PowerState) : Device :=
  (d.mapPower fun p => { p with st := st }).raiseInt .pwr 0 3

/-- The orderly power-loss stop (R670): gates shut, intake stops, no item goes on, and what is not yet in an issued write is
gone. Writes already issued run on while power lasts; the battery domain records the stop. With no chain healthy, sources 0 and 1 hold
their causes (R664). -/
def Device.powerStop (d : Device) : Device :=
  let d1 := (d.squashAll.mapFront fun f => { f with vfEnable := false }).mapDom fun x => { x with
    portUp := [false, false], portSecured := [false, false], outq := [], waiting := [] }
  let d2 := d1.mapStore fun x => { x with gathering := [] }
  (((d2.setPowerState .stopping).holdCause 0 true).holdCause 1 true).mapPower fun p => { p with failover := false, stopRecorded := true }

/-- CHAIN_UNHEALTHY: the feed, or an output of it, leaves its range (R662, R665, R666, R669). -/
def Device.chainUnhealthy (d : Device) (c : Nat) (feedOk : Bool) (mv : Nat) : Device :=
  if !d.running then d else
  let p := d.power
  let x := p.chain c
  let d1 := d.powerStep fun p => p.setChain c { x with feedOk := feedOk, outOk := false, selfTest := x.selfTest && feedOk, mv := mv }
  let d2 := if !feedOk && x.feedOk then (d1.fault c).holdCause c true else d1
  if p.active = c + 1 then
    if (p.chain p.standby).healthy then d2.mapPower fun p => { p with failover := true } else d2.powerStop
  else if p.failover then d2.powerStop else d2

def execChainUnhealthy (chain : Fin 2) (feedOk : Bool) (mv : Nat) (s : State) : Host.Outcome State Fault Refusal :=
  s.done (s.dev.chainUnhealthy chain feedOk mv)

/-- CHAIN_HEALTHY. -/
def Device.chainHealthy (d : Device) (c mv : Nat) : Device :=
  if !d.running then d else
  (d.powerStep fun p => p.setChain c { p.chain c with feedOk := true, outOk := true, mv := mv }).holdCause c false

def execChainHealthy (chain : Fin 2) (mv : Nat) (s : State) : Host.Outcome State Fault Refusal :=
  s.done (s.dev.chainHealthy chain mv)

/-- FAILOVER_END: the 2 µs point (R665, R666). -/
def Device.failoverEnd (d : Device) : Device :=
  let p := d.power
  if !p.failover then d
  else if !(p.chain p.standby).healthy then d.powerStop
  else
    let d1 := d.powerStep fun p => { p with active := p.standby + 1, failover := false }
    ((d1.addCnt (pwrAt Off.failoverCnt) 31 0 1 true).raiseInt .pwr 0 0).fault 2

def execFailoverEnd (s : State) : Host.Outcome State Fault Refusal := s.done s.dev.failoverEnd

/-- STANDBY_SELF_TEST (R667): a failed test holds the cause of source 3 or 4 until one passes. -/
def Device.selfTest (d : Device) (pass : Bool) : Device :=
  let c := d.power.standby
  let x := d.power.chain c
  if !d.running || !x.feedOk then d
  else
    let d1 := d.powerStep fun p => p.setChain c { x with selfTest := pass }
    if pass then d1.holdCause (3 + c) false else (d1.fault (3 + c)).holdCause (3 + c) true

def execStandbySelfTest (pass : Bool) (s : State) : Host.Outcome State Fault Refusal := s.done (s.dev.selfTest pass)

/-- PLANNED_SWITCH (R668): to the chain of the higher claim, healthy and with its self-test passed; a failover wins (R669). -/
def Device.plannedSwitch (d : Device) : Device :=
  let p := d.power
  let c := p.standby
  if d.running && !p.failover && d.bit (pwrAt Off.pwrCtrl) 8 && (p.chain c).healthy && (p.chain c).selfTest
      && decide (p.claim (1 - c) < p.claim c) then
    (d.powerStep fun p => { p with active := c + 1 }).fault 5
  else d

def execPlannedSwitch (s : State) : Host.Outcome State Fault Refusal := s.done s.dev.plannedSwitch

/-! ## Power states (R671 to R676) -/

/-- Every cluster and engine group gated. -/
def Device.gateAll (d : Device) : Device :=
  d.mapUnits fun u => { u with
    clusters := u.clusters.mapD Cluster.initial fun _ c => { c with clk := .gated, gateAt := none }
    groups := u.groups.mapD Cluster.initial fun _ c => { c with clk := .gated } }

/-- Clusters to the warm floor wake, and so does every cluster whose test wake waited: each wake ends with an outcome of its own
(03_host_queues.md R114; 05_cipher_lanes.md R211, R212, R214). -/
def Device.clockFloor (d : Device) : Device := d.warmWake.testWakes

/-- A write of STATE_REQ (R671, R689). -/
def Device.stateReq (d : Device) (v : Nat) : Device :=
  let a := pwrAt Off.pwrCtrl
  d.onWrite a fun d =>
    if v = 3 then d.writeLost a
    else
      let d1 := (d.setField a 1 0 v).mapPower fun p => { p with ebbWait := v == 1 }
      match d.power.st with
      | .slack => if v = 2 then (d1.setPowerState .flood).floodWake else d1
      | .flood => if v = 2 then d1 else d1.setPowerState .slack
      | .ebb => if v = 1 then d1 else d1.mapPower fun p => { p with st := .waking }
      | _ => d1

def execStateReqWrite (value : BitVec 2) (s : State) : Host.Outcome State Fault Refusal :=
  s.done (s.dev.stateReq value.toNat)

/-- The device is idle (R672). -/
def Device.idle (d : Device) : Bool :=
  d.sched.items.isEmpty && d.store.pending.isEmpty && d.units.load.isNone && d.units.curveLoad.isNone
    && d.power.burn.isNone && d.tamp.burning.isNone && d.pins.linkIdle

/-- Why an EBB request is refused: REFUSE_CAUSE (R673, 13_modes_custody.md R597). -/
def Device.ebbRefused (d : Device) : Option Nat :=
  if d.cust.mode == .manufacture then some 0 else if d.dom.view.role != 0 then some 1
  else if d.cust.ceremony.isSome then some 2 else if !d.power.ebbAllowed then some 3 else none

/-- EBB_ENTRY: a waiting request, once the device is idle. -/
def Device.ebbEntry (d : Device) : Device :=
  if d.power.st != .slack || !d.power.ebbWait || !d.idle then d
  else
    let d1 := d.mapPower fun p => { p with ebbWait := false }
    match d.ebbRefused with
    | some c => (((d1.setField (pwrAt Off.pwrStat) 10 9 c).hwSet (pwrAt Off.pwrStat) 0x100).raiseInt .pwr 0 4).fault 12
    | none => ((d1.gateAll.coresStop).mapPower fun p => { p with locked := 0 }).setPowerState .ebb

def execEbbEntry (s : State) : Host.Outcome State Fault Refusal := s.done s.dev.ebbEntry

/-- EBB_WAKE: a wake event (R674). -/
def execEbbWake (s : State) : Host.Outcome State Fault Refusal :=
  s.done (if s.dev.power.st == .ebb then s.dev.mapPower fun p => { p with st := .waking } else s.dev)

/-- EBB_WAKE_END (R675). A request for EBB that stands is met again once the device is idle, one for FLOOD at once. -/
def Device.wakeEnd (d : Device) : Device :=
  if d.power.st != .waking then d
  else
    let req := d.field (pwrAt Off.pwrCtrl) 1 0
    let d1 := (d.mapPower fun p => { p with locked := 0x1FF, ebbWait := req == 1 }).coresResume.clockFloor
    if req = 2 then (d1.setPowerState .flood).floodWake else d1.setPowerState .slack

def execEbbWakeEnd (s : State) : Host.Outcome State Fault Refusal := s.done s.dev.wakeEnd

/-- EBB_WAKE_LATE. -/
def execEbbWakeLate (s : State) : Host.Outcome State Fault Refusal :=
  s.done (if s.dev.power.st == .waking then s.dev.fault 11 else s.dev)

/-! ## Clocks (R677, R692) -/

/-- PLL_LOCK_LOSS: LOCK_LOST and source 18 + n. -/
def Device.lockLoss (d : Device) (n : Nat) : Device :=
  if !bitOf d.power.locked n then d
  else
    let d1 := (d.mapPower fun p => { p with locked := p.locked - 2 ^ n }).raiseInt .clk 0 0
    (if n = 5 then d1.coresStop else d1).fault (18 + n)

def execPllLockLoss (pll : Fin 9) (s : State) : Host.Outcome State Fault Refusal := s.done (s.dev.lockLoss pll)

/-- PLL_RELOCK. -/
def Device.relock (d : Device) (n : Nat) : Device :=
  if !d.running then d else
  let d1 := d.mapPower fun p => { p with locked := p.locked ||| 2 ^ n }
  if n = 5 && !bitOf d.power.locked 5 && d.awake then d1.coresResume else d1

def execPllRelock (pll : Fin 9) (s : State) : Host.Outcome State Fault Refusal :=
  s.done (s.dev.relock pll)

/-- A held cause follows a condition: an event when it arises, its end when it goes. -/
def Device.follow (d : Device) (src : Nat) (ok : Bool) : Device :=
  if ok then d.holdCause src false else (d.fault src).holdCause src true

def execRefclkChange (ok : Bool) (s : State) : Host.Outcome State Fault Refusal :=
  let d := s.dev
  s.done (if d.power.refclkOk == ok then d
    else ((d.mapPower fun p => { p with refclkOk := ok }).raiseInt .clk 0 1).follow 16 ok)

def execPackageOscillatorChange (ok : Bool) (s : State) : Host.Outcome State Fault Refusal :=
  let d := s.dev
  s.done (if d.power.oscOk == ok then d else (d.mapPower fun p => { p with oscOk := ok }).follow 17 ok)

/-! ## Settings burns (R680 to R694) -/

/-- A burn ends: CODE, DONE and BURN_ENDED. -/
def Device.burnDone (d : Device) (code : Nat) : Device :=
  ((d.setResult (otpAt Off.otpResult) code).commandEnd (otpAt Off.otpCmd) 0 1).raiseInt .otp 0 0

/-- The staged DATA. -/
def Device.stagedData (d : Device) : Bytes := (List.range 14).flatMap fun j => leBytes 4 (d.reg (otpAt Off.otpBurn + 4 * j))

/-- Why a burn is refused, in the order of R683. -/
def Device.burnRefused (d : Device) (g : Nat) : Option Nat :=
  let m := d.cust.mode
  if g = 0 ∧ m ≠ .manufacture then some 2
  else if 1 ≤ g ∧ g ≤ 3 ∧ m ≠ .manufacture ∧ m ≠ .custody ∧ m ≠ .maintenance then some 2
  else if 4 ≤ g then some 3
  else if 3 < d.power.nextSlot g then some 1
  else if g = 0 ∧ d.power.exited ∧ !bitOf ((d.stagedData.getD 0 0).toNat) 0 then some 5
  else none

/-- BURN. -/
def Device.burn (d : Device) : Device :=
  d.onIdle (otpAt Off.otpCmd) 0 0 fun d =>
    let g := d.field (otpAt Off.otpSel) 4 0
    let d1 := d.commandStart (otpAt Off.otpCmd) 0
    match d.burnRefused g with
    | some c => d1.burnDone c
    | none => d1.mapPower fun p => { p with burn := some (g, p.nextSlot g) }

def execBurn (s : State) : Host.Outcome State Fault Refusal := s.done s.dev.burn

/-- Source 9 counts every slot of a group that is neither blank nor valid, at a selection (R680). -/
def Device.countTorn (d : Device) (g : Nat) : Device :=
  (List.range (d.power.tornSlots g)).foldl (fun d _ => d.fault 9) d

/-- BURN_END (R683): the slot is sealed when its read-back agrees; R680 runs again. -/
def Device.burnEnd (d : Device) (ok : Bool) : Device :=
  match d.power.burn with
  | none => d
  | some (g, n) =>
    if d.power.st == .battery then d else
    let d1 := d.mapPower fun p => { p with
      burn := none, otp := p.otp.insert (4 * g + n) (otpSlot g n d.stagedData ok) }
    let d2 := d1.setField (otpAt Off.otpResult) 1 0 n
    ((if ok then d2 else d2.fault 10).burnDone (if ok then 0 else 4)).countTorn g

def execBurnEnd (readBackOk : Bool) (s : State) : Host.Outcome State Fault Refusal := s.done (s.dev.burnEnd readBackOk)

/-! ## The host's pins and link -/

/-- PERST_N is asserted, or treated so while VIO is out of range (R761). -/
def Pins.hostHeld (p : Pins) : Bool := p.perst || !p.vioOk

/-- The host side is reset (R773): VF Enable clears, configuration space and MSI-X tables return to their reset values. The
link goes down by a requested reset. -/
def Device.hostReset (d : Device) : Device :=
  let d1 := (d.vfEnableClear).mapFront fun f => { f with msix := [], numVfs := 0 }
  let d2 := d1.mapPins fun p => { p with link := 0, linkIdle := false }
  let d3 := if d.pins.link = 0 then d2 else d2.raiseInt .dev 0 1
  (d3.holdCause 222 false).holdCause 220 false

/-- A change of the pins that hold the host side in reset. -/
def Device.pinStep (d : Device) (f : Pins → Pins) : Device :=
  let held := (f d.pins).hostHeld
  if held && !d.pins.hostHeld then d.hostReset.mapPins f
  else if !held && d.pins.hostHeld then
    ((d.mapPins f).setField (Page.side.base 0 + Off.sideStat) 5 5 0).holdCause 221 false
  else d.mapPins f

def execPerstNAssert (s : State) : Host.Outcome State Fault Refusal := s.done (s.dev.pinStep fun p => { p with perst := true })

def execPerstNDeassert (s : State) : Host.Outcome State Fault Refusal :=
  s.done (s.dev.pinStep fun p => { p with perst := false })

/-- PERST_LONG (20_electrical_package.md R769, R771). -/
def Device.perstLong (d : Device) : Device :=
  let a := Page.side.base 0 + Off.sideStat
  if !d.pins.hostHeld || d.bit a 5 then d
  else (((d.setField a 5 5 1).raiseInt .side 0 2).alertCause.fault 221).holdCause 221 true

def execPerstLong (s : State) : Host.Outcome State Fault Refusal := s.done s.dev.perstLong

def execVioOutOfRange (s : State) : Host.Outcome State Fault Refusal :=
  s.done (if s.dev.pins.vioOk then (s.dev.pinStep fun p => { p with vioOk := false }).follow 7 false else s.dev)

def execVioInRange (s : State) : Host.Outcome State Fault Refusal :=
  s.done (if s.dev.pins.vioOk then s.dev else (s.dev.pinStep fun p => { p with vioOk := true }).follow 7 true)

/-- HOST_LINK_CHANGE (03_host_queues.md R122, R123; 15_faults.md R635 source 220): down, or trained at Gen4 to Gen6. -/
def Device.linkChange (d : Device) (gen : Nat) (requested idle : Bool) : Device :=
  let link := if gen = 0 || d.pins.hostHeld || !d.running then 0 else gen + 3
  let was := d.pins.link
  let d1 := d.mapPins fun p => { p with link := link, linkIdle := idle && link != 0 }
  let d2 := if link = was then d1 else d1.raiseInt .dev 0 1
  if link ≠ 0 then d2.holdCause 220 false
  else if was ≠ 0 ∧ !requested then (d2.fault 220).holdCause 220 true else d2

def execHostLinkChange (gen : Fin 4) (requested idle : Bool) (s : State) : Host.Outcome State Fault Refusal :=
  s.done (s.dev.linkChange gen requested idle)

def execIdeIntegrityFailure (s : State) : Host.Outcome State Fault Refusal := s.done (s.dev.fault 213)

end Sys2Proof.Machine
end

