-- ==== Sys2Proof/Machine/Rng.lean ====
section
/-! DEFINITION. The rows of the random number generator (17_random_numbers.md R695 to R710). -/

namespace Sys2Proof.Machine

def rngAt (o : Nat) : Nat := Page.rng.base 0 + o

/-- A host request ends (R709): with data where the mode gives it and it was served, and with zeros otherwise. Under the test
pattern the bytes follow from latch outputs that the spec does not list (Config.patternByte). -/
def Device.reqEnd (d : Device) (served : Bool) : Device :=
  let m := d.cust.mode
  let refused := m == .quarantine || m == .zeroized
  let code := if refused then 2 else if !served then 1
    else if m == .manufacture && d.bit (rngAt Off.rngCtrl) 0 then 3 else 0
  let gives := served && !refused
  let d0 := if gives then d.drawn else d
  let d1 := (d0.mapRng fun r => { r with queue := r.queue.filter fun q => q.cls != 4 }).mapCyc fun c => { c with
    rcOld := (List.range 8).foldl (fun t j => t.insert (rngAt Off.rngHostData + 4 * j) (d.reg (rngAt Off.rngHostData + 4 * j))) c.rcOld }
  let d2 := d1.storeWords (rngAt Off.rngHostData) 8 (if gives then d.random 32 else zeros 32)
  ((d2.setResult (rngAt Off.rngHostStat) code).commandEnd (rngAt Off.rngHostCmd) 0 1).raiseInt .rng 0 1

/-- REQ: served at once, but in a shortage, where it waits in class 4. -/
def Device.req (d : Device) : Device :=
  d.onIdle (rngAt Off.rngHostCmd) 0 0 fun d =>
    let d1 := d.commandStart (rngAt Off.rngHostCmd) 0
    let refused := d.cust.mode == .quarantine || d.cust.mode == .zeroized
    if !refused && d.rng.shortage then d1.queueRequest { cls := 4, item := 0 } else d1.reqEnd true

def execReq (s : State) : Host.Outcome State Fault Refusal := s.done s.dev.req

/-- A REQ that waits. -/
def Device.reqWaits (d : Device) : Bool := d.bit (rngAt Off.rngHostCmd) 0

def execReqTimeout (s : State) : Host.Outcome State Fault Refusal :=
  s.done (if s.dev.reqWaits then s.dev.reqEnd false else s.dev)

/-- One instance changed. -/
def Device.setDrbg (d : Device) (i : Nat) (x : Drbg) : Device := d.mapRng fun r => { r with insts := r.insts.set i x }

/-- DRBG_RESEED: the instance has served its 65,536 requests and serves none until it has reseeded. -/
def execDrbgReseed (drbg : Fin 8) (s : State) : Host.Outcome State Fault Refusal :=
  s.done (s.dev.setDrbg drbg { s.dev.rng.insts.getD drbg Drbg.initial with requests := 65536, reseeding := true })

/-- The request that is served next: the lowest class number first, and within a class the oldest (R704). -/
def Rng.nextReq (r : Rng) : Option RngReq :=
  [1, 2, 3, 4].findSome? fun c => r.queue.find? fun q => q.cls == c

/-- The requests that waited are served, as long as an instance serves. The first argument bounds how many. -/
def Device.serveQueue : Nat → Device → Device
  | 0, d => d
  | k + 1, d =>
    if d.rng.shortage then d
    else match d.rng.nextReq with
      | none => d
      | some q =>
        let d1 := d.mapRng fun r => { r with queue := r.queue.filter (· != q) }
        Device.serveQueue k (if q.cls = 4 then (if d1.reqWaits then d1.reqEnd true else d1) else d1.giveBlock q.item)

/-- DRBG_RESEED_END (R701): the instance is seeded afresh, and the end of a shortage serves the requests that wait. -/
def Device.reseedEnd (d : Device) (i : Nat) : Device :=
  match d.rng.insts[i]? with
  | some x =>
    if !x.reseeding then d
    else
      let d1 := d.mapRng fun r => { r with insts := r.insts.set i (x.seed d.patterned r.blocks), blocks := r.blocks + 2 }
      Device.serveQueue d1.rng.queue.length d1
  | none => d

def execDrbgReseedEnd (drbg : Fin 8) (s : State) : Host.Outcome State Fault Refusal := s.done (s.dev.reseedEnd drbg)

/-- A continuous test fails (R698): the latch's count, and one event of its kind in a tick. -/
def Device.healthFail (d : Device) (latch : Nat) (proportion : Bool) : Device :=
  let a := rngAt (if proportion then Off.rngAptFail else Off.rngRctFail) + 4 * latch
  let d1 := d.addCnt a 31 0 1 true
  if (if proportion then d.rng.aptTick else d.rng.rctTick) then d1
  else
    let d2 := d1.mapRng fun r => if proportion then { r with aptTick := true } else { r with rctTick := true }
    (d2.raiseInt .rng 0 0).fault (if proportion then 61 else 60)

def execRngHealthFail (latch : Fin 8) (proportion : Bool) (s : State) : Host.Outcome State Fault Refusal :=
  s.done (s.dev.healthFail latch proportion)

/-- BIAS_LOOP_LIMIT: one event of source 62 for each loop that reaches an end; the cause lasts (R710). -/
def execBiasLoopLimit (s : State) : Host.Outcome State Fault Refusal := s.done ((s.dev.fault 62).holdCause 62 true)

def execBiasLoopInRange (s : State) : Host.Outcome State Fault Refusal := s.done (s.dev.holdCause 62 false)

/-- TEST_PATTERN (R706): a write of 1 outside MANUFACTURE is lost. -/
def Device.testPattern (d : Device) (v : Bool) : Device :=
  d.onWrite (rngAt Off.rngCtrl) fun d =>
    if v && !(d.cust.selected && d.cust.mode == .manufacture) then d.writeLost (rngAt 0)
    else d.setField (rngAt Off.rngCtrl) 0 0 (boolNat v)

def execTestPatternWrite (value : Bool) (s : State) : Host.Outcome State Fault Refusal := s.done (s.dev.testPattern value)

end Sys2Proof.Machine
end

