-- ==== Sys2Proof/Machine/Sideband.lean ====
section
/-! DEFINITION. The sideband target, its alerts and the pins it recovers from (20_electrical_package.md R766 to R779). -/

namespace Sys2Proof.Machine

def sideAt (o : Nat) : Nat := Page.side.base 0 + o

/-! ## Alerts (R770) -/

/-- ALERT_PENDING. -/
def Device.alertPending (d : Device) : Bool :=
  d.bit (sideAt Off.sideCtrl) 0
    && (d.pins.pldmUnread != 0 || d.bit (sideAt Off.sideStat) 5
        || d.sources.any fun e => e.2.pending && decide (d.alertSev ≤ e.2.sev))

/-- ALERT_DRIVEN: the device drives ALERT_N low. While VIO is out of range the pin is high-impedance (R761). -/
def Device.alertDriven (d : Device) : Bool := d.alertPending && !d.pins.alertReleased && d.pins.vioOk

/-- An in-band interrupt stands over I3C. -/
def Device.inBand (d : Device) : Bool :=
  d.alertPending && d.bit (sideAt Off.sideCtrl) 1 && d.field (sideAt Off.sideStat) 7 6 == 1
    && d.field (sideAt Off.sideStat) 14 8 != 0

/-! ## Transactions (R766 to R769, R777) -/

/-- The sideband answers: enabled, not stuck off, its pins powered, the die on its rails, its page not being reset. -/
def Device.sideAnswers (d : Device) : Bool :=
  d.bit (sideAt 0x08) 0 && !d.bit (sideAt Off.sideStat) 4 && d.pins.vioOk && d.running && !d.pageResetting (sideAt 0)

/-- The bus the controller speaks, seen. -/
def Device.busSeen (d : Device) (smbus : Bool) : Device := d.setField (sideAt Off.sideStat) 7 6 (if smbus then 2 else 1)

/-- SIDEBAND_TRANSACTION: the protocol is seen, an I3C dynamic address is taken, and an Olihild message is given to the
quorum gate. -/
def Device.sideTransaction (d : Device) (smbus : Bool) (assign : Option (BitVec 7)) (data : Bytes) : Device :=
  if !d.sideAnswers then d
  else
    let d1 := d.busSeen smbus
    let d2 := match assign with
      | some a => if smbus then d1 else d1.setField (sideAt Off.sideStat) 14 8 a.toNat
      | none => d1
    if data = [] then d2 else (d2.coreItem 1).olihild 1 data

def execSidebandTransaction (smbus : Bool) (assign : Option (BitVec 7)) (data : Bytes) (s : State) :
    Host.Outcome State Fault Refusal :=
  s.done (s.dev.sideTransaction smbus assign data)

/-- SPDM_MESSAGE: over MCTP on the sideband, or over DOE while the host link is up. What the device does not support it
declines by the standard's own means (00_scope.md R14). -/
def Device.spdmMessage (d : Device) (sideband supported : Bool) (data : Bytes) : Device :=
  if !(if sideband then d.sideAnswers else d.running && d.pins.link != 0) then d
  else
    let reply := if supported then Config.spdmReply d.free data else Config.declineReply data
    (d.drawFree.coreItem 2).emit (if sideband then .sideband reply else .doe reply)

def execSpdmMessage (sideband supported : Bool) (data : Bytes) (s : State) : Host.Outcome State Fault Refusal :=
  s.done (s.dev.spdmMessage sideband supported data)

/-- PLDM_MESSAGE: platform monitoring and control is answered, the sensors of R769 in the answer; a message that reads an
event leaves one less to read. Every other type is declined. -/
def Device.pldmMessage (d : Device) (monitoring readsEvent : Bool) (data : Bytes) : Device :=
  if !d.sideAnswers then d
  else if !monitoring then (d.coreItem 3).emit (.sideband (Config.declineReply data))
  else
    let reply := Config.pldmReply d.free data d.tamp.tj d.power.chainA.mv d.power.chainB.mv
    ((d.drawFree.coreItem 3).mapPins fun p => { p with
      pldmUnread := if readsEvent then p.pldmUnread - 1 else p.pldmUnread }).emit (.sideband reply)

def execPldmMessage (monitoring readsEvent : Bool) (data : Bytes) (s : State) : Host.Outcome State Fault Refusal :=
  s.done (s.dev.pldmMessage monitoring readsEvent data)

/-- ALERT_RESPONSE_ADDRESS_READ: the device answers with its SMBus address while it drives ALERT_N; where it wins, the line is
let go until a further cause arises, and ALERT_PENDING stays. -/
def Device.araRead (d : Device) (won : Bool) : Device :=
  if !d.sideAnswers then d
  else
    let d1 := d.busSeen true
    if !(won && d1.alertDriven) then d1
    else (d1.mapPins fun p => { p with alertReleased := true }).emit
      (.sideband [BitVec.ofNat 8 (2 * ((d1.power.settings 3).getD 1 0).toNat)])

def execAlertResponseAddressRead (won : Bool) (s : State) : Host.Outcome State Fault Refusal := s.done (s.dev.araRead won)

/-! ## Pins held stuck (R771, R772) -/

/-- SDA_STUCK_35MS: the target interface is reset and SDA released. -/
def execSdaStuck35ms (s : State) : Host.Outcome State Fault Refusal :=
  s.done (if s.dev.sideAnswers && s.dev.pins.sdaLow == 0 then s.dev.mapPins fun p => { p with sdaLow := 1 } else s.dev)

/-- SDA_STUCK_70MS: the sideband is disabled, STUCK_OFF. -/
def Device.sdaStuck (d : Device) : Device :=
  if d.pins.sdaLow = 1 ∧ d.bit (sideAt Off.sideStat) 4 = false then
    ((d.mapPins fun p => { p with sdaLow := 2 }).setField (sideAt Off.sideStat) 4 4 1).raiseInt .side 0 1
  else d

def execSdaStuck70ms (s : State) : Host.Outcome State Fault Refusal := s.done s.dev.sdaStuck

/-- I3C_SDA_RISE: recovery ends and the target waits for the next START; a disabled sideband stays disabled. -/
def execI3cSdaRise (s : State) : Host.Outcome State Fault Refusal :=
  s.done (s.dev.mapPins fun p => { p with sdaLow := 0 })

/-- SCL_STUCK: the target interface is reset and SDA released; the target stays enabled and answers the next START. No
register or line that the spec gives shows it. -/
def execSclStuck (s : State) : Host.Outcome State Fault Refusal := s.done s.dev

/-- ALERT_BLOCKED: others have held ALERT_N low for 100 ms while the device did not drive it. -/
def execAlertBlocked (s : State) : Host.Outcome State Fault Refusal :=
  s.done (if s.dev.alertDriven || !s.dev.running then s.dev
    else (s.dev.hwSet (sideAt Off.sideStat) 4).raiseInt .side 0 0)

/-- ALERT_HIGH: ALERT_N has been high for 1 ms while the device drives it low. -/
def execAlertHigh (s : State) : Host.Outcome State Fault Refusal :=
  s.done (if s.dev.alertDriven && s.dev.running then s.dev.hwSet (sideAt Off.sideStat) 8 else s.dev)

/-- What a soft reset of the SIDE page does (R777, R779): a stuck-off sideband is enabled again, DYN_ADDR and BUS clear, and R772
runs afresh if SDA is still low. -/
def Device.sideReset (d : Device) : Device :=
  ((d.setField (sideAt Off.sideStat) 14 6 0).setField (sideAt Off.sideStat) 4 4 0).mapPins fun p => { p with sdaLow := 0 }

/-- SIDE_SOFT_RESET. -/
def execSideSoftReset (s : State) : Host.Outcome State Fault Refusal :=
  s.done (s.dev.softStart (sideAt 0) fun d => d.sideReset)

end Sys2Proof.Machine
end

