-- ==== Sys2Proof/Machine/Reads.lean ====
section
/-! DEFINITION. What a register read returns: the RO fields that hardware drives from the state of the blocks, LOCAL_STATE of
every page, the captures of _HI registers and SNAP (02_register_convention.md R31 to R64 and the register tables of the chapters). -/

namespace Sys2Proof.Machine

/-- A number whose bit i says whether f holds of i, for i below n. -/
def maskOf (n : Nat) (f : Nat → Bool) : Nat := (List.range n).foldl (fun w i => if f i then w + 2 ^ i else w) 0

/-! ## The header (R42 to R44, R59) -/

/-- A source is uncleared. -/
def Device.pendingSource (d : Device) (s : Nat) : Bool := (d.source s).pending

/-- LOCAL_STATE of a page (R123, R219, R328, R409, R461, R521, R560, R563, R564, R567, R601, R631, R657, R689, R691, R693, R707,
R714, R718, R733, R747, R777). -/
def Device.localState (d : Device) (p : Page) (n : Nat) : Nat :=
  match p with
  | .dev => d.pins.link
  | .pwr =>
    match d.power.st with
    | .slack => 1 | .flood => 2 | .ebb | .waking => 3 | .battery | .starting => 4 | .stopping => 5
  | .clk => if d.power.st == .ebb || d.power.st == .waking then 2 else 1
  | .otp => boolNat d.power.burn.isSome
  | .flt =>
    if n ≠ 0 then 0 else if d.safeHold then 2 else if d.sources.any fun e => e.2.pending then 1 else 0
  | .tamp => if !d.tamp.cond.isEmpty then 2 else if !d.tamp.sticky.isEmpty then 1 else 0
  | .rng => if !d.rng.started then 0 else if d.bit (rngAt Off.rngCtrl) 0 then 2 else 1
  | .key => d.keys.cls
  | .jnl => d.storeState
  | .dom => d.domState
  | .sched => if d.sched.rebuilding.isEmpty then 1 else 2
  | .rpl => boolNat d.exporting.isSome
  | .cust => match d.cust.ceremony with | none => 0 | some c => if c.executing then 2 else 1
  | .side =>
    if d.bit (sideAt Off.sideStat) 4 then 4 else if !d.bit (sideAt 8) 0 then 0
    else if d.field (sideAt Off.sideStat) 7 6 = 1 then 2 else if d.field (sideAt Off.sideStat) 7 6 = 2 then 3 else 1
  | .lc => if (d.cluster n).quarantined then 4 else if !d.bit (lcAt n 8) 0 then 3 else 2
  | .bn =>
    if (d.engine n).quarantined then 4 else if !d.bit (bnAt n 8) 0 then 3 else if !d.pairServes (n / 2) false then 5 else 2
  | .vfm | .vf => (d.vf n).st.code
  | .acc | .cnt | .mbx | .mb | .vcnt => 0

/-- PROG_PCT: VALID and BASIS_POINTS while a total is known (R59). -/
def progPct (pos total : Nat) : Nat := if total = 0 then 0 else 2 ^ 31 + min 10000 (pos * 10000 / total)

/-- POS and TOTAL of a page. -/
def Device.progAt (d : Device) (base lo : Nat) : Nat := d.reg (base + lo) + 2 ^ 32 * d.reg (base + lo + 4)

/-- The live fields of a page header. -/
def Device.liveHeader (d : Device) (p : Page) (n off : Nat) : Nat :=
  let b := p.base n
  if off = Off.pageId then p.typeCode * 2 ^ 16 + n
  else if off = Off.pageStat then
    d.localState p n * 2 ^ 24
      + 2 * boolNat ((List.range (p.faults n).2).any fun i => d.pendingSource ((p.faults n).1 + i))
      + boolNat (d.pageResetting b || d.progRunning b)
  else if off = Off.intStat then d.intStat b
  else if off = Off.faultBase then (p.faults n).2 * 256 + (p.faults n).1
  else if off = Off.progPct then progPct (d.progAt b Off.progPosLo) (d.progAt b Off.progTotalLo)
  else 0

/-! ## System pages -/

def Device.liveDev (d : Device) (off : Nat) : Nat :=
  if off = Off.devMode then d.cust.mode.code else if off = Off.famParam3 then boolNat d.tamp.gradeE else 0

/-- A feed voltage as it reads: 0 below 0.5 V (16_power_clocks_startup.md R689). -/
def feedMv (mv : Nat) : Nat := if mv < 500 then 0 else mv % 2 ^ 16

def Device.livePwr (d : Device) (off : Nat) : Nat :=
  let p := d.power
  if off = Off.pwrStat then p.claimB * 2 ^ 28 + p.claimA * 2 ^ 24 + p.active * 2 ^ 16
  else if off = Off.feedHealth then p.health 1 * 256 + p.health 0
  else if off = Off.feedMv then feedMv p.chainB.mv * 2 ^ 16 + feedMv p.chainA.mv
  else 0

def Device.liveClk (d : Device) (off : Nat) : Nat :=
  if off = Off.clkPll then d.power.locked
  else if off = Off.clkRef then 2 * boolNat d.power.oscOk + boolNat d.power.refclkOk else 0

/-- The settings group that OTP_SEL shows (R693). -/
def Device.liveOtp (d : Device) (off : Nat) : Nat :=
  let g := d.field (otpAt Off.otpSel) 4 0
  let p := d.power
  if 30 ≤ g then 0
  else if off = Off.otpGstat then
    maskOf 4 (fun n => slotValid g n (p.slotBytes g n)) * 2 ^ 8 + maskOf 4 (fun n => !p.blank g n) * 2 ^ 4
      + 8 * boolNat (decide (3 < p.nextSlot g)) + (match p.active? g with | some n => n | none => 7)
  else if Off.otpData ≤ off ∧ off < Off.otpData + 56 then leNat (slice (p.settings g) (off - Off.otpData) 4)
  else 0

/-- FLT_STAT of a source (15_faults.md R660). -/
def Device.fltStat (d : Device) (s : Nat) : Nat :=
  let x := d.source s
  boolNat x.pending * 2 ^ 31 + boolNat (d.cause s) * 2 ^ 30 + boolNat x.severe * 2 ^ 29 + boolNat x.escalated * 2 ^ 28
    + boolNat x.ack * 2 ^ 27 + x.sev * 2 ^ 24 + (if x.winOpen then min x.winCount 255 else 0)

def Device.liveFlt (d : Device) (n off : Nat) : Nat :=
  if n = 0 then
    (if off = Off.fltSummary then
      let ps := d.sources.filter fun e => e.2.pending
      ps.length * 2 ^ 16 + (ps.map fun e => e.2.sev).foldl max 0 * 2 ^ 8
        + boolNat (d.cust.mode == .quarantine && ps.any fun e => e.2.sev == 3)
    else if Off.fltPend ≤ off ∧ off < Off.fltPend + 32 then maskOf 32 fun i => d.pendingSource (8 * (off - Off.fltPend) + i)
    else 0)
  else if n = 2 ∧ Off.fltStat ≤ off then d.fltStat ((off - Off.fltStat) / 4) else 0

/-- The 32 bytes of a log row (R624). -/
def TampRec.row (r : TampRec) : Bytes :=
  let front := leBytes 1 r.kind ++ leBytes 1 r.source ++ leBytes 1 r.flags ++ leBytes 1 r.mode ++ leBytes 6 r.first
    ++ leBytes 6 r.last ++ leBytes 4 r.count ++ leBytes 2 r.detail ++ zeros 6
  front ++ leBytes 4 (crc32c front)

/-- A row as the array reads: a torn row holds bytes the spec leaves open. -/
def Device.logRow (d : Device) (n : Nat) : Bytes :=
  match d.tamp.rows.find? n with
  | none => zeros 32
  | some (.burnt r) => r.row
  | some .torn => Config.tornRow n

def Device.liveTamp (d : Device) (off : Nat) : Nat :=
  let t := d.tamp
  let sel := d.field (Page.tamp.base 0 + Off.tampPendSel) 4 0
  let e := if sel < 28 then t.pend.get TampRec.none (32 + sel) else TampRec.none
  if off = Off.tampCond then maskOf 28 t.cond.mem
  else if off = Off.tampSticky then maskOf 28 t.sticky.mem
  else if off = Off.tampZcause then t.zSeq * 2 ^ 24 + boolNat t.zInterrupted * 2 ^ 16 + t.zCause * 2 ^ 8 + t.zSource
  else if off = Off.tampLog then
    boolNat t.full * 2 ^ 31 + boolNat t.burning.isSome * 2 ^ 30 + t.pend.length * 2 ^ 24 + t.fifo.length * 2 ^ 16 + t.nextRow
  else if off = Off.tampTickLo then d.tampTick % 2 ^ 32
  else if off = Off.tampTickHi then d.tampTick / 2 ^ 32
  else if off = Off.tampTemp then (if t.gradeE then 0x7DD80000 else 0x73E70000) + t.tj % 2 ^ 16
  else if off = Off.tampPendCnt then e.count
  else if off = Off.tampPendFirstLo then e.first % 2 ^ 32
  else if off = Off.tampPendFirstHi then e.first / 2 ^ 32 % 2 ^ 16
  else if off = Off.tampPendLastLo then e.last % 2 ^ 32
  else if off = Off.tampPendLastHi then e.last / 2 ^ 32 % 2 ^ 16
  else if Off.tampRow ≤ off ∧ off < Off.tampRow + 32 then
    leNat (slice (d.logRow (d.field (Page.tamp.base 0 + Off.tampRowSel) 10 0)) (off - Off.tampRow) 4)
  else 0

def Device.liveKey (d : Device) (off : Nat) : Nat :=
  if off = Off.keyRootEpoch then (if d.rooted then d.keys.bank.rootEpoch else 0)
  else if off = Off.keySlotStat then d.keys.retired.length else 0

/-- Live records of the store (10_record_store.md R463). -/
def Device.liveRecords (d : Device) : Nat :=
  let rs := d.records
  (rs.filter fun r => !deadRec d.held rs r).length

def Device.liveJnl (d : Device) (off : Nat) : Nat :=
  if off = Off.jnlPortStat then (d.store.ports.zipIdx.map fun e => e.1.code * 2 ^ (8 * e.2)).sum
  else if off = Off.jnlSegTotal then d.store.total
  else if off = Off.jnlSegFree then d.store.freeTotal
  else if off = Off.jnlLiveLo then d.liveRecords % 2 ^ 32
  else if off = Off.jnlLiveHi then d.liveRecords / 2 ^ 32
  else if off = Off.jnlTreeVerLo then d.keys.bank.treeVer % 2 ^ 32
  else if off = Off.jnlTreeVerHi then d.keys.bank.treeVer / 2 ^ 32
  else 0

/-- A fabric port as DOM_PORT shows it (11_jochevy_domain.md R522). -/
def Device.portCode (d : Device) (p : Nat) : Nat :=
  if !d.dom.portUp.getD p false then 0 else if d.dom.portSecured.getD p false then 2 else 1

def Device.liveDom (d : Device) (off : Nat) : Nat :=
  let w := d.dom.view
  if off = Off.domStat then (if w.role = 0 then 0 else w.moduleId * 2 ^ 16) + w.k * 2 ^ 8 + w.role
  else if off = Off.domEpoch then w.epoch
  else if off = Off.domPend then (match w.prepared with | some p => p.epoch | none => 0)
  else if off = Off.domView then w.members.length
  else if off = Off.domUnreach then d.dom.unreach.length
  else if off = Off.domPort then d.portCode 1 * 256 + d.portCode 0
  else if off = Off.domBlobMap then maskOf 16 d.dom.blobs.has
  else if off = Off.domStubs then d.dom.stubs.length
  else 0

def Device.liveRpl (d : Device) (off : Nat) : Nat :=
  let r := d.ring d.rplVf
  if off = Off.rplCfg then boolNat r.capture * 2 ^ 31 + boolNat r.inputs * 2 ^ 30 + r.sizeLog2
  else if off = Off.rplFirst then (match r.units with | u :: _ => u.seq | [] => r.next)
  else if off = Off.rplNext then r.next
  else if off = Off.rplLost then r.lost
  else if off = Off.rplUsed then (d.ringBytes + 2 ^ 20 - 1) / 2 ^ 20
  else 0

/-- Minutes and seconds left, rounded up (13_modes_custody.md R602). -/
def Device.custTime (d : Device) : Nat :=
  let left := match d.cust.maintEnd with
    | some e => if d.cust.mode = .maintenance then (e - d.cycle + msCycles 60000 - 1) / msCycles 60000 else 0
    | none => 0
  let window := match d.cust.ceremony with
    | some c => (c.opened + msCycles (60000 * c.windowMin) - d.cycle + msCycles 1000 - 1) / msCycles 1000
    | none => 0
  left % 2 ^ 16 * 2 ^ 16 + window % 2 ^ 16

def Device.liveCust (d : Device) (off : Nat) : Nat :=
  if off = Off.custStat then d.cust.stat
  else if off = Off.custTally then d.cust.tally
  else if off = Off.custId then (match d.cust.ceremony with | some c => c.id | none => d.cust.lastId)
  else if off = Off.custTime then d.custTime
  else if Off.custCset ≤ off ∧ off < Off.custCset + 32 then leNat (slice d.cust.digest (off - Off.custCset) 4)
  else 0

def Device.liveSide (d : Device) (off : Nat) : Nat :=
  if off = Off.sideStat then 2 * boolNat d.alertPending + boolNat d.alertDriven else 0

/-! ## Pages of clusters, engines and VFs -/

def Device.liveVfm (d : Device) (v off : Nat) : Nat :=
  let x := d.vf v
  if off = Off.vfmUseSlots then (if x.st = .absent then 0 else d.slotUse x.tenant)
  else if off = Off.vfmUseStoreLo then x.storeUse % 2 ^ 32
  else if off = Off.vfmUseStoreHi then x.storeUse / 2 ^ 32
  else if off = Off.vfmStat then
    x.pgen * 2 ^ 16 + ((List.range 64).filter fun q => (d.qp v q).enabled).length * 2 ^ 8 + x.quotaOver
  else 0

def Device.liveVf (d : Device) (v off : Nat) : Nat :=
  let x := d.vf v
  if off = Off.vfInfo then x.pgen * 2 ^ 16 + x.qpQuota
  else if off = Off.vfTenant then (if x.st = .absent then 0 else x.tenant)
  else if 0x800 ≤ off ∧ (off - 0x800) % 0x20 = 0x14 then
    let q := d.qp v ((off - 0x800) / 0x20)
    q.sqHead * 2 ^ 16 + 2 * boolNat q.draining + boolNat q.enabled
  else 0

def Device.liveMb (d : Device) (v off : Nat) : Nat :=
  let x := d.vf v
  if off = Off.mbStat then d.cust.mode.code * 2 ^ 8 + 16 * boolNat x.reclaiming + x.quotaOver else 0

/-- The fields that hardware drives from the state. -/
def Device.live (d : Device) (p : Page) (n off : Nat) : Nat :=
  if off < 0x40 then d.liveHeader p n off
  else match p with
  | .dev => d.liveDev off | .pwr => d.livePwr off | .clk => d.liveClk off | .otp => d.liveOtp off
  | .flt => d.liveFlt n off | .tamp => d.liveTamp off | .key => d.liveKey off | .jnl => d.liveJnl off
  | .dom => d.liveDom off | .rpl => d.liveRpl off | .cust => d.liveCust off | .side => d.liveSide off
  | .bn => if off = Off.bnStat then (if n % 2 = 0 then n + 1 else n - 1) else 0
  | .vfm => d.liveVfm n off | .vf => d.liveVf n off | .mb => d.liveMb n off
  | .vcnt => if off = Off.vcntGrant then d.field (Page.vfm.base n + Off.vfmCntGrant) 7 0 else 0
  | .rng | .sched | .acc | .cnt | .mbx | .lc => 0

/-- The value of a register, without captures: an unused offset reads zero, and so does every register after the header of a
page whose soft reset runs (R35, R47). -/
def Device.shown (d : Device) (a : Nat) : Nat :=
  match pageAt a with
  | none => 0
  | some (p, n) =>
    if 0x40 ≤ a % 0x1000 ∧ d.pageResetting a then 0 else d.reg a ||| d.live p n (a % 0x1000)

/-! ## Captures (R54 to R58) -/

/-- Page offsets of the registers named _LO, each with its _HI partner four bytes above. -/
def Page.loAt (p : Page) (n off : Nat) : Bool :=
  off == Off.progPosLo || off == Off.progTotalLo ||
  match p with
  | .flt => n == 0 && off == Off.fltHwmTimeLo
  | .tamp => off == Off.tampTickLo || off == Off.tampPendFirstLo || off == Off.tampPendLastLo
  | .jnl => off == Off.jnlLiveLo || off == Off.jnlTreeVerLo
  | .dom => off == Off.domPrefixLo
  | .acc => n == 0 && off == Off.accViolAddrLo
  | .cnt => off == Off.cntOvfLo
  | .rpl => off == Off.rplAddrLo
  | .bn => n == 0 && off == Off.curveMapLo
  | .vfm => off == Off.vfmUseStoreLo
  | .vf => decide (0x800 ≤ off) && ((off - 0x800) % 0x20 == 0 || (off - 0x800) % 0x20 == 8)
  | _ => false

/-- Where the captures of an initiator class are kept. -/
def classKey (cls a : Nat) : Nat := cls * 2 ^ 32 + a

/-- SNAP of a page for a class. -/
def Device.snap (d : Device) (cls base : Nat) : Snap := d.pages.snaps.get Snap.initial (classKey cls base)

/-- A register of the held progress set. -/
def Snap.at (s : Snap) (off : Nat) : Nat :=
  if off = Off.progPosLo then s.posLo else if off = Off.progPosHi then s.posHi else if off = Off.progTotalLo then s.totalLo
  else if off = Off.progTotalHi then s.totalHi else if off = Off.progPct then s.pct else s.op

/-- What a read returns to an initiator class. -/
def Device.readValue (d : Device) (cls a : Nat) : Nat :=
  match pageAt a with
  | none => 0
  | some (p, n) =>
    let off := a % 0x1000
    let s := d.snap cls (pageBase a)
    if off = Off.snap then boolNat s.hold
    else if 0x20 ≤ off ∧ off < 0x38 ∧ s.hold then s.at off
    else if 4 ≤ off ∧ p.loAt n (off - 4) then
      (if 0x40 ≤ off ∧ d.pageResetting a then 0 else (d.pages.hiCap.get 0 (classKey cls a)).toNat)
    else d.shown a

end Sys2Proof.Machine
end

