-- ==== Sys2Proof/Machine/Registers.lean ====
section
/-! DEFINITION. Register accesses: reads with their captures, writes by access type and through the commands of the pages, soft
resets, interrupt registers, MSI-X tables and reserved offsets (01_architecture.md R27 to R29; 02_register_convention.md R31 to R58). -/

namespace Sys2Proof.Machine

/-! ## Addresses -/

/-- A window that carries no page: MSI-X tables and pending arrays, doorbells, descriptor windows, the staging window (R27, R29). -/
def windowAt (a : Nat) : Bool :=
  if a < 0x2000000 then decide ((0x17000 ≤ a ∧ a < 0x17200) ∨ (0x17800 ≤ a ∧ a < 0x17808))
  else if a < 0x4000000 then true
  else
    let o := (a - 0x4000000) % 0x10000
    decide ((0x1000 ≤ o ∧ o < 0x1200) ∨ (0x4000 ≤ o ∧ o < 0x4410) ∨ (0x4800 ≤ o ∧ o < 0x4810) ∨ 0x8000 ≤ o)

/-- The VF whose BAR0 holds an address. -/
def vfAt (a : Nat) : Option Nat :=
  if 0x4000000 ≤ a ∧ a < 0x14000000 then some ((a - 0x4000000) / 0x10000) else none

/-- A reserved offset of a BAR, or an unused offset of a page (R28, R35). -/
def reservedAt (a : Nat) : Bool :=
  decide (a < 0x14000000) && !windowAt a && (fieldsAt (a / 4 * 4)).isEmpty

/-- A doorbell or window slot of a queue pair that the VF does not have: a reserved offset (R30). -/
def Device.absentWindow (d : Device) (a : Nat) : Bool :=
  match vfAt a with
  | none => false
  | some v =>
    let o := (a - 0x4000000) % 0x10000
    if 0x1000 ≤ o ∧ o < 0x1200 then decide ((d.vf v).qpQuota ≤ (o - 0x1000) / 8)
    else decide (0x8000 ≤ o ∧ (d.vf v).qpQuota ≤ (o - 0x8000) / 0x200)

/-- An address inside a reserved offset as the device stands. -/
def Device.reserved (d : Device) (a : Nat) : Bool := reservedAt (a / 4 * 4) || d.absentWindow (a / 4 * 4)

/-- UNMAPPED_MMIO_ACCESS: reads zero, or is ignored, and counts on source 210, inside a VF BAR0 against that VF too (R35). The
BAR0 of a VF that is not exposed answers nothing. -/
def Device.unmapped (d : Device) (a : Nat) (write : Bool) : Device :=
  let here := match vfAt a with | some v => d.exposed v | none => true
  if !(d.reserved a && here) then d
  else
    let d1 := match vfAt a with | some v => d.dropAccess v 210 | none => d.fault 210
    if write then d1 else d1.emit (.value (if (vfAt a).isSome then 1 else 0) a 0)

def execUnmappedMmioAccess (addr : Nat) (write : Bool) (s : State) : Host.Outcome State Fault Refusal :=
  s.done (s.dev.unmapped addr write)

/-! ## Who may access a page -/

/-- The access of a class to a page: performed, refused by the access table, or none (the page does not exist for the class). -/
inductive Reach where
  | performed | refused | nowhere
deriving DecidableEq, Repr

/-- A VF BAR0 is reached by its VF alone, while it is exposed, and PF BAR0 ends at 64 MiB. Every other access is one to the
internal map, and goes through the access table (R26, R736, R743). -/
def Device.reach (d : Device) (cls kind a : Nat) : Reach :=
  if cls = 1 then (match vfAt a with | some v => if d.exposed v then .performed else .nowhere | none => .nowhere)
  else if !checkedClass cls || (cls == 0 && decide (0x4000000 ≤ a)) then .nowhere
  else if d.accessGranted cls kind a then .performed else .refused

/-! ## Reads (R36, R37, R47, R54 to R58) -/

/-- The register has RC fields. -/
def rcAt (a : Nat) : Bool := (fieldsAt a).any fun f => f.acc == .rc

/-- A read of a _LO register captures its _HI partner for the class. Of a register past the header that reads zero because the
page's soft reset runs (R47), nothing is captured, and an earlier capture stays (DESIGN CHOICE, log entry 153). -/
def Device.capture (d : Device) (cls a : Nat) : Device :=
  match pageAt a with
  | none => d
  | some (p, n) =>
    let off := a % 0x1000
    let s := d.snap cls (pageBase a)
    if !p.loAt n off || (0x40 ≤ off && d.pageResetting a) then d
    else
      let hi := if off < 0x40 && s.hold then s.at (off + 4) else d.shown (a + 4)
      d.mapPages fun x => { x with hiCap := x.hiCap.put 0 (classKey cls (a + 4)) (BitVec.ofNat 32 hi) }

/-- A read of an RC register clears it; what hardware set in the same cycle stays for the next read. -/
def Device.readClear (d : Device) (a : Nat) : Device :=
  if !rcAt a || d.pageResetting a || d.pages.cyc.rcOld.has a then d else d.setReg a 0

/-- The value a read returns, an RC register's as it was before this cycle's updates. -/
def Device.readResult (d : Device) (cls a : Nat) : Nat :=
  match (if rcAt a && !d.pageResetting a then d.pages.cyc.rcOld.find? a else none) with
  | some v => v
  | none => d.readValue cls a

/-- A word of a vector's table entry: address low and high, data, vector control. -/
def Msix.word (e : Msix) (word : Nat) : Nat :=
  if word = 0 then e.addr % 2 ^ 32 else if word = 1 then e.addr / 2 ^ 32 else if word = 2 then e.data else boolNat e.masked

/-- A word of a function's table, and 32 of its pending bits. -/
def Device.vectorWord (d : Device) (fn i : Nat) : Nat := (d.front.msix.get Msix.initial (msixKey fn (i / 4))).word (i % 4)
def Device.pendingBits (d : Device) (fn first vectors : Nat) : Nat :=
  maskOf 32 fun i => decide (first + i < vectors) && (d.front.msix.get Msix.initial (msixKey fn (first + i))).pending

/-- What a read of a window returns: the MSI-X tables and pending bits of the function, and staged bytes to an internal class;
a host read of the staging window, the doorbells and the descriptor windows read zero (R27, R29, R146). -/
def Device.windowValue (d : Device) (cls a : Nat) : Nat :=
  if a < 0x2000000 then
    (if a < 0x17200 then d.vectorWord 0 ((a - 0x17000) / 4) else d.pendingBits 0 (8 * (a - 0x17800)) 32)
  else if a < 0x4000000 then (if cls = 0 then 0 else leNat (d.staged (a - 0x2000000) 4))
  else
    let fn := (a - 0x4000000) / 0x10000 + 1
    let o := (a - 0x4000000) % 0x10000
    if 0x4000 ≤ o ∧ o < 0x4410 then d.vectorWord fn ((o - 0x4000) / 4)
    else if 0x4800 ≤ o ∧ o < 0x4810 then d.pendingBits fn (8 * (o - 0x4800)) 65 else 0

/-- Memory of the internal map behind the pages and the staging window, for every class but HOST_VF. -/
def behindPages (cls a : Nat) : Bool := cls != 1 && decide (0x4000000 ≤ a)

/-- The bytes that a read narrower than the register returns: those from its offset on (R34). -/
def narrow (a v : Nat) : Nat := v / 256 ^ (a % 4)

/-- A read of a register or window by an initiator class. A read at an offset inside a register is a narrow one. Nothing of
the boot ROM, the SRAM, the table store or HBM is read as a register (log entry 154). -/
def Device.readReg (d : Device) (cls a : Nat) : Device :=
  let r := a / 4 * 4
  match d.reach cls 0 a with
  | .nowhere => d
  | .refused => d.violation cls 0 a
  | .performed =>
    if behindPages cls r then d
    else if d.reserved r then d.unmapped a false
    else if windowAt r then d.emit (.value cls a (narrow a (d.windowValue cls r)))
    else ((d.capture cls r).readClear r).emit (.value cls a (narrow a (d.readResult cls r)))

/-- LO_REGISTER_READ; a register that is no _LO register is read all the same. -/
def execLoRegisterRead (cls : Fin 16) (addr : Nat) (s : State) : Host.Outcome State Fault Refusal :=
  s.done (s.dev.readReg cls addr)

/-- READ_CLEAR. -/
def execReadClear (cls : Fin 16) (addr : Nat) (s : State) : Host.Outcome State Fault Refusal :=
  s.done (s.dev.readReg cls addr)

/-! ## SNAP (R57) -/

/-- The progress set as it stands. -/
def Device.progSet (d : Device) (b : Nat) : Snap :=
  { hold := true, posLo := d.shown (b + Off.progPosLo), posHi := d.shown (b + Off.progPosHi)
    totalLo := d.shown (b + Off.progTotalLo), totalHi := d.shown (b + Off.progTotalHi)
    pct := d.shown (b + Off.progPct), op := d.shown (b + Off.progOp) }

/-- SNAP.HOLD written by a class. -/
def Device.snapWrite (d : Device) (cls b : Nat) (hold : Bool) : Device :=
  d.onWrite b fun d => d.mapPages fun x => { x with
    snaps := x.snaps.put Snap.initial (classKey cls b) (if hold then d.progSet b else Snap.initial) }

/-- SNAP_HOLD_WRITE: `page` is the address of the page. -/
def Device.snapHold (d : Device) (cls b : Nat) (hold : Bool) : Device :=
  if (pageAt b).isNone || b % 0x1000 ≠ 0 then d
  else match d.reach cls 1 b with
    | .nowhere => d
    | .refused => d.violation cls 1 (b + Off.snap)
    | .performed => d.snapWrite cls b hold

def execSnapHoldWrite (cls : Fin 16) (page : Nat) (hold : Bool) (s : State) : Host.Outcome State Fault Refusal :=
  s.done (s.dev.snapHold cls page hold)

/-! ## Interrupt registers (R44) -/

/-- The message goes out again after a write that leaves INT_STAT nonzero. -/
def Device.signalAgain (d : Device) (b : Nat) : Device := if d.intStat b = 0 then d else d.signalPage b

/-- A write of INT_EN, or of 1s to INT_RAW. -/
def Device.interruptWrite (d : Device) (b : Nat) (enable : Bool) (v : Nat) : Device :=
  if enable then d.onWrite b fun d => ((d.noteWrite (b + Off.intEn)).setReg (b + Off.intEn) v).signalAgain b
  else d.onCommand b fun d => (d.w1c (b + Off.intRaw) v).signalAgain b

/-- A page at this address that is there to be written. -/
def Device.pageHere (d : Device) (b : Nat) : Bool :=
  (pageAt b).isSome && b % 0x1000 == 0 && (match vfAt b with | some v => d.exposed v | none => true)

def execInterruptRegisterWrite (page : Nat) (enable : Bool) (value : Word) (s : State) : Host.Outcome State Fault Refusal :=
  s.done (if s.dev.pageHere page then s.dev.interruptWrite page enable value.toNat else s.dev)

/-! ## Soft resets (R45 to R49) -/

/-- A write of 1 to SOFT_RESET of a page: RO where the page index allows none, MAINTENANCE only on the JNL and DOM pages, a VF
reset on the pages of a VF. -/
def Device.softReset (d : Device) (p : Page) (n : Nat) : Device :=
  let b := p.base n
  match p with
  | .jnl => if d.cust.mode = .maintenance then d.jnlSoftReset else d.writeLost b
  | .dom => if d.cust.mode = .maintenance then d.softStart b fun d => d.domReset else d.writeLost b
  | .cnt => d.softStart b fun d => d.zeroCounters
  | .rpl => d.softStart b fun d => d.endExport 6
  | .side => d.softStart b fun d => d.sideReset
  | .mbx => d.softStart b fun d => d.mbxReset
  | .lc => d.lcSoftReset n
  | .bn => d.bnSoftReset n
  | .vfm => d.vfReset n 2
  | .vf => d.vfReset n 1
  | .dev | .pwr | .clk | .otp | .flt | .tamp | .rng | .key | .sched | .acc | .cust | .mb | .vcnt => d

/-- SOFT_RESET: `page` is the address of the page. -/
def Device.softResetAt (d : Device) (b : Nat) : Device :=
  match pageAt b with
  | some (p, n) => if b % 0x1000 = 0 then d.softReset p n else d
  | none => d

def execSoftReset (page : Nat) (s : State) : Host.Outcome State Fault Refusal := s.done (s.dev.softResetAt page)

/-- SOFT_RESET_END: BUSY falls and RESET_DONE is set; a pair serves again, and a frame that waits is placed. -/
def Device.softResetEnd (d : Device) (b : Nat) : Device :=
  if !d.pages.resetting.mem b then d
  else
    let d1 := (d.mapPages fun x => { x with resetting := x.resetting.erase b }).commandEnd (b + 8) 1 3
    match pageAt b with
    | some (.bn, n) => d1.bnResetEnd n
    | some (.mbx, _) => d1.placeFrame
    | _ => d1

def execSoftResetEnd (page : Nat) (s : State) : Host.Outcome State Fault Refusal := s.done (s.dev.softResetEnd page)

/-! ## Writes by access type (R36, R37, R51) -/

/-- The bits of a register's fields of one access type. -/
def accMask (fs : List Field) (t : Acc) : Nat :=
  fs.foldl (fun w f => if f.acc = t then w ||| (2 ^ (f.hi + 1) - 2 ^ f.lo) else w) 0

/-- A write of a CNT field: the written value, and what counted in this cycle. A performance counter wraps into its overflow
bit (18_counters_replay.md R713); every other count saturates. -/
def Device.writeCount (d : Device) (p : Page) (n a v : Nat) (f : Field) : Device :=
  let max := 2 ^ (f.hi + 1 - f.lo)
  let sum := bitsOf v f.hi f.lo + d.pages.cyc.cntAdd.get 0 a
  let off := a % 0x1000
  if 0x40 ≤ off ∧ (p = .cnt ∨ p = .vcnt) then
    let c := if p = .cnt then (off - Off.cntVal) / 4 else (off - Off.vcntVal) / 4
    let ovf := if p = .cnt then p.base n + Off.cntOvfLo + 4 * (c / 32) else p.base n + Off.vcntOvf
    let d1 := d.setField a f.hi f.lo (sum % max)
    if max ≤ sum then (d1.hwSet ovf (2 ^ (c % 32))).raiseInt p n 0 else d1
  else d.setField a f.hi f.lo (min sum (max - 1))

/-- A write applied field by field: RW where the page is not locked, HWS_W1C and CNT; command bits have functions of their own. -/
def Device.writeFields (d : Device) (p : Page) (n a v : Nat) : Device :=
  let fs := fieldsAt a
  let rw := accMask fs .rw
  let w1 := accMask fs .w1c &&& v
  let takes := rw ≠ 0 && !d.pageLocked a || fs.any fun f => f.acc == .w1c || f.acc == .cnt
  let d := if takes then d.noteWrite a else d
  let d1 := if rw = 0 then d else if d.pageLocked a then d.writeLost a
    else d.setReg a ((d.reg a - (d.reg a &&& rw)) ||| (v &&& rw))
  let d2 := if w1 = 0 then d1 else d1.w1c a w1
  (fs.filter fun f => f.acc == .cnt).foldl (fun d f => d.writeCount p n a v f) d2

/-- One write access counts once, however many of its fields were lost (R53). A write of the count itself loads it (R36). -/
def Device.lostOnce (d : Device) (a : Nat) (f : Device → Device) : Device :=
  let k := pageBase a + 0x0C
  let before := d.field k 23 16
  let d1 := f d
  if a ≠ k ∧ before + 1 < d1.field k 23 16 then
    (d1.setField k 23 16 (before + 1)).mapCyc fun c => { c with cntAdd := c.cntAdd.insert k (d.pages.cyc.cntAdd.get 0 k + 1) }
  else d1

/-- A command bit of the written value, and what it starts. -/
def Device.onBit (d : Device) (v i : Nat) (f : Device → Device) : Device := if bitOf v i then f d else d

/-! ## Writes of the pages -/

/-- Registers of the header. -/
def Device.writePageHeader (d : Device) (p : Page) (n cls a v : Nat) : Device :=
  let off := a % 0x1000
  let b := pageBase a
  if off = Off.pageCtrl then (d.onBit v 1 fun d => d.softReset p n).writeFields p n a v
  else if off = Off.intRaw then d.interruptWrite b false v
  else if off = Off.intEn then d.interruptWrite b true v
  else if off = Off.snap then d.snapWrite cls b (bitOf v 0)
  else d.writeFields p n a v

/-- FLT_STAT.ACK takes the written bit (15_faults.md R644, R660). -/
def Device.ackWrite (d : Device) (s : Nat) (v : Bool) : Device :=
  let x := d.source s
  if v then d.faultAck s
  else if d.pages.cyc.events.mem s && x.pending && x.sev == 2 && !x.ack then d.writeLost (0x6400 + 4 * s)
  else d.setSource s { x with ack := false }

def Device.writePwr (d : Device) (a v : Nat) : Device :=
  if a = pwrAt Off.pwrCtrl then
    (d.onWrite a fun d => d.setField a 8 8 (bitsOf v 8 8)).stateReq (bitsOf v 1 0)
  else d.writeFields .pwr 0 a v

/-- Writes of OTP_SEL and OTP_BURN are lost while BURN runs (16_power_clocks_startup.md R694). -/
def Device.writeOtp (d : Device) (a v : Nat) : Device :=
  if a = otpAt Off.otpCmd then (d.writeFields .otp 0 a v).onBit v 0 fun d => d.burn
  else if d.power.burn.isSome && accMask (fieldsAt a) .rw ≠ 0 then d.writeLost a else d.writeFields .otp 0 a v

def Device.writeFlt (d : Device) (n a v : Nat) : Device :=
  let s := (a % 0x1000 - 0x400) / 4
  if n = 1 then d.cfgWrite s v
  else if n = 2 then (d.ackWrite s (bitOf v 27)).onBit v 31 fun d => d.pendingClear s
  else if n = 0 ∧ a % 0x1000 = Off.fltCtrl then (d.writeFields .flt n a v).onBit v 1 fun d => d.rearm
  else d.writeFields .flt n a v

def Device.writeRng (d : Device) (a v : Nat) : Device :=
  if a = rngAt Off.rngCtrl then d.testPattern (bitOf v 0)
  else if a = rngAt Off.rngHostCmd then (d.writeFields .rng 0 a v).onBit v 0 fun d => d.req
  else d.writeFields .rng 0 a v

def Device.writeJnl (d : Device) (a v : Nat) : Device :=
  let d1 := d.writeFields .jnl 0 a v
  if a ≠ jnlAt Off.jnlCmd then d1
  else (((d1.onBit v 0 fun d => d.sweepCommand .scrub fun d => d.startScrub true).onBit v 1 fun d =>
    d.sweepCommand .compact fun d => d.startCompaction true).onBit v 2 fun d => d.adopt).onBit v 3 fun d => d.format

/-- DOM_PREFIX and DOM_UDP are written in CUSTODY alone (11_jochevy_domain.md R523). -/
def Device.writeDom (d : Device) (a v : Nat) : Device :=
  if (a = domAt Off.domPrefixLo ∨ a = domAt Off.domPrefixHi ∨ a = domAt Off.domUdp) ∧ d.cust.mode ≠ .custody then d.writeLost a
  else
    let d1 := d.writeFields .dom 0 a v
    if a = domAt Off.domCmd then
      ((d1.onBit v 0 fun d => d.applyK).onBit v 1 fun d => d.leave).onBit v 2 fun d => d.resyncCommand
    else if a = domAt Off.domMigCmd then
      ((((d1.onBit v 0 fun d => d.freeze).onBit v 1 fun d => d.save).onBit v 2 fun d => d.restore).onBit v 3 fun d =>
        d.unfreeze).onBit v 4 fun d => d.discardBlob
    else d1

/-- A write that sets LOAD and RETIRE at once, or one of them while the other runs, is lost (04_tide_tables.md R168). -/
def Device.writeSched (d : Device) (a v : Nat) : Device :=
  if a ≠ schedAt Off.tblCmd then d.writeFields .sched 0 a v
  else if v % 4 = 3 || (bitOf v 0 && d.bit a 1) || (bitOf v 1 && d.bit a 0) then d.writeLost a
  else ((d.writeFields .sched 0 a v).onBit v 0 fun d => d.tableLoad).onBit v 1 fun d => d.tableRetire

def Device.writeAcc (d : Device) (n a v : Nat) : Device :=
  let off := a % 0x1000
  if 0x800 ≤ off then d.regionWrite (64 * n + (off - 0x800) / 0x20) (off % 0x20 / 4) v
  else if a = accAt Off.accViolInfo then d.violClear v
  else d.writeFields .acc n a v

def Device.writeRpl (d : Device) (a v : Nat) : Device :=
  if a = rplAt Off.rplSel ∧ d.exporting.isSome then d.writeLost a
  else if a = rplAt Off.rplCfg then d.captureWrite v
  else if a = rplAt Off.rplCmd then (d.writeFields .rpl 0 a v).onBit v 0 fun d => d.exportStart
  else d.writeFields .rpl 0 a v

def Device.writeMbx (d : Device) (a v : Nat) : Device :=
  let off := a % 0x1000
  if off = Off.mbxCmd then ((d.w1c a (v &&& 2)).onBit v 2 fun d => d.mbxInFree).onBit v 0 fun d => d.mbxSend
  else if Off.poolShare ≤ off ∧ off < Off.poolShare + 64 then d.poolWrite ((off - Off.poolShare) / 8) (off % 8 == 4) v
  else d.writeFields .mbx 0 a v

def Device.writeLc (d : Device) (n a v : Nat) : Device :=
  let off := a % 0x1000
  if off = Off.lcFail0 then d.lcFailClear n 0 v
  else if off = Off.lcFail1 then d.lcFailClear n 1 v
  else if off = Off.lcCtrl then (d.writeFields .lc n a v).onBit v 1 fun d => d.lcRelease n
  else d.writeFields .lc n a v

def Device.writeBn (d : Device) (n a v : Nat) : Device :=
  let off := a % 0x1000
  if off = Off.bnFail then d.bnFailClear n v
  else if off = Off.bnCtrl then (d.writeFields .bn n a v).onBit v 1 fun d => d.bnRelease n
  else if off = Off.curveCmd then
    (if v % 4 = 3 then d.writeLost a
     else ((d.writeFields .bn n a v).onBit v 0 fun d => d.curveLoad).onBit v 1 fun d => d.curveRetire)
  else d.writeFields .bn n a v

/-- Two or more command bits at once are lost; TENANT, MIN_SHARE and MIN_SLOTS take a write while the VF is ABSENT; a slot
quota below the minimum is lost; VFM_M2T while POST runs too (12_tenancy.md R541, R559, R565). -/
def Device.writeVfm (d : Device) (v a w : Nat) : Device :=
  let off := a % 0x1000
  if off = Off.vfmCmd then
    (if 1 < popCount 5 w then d.writeLost a
     else (((((d.writeFields .vfm v a w).onBit w 0 fun d => d.createVf v).onBit w 1 fun d => d.activateVf v).onBit w 2 fun d =>
       d.drainVf v).onBit w 3 fun d => d.destroyVf v).onBit w 4 fun d => d.reclaimVf v)
  else if (off = Off.vfmTenant ∨ off = Off.vfmMinShare ∨ off = Off.vfmMinSlots) ∧ (d.vf v).st ≠ .absent then d.writeLost a
  else if off = Off.vfmQuotaSlots ∧ bitsOf w 20 0 < 64 * d.field (vfmAt v Off.vfmMinSlots) 14 0 then d.writeLost a
  else if off = Off.vfmCntGrant then d.grantWrite v (w % 256)
  else if off = Off.vfmMbCtrl then
    ((d.w1c a (w &&& 0x18)).onBit w 1 fun d => d.mbTake v).onBit w 0 fun d => d.mbPost v
  else if Off.vfmM2t ≤ off ∧ off < Off.vfmM2t + 0x100 ∧ d.bit (vfmAt v Off.vfmMbCtrl) 0 then d.writeLost a
  else d.writeFields .vfm v a w

/-- A base address keeps its value while the queue pair is enabled (R561). -/
def Device.writeVf (d : Device) (v a w : Nat) : Device :=
  let off := a % 0x1000
  if off < 0x800 then d.writeFields .vf v a w
  else
    let q := (off - 0x800) / 0x20
    let r := off % 0x20
    if r = 0x10 then d.qpCfgWrite v q w
    else if r = 0x14 then d.onBit w 2 fun d => d.qpErrorClear v q
    else if (d.qp v q).enabled then
      (if d.pageLocked a || (d.reg a != w &&& accMask (fieldsAt a) .rw) then d.writeLost a else d)
    else d.writeFields .vf v a w

def Device.writeMb (d : Device) (v a w : Nat) : Device :=
  let off := a % 0x1000
  if off = Off.mbCtrl then ((d.w1c a (w &&& 2)).onBit w 2 fun d => d.m2tFree v).onBit w 0 fun d => d.mbSend v
  else if Off.mbT2m ≤ off ∧ off < Off.mbT2m + 0x100 ∧ d.bit (mbAt v Off.mbCtrl) 0 then d.writeLost a
  else d.writeFields .mb v a w

/-- A counter that is not granted takes no write (18_counters_replay.md R715). -/
def Device.writeVcnt (d : Device) (v a w : Nat) : Device :=
  let off := a % 0x1000
  let grant := d.field (Page.vfm.base v + Off.vfmCntGrant) 7 0
  if off < Off.vcntVal then d.eventWrite (some v) ((off - Off.vcntEvt) / 4) w
  else if off < Off.vcntOvf then
    (if grant.testBit ((off - Off.vcntVal) / 4) then d.writeFields .vcnt v a w else d.writeLost a)
  else if off = Off.vcntOvf then
    let d1 := d.writeFields .vcnt v a (w &&& grant)
    if w % 256 &&& grant = w % 256 then d1 else d1.writeLost a
  else d

/-- A write that reaches the register: the page's own commands, and everything else by access type. -/
def Device.performWrite (d : Device) (p : Page) (n cls a v : Nat) : Device :=
  if a % 0x1000 < 0x40 then d.writePageHeader p n cls a v
  else match p with
  | .pwr => d.writePwr a v
  | .otp => d.writeOtp a v
  | .flt => d.writeFlt n a v
  | .tamp => if a % 0x1000 = Off.tampSticky then d.stickyClear v else d.writeFields p n a v
  | .rng => d.writeRng a v
  | .key => (d.writeFields p n a v).onBit (if a = keyAt Off.keyCmd then v else 0) 0 fun d => d.rotate
  | .jnl => d.writeJnl a v
  | .dom => d.writeDom a v
  | .sched => d.writeSched a v
  | .acc => d.writeAcc n a v
  | .cnt => if Off.cntEvt ≤ a % 0x1000 ∧ a % 0x1000 < Off.cntVal then d.eventWrite none ((a % 0x1000 - Off.cntEvt) / 4) v
      else d.writeFields p n a v
  | .rpl => d.writeRpl a v
  | .cust =>
    let c := if a = custAt Off.custCmd then v else 0
    ((d.writeFields p n a v).onBit c 0 fun d => d.closeMaint).onBit c 1 fun d => d.cancelCeremony
  | .mbx => d.writeMbx a v
  | .lc => d.writeLc n a v
  | .bn => d.writeBn n a v
  | .vfm => d.writeVfm n a v
  | .vf => d.writeVf n a v
  | .mb => d.writeMb n a v
  | .vcnt => d.writeVcnt n a v
  | .dev | .clk | .side => d.writeFields p n a v

/-- REGISTER_WRITE: the access check, the decode of the offset, the byte enables (R34), a running soft reset (R48), and the write. -/
def Device.registerWrite (d : Device) (cls a : Nat) (be : BitVec 4) (v : Nat) : Device :=
  let r := a / 4 * 4
  match d.reach cls 1 a with
  | .nowhere => d
  | .refused => d.violation cls 1 a
  | .performed =>
    if behindPages cls r || windowAt r && !d.reserved r then d
    else if d.reserved r then d.unmapped a true
    else match pageAt r with
      | some (p, n) =>
        if be ≠ 0xF || a % 4 ≠ 0 || d.writeBarred a then d.writeLost a
        else d.lostOnce a fun d => d.performWrite p n cls a v
      | none => d

def execRegisterWrite (cls : Fin 16) (addr : Nat) (be : BitVec 4) (value : Word) (s : State) : Host.Outcome State Fault Refusal :=
  s.done (s.dev.registerWrite cls addr be value.toNat)

/-! ## MSI-X tables (R27, R29; 15_faults.md R635 source 222) -/

/-- A word of a table entry written: address low and high, data, vector control. -/
def Msix.write (e : Msix) (word v : Nat) : Msix :=
  let e := { e with withheld := false }
  if word = 0 then { e with addr := e.addr / 2 ^ 32 * 2 ^ 32 + v }
  else if word = 1 then { e with addr := v * 2 ^ 32 + e.addr % 2 ^ 32 }
  else if word = 2 then { e with data := v } else { e with masked := bitOf v 0 }

/-- MSIX_TABLE_WRITE: the rewrite ends a withholding, and a vector that is free to signal sends what it kept pending. -/
def Device.msixWrite (d : Device) (fn vector word v : Nat) : Device :=
  let here := if fn = 0 then decide (vector < 32) else decide (vector < 65) && d.exposed (fn - 1)
  if !here then d
  else
    let k := msixKey fn vector
    let e := (d.front.msix.get Msix.initial k).write word v
    let send := e.pending && !e.masked
    let d1 := d.mapFront fun f => { f with msix := f.msix.put Msix.initial k (if send then { e with pending := false } else e) }
    let d2 := if send then d1.emit (.msix fn vector) else d1
    if d2.front.msix.any fun x => x.2.withheld then d2 else d2.holdCause 222 false

def execMsixTableWrite (fn vector : Nat) (word : Fin 4) (value : Word) (s : State) : Host.Outcome State Fault Refusal :=
  s.done (s.dev.msixWrite fn vector word value.toNat)

end Sys2Proof.Machine
end

