-- ==== Sys2Proof/Machine/StartUp.lean ====
section
/-! DEFINITION. START_UP: the whole start-up sequence, from the first feed that rises to the mode that is entered
(16_power_clocks_startup.md R684 to R688; 14_tamper.md R614, R619; 09_key_hierarchy.md R375; 10_record_store.md R451 to R456;
04_tide_tables.md R152, R153; 13_modes_custody.md R570). The command carries what the hardware finds on its way. -/

namespace Sys2Proof.Machine

/-! ## What power loss leaves (R684, R688) -/

/-- The slot whose burn power loss cut: no bit is burnt that the burn would not have set, and SEAL, burnt last, only over a
slot that is otherwise complete (R683, R694). -/
def cutSlot (g n : Nat) (data found : Bytes) : Bytes :=
  let whole := otpSlot g n data true
  let part := (List.zipWith (fun a b => a &&& b) (padTo 64 found) whole).take 63
  part ++ (if part = whole.take 63 then [(padTo 64 found).getD 63 0 &&& 1] else [0])

def Power.afterCut (p : Power) (data found : Bytes) : Power :=
  match p.burn with
  | none => p
  | some (g, n) => { p with burn := none, otp := p.otp.put (zeros 64) (4 * g + n) (cutSlot g n data found) }

/-- A chain as a feed rises: its outputs settle or not. -/
def chainAt (settles : Bool) (mv : Nat) : Chain :=
  { feedOk := settles || decide (850 ≤ mv ∧ mv ≤ 1900), outOk := settles, selfTest := true, mv := mv }

/-- The state of the device when reset is released: registers at their reset values, volatile memories empty, and what the
battery, the antifuses and the SSDs keep. -/
def Device.powerOn (d : Device) (f : StartFacts) : Device :=
  let cond : NatSet := f.conditions.foldl (fun c s => c.add s) []
  let a := chainAt f.chainA f.mvA
  let b := chainAt f.chainB f.mvB
  { Device.initial with
    free := d.free + 1
    out := d.out
    keys := { Keys.initial with bank0 := d.keys.bank0, bank1 := d.keys.bank1, active := d.keys.active, cls := 4 }
    units := { Units.initial with tables := d.units.tables, highest := d.units.highest, curves := d.units.curves
                                  nextTable := d.units.nextTable }
    store := { d.store with
      commits := [], gathering := [], recovering := false, readOnly := false, quarantined := false, op := none, opCmd := false
      scrubbed := 0, index := [], top := [] }
    dom := { Domain.initial with
      fresh := d.dom.fresh
      view := { d.dom.view with grace := [], votes := [], requests := [] } }
    cust := { Custody.initial with set := d.cust.set, setStored := d.cust.setStored, compat := d.cust.compat }
    tamp := { d.tamp with
      armed := false, zStarted := false, line := false, burning := none
      fifo := d.tamp.fifo.map fun r => { r with flags := r.flags ||| 1 }
      pend := d.tamp.pend.mapV fun _ r => { r with flags := r.flags ||| 1 }
      tick := (d.tampTick + d.freeNat) % 2 ^ 48, tj := 0, batteryLost := f.batteryPowerOn }
    rng := { Rng.initial with draws := d.rng.draws, blocks := d.rng.blocks }
    power := { (d.power.afterCut d.stagedData f.cutSlot) with
      st := .starting, chainA := a, chainB := b, active := if f.chainA then 1 else 2, failover := false, ebbWait := false, locked := 0
      refclkOk := !f.events.contains 16, oscOk := !f.events.contains 17 }
    pins := { Pins.initial with perst := !f.perstHigh, vioOk := !f.events.contains 7, zeroizeLow := cond.mem 48 } }

/-! ## 1.2 ms to 2 ms: tamper, power, settings -/

/-- The row that power loss cut (R627, R628): torn, or complete, in which case the entry stays and is burnt again. -/
def Device.cutRow (d : Device) (was : Option TampRec) (kind : Nat) : Device :=
  match was with
  | none => d
  | some r =>
    if kind = 0 then d
    else
      let d1 := d.mapTamp fun t => { t with
        rows := t.rows.insert t.nextRow (if kind = 1 then .torn else .burnt r), nextRow := t.nextRow + 1 }
      if kind = 1 then (d1.raiseInt .tamp 0 3).fault 58 else d1

/-- The highest tick in the log. -/
def Tamper.lastTick (t : Tamper) : Nat :=
  t.rows.foldl (fun m e => match e.2 with | .burnt r => max m r.last | .torn => m) 0

/-- A bank that validates (09_key_hierarchy.md R373). -/
def Bank.valid (b : Bank) : Bool := b.checkOk && b.st != .invalid

/-- A bank that a completed zeroization left CLEARED (log entry 34). -/
def Bank.leftCleared (b : Bank) : Bool := !b.checkOk && b.st == .cleared

/-- A lost battery domain (R617, R619, R622): its flags, its staged records and the BBRAM are gone. -/
def Device.batteryLost (d : Device) : Device :=
  let lost := { Bank.zeroed with st := .invalid }
  let d1 := ((d.mapKeys fun k => { k with bank0 := lost, bank1 := lost }).mapPower fun p => { p with stopRecorded := false }).mapTamp
    fun t => { t with
      cond := [], sticky := [], fifo := [], pend := [], zPending := false, zSeq := 0, zCause := 4, zSource := 0, zInterrupted := false
      tick := (t.lastTick + 1) % 2 ^ 48 }
  (d1.raiseInt .tamp 0 5).fault 56

/-- The monitor is armed (R605, R614): a condition that began on the battery is no second event, and an S4 source in condition
drives the line all the same. -/
def Device.arm (d : Device) (found : List Nat) : Device :=
  let was := d.tamp.cond
  let gone := was.filter fun e => !found.contains (32 + e.1)
  let d1 := gone.foldl (fun d e => d.conditionEnd (32 + e.1)) (d.mapTamp fun t => { t with armed := true })
  (found.filter monitored).foldl (fun d s =>
    if was.mem (s - 32) then
      let d2 := d.holdCause s true
      if s ≤ 53 then d2.zeroize 0x01 s else d2
    else d.tamperEvent s 0) d1

/-- Settings are selected and R664 is applied; feeds that are absent hold their cause, and the stop before is counted. -/
def Device.settle0 (d : Device) : Device :=
  let p := d.power
  let b := fun i => (p.settings 1).getD i 0
  let d1 := (d.mapPower fun p => { p with
    claimA := (b 0).toNat % 16, claimB := (b 0).toNat / 16, ebbAllowed := bitOf (b 1).toNat 0, stopRecorded := false }).mapTamp fun t =>
      { t with gradeE := bitOf ((p.settings 0).getD 1 0).toNat 0 }
  let d2 := (List.range 30).foldl (fun d g => d.countTorn g) d1
  let d3 := if p.stopRecorded then d2.fault 6 else d2
  let d4 := [0, 1].foldl (fun d c => if (p.chain c).feedOk then d else (d.fault c).holdCause c true) d3
  match d4.power.choice with
  | some c => if d4.power.active = c + 1 then d4 else (d4.powerStep fun p => { p with active := c + 1 }).fault 5
  | none => d4

/-! ## 2.6 ms to 3 ms: random numbers, classifications -/

/-- R619. -/
def Device.classifyTamper (d : Device) (powerOn : Bool) : Device :=
  let k := d.keys
  if d.tamp.zPending then
    let d1 := (d.mapKeys fun k => { k with bank0 := Bank.zeroed, bank1 := Bank.zeroed }).mapTamp fun t => { t with
      zPending := false, zInterrupted := true }
    Device.stageRecord Device.fault (d1.raiseInt .tamp 0 5)
      { zeroizationRecord d1 d1.tamp.zCause d1.tamp.zSource with flags := 4 }
  else if powerOn || k.bank0.valid || k.bank1.valid || k.bank0.leftCleared || k.bank1.leftCleared then d
  else
    let d1 := d.mapTamp fun t => { t with zSeq := (t.zSeq + 1) % 256, zCause := 4, zSource := 0, zInterrupted := false }
    Device.stageRecord Device.fault (d1.raiseInt .tamp 0 5) (zeroizationRecord d1 4 0)

/-- R375: the bank in force, or two cleared banks and a fresh module unique key. LOCAL_STATE takes its starting value. -/
def Device.classifyBanks (d : Device) : Device :=
  let k := d.keys
  let active : Option Nat := match k.bank0.valid, k.bank1.valid with
    | true, true => some (if k.bank0.seq < k.bank1.seq then 1 else 0)
    | true, false => some 0
    | false, true => some 1
    | false, false => none
  match active with
  | some a =>
    let b := if a = 0 then k.bank0 else k.bank1
    d.mapKeys fun k => { k with
      active := a, cls := match b.st with | .rooted => 2 | .rewrap => 3 | .cleared => 4 | _ => 1 }
  | none =>
    let key := d.random 32
    d.drawn.mapKeys fun k => { k with
      bank0 := { Bank.zeroed with seq := 1, moduleKey := key, checkOk := true }, bank1 := Bank.zeroed, active := 0, cls := 4 }

/-- The keys drawn once the generator is healthy: tamper patterns, HBM, slot tags, table index. -/
def Device.drawStartKeys (d : Device) : Device :=
  let d0 := d.mapRng fun r => { r with started := true }
  let d1 := d0.drawn.mapTamp fun t => { t with patternKey := d0.random 32 }
  let d2 := d1.drawn
  let d3 := d2.drawn
  d3.drawn.mapKeys fun k => { k with hbmKey := d1.random 32, tagKey := d2.random 32, indexKey := d3.random 32 }

/-! ## 5 ms to 2 s: memories, firmware, wakes, ports -/

/-- A root is in force. -/
def Device.hasRoot (d : Device) : Bool := d.keys.cls == 2 || d.keys.cls == 3

/-- Slots that the memory test retires (R393, R410). -/
def Device.testMemory (d : Device) (bad : List Nat) : Device :=
  let d1 := d.mapKeys fun k => { k with retired := (bad.filter (· < 1048576)).foldl (fun r s => r.add s) [] }
  let cap := 256 * max 1 (d1.field (Page.key.base 0 + Off.keyCtrl) 15 8)
  if cap ≤ d1.keys.retired.length then (d1.raiseInt .key 0 1).fault 168 else d1

/-- The firmware is verified, and every cluster and engine group wakes once and is gated again (R210, R211, R301). -/
def Device.testUnits (d : Device) (f : StartFacts) : Device :=
  let d1 := if f.firmwareOk then d.setField Off.devCoreStat 3 0 0xF else ((d.setField Off.devCoreStat 3 0 0).fault 233).holdCause 233 true
  let d2 := (f.wakeFailClusters.filter (· < 16)).foldl (fun d c =>
    ((d.setCluster c { d.cluster c with wakeFails := 1 }).fault (64 + 4 * c + 3)).raiseInt .lc c 2) d1
  (f.wakeFailGroups.filter (· < 8)).foldl (fun d g => d.groupWakeFailed g) d2

/-- The ports as they are probed (10_record_store.md R450, R460): none is CURRENT without a formatted store of this module,
nor one that its partner expels or that is half rebuilt. -/
def Device.probePorts (d : Device) (found : List PortState) : Device :=
  let usable := d.hasRoot && d.store.formatted
  let port := fun i : Nat =>
    match found.getD i .absent with
    | .absent => PortState.absent
    | .unsuitable => .unsuitable
    | .current => if usable && !d.store.expelled.mem i then .current else .foreign
    | .failed => if usable then .failed else .foreign
    | .probing => if usable then .probing else .foreign
    | _ => .foreign
  let d1 := d.mapStore fun s => { s with ports := (List.range 4).map port }
  (d1.store.ports.filter fun p => p == .foreign || p == .unsuitable).foldl (fun d _ => d.fault 186) d1

/-- Without a root nothing of the store, of the domain, of the custodians or of the tables is kept (R450, R571). -/
def Device.forgetStore (d : Device) : Device :=
  { d with
    store := { Store.initial with ports := d.store.ports, auditSeq := d.store.auditSeq }
    dom := Domain.initial
    units := { Units.initial with clusters := d.units.clusters, engines := d.units.engines, groups := d.units.groups }
    cust := { d.cust with set := none, setStored := false, compat := false } }

/-! ## Journal recovery (10_record_store.md R451 to R456) -/

/-- The epoch whose VIEW record lands with the pending write is adopted (11_jochevy_domain.md R495, R496). -/
def Device.landView (d : Device) (recs : List Rec) : Device :=
  match d.dom.view.adopting with
  | none => d
  | some (n, _) =>
    if recs.any fun r => r.ident.typ == tMeta && r.ident.sub == 0x05 && r.ident.id == viewId n && r.ident.frag + 1 == r.fragCount
        && r.origin == d.dom.view.moduleId then
      let d1 := d.mapView fun w => { w with
        epoch := n.epoch, members := n.members, ids := n.ids, k := n.k, prevMembers := w.members }
      n.changes.foldl (fun d c => match c with
        | .newRoot blob => d.adoptRoot (d.openRoot blob) n.epoch
        | _ => d) d1
    else d

/-- Step 1: the pending write is completed, discarded, or the store is quarantined (R451, R453). -/
def Device.resolvePending (d : Device) (f : StartFacts) : Device :=
  if d.keys.bank.pendBlocks = 0 then d.mapStore fun s => { s with pending := [] }
  else if f.pendFound && !d.store.pending.isEmpty && d.store.ports.contains .current then
    let recs := d.store.pending
    d.landWrite.landView recs
  else if f.treeOk then
    (d.mapStore fun s => { s with pending := [] }).bankUpdate fun b => { b with pendBlocks := 0, pendDigest := zeros 14 }
  else (d.mapStore fun s => { s with pending := [], quarantined := true }).fault 183

/-- Step 2: ERASE_INTENT and TORN segments are erased (R451, R452). -/
def Device.resolveSegment (torn : List Nat) (d : Device) (k : Nat) : Device :=
  let g := d.seg k
  let isTorn := torn.contains k || g.st == .torn
  if !isTorn && g.st != .eraseIntent then d
  else
    let h : Seg := { g with st := .erased, blocks := 0 }
    let d1 := d.mapStore fun s => { s.zeroSegment k with
      segments := s.segments.put Seg.initial k h
      written := s.written.filter fun w => locSegKey w.2 != k }
    let d1' := if d1.store.root == d.keys.bank.treeRoot then d1 else d1.bankUpdate fun b => b.advance d1.store.root
    let d2 := (d1'.deallocate k).writeHeader k h
    if isTorn then d2.fault 182 else d2

def Device.resolveSegments (d : Device) (torn : List Nat) : Device :=
  let listed := d.store.segments.map Prod.fst ++ torn.filter fun k => decide (k % 262144 < d.store.segs (k / 262144))
  let d1 := ((listed.dedup.insertionSort (· ≤ ·))).foldl (Device.resolveSegment torn) d
  d1.openNext 0

/-- A pair that has lost its last CURRENT SSD makes the store read-only (R442). -/
def Store.pairLost (x : Store) : Bool :=
  (x.currentPorts 0).isEmpty || (decide (0 < x.segs1) && (x.currentPorts 1).isEmpty)

/-- HBM holds the top of the tree and the index again: the last checkpoint's, with an entry for every record written since (R430,
R435, R454). -/
def Device.rebuildHbm (d : Device) : Device :=
  let d1 := d.mapStore fun s => { s.rebuildTop with index := s.area }
  d1.store.unindexed.foldl (fun d r => d.indexRecord r) d1

/-- Steps 1 to 3, and what the store then is. The own records' next SEQ is above every one that the store holds. -/
def Device.recover (d : Device) (f : StartFacts) : Device :=
  let d0 := if f.noSuperblock then d.fault 184 else d
  let d1 := d0.rebuildHbm.resolvePending f
  if d1.store.quarantined then d1
  else
    let d2 := d1.resolveSegments f.torn
    let mine := d2.records.filter fun r => r.origin == d.dom.view.moduleId
    let d3 := d2.mapStore fun s => { s with
      readOnly := s.pairLost, nextSeq := mine.foldl (fun m r => max m r.seq) 0 }
    (if d3.store.readOnly then (d3.fault 181).holdCause 181 true else d3).checkFull

/-! ## Reloads (04_tide_tables.md R152, R153, R157; 07_bignum_engines.md R318) -/

/-- The META records of a version that is not kept are marked removed. -/
def Device.forgetImage (d : Device) (t : TableVersion) : Device :=
  if d.units.tables.any (fun e => e.2.objectId == t.objectId) || d.metaImage 1 t.objectId == [] then d
  else d.releaseRecords none (metaRecords 1 t.objectId 2 [])

/-- A version is reloaded through steps 2 to 14 of R149. -/
def Device.reloadTable (bad : List Nat) (d : Device) (e : Nat × TableVersion) : Device :=
  let image := d.metaImage 1 e.2.objectId
  if image = [] then d
  else if bad.contains e.1 || (d.imageFails image 0 true).isSome then d.fault 244
  else d.mapUnits fun u => { u with
    tables := u.tables.insert e.1 { imageVersion image false with active := e.2.active, tag := d.headerTag (imageVersion image false) }
    nextTable := max u.nextTable (e.1 + 1) }

/-- Images whose META records stand though no version of them was held: each is reloaded like the others, and is the active version
where none of its service and variant is (R152). -/
def Device.orphanImages (d : Device) (held : List TableVersion) : List Nat :=
  let ids := ((d.records.filter fun r => r.ident.typ == tMeta && r.ident.sub == 1 && r.ident.frag == 0).map fun r => r.ident.id).dedup
  ids.filter fun i => d.metaImage 1 i != [] && !held.any fun t => t.objectId == i

def Device.reloadOrphan (d : Device) (i : Nat) : Device :=
  let t := imageVersion (d.metaImage 1 i) false
  d.reloadTable [] (d.units.nextTable, { t with active := !d.units.tables.any fun e => e.2.active && e.2.key == t.key })

/-- A curve set whose META record stands is reloaded through steps 2 to 14 of R316; the engines find a set bad, or its own fields do
(07_bignum_engines.md R318). -/
def Device.reloadCurve (bad : List Nat) (d : Device) (s : Nat) : Device :=
  let image := (d.metaImage 3 s).take 1024
  if image = [] then d
  else if bad.contains s || setCode image 0 false 0 != 0 then d.fault 244
  else d.mapUnits fun u => { u with curves := u.curves.insert s { set := image, retiring := false } }

/-- Tables and curves are reloaded; versions that serve replay alone, or were leaving, are discarded. -/
def Device.reload (d : Device) (f : StartFacts) : Device :=
  let old := d.units
  let kept := old.tables.filter fun e => !e.2.leaving && !e.2.replayOnly
  let d1 := d.mapUnits fun u => { u with
    tables := [], curves := []
    highest := u.highest.filterMap fun e => match d.metaImage 2 e.1 with
      | [] => none
      | image => some (e.1, leNat (slice image 0 2)) }
  let d2 := (d.orphanImages (old.tables.map Prod.snd)).foldl Device.reloadOrphan (kept.foldl (Device.reloadTable f.badTables) d1)
  let gone := old.tables.filter fun e => e.2.leaving || e.2.replayOnly
  let d3 := gone.foldl (fun d e => d.forgetImage e.2) d2
  ((List.range 64).foldl (Device.reloadCurve f.badCurves) d3).showTables.showCurves

/-- No image can be authenticated in a quarantined store (R453). -/
def Device.forgetTables (d : Device) : Device :=
  d.mapUnits fun u => { u with tables := [], highest := [], curves := [] }

/-- The custodian set and the compatibility setting as their records hold them (13_modes_custody.md R578). -/
def Device.reloadCustody (d : Device) (found : Bool) : Device :=
  let image := d.metaImage 7 0
  let set := if found && !d.store.quarantined then
      CSet.parse (image.take 2 ++ zeros 2 ++ slice image 2 (2080 * hdr image 1 1)) else none
  d.mapCust fun c => { c with
    set := set, setStored := set.isSome, compat := hdr (d.metaImage 8 0) 0 1 == 1 && set.isSome }

/-- The view with which the module starts again (11_jochevy_domain.md R477, R482): alone it is at once in its domain; a
prepared epoch lives on if its record stands. -/
def Device.reloadView (d : Device) (up : List Bool) : Device :=
  if !d.dom.view.inDomain || d.metaImage 4 0 == [] then d.mapDom fun _ => Domain.initial
  else d.mapDom fun x => { Domain.initial with
    fresh := x.fresh
    portUp := [up.getD 0 false, up.getD 1 false]
    view := { x.view with
      joining := !x.view.others.isEmpty || x.fresh, adopting := none
      requests := if x.view.members.head? = some x.view.moduleId && !x.view.others.isEmpty then
          [.add x.view.moduleId (padTo 32 Config.identityDigest)] else []
      prepared := match x.view.prepared with
        | some p => if epochNewer p.epoch x.view.epoch && d.metaImage 6 (preparedId p.epoch (boolNat p.refused)) != [] then some p
            else none
        | none => none } }

/-- The re-wrap resumes where its records stand (09_key_hierarchy.md R375, R402). -/
def Device.resumeRewrap (d : Device) : Device :=
  if d.keys.cls ≠ 3 || d.store.quarantined then d
  else
    let rs := d.rewrapRecords
    let op : KeyOp := { rewrap := true, tenant := 0, todo := rs.map fun r => (r.ident.id, r.ident.version), skipped := 0 }
    let d1 := (d.mapKeys fun k => { k with op := some op }).progStart (Page.key.base 0) 0x0002 rs.length
    d1.releaseRecords none (rs.map fun r => { r with epoch := d.keys.bank.rootEpoch })

/-- Step 4: own records that are not known to be committed, and those that never reached this store, are settled once the
fabric may be used (R454, R455); a module that entered by JOIN asks without a floor (R456). -/
def Device.settleOwn (d : Device) : Device :=
  if !d.hasRoot || d.store.quarantined then d else
  let me := d.dom.view.moduleId
  let mine := d.store.unindexed.filter fun r => r.replicated && r.origin == me && r.state != 0xFF && d.records.contains r
  let d1 := mine.foldl (fun d r => d.askHold r .own ((d.placement r.ident).filter (· != me))) d
  let d2 := d1.settleAsks fun a => a.why == .own
  if !d2.dom.view.inDomain || d2.dom.view.others.isEmpty then d2
  else (d2.mapDom fun x => { x with originAsked := x.view.others }).send { Msg.group 0x1C with
    marks := if d2.dom.fresh then [me] else [me, d2.store.nextSeq] }

/-! ## The mode is selected (13_modes_custody.md R570; 15_faults.md R647) -/

/-- The mode of rows 1 to 5, and whether its row drives the ZEROIZE line. -/
def Device.startMode (d : Device) : Mode × Bool :=
  if !d.power.exited then (.manufacture, false)
  else if d.pins.zeroizeLow || d.tamp.zStarted then (.zeroized, false)
  else if !d.hasRoot then (.custody, false)
  else if d.cust.setStored then (.service, false)
  else (.zeroized, true)

/-- The mode is entered, the escalation timers start, and a source of severity S3 takes the device on to QUARANTINE. -/
def Device.selectMode (d : Device) : Device :=
  let (m, drives) := d.startMode
  let d1 := if drives then d.zeroize 0x04 0 else d
  let d2 := ((d1.mapCust fun c => { c with selected := true, lastId := beNat (d1.random 4) }).drawn.enterMode m).setReg
    (pwrAt Off.pwrBoot) 7
  let d3 := { (d2.setPowerState .slack) with sources := d2.sources.mapD Source.clear fun _ x =>
    if x.pending && x.sev == 2 then { x with timer := true } else x }
  let d4 := if d3.tamp.zStarted then d3.zeroizeEnd else d3
  if d4.sources.any fun e => e.2.pending && e.2.sev == 3 then d4.enterQuarantine else d4

/-- Events of other blocks during start-up (R570, last row). -/
def Device.startEvent (d : Device) (s : Nat) : Device :=
  if neverCounted s || monitored s || decide (255 < s) then d
  else if 18 ≤ s ∧ s ≤ 26 then d.lockLoss (s - 18)
  else if 252 ≤ s then d.selfError (s - 252) [] [] false
  else
    let d1 := d.fault s
    if conditionType s then d1.holdCause s true else d1

/-! ## The sequence -/

/-- START_UP. The times are those of the table of R684; a span that the table only bounds is a free value within it. -/
def Device.startUp (d : Device) (f : StartFacts) : Device :=
  if !(d.power.st == .battery || d.power.st == .stopping) || !(f.chainA || f.chainB) then d else
  let us := usCycles
  let span := fun (d : Device) (n : Nat) => d.drawFree.advance (1 + d.freeNat % us n)
  let was := d.tamp.burning
  -- 1.2 ms
  let d1 := (d.powerOn f).advance (us 1200)
  let d2 := (d1.cutRow was f.cutRow)
  let d3 := if f.batteryPowerOn then d2.batteryLost else d2
  let d4 := d3.arm f.conditions
  -- 2 ms
  let d5 := (d4.advance (us 800)).settle0
  -- 2.5 ms, 2.6 ms
  let d6 := ((d5.advance (us 500)).mapPower fun p => { p with locked := 0x1FF }).advance (us 100)
  -- 3 ms
  let d7 := (d6.drawStartKeys.advance (us 400)).classifyTamper f.batteryPowerOn
  let d8 := d7.classifyBanks.startBurn
  -- 5 ms to 700 ms
  let d9 := ((span d8 600000).testMemory f.badSlots).testUnits f
  -- links and ports
  let d10 := ((span d9 1300000).probePorts f.ports)
  let d11 := f.events.foldl Device.startEvent d10
  -- recovery and reloads
  let d12 := if d11.hasRoot then
      let e1 := (span (d11.mapStore fun s => { s with recovering := true }) 400000).recover f
      let e2 := if e1.store.quarantined then e1.forgetTables else e1.reload f
      ((e2.reloadCustody f.custodianSet).reloadView f.fabricUp).mapStore fun s => { s with recovering := false }
    else d11.forgetStore
  -- selection
  let d13 := d12.selectMode
  let d13 := d13.showTables
  let d14 := if d13.cust.mode == .zeroized then d13 else (d13.resumeRewrap).settleOwn
  d14.clockFloor.queueSweep.startBurn

def execStartUp (facts : StartFacts) (s : State) : Host.Outcome State Fault Refusal := s.done (s.dev.startUp facts)

end Sys2Proof.Machine
end

