-- ==== Sys2Proof/Machine/Dispatch.lean ====
section
/-! DEFINITION. One arm per command. -/

namespace Sys2Proof.Machine

/-- What a command does to everything but the queue. -/
def exec (i : Instr) (s : State) : Host.Outcome State Fault Refusal :=
  match i with
  | .windowSlotWrite vf qp slot off data => Sys2Proof.Machine.execWindowSlotWrite vf qp slot off data s
  | .submissionTailDoorbell vf qp be value => Sys2Proof.Machine.execSubmissionTailDoorbell vf qp be value s
  | .completionHeadDoorbell vf qp be value => Sys2Proof.Machine.execCompletionHeadDoorbell vf qp be value s
  | .sqFetchIssue vf qp => Sys2Proof.Machine.execSqFetchIssue vf qp s
  | .sqReadCompletion vf qp data => Sys2Proof.Machine.execSqReadCompletion vf qp data s
  | .sqReadFailure vf qp => Sys2Proof.Machine.execSqReadFailure vf qp s
  | .bufferReadEnd item data => Sys2Proof.Machine.execBufferReadEnd item data s
  | .deferredAdmit => Sys2Proof.Machine.execDeferredAdmit s
  | .fenceRelease item => Sys2Proof.Machine.execFenceRelease item s
  | .tick aon => Sys2Proof.Machine.execTick aon s
  | .deferDeadline item => Sys2Proof.Machine.execDeferDeadline item s
  | .epochHoldExpiry item => Sys2Proof.Machine.execEpochHoldExpiry item s
  | .retryRelease item => Sys2Proof.Machine.execRetryRelease item s
  | .sweepRelease kind => Sys2Proof.Machine.execSweepRelease kind s
  | .operandArrival item which read => Sys2Proof.Machine.execOperandArrival item which read s
  | .operandRefusal item which why => Sys2Proof.Machine.execOperandRefusal item which why s
  | .sessionDerivationEnd item mismatches => Sys2Proof.Machine.execSessionDerivationEnd item mismatches s
  | .storeFetchEnd slot fetched => Sys2Proof.Machine.execStoreFetchEnd slot fetched s
  | .keyExpirySweepPass failing => Sys2Proof.Machine.execKeyExpirySweepPass failing s
  | .dispatchLane tagOk => Sys2Proof.Machine.execDispatchLane tagOk s
  | .dispatchEngine => Sys2Proof.Machine.execDispatchEngine s
  | .dispatchKeySide => Sys2Proof.Machine.execDispatchKeySide s
  | .dispatchCore => Sys2Proof.Machine.execDispatchCore s
  | .coreWorkReport item => Sys2Proof.Machine.execCoreWorkReport item s
  | .coreItemLate item => Sys2Proof.Machine.execCoreItemLate item s
  | .dispatchNotAccepted item => Sys2Proof.Machine.execDispatchNotAccepted item s
  | .laneRunEnd item mismatches countersOk => Sys2Proof.Machine.execLaneRunEnd item mismatches countersOk s
  | .laneFailure cluster lane unit => Sys2Proof.Machine.execLaneFailure cluster lane unit s
  | .glitchDetectorTrip cluster => Sys2Proof.Machine.execGlitchDetectorTrip cluster s
  | .keySideTableEnd item mismatches => Sys2Proof.Machine.execKeySideTableEnd item mismatches s
  | .engineJobEnd item mismatch => Sys2Proof.Machine.execEngineJobEnd item mismatch s
  | .mlDsaAttemptLimit item => Sys2Proof.Machine.execMlDsaAttemptLimit item s
  | .engineFailure engine unit => Sys2Proof.Machine.execEngineFailure engine unit s
  | .yieldPoint item => Sys2Proof.Machine.execYieldPoint item s
  | .pairFree pair => Sys2Proof.Machine.execPairFree pair s
  | .completionPost item => Sys2Proof.Machine.execCompletionPost item s
  | .matchingStoreUnreadable item => Sys2Proof.Machine.execMatchingStoreUnreadable item s
  | .listRebuildEnd cls delay => Sys2Proof.Machine.execListRebuildEnd cls delay s
  | .clusterWakeRequest cluster => Sys2Proof.Machine.execClusterWakeRequest cluster s
  | .clusterWakeEnd cluster ok => Sys2Proof.Machine.execClusterWakeEnd cluster ok s
  | .clusterIdleGate cluster => Sys2Proof.Machine.execClusterIdleGate cluster s
  | .clusterGated cluster => Sys2Proof.Machine.execClusterGated cluster s
  | .groupWakeEnd group ok => Sys2Proof.Machine.execGroupWakeEnd group ok s
  | .lcRelease cluster => Sys2Proof.Machine.execLcRelease cluster s
  | .lcFailClear cluster half bits => Sys2Proof.Machine.execLcFailClear cluster half bits s
  | .lcSoftReset cluster => Sys2Proof.Machine.execLcSoftReset cluster s
  | .bnRelease engine => Sys2Proof.Machine.execBnRelease engine s
  | .bnFailClear engine bits => Sys2Proof.Machine.execBnFailClear engine bits s
  | .bnSoftReset engine => Sys2Proof.Machine.execBnSoftReset engine s
  | .stagingWindowWrite off data => Sys2Proof.Machine.execStagingWindowWrite off data s
  | .load => Sys2Proof.Machine.execLoad s
  | .loadEnd => Sys2Proof.Machine.execLoadEnd s
  | .retire => Sys2Proof.Machine.execRetire s
  | .versionFree version => Sys2Proof.Machine.execVersionFree version s
  | .tableReloadEnd version => Sys2Proof.Machine.execTableReloadEnd version s
  | .curveLoad => Sys2Proof.Machine.execCurveLoad s
  | .curveLoadEnd engineCode => Sys2Proof.Machine.execCurveLoadEnd engineCode s
  | .curveRetire => Sys2Proof.Machine.execCurveRetire s
  | .pinTranslate item => Sys2Proof.Machine.execPinTranslate item s
  | .pinTranslateDukpt item => Sys2Proof.Machine.execPinTranslateDukpt item s
  | .pinVerifyOffset item => Sys2Proof.Machine.execPinVerifyOffset item s
  | .pinVerifyPvv item => Sys2Proof.Machine.execPinVerifyPvv item s
  | .dukptDataDecrypt item => Sys2Proof.Machine.execDukptDataDecrypt item s
  | .arqcVerify item => Sys2Proof.Machine.execArqcVerify item s
  | .cvvGenerate item => Sys2Proof.Machine.execCvvGenerate item s
  | .cvvVerify item => Sys2Proof.Machine.execCvvVerify item s
  | .retailMacGenerate item => Sys2Proof.Machine.execRetailMacGenerate item s
  | .retailMacVerify item => Sys2Proof.Machine.execRetailMacVerify item s
  | .aesCmacGenerate item => Sys2Proof.Machine.execAesCmacGenerate item s
  | .aesCmacVerify item => Sys2Proof.Machine.execAesCmacVerify item s
  | .hmacSha256Generate item => Sys2Proof.Machine.execHmacSha256Generate item s
  | .hmacSha256Verify item => Sys2Proof.Machine.execHmacSha256Verify item s
  | .keyGenerate item => Sys2Proof.Machine.execKeyGenerate item s
  | .keyRotate item => Sys2Proof.Machine.execKeyRotate item s
  | .keyBlockImport item => Sys2Proof.Machine.execKeyBlockImport item s
  | .keyBlockExport item => Sys2Proof.Machine.execKeyBlockExport item s
  | .keyStatus item => Sys2Proof.Machine.execKeyStatus item s
  | .keyVersionRetire item => Sys2Proof.Machine.execKeyVersionRetire item s
  | .tokenize item held => Sys2Proof.Machine.execTokenize item held s
  | .detokenize item => Sys2Proof.Machine.execDetokenize item s
  | .tokenQuery item => Sys2Proof.Machine.execTokenQuery item s
  | .tokenSuspend item => Sys2Proof.Machine.execTokenSuspend item s
  | .tokenResume item => Sys2Proof.Machine.execTokenResume item s
  | .tokenDelete item => Sys2Proof.Machine.execTokenDelete item s
  | .reTokenize item held => Sys2Proof.Machine.execReTokenize item held s
  | .echo item => Sys2Proof.Machine.execEcho item s
  | .serviceBundle item => Sys2Proof.Machine.execServiceBundle item s
  | .operatorTableService item => Sys2Proof.Machine.execOperatorTableService item s
  | .rsaSign item => Sys2Proof.Machine.execRsaSign item s
  | .rsaVerify item => Sys2Proof.Machine.execRsaVerify item s
  | .rsaOaepKeyImport item => Sys2Proof.Machine.execRsaOaepKeyImport item s
  | .keyPairGenerate item => Sys2Proof.Machine.execKeyPairGenerate item s
  | .publicKeyExport item => Sys2Proof.Machine.execPublicKeyExport item s
  | .ecdsaSign item => Sys2Proof.Machine.execEcdsaSign item s
  | .ecdsaVerify item => Sys2Proof.Machine.execEcdsaVerify item s
  | .ecdsaSignSlotCurve item => Sys2Proof.Machine.execEcdsaSignSlotCurve item s
  | .ecdsaVerifySlotCurve item => Sys2Proof.Machine.execEcdsaVerifySlotCurve item s
  | .mlDsa65Sign item => Sys2Proof.Machine.execMlDsa65Sign item s
  | .mlDsa65Verify item => Sys2Proof.Machine.execMlDsa65Verify item s
  | .mlKem768Encapsulate item => Sys2Proof.Machine.execMlKem768Encapsulate item s
  | .mlKem768Decapsulate item => Sys2Proof.Machine.execMlKem768Decapsulate item s
  | .modularExponentiation item => Sys2Proof.Machine.execModularExponentiation item s
  | .commit item => Sys2Proof.Machine.execCommit item s
  | .recordCommitted seq => Sys2Proof.Machine.execRecordCommitted seq s
  | .commitWaitLate seq => Sys2Proof.Machine.execCommitWaitLate seq s
  | .localWrite => Sys2Proof.Machine.execLocalWrite s
  | .localWriteEnd => Sys2Proof.Machine.execLocalWriteEnd s
  | .fuaWriteFailure port => Sys2Proof.Machine.execFuaWriteFailure port s
  | .recordReadEnd slot found => Sys2Proof.Machine.execRecordReadEnd slot found s
  | .indexCheckpoint => Sys2Proof.Machine.execIndexCheckpoint s
  | .scrub => Sys2Proof.Machine.execScrub s
  | .scrubTimer => Sys2Proof.Machine.execScrubTimer s
  | .scrubEnd => Sys2Proof.Machine.execScrubEnd s
  | .compact => Sys2Proof.Machine.execCompact s
  | .compactionEnd => Sys2Proof.Machine.execCompactionEnd s
  | .adopt => Sys2Proof.Machine.execAdopt s
  | .adoptEnd code => Sys2Proof.Machine.execAdoptEnd code s
  | .format => Sys2Proof.Machine.execFormat s
  | .formatEnd code => Sys2Proof.Machine.execFormatEnd code s
  | .jnlSoftReset => Sys2Proof.Machine.execJnlSoftReset s
  | .fabricLinkLoss port => Sys2Proof.Machine.execFabricLinkLoss port s
  | .fabricLinkUp port => Sys2Proof.Machine.execFabricLinkUp port s
  | .frameRejected port => Sys2Proof.Machine.execFrameRejected port s
  | .malformedMessage port => Sys2Proof.Machine.execMalformedMessage port s
  | .hello port msg => Sys2Proof.Machine.execHello port msg s
  | .helloTimer => Sys2Proof.Machine.execHelloTimer s
  | .heartbeat port msg => Sys2Proof.Machine.execHeartbeat port msg s
  | .heartbeatTimer => Sys2Proof.Machine.execHeartbeatTimer s
  | .memberUnreachable member => Sys2Proof.Machine.execMemberUnreachable member s
  | .report port msg => Sys2Proof.Machine.execReport port msg s
  | .reportTimer => Sys2Proof.Machine.execReportTimer s
  | .memberLost member => Sys2Proof.Machine.execMemberLost member s
  | .replicate port msg => Sys2Proof.Machine.execReplicate port msg s
  | .ack port msg => Sys2Proof.Machine.execAck port msg s
  | .nak port msg => Sys2Proof.Machine.execNak port msg s
  | .read port msg => Sys2Proof.Machine.execRead port msg s
  | .readReply port msg => Sys2Proof.Machine.execReadReply port msg s
  | .holdQuery port msg => Sys2Proof.Machine.execHoldQuery port msg s
  | .holdReply port msg => Sys2Proof.Machine.execHoldReply port msg s
  | .originQuery port msg => Sys2Proof.Machine.execOriginQuery port msg s
  | .originReply port msg => Sys2Proof.Machine.execOriginReply port msg s
  | .resyncDigest port msg => Sys2Proof.Machine.execResyncDigest port msg s
  | .prepareChange => Sys2Proof.Machine.execPrepareChange s
  | .prepare port msg => Sys2Proof.Machine.execPrepare port msg s
  | .prepareResendTimer => Sys2Proof.Machine.execPrepareResendTimer s
  | .prepareAck port msg => Sys2Proof.Machine.execPrepareAck port msg s
  | .commitMessage port msg => Sys2Proof.Machine.execCommitMessage port msg s
  | .recoveryTakeover => Sys2Proof.Machine.execRecoveryTakeover s
  | .recover port msg => Sys2Proof.Machine.execRecover port msg s
  | .recoverReply port msg => Sys2Proof.Machine.execRecoverReply port msg s
  | .rollback port msg => Sys2Proof.Machine.execRollback port msg s
  | .gracedHoldExpiry src seq => Sys2Proof.Machine.execGracedHoldExpiry src seq s
  | .epochGraceEnd => Sys2Proof.Machine.execEpochGraceEnd s
  | .applyK => Sys2Proof.Machine.execApplyK s
  | .leave => Sys2Proof.Machine.execLeave s
  | .leaveEnd => Sys2Proof.Machine.execLeaveEnd s
  | .resync => Sys2Proof.Machine.execResync s
  | .resyncEnd => Sys2Proof.Machine.execResyncEnd s
  | .domSoftReset => Sys2Proof.Machine.execDomSoftReset s
  | .freeze => Sys2Proof.Machine.execFreeze s
  | .vfFrozen vf => Sys2Proof.Machine.execVfFrozen vf s
  | .save => Sys2Proof.Machine.execSave s
  | .blob port blob => Sys2Proof.Machine.execBlob port blob s
  | .blobAck port msg => Sys2Proof.Machine.execBlobAck port msg s
  | .restore => Sys2Proof.Machine.execRestore s
  | .claim port msg => Sys2Proof.Machine.execClaim port msg s
  | .claimReply port msg => Sys2Proof.Machine.execClaimReply port msg s
  | .claimTimeout => Sys2Proof.Machine.execClaimTimeout s
  | .unfreeze => Sys2Proof.Machine.execUnfreeze s
  | .discard => Sys2Proof.Machine.execDiscard s
  | .stubExpiry tenant pgen => Sys2Proof.Machine.execStubExpiry tenant pgen s
  | .openCommitQueryTimer => Sys2Proof.Machine.execOpenCommitQueryTimer s
  | .create vf => Sys2Proof.Machine.execCreate vf s
  | .activate vf => Sys2Proof.Machine.execActivate vf s
  | .drain vf => Sys2Proof.Machine.execDrain vf s
  | .drainEnd vf => Sys2Proof.Machine.execDrainEnd vf s
  | .destroy vf => Sys2Proof.Machine.execDestroy vf s
  | .vfAbsent vf => Sys2Proof.Machine.execVfAbsent vf s
  | .reclaim vf => Sys2Proof.Machine.execReclaim vf s
  | .reclaimEnd vf => Sys2Proof.Machine.execReclaimEnd vf s
  | .qpEnableWrite vf qp value => Sys2Proof.Machine.execQpEnableWrite vf qp value s
  | .qpDrain vf qp value => Sys2Proof.Machine.execQpDrain vf qp value s
  | .qpDrainEnd vf qp => Sys2Proof.Machine.execQpDrainEnd vf qp s
  | .qpErrorClear vf qp => Sys2Proof.Machine.execQpErrorClear vf qp s
  | .vfReset vf cause => Sys2Proof.Machine.execVfReset vf cause s
  | .vfEnableClear => Sys2Proof.Machine.execVfEnableClear s
  | .vfPageEnableWrite vf manager enable => Sys2Proof.Machine.execVfPageEnableWrite vf manager enable s
  | .poolWrite pool slots value => Sys2Proof.Machine.execPoolWrite pool slots value s
  | .send vf => Sys2Proof.Machine.execSend vf s
  | .take vf => Sys2Proof.Machine.execTake vf s
  | .post vf => Sys2Proof.Machine.execPost vf s
  | .m2tFree vf => Sys2Proof.Machine.execM2tFree vf s
  | .mbxSend => Sys2Proof.Machine.execMbxSend s
  | .mbxInFree => Sys2Proof.Machine.execMbxInFree s
  | .mbxSoftReset => Sys2Proof.Machine.execMbxSoftReset s
  | .openCeremony carrier body => Sys2Proof.Machine.execOpenCeremony carrier body s
  | .approve carrier ceremony body => Sys2Proof.Machine.execApprove carrier ceremony body s
  | .component carrier ceremony body => Sys2Proof.Machine.execComponent carrier ceremony body s
  | .transport carrier ceremony body => Sys2Proof.Machine.execTransport carrier ceremony body s
  | .cancelMessage carrier ceremony => Sys2Proof.Machine.execCancelMessage carrier ceremony s
  | .query carrier => Sys2Proof.Machine.execQuery carrier s
  | .unknownOlihildType carrier typ => Sys2Proof.Machine.execUnknownOlihildType carrier typ s
  | .enrolInitial => Sys2Proof.Machine.execEnrolInitial s
  | .enrol => Sys2Proof.Machine.execEnrol s
  | .rootGenerate => Sys2Proof.Machine.execRootGenerate s
  | .join => Sys2Proof.Machine.execJoin s
  | .sponsor => Sys2Proof.Machine.execSponsor s
  | .rootReplace => Sys2Proof.Machine.execRootReplace s
  | .keyImport => Sys2Proof.Machine.execKeyImport s
  | .tableApprove => Sys2Proof.Machine.execTableApprove s
  | .enterService => Sys2Proof.Machine.execEnterService s
  | .openMaintenance => Sys2Proof.Machine.execOpenMaintenance s
  | .returnCustody => Sys2Proof.Machine.execReturnCustody s
  | .compatSet => Sys2Proof.Machine.execCompatSet s
  | .replayRerun => Sys2Proof.Machine.execReplayRerun s
  | .zeroizeCeremony => Sys2Proof.Machine.execZeroizeCeremony s
  | .ceremonyWindowExpiry => Sys2Proof.Machine.execCeremonyWindowExpiry s
  | .closeMaint => Sys2Proof.Machine.execCloseMaint s
  | .cancel => Sys2Proof.Machine.execCancel s
  | .maintenanceLimitExpiry => Sys2Proof.Machine.execMaintenanceLimitExpiry s
  | .maintExpiring => Sys2Proof.Machine.execMaintExpiring s
  | .tamperEvent source detail => Sys2Proof.Machine.execTamperEvent source detail s
  | .tamperConditionEnd source => Sys2Proof.Machine.execTamperConditionEnd source s
  | .zeroizeNLow => Sys2Proof.Machine.execZeroizeNLow s
  | .zeroizationComplete => Sys2Proof.Machine.execZeroizationComplete s
  | .batterySamplingWindow found => Sys2Proof.Machine.execBatterySamplingWindow found s
  | .logRowBurnt torn => Sys2Proof.Machine.execLogRowBurnt torn s
  | .tampStickyClear bits => Sys2Proof.Machine.execTampStickyClear bits s
  | .faultEvent source held place => Sys2Proof.Machine.execFaultEvent source held place s
  | .faultWindowEnd source => Sys2Proof.Machine.execFaultWindowEnd source s
  | .escalationTimerExpiry source => Sys2Proof.Machine.execEscalationTimerExpiry source s
  | .faultAck source => Sys2Proof.Machine.execFaultAck source s
  | .pendingClear source => Sys2Proof.Machine.execPendingClear source s
  | .rearm => Sys2Proof.Machine.execRearm s
  | .fltCfgWrite source value => Sys2Proof.Machine.execFltCfgWrite source value s
  | .collectorSelfError which words counts hwm => Sys2Proof.Machine.execCollectorSelfError which words counts hwm s
  | .chainUnhealthy chain feedOk mv => Sys2Proof.Machine.execChainUnhealthy chain feedOk mv s
  | .chainHealthy chain mv => Sys2Proof.Machine.execChainHealthy chain mv s
  | .failoverEnd => Sys2Proof.Machine.execFailoverEnd s
  | .standbySelfTest pass => Sys2Proof.Machine.execStandbySelfTest pass s
  | .plannedSwitch => Sys2Proof.Machine.execPlannedSwitch s
  | .stateReqWrite value => Sys2Proof.Machine.execStateReqWrite value s
  | .ebbEntry => Sys2Proof.Machine.execEbbEntry s
  | .ebbWake => Sys2Proof.Machine.execEbbWake s
  | .ebbWakeEnd => Sys2Proof.Machine.execEbbWakeEnd s
  | .ebbWakeLate => Sys2Proof.Machine.execEbbWakeLate s
  | .startUp facts => Sys2Proof.Machine.execStartUp facts s
  | .pllLockLoss pll => Sys2Proof.Machine.execPllLockLoss pll s
  | .pllRelock pll => Sys2Proof.Machine.execPllRelock pll s
  | .burn => Sys2Proof.Machine.execBurn s
  | .burnEnd readBackOk => Sys2Proof.Machine.execBurnEnd readBackOk s
  | .perstNAssert => Sys2Proof.Machine.execPerstNAssert s
  | .perstNDeassert => Sys2Proof.Machine.execPerstNDeassert s
  | .perstLong => Sys2Proof.Machine.execPerstLong s
  | .vioOutOfRange => Sys2Proof.Machine.execVioOutOfRange s
  | .hostLinkChange gen requested idle => Sys2Proof.Machine.execHostLinkChange gen requested idle s
  | .ideIntegrityFailure => Sys2Proof.Machine.execIdeIntegrityFailure s
  | .drbgReseed drbg => Sys2Proof.Machine.execDrbgReseed drbg s
  | .rngHealthFail latch proportion => Sys2Proof.Machine.execRngHealthFail latch proportion s
  | .biasLoopLimit => Sys2Proof.Machine.execBiasLoopLimit s
  | .req => Sys2Proof.Machine.execReq s
  | .reqTimeout => Sys2Proof.Machine.execReqTimeout s
  | .testPatternWrite value => Sys2Proof.Machine.execTestPatternWrite value s
  | .counterGrantWrite vf grant => Sys2Proof.Machine.execCounterGrantWrite vf grant s
  | .counterEventWrite vf counter value => Sys2Proof.Machine.execCounterEventWrite vf counter value s
  | .cntSoftReset => Sys2Proof.Machine.execCntSoftReset s
  | .captureWrite value => Sys2Proof.Machine.execCaptureWrite value s
  | .exportBlob => Sys2Proof.Machine.execExportBlob s
  | .exportEnd hostOk => Sys2Proof.Machine.execExportEnd hostOk s
  | .rplSoftReset => Sys2Proof.Machine.execRplSoftReset s
  | .accessViolation cls kind addr => Sys2Proof.Machine.execAccessViolation cls kind addr s
  | .regionWrite region reg value => Sys2Proof.Machine.execRegionWrite region reg value s
  | .rotate => Sys2Proof.Machine.execRotate s
  | .rotationEnd => Sys2Proof.Machine.execRotationEnd s
  | .rewrapEnd => Sys2Proof.Machine.execRewrapEnd s
  | .sidebandTransaction smbus assign data => Sys2Proof.Machine.execSidebandTransaction smbus assign data s
  | .spdmMessage sideband supported data => Sys2Proof.Machine.execSpdmMessage sideband supported data s
  | .pldmMessage monitoring readsEvent data => Sys2Proof.Machine.execPldmMessage monitoring readsEvent data s
  | .alertResponseAddressRead won => Sys2Proof.Machine.execAlertResponseAddressRead won s
  | .sdaStuck35ms => Sys2Proof.Machine.execSdaStuck35ms s
  | .sdaStuck70ms => Sys2Proof.Machine.execSdaStuck70ms s
  | .sclStuck => Sys2Proof.Machine.execSclStuck s
  | .alertBlocked => Sys2Proof.Machine.execAlertBlocked s
  | .alertHigh => Sys2Proof.Machine.execAlertHigh s
  | .sideSoftReset => Sys2Proof.Machine.execSideSoftReset s
  | .softReset page => Sys2Proof.Machine.execSoftReset page s
  | .softResetEnd page => Sys2Proof.Machine.execSoftResetEnd page s
  | .loRegisterRead cls addr => Sys2Proof.Machine.execLoRegisterRead cls addr s
  | .readClear cls addr => Sys2Proof.Machine.execReadClear cls addr s
  | .snapHoldWrite cls page hold => Sys2Proof.Machine.execSnapHoldWrite cls page hold s
  | .interruptRegisterWrite page enable value => Sys2Proof.Machine.execInterruptRegisterWrite page enable value s
  | .unmappedMmioAccess addr write => Sys2Proof.Machine.execUnmappedMmioAccess addr write s
  | .registerWrite cls addr be value => Sys2Proof.Machine.execRegisterWrite cls addr be value s
  | .recoverResendTimer => Sys2Proof.Machine.execRecoverResendTimer s
  | .otherPortResend seq => Sys2Proof.Machine.execOtherPortResend seq s
  | .engineGroupGated group => Sys2Proof.Machine.execEngineGroupGated group s
  | .vfEnableSet numVfs => Sys2Proof.Machine.execVfEnableSet numVfs s
  | .msixTableWrite fn vector word value => Sys2Proof.Machine.execMsixTableWrite fn vector word value s
  | .refclkChange ok => Sys2Proof.Machine.execRefclkChange ok s
  | .packageOscillatorChange ok => Sys2Proof.Machine.execPackageOscillatorChange ok s
  | .vioInRange => Sys2Proof.Machine.execVioInRange s
  | .biasLoopInRange => Sys2Proof.Machine.execBiasLoopInRange s
  | .drbgReseedEnd drbg => Sys2Proof.Machine.execDrbgReseedEnd drbg s
  | .i3cSdaRise => Sys2Proof.Machine.execI3cSdaRise s
  | .noFrameVerified1ms port => Sys2Proof.Machine.execNoFrameVerified1ms port s

end Sys2Proof.Machine
end

