-- ==== Sys2Proof/Safety.lean ====
section
/-! DEFINITION. What statements about the block are made of: a command that completes, and what it leaves behind. -/

namespace Sys2Proof

open Machine

/-- A command completes: exec answers a next state whose queue is the old one, and whose device has a property. -/
def Does (c : Instr) (s : State) (P : Device → Prop) : Prop :=
  ∃ t : State, exec c s = .next t ∧ t.pending = s.pending ∧ P t.dev

namespace Machine

/-- The memories that a command may not touch but by its own business: the settings antifuse and its burn, the tamper log, and
the table staging window. -/
structure Guarded where
  otp : Table Bytes
  burn : Option (Nat × Nat)
  rows : Table Row
  nextRow : Nat
  staging : Table Byte

def Device.guarded (d : Device) : Guarded :=
  { otp := d.power.otp, burn := d.power.burn, rows := d.tamp.rows, nextRow := d.tamp.nextRow, staging := d.units.staging }

/-- The form of the guarded memories: the staging window canonical, the log's rows and the antifuse's slots in rising order, no
row at the next row or above it, and a burn that runs has a blank slot before it (14_tamper.md R627; 16_power_clocks_startup.md
R680). -/
structure Device.inForm (d : Device) : Prop where
  staging : Table.wf 0 d.units.staging
  rows : (d.tamp.rows.map Prod.fst).Pairwise (· < ·)
  below : ∀ e ∈ d.tamp.rows, e.1 < d.tamp.nextRow
  slots : (d.power.otp.map Prod.fst).Pairwise (· < ·)
  burn : ∀ g n, d.power.burn = some (g, n) → n < 4 ∧ d.power.blank g n = true

/-- Every row of the tamper log that d has is in t, and every slot of the settings antifuse that is not blank in d reads the same
in t. -/
def Device.burntStays (d t : Device) : Prop :=
  (∀ k r, d.tamp.rows.find? k = some r → t.tamp.rows.find? k = some r) ∧
  ∀ g n, n < 4 → d.power.blank g n = false → t.power.slotBytes g n = d.power.slotBytes g n

/-- ZEROIZED, with no ceremony open: what a zeroization leaves until the next start-up (13_modes_custody.md R572, R582). -/
def Device.sealed (d : Device) : Prop := d.cust.mode = .zeroized ∧ d.cust.ceremony = none

/-- What a command shows the outside within the present cycle: an event of a fault source, something sent. -/
inductive Sign where
  | event (source : Nat)
  | sent (o : Output)
deriving DecidableEq, Repr

/-- A sign among a cycle's events and what has left the device. -/
def signIn (c : Cyc) (out : List Output) : Sign → Prop
  | .event s => c.events.mem s = true
  | .sent o => o ∈ out

/-- The device has given a sign. -/
def Device.gave (d : Device) (w : Sign) : Prop := signIn d.pages.cyc d.out w

/-- Two devices that differ in registers and their bookkeeping, in what was sent, and in the MSI-X tables at most. -/
def Device.onlyRegs (d t : Device) : Prop :=
  t = { d with pages := t.pages, out := t.out, front := { d.front with msix := t.front.msix } }

/-- Every register outside a list reads as before. -/
def Device.regsBut (d t : Device) (l : List Nat) : Prop := ∀ a, a ∉ l → t.reg a = d.reg a

/-- Item n has completed without output: its completion carries a status and a detail, and waits for the writer. -/
def Device.ended (t : Device) (n : Nat) (st : Status) (k : Nat) : Prop :=
  ∃ y, t.item n = some y ∧ y.stage = .finished ∧ y.comp = some (Comp.plain st k)

/-- Item n stands at a stage. -/
def Device.standsAt (t : Device) (n : Nat) (g : Stage) : Prop := ∃ y, t.item n = some y ∧ y.stage = g

/-- What admission decided of item n, and the DELAY it measured (03_host_queues.md R100, R103). -/
def Device.judged (t : Device) (n : Nat) (a : Admit) (delay : Nat) : Prop :=
  ∃ y, t.item n = some y ∧ y.adm.decided = some a ∧ y.adm.delay = delay

/-- Where item n stands in t, once all that its operands let an item y of no bundle do is done (08_scheduler.md R337): it
waits on, it is ready at its level, or it completes MODE because the gates of d are shut. -/
def Device.settled (d t : Device) (n : Nat) (y : Item) : Prop :=
  if y.operandsIn = false ∨ y.needsSession = true then t.item n = some y
  else if d.gatesShut = true ∧ y.current.diagnostics = false then t.ended n .mode 0
  else t.item n = some { y with stage := .ready, level := y.readyLevel }

/-- Two devices that differ in work items, delay lists and yield requests at most. -/
def Device.onlySched (d t : Device) : Prop :=
  t = { d with sched := t.sched, units := { d.units with pairs := t.units.pairs } }

/-- The command c computes what the run of item n stages in its release gate: where item n runs, nothing is staged yet, the run
stands on a unit that computes, and p holds, f gives the staged outputs, a lane runs the item's table, and its comparisons that
differ are the item's; else c does nothing. -/
def Stages (c : Instr) (n : Nat) (p : Device → Item → Prop) (f : Device → Item → Device × Item × Staged) : Prop :=
  ∀ s, Does c s fun t =>
    let ready := fun x : Item => s.dev.item n = some x ∧ x.stage = .running ∧ x.run.staged = none ∧ s.dev.onUnit x = true ∧ p s.dev x
    (∀ x, ready x → ∀ e y o w k, f s.dev x = (e, y, o) → e.runLane y = (w, k) →
      t = w.setItem n { y with run := { y.run with staged := some o, differs := y.run.differs + k } }) ∧
    ((∀ x, ¬ready x) → t = s.dev)

/-- As Stages, of a command that may have to come again before the outputs are computed: where f gives none, the run goes on. -/
def MayStage (c : Instr) (n : Nat) (p : Device → Item → Prop) (f : Device → Item → Device × Item × Option Staged) : Prop :=
  ∀ s, Does c s fun t =>
    let ready := fun x : Item => s.dev.item n = some x ∧ x.stage = .running ∧ x.run.staged = none ∧ s.dev.onUnit x = true ∧ p s.dev x
    (∀ x, ready x → ∀ e y, f s.dev x = (e, y, none) → t = e.setItem n y) ∧
    (∀ x, ready x → ∀ e y o w k, f s.dev x = (e, y, some o) → e.runLane y = (w, k) →
      t = w.setItem n { y with run := { y.run with staged := some o, differs := y.run.differs + k } }) ∧
    ((∀ x, ¬ready x) → t = s.dev)

/-- The command c computes what a run of item n stages that creates a key by service k: it waits while a version of KEY_B's key is in
flight; unless this store or the item's lookup knows whether the tenant holds the key, or there is no peer to ask, the peers of its
placement are asked first; then f gives the staged outputs, or goes on. -/
def CreatesKey (c : Instr) (n k : Nat) (f : Device → Item → Device × Item × Option Staged) : Prop :=
  ∀ s, Does c s fun t =>
    let d := s.dev
    let id := fun x : Item => bitsOf x.current.keyB 63 24
    let runs := fun x : Item => d.item n = some x ∧ x.stage = .running ∧ x.run.staged = none ∧ d.onUnit x = true ∧
      x.current.bundle = false ∧ x.current.service = k ∧ d.versionsInFlight (d.tenantOf x) (id x) (some n) = []
    let first := fun x => keyIdent (d.tenantOf x) (id x) 1 0
    let known := fun x : Item => d.keyVersions (d.tenantOf x) (id x) ≠ [] ∨ x.ops.cleared = true ∨ x.ops.found ≠ [] ∨ d.readMembers (first x) = []
    ((∀ x, ¬runs x) → t = d) ∧
    ∀ x, runs x →
      (¬known x → t = d.peerRead (probeKey n) (first x) false) ∧
      (known x → ∀ e y, f d x = (e, y, none) → t = e.setItem n y) ∧
      (known x → ∀ e y o w j, f d x = (e, y, some o) → e.runLane y = (w, j) →
        t = w.setItem n { y with run := { y.run with staged := some o, differs := y.run.differs + j } })

/-- The command c hears a message m of type k on port p: act is what a module does with it once it stands in a domain, its fabric
is on, the port has a link, the message bears its domain's tag and is meant for it, and the epoch checks of a graced message let
it through (11_jochevy_domain.md R468 to R475). -/
def Hears (c : Instr) (p k : Nat) (m : Msg) (act : Device → Device) : Prop :=
  ∀ s, Does c s fun t =>
    let d := s.dev
    let w := d.dom.view
    let listens := m.typ = k ∧ w.inDomain = true ∧ d.fabricOn = true ∧ d.dom.portUp.getD p false = true
    let tagged := m.domainTag = domainTag w.domainId
    let mine := m.mcast = true ∨ m.dst = w.moduleId
    let e := if m.viaStub then d.countEvent none 0x22 1 else d.heard p m
    (¬listens → t = d) ∧
    (listens → ¬tagged → t = d.fault 194) ∧
    (listens → tagged → ¬mine → t = d) ∧
    (listens → tagged → mine → gracedType k = false → t = act e) ∧
    (listens → tagged → mine → gracedType k = true → epochNewer m.epoch e.dom.view.epoch = true →
      t = e.mapDom fun x => { x with held := x.held ++ [m] }) ∧
    (listens → tagged → mine → gracedType k = true → epochNewer m.epoch e.dom.view.epoch = false → e.epochServed m.epoch = true →
      t = act e) ∧
    (listens → tagged → mine → gracedType k = true → epochNewer m.epoch e.dom.view.epoch = false → e.epochServed m.epoch = false →
      t = e.answerEpoch m 0x21)

/-- Registers that a write reaches by the access types of their fields alone: no command, no gate, no pending value. -/
def plainAt (p : Page) (off : Nat) : Bool :=
  decide (0x40 ≤ off) && match p with
  | .dev | .clk | .side => true
  | .pwr => off != Off.pwrCtrl
  | .tamp => off != Off.tampSticky
  | .rng => off != Off.rngCtrl && off != Off.rngHostCmd
  | .key => off != Off.keyCmd
  | .jnl => off != Off.jnlCmd
  | .sched => off != Off.tblCmd
  | .cust => off != Off.custCmd
  | _ => false

end Machine

end Sys2Proof
end

