-- ==== Sys2Proof/Certificates/Slice0/Obligations.lean ====
section
/-! DEFINITION. The statements for the provers. Does c s P (Sys2Proof/Safety.lean) says that the command c completes at s: exec
answers a next state that keeps the queue, and P holds of its device. -/

open Sys2Proof Sys2Proof.Machine

/-- A step is the command at the front of the queue, run on the rest. For every command c, queue rest cs and device d: step
of the state with c at the front of its queue is exec of c on the state with the queue's rest. (95_what_each_step_holds.md).
-/
def Obligations.StepRunsFrontCommand : Prop :=
  ∀ (c : Instr) (cs : List Instr) (d : Device), step { pending := c :: cs, dev := d } = exec c { pending := cs, dev := d }

/-- Every command, in every state, answers a next state and keeps the queue. For every command and state exec answers a next
state whose queue is the queue it was given; no command faults or is refused. (95_what_each_step_holds.md). -/
def Obligations.EveryCommandAnswersNext : Prop :=
  ∀ (c : Instr) (s : State), Does c s fun _ => True

/-- An empty queue: one SYS cycle goes by (the model's choice, log entry 1). The model's choice (log entry 1): step on an
empty queue answers the state with the cycle count one higher and the bookkeeping of the past cycle empty, and everything
else as before. (95_what_each_step_holds.md). -/
def Obligations.IdleStepPassesOneCycle : Prop :=
  ∀ d : Device, ∃ t : Device, step { pending := [], dev := d } = .next { pending := [], dev := t } ∧
    t = { d with cycle := d.cycle + 1, pages := { d.pages with cyc := t.pages.cyc } } ∧
    (∀ s, t.pages.cyc.events.mem s = false) ∧ ∀ a, t.reg a = d.reg a

/-- A lost write adds one to WRITE_LOST of its page, up to 255, and changes no other register. What the other statements
call writeLost: the WRITE_LOST field of the page that holds the address counts one event and stays at 255 (R42, R53); every
other register and the rest of the device keep their value. (02_register_convention.md). -/
def Obligations.WriteLostCounts : Prop :=
  ∀ (d : Device) (a : Nat),
    (d.writeLost a).field (a / 0x1000 * 0x1000 + 0x0C) 23 16 = min (d.field (a / 0x1000 * 0x1000 + 0x0C) 23 16 + 1) 255 ∧
    d.regsBut (d.writeLost a) [a / 0x1000 * 0x1000 + 0x0C] ∧ d.writeLost a = { d with pages := (d.writeLost a).pages }

/-- UNMAPPED_MMIO_ACCESS: a reserved or unused offset reads zero, ignores a write, and counts on source 210. At a reserved
offset of a BAR, an unused offset of a page, or a window or doorbell of a queue pair that the VF does not have (R28, R30,
R35), in a BAR0 that is there, the access reports an event of source 210, a read sends zero, and an access inside a VF BAR0
counts against that VF; anywhere else the command has no effect. Power, lanes, tables and queue pairs are untouched either
way. (01_architecture.md, 02_register_convention.md). -/
def Obligations.UnmappedAccess : Prop :=
  ∀ (a : Nat) (write : Bool) (s : State), Does (.unmappedMmioAccess a write) s fun t =>
    if s.dev.reserved a = true ∧ ∀ v, vfAt a = some v → s.dev.exposed v = true then
      t.gave (.event 210) ∧ (write = false → ∃ cls, t.gave (.sent (.value cls a 0))) ∧
      (∀ v, vfAt a = some v → (t.vf v).unmapped = (s.dev.vf v).unmapped + 1) ∧ t.power = s.dev.power
        ∧ t.units = s.dev.units ∧ t.front.qps = s.dev.front.qps
    else t = s.dev

/-- LO_REGISTER_READ and READ_CLEAR: a read sends the value, captures a _HI partner and clears RC fields; windows. A read
that is performed at a register that exists sends the register's bytes from the address on to its class (R34); a _LO
register captures its _HI partner for that class (R54); an RC register then reads zero (R36); every other register, and
everything outside the registers, keeps its value. A read of a window sends what the window reads as (R27, R29) and changes
nothing else; a class that does not reach the address, and memory behind the pages, change nothing; a refused read is a
violation (R744). (02_register_convention.md). -/
def Obligations.RegisterRead : Prop :=
  ∀ (cls : Fin 16) (a : Nat) (clear : Bool) (s : State),
    Does (if clear then .readClear cls a else .loRegisterRead cls a) s fun t =>
      let r := a / 4 * 4
      let there := s.dev.reach cls 0 a = .performed ∧ behindPages cls r = false ∧ s.dev.reserved r = false
      (s.dev.reach cls 0 a = .nowhere ∨ (s.dev.reach cls 0 a = .performed ∧ behindPages cls r = true) → t = s.dev) ∧
      (s.dev.reach cls 0 a = .refused → t = s.dev.violation cls 0 a) ∧
      (there → windowAt r = true → t = s.dev.emit (.value cls a (s.dev.windowValue cls r / 256 ^ (a % 4)))) ∧
      (there → windowAt r = false →
        t.gave (.sent (.value cls a (s.dev.readResult cls r / 256 ^ (a % 4)))) ∧ s.dev.regsBut t [r] ∧
        (rcAt r = false → t.reg r = s.dev.reg r) ∧
        (rcAt r = true → s.dev.pageResetting r = false → s.dev.pages.cyc.rcOld.has r = false →
          ∀ i, i < 32 → t.bit r i = false) ∧
        (∀ p n, pageAt r = some (p, n) → p.loAt n (r % 0x1000) = true → 0x40 ≤ r % 0x1000 → s.dev.pageResetting r = false →
          t.pages.hiCap.get 0 (classKey cls (r + 4)) = BitVec.ofNat 32 (s.dev.shown (r + 4))) ∧
        t = { s.dev with pages := t.pages, out := t.out })

/-- SNAP_HOLD_WRITE: HOLD captures the progress set for its class, and a release drops it. Where the access table performs
the write to a page that is neither locked, nor being reset, nor returned to reset in this cycle (R41, R48), HOLD = 1 keeps
the progress set as it stands for the writing class alone (R57), HOLD = 0 drops that class's set; no register and nothing
outside the pages changes. A write to a locked page or one being reset is lost. (02_register_convention.md). -/
def Obligations.SnapHold : Prop :=
  ∀ (cls : Fin 16) (b : Nat) (hold : Bool) (s : State), Does (.snapHoldWrite cls b hold) s fun t =>
    (pageAt b = none ∨ b % 0x1000 ≠ 0 → t = s.dev) ∧
    ((pageAt b).isSome = true → b % 0x1000 = 0 → s.dev.reach cls 1 b = .performed →
      if s.dev.writeBarred b = true ∨ s.dev.pageLocked b = true then t = s.dev.writeLost b
      else t.snap cls b = (if hold then s.dev.progSet b else Snap.initial) ∧
        (∀ k, k ≠ classKey cls b → t.pages.snaps.get Snap.initial k = s.dev.pages.snaps.get Snap.initial k) ∧
        (∀ a, t.reg a = s.dev.reg a) ∧ t = { s.dev with pages := t.pages })

/-- INTERRUPT_REGISTER_WRITE: INT_EN takes the value, INT_RAW bits clear, and a nonzero INT_STAT signals again. At a page
that is there: a write of INT_EN to a page that is not locked, and whose registers are not barred (R41, R48), takes all 32
bits; a write of 1s to INT_RAW clears those bits but for bits that hardware set in the same cycle (R37); no other register
changes; if INT_STAT is nonzero after the write the page's message goes out or stays pending on its MSI-X entry (R44).
Elsewhere the command has no effect. (02_register_convention.md). -/
def Obligations.InterruptRegisters : Prop :=
  ∀ (b : Nat) (enable : Bool) (v : Word) (s : State), Does (.interruptRegisterWrite b enable v) s fun t =>
    if s.dev.pageHere b = false then t = s.dev
    else if s.dev.writeBarred b = true ∨ (enable = true ∧ s.dev.pageLocked b = true) then t = s.dev.writeLost b
    else
      s.dev.regsBut t [b + (if enable then 0x14 else 0x10)] ∧ s.dev.onlyRegs t ∧
      (enable = true → ∀ i, i < 32 → t.bit (b + 0x14) i = v.toNat.testBit i) ∧
      (enable = false → ∀ i, i < 32 → t.bit (b + 0x10) i =
        (s.dev.bit (b + 0x10) i && !(v.toNat.testBit i && !(s.dev.pages.cyc.hwSet.get 0 (b + 0x10)).testBit i))) ∧
      (t.intStat b ≠ 0 → ∀ p n, pageAt b = some (p, n) →
        let fn := match p.vector with | some _ => 0 | none => n + 1
        let vec := match p.vector with | some k => k | none => 64
        t.gave (.sent (.msix fn vec)) ∨ (t.front.msix.get Msix.initial (msixKey fn vec)).pending = true)

/-- MSIX_TABLE_WRITE: the entry takes the word, and a vector freed to signal sends what it kept pending. A write to an entry
of the PF's table (32 vectors) or of an exposed VF's (65 vectors, R27, R29): the addressed word of the entry takes the value
and the withholding of a parity error ends; the other words keep theirs; a message kept pending goes out if the entry is
then unmasked; every other entry, every register, the queue pairs and the VFs keep their state. (01_architecture.md,
15_faults.md). -/
def Obligations.MsixTable : Prop :=
  ∀ (fn vec : Nat) (word : Fin 4) (v : Word) (s : State), Does (.msixTableWrite fn vec word v) s fun t =>
    if (fn = 0 ∧ vec < 32) ∨ (fn ≠ 0 ∧ vec < 65 ∧ s.dev.exposed (fn - 1) = true) then
      let e := s.dev.front.msix.get Msix.initial (msixKey fn vec)
      let e' := t.front.msix.get Msix.initial (msixKey fn vec)
      e'.withheld = false ∧
      e'.addr % 2 ^ 32 = (if word = 0 then v.toNat else e.addr % 2 ^ 32) ∧
      e'.addr / 2 ^ 32 = (if word = 1 then v.toNat else e.addr / 2 ^ 32) ∧
      e'.data = (if word = 2 then v.toNat else e.data) ∧
      e'.masked = (if word = 3 then v.toNat.testBit 0 else e.masked) ∧
      (e.pending = true → e'.masked = false → t.gave (.sent (.msix fn vec)) ∧ e'.pending = false) ∧
      (∀ k, k ≠ msixKey fn vec → t.front.msix.get Msix.initial k = s.dev.front.msix.get Msix.initial k) ∧
      t = { s.dev with out := t.out, causes := t.causes, front := { s.dev.front with msix := t.front.msix } }
    else t = s.dev

/-- REGISTER_WRITE: what does not reach the register. A register write that reaches no page (a class that does not reach the
address, memory behind the pages, a window that is there) has no effect; one that the access table refuses reports source
235 (class 2) or 236; one to a reserved or unused offset reports source 210 (R28, R30, R35); one with fewer than four byte
enables (R34), to a page whose soft reset runs (R48) or to a field that an event returned to reset in this cycle (R41) is
lost and counted. (02_register_convention.md, 19_interconnect_access.md, 01_architecture.md). -/
def Obligations.RegisterWriteRefused : Prop :=
  ∀ (cls : Fin 16) (a : Nat) (be : BitVec 4) (v : Word) (s : State), Does (.registerWrite cls a be v) s fun t =>
    let r := a / 4 * 4
    (s.dev.reach cls 1 a = .nowhere → t = s.dev) ∧
    (s.dev.reach cls 1 a = .refused → t.gave (.event (if cls.val = 2 then 235 else 236)) ∧ t.power = s.dev.power) ∧
    (s.dev.reach cls 1 a = .performed → behindPages cls r = true ∨ (windowAt r = true ∧ s.dev.reserved a = false) → t = s.dev) ∧
    (s.dev.reach cls 1 a = .performed → behindPages cls r = false →
      (s.dev.reserved a = true → (∀ w, vfAt a = some w → s.dev.exposed w = true) → t.gave (.event 210) ∧ t.power = s.dev.power) ∧
      (s.dev.reserved a = false → windowAt r = false → (pageAt r).isSome = true →
        be ≠ 0xF ∨ a % 4 ≠ 0 ∨ s.dev.writeBarred a = true → t = s.dev.writeLost a))

/-- REGISTER_WRITE: a plain register takes its RW bits, clears the W1C bits written 1, and keeps every other bit. At a
register that a full-word write reaches by access type alone (no CNT field, page not locked): each RW bit takes the written
bit, each HWS_W1C bit written 1 clears unless hardware set it in the same cycle (R36, R37), every other bit, every other
register and everything else keep their value. While the page is locked the RW bits keep theirs and the write is counted as
lost (R51). (02_register_convention.md). -/
def Obligations.RegisterWriteFields : Prop :=
  ∀ (cls : Fin 16) (a : Nat) (v : Word) (p : Page) (n : Nat) (s : State), Does (.registerWrite cls a 0xF v) s fun t =>
    windowAt a = false → a % 4 = 0 → s.dev.reach cls 1 a = .performed → behindPages cls a = false → s.dev.reserved a = false →
    s.dev.writeBarred a = false → pageAt a = some (p, n) → plainAt p (a % 0x1000) = true →
    (∀ f ∈ fieldsAt a, f.acc ≠ .cnt) →
    let rw := accMask (fieldsAt a) .rw
    let w1 := accMask (fieldsAt a) .w1c
    let lost := s.dev.pageLocked a && decide (rw ≠ 0)
    (∀ i, i < 32 → t.bit a i =
      if rw.testBit i && !lost then v.toNat.testBit i && !(w1.testBit i && v.toNat.testBit i && !(s.dev.pages.cyc.hwSet.get 0 a).testBit i)
      else s.dev.bit a i && !(w1.testBit i && v.toNat.testBit i && !(s.dev.pages.cyc.hwSet.get 0 a).testBit i)) ∧
    (lost = false → s.dev.regsBut t [a]) ∧
    (lost = true → s.dev.regsBut t [a, pageBase a + 0x0C] ∧
      t.field (pageBase a + 0x0C) 23 16 = min (s.dev.field (pageBase a + 0x0C) 23 16 + 1) 255) ∧
    t = { s.dev with pages := t.pages }

/-- CNT, RPL, SIDE and MBX soft resets: BUSY, an aborted operation, and what each page clears. A soft reset of the CNT, RPL,
SIDE or MBX page is lost and counted while one runs (R48), in the cycle of a return of its register (R41), or while the page
is locked (R49). Otherwise the page reads as being reset and its request bit is 1 (R47); a running operation's STATE is
ABORTED; the CNT page's counters, event selections and overflow bits read 0; a running export of the RPL page ends; the SIDE
page's bus state clears; the MBX page's frames are discarded and IN_VALID is 0. (02_register_convention.md,
18_counters_replay.md, 20_electrical_package.md, 12_tenancy.md). -/
def Obligations.SoftResets : Prop :=
  ∀ (s : State) (row : Fin 4),
    let b := [0x12000, 0x13000, 0x15000, 0x16000].getD row 0
    Does ([Instr.cntSoftReset, .rplSoftReset, .sideSoftReset, .mbxSoftReset].getD row .cntSoftReset) s fun t =>
      if s.dev.writeBarred (b + 8) = true ∨ s.dev.bit (b + 8) 2 = true then t = s.dev.writeLost b
      else
        t.pages.resetting.mem b = true ∧ (∀ k, k ≠ b → t.pages.resetting.mem k = s.dev.pages.resetting.mem k) ∧
        t.bit (b + 8) 1 = true ∧ t.power = s.dev.power ∧ t.sched = s.dev.sched ∧ t.units = s.dev.units ∧ t.keys = s.dev.keys
        ∧ t.store = s.dev.store ∧ t.dom = s.dev.dom ∧ t.tamp = s.dev.tamp ∧ t.sources = s.dev.sources
        ∧ t.front.qps = s.dev.front.qps ∧ t.front.vfs = s.dev.front.vfs ∧
        (row = 0 → ∀ c, c < 64 → t.reg (0x12100 + 4 * c) = 0 ∧ t.reg (0x12200 + 4 * c) = 0) ∧
        (row = 0 → t.reg 0x12040 = 0 ∧ t.reg 0x12044 = 0) ∧
        (row = 1 → t.exporting = none) ∧
        (row = 2 → t.field 0x15044 14 6 = 0 ∧ t.pins.sdaLow = 0) ∧
        (row = 3 → t.cust.partMbx = [] ∧ t.cust.framesIn = [] ∧ t.bit 0x16040 2 = false ∧
          ∀ a, 0x16400 ≤ a → a < 0x17000 → t.reg a = resetWord a)

/-- SOFT_RESET_END: the page is no longer being reset, its request bit is 0 and RESET_DONE is 1. Where a soft reset of the
page at that address runs, the page leaves the set of pages being reset, SOFT_RESET reads 0 and RESET_DONE 1 (R36, R45), and
on a page that is neither BN nor MBX no other register and nothing else changes; where none runs the command has no effect.
(02_register_convention.md). -/
def Obligations.SoftResetEnd : Prop :=
  ∀ (b : Nat) (s : State), Does (.softResetEnd b) s fun t =>
    if s.dev.pages.resetting.mem b = true then
      ((∀ n, pageAt b ≠ some (.bn, n)) ∧ (∀ n, pageAt b ≠ some (.mbx, n)) →
        t.pages.resetting.mem b = false ∧ (∀ k, k ≠ b → t.pages.resetting.mem k = s.dev.pages.resetting.mem k) ∧
        t.bit (b + 8) 1 = false ∧ t.bit (b + 8) 3 = true ∧ s.dev.regsBut t [b + 8] ∧ t = { s.dev with pages := t.pages }) ∧
      (∀ n, pageAt b = some (.bn, n) → (t.engine n).withdrawn = false) ∧
      (∀ n, pageAt b = some (.mbx, n) → t.pages.resetting.mem b = false)
    else t = s.dev

/-- SOFT_RESET at a page's address is the page's own soft reset, a VF reset on the pages of a VF, and nothing elsewhere.
SOFT_RESET completes: at the address of the CNT, RPL, SIDE, MBX, LC, BN, JNL or DOM page it has the effect of that page's
own soft-reset command; at a VFM or VF page that of a VF reset; at a page whose index allows no soft reset (R62, R64), and
at an address that begins no page, it has none. (02_register_convention.md, 12_tenancy.md). -/
def Obligations.SoftResetRows : Prop :=
  ∀ (b : Nat) (s : State), Does (.softReset b) s fun t =>
    (pageAt b = none ∨ b % 0x1000 ≠ 0 → t = s.dev) ∧
    (∀ p n, pageAt b = some (p, n) → b % 0x1000 = 0 →
      (p.soft = .no → t = s.dev) ∧
      (p = .cnt → exec .cntSoftReset s = s.done t) ∧ (p = .rpl → exec .rplSoftReset s = s.done t) ∧
      (p = .side → exec .sideSoftReset s = s.done t) ∧ (p = .mbx → exec .mbxSoftReset s = s.done t) ∧
      (p = .jnl → exec .jnlSoftReset s = s.done t) ∧ (p = .dom → exec .domSoftReset s = s.done t) ∧
      (∀ k : Fin 16, p = .lc → n = k → exec (.lcSoftReset k) s = s.done t) ∧
      (∀ k : Fin 32, p = .bn → n = k → exec (.bnSoftReset k) s = s.done t) ∧
      (∀ k : Fin 4096, p = .vfm → n = k → exec (.vfReset k 2) s = s.done t) ∧
      (∀ k : Fin 4096, p = .vf → n = k → exec (.vfReset k 1) s = s.done t))

/-- ACCESS_VIOLATION: a refused access reports its source, reads zero, drops the write or faults the fetch. An access of a
checked class inside the 40-bit address space that the access table does not grant reports source 235 (firmware, class 2) or
236, a read returns zero and a fetch faults in its core (R744); power, units and queue pairs keep their state. A granted or
unchecked access has no effect. (19_interconnect_access.md). -/
def Obligations.AccessViolations : Prop :=
  ∀ (cls : Fin 16) (kind : Fin 3) (a : Nat) (s : State), Does (.accessViolation cls kind a) s fun t =>
    if checkedClass cls = true ∧ a < 2 ^ 40 ∧ s.dev.accessGranted cls kind a = false then
      t.gave (.event (if cls.val = 2 then 235 else 236)) ∧ (kind = 0 → t.gave (.sent (.value cls a 0))) ∧
      (kind = 2 → t.gave (.sent (.fetchFault a))) ∧ t.power = s.dev.power ∧ t.units = s.dev.units ∧ t.front.qps = s.dev.front.qps
    else t = s.dev

/-- REGION_WRITE: performed in CUSTODY and MAINTENANCE, from the next SYS cycle on; every other write is lost. Outside
CUSTODY and MAINTENANCE, on a locked page, in the cycle of a return of the register (R41), to an enabled region (but for its
ATTR) and with a reserved bit or code set, the write is lost and counted (R748). A fixed region keeps its registers.
Otherwise the register holds the value's defined bits, one SYS cycle later (R746), and every other register and the rest of
the device keep theirs. (19_interconnect_access.md). -/
def Obligations.RegionWrites : Prop :=
  ∀ (i : Fin 256) (j : Fin 5) (v : Word) (s : State), Does (.regionWrite i j v) s fun t =>
    let a := regionReg i j
    let allowed := s.dev.cust.selected = true ∧ (s.dev.cust.mode = .custody ∨ s.dev.cust.mode = .maintenance)
    let refused := s.dev.writeBarred a = true ∨ s.dev.pageLocked a = true ∨ (j.val < 4 ∧ s.dev.bit (regionReg i 4) 31 = true) ∨
      ((j.val = 2 ∨ j.val = 3) ∧ v.toNat &&& 0x88888888 ≠ 0) ∨ (j.val = 4 ∧ (bitsOf v.toNat 5 4 = 3 ∨ bitsOf v.toNat 1 0 = 3))
    (¬allowed → t = s.dev.writeLost a) ∧
    (allowed → i.val < 16 → t = s.dev) ∧
    (allowed → 16 ≤ i.val → refused → t = s.dev.writeLost a) ∧
    (allowed → 16 ≤ i.val → ¬refused →
      (j.val < 2 → t.reg a = v.toNat % 2 ^ 28) ∧ (j.val = 2 ∨ j.val = 3 → t.reg a = v.toNat) ∧
      (j.val = 4 → t.reg a = v.toNat &&& 0x80000033) ∧ s.dev.regsBut t [a] ∧ t.cycle = s.dev.cycle + 1 ∧
      t = { s.dev with cycle := t.cycle, pages := t.pages })

/-- COUNTER_GRANT_WRITE and COUNTER_EVENT_WRITE: grants, the counters a fallen grant clears, and event selections. A grant
write to an unlocked VFM page sets the grant bits, and a counter whose grant falls reads zero in event, value and overflow
bit (R716); a counter whose grant does not fall keeps its event and value. A PF event selection takes a listed event, with
VF_ONLY only for tenant events, and is lost otherwise; a VF's takes a tenant event while the counter is granted, and is lost
otherwise (R712, R715). (18_counters_replay.md). -/
def Obligations.CounterWrites : Prop :=
  (∀ (v : Fin 4096) (g : BitVec 8) (s : State), Does (.counterGrantWrite v g) s fun t =>
    let a := Page.vfm.base v + Off.vfmCntGrant
    if s.dev.writeBarred a = true ∨ s.dev.pageLocked a = true then t = s.dev.writeLost a
    else t.reg a = g.toNat ∧
      (∀ c, c < 8 → (s.dev.field a 7 0).testBit c = true → g.toNat.testBit c = false →
        t.reg (Page.vcnt.base v + Off.vcntEvt + 4 * c) = 0 ∧ t.reg (Page.vcnt.base v + Off.vcntVal + 4 * c) = 0 ∧
        t.bit (Page.vcnt.base v + Off.vcntOvf) c = false) ∧
      (∀ c, c < 8 → (s.dev.field a 7 0).testBit c = false ∨ g.toNat.testBit c = true →
        t.reg (Page.vcnt.base v + Off.vcntEvt + 4 * c) = s.dev.reg (Page.vcnt.base v + Off.vcntEvt + 4 * c) ∧
        t.reg (Page.vcnt.base v + Off.vcntVal + 4 * c) = s.dev.reg (Page.vcnt.base v + Off.vcntVal + 4 * c)) ∧
      t = { s.dev with pages := t.pages }) ∧
  (∀ (c : Fin 64) (w : Word) (s : State), Does (.counterEventWrite none c w) s fun t =>
    let a := 0x12100 + 4 * c.val
    let e := w.toNat % 2 ^ 16
    if s.dev.writeBarred a = false ∧ s.dev.pageLocked a = false ∧ e ∈ tenantEvents ++ deviceEvents ∧
        (w.toNat.testBit 30 = true → e ∈ tenantEvents) then
      (∀ i, i < 32 → t.bit a i = (w.toNat.testBit i && !(i == 28 || i == 29))) ∧ s.dev.regsBut t [a] ∧
      t = { s.dev with pages := t.pages }
    else t = s.dev.writeLost a) ∧
  (∀ (v : Fin 4096) (c : Fin 64) (w : Word) (s : State), Does (.counterEventWrite (some v) c w) s fun t =>
    let a := Page.vcnt.base v + Off.vcntEvt + 4 * (c.val % 8)
    let e := w.toNat % 2 ^ 16
    if s.dev.writeBarred a = false ∧ s.dev.pageLocked a = false ∧ e ∈ tenantEvents ∧
        s.dev.bit (Page.vfm.base v + Off.vfmCntGrant) (c.val % 8) = true then
      t.reg a = e ∧ s.dev.regsBut t [a] ∧ t = { s.dev with pages := t.pages }
    else t = s.dev.writeLost a)

/-- CAPTURE_WRITE: the ring of the selected VF, and the writes that are lost. A write of RPL_CFG that switches capture on
for an ABSENT or DESTROYED VF, or past 4 GiB of rings, that changes INPUTS or SIZE while capture runs, or with a SIZE
outside 10 to 24, is lost (R733, R734). One that leaves a running capture on changes nothing. Every other gives the selected
VF an empty ring of that size with ITEM_SEQ at 0, and leaves every other VF's ring and the rest of the device as they were.
(18_counters_replay.md). -/
def Obligations.ReplayCapture : Prop :=
  ∀ (w : Word) (s : State), Does (.captureWrite w) s fun t =>
    let a := rplAt Off.rplCfg
    let v := s.dev.rplVf
    let r := s.dev.ring v
    let on := w.toNat.testBit 31
    let size := bitsOf w.toNat 4 0
    let freed := if r.capture = true then 96 * 2 ^ r.sizeLog2 else 0
    let refused := s.dev.writeBarred a = true ∨ s.dev.pageLocked a = true ∨
      (on = true ∧ ((s.dev.vf v).st = .absent ∨ (s.dev.vf v).st = .destroyed)) ∨
      (on = true ∧ 4096 * 2 ^ 20 < s.dev.ringBytes - freed + 96 * 2 ^ size) ∨
      (r.capture = true ∧ (size ≠ r.sizeLog2 ∨ w.toNat.testBit 30 ≠ r.inputs)) ∨ size < 10 ∨ 24 < size
    (refused → t = s.dev.writeLost a) ∧
    (¬refused → on = true → r.capture = true → t = s.dev) ∧
    (¬refused → ¬(on = true ∧ r.capture = true) →
      (t.ring v).capture = on ∧ (t.ring v).inputs = w.toNat.testBit 30 ∧ (t.ring v).sizeLog2 = size ∧ (t.ring v).units = [] ∧
      (t.ring v).next = 0 ∧ (∀ u, u ≠ v → t.ring u = s.dev.ring u) ∧ t = { s.dev with rings := t.rings })

/-- EXPORT_BLOB and EXPORT_END: the codes of R728, and the blob that reaches the host. EXPORT: lost while one runs; else it
ends at once with CODE 1, 2, 3, 5 or 7 in that order (R728), with DONE, or starts on the units of the range. EXPORT_END:
without a running export no effect; a failed host write ends it with CODE 0x04 and no header (R728); otherwise the blob's
body and then its header leave for the host address, EXP_LEN holds its length, and the export ends with CODE 0x00.
(18_counters_replay.md). -/
def Obligations.ReplayExport : Prop :=
  (∀ s : State, Does .exportBlob s fun t =>
    let d := s.dev
    let a := rplAt Off.rplCmd
    let r := d.ring d.rplVf
    let first := d.reg (rplAt Off.rplExpFirst)
    let asked := d.reg (rplAt Off.rplExpCount)
    let count := if asked = 0 then seqSpan first r.next else asked
    let units := r.range first count
    let code :=
      if d.bit (Page.vf.base d.rplVf + Off.vfCtrl) 0 = false then 1
      else if r.capture = false ∨ units = [] then 2
      else if d.reg (rplAt Off.rplCap) < 64 + 96 * (units.map fun u => u.records.length).sum then 3
      else if (r.units.head?.all fun u => decide (0 < seqSpan first u.seq)) = true then 5
      else if d.cust.mode ≠ .service ∧ d.cust.mode ≠ .maintenance then 7 else 0
    if d.writeBarred a = true ∨ d.exporting.isSome = true then t = d.writeLost a
    else if code = 0 then
      t.exporting = some { vf := d.rplVf, first := first, count := count, units := units } ∧ t.bit a 0 = true ∧
      d.regsBut t [a] ∧ t = { d with pages := t.pages, exporting := t.exporting }
    else
      t.field (rplAt Off.rplResult) 23 16 = code ∧ t.bit a 0 = false ∧ t.bit a 1 = true ∧ t.bit 0x13010 0 = true ∧
      t.exporting = none ∧ d.regsBut t [a, rplAt Off.rplResult, 0x13010] ∧ d.onlyRegs t) ∧
  (∀ (ok : Bool) (s : State), Does (.exportEnd ok) s fun t =>
    let d := s.dev
    (d.exporting = none → t = d) ∧
    (∀ e, d.exporting = some e →
      t.exporting = none ∧ t.field (rplAt Off.rplResult) 23 16 = (if ok then 0 else 4) ∧
      t.bit (rplAt Off.rplCmd) 0 = false ∧ t.bit (rplAt Off.rplCmd) 1 = true ∧ t.rings = d.rings ∧
      (ok = true →
        let blob := d.exportBlob e
        let at_ := d.reg (rplAt Off.rplAddrLo) + 2 ^ 32 * d.reg (rplAt Off.rplAddrHi)
        t.gave (.sent (.hostWrite (at_ + 0x40) (blob.drop 0x40))) ∧ t.gave (.sent (.hostWrite at_ (blob.take 0x40))) ∧
        t.field (rplAt Off.rplExpLen) 31 0 = blob.length % 2 ^ 32)))

/-- REQ and REQ_TIMEOUT: the host's random words, the code, DONE, and a shortage. REQ, while none waits and the page is not
being reset: in QUARANTINE and ZEROIZED it ends with CODE 2; in a shortage it waits in class 4 with its bit 1 (R704, R705);
otherwise it ends with CODE 0 (3 under the test pattern of MANUFACTURE). A REQ_TIMEOUT ends one that waits, with CODE 1 (2
in QUARANTINE and ZEROIZED); with none waiting it has no effect. An end clears the request bit, sets DONE and INT_RAW bit 1,
draws from the generator only when it gives data, and leaves everything but registers and the generator alone; the words it
gives are the next 32 bytes of the generator (R701). (17_random_numbers.md). -/
def Obligations.RngRequests : Prop :=
  let ended := fun (d t : Device) (code : Nat) =>
    t.field (rngAt Off.rngHostStat) 23 16 = code ∧ t.bit (rngAt Off.rngHostCmd) 0 = false ∧ t.bit (rngAt Off.rngHostCmd) 1 = true ∧
    t.bit 0x9010 1 = true ∧ (code = 1 ∨ code = 2 → t.rng = { d.rng with queue := d.rng.queue.filter fun q => q.cls != 4 } ∧ ∀ j, j < 8 → t.reg (rngAt Off.rngHostData + 4 * j) = 0) ∧
    (code = 0 ∨ code = 3 → t.rng.draws = d.rng.draws + 1 ∧ t.rng.insts = d.drawn.rng.insts ∧
      ∀ j, j < 8 → t.reg (rngAt Off.rngHostData + 4 * j) = leNat (slice (d.random 32) (4 * j) 4) % 2 ^ 32) ∧
    t = { d with pages := t.pages, out := t.out, rng := t.rng, front := { d.front with msix := t.front.msix } }
  (∀ s : State, Does .req s fun t =>
    let d := s.dev
    let a := rngAt Off.rngHostCmd
    let off := d.cust.mode = .quarantine ∨ d.cust.mode = .zeroized
    if d.writeBarred a = true then t = d.writeLost a
    else if d.bit a 0 = true then t = d
    else if off then ended d t 2
    else if d.rng.shortage = true then
      t.bit a 0 = true ∧ d.regsBut t [a] ∧ (∃ q ∈ t.rng.queue, q.cls = 4) ∧ t = { d with pages := t.pages, rng := { d.rng with queue := t.rng.queue } }
    else ended d t (if d.cust.mode = .manufacture ∧ d.bit (rngAt Off.rngCtrl) 0 = true then 3 else 0)) ∧
  (∀ s : State, Does .reqTimeout s fun t =>
    if s.dev.bit (rngAt Off.rngHostCmd) 0 = true then
      ended s.dev t (if s.dev.cust.mode = .quarantine ∨ s.dev.cust.mode = .zeroized then 2 else 1)
    else t = s.dev)

/-- DRBG reseeds, health-test failures, the bias loops and the test pattern. DRBG_RESEED makes an instance reseed, so that
it serves nothing; DRBG_RESEED_END seeds a reseeding instance from two conditioner outputs (R700), with its full count of
requests, and has no effect on another; a waiting REQ is then served (R705). A health failure adds one to its latch's count,
which stays at its maximum; the first of its kind in a tick sets INT_RAW bit 0 and reports source 60 (repetition) or 61
(proportion) (R698). BIAS_LOOP_LIMIT reports source 62 and holds its cause, BIAS_LOOP_IN_RANGE releases it. TEST_PATTERN
takes a 0 anywhere and a 1 in MANUFACTURE alone (R706); else the write is lost. (17_random_numbers.md). -/
def Obligations.RngSources : Prop :=
  (∀ (i : Fin 8) (s : State), Does (.drbgReseed i) s fun t =>
    (∀ x, s.dev.rng.insts[i.val]? = some x → t.rng.insts[i.val]? = some { x with requests := 65536, reseeding := true }) ∧
    (∀ j, j ≠ i.val → t.rng.insts[j]? = s.dev.rng.insts[j]?) ∧ t = { s.dev with rng := { s.dev.rng with insts := t.rng.insts } }) ∧
  (∀ (i : Fin 8) (s : State), Does (.drbgReseedEnd i) s fun t =>
    match s.dev.rng.insts[i.val]? with
    | some x => if x.reseeding = true then
        (s.dev.rng.queue = [] →
          t.rng.insts[i.val]? = some (x.seed s.dev.patterned s.dev.rng.blocks) ∧ t.rng.blocks = s.dev.rng.blocks + 2 ∧
          (∀ j, j ≠ i.val → t.rng.insts[j]? = s.dev.rng.insts[j]?) ∧
          t = { s.dev with rng := { s.dev.rng with insts := t.rng.insts, blocks := t.rng.blocks } }) ∧
        (∀ n, s.dev.rng.queue = [{ cls := 4, item := n }] → s.dev.bit (rngAt Off.rngHostCmd) 0 = true →
          t.bit (rngAt Off.rngHostCmd) 0 = false ∧ t.bit (rngAt Off.rngHostCmd) 1 = true)
      else t = s.dev
    | none => t = s.dev) ∧
  (∀ (k : Fin 8) (prop_ : Bool) (s : State), Does (.rngHealthFail k prop_) s fun t =>
    let d := s.dev
    let a := rngAt (if prop_ then Off.rngAptFail else Off.rngRctFail) + 4 * k
    if (if prop_ then d.rng.aptTick else d.rng.rctTick) = true then
      t.field a 31 0 = min (d.field a 31 0 + 1) (2 ^ 32 - 1) ∧ d.regsBut t [a] ∧ t = { d with pages := t.pages }
    else t.gave (.event (if prop_ then 61 else 60)) ∧ t.power = d.power ∧ t.units = d.units ∧ t.front.qps = d.front.qps) ∧
  (∀ s : State, Does .biasLoopLimit s fun t => t.gave (.event 62) ∧ t.causes.mem 62 = true ∧ t.power = s.dev.power ∧ t.units = s.dev.units) ∧
  (∀ s : State, Does .biasLoopInRange s fun t => t.causes.mem 62 = false ∧ (∀ k, k ≠ 62 → t.causes.mem k = s.dev.causes.mem k) ∧
    t = { s.dev with causes := t.causes }) ∧
  (∀ (v : Bool) (s : State), Does (.testPatternWrite v) s fun t =>
    let a := rngAt Off.rngCtrl
    if s.dev.writeBarred a = true ∨ s.dev.pageLocked a = true ∨ (v = true ∧ ¬(s.dev.cust.selected = true ∧ s.dev.cust.mode = .manufacture)) then
      t = s.dev.writeLost a
    else t.bit a 0 = v ∧ (∀ i, 0 < i → i < 32 → t.bit a i = s.dev.bit a i) ∧ s.dev.regsBut t [a] ∧ t = { s.dev with pages := t.pages })

/-- Chains turn healthy and unhealthy, fail over, are tested and switched. While the die has its rails: a chain that turns
unhealthy or healthy says so; a lost feed reports source 0 or 1 and holds its cause; the active chain's loss starts a
failover when the standby is healthy, and the orderly stop otherwise, as does the standby's loss during a failover.
FAILOVER_END switches and reports source 2, or stops; a self-test result stands, and a failure reports source 3 or 4; a
planned switch needs RETURN_EN, no failover, and a healthy tested standby of the higher claim, and reports source 5. A stop
closes VF intake and every item, and never touches settings, tamper log or staging window. (16_power_clocks_startup.md). -/
def Obligations.PowerChains : Prop :=
  let stopped := fun (t : Device) => (t.causes.mem 0 = true ∧ t.causes.mem 1 = true) ∧ t.power.st = .stopping ∧ t.power.failover = false ∧ t.power.stopRecorded = true ∧
    t.front.vfEnable = false ∧ t.sched.items = [] ∧ t.dom.portUp = [false, false]
  (∀ (c : Fin 2) (ok : Bool) (mv : Nat) (s : State), Does (.chainUnhealthy c ok mv) s fun t =>
    let d := s.dev
    let other := d.power.chain d.power.standby
    if d.running = false then t = d else
      t.guarded = d.guarded ∧
      (t.power.chain c).feedOk = ok ∧ (t.power.chain c).outOk = false ∧ (t.power.chain c).mv = mv ∧
      t.power.chain (1 - c) = d.power.chain (1 - c) ∧ t.power.active = d.power.active ∧
      (ok = false → (d.power.chain c).feedOk = true → t.gave (.event c) ∧ t.causes.mem c = true) ∧
      (if d.power.active = c.val + 1 then (if other.healthy = true then t.power.failover = true ∧ t.power.st = d.power.st else stopped t)
        else if d.power.failover = true then stopped t else t.power.failover = false ∧ t.power.st = d.power.st)) ∧
  (∀ (c : Fin 2) (mv : Nat) (s : State), Does (.chainHealthy c mv) s fun t =>
    if s.dev.running = false then t = s.dev else
      (t.power.chain c).healthy = true ∧ (t.power.chain c).mv = mv ∧ t.power.chain (1 - c) = s.dev.power.chain (1 - c) ∧
      t.power.active = s.dev.power.active ∧ t.causes.mem c = false ∧
      t = { s.dev with pages := t.pages, out := t.out, power := t.power, causes := t.causes, front := { s.dev.front with msix := t.front.msix } }) ∧
  (∀ s : State, Does .failoverEnd s fun t =>
    let d := s.dev
    if d.power.failover = false then t = d
    else if (d.power.chain d.power.standby).healthy = false then stopped t
    else t.power = { d.power with active := d.power.standby + 1, failover := false } ∧ t.gave (.event 2) ∧ t.units = d.units) ∧
  (∀ (pass : Bool) (s : State), Does (.standbySelfTest pass) s fun t =>
    let d := s.dev
    let c := d.power.standby
    if d.running = false ∨ (d.power.chain c).feedOk = false then t = d
    else t.power.chain c = { d.power.chain c with selfTest := pass } ∧ t.power.chain (1 - c) = d.power.chain (1 - c) ∧
      t.causes.mem (3 + c) = !pass ∧ (pass = false → t.gave (.event (3 + c))) ∧ t.power.active = d.power.active ∧ t.units = d.units) ∧
  (∀ s : State, Does .plannedSwitch s fun t =>
    let p := s.dev.power
    let c := p.standby
    if s.dev.running = true ∧ p.failover = false ∧ s.dev.bit (pwrAt Off.pwrCtrl) 8 = true ∧ (p.chain c).healthy = true ∧
        (p.chain c).selfTest = true ∧ p.claim (1 - c) < p.claim c then
      t.power = { p with active := c + 1 } ∧ t.gave (.event 5) ∧ t.units = s.dev.units
    else t = s.dev)

/-- STATE_REQ, EBB entry, refusal, wake and late wake. A write of STATE_REQ is lost on a locked or resetting page and for
the reserved value 3; else STATE_REQ holds it, SLACK and FLOOD follow it at once (FLOOD wakes every gated cluster and group,
R116), and EBB starts to wake unless it asks for EBB. A request for EBB is met in SLACK when the device is idle; it is
refused with its cause, source 12 and EBB_REFUSED, or EBB stands with every PLL off and no core running. A wake event wakes
from EBB; its end clocks the PLLs, lets the verified cores run and reaches FLOOD or SLACK; a late wake reports source 11.
(16_power_clocks_startup.md). -/
def Obligations.PowerStates : Prop :=
  (∀ (v : BitVec 2) (s : State), Does (.stateReqWrite v) s fun t =>
    let d := s.dev
    let a := pwrAt Off.pwrCtrl
    if d.writeBarred a = true ∨ d.pageLocked a = true ∨ v = 3 then t = d.writeLost a
    else t.field a 1 0 = v.toNat ∧ t.power.ebbWait = decide (v = 1) ∧
      t.units = { d.units with clusters := t.units.clusters, groups := t.units.groups } ∧
      (d.power.st = .slack → v = 2 → (∀ c, c < 16 → t.cluster c = (d.cluster c).wake) ∧ ∀ g, g < 8 → t.group g = (d.group g).wake) ∧
      (¬(d.power.st = .slack ∧ v = 2) → t.units = d.units) ∧
      t.power.st = (match d.power.st with
        | .slack => if v = 2 then .flood else .slack
        | .flood => if v = 2 then .flood else .slack
        | .ebb => if v = 1 then .ebb else .waking
        | x => x)) ∧
  (∀ s : State, Does .ebbEntry s fun t =>
    let d := s.dev
    if d.power.st = .slack ∧ d.power.ebbWait = true ∧ d.idle = true then
      t.power.ebbWait = false ∧
      (d.ebbRefused = none → t.power.st = .ebb ∧ t.power.locked = 0 ∧ t.field Off.devCoreStat 3 0 = 0 ∧ t.guarded = d.guarded ∧ (∀ i, (t.units.clusters.get Cluster.initial i).clk = .gated)) ∧
      (d.ebbRefused ≠ none → t.power = { d.power with ebbWait := false } ∧ t.gave (.event 12) ∧ t.units = d.units)
    else t = d) ∧
  (∀ s : State, Does .ebbWake s fun t => t = { s.dev with power := { s.dev.power with
    st := if s.dev.power.st = .ebb then .waking else s.dev.power.st } }) ∧
  (∀ s : State, Does .ebbWakeEnd s fun t =>
    let d := s.dev
    let v := d.field (pwrAt Off.pwrCtrl) 1 0
    if d.power.st = .waking then
      t.power = { d.power with locked := 0x1FF, ebbWait := decide (v = 1), st := if v = 2 then .flood else .slack } ∧
      t.bit (pwrAt 0x10) 3 = true ∧ t.guarded = d.guarded ∧ t.units.engines = d.units.engines ∧
      t.field Off.devCoreStat 3 0 = (if d.causes.mem 233 = true then 0 else 15)
    else t = d) ∧
  (∀ s : State, Does .ebbWakeLate s fun t =>
    if s.dev.power.st = .waking then t.gave (.event 11) ∧ t.power = s.dev.power ∧ t.units = s.dev.units else t = s.dev)

/-- A PLL loses and regains lock; the reference clock and the package oscillator. A locked PLL n that loses lock is out of
lock, alone, with LOCK_LOST and an event of source 18 + n; one out of lock changes nothing. A relock locks it again while
the die has its rails; the core PLL's lets the cores run. A change of the reference clock or of the package oscillator
reports source 16 or 17 when it is lost and holds the cause until it is back; the reference clock's change sets its INT_RAW
bit. (16_power_clocks_startup.md). -/
def Obligations.Clocks : Prop :=
  (∀ (n : Fin 9) (s : State), Does (.pllLockLoss n) s fun t =>
    if bitOf s.dev.power.locked n = true then
      t.gave (.event (18 + n)) ∧ t.power = { s.dev.power with locked := t.power.locked } ∧
      (∀ i, i < 9 → bitOf t.power.locked i = (bitOf s.dev.power.locked i && decide (i ≠ n))) ∧ t.units = s.dev.units ∧ t.guarded = s.dev.guarded
    else t = s.dev) ∧
  (∀ (n : Fin 9) (s : State), Does (.pllRelock n) s fun t =>
    (s.dev.running = true → ∀ i, bitOf t.power.locked i = (bitOf s.dev.power.locked i || decide (i = n))) ∧
    (s.dev.running = true → n = 5 → bitOf s.dev.power.locked 5 = false → s.dev.awake = true →
      t.field Off.devCoreStat 3 0 = (if s.dev.causes.mem 233 = true then 0 else 15)) ∧ (n ≠ 5 → t.pages = s.dev.pages) ∧
    t = { s.dev with pages := t.pages, power := { s.dev.power with locked := if s.dev.running = true then t.power.locked else s.dev.power.locked } }) ∧
  (∀ (ok : Bool) (s : State), Does (.refclkChange ok) s fun t =>
    if s.dev.power.refclkOk = ok then t = s.dev
    else t.power = { s.dev.power with refclkOk := ok } ∧ t.causes.mem 16 = !ok ∧ (ok = false → t.gave (.event 16)) ∧
      (ok = true → t.bit 0x2010 1 = true) ∧ t.units = s.dev.units ∧ t.guarded = s.dev.guarded) ∧
  (∀ (ok : Bool) (s : State), Does (.packageOscillatorChange ok) s fun t =>
    if s.dev.power.oscOk = ok then t = s.dev
    else t.power = { s.dev.power with oscOk := ok } ∧ t.causes.mem 17 = !ok ∧ (ok = false → t.gave (.event 17)) ∧
      t.units = s.dev.units ∧ t.guarded = s.dev.guarded)

/-- BURN and BURN_END: the refusals of a burn in their order, the slot it takes, and what its end leaves. BURN, on an idle
page: it is refused with CODE 2 for group 0 outside MANUFACTURE and groups 1 to 3 outside MANUFACTURE, CUSTODY and
MAINTENANCE, 3 for a group above 3, 1 with no blank slot left, and 5 for an MFG generation that would leave out a burnt exit
seal; else the next slot of the group is being burnt. BURN_END puts the staged DATA in that slot, sealed when the read-back
agreed, and no other slot changes; a read-back that differed reports source 10, and CODE is 0 or 4 while no slot of the
group is torn. (16_power_clocks_startup.md). -/
def Obligations.SettingsBurns : Prop :=
  (∀ s : State, Does .burn s fun t =>
    let d := s.dev
    let a := otpAt Off.otpCmd
    let g := d.field (otpAt Off.otpSel) 4 0
    let m := d.cust.mode
    let refused : Option Nat :=
      if g = 0 ∧ m ≠ .manufacture then some 2
      else if (g = 1 ∨ g = 2 ∨ g = 3) ∧ m ≠ .manufacture ∧ m ≠ .custody ∧ m ≠ .maintenance then some 2
      else if 3 < g then some 3
      else if d.power.nextSlot g = 4 then some 1
      else if g = 0 ∧ d.power.exited = true ∧ d.bit (otpAt Off.otpBurn) 0 = false then some 5 else none
    if d.writeBarred a = true then t = d.writeLost a
    else if d.bit a 0 = true then t = d
    else match refused with
      | some c => t.field (otpAt Off.otpResult) 23 16 = c ∧ t.bit a 0 = false ∧ t.bit a 1 = true ∧ t.bit 0x3010 0 = true ∧ d.onlyRegs t
      | none => t.bit a 0 = true ∧ t = { d with pages := t.pages, power := { d.power with burn := some (g, d.power.nextSlot g) } }) ∧
  (∀ (ok : Bool) (s : State), Does (.burnEnd ok) s fun t =>
    let d := s.dev
    match d.power.burn with
    | none => t = d
    | some (g, n) =>
      if d.power.st = .battery then t = d else
        t.power.burn = none ∧ t.power.otp.find? (4 * g + n) = some (otpSlot g n d.stagedData ok) ∧
        (∀ k, k ≠ 4 * g + n → t.power.otp.find? k = d.power.otp.find? k) ∧
        t.power = { d.power with burn := none, otp := t.power.otp } ∧ t.units = d.units ∧
        (ok = false → t.gave (.event 10)) ∧
        (t.power.tornSlots g = 0 → t.field (otpAt Off.otpResult) 23 16 = (if ok = true then 0 else 4) ∧
          t.bit (otpAt Off.otpCmd) 0 = false ∧ t.bit (otpAt Off.otpCmd) 1 = true ∧ t.bit 0x3010 0 = true))

/-- PERST_N, VIO, the host link and an IDE integrity failure. While PERST_N is asserted or VIO is out of range the host side
is held in reset: its start clears VF Enable and NumVFs, returns every MSI-X entry to its reset address and mask, takes the
link down and ends the causes of sources 220 and 222; its end clears PERST_LONG and the cause of source 221. VIO leaving its
range reports source 7 and holds its cause. A long assertion sets PERST_LONG, reports source 221 and holds its cause. A link
change sets LOCAL_STATE to 0 or 4 to 6, LINK_CHANGED, and reports source 220 when the link falls unasked. An IDE failure
reports source 213. None touches settings, tamper log or staging window. (20_electrical_package.md, 03_host_queues.md,
15_faults.md). -/
def Obligations.HostPins : Prop :=
  let held := fun (d : Device) => d.pins.perst = true ∨ d.pins.vioOk = false
  let reset := fun (t : Device) => t.front.vfEnable = false ∧ t.front.numVfs = 0 ∧ t.pins.link = 0 ∧ t.causes.mem 220 = false ∧ t.causes.mem 222 = false ∧
    (∀ k, (t.front.msix.get Msix.initial k).addr = 0 ∧ (t.front.msix.get Msix.initial k).masked = true)
  (∀ s : State, Does .perstNAssert s fun t => t.pins.perst = true ∧ t.guarded = s.dev.guarded ∧
    (held s.dev → t = { s.dev with pins := { s.dev.pins with perst := true } }) ∧ (¬held s.dev → reset t)) ∧
  (∀ s : State, Does .perstNDeassert s fun t => t.pins = { s.dev.pins with perst := false } ∧
    (held s.dev ∧ s.dev.pins.vioOk = true → t.bit (sideAt Off.sideStat) 5 = false ∧ t.causes.mem 221 = false ∧ s.dev.regsBut t [sideAt Off.sideStat]) ∧
    (¬held s.dev ∨ s.dev.pins.vioOk = false → ∀ a, t.reg a = s.dev.reg a) ∧
    t = { s.dev with pages := t.pages, causes := t.causes, pins := t.pins }) ∧
  (∀ s : State, Does .perstLong s fun t =>
    if ¬held s.dev ∨ s.dev.bit (sideAt Off.sideStat) 5 = true then t = s.dev
    else t.gave (.event 221) ∧ t.causes.mem 221 = true ∧ t.guarded = s.dev.guarded ∧ t.power = s.dev.power) ∧
  (∀ s : State, Does .vioOutOfRange s fun t =>
    if s.dev.pins.vioOk = false then t = s.dev
    else t.gave (.event 7) ∧ t.causes.mem 7 = true ∧ t.guarded = s.dev.guarded ∧ (¬held s.dev → t.front.vfEnable = false ∧ t.front.numVfs = 0)) ∧
  (∀ s : State, Does .vioInRange s fun t =>
    if s.dev.pins.vioOk = true then t = s.dev
    else t.pins = { s.dev.pins with vioOk := true } ∧ t.causes.mem 7 = false ∧ (s.dev.pins.perst = false → t.bit (sideAt Off.sideStat) 5 = false) ∧
      t = { s.dev with pages := t.pages, causes := t.causes, pins := t.pins }) ∧
  (∀ (gen : Fin 4) (requested idle : Bool) (s : State), Does (.hostLinkChange gen requested idle) s fun t =>
    let d := s.dev
    let link := if gen.val = 0 ∨ held d ∨ d.running = false then 0 else gen.val + 3
    (link ≠ 0 → t.pins.link = link ∧ t.causes.mem 220 = false ∧ t.pins.linkIdle = idle ∧ (link ≠ d.pins.link → t.bit 0x0010 1 = true)) ∧
    (link = 0 → d.pins.link ≠ 0 → requested = false → t.gave (.event 220) ∧ t.causes.mem 220 = true) ∧
    (link = 0 → (d.pins.link = 0 ∨ requested = true) → t.pins.link = 0 ∧ t.pins.linkIdle = false ∧ (d.pins.link ≠ 0 → t.bit 0x0010 1 = true)) ∧
    t.power = d.power ∧ t.guarded = d.guarded) ∧
  (∀ s : State, Does .ideIntegrityFailure s fun t => t.gave (.event 213) ∧ t.power = s.dev.power ∧ t.units = s.dev.units ∧ t.guarded = s.dev.guarded)

/-- Sideband transactions, SPDM, PLDM and the Alert Response Address. The sideband answers while it is enabled, not stuck
off, its pins and rails are up and its page is not being reset; otherwise nothing happens. A transaction records the bus
seen and an assigned I3C address; a malformed Olihild message is answered STATE with STATUS 0x14, a QUERY with STATE and
STATUS 0. SPDM is answered over the sideband, or over DOE while the link is up; what the device does not support is
declined. PLDM monitoring is answered and may read one event; other types are declined. A won Alert Response Address read
sends twice the SMBus address and lets ALERT_N go. (20_electrical_package.md, 00_scope.md, 13_modes_custody.md). -/
def Obligations.SidebandMessages : Prop :=
  let answers := fun (d : Device) => d.bit (sideAt 8) 0 = true ∧ d.bit (sideAt Off.sideStat) 4 = false ∧ d.pins.vioOk = true ∧
    d.running = true ∧ d.pages.resetting.mem (sideAt 0) = false
  (∀ (smbus : Bool) (assign : Option (BitVec 7)) (data : Bytes) (s : State), Does (.sidebandTransaction smbus assign data) s fun t =>
    let d := s.dev
    (¬answers d → t = d) ∧
    (answers d → data = [] → t.field (sideAt Off.sideStat) 7 6 = (if smbus = true then 2 else 1) ∧
      t.field (sideAt Off.sideStat) 14 8 = (match assign with
        | some a => if smbus = true then d.field (sideAt Off.sideStat) 14 8 else a.toNat
        | none => d.field (sideAt Off.sideStat) 14 8) ∧
      d.regsBut t [sideAt Off.sideStat] ∧ t = { d with pages := t.pages }) ∧
    (answers d → data.length = 16 → slice data 0 2 = [0x4C, 0x4F] → slice data 2 1 = [1] → slice data 8 4 = [0, 0, 0, 0] →
      (slice data 3 1 = [9] → t.gave (.sent (.olihild 1 0x0A 0 0 d.cust.stateBody))) ∧
      (slice data 3 1 = [7] → t.gave (.sent (.olihild 1 0x0A 0x14 0 d.cust.stateBody)))) ∧
    (answers d → data ≠ [] → slice data 0 2 ≠ [0x4C, 0x4F] → t.gave (.sent (.olihild 1 0x0A 0x14 0 d.cust.stateBody))) ∧
    t.guarded = d.guarded) ∧
  (∀ (sideband supported : Bool) (data : Bytes) (s : State), Does (.spdmMessage sideband supported data) s fun t =>
    let d := s.dev
    let reply := if supported = true then Config.spdmReply d.free data else Config.declineReply data
    if (sideband = true ∧ answers d) ∨ (sideband = false ∧ d.running = true ∧ d.pins.link ≠ 0) then
      t.gave (.sent (if sideband = true then .sideband reply else .doe reply)) ∧ t.free = d.free + 1 ∧ t.pages = d.pages ∧
      t = { d with free := t.free, out := t.out, sched := t.sched }
    else t = d) ∧
  (∀ (monitoring event : Bool) (data : Bytes) (s : State), Does (.pldmMessage monitoring event data) s fun t =>
    let d := s.dev
    if answers d then
      t.gave (.sent (.sideband (if monitoring = true then Config.pldmReply d.free data d.tamp.tj d.power.chainA.mv d.power.chainB.mv
        else Config.declineReply data))) ∧
      t.pins = (if monitoring = true ∧ event = true then { d.pins with pldmUnread := d.pins.pldmUnread - 1 } else d.pins) ∧
      t = { d with free := t.free, out := t.out, sched := t.sched, pins := t.pins }
    else t = d) ∧
  (∀ (won : Bool) (s : State), Does (.alertResponseAddressRead won) s fun t =>
    let d := s.dev
    if answers d then
      t.field (sideAt Off.sideStat) 7 6 = 2 ∧ d.regsBut t [sideAt Off.sideStat] ∧
      (if won = true ∧ d.alertDriven = true then t.pins = { d.pins with alertReleased := true } ∧
          t.gave (.sent (.sideband [BitVec.ofNat 8 (2 * ((d.power.settings 3).getD 1 0).toNat)]))
        else t.pins = d.pins ∧ t.out = d.out) ∧
      t = { d with pages := t.pages, out := t.out, pins := t.pins }
    else t = d)

/-- SDA, SCL and ALERT_N held by others: recovery, STUCK_OFF, ALERT_BLOCKED and ALERT_HIGH. SDA held low for 35 ms starts
the recovery of a sideband that answers, and 70 ms of it disables the sideband, with STUCK_OFF and its INT_RAW bit; a rise
ends the recovery and leaves every register as it was. A stuck SCL changes nothing that can be read. ALERT_BLOCKED is set
with its INT_RAW bit when others hold ALERT_N that the device does not drive, and the line found high is recorded only while
the device drives it, both while the die has its rails. (20_electrical_package.md). -/
def Obligations.SidebandPins : Prop :=
  let stat := sideAt Off.sideStat
  (∀ s : State, Does .sdaStuck35ms s fun t => t = { s.dev with pins := { s.dev.pins with
    sdaLow := if s.dev.sideAnswers = true ∧ s.dev.pins.sdaLow = 0 then 1 else s.dev.pins.sdaLow } }) ∧
  (∀ s : State, Does .sdaStuck70ms s fun t =>
    if s.dev.pins.sdaLow = 1 ∧ s.dev.bit stat 4 = false then
      t.bit stat 4 = true ∧ t.bit 0x15010 1 = true ∧ t.sideAnswers = false ∧ t.pins = { s.dev.pins with sdaLow := 2 } ∧
      s.dev.regsBut t [stat, 0x15010] ∧ t.power = s.dev.power ∧ t.cust = s.dev.cust
    else t = s.dev) ∧
  (∀ s : State, Does .i3cSdaRise s fun t => t.pins.sdaLow = 0 ∧ t = { s.dev with pins := t.pins } ∧ t.pins = { s.dev.pins with sdaLow := 0 }) ∧
  (∀ s : State, Does .sclStuck s fun t => t = s.dev) ∧
  (∀ s : State, Does .alertBlocked s fun t =>
    if s.dev.running = true ∧ s.dev.alertDriven = false then
      t.bit stat 2 = true ∧ t.bit 0x15010 0 = true ∧ s.dev.regsBut t [stat, 0x15010] ∧ s.dev.onlyRegs t
    else t = s.dev) ∧
  (∀ s : State, Does .alertHigh s fun t =>
    if s.dev.running = true ∧ s.dev.alertDriven = true then t.bit stat 3 = true ∧ s.dev.regsBut t [stat] ∧ s.dev.onlyRegs t
    else t = s.dev)

/-- MBX_SEND and MBX_IN_FREE: the frame codes, messages joined by MORE, and the next frame in. Either command is lost while
the page is being reset. SEND ends at once, with DONE and its INT_RAW bit: CODE 2 for a CHANNEL other than 1, else 3 for a
LENGTH above 1,532, else 0; only with CODE 0 is the frame taken: with MORE it joins the message, otherwise the message is
whole, one above 65,536 bytes is dropped, and one without the Olihild MAGIC is answered STATE with STATUS 0x14 on the MBX
page. A write of 1 to IN_VALID frees MBX_IN unless the frame arrived in that very cycle, and the oldest waiting frame then
stands in MBX_IN with IN_VALID and FRAME_IN set. (12_tenancy.md, 13_modes_custody.md). -/
def Obligations.MailboxFrames : Prop :=
  let a := mbxAt Off.mbxCmd
  (∀ s : State, Does .mbxSend s fun t =>
    let d := s.dev
    let h := d.reg (mbxAt Off.mbxOut)
    let len := bitsOf h 10 0
    let code := if bitsOf h 23 16 ≠ 1 then 2 else if 1532 < len then 3 else 0
    let frame := ((List.range ((len + 3) / 4)).flatMap fun i => leBytes 4 (d.reg (mbxAt Off.mbxOut + 4 + 4 * i))).take len
    let ended := t.field (mbxAt Off.mbxResult) 23 16 = code ∧ t.bit a 0 = false ∧ t.bit a 1 = true ∧ t.bit 0x16010 1 = true
    if d.writeBarred a = true then t = d.writeLost a
    else t.guarded = d.guarded ∧
      (code ≠ 0 → ended ∧ d.onlyRegs t) ∧
      (code = 0 → bitOf h 31 = true → ended ∧ t.cust = { d.cust with partMbx := (d.cust.partMbx ++ frame).take 65537 } ∧ t.keys = d.keys) ∧
      (code = 0 → bitOf h 31 = false → 65536 < (d.cust.partMbx ++ frame).length → ended ∧ t.cust = { d.cust with partMbx := [] } ∧ t.keys = d.keys) ∧
      (code = 0 → bitOf h 31 = false → (d.cust.partMbx ++ frame).length ≤ 65536 → slice (d.cust.partMbx ++ frame) 0 2 ≠ [0x4C, 0x4F] →
        t.gave (.sent (.olihild 0 0x0A 0x14 0 d.cust.stateBody)))) ∧
  (∀ s : State, Does .mbxInFree s fun t =>
    let d := s.dev
    if d.writeBarred a = true then t = d.writeLost a
    else if d.bit a 2 = true ∧ bitOf (d.pages.cyc.hwSet.get 0 a) 2 = true then
      t.bit a 2 = true ∧ d.regsBut t [a] ∧ t = { d with pages := t.pages }
    else match d.cust.framesIn with
      | [] => t.bit a 2 = false ∧ d.regsBut t [a] ∧ t = { d with pages := t.pages }
      | x :: rest => t.cust = { d.cust with framesIn := rest } ∧ t.bit a 2 = true ∧ t.bit 0x16010 0 = true ∧
          (∀ j, j < 384 → t.reg (mbxAt Off.mbxIn + 4 * j) = leNat (slice x (4 * j) 4)) ∧
          t.power = d.power ∧ t.units = d.units ∧ t.keys = d.keys ∧ t.store = d.store)

/-- WINDOW_SLOT_WRITE: bytes join the slot, and the write that completes the mask hands the descriptor over. A write into a
slot of a VF that is not exposed changes nothing. A write that the queue pair does not take in is dropped and counts on
source 210 or 211, an unmapped one (210) against the VF as well, and no queue pair changes. Otherwise the bytes that fall
into the slot replace those there, one mask bit each, and nothing else of the slot changes; while the mask is not full,
nothing but the slot changes. The write that fills the mask empties it and gets the 64 bytes accepted as the next work item
on the window path: the item holds the slot, or is an intruder where the slot is held already. (03_host_queues.md,
01_architecture.md, 12_tenancy.md). -/
def Obligations.WindowSlots : Prop :=
  (∀ (v : Fin 4096) (q : Fin 64) (k : Fin 8) (off : Nat) (data : Bytes) (s : State), Does (.windowSlotWrite v q k off data) s fun t =>
    let d := s.dev
    let x := d.qp v q
    let new := (x.slots.get Slot.empty k).write off data
    let put := fun (y : Slot) => d.setQp v q { x with slots := x.slots.put Slot.empty k y }
    (d.exposed v = false → t = d) ∧
    (d.exposed v = true → ∀ src, d.intakeDrop v q = some src →
      t.gave (.event src) ∧ t.front.qps = d.front.qps ∧ (∀ u, u ≠ v.val → t.vf u = d.vf u) ∧
      t.vf v = { d.vf v with unmapped := (d.vf v).unmapped + (if src = 210 then 1 else 0) } ∧ t.power = d.power ∧ t.units = d.units) ∧
    (d.exposed v = true → d.intakeDrop v q = none → new.mask ≠ BitVec.allOnes 64 → t = put new) ∧
    (d.exposed v = true → d.intakeDrop v q = none → new.mask = BitVec.allOnes 64 → new.occupant = none →
      t = (put { new with mask := 0, occupant := some d.sched.nextItem }).accept
        { vf := v, qp := q, window := true, slot := k, intruder := false } new.bytes) ∧
    (d.exposed v = true → d.intakeDrop v q = none → new.mask = BitVec.allOnes 64 → ∀ n, new.occupant = some n →
      t = (put { new with mask := 0 }).accept { vf := v, qp := q, window := true, slot := k, intruder := true } new.bytes)) ∧
  (∀ (x : Slot) (off : Nat) (data : Bytes), x.bytes.length = 64 →
    (x.write off data).occupant = x.occupant ∧ (x.write off data).bytes.length = 64 ∧
    ∀ i, i < 64 → (x.write off data).mask.getLsbD i = (x.mask.getLsbD i || (decide (off ≤ i) && decide (i < off + data.length))) ∧
      (x.write off data).bytes[i]? = if off ≤ i ∧ i < off + data.length then data[i - off]? else x.bytes[i]?)

/-- SQ_READ_COMPLETION: the checks of a descriptor in the order of R93. A read completion without an outstanding read
changes nothing; where intake has stopped it delivers nothing, and SQ_HEAD names the first outstanding entry again.
Otherwise the 64 bytes that the oldest read delivered become the next work item, which with room in the matching store and
in the delay lists is checked in this order: a frozen VF or another PGEN ends it MIGRATED; a mode that takes no such
service, or a drain that began before it, MODE; a store that takes no record, MODE with the store's detail; a malformed
descriptor, or OUT_CAP below the output that the active table or slot curve gives, FORMAT; no table for the service, TABLE;
an epoch gone by, EPOCH_STALE; and an epoch to come holds it. Without room it waits where it is. (03_host_queues.md,
11_jochevy_domain.md, 12_tenancy.md). -/
def Obligations.ChecksAtAcceptance : Prop :=
  ∀ (v : Fin 4096) (q : Fin 64) (data : Bytes) (s : State), Does (.sqReadCompletion v q data) s fun t =>
    let d := s.dev
    let x := d.qp v q
    let n := d.sched.nextItem
    let c := Desc.parse (padTo 64 data)
    let f := d.vf v
    let diag := 0x0F00 ≤ c.service ∧ c.service ≤ 0x0FFF
    let served := d.cust.mode = .service ∨ d.cust.mode = .maintenance
    let migrated := f.st = .frozen ∨ (c.pgen ≠ 0 ∧ c.pgen ≠ f.pgen)
    let stopped := (¬diag ∧ ¬served) ∨ (f.st = .draining ∧ f.drainFrom ≤ n)
    let whole := c.bundle = false
    let late := c.commits = true ∧ d.storeRefusal ≠ none
    (x.reads = [] → t = d) ∧
    (x.reads ≠ [] → d.intakeDrop v q ≠ none → t = d.setQp v q { x with reads := [], sqHead := x.reads.headD x.sqHead }) ∧
    (∀ i is, x.reads = i :: is → d.intakeDrop v q = none → d.entries .shared < 241664 → d.listsOpen = true →
      (migrated → t.ended n .migrated 0) ∧
      (¬migrated → stopped → t.ended n .mode 0) ∧
      (¬migrated → ¬stopped → whole → ∀ k, c.commits = true → d.storeRefusal = some k → t.ended n .mode k) ∧
      (¬migrated → ¬stopped → whole → ¬late → ∀ k, withLength (!d.outCapOk c) (formatDetail c false) = some k → t.ended n .format k) ∧
      (¬migrated → ¬stopped → whole → ¬late → withLength (!d.outCapOk c) (formatDetail c false) = none → ∀ k, d.checkTable v c = .refused k → t.ended n .table k) ∧
      (¬migrated → ¬stopped → whole → ¬late → withLength (!d.outCapOk c) (formatDetail c false) = none → ∀ b, d.checkTable v c = .bound b →
        (d.checkEpoch c.epoch = .stale → t.ended n .epochStale 0) ∧
        (d.checkEpoch c.epoch = .hold → t.standsAt n .epochHold ∧ t.hasDelay holdList n = true)) ∧
      (¬migrated → ¬stopped → ¬whole → ∀ k, bundleDetail c = some k → t.ended n .format k) ∧
      (¬migrated → ¬stopped → ¬whole → bundleDetail c = none → t.standsAt n .bundleRead ∧ t.gave (.sent (.bufRead n c.bufAddr c.inLen)))) ∧
    (∀ i is, x.reads = i :: is → d.intakeDrop v q = none → d.listsOpen = false → t.standsAt n .ingest)

/-- The two doorbells, SQ_FETCH_ISSUE and SQ_READ_FAILURE. A doorbell of a VF that is not exposed changes nothing; one that
the queue pair does not take in counts on its source, an unmapped one against the VF as well; one with a partial write or a
value beyond the ring counts on source 211; every other sets the SQ tail or the CQ head, and a CQ head that no held window
descriptor waits for changes nothing else. SQ fetch issues one read, of the entry at the head, and moves the head on, modulo
the ring; with fetch stopped nothing happens. A read that fails drops the outstanding reads, puts the head back to the entry
that failed, sets the error state with the queue pair's interrupt, and counts on source 212. (03_host_queues.md,
12_tenancy.md, 15_faults.md). -/
def Obligations.DoorbellsAndFetch : Prop :=
  (∀ (v : Fin 4096) (q : Fin 64) (be : BitVec 4) (value : Word) (s : State), Does (.submissionTailDoorbell v q be value) s fun t =>
    let d := s.dev
    let ok := be = 0xF ∧ value.toNat < d.sqDepth v q ∧ value.toNat < 65536
    (d.exposed v = false → t = d) ∧
    (d.exposed v = true → ∀ src, d.intakeDrop v q = some src → t = d.dropAccess v src ∧ t.gave (.event src)) ∧
    (d.exposed v = true → d.intakeDrop v q = none → ok → t = d.setQp v q { d.qp v q with sqTail := value.toNat }) ∧
    (d.exposed v = true → d.intakeDrop v q = none → ¬ok → t = d.fault 211 ∧ t.front.qps = d.front.qps)) ∧
  (∀ (v : Fin 4096) (q : Fin 64) (be : BitVec 4) (value : Word) (s : State), Does (.completionHeadDoorbell v q be value) s fun t =>
    let d := s.dev
    let ok := be = 0xF ∧ value.toNat < d.cqDepth v q ∧ value.toNat < 65536
    (d.exposed v = false → t = d) ∧
    (d.exposed v = true → ∀ src, d.intakeDrop v q = some src → t = d.dropAccess v src ∧ t.gave (.event src)) ∧
    (d.exposed v = true → d.intakeDrop v q = none → ok →
      (∀ e ∈ d.sched.items, ¬(e.2.stage = .fenced ∧ e.2.route.vf = v ∧ e.2.route.qp = q)) →
        t = d.setQp v q { d.qp v q with cqHead := value.toNat }) ∧
    (d.exposed v = true → d.intakeDrop v q = none → ¬ok → t = d.fault 211 ∧ t.front.qps = d.front.qps)) ∧
  (∀ (v : Fin 4096) (q : Fin 64) (s : State), Does (.sqFetchIssue v q) s fun t =>
    let d := s.dev
    let x := d.qp v q
    let go := d.exposed v = true ∧ d.intakeDrop v q = none ∧ d.bit (qpBase v q + 0x14) 2 = false ∧ x.sqHead ≠ x.sqTail ∧
      d.cqFull v q = false ∧ d.ingestHeld = false ∧ d.entries .shared < 241664 ∧ d.listsOpen = true
    (go → t = (d.setQp v q { x with sqHead := (x.sqHead + 1) % d.sqDepth v q, reads := x.reads ++ [x.sqHead] }).emit (.sqRead v q x.sqHead)) ∧
    (¬go → t = d)) ∧
  (∀ (v : Fin 4096) (q : Fin 64) (s : State), Does (.sqReadFailure v q) s fun t =>
    let d := s.dev
    let x := d.qp v q
    (x.reads = [] → t = d) ∧
    (∀ i is, x.reads = i :: is → t.gave (.event 212) ∧ t.qp v q = { x with reads := [], sqHead := i } ∧
      t.power = d.power ∧ t.units = d.units ∧ t.front.vfs = d.front.vfs ∧ t.guarded = d.guarded))

/-- DEFERRED_ADMIT and DEFER_DEADLINE: what admission decides of a deferred item. A DEFER entry that falls due decides its
item for good: without a ceiling token it completes REFUSED_CEILING; INTERACTIVE within its VF's share, or a class that is
not saturated (BACKGROUND only while no other item is deferred), it is admitted, and its VF pays a token and, within the
share, the declared cycles; otherwise it completes REFUSED_SATURATED. A window descriptor whose CQ is full stays deferred
(R118; that it is not refused either is the model's choice, log entry 132). Released capacity does the same for the only
deferred item, but before its time limit an item that is neither admitted nor BACKGROUND stays deferred with its entry.
Without such an item nothing changes. (03_host_queues.md, 08_scheduler.md, 12_tenancy.md). -/
def Obligations.DeferredAdmission : Prop :=
  let takes := fun (d : Device) (n : Nat) (x : Item) => (x.cls = .interactive ∧ (d.vf x.route.vf).withinShare x.onEngines = true) ∨
    (d.saturated x.onEngines = false ∧ (x.cls = .background → ∀ e ∈ d.sched.items, e.1 = n ∨ e.2.stage ≠ .deferred))
  let refused := fun (d t : Device) (n : Nat) (x : Item) (st : Status) => t.ended n st 0 ∧ t.judged n .refused (d.delaySince x) ∧ d.onlySched t
  let admitted := fun (d t : Device) (n : Nat) (x : Item) =>
    t.judged n (if x.adm.first then .served else .delayed) (if x.adm.first then 0 else d.delaySince x) ∧
    t.vf x.route.vf = (if (d.vf x.route.vf).withinShare x.onEngines then (d.vf x.route.vf).charge x.onEngines x.adm.cycles
      else d.vf x.route.vf).takeToken
  (∀ (n : Nat) (s : State), Does (.deferDeadline n) s fun t =>
    let d := s.dev
    ((∀ x, d.item n = some x → ¬(x.stage = .deferred ∧ d.hasDelay deferList n = true)) → t = d) ∧
    ∀ x, d.item n = some x → x.stage = .deferred → d.hasDelay deferList n = true →
      (d.windowHeld x = true → t.standsAt n .deferred ∧ t.hasDelay deferList n = true ∧ d.onlySched t) ∧
      (d.windowHeld x = false → (d.vf x.route.vf).noTokens = true → refused d t n x .refusedCeiling) ∧
      (d.windowHeld x = false → (d.vf x.route.vf).noTokens = false → takes d n x → admitted d t n x) ∧
      (d.windowHeld x = false → (d.vf x.route.vf).noTokens = false → ¬takes d n x → refused d t n x .refusedSaturated)) ∧
  (∀ s : State, Does .deferredAdmit s fun t =>
    let d := s.dev
    let only := d.sched.items.filter fun e => e.2.stage == .deferred
    (only = [] → t = d) ∧
    ∀ n x, only = [(n, x)] → d.item n = some x → d.cycle - x.adm.limitFrom < d.deferLimit →
      (d.windowHeld x = false → (d.vf x.route.vf).noTokens = false → takes d n x → admitted d t n x) ∧
      (d.windowHeld x = false → (d.vf x.route.vf).noTokens = false → ¬takes d n x → x.cls = .background → refused d t n x .refusedSaturated) ∧
      (d.windowHeld x = true ∨ (d.vf x.route.vf).noTokens = true ∨ (¬takes d n x ∧ x.cls ≠ .background) →
        t.standsAt n .deferred ∧ t.hasDelay deferList n = true ∧ d.onlySched t))

/-- FENCE_RELEASE and EPOCH_HOLD_EXPIRY. A fenced item that its fence still holds stays as it is; one that only its full CQ
holds stays too, its time limit counting from the cycle in which its fence stopped (R109). Released, it goes to admission: a
VF whose record room is used up and a queue pair that drains refuse it with REFUSED_QUOTA, INTERACTIVE within its VF's share
and with a ceiling token it is admitted. A hold that falls due completes its item EPOCH_AHEAD, refused, with the delay
measured, while the device has not reached its epoch; when the epoch has gone by meanwhile the item completes EPOCH_STALE,
and in its epoch it goes on to its fence. Items at any other stage are left alone. (03_host_queues.md, 08_scheduler.md,
11_jochevy_domain.md). -/
def Obligations.FencesAndEpochHolds : Prop :=
  (∀ (n : Nat) (s : State), Does (.fenceRelease n) s fun t =>
    let d := s.dev
    ((∀ x, d.item n = some x → x.stage ≠ .fenced ∨ d.fenceHolds n x = true) → t = d) ∧
    (∀ x, d.item n = some x → x.stage = .fenced → d.fenceHolds n x = false → d.windowHeld x = true →
      ∃ y, t = d.setItem n y ∧ y.stage = .fenced ∧ y.adm.limitFrom = if x.adm.fenced = true then d.cycle else x.adm.limitFrom) ∧
    ∀ x, d.item n = some x → x.stage = .fenced → d.fenceHolds n x = false → d.windowHeld x = false →
      let f := d.vf x.route.vf
      let room := ¬(x.desc.createsRecords = true ∧ x.desc.bundle = false ∧ f.quotaStore * 1024 ≤ f.storeUse)
      let drains := (d.qp x.route.vf x.route.qp).draining = true
      (¬room → t.ended n .refusedQuota 0 ∧ t.judged n .refused (d.delaySince x) ∧ d.onlySched t) ∧
      (room → drains → t.ended n .refusedQuota 0 ∧ t.judged n .refused (d.delaySince x) ∧ d.onlySched t) ∧
      (room → ¬drains → f.noTokens = false → x.cls = .interactive → f.withinShare x.onEngines = true →
        t.judged n (if x.adm.first then .served else .delayed) (if x.adm.first then 0 else d.delaySince x) ∧
        t.vf x.route.vf = (f.charge x.onEngines (d.declared x)).takeToken)) ∧
  (∀ (n : Nat) (s : State), Does (.epochHoldExpiry n) s fun t =>
    let d := s.dev
    ((∀ x, d.item n = some x → ¬(x.stage = .epochHold ∧ d.hasDelay holdList n = true)) → t = d) ∧
    ∀ x, d.item n = some x → x.stage = .epochHold → d.hasDelay holdList n = true →
      (d.checkEpoch x.desc.epoch = .hold → t.ended n .epochAhead 0 ∧ t.judged n .refused (d.delaySince x) ∧ d.onlySched t) ∧
      (d.checkEpoch x.desc.epoch = .stale → t.ended n .epochStale 0 ∧ t.judged n .refused (d.delaySince x) ∧ d.onlySched t) ∧
      (d.checkEpoch x.desc.epoch = .proceed → d.fenceHolds n x = true → t.standsAt n .fenced ∧ d.onlySched t))

/-- Every step keeps the form of the burnt memories and of the staging window, and nothing burnt is ever changed. From every
state in whose device the staging window is in canonical form, the tamper log's rows and the settings slots stand in rising
order, no row stands at the next row or above, and a running burn has a blank slot before it, every step, START_UP with a
row or a slot cut by power loss among them, leaves a device of the same form. No step removes or changes a row of the tamper
log, and none changes a settings slot that is not blank. (14_tamper.md, 16_power_clocks_startup.md, 04_tide_tables.md). -/
def Obligations.BurntMemoriesStay : Prop :=
  ∀ s t : State, s.dev.inForm → step s = .next t → t.dev.inForm ∧ s.dev.burntStays t.dev

/-- State.reset has the form that every step keeps; its log and window are empty, and its one burnt slot is valid. At
State.reset the guarded memories have their form, the tamper log has no row and the staging window no byte but 0, no burn
runs, and the device is in no mode yet. The one settings slot that is burnt, the manufacturing group's first, is the model's
choice (log entry 6). (14_tamper.md, 16_power_clocks_startup.md, 13_modes_custody.md). -/
def Obligations.ResetMemoryForms : Prop :=
  State.reset.dev.inForm ∧ State.reset.dev.tamp.rows = [] ∧ State.reset.dev.units.staging = [] ∧
  State.reset.dev.power.burn = none ∧ State.reset.dev.cust.selected = false ∧ State.reset.pending = [] ∧
  ∀ g, g < 4 → ∀ n, n < 4 → State.reset.dev.power.blank g n = decide (¬(g = 0 ∧ n = 0))

/-- ZEROIZED with no ceremony open is left by START_UP alone. From every state in which the device is ZEROIZED and no
ceremony is open, every step but one that runs START_UP leaves it ZEROIZED with no ceremony open: no command, no message of
another module or of the sideband, no ceremony, no fault and no passing of time leaves the mode. (13_modes_custody.md,
14_tamper.md, 09_key_hierarchy.md). -/
def Obligations.ZeroizedUntilStartUp : Prop :=
  ∀ s t : State, s.dev.sealed → (∀ f, s.pending.head? ≠ some (.startUp f)) → step s = .next t → t.dev.sealed

/-- POOL_WRITE: performed when the totals of R534 and the minima of the pool's VFs allow it, and lost otherwise. A pool
write whose page takes writes is performed when, with the new value in place, the lane shares and the engine shares of the
eight pools total at most 10,000 basis points each, or the slot capacities at most 16,384 units of 64 slots, and the pool
keeps what the minima of its VFs hold; the register then holds the written fields and every other register reads as before.
Every other pool write changes no register but the header's PAGE_STAT, and is a lost write, which adds one to WRITE_LOST up
to 255. (R536). -/
def Obligations.PoolWrites : Prop :=
  ∀ (p : Fin 8) (slots : Bool) (w : Word) (s : State), Does (.poolWrite p slots w) s fun t =>
    let d := s.dev
    let base := Page.mbx.base 0
    let a := base + (if slots then Off.poolSlots else Off.poolShare) + 8 * p
    let lane := w.toNat % 2 ^ 16
    let engine := w.toNat / 2 ^ 16
    let cap := w.toNat % 2 ^ 15
    let total := fun (new : Nat) (f : Nat × Nat × Nat → Nat) => ((List.range 8).map fun i => if i = (p : Nat) then new else f (d.poolCap i)).sum
    let fits := if slots then total cap (·.2.2) ≤ 16384 ∧ (d.poolUse p none).2.2 ≤ cap
      else total lane (·.1) ≤ 10000 ∧ total engine (·.2.1) ≤ 10000 ∧ (d.poolUse p none).1 ≤ lane ∧ (d.poolUse p none).2.1 ≤ engine
    let taken := d.writeBarred a = false ∧ d.pageLocked a = false
    (taken → fits → t = d.setReg a (if slots then cap else w.toNat) ∧ d.regsBut t [a]) ∧
    (taken → ¬fits → t = d.writeLost a ∧ d.regsBut t [base + 0x0C] ∧
      bitsOf (t.reg (base + 0x0C)) 23 16 = min 255 (bitsOf (d.reg (base + 0x0C)) 23 16 + 1)) ∧
    (¬taken → t = d.writeLost a)

/-- TAMP_STICKY_CLEAR: performed in CUSTODY and MAINTENANCE, and never while the cause lasts. While the TAMP page takes
writes, a write of 1 to a TAMP_STICKY bit in CUSTODY or MAINTENANCE clears exactly the written bits whose source is out of
condition and that hardware has not set in this SYS cycle, and changes nothing else; in every other mode it changes no bit,
no register but PAGE_STAT, and is a lost write, which adds one to WRITE_LOST up to 255. A write of zeros changes nothing.
(R623). -/
def Obligations.StickyClears : Prop :=
  ∀ (bits : Word) (s : State), Does (.tampStickyClear bits) s fun t =>
    let d := s.dev
    let base := Page.tamp.base 0
    let a := base + Off.tampSticky
    let ones := bits.toNat % 2 ^ 28 ≠ 0
    let mode := d.cust.selected = true ∧ (d.cust.mode = .custody ∨ d.cust.mode = .maintenance)
    d.writeBarred a = false →
    (ones → mode → t = { d with tamp := { d.tamp with sticky := t.tamp.sticky } } ∧
      ∀ i, t.tamp.sticky.mem i = (d.tamp.sticky.mem i && (!bits.toNat.testBit i || d.tamp.cond.mem i ||
        (d.pages.cyc.hwSet.get 0 a).testBit i))) ∧
    (ones → ¬mode → t = d.writeLost a ∧ t.tamp = d.tamp ∧ d.regsBut t [base + 0x0C] ∧
      bitsOf (t.reg (base + 0x0C)) 23 16 = min 255 (bitsOf (d.reg (base + 0x0C)) 23 16 + 1)) ∧
    (¬ones → t = d)

/-- Wakes and gating of clusters and engine groups, RELEASE, the clears of LC_FAIL and BN_FAIL, and soft resets of the LC
and BN pages. A wake request of a cluster that is gated starts its wake, and one of a cluster on its way to be gated lets
the wake follow; in SLACK without a cause or on a cluster out of service, and outside SLACK and FLOOD, it changes nothing. A
wake that ends well clocks the cluster and forgets its failed wakes; one that fails gates it again, counts one event of the
cluster's fourth source, and quarantines it at the third failure in a row. A test wake of RELEASE that ends well leaves the
cluster as after reset, out of quarantine; a failed one leaves it gated with a test failure. An idle cluster above both warm
limits starts to be gated in SLACK, CLUSTER_GATED ends that, and the same holds of an engine group with nothing to run or to
resume; a group's wake ends in SLACK and FLOOD only. Work that waits for a group starts when it wakes, shown where no item
waits. While the page takes writes: RELEASE in MAINTENANCE of a quarantined cluster, or engine, starts its test wake, which
follows a gating that runs and waits for the wake from EBB (R214), and sets the command bit; one that runs already is left
alone; in any other mode, or without a quarantine, the write is lost. A clear of failure bits is performed in MAINTENANCE
alone: the written bits fall, but for those that hardware sets in this cycle, and a lane, or engine, of which a bit fell
starts its mismatch count afresh. A soft reset of an unlocked page sets BUSY of the page, aborts its operation and clears
the mismatch counts; that of a BN page withdraws both engines of the pair as well. While the page is being reset every one
of these writes is lost. (05_cipher_lanes.md, 07_bignum_engines.md, 03_host_queues.md, 08_scheduler.md,
02_register_convention.md, 13_modes_custody.md). -/
def Obligations.UnitCommands : Prop :=
  ((∀ (c : Fin 16) (s : State), Does (.clusterWakeRequest c) s fun t =>
     let d := s.dev
     let x := d.cluster c
     let usable := x.quarantined = false ∧ x.stopped = none ∧ d.bit (lcAt c 8) 0 = true
     let may := d.awake = true ∧ (d.power.st = .flood ∨ (usable ∧ d.wakeWanted c = true))
     (may → x.clk = .gated → t = d.setCluster c { x with clk := .waking }) ∧
     (may → ∀ b, x.clk = .gating b → t = d.setCluster c { x with clk := .gating true, gateAt := none }) ∧
     (may → x.clk = .clocked ∨ x.clk = .waking → t = d.setCluster c x) ∧
     (¬may → t = d)) ∧
   (∀ (c : Fin 16) (ok : Bool) (s : State), Does (.clusterWakeEnd c ok) s fun t =>
     let d := s.dev
     let x := d.cluster c
     let src := 64 + 4 * (c : Nat) + 3
     let failed := fun (e : Device) => (e.fault src).raiseInt .lc c 2
     (x.clk ≠ .waking → t = d) ∧
     (x.clk = .waking → x.testWake = false → ok = true → t = d.setCluster c { x with clk := .clocked, wakeFails := 0 }) ∧
     (x.clk = .waking → x.testWake = false → ok = false → t.gave (.event src) ∧
       (x.wakeFails < 2 → t = failed (d.setCluster c { x with clk := .gated, wakeFails := x.wakeFails + 1 })) ∧
       (2 ≤ x.wakeFails → t = (failed (d.setCluster c { x with clk := .gated, wakeFails := x.wakeFails + 1 })).quarantineCluster c 3 0)) ∧
     (x.clk = .waking → x.testWake = true → ok = true →
       t = (((d.setCluster c Cluster.initial).setReg (lcAt c Off.lcStat) 0).commandEnd (lcAt c Off.lcCtrl) 1 2).raiseInt .lc c 3) ∧
     (x.clk = .waking → x.testWake = true → ok = false → t.gave (.event src) ∧
       t = ((failed ((d.setCluster c { x with clk := .gated, testWake := false }).setField (lcAt c Off.lcStat) 16 16 1)).commandEnd
         (lcAt c Off.lcCtrl) 1 2).raiseInt .lc c 3)) ∧
   (∀ (c : Fin 16) (s : State), Does (.clusterIdleGate c) s fun t =>
     let d := s.dev
     let x := d.cluster c
     let above := d.warmFloor < d.warmClusters.length ∧ d.headroom + 8 ≤ d.warmIdle
     let gates := x.clk = .clocked ∧ d.idleLanes c = [0, 1, 2, 3, 4, 5, 6, 7] ∧ d.power.st = .slack ∧ bitsOf d.sched.warm 23 16 ≠ 0 ∧
       (d.clusterUsable c = false ∨ above)
     (gates → t = d.setCluster c { x with clk := .gating false, gateAt := some d.cycle }) ∧ (¬gates → t = d)) ∧
   (∀ (c : Fin 16) (s : State), Does (.clusterGated c) s fun t =>
     let d := s.dev
     let x := d.cluster c
     (x.clk = .gating true → t = d.setCluster c { x with clk := .waking, gateAt := none }) ∧
     (x.clk = .gating false → t = d.setCluster c { x with clk := .gated, gateAt := none }) ∧
     ((∀ b, x.clk ≠ .gating b) → t = d)) ∧
   (∀ (g : Fin 8) (ok : Bool) (s : State), Does (.groupWakeEnd g ok) s fun t =>
     let d := s.dev
     let x := d.group g
     let idle := d.waitingOn g = [] ∧ ∀ e ∈ d.sched.items, e.2.stage ≠ .deferred
     (d.awake = false ∨ (x.testWake = false ∧ x.clk ≠ .waking) → t = d) ∧
     (d.awake = true → x.testWake = true → x.clk ≠ .waking →
       t = (d.setGroup g { x with testWake := false, wakeFails := if ok then 0 else x.wakeFails }).bnReleaseEnd g ok) ∧
     (d.awake = true → x.testWake = false → x.clk = .waking → ok = true → idle → t = d.setGroup g { x with clk := .clocked, wakeFails := 0 }) ∧
     (d.awake = true → x.testWake = false → x.clk = .waking → ok = false → t = d.groupWakeFailed g ∧ ∀ e, e < 4 → t.gave (.event (128 + (4 * (g : Nat) + e))))) ∧
   (∀ (g : Fin 8) (s : State), Does (.engineGroupGated g) s fun t =>
     let d := s.dev
     let x := d.group g
     let used := ∃ e ∈ d.sched.items, ∃ p : Nat, (p = 2 * g ∨ p = 2 * g + 1) ∧ (e.2.onPair p = true ∨ e.2.parkedOn p = true)
     (x.clk = .clocked → ¬used → d.power.st = .slack → t = d.setGroup g { x with clk := .gated }) ∧
     (x.clk ≠ .clocked ∨ used ∨ d.power.st ≠ .slack → t = d))) ∧
  ((∀ (c : Fin 16) (s : State), Does (.lcRelease c) s fun t =>
     let d := s.dev
     let a := lcAt c Off.lcCtrl
     (d.writeBarred a = true → t = d.writeLost a) ∧
     (d.writeBarred a = false → d.bit a 1 = true → t = d) ∧
     (d.writeBarred a = false → d.bit a 1 = false → d.cust.mode = .maintenance → (d.cluster c).quarantined = true →
       t = (d.setReg a (d.reg a ||| 2)).setCluster c { d.cluster c with
         clk := (if (d.cluster c).clk = .gating false ∨ (d.cluster c).clk = .gating true then .gating true else if d.awake = true then .waking else .gated)
         testWake := true, gateAt := none }) ∧
     (d.writeBarred a = false → d.bit a 1 = false → (d.cust.mode ≠ .maintenance ∨ (d.cluster c).quarantined = false) →
       t = d.writeLost (lcAt c 0))) ∧
   (∀ (e : Fin 32) (s : State), Does (.bnRelease e) s fun t =>
     let d := s.dev
     let a := bnAt e Off.bnCtrl
     (d.writeBarred a = true → t = d.writeLost a) ∧
     (d.writeBarred a = false → d.bit a 1 = true → t = d) ∧
     (d.writeBarred a = false → d.bit a 1 = false → d.cust.mode = .maintenance → (d.engine e).quarantined = true →
       t = (d.setReg a (d.reg a ||| 2)).setGroup ((e : Nat) / 4) { d.group ((e : Nat) / 4) with testWake := true }) ∧
     (d.writeBarred a = false → d.bit a 1 = false → (d.cust.mode ≠ .maintenance ∨ (d.engine e).quarantined = false) →
       t = d.writeLost (bnAt e 0))) ∧
   (∀ (c : Fin 16) (half : Fin 2) (bits : Word) (s : State), Does (.lcFailClear c half bits) s fun t =>
     let d := s.dev
     let a := lcAt c (Off.lcFail0 + 4 * half)
     (d.writeBarred a = true → t = d.writeLost a) ∧
     (d.writeBarred a = false → bits = 0 → t = d) ∧
     (d.writeBarred a = false → bits ≠ 0 → d.cust.mode ≠ .maintenance → t = d.writeLost a) ∧
     (d.writeBarred a = false → bits ≠ 0 → d.cust.mode = .maintenance →
       (∀ i, i < 32 → t.bit a i = (d.bit a i && (!bits.getLsbD i || (d.pages.cyc.hwSet.get 0 a).testBit i))) ∧
       d.regsBut t [a, lcAt c Off.lcMismatch] ∧ d.onlyRegs t ∧
       ∀ l, l < 8 →
         let fell := l / 4 = (half : Nat) ∧ ∃ i, 8 * (l % 4) ≤ i ∧ i < 8 * (l % 4) + 8 ∧ d.bit a i = true ∧ t.bit a i = false
         (fell → t.laneMismatch c l = 0) ∧ (¬fell → t.laneMismatch c l = d.laneMismatch c l))) ∧
   (∀ (e : Fin 32) (bits : Word) (s : State), Does (.bnFailClear e bits) s fun t =>
     let d := s.dev
     let a := bnAt e Off.bnFail
     let m := bits.toNat % 128
     (d.writeBarred a = true → t = d.writeLost a) ∧
     (d.writeBarred a = false → m = 0 → t = d) ∧
     (d.writeBarred a = false → m ≠ 0 → d.cust.mode ≠ .maintenance → t = d.writeLost a) ∧
     (d.writeBarred a = false → m ≠ 0 → d.cust.mode = .maintenance →
       t = if d.reg a &&& m ≠ (d.w1c a m).reg a &&& m then (d.w1c a m).setReg (bnAt e Off.bnMismatch) 0 else d.w1c a m)) ∧
   (∀ (c : Fin 16) (s : State), Does (.lcSoftReset c) s fun t =>
     let d := s.dev
     let base := lcAt c 0
     (d.writeBarred (base + 8) = false → d.bit (base + 8) 2 = false →
       t.pageResetting base = true ∧ t.reg (lcAt c Off.lcMismatch) = 0 ∧ d.onlyRegs t) ∧
     (d.writeBarred (base + 8) = true ∨ d.bit (base + 8) 2 = true → t = d.writeLost base)) ∧
   (∀ (e : Fin 32) (s : State), Does (.bnSoftReset e) s fun t =>
     let d := s.dev
     let base := bnAt e 0
     (d.writeBarred (base + 8) = false → d.bit (base + 8) 2 = false →
       t.pageResetting base = true ∧ t.reg (bnAt e Off.bnMismatch) = 0 ∧
       ∀ i : Nat, i / 2 = (e : Nat) / 2 → (t.engine i).withdrawn = true) ∧
     (d.writeBarred (base + 8) = true ∨ d.bit (base + 8) 2 = true → t = d.writeLost base)))

/-- BUFFER_READ_END, OPERAND_ARRIVAL, OPERAND_REFUSAL, SESSION_DERIVATION_END, STORE_FETCH_END and RETRY_RELEASE. Each of
them acts on an item that waits for it and changes nothing otherwise. A buffer that cannot be read ends an item FORMAT with
detail 5 and counts on source 212; contents that its service refuses end it FORMAT with the service's detail; good contents
become its data. The random block is 32 fresh bytes; in a shortage the request waits in class 3. A good read of a valid run
delivers the run's key and its attributes. A refusal ends an item of no bundle with its status, but KEY_STATUS never
KEY_ABSENT. A derivation needs its base key and its card data alone; one whose two runs agree gives the item the session
key; a base key that its checks refuse ends it with their status, and a second mismatch FAULT_WITHHELD with detail 3. A
fetch that finds no copy ends its waiters KEY_ABSENT, one that finds none that authenticates counts on source 163. A retry
takes its entry off the list and asks again. (03_host_queues.md, 06_payment_services.md, 08_scheduler.md,
09_key_hierarchy.md, 10_record_store.md). -/
def Obligations.OperandsArrive : Prop :=
  (∀ (n : Nat) (data : Option Bytes) (s : State), Does (.bufferReadEnd n data) s fun t =>
    let d := s.dev
    ((∀ x, d.item n = some x → ¬(x.stage = .bundleRead ∨ (x.stage = .waiting ∧ x.ops.buf = .asked))) → t = d) ∧
    ∀ x, d.item n = some x →
      let counted := fun (b : Bytes) => d.countEvent (some x.route.vf) 0x13 (min b.length x.desc.inLen)
      let waits := x.stage = .waiting ∧ x.ops.buf = .asked ∧ x.desc.bundle = false
      (x.stage = .bundleRead → data = none → ∃ e : Device, e.ended n .format 5 ∧ t = e.fault 212 ∧ t.gave (.event 212)) ∧
      (x.stage = .bundleRead → ∀ b, data = some b → ∀ steps, steps = bundleSteps (padTo x.desc.inLen b) x.desc.inLen →
        (bundleOk x.desc steps = false → t.ended n .format 4) ∧
        (bundleOk x.desc steps = true → t = ((counted b).setItem n { x with steps := steps }).serviceStep n)) ∧
      (waits → data = none → ∃ e : Device, e.ended n .format 5 ∧ t = e.fault 212 ∧ t.gave (.event 212)) ∧
      (waits → ∀ b, data = some b → ∀ got, got = padTo x.desc.inLen b →
        (∀ k, d.bufferCheck x.desc got = some k → t.ended n .format k) ∧
        (d.bufferCheck x.desc got = none → d.settled t n { x with ops := { x.ops with buf := .here, data := got } }))) ∧
  (∀ (n : Nat) (which : Fin 3) (read : SlotRead) (s : State), Does (.operandArrival n which read) s fun t =>
    let d := s.dev
    ((∀ x, d.item n = some x → x.stage ≠ .waiting ∨ (if (which : Nat) = 2 then x.ops.rnd ≠ .asked else x.op ((which : Nat) == 1) ≠ .asked)) → t = d) ∧
    ∀ x, d.item n = some x → x.stage = .waiting →
      ((which : Nat) = 2 → x.ops.rnd = .asked → d.rng.shortage = true → t = d.queueRequest { cls := 3, item := n }) ∧
      ((which : Nat) = 2 → x.ops.rnd = .asked → d.rng.shortage = false → x.desc.bundle = false → d.settled t n { x with
        ops := { x.ops with rnd := .here, random := d.random 32 }, run := { x.run with draws := x.run.draws ++ [d.random 32] } }) ∧
      (∀ b : Bool, (which : Nat) = (if b then 1 else 0) → x.op b = .asked → x.current.service ≠ 0x0405 → x.handle b % 256 = 2 →
        tokenInB x.current.service = false → ∀ k r, r.st = .valid → read = .good →
        d.findRun (d.tenantOf x) false (bitsOf (x.handle b) 63 24) (bitsOf (x.handle b) 23 8) = some (k, r) →
        t = ((d.stamp).setRun k { r with used := d.keys.useStamp }).deliverKey n b (some { key := r.key, attr := r.attr, derived := false }))) ∧
  (∀ (n : Nat) (which : Fin 4) (why : Refuse) (s : State), Does (.operandRefusal n which why) s fun t =>
    let d := s.dev
    ((∀ x, d.item n = some x → x.outstanding which = false) → t = d) ∧
    ∀ x, d.item n = some x → x.outstanding which = true → x.desc.bundle = false →
      (why = .bufferRead → (which : Nat) = 3 → t.ended n .format 5) ∧
      (why ≠ .bufferRead → (which : Nat) < 2 → ¬(x.asksStatus = true ∧ why.status.1 = .keyAbsent) → t.ended n why.status.1 why.status.2) ∧
      (why ≠ .bufferRead → (which : Nat) < 2 → x.asksStatus = true → why.status.1 = .keyAbsent → t = d) ∧
      ((why = .bufferRead ∧ (which : Nat) ≠ 3) ∨ (why ≠ .bufferRead ∧ 2 ≤ (which : Nat)) → t = d)) ∧
  (∀ (n : Nat) (mismatches : Fin 3) (s : State), Does (.sessionDerivationEnd n mismatches) s fun t =>
    let d := s.dev
    let due := fun (x : Item) => x.stage = .waiting ∧ x.ops.a = .here ∧ x.ops.buf.settled = true ∧ x.run.derived = false
    ((∀ x, d.item n = some x → ¬due x) → t = d) ∧
    ∀ x, d.item n = some x → due x → x.desc.bundle = false →
      ∀ k base, sessionIndex x.current.service x.current.variant = some k → x.ops.keyA = some base →
        (∀ st j, d.keyCheck x false base = some (st, j) → t.ended n st j) ∧
        (d.keyCheck x false base = none → (mismatches : Nat) = 2 → ∀ y, ((d.fault 162).fault 162).item n = some y → y.desc.bundle = false →
          t.ended n .faultWithheld 3) ∧
        (d.keyCheck x false base = none → (mismatches : Nat) = 0 → d.settled t n { x with
          ops := { x.ops with keyA := some (x.sessionKey base k) }, run := { x.run with derived := true } })) ∧
  (∀ (slot : Nat) (fetched : FetchEnd) (s : State), Does (.storeFetchEnd slot fetched) s fun t =>
    let d := s.dev
    ((∀ r, d.keys.runs.find? slot = some r → r.st = .valid) → t = d) ∧
    ∀ r, d.keys.runs.find? slot = some r → r.st ≠ .valid →
      let gone := r.vault = false ∧ (d.keyRecord r.tenant r.id r.version = none ∨ d.keyRetired r.tenant r.id r.version = true)
      (fetched = .absent ∨ (fetched = .found ∧ gone) → t = (d.dropRun slot).refuseWaiters r .keyAbsent 0) ∧
      (fetched = .unauthentic → t = ((d.dropRun slot).fault 163).refuseWaiters r .keyPoisoned (if r.refetch then 0 else 1)) ∧
      (fetched = .found → r.vault = false → ¬gone → ∀ q, d.unwrapRun r = some q → d.waitersOf q = [] →
        t = (d.stamp).setRun slot { q with used := d.keys.useStamp })) ∧
  (∀ (n : Nat) (s : State), Does (.retryRelease n) s fun t =>
    let d := s.dev
    let e := d.dropDelay retryList n
    (d.hasDelay retryList n = false → t = d) ∧
    (d.hasDelay retryList n = true → 2 ^ 40 ≤ n → t = d.retryRead (n - 2 ^ 40)) ∧
    (d.hasDelay retryList n = true → n < 2 ^ 40 → (∀ x, d.item n = some x → x.stage ≠ .waiting) → t = e) ∧
    (d.hasDelay retryList n = true → n < 2 ^ 40 → ∀ x, d.item n = some x → x.stage = .waiting →
      x.ops.a = .asked → x.ops.b ≠ .asked → x.current.keyA % 256 = 2 → x.current.service ≠ 0x0405 →
      ∀ id ver, id = bitsOf x.current.keyA 63 24 → ver = bitsOf x.current.keyA 23 8 → d.findRun (d.tenantOf x) false id ver = none →
      t = e.startFill n x false id ver))

/-- TICK, SWEEP_RELEASE, the sweep pass, the control cores, and the scheduler's own errors. A tick in any state but on the
battery or while power stops reports source 246 in SLACK and FLOOD when 7 to 9 AON cycles did not lie between it and the
last; with no work item, no delayed entry, no curve and no VF it advances the tick by one and the cycle to the next multiple
of 1,200, takes up the limits and settings that the registers hold, and slides the internal window. A released sweep entry
makes the pass's item or, without an entry for it, tries again at the next tick. A pass moves on by 65,536 slots and queues
the next. A core work item goes to the chosen core with an interrupt, its report takes it out, and one that is late is
offered again and counts on source 245. An unreadable matching store ends an item SQUASHED, one on a lane when its run ends,
and counts on source 241; a dispatch not accepted makes the item ready again, its cycles unstarted again, and counts on
source 249; a rebuilt list is no longer under repair. (08_scheduler.md, 09_key_hierarchy.md, 10_record_store.md,
14_tamper.md, 17_random_numbers.md, 12_tenancy.md). -/
def Obligations.SchedulerWork : Prop :=
  (∀ (aon : Nat) (s : State), Does (.tick aon) s fun t =>
    let d := s.dev
    let off := d.power.st = .battery ∨ d.power.st = .stopping
    let early := (d.power.st = .slack ∨ d.power.st = .flood) ∧ (aon < 7 ∨ 9 < aon)
    (off → t = d) ∧
    (¬off → early → t.gave (.event 246)) ∧
    (¬off → ¬early → d.sched.items = [] → d.sched.delays = [] → d.units.curves = [] → d.front.vfs = [] →
      t = ({ d with cycle := (d.cycle / 1200 + 1) * 1200, pages := { d.pages with cyc := Cyc.empty } }.mapSched fun q => { q with
        tick := (q.tick + 1) % 2 ^ 32, vfPtr := (q.vfPtr + 1) % 4096, warm := d.reg Off.devWarm, admitCfg := d.reg Off.devAdmit
        ctrl := d.reg (Page.sched.base 0 + Off.schedCtrl), timer := d.reg (Page.sched.base 0 + Off.schedTimer)
        internalWin := 0 :: q.internalWin.take 15 }).mapRng fun r => { r with rctTick := false, aptTick := false })) ∧
  (∀ (k : Fin 3) (s : State), Does (.sweepRelease k) s fun t =>
    let d := s.dev
    let e := d.dropDelay sweepList k
    (d.hasDelay sweepList k = false → t = d) ∧
    (d.hasDelay sweepList k = true → (k : Nat) = 0 → d.internalEntry ≠ none →
      t = e.internalItem .sweep .keySide 1 0 ∧ t.standsAt d.sched.nextItem .ready) ∧
    (d.hasDelay sweepList k = true → (k : Nat) = 0 → d.internalEntry = none → t = e.addDelay sweepList 0 ((d.sched.tick + 1) % 2 ^ 32)) ∧
    (d.hasDelay sweepList k = true → (k : Nat) = 1 → t = if d.store.op = some .scrub then e.scrubStep else e) ∧
    (d.hasDelay sweepList k = true → (k : Nat) = 2 → t = if d.store.op = some .compact then e.compactStep.queueStep .compact else e)) ∧
  (∀ (failing : List Nat) (s : State), Does (.keyExpirySweepPass failing) s fun t =>
    let d := s.dev
    let passes := d.sched.items.filter fun e => e.2.work == some .sweep && e.2.stage == .ready
    (passes = [] → t = d) ∧
    ∀ e es, passes = e :: es → t.hasDelay sweepList 0 = true ∧ t.keys.sweepPos = (d.keys.sweepPos + 65536) % 1048576 ∧
      ((∀ r ∈ d.keys.runs, ¬(d.keys.sweepPos ≤ r.1 ∧ r.1 < d.keys.sweepPos + 65536)) → t.keys.runs = d.keys.runs ∧ t.item e.1 = none)) ∧
  (∀ s : State, Does .dispatchCore s fun t =>
    let d := s.dev
    let first := d.firstOf (d.readyItems .core fun _ _ => true)
    (d.dispatches 2 = false ∨ first = none → t = d) ∧
    (d.dispatches 2 = true → ∀ n x, first = some (n, x) →
      (d.chooseCore x.level none = none → t = d) ∧
      (∀ c, d.chooseCore x.level none = some c → t.gave (.sent (.coreIrq c n)) ∧
        t.item n = some { x with stage := .running, run := { x.run with unit := some (.core c) } }))) ∧
  (∀ (n : Nat) (s : State), Does (.coreWorkReport n) s fun t =>
    let d := s.dev
    ((∀ x, d.item n = some x → ¬(x.stage = .running ∧ x.exec = .core)) → t = d) ∧
    (∀ x, d.item n = some x → x.stage = .running → x.exec = .core → (∀ e ∈ d.sched.items, e.2.stage ≠ .ingest) →
      t = d.dropItem n)) ∧
  (∀ (n : Nat) (s : State), Does (.coreItemLate n) s fun t =>
    let d := s.dev
    ((∀ x, d.item n = some x → ¬(x.stage = .running ∧ ∃ c, x.run.unit = some (.core c))) → t = d) ∧
    (∀ x c, d.item n = some x → x.stage = .running → x.run.unit = some (.core c) → t.gave (.event 245))) ∧
  (∀ (n : Nat) (s : State), Does (.dispatchNotAccepted n) s fun t =>
    let d := s.dev
    let onUnit := fun (x : Item) => x.stage = .running ∧ x.run.staged = none ∧
      ((∃ c l, x.run.unit = some (.lane c l)) ∨ (∃ p, x.run.unit = some (.pipe p)) ∨ ∃ p, x.run.unit = some (.pair p))
    ((∀ x, d.item n = some x → ¬onUnit x) → t = d) ∧
    ∀ x, d.item n = some x → onUnit x →
      let cycles := if x.run.firstUnit.isSome then 0 else if x.desc.bundle then d.stepCycles x.current else x.adm.cycles
      let y := { x with stage := .ready, adm := { x.adm with unstarted := x.adm.unstarted + cycles }, run := { x.run with unit := none, begun := x.run.firstUnit.isSome } }
      t.gave (.event 249) ∧
      t = (match x.run.unit with | some (.pair p) => (d.freePair p).setItem n y | _ => d.setItem n y).fault 249) ∧
  (∀ (n : Nat) (s : State), Does (.matchingStoreUnreadable n) s fun t =>
    let d := s.dev
    let onLane := fun (x : Item) => x.stage = .running ∧ ∃ c l, x.run.unit = some (.lane c l)
    ((∀ x, d.item n = some x → x.stage = .finished) → t = d) ∧
    ∀ x, d.item n = some x → x.stage ≠ .finished → t.gave (.event 241) ∧
      (x.work ≠ none → t = (d.dropItem n).fault 241) ∧
      (x.work = none → onLane x → t = (d.setItem n { x with run := { x.run with doom := some (.squashed, 0) } }).fault 241) ∧
      (x.work = none → ¬onLane x → t = (d.finishItem n .squashed 0).fault 241)) ∧
  (∀ (c : Fin 3) (delay : Bool) (s : State), Does (.listRebuildEnd c delay) s fun t =>
    let d := s.dev
    let k := ((c : Nat), delay)
    (k ∈ d.sched.rebuilding → t = (d.mapSched fun q => { q with rebuilding := q.rebuilding.filter fun e => e != k }).raiseInt .sched 0 0 ∧
      k ∉ t.sched.rebuilding) ∧
    (k ∉ d.sched.rebuilding → t = d))

/-- DISPATCH_LANE, DISPATCH_KEY_SIDE, DISPATCH_ENGINE and PAIR_FREE: the first item in order, its unit, and the checks at
dispatch. While a class dispatches, the first of its ready items that a unit can take is taken up; with none, or while the
class does not dispatch, no item starts. A table that is gone refuses it TABLE with detail 1, no lane that has its units
TABLE with detail 4 or, for a second run, FAULT_WITHHELD with detail 2; a tag that does not fit the version's header or
bundles withdraws the table's version and counts on source 244; a check of the stream or of a key refuses it with its
status; otherwise it starts on the lane, the pipeline or the pair that is chosen, and the capacity released is offered to
deferred items. A pair that becomes free resumes its parked job, unless a ready item stands at a higher level. Engine items
that still wait ask for yields. (04_tide_tables.md, 05_cipher_lanes.md, 06_payment_services.md, 07_bignum_engines.md,
08_scheduler.md). -/
def Obligations.Dispatches : Prop :=
  (∀ (tagOk : Bool) (s : State), Does (.dispatchLane tagOk) s fun t =>
    let d := s.dev
    let first := d.firstOf (d.readyItems .lane fun _ x => d.laneReady x)
    (d.dispatches 0 = false ∨ first = none → t = d) ∧
    ∀ n x, d.dispatches 0 = true → first = some (n, x) →
      (d.runTable x = none → t = (d.refuse n .table 1).settle n) ∧
      ∀ v, d.runTable x = some v →
        (d.chooseLane v.resMask x.firstCluster = none → x.firstCluster ≠ none → t = (d.refuse n .faultWithheld 2).settle n) ∧
        (d.chooseLane v.resMask x.firstCluster = none → x.firstCluster = none → t = ((d.refuse n .table 4).settle n).released) ∧
        ∀ c l, d.chooseLane v.resMask x.firstCluster = some (c, l) →
          let right := tagOk = true ∧ d.headerTag v = v.tag
          (¬right → ∀ k, x.bound = some k → t = (d.withdraw k).released ∧ t.gave (.event 244)) ∧
          (right → ∀ st k, d.dispatchCheck x v = some (st, k) → t = ((d.refuse n st k).settle n).released) ∧
          (right → d.dispatchCheck x v = none → t = ((d.chargeInternal x).startLane n c l x v).released)) ∧
  (∀ s : State, Does .dispatchKeySide s fun t =>
    let d := s.dev
    let first := d.firstOf (d.readyItems .keySide fun _ _ => true)
    (d.dispatches 0 = false ∨ d.freePipe = none ∨ first = none → t = d) ∧
    ∀ p n x, d.dispatches 0 = true → d.freePipe = some p → first = some (n, x) →
      (d.runTable x = none → t = (d.refuse n .table 1).settle n) ∧
      ∀ v, d.runTable x = some v →
        (∀ st k, d.dispatchCheck x v = some (st, k) → t = ((d.refuse n st k).settle n).released) ∧
        (d.dispatchCheck x v = none → t = (d.startRun n (.pipe p)).released)) ∧
  (∀ s : State, Does .dispatchEngine s fun t =>
    let d := s.dev
    let first := d.firstOf (d.readyItems .engine fun _ x => (d.choosePair x).isSome)
    (d.dispatches 1 = false → t = d) ∧
    (d.dispatches 1 = true → first = none → t = d.askYields) ∧
    ∀ n x p, d.dispatches 1 = true → first = some (n, x) → d.choosePair x = some p →
      (∀ e st k, x.ops.keyA = some e → d.keyCheck x false e = some (st, k) → t = ((d.refuse n st k).released).askYields) ∧
      ((∀ e, x.ops.keyA = some e → d.keyCheck x false e = none) → x.rsaGen = false →
        ((d.group (p / 2)).clk = .clocked → t = ((d.startPair n p).released).askYields) ∧
        ((d.group (p / 2)).clk ≠ .clocked → t = ((d.setGroup (p / 2) { d.group (p / 2) with clk := .waking }).setItem n { x with
          stage := .running
          run := { x.run with unit := some (.pair p), checkFail := false, unitFail := false, staged := none } }).askYields))) ∧
  (∀ (p : Fin 16) (s : State), Does (.pairFree p) s fun t =>
    let d := s.dev
    let parked := d.firstOf (d.resumable p)
    let ready := d.firstOf (d.readyItems .engine fun _ x => d.pairMay x p)
    let may := d.pairBusy p = false ∧ d.dispatches 1 = true
    (¬may ∨ (parked = none ∧ ready = none) → t = d) ∧
    (may → ∀ n x, parked = some (n, x) → (∀ m y, ready = some (m, y) → y.level ≤ x.level) →
      t = d.setItem n { x with stage := .running }) ∧
    (may → ∀ m y, ready = some (m, y) → (∀ n x, parked = some (n, x) → x.level < y.level) → t = (d.startEngine m p y).askYields))

/-- The ends of runs on lanes, pipelines and pairs: the release gate, reruns, withheld outputs, yields and unit failures.
The end of a run acts on an item that runs on the unit and whose outputs are staged, and changes nothing otherwise; a lane
is wiped then, and the comparisons that its body found unequal count as mismatches. An item whose table was withdrawn, or
whose matching store was unreadable, in mid-run completes with that status. With no mismatch, no failed unit and the gates
open the outputs are handed on together. A squashed item leaves without a completion, shut gates complete it MODE. A failed
first run is repeated where another unit can take it, and withheld where none can; a second one that fails is withheld, and
when its unit failed the unit is quarantined. Every mismatch counts on the unit's source. A signature whose attempts ran out
is withheld with detail 6. A failure of a lane, of a clock or of an engine fails the items that run there and counts; an
idle lane or a gated cluster feels none. A job fails its gate check where its result does not verify. At a yield point a
squashed job leaves, a frozen VF's or a requested job parks, and a job of a withdrawn pair restarts; any other goes on from
there. (05_cipher_lanes.md, 07_bignum_engines.md, 06_payment_services.md, 04_tide_tables.md, 15_faults.md). -/
def Obligations.RunsEnd : Prop :=
  (∀ (n m : Nat) (ok : Bool) (s : State), Does (.laneRunEnd n m ok) s fun t =>
    let d := s.dev
    let runs := fun (x : Item) (c l : Nat) => x.stage = .running ∧ x.run.unit = some (.lane c l) ∧ (x.run.staged ≠ none ∨ x.run.doom ≠ none)
    ((∀ x c l, d.item n = some x → ¬runs x c l) → t = d) ∧
    ∀ x c l, d.item n = some x → runs x c l →
      let k := m + (if ok then 0 else 1) + x.run.differs
      let e := d.setLane c l Lane.wiped
      let opened := x.run.squash = false ∧ (d.gatesShut = false ∨ x.current.diagnostics = true)
      t = ((((List.range k).foldl (fun d _ => d.checkFailure c l) d).setLane c l Lane.wiped).laneGate n c l (decide (0 < k))) ∧
      (k = 0 → x.run.squash = true → t = e.discardItem n) ∧
      (k = 0 → x.run.squash = false → ¬opened → t = e.withhold n .mode 0) ∧
      (k = 0 → opened → ∀ g j, x.run.doom = some (g, j) → t = e.withhold n g j) ∧
      (k = 0 → opened → x.run.doom = none → x.run.unitFail = false → ∀ st, x.run.staged = some st → t = e.releaseStaged n st) ∧
      (k = 0 → opened → x.run.doom = none → x.run.unitFail = true → x.run.firstUnit = none →
        (e.healthyElsewhere (e.needMask x) (some c) = true → t = e.rerun n x) ∧
        (e.healthyElsewhere (e.needMask x) (some c) = false → t = e.withhold n .faultWithheld 2)) ∧
      (k = 0 → opened → x.run.doom = none → x.run.unitFail = true → x.run.firstUnit ≠ none →
        t = (e.quarantineCluster c 1 l).withhold n .faultDouble c)) ∧
  (∀ (c : Fin 16) (l : Fin 8) (u : LaneUnit) (s : State), Does (.laneFailure c l u) s fun t =>
    let d := s.dev
    let src := 64 + 4 * (c : Nat) + (if u = .keyPort then 2 else 1)
    (d.laneBusy c l = false → t = d) ∧
    (d.laneBusy c l = true → t.gave (.event src) ∧ t = ((d.fault src).failRuns c (· == (l : Nat))).markLane c l u.bits)) ∧
  (∀ (c : Fin 16) (s : State), Does (.glitchDetectorTrip c) s fun t =>
    let d := s.dev
    let src := 64 + 4 * (c : Nat) + 3
    ((d.cluster c).clk = .gated → t = d) ∧
    ((d.cluster c).clk ≠ .gated → t.gave (.event src) ∧ t = (d.fault src).failRuns c fun _ => true)) ∧
  (∀ (n : Nat) (m : Fin 3) (s : State), Does (.keySideTableEnd n m) s fun t =>
    let d := s.dev
    let runs := fun (x : Item) (st : Staged) => x.stage = .running ∧ (∃ p, x.run.unit = some (.pipe p)) ∧ x.run.staged = some st
    ((∀ x st, d.item n = some x → ¬runs x st) → t = d) ∧
    ∀ x st, d.item n = some x → runs x st →
      ((m : Nat) ≠ 0 → x.run.squash = false → (d.fault 162).gatesShut = false → (m : Nat) = 1 → t = (d.fault 162).releaseStaged n st) ∧
      ((m : Nat) = 2 → x.run.squash = false → ((d.fault 162).fault 162).gatesShut = false → t = ((d.fault 162).fault 162).withhold n .faultWithheld 3) ∧
      ((m : Nat) = 0 → x.run.squash = true → t = d.discardItem n) ∧
      ((m : Nat) = 0 → x.run.squash = false → d.gatesShut = true → t = d.withhold n .mode 0) ∧
      ((m : Nat) = 0 → x.run.squash = false → d.gatesShut = false → t = d.releaseStaged n st)) ∧
  (∀ (n : Nat) (mismatch : Bool) (s : State), Does (.engineJobEnd n mismatch) s fun t =>
    let d := s.dev
    let runs := fun (x : Item) (p : Nat) (st : Staged) => x.stage = .running ∧ x.run.unit = some (.pair p) ∧ x.run.staged = some st
    ((∀ x p st, d.item n = some x → ¬runs x p st) → t = d) ∧
    ∀ x p st, d.item n = some x → runs x p st →
      let bad := mismatch = true ∨ d.gateCheck x st = false
      let fine := x.run.squash = false ∧ d.gatesShut = false ∧ ¬bad
      (bad → t = (((d.pairMismatch p).pairGate n p true st).freePair p).endGeneration p x) ∧
      (fine → x.run.unitFail = false → t = ((d.releaseStaged n st).freePair p).endGeneration p x) ∧
      (fine → x.run.unitFail = true → x.run.firstUnit = none → d.otherGroup x p = true →
        t = ((d.rerunEngine n x).freePair p).endGeneration p x) ∧
      (fine → x.run.unitFail = true → x.run.firstUnit = none → d.otherGroup x p = false →
        t = ((d.withhold n .faultWithheld 5).freePair p).endGeneration p x) ∧
      (fine → x.run.unitFail = true → x.run.firstUnit ≠ none →
        t = (((d.quarantinePair p 1).withhold n .faultDouble (0x20 + p)).freePair p).endGeneration p x)) ∧
  (∀ (n : Nat) (s : State), Does (.mlDsaAttemptLimit n) s fun t =>
    let d := s.dev
    let runs := fun (x : Item) (p : Nat) => x.stage = .running ∧ x.run.unit = some (.pair p) ∧ x.desc.service = 0x0520
    ((∀ x p, d.item n = some x → ¬runs x p) → t = d) ∧
    ∀ x p, d.item n = some x → runs x p →
      t = ((if x.run.squash then d.discardItem n else d.withhold n .faultWithheld 6).freePair p)) ∧
  (∀ (e : Fin 32) (u : Fin 6) (s : State), Does (.engineFailure e u) s fun t =>
    let d := s.dev
    let d1 := ((d.hwSet (bnAt e Off.bnFail) (2 ^ (u : Nat))).raiseInt .bn e 0).fault (128 + e)
    t.gave (.event (128 + e)) ∧
    (d1.jobOn ((e : Nat) / 2) = none → t = d1) ∧
    (∀ n x, d1.jobOn ((e : Nat) / 2) = some (n, x) → t = d1.setItem n { x with run := { x.run with unitFail := true } })) ∧
  (∀ (n : Nat) (s : State), Does (.yieldPoint n) s fun t =>
    let d := s.dev
    let runs := fun (x : Item) (p : Nat) => x.stage = .running ∧ x.run.unit = some (.pair p) ∧ (d.group (p / 2)).clk = .clocked
    ((∀ x p, d.item n = some x → ¬runs x p) → t = d) ∧
    ∀ x p, d.item n = some x → runs x p →
      let parked := (d.setItem n x.park).freePair p
      let asked := (d.pair p).yieldFor ≠ none ∧ d.parkedCount p < 8
      (x.run.squash = true → t = ((d.discardItem n).freePair p).abortGeneration x) ∧
      (x.run.squash = false → d.vfHeld x.route.vf = true → t = parked) ∧
      (x.run.squash = false → d.vfHeld x.route.vf = false → (d.engine (2 * p)).withdrawn = true → t = (d.freePair p).restartJob n x) ∧
      (x.run.squash = false → d.vfHeld x.route.vf = false → (d.engine (2 * p)).withdrawn = false → asked → t = parked) ∧
      (x.run.squash = false → d.vfHeld x.route.vf = false → (d.engine (2 * p)).withdrawn = false → ¬asked →
        t = d.setItem n { x.park with stage := .running }))

/-- STAGING_WINDOW_WRITE, LOAD, RETIRE, VERSION_FREE and the reload of a version; CURVE_LOAD and CURVE_RETIRE and their
ends. A naturally aligned write of 4 to 64 bytes inside the window stores its bytes there, every other byte of the window
and everything else stays; any other write changes nothing. LOAD copies the image that TBL_SRC names, sets its command bit
and charges a free amount of lane time to the internal window (log entry 146); its end refuses it with the code of the first
step that fails, for a version no newer than the one kept with 0x0C, for want of room with 0x0D, and otherwise keeps the
version and makes it active with code 0. RETIRE outside CUSTODY and MAINTENANCE ends 0x0E, without such a version 0x11. A
leaving version that no item is bound to is freed. A withdrawn version whose records pass the checks again serves again; one
that fails them leaves and counts on source 244. CURVE_LOAD copies the set and ends with the code of the lowest failed
check, or fills its slot; CURVE_RETIRE of an empty slot ends 0x31. (04_tide_tables.md, 07_bignum_engines.md,
02_register_convention.md, 13_modes_custody.md). -/
def Obligations.TableStore : Prop :=
  (∀ (off : Nat) (data : Bytes) (s : State), Does (.stagingWindowWrite off data) s fun t =>
    let d := s.dev
    let n := data.length
    let fits := (n = 4 ∨ n = 8 ∨ n = 16 ∨ n = 32 ∨ n = 64) ∧ off % n = 0 ∧ off + n ≤ 2 ^ 25
    (¬fits → t = d) ∧
    (fits → t = { d with units := { d.units with staging := t.units.staging } } ∧
      ∀ a, t.units.staging.get 0 a = if off ≤ a ∧ a < off + n then data.getD (a - off) 0 else d.units.staging.get 0 a)) ∧
  (∀ s : State, Does .load s fun t =>
    let d := s.dev
    let cmd := schedAt Off.tblCmd
    let src := d.reg (schedAt Off.tblSrc)
    let off := bitsOf src 24 12 * 4096
    let ro := bitOf src 31
    let len := min (imageLen (d.staged off 256)) (2 ^ 25 - off)
    let allowed := d.mayLoad = true ∧ (ro = false ∨ d.cust.mode = .maintenance)
    (d.writeBarred cmd = true → t = d.writeLost cmd) ∧
    (d.writeBarred cmd = false → d.bit cmd 0 = true → t = d) ∧
    (d.writeBarred cmd = false → d.bit cmd 0 = false → d.bit cmd 1 = true → t = d.writeLost cmd) ∧
    (d.writeBarred cmd = false → d.bit cmd 0 = false → d.bit cmd 1 = false →
      t.units.load = some { image := d.staged off len, offset := off, replayOnly := ro, slot := if allowed then 0 else 0x0E } ∧
      t.bit cmd 0 = true ∧ d.regsBut t [cmd] ∧ t.units.tables = d.units.tables ∧
      t.sched = (d.commandStart cmd 0).chargeLoad.sched)) ∧
  (∀ s : State, Does .loadEnd s fun t =>
    let d := s.dev
    let clear := { d with units := { d.units with load := none } }
    (d.units.load = none → t = d) ∧
    ∀ l, d.units.load = some l →
      let v := imageVersion l.image l.replayOnly
      let fails := d.imageFails l.image l.offset true
      let old := l.replayOnly = false ∧ v.ver ≤ d.units.highest.get 0 v.key
      let full := 4096 ≤ d.units.tables.length ∨ 16384 < d.units.blocksUsed + v.blocks
      (l.slot ≠ 0 → t = clear.tableEnd 0 l.slot (some 0)) ∧
      (l.slot = 0 → ∀ c w, fails = some (c, w) → t = clear.tableEnd 0 c w) ∧
      (l.slot = 0 → fails = none → old → t = clear.tableEnd 0 0x0C (some 0)) ∧
      (l.slot = 0 → fails = none → ¬old → full → t = clear.tableEnd 0 0x0D (some 0)) ∧
      (l.slot = 0 → fails = none → ¬old → ¬full → t = (clear.keepTable v l.image).tableEnd 0 0 (some 0))) ∧
  (∀ s : State, Does .retire s fun t =>
    let d := s.dev
    let cmd := schedAt Off.tblCmd
    let sel := d.reg (schedAt Off.tblSel)
    let named := fun (v : TableVersion) => v.service = bitsOf sel 15 0 ∧ v.variant = bitsOf sel 23 16 ∧ v.ver = d.field (schedAt Off.tblSelVer) 15 0
    let free := d.writeBarred cmd = false ∧ d.bit cmd 0 = false ∧ d.bit cmd 1 = false
    (d.writeBarred cmd = true → t = d.writeLost cmd) ∧
    (free → d.mayLoad = false → t = (d.commandStart cmd 1).tableEnd 1 0x0E (some 0)) ∧
    (free → d.mayLoad = true → (∀ e ∈ d.units.tables, ¬named e.2) → t = (d.commandStart cmd 1).tableEnd 1 0x11 (some 0)) ∧
    (free → d.mayLoad = true → ∀ e es, (d.units.tables.filter fun e => decide (named e.2)) = e :: es →
      t = (((d.commandStart cmd 1).mapUnits fun u => { u with
        tables := u.tables.mapV fun _ v => if named v then { v with active := false, leaving := true } else v }).releaseRecords none
          (metaRecords 1 e.2.objectId 2 [])).tableEnd 1 0 (some 0))) ∧
  (∀ (k : Nat) (s : State), Does (.versionFree k) s fun t =>
    let d := s.dev
    ((∀ v, d.table k = some v → v.leaving = false ∨ d.boundTo k = true) → t = d) ∧
    ∀ v, d.table k = some v → v.leaving = true → d.boundTo k = false →
      t = (let e := ({ d with units := { d.units with tables := d.units.tables.erase k } } : Device).showTables
        if d.metaImage 1 v.objectId = [] then e else e.releaseRecords none (metaRecords 1 v.objectId 2 []))) ∧
  (∀ (k : Nat) (s : State), Does (.tableReloadEnd k) s fun t =>
    let d := s.dev
    ((∀ v, d.table k = some v → v.withdrawn = false) → t = d) ∧
    ∀ v, d.table k = some v → v.withdrawn = true →
      let image := d.metaImage 1 v.objectId
      let good := image ≠ [] ∧ d.imageFails image 0 true = none
      (good → ∀ w, w = imageVersion image v.replayOnly → t = { d with units := { d.units with tables := d.units.tables.adjust k fun x =>
        { x with withdrawn := false, header := w.header, body := w.body, grant := w.grant, tag := d.headerTag w } } }) ∧
      (¬good → t.gave (.event 244) ∧ t.table k = none)) ∧
  (∀ s : State, Does .curveLoad s fun t =>
    let d := s.dev
    let cmd := curveAt Off.curveCmd
    let src := d.reg (curveAt Off.curveSrc)
    let off := bitsOf src 24 12 * 4096
    let takes := d.writeBarred cmd = false ∧ d.mayLoad = true ∧ d.reg cmd &&& 3 = 0
    (takes → t = { (d.commandStart cmd 0) with units := { d.units with
      curveLoad := some { image := d.staged off 1024, offset := off, replayOnly := false, slot := bitsOf src 5 0 } } }) ∧
    (¬takes → t = d.writeLost cmd)) ∧
  (∀ (found : Nat) (s : State), Does (.curveLoadEnd found) s fun t =>
    let d := s.dev
    let clear := { d with units := { d.units with curveLoad := none } }
    (d.units.curveLoad = none → t = d) ∧
    ∀ l, d.units.curveLoad = some l →
      (d.curveCode l found ≠ 0 → t = clear.curveEnd 0 (d.curveCode l found) l.slot) ∧
      (d.curveCode l found = 0 → t = ((({ clear with units := { clear.units with
        curves := d.units.curves.insert l.slot { set := l.image, retiring := false } } } : Device).releaseRecords none
          (metaRecords 3 l.slot 1 l.image)).showCurves).curveEnd 0 0 l.slot)) ∧
  (∀ s : State, Does .curveRetire s fun t =>
    let d := s.dev
    let cmd := curveAt Off.curveCmd
    let slot := d.field (curveAt Off.curveSrc) 5 0
    let takes := d.writeBarred cmd = false ∧ d.mayLoad = true ∧ d.reg cmd &&& 3 = 0
    (¬takes → t = d.writeLost cmd) ∧
    (takes → d.units.curves.find? slot = none → t = (d.commandStart cmd 1).curveEnd 1 0x31 slot) ∧
    (takes → ∀ c, d.units.curves.find? slot = some c → t = ({ (d.commandStart cmd 1) with units := { d.units with
      curves := d.units.curves.insert slot { c with retiring := true } } } : Device).emptyCurves))

/-- The lane services: PIN services, ARQC verification, card codes, MAC services, token services and ECHO. A translation
checks the decrypted field against the inbound format (SW0) and releases the block built for the outbound format. The offset
method compares (PIN digit - natural digit) mod 10 with the offset's first n digits, the PVV method four digits; both
capture SW0 and SW1. DUKPT decryption writes the CBC plaintext to the buffer. ARQC verification compares the cryptogram and
releases an ARPC only on a match; transaction data outside 1 to 256 bytes gives FORMAT, detail 3. A card verification value
stands in RESULT as three digits and 0xF, or is compared with INLINE_0. ECHO returns INLINE_0. Outside those conditions
nothing changes. Generation releases the MAC truncated to PARAM[15:8] bytes, in RESULT up to 16 bytes and in the buffer
above; verification compares it with INLINE_0. TOKENIZE and RE_TOKENIZE draw candidates until one is no record's, stage its
record, version 0, ACTIVE, sealed under a stored vault key, and release the token; after eight that are present they end
REFUSED_QUOTA, detail 1. DETOKENIZE releases PAN and expiry. QUERY releases the record's state, and SUSPEND, RESUME and
DELETE stage the record in the new state, or nothing where it has that state; KEY_ABSENT where it is DELETED; while a record
of the token is in flight they wait. An operator table's run gives RESULT, its output stream and its status words; a table
that is gone gives TABLE, detail 1, and a stream larger than OUT_CAP FORMAT, detail 3. A bundle settles its item; no other
item is touched by SERVICE_BUNDLE. (06_payment_services.md, 04_tide_tables.md, 03_host_queues.md, 10_record_store.md). -/
def Obligations.LaneServices : Prop :=
  (let code := fun (k : Nat) (_ : Device) (x : Item) => x.current.bundle = false ∧ x.current.service = k
   let out := fun (f : Item → Staged) (d : Device) (x : Item) => (d, x, f x)
   let translated := fun (x : Item) (block pan : Bytes) =>
     let v := x.current.variant
     let field := pinOpen (v / 16) x.keyBytesA block pan
     mapStatus (some (pinValid (pinFormat (v / 16)) field)) none
       (pinSeal (v % 16) x.keyBytesB (pinFillField (pinFormat (v % 16)) (pinDigits field) x.ops.random) pan) none []
   let pan := fun (x : Item) => x.current.inline1.take 10
   let field := fun (x : Item) => pinOpen (x.current.variant % 16) x.keyBytesA x.current.inline0 (pan x)
   let valid := fun (x : Item) => pinValid (pinFormat (x.current.variant % 16)) (field x)
   ∀ n : Nat,
   Stages (.pinTranslate n) n (code 0x0101) (out fun x => translated x x.current.inline0 (pan x)) ∧
   Stages (.pinTranslateDukpt n) n (code 0x0102) (out fun x => translated x (slice x.ops.data 0 16) (slice x.ops.data 16 10)) ∧
   Stages (.pinVerifyOffset n) n (code 0x0103) (out fun x =>
     let k := x.current.paramHi
     let ds := panDigits (pan x)
     let natural := (nibbles (blockEnc (x.current.variant / 16) x.keyBytesB
       (packNibbles (List.replicate (16 - ds.length) 0xF ++ ds.drop (ds.length - 16)))) k).map (· % 10)
     let pin := pinDigits (field x)
     let same := decide (k ≤ pin.length) && (List.range k).all fun i =>
       (pin.getD i 0 + 10 - natural.getD i 0) % 10 == ((nibbles (x.current.inline1.drop 10) 12).take k).getD i 0
     mapStatus (some (valid x)) (some same) (zeros 16) none []) ∧
   Stages (.pinVerifyPvv n) n (code 0x0104) (out fun x =>
     let ds := panDigits (pan x)
     let tsp := (ds.take (ds.length - 1)).drop (ds.length - 12) ++ [(x.current.inline1.getD 12 0).toNat] ++ (pinDigits (field x)).take 4
     let pvv := (List.range 4).map fun i => Config.pvvDigit x.keyBytesB tsp i % 10
     mapStatus (some (valid x)) (some (pvv == nibbles (slice x.current.inline1 10 2) 4)) (zeros 16) none []) ∧
   Stages (.dukptDataDecrypt n) n (code 0x0105) (out fun x =>
     let a := pinAlg (x.current.variant / 16)
     mapStatus none none (zeros 16)
       (some (cbcDec a x.keyBytesA (slice x.ops.data 0 (algBlock a)) (chop (algBlock a) (x.ops.data.drop 16)))) []) ∧
   Stages (.arqcVerify n) n (code 0x0201) (out fun x =>
     let v := x.current.variant
     let data := if x.desc.bundle then bundleData x.steps x.run.step else x.ops.data.drop 16
     let alg := if v % 16 = 0 then 4 else v % 16
     let arqc := slice x.current.inline0 0 8
     let mac := if v % 16 = 0 then retailMac (x.keyBytesA.take 16) (isoPad 8 (v / 16 % 4 + 1) data)
       else (Config.aesCmac (x.keyBytesA.take (algLen alg)) data).take 8
     let arpc := if v / 64 = 1 then padTo 8 (Config.arpcRaw 1 alg x.keyBytesA arqc (slice x.current.inline0 11 2))
       else if v / 64 = 2 then padTo 4 (Config.arpcRaw 2 alg x.keyBytesA arqc (slice x.current.inline0 11 4)) else []
     if 1 ≤ data.length ∧ data.length ≤ 256 then mapStatus none (some (mac == arqc)) arpc none [] else stagedPlain .format 3) ∧
   Stages (.cvvGenerate n) n (code 0x0210) (out fun x => mapStatus none none (cardValue x) none []) ∧
   Stages (.cvvVerify n) n (code 0x0211) (out fun x =>
     mapStatus none (some (cardValue x == slice x.current.inline0 0 2)) (zeros 16) none []) ∧
   Stages (.echo n) n (code 0x0F00) (out fun x => mapStatus none none x.current.inline0 none [])) ∧
  (let code := fun (k : Nat) (_ : Device) (x : Item) => x.current.bundle = false ∧ x.current.service = k
   let act := fun (k : Nat) (_ : Device) (x : Item) => x.current.bundle = false ∧ x.current.service = 0x0603 ∧ x.current.paramHi = k
   let out := fun (f : Item → Staged) (d : Device) (x : Item) => (d, x, f x)
   let result := fun (r : Bytes) => mapStatus none none r none []
   let generated := fun (mac : Item → Bytes) (x : Item) =>
     let m := (mac x).take x.current.paramHi
     if 16 < x.current.paramHi then mapStatus none none (zeros 16) (some m) [] else result m
   let verified := fun (mac : Item → Bytes) (x : Item) =>
     mapStatus none (some ((mac x).take x.current.paramHi == slice x.current.inline0 0 x.current.paramHi)) (zeros 16) none []
   let retail := fun (x : Item) => retailMac (x.keyBytesA.take 16) (isoPad 8 (x.current.variant / 16) x.stream)
   let cmac := fun (x : Item) => Config.aesCmac
     (x.keyBytesA.take (if x.current.variant / 16 = 0 then 32 else if x.current.variant / 16 = 1 then 16 else 24)) x.stream
   let hmac := fun (x : Item) => Config.hmac (x.keyBytesA.take 32) x.stream
   let drawn := fun (held : List Nat) (pan expiry : Item → Bytes) (d : Device) (x : Item) =>
     match Device.drawToken x.current.paramHi (panDigits (pan x)) (d.tenantOf x) held 64 d x with
     | (e, y, .more) => (e, y, none)
     | (e, y, .full) => (e, y, some (stagedPlain .refusedQuota 1))
     | (e, y, .token t) =>
       let id := t.foldl (fun n k => 10 * n + k) 0
       let body := vaultBody y.current.keyA ((pan x).take 10) (expiry x)
       let made := { typ := tVault, id := id, version := 0, state := 1, frag := 0, fragCount := 1, body := body }
       if y.current.keyA % 256 = 2 then
         (e.drawn, y, some { result (panOperand t) with
           records := [{ made with sealed := sealVault (padTo 32 y.keyBytesA) (e.random 12) body (e.tenantOf y) id }] })
       else (e, y, some { result (panOperand t) with records := [made] })
   let changed := fun (new shown : Nat) (d : Device) (x : Item) =>
     let r := result [BitVec.ofNat 8 shown]
     let id := x.current.keyB
     if d.tokenFlies (d.tenantOf x) id then (d, x, none)
     else match d.tokenRec (d.tenantOf x) id with
       | some old => (d, x, some (if old.state = 3 then stagedPlain .keyAbsent 0 else if old.state = new then r else { r with
           records := [{ typ := tVault, id := id, version := 0, state := new, frag := 0, fragCount := 1, body := d.clearBody old }] }))
       | none => (d, x, some (stagedPlain .keyAbsent 0))
   ∀ (n : Nat) (held : List Nat),
   Stages (.retailMacGenerate n) n (code 0x0301) (out (generated retail)) ∧
   Stages (.retailMacVerify n) n (code 0x0302) (out (verified retail)) ∧
   Stages (.aesCmacGenerate n) n (code 0x0303) (out (generated cmac)) ∧
   Stages (.aesCmacVerify n) n (code 0x0304) (out (verified cmac)) ∧
   Stages (.hmacSha256Generate n) n (code 0x0305) (out (generated hmac)) ∧
   Stages (.hmacSha256Verify n) n (code 0x0306) (out (verified hmac)) ∧
   MayStage (.tokenize n held) n (code 0x0601)
     (drawn held (fun x => x.current.inline1.take 10) fun x => slice x.current.inline1 10 2) ∧
   Stages (.detokenize n) n (code 0x0602) (out fun x => result (x.keyBytesB.take 10 ++ slice x.keyBytesB 10 2)) ∧
   MayStage (.reTokenize n held) n (code 0x0604) (drawn held (fun x => x.keyBytesB.take 10) fun x => slice x.keyBytesB 10 2) ∧
   Stages (.tokenQuery n) n (act 0) (out fun x => result [BitVec.ofNat 8 x.vaultState]) ∧
   MayStage (.tokenSuspend n) n (act 1) (changed 2 2) ∧
   MayStage (.tokenResume n) n (act 2) (changed 1 1) ∧
   MayStage (.tokenDelete n) n (act 3) (changed 3 0) ∧
   Stages (.operatorTableService n) n (fun _ x => x.current.bundle = false ∧ isOperator x.current.service = true) (fun d x =>
     (d, x, match d.runTable x with
       | none => stagedPlain .table 1
       | some t =>
         let c := x.current
         let l := runTableBody t c.inline0 (if c.buf then zeros 16 else c.inline1) x.ops.random x.stream x.keyBytesA x.keyBytesB
         if c.buf = true ∧ c.outCap < t.outBytes then stagedPlain .format 3
         else mapStatus (l.sw.getD 0 none) (l.sw.getD 1 none) l.result
           (if t.outBytes = 0 then none else some (padTo t.outBytes l.out)) [])) ∧
   (∀ s : State, Does (.serviceBundle n) s fun t =>
     (∀ x, s.dev.item n = some x → x.desc.bundle = true → t = s.dev.settle n) ∧
     ((∀ x, s.dev.item n = some x → x.desc.bundle = false) → t = s.dev)))

/-- The key-side services, ROTATE and the ends of a rotation and of a re-wrap. A service that stores versions of a key waits
while the same key ID has a version in flight. KEY_GENERATE creates version 1 of KEY_B's key, KEY_USAGE detail 2 where the
tenant holds the ID, here or at the peers of its placement, which are asked first. KEY_ROTATE stages the next version with
the same attributes, detail 3 past version 65535. KEY_BLOCK_IMPORT and EXPORT give what R265 to R268 say; EXPORT of a key
that is not exportable is KEY_USAGE detail 4, under a weaker protection key detail 5, over OUT_CAP FORMAT detail 3.
KEY_STATUS reports without refusing. RETIRE of the only live version is KEY_USAGE detail 0. ROTATE outside SERVICE and
MAINTENANCE, or with an operation running, is a lost write; else each selected key gets its next version, released to the
store. An operation ends when all its records are committed: rotation with code 1 and the keys it skipped, re-wrap with the
bank ROOTED and no previous root. (06_payment_services.md, 09_key_hierarchy.md, 10_record_store.md,
02_register_convention.md). -/
def Obligations.KeyAndRotation : Prop :=
  let code := fun (k : Nat) (_ : Device) (x : Item) => x.current.bundle = false ∧ x.current.service = k
  let serial := fun (n k : Nat) (d : Device) (x : Item) => x.current.bundle = false ∧ x.current.service = k ∧
    d.versionsInFlight (d.tenantOf x) (bitsOf x.current.keyA 63 24) (some n) = []
  let out := fun (f : Device → Item → Staged) (d : Device) (x : Item) => (d, x, f d x)
  let made := fun (f : Device → Item → Staged) (d : Device) (x : Item) => (d, x, some (f d x))
  (∀ n : Nat,
  CreatesKey (.keyGenerate n) n 0x0401 (made fun d x =>
    d.createKey x x.current.keySpec (padTo (algLen x.current.keySpec.alg) x.ops.random) none) ∧
  Stages (.keyRotate n) n (serial n 0x0402) (out fun d x =>
    match x.ops.keyA with
    | none => stagedPlain .keyAbsent 0
    | some e =>
      let v := d.highestVersion e.attr.tenant e.attr.keyId + 1
      let key := padTo (algLen e.attr.alg) x.ops.random
      let a := { e.attr with version := v, ceremony := false, tdesWeak := tdesWeak e.attr.alg key, state := 1 }
      if e.attr.pk = true ∨ e.attr.alg ≠ x.current.variant % 16 then stagedPlain .keyUsage 0
      else if 0xFFFF < v then stagedPlain .keyUsage 3
      else mapStatus none none (d.keyResult a key) none (keyRecords a key)) ∧
  CreatesKey (.keyBlockImport n) n 0x0403 (made fun d x => d.importBlock x) ∧
  Stages (.keyBlockExport n) n (code 0x0404) (out fun d x =>
    match x.ops.keyB with
    | none => stagedPlain .keyAbsent 0
    | some e =>
      let alg := x.current.variant % 16
      let len := blockLen (algTdes alg) (algLen e.attr.alg)
      let head := exportHeader (algTdes alg) len e.attr
      if e.attr.exportable = false ∨ e.attr.pk = true then stagedPlain .keyUsage 4
      else if algRank alg < algRank e.attr.alg then stagedPlain .keyUsage 5
      else if x.current.outCap < len then stagedPlain .format 3
      else mapStatus none none (d.keyResult e.attr e.key ++ leBytes 2 len)
        (some (head ++ padTo (len - 16) (Config.keyBlockRaw alg x.keyBytesA head (e.key.take (algLen e.attr.alg))))) []) ∧
  Stages (.keyStatus n) n (code 0x0405) (out fun d x => d.keyStatus x) ∧
  Stages (.keyVersionRetire n) n (serial n 0x0406) (out fun d x =>
    match x.ops.keyA with
    | none => stagedPlain .keyAbsent 0
    | some e =>
      let tenant := d.tenantOf x
      if (∀ v ∈ d.keyVersions tenant e.attr.keyId, d.keyRetired tenant e.attr.keyId v = false → v = e.attr.version) then stagedPlain .keyUsage 0
      else mapStatus none none (d.keyResult e.attr e.key) none (d.retiredRecords e.attr e.key))) ∧
  (∀ s : State, Does .rotate s fun t =>
    let d := s.dev
    let cmd := keyAt Off.keyCmd
    let idle := d.writeBarred cmd = false ∧ d.bit cmd 0 = false
    let may := (d.cust.mode = .service ∨ d.cust.mode = .maintenance) ∧ d.keys.op = none ∧ d.progRunning (keyAt 0) = false
    let tenant := d.reg (keyAt Off.keyRotTenant)
    let vf := List.find? (fun e => e.2.tenant == tenant && e.2.st != .absent && e.2.st != .destroyed) d.front.vfs
    let keys := if vf = none then [] else d.rotates tenant (d.field (keyAt Off.keyRotUsage) 7 0)
    let begun := ((d.commandStart cmd 0).progStart (keyAt 0) 0x0001 keys.length).mapKeys fun k => { k with
      op := some { rewrap := false, tenant := tenant, todo := [], skipped := 0 } }
    (d.writeBarred cmd = true → t = d.writeLost cmd) ∧
    (d.writeBarred cmd = false → d.bit cmd 0 = true → t = d) ∧
    (idle → ¬may → t = d.writeLost (keyAt 0)) ∧
    (idle → may → vf = none → t = begun) ∧
    (idle → may → ∀ e, vf = some e → t = keys.foldl (Device.rotateKey e.2.pgen) begun)) ∧
  (∀ s : State, Does .rotationEnd s fun t =>
    let d := s.dev
    ((∀ o, d.keys.op = some o → o.rewrap = true ∨ d.opCommitted o = false) → t = d) ∧
    ∀ o, d.keys.op = some o → o.rewrap = false → d.opCommitted o = true →
      t = (((((d.mapKeys fun k => { k with op := none }).progPos (keyAt 0) o.todo.length).progEnd (keyAt 0) false).setReg
        (keyAt Off.keyRotResult) o.skipped).commandEnd (keyAt Off.keyCmd) 0 1).raiseInt .key 0 2) ∧
  (∀ s : State, Does .rewrapEnd s fun t =>
    let d := s.dev
    ((∀ o, d.keys.op = some o → o.rewrap = false ∨ d.opCommitted o = false) → t = d) ∧
    ∀ o, d.keys.op = some o → o.rewrap = true → d.opCommitted o = true →
      t = (((((d.mapKeys fun k => { k with op := none }).progPos (keyAt 0) o.todo.length).progEnd (keyAt 0) false).bankUpdate fun b =>
        { b with st := .rooted, prevEpoch := 0, prevRoot := zeros 32 }).setRootClass 2).raiseInt .key 0 2)

/-- The engine services: what a job stages in its pair's gate. A service that needs randomness of its own draws 64 bytes
once and keeps them for a rerun. A signing service releases its signature in the buffer, FORMAT detail 3 where it does not
fit OUT_CAP; a verifying service gives a match or a mismatch over the public key, signature and message of the buffer. The
ECDSA services take the digest's leftmost bits, as many as n has, and verifying also asks a public key on the curve
(DEDUCED, log entry 161). RSA-OAEP import of a wrapped key of a length other than the modulus is FORMAT detail 3, a decoding
failure or a key of another length a mismatch. KEY_PAIR_GENERATE creates a key that is never exportable and releases its
public key; an RSA generation reports the candidates it has tried and goes on until it has two probable primes.
PUBLIC_KEY_EXPORT needs a key whose curve slot holds its set. ML-KEM encapsulation checks the encapsulation key's
coefficients; decapsulation rejects implicitly. MODULAR_EXPONENTIATION with an even modulus, or a base not below it, is a
mismatch, and otherwise releases the power. (07_bignum_engines.md, 06_payment_services.md, 09_key_hierarchy.md). -/
def Obligations.EngineServices : Prop :=
  let code := fun (k : Nat) (_ : Device) (x : Item) => x.current.bundle = false ∧ x.current.service = k
  let out := fun (f : Device → Item → Staged) (d : Device) (x : Item) => (d, x, f d x)
  let draws := fun (d : Device) (x : Item) => match x.run.signing with
    | some r => (d, x, r)
    | none => (d.drawnFor 64, { x with run := { x.run with signing := some (d.random 64) } }, d.random 64)
  let drawing := fun (f : Device → Item → Bytes → Staged) (d : Device) (x : Item) =>
    ((draws d x).1, (draws d x).2.1, f d x (draws d x).2.2)
  let buffer := fun (x : Item) (result b : Bytes) =>
    if b.length ≤ x.current.outCap then mapStatus none none result (some b) [] else stagedPlain .format 3
  let verdict := fun (b : Bool) => mapStatus none (some b) (zeros 16) none []
  let ecSigned := drawing fun d x r =>
    buffer x (zeros 16) (Config.sign (2 * d.sigHalf x.current) (ecAlg x.current) x.keyBytesA (d.curveOf x.current ++ truncDigest (d.orderBits x.current) x.ops.data) r)
  let ecVerified := fun (pub : Device → Item → Nat) (d : Device) (x : Item) =>
    let sig := 2 * d.sigHalf x.current
    let b := x.ops.data
    verdict (d.ecPublicOk x.current (slice b 0 (pub d x)) &&
      Config.verify (ecAlg x.current) (d.curveOf x.current ++ slice b 0 (pub d x)) (truncDigest (d.orderBits x.current) (b.drop (pub d x + sig)))
        (slice b (pub d x) sig))
  let slotPub := fun (d : Device) (x : Item) => 1 + 2 * ((hdr (d.curveOf x.current) 6 2 + 7) / 8)
  ∀ n : Nat,
  Stages (.rsaSign n) n (code 0x0501) (drawing fun _ x r =>
    buffer x (zeros 16) (Config.sign (8 * rsaWords x.keyBytesA) (0x1000 + x.current.variant) x.keyBytesA x.ops.data r)) ∧
  Stages (.rsaVerify n) n (code 0x0502) (out fun _ x =>
    let b := x.ops.data
    let k := leNat (slice b 0 2) / 8
    verdict (Config.verify (0x1000 + x.current.variant) (slice b 0 (8 + k)) (b.drop (8 + 2 * k)) (slice b (8 + k) k))) ∧
  CreatesKey (.rsaOaepKeyImport n) n 0x0503 (fun d x => (d, x, some (
    if x.ops.data.length ≠ 8 * rsaWords x.keyBytesA then stagedPlain .format 3
    else match Config.oaepDecode (x.current.variant % 16) x.keyBytesA x.ops.data with
      | none => verdict false
      | some key => if key.length = algLen x.current.keySpec.alg then d.createKey x x.current.keySpec key none else verdict false))) ∧
  CreatesKey (.keyPairGenerate n) n 0x0504 (fun d x =>
    let a := newAttr (x.current.inline0.getD 0 0).toNat (pairAlg x.current.variant) false true
    let made := fun key =>
      if (d.publicOf a.alg key).length ≤ x.current.outCap then d.createKey x a key (some (d.publicOf a.alg key)) else stagedPlain .format 3
    let o := draws d x
    if x.rsaGen = true then
      let f := rsaSearch (x.run.blinds.getD 0 []) o.2.2 x.current.paramHi x.run.tries
      let e := match x.run.unit with | some (.pair p) => o.1.progPos (bnAt (2 * p) 0) f.2 | _ => o.1
      (e, { o.2.1 with run := { o.2.1.run with tries := f.2 } }, f.1.map made)
    else (o.1, o.2.1, some (made (d.newPrivate x.current o.2.2)))) ∧
  Stages (.publicKeyExport n) n (code 0x0505) (out fun d x =>
    match x.ops.keyA with
    | none => stagedPlain .keyAbsent 0
    | some e =>
      let pub := d.publicOf e.attr.alg e.key
      if pub = [] then stagedPlain .keyUsage 0 else buffer x (d.keyResult e.attr e.key) pub) ∧
  Stages (.ecdsaSign n) n (code 0x0510) ecSigned ∧
  Stages (.ecdsaVerify n) n (code 0x0511) (out (ecVerified fun _ x => ecPubLen x.current.variant)) ∧
  Stages (.ecdsaSignSlotCurve n) n (code 0x0512) ecSigned ∧
  Stages (.ecdsaVerifySlotCurve n) n (code 0x0513) (out fun d x =>
    let least := slotPub d x + 2 * d.sigHalf x.current + 20
    if least ≤ x.ops.data.length ∧ x.ops.data.length ≤ least + 44 then ecVerified slotPub d x else stagedPlain .format 3) ∧
  Stages (.mlDsa65Sign n) n (code 0x0520) (drawing fun _ x r =>
    buffer x (zeros 16) (Config.sign 3309 0x14 x.keyBytesA x.ops.data r)) ∧
  Stages (.mlDsa65Verify n) n (code 0x0521) (out fun _ x =>
    let b := x.ops.data
    verdict (Config.verify 0x14 (slice b 0 1952) (b.drop 5261) (slice b 1952 3309))) ∧
  Stages (.mlKem768Encapsulate n) n (code 0x0530) (drawing fun _ x r =>
    if (∀ i < 384, leNat (slice x.ops.data (3 * i) 3) % 4096 < 3329 ∧ leNat (slice x.ops.data (3 * i) 3) / 4096 < 3329) then 
      buffer x (zeros 16) ((encapsulate x.ops.data r).1 ++ (encapsulate x.ops.data r).2) else verdict false) ∧
  Stages (.mlKem768Decapsulate n) n (code 0x0531) (out fun _ x => buffer x (zeros 16) (decapsulate x.keyBytesA x.ops.data)) ∧
  Stages (.modularExponentiation n) n (code 0x0540) (out fun _ x =>
    let w := 8 * leNat (slice x.current.inline0 0 2)
    let e := 8 * leNat (slice x.current.inline0 2 2)
    let m := beNat (slice x.ops.data 0 w)
    let b := beNat (slice x.ops.data w w)
    if m % 2 = 1 ∧ b < m then buffer x (zeros 16) (beBytes w (modPow m (8 * e) b (beNat (slice x.ops.data (2 * w) e)))) else verdict false)

/-- The rows of the fault collector and of the tamper chapter: events, clears, masks, self errors, conditions, the log,
zeroization. An event of a source that no event counts, or on the battery, changes nothing; a monitored source acts as its
monitor, a self-error source as R653; any other is counted after its block's own effect, and its CAUSE is 1. A window's end
closes it, and touches no other source. An escalation timer that runs out raises its source to SEV 3, ESCALATED, and the
device to QUARANTINE. ACK stops the timer, unless an S2 event of the cycle keeps the source unacknowledged: then the write
is lost. PENDING clears only while CAUSE is 0, with ESCALATED, ACK and SEV; a clear while CAUSE is 1 raises CLEAR_REFUSED.
REARM empties the high-water mark at the next cycle, and is done. FLT_CFG takes severities 0 to 4 in CUSTODY and MAINTENANCE
only; the severities of sources 32 to 53 and 252 to 255 stay. A self-error repairs, is recorded under its own source, and
for the timers' error escalates every source whose timer runs. A monitor that enters condition, armed and with a feed, is
detected once; a condition that persists is no new event. Its end drops the condition and its CAUSE, and the ZEROIZE line
with the last of the S4 sources. ZEROIZE_N held low is an event of source 48, but not on the battery. A zeroization that
completes clears the keys in volatile storage, ends operation 7, and enters ZEROIZED, which ends an open ceremony ABORTED. A
sampling window ends the conditions that it no longer finds and detects those that it newly finds. A row that is burnt
stands in the log at NEXT_ROW, torn or with its record; a torn one counts on source 58, the FULL record on 59, and the next
record that waits starts to burn, or the run ends. (15_faults.md, 02_register_convention.md, 14_tamper.md,
13_modes_custody.md, 09_key_hierarchy.md, 16_power_clocks_startup.md). -/
def Obligations.FaultAndTamperRows : Prop :=
  ((∀ (source : Fin 256) (held : Bool) (place : Nat) (s : State), Does (.faultEvent source held place) s fun t =>
     let d := s.dev
     let k : Nat := source
     let counts := neverCounted k = false ∧ d.power.st ≠ .battery
     (¬counts → t = d) ∧
     (counts → 32 ≤ k → k < 56 → t = d.tamperEvent k 0) ∧
     (counts → 252 ≤ k → t = d.selfError (k - 252) [] [] false) ∧
     (counts → (k < 32 ∨ 56 ≤ k) → k < 252 → t.gave (.event k) ∧ t.cause k = true ∧
       ((conditionType k = true → t = ((d.blockEffect k place).fault k).holdCause k held) ∧
        (conditionType k = false → t = (d.blockEffect k place).fault k)))) ∧
   (∀ (source : Fin 256) (s : State), Does (.faultWindowEnd source) s fun t =>
     t = { s.dev with sources := t.sources } ∧
     t.source source = { s.dev.source source with winOpen := false, winCount := 0, severe := false } ∧
     ∀ k, k ≠ (source : Nat) → t.source k = s.dev.source k) ∧
   (∀ (source : Fin 256) (s : State), Does (.escalationTimerExpiry source) s fun t =>
     let d := s.dev
     let x := d.source source
     let up := (d.setSource source { x with timer := false, escalated := true, sev := 3 }).raiseMask (Page.flt.base 0) 0x18
     (x.timer = false → t = d) ∧
     (x.timer = true → x.sev < up.alertSev → up.alertSev ≤ 3 →
       t = (up.mapPins fun p => { p with alertReleased := false }).enterQuarantine) ∧
     (x.timer = true → ¬(x.sev < up.alertSev ∧ up.alertSev ≤ 3) → t = up.enterQuarantine)) ∧
   (∀ (source : Fin 256) (s : State), Does (.faultAck source) s fun t =>
     let d := s.dev
     let a := 0x6400 + 4 * (source : Nat)
     let x := d.source source
     let clash := d.pages.cyc.events.mem source = true ∧ x.pending = true ∧ x.sev = 2 ∧ x.ack = false
     (d.writeBarred a = true ∨ clash → t = d.writeLost a) ∧
     (d.writeBarred a = false → ¬clash → t.source source = { x with ack := true, timer := false } ∧
       (∀ k, k ≠ (source : Nat) → t.source k = d.source k) ∧ t.pages.regs = d.pages.regs ∧ t.cust = d.cust)) ∧
   (∀ (source : Fin 256) (s : State), Does (.pendingClear source) s fun t =>
     let d := s.dev
     let a := 0x6400 + 4 * (source : Nat)
     let x := d.source source
     let clear := d.setSource source { x with pending := false, sev := 0, escalated := false, ack := false, timer := false }
     (d.writeBarred a = true → t = d.writeLost a) ∧
     (d.writeBarred a = false → d.cause source = true → t = d.raiseInt .flt 0 5) ∧
     (d.writeBarred a = false → d.cause source = false → t = clear.leaveQuarantine ∧
       ((d.cust.mode = .quarantine ∧ ∀ e ∈ clear.sources, ¬(e.2.pending = true ∧ e.2.sev = 3)) →
         t = (clear.changeMode d.cust.returnTo).raiseInt .flt 0 6) ∧
       (¬(d.cust.mode = .quarantine ∧ ∀ e ∈ clear.sources, ¬(e.2.pending = true ∧ e.2.sev = 3)) → t = clear))) ∧
   (∀ s : State, Does .rearm s fun t =>
     let d := s.dev
     let a := Page.flt.base 0 + Off.fltCtrl
     (d.writeBarred a = true → t = d.writeLost a) ∧
     (d.writeBarred a = false → d.bit a 1 = true → t = d) ∧
     (d.writeBarred a = false → d.bit a 1 = false → t = (d.commandStart a 1).passCycle.clearHwm.commandEnd a 1 2)) ∧
   (∀ (source : Fin 256) (value : Word) (s : State), Does (.fltCfgWrite source value) s fun t =>
     let d := s.dev
     let k : Nat := source
     let a := cfgAddr k
     let w := value.toNat
     let may := d.writeBarred a = false ∧ d.pageLocked a = false ∧ (d.cust.mode = .custody ∨ d.cust.mode = .maintenance) ∧
       d.cust.selected = true ∧ bitsOf w 26 24 ≤ 4 ∧ bitsOf w 22 20 ≤ 4 ∧ bitsOf w 18 16 ≤ 4
     let fixed := (32 ≤ k ∧ k ≤ 53) ∨ 252 ≤ k
     let keep := bitsOf w 15 8 * 256 + bitsOf w 3 0
     (¬may → t = d.writeLost a) ∧
     (may → fixed → t = (d.noteWrite a).setReg a (d.reg a / 65536 * 65536 + keep)) ∧
     (may → ¬fixed → t = (d.noteWrite a).setReg a (bitsOf w 26 24 * 2 ^ 24 + bitsOf w 22 20 * 2 ^ 20 + bitsOf w 18 16 * 2 ^ 16 + keep))) ∧
   ∀ (which : Fin 4) (words counts : List Nat) (hwm : Bool) (s : State), Does (.collectorSelfError which words counts hwm) s fun t =>
     let d := s.dev
     let e := (d.selfRepair which words counts hwm).fault (252 + which)
     t.gave (.event (252 + which)) ∧
     ((which : Nat) ≠ 3 → t = e) ∧
     ((which : Nat) = 3 → t = e.sources.foldl (fun d x => d.escalate x.1) e)) ∧
  ((∀ (source : Fin 28) (detail : BitVec 16) (s : State), Does (.tamperEvent source detail) s fun t =>
     let d := s.dev
     let k : Nat := 32 + source
     let detected := k < 56 ∧ d.tamp.armed = true ∧ d.power.st ≠ .battery ∧ d.tamp.cond.mem source = false
     (¬detected → t = d) ∧ (detected → t = d.detect false k detail.toNat ∧ t.gave (.event k))) ∧
   (∀ (source : Fin 28) (s : State), Does (.tamperConditionEnd source) s fun t =>
     let d := s.dev
     let c := d.tamp.cond.erase source
     (d.tamp.cond.mem source = false → t = d) ∧
     (d.tamp.cond.mem source = true → t = { d with
       tamp := { d.tamp with cond := c, line := c.any fun e => decide (e.1 ≤ 21) }
       pins := if (source : Nat) = 16 then { d.pins with zeroizeLow := false } else d.pins
       causes := d.causes.erase (32 + source) })) ∧
   (∀ s : State, Does .zeroizeNLow s fun t =>
     let d := s.dev
     (d.power.st = .battery → t = d) ∧
     (d.power.st ≠ .battery → t = (d.mapPins fun p => { p with zeroizeLow := true }).tamperEvent 48 0)) ∧
   (∀ s : State, Does .zeroizationComplete s fun t =>
     let d := s.dev
     let b := Page.key.base 0
     let runs := d.tamp.zStarted = true ∧ d.progRunning b = true ∧ d.field (b + Off.progOp) 15 0 = 7
     let e := (((d.mapKeys fun k => { k with runs := [], faults := [], retired := [], tagKey := zeros 32, hbmKey := zeros 32, indexKey := zeros 32, op := none }).progPos b
       1048576).progEnd b false).raiseInt .key 0 2
     (¬runs → t = d) ∧
     (runs → (e.cust.mode = .zeroized ∨ e.cust.selected = false) → t = e) ∧
     (runs → ¬(e.cust.mode = .zeroized ∨ e.cust.selected = false) → t = (e.enterMode .zeroized).endCeremony 0x09 none)) ∧
   (∀ (found : List (Nat × Nat)) (s : State), Does (.batterySamplingWindow found) s fun t =>
     let d := s.dev
     let low := d.power.st = .battery ∨ d.power.st = .stopping
     let d0 := d.mapPower fun p => { p with st := .battery }
     let seen := fun k => found.any fun e => e.1 == k
     let gone := d.tamp.cond.filter fun e => batteryWatched (32 + e.1) && !seen (32 + e.1)
     let ended := (gone.foldl (fun d e => d.conditionEnd (32 + e.1)) d0).mapPins fun p => { p with zeroizeLow := seen 48 }
     (¬low → t = d) ∧
     (low → t = (found.filter fun e => batteryWatched e.1).foldl
       (fun d e => if d.tamp.cond.mem (e.1 - 32) then d else d.detect true e.1 (e.2 % 65536)) ended)) ∧
   ∀ (torn : Bool) (s : State), Does (.logRowBurnt torn) s fun t =>
     let d := s.dev
     let b := Page.tamp.base 0
     (d.tamp.burning = none ∨ d.power.st = .battery → t = d) ∧
     ∀ r, d.tamp.burning = some r → d.power.st ≠ .battery →
       let d1 := d.mapTamp fun x => { x with
         burning := none, rows := x.rows.insert x.nextRow (if torn then .torn else .burnt r), nextRow := x.nextRow + 1 }
       let d2 := (d1.progPos b (d1.reg (b + Off.progPosLo) + 1)).raiseInt .tamp 0 (if torn then 3 else 1)
       let next := fun (d : Device) => if d.startBurn.tamp.burning.isSome then d.startBurn else d.startBurn.progEnd b false
       (torn = true → t = next (d2.fault 58) ∧ t.gave (.event 58)) ∧
       (torn = false → r.kind ≠ 0x0F → t = next (d2.mapTamp fun x => x.freeEntry r)) ∧
       (torn = false → r.kind = 0x0F → t = next (((d2.mapTamp fun x => x.freeEntry r).raiseInt .tamp 0 4).fault 59) ∧
         t.gave (.event 59)) ∧
       t.tamp.rows.find? d.tamp.nextRow = some (if torn then .torn else .burnt r))

/-- COMPLETION_POST; COMMIT, RECORD_COMMITTED, COMMIT_WAIT_LATE; local writes and their ends; FUA_WRITE_FAILURE;
RECORD_READ_END. A finished item posts its buffer outputs, then its completion at CQ_TAIL, then its message, where its queue
has room and is enabled or draining. COMMIT releases an item's staged records, or ends it MODE with detail 0x10 or 0x11
where the store refuses. A record that has its local part and its acknowledgements is committed. A late commit counts once,
on source 188, and on 197 where too few members are reachable. A local write takes up to 16 blocks of what gathers, sets the
pending digest and writes them, sealed, at TAIL on each CURRENT SSD with the tree nodes that change; its end lands them,
moves TAIL, and lets happen what each record's passing allows. An FUA failure fails the port: source 189, 180, the partner's
superblock expelling it, and a read-only store where no CURRENT partner is left. A read that ends, of a key run or of an
item's lookup, follows R436 and R437: retries, the partner, source 179, the index entry dropped, and the peers.
(10_record_store.md, 03_host_queues.md, 11_jochevy_domain.md, 12_tenancy.md, 13_modes_custody.md). -/
def Obligations.StoreWrites : Prop :=
  (∀ (n : Nat) (s : State), Does (.completionPost n) s fun t =>
    let d := s.dev
    let may := fun (x : Item) => x.stage = .finished ∧ d.cqFull x.route.vf x.route.qp = false ∧
      ((d.qp x.route.vf x.route.qp).enabled = true ∨ (d.qp x.route.vf x.route.qp).draining = true)
    ((∀ x c, d.item n = some x → x.comp = some c → ¬may x) → t = d) ∧
    ∀ x c, d.item n = some x → x.comp = some c → may x →
      let v := x.route.vf
      let q := x.route.qp
      let p := d.qp v q
      let tail := (p.cqTail + 1) % d.cqDepth v q
      let d1 := if c.bufferOut.isEmpty then d else d.emit (.buffer v x.desc.bufAddr c.bufferOut)
      let d3 := (d1.emit (.completion v q p.cqTail (x.completion c p.sqHead q p.phase))).setQp v q
        (({ p with cqTail := tail, phase := if tail = 0 then !p.phase else p.phase }).freeSlot x.route)
      let d4 := if d3.bit (qpCfg v q) 30 && !x.desc.noIrq then d3.sendMsix (v + 1) q else d3
      let d5 := ((x.postEvents c).foldl (fun d e => d.countEvent (some v) e 1) d4).countEvent (some v) 0x14 c.bufferOut.length
      t = ((d5.recordUnit x (c.statusByte x.adm.deferred) (some c)).dropItem n).ingestAll ∧
      t.gave (.sent (.completion v q p.cqTail (x.completion c p.sqHead q p.phase)))) ∧
  (∀ (n : Nat) (s : State), Does (.commit n) s fun t =>
    let d := s.dev
    ((∀ x o, d.item n = some x → x.run.staged = some o → ¬(x.stage = .storing ∧ o.records ≠ [])) → t = d) ∧
    ∀ x o, d.item n = some x → x.run.staged = some o → x.stage = .storing → o.records ≠ [] →
      (∀ k, d.storeRefusal = some k → t.ended n .mode k) ∧
      (d.storeRefusal = none → t = (d.setItem n { x with run := { x.run with staged := some { o with records := [] } } }).releaseRecords
        (some n) (o.records.map fun r => d.recordOf (d.vf x.route.vf).tenant (d.vf x.route.vf).pgen r))) ∧
  (∀ (seq : Nat) (s : State), Does (.recordCommitted seq) s fun t =>
    let d := s.dev
    let passed := fun (c : Commit) => (c.localDone = true ∨ d.store.noWrite = true) ∧ d.acksNeeded c.rcd ≤ c.acks.length
    ((∀ c, d.commitOf seq = some c → ¬passed c) → t = d) ∧
    ∀ c, d.commitOf seq = some c → passed c → t = (d.dropCommit seq).markCommitted c) ∧
  (∀ (seq : Nat) (s : State), Does (.commitWaitLate seq) s fun t =>
    let d := s.dev
    let few := fun (c : Commit) =>
      ((d.placement c.rcd.ident).filter fun m => m != d.dom.view.moduleId && !d.dom.unreach.mem m).length < d.acksNeeded c.rcd
    ((∀ c, d.commitOf seq = some c → c.late = true ∨ d.acksNeeded c.rcd ≤ c.acks.length) → t = d) ∧
    ∀ c, d.commitOf seq = some c → c.late = false → c.acks.length < d.acksNeeded c.rcd →
      t.gave (.event 188) ∧
      (few c → t = ((d.setCommit { c with late := true }).fault 188).fault 197 ∧ t.gave (.event 197)) ∧
      (¬few c → t = (d.setCommit { c with late := true }).fault 188)) ∧
  (∀ s : State, Does .localWrite s fun t =>
    let d := s.dev
    let x := d.store
    let may := x.noWrite = false ∧ x.pending = [] ∧ x.gathering ≠ [] ∧ x.openSeg ≠ none
    let tail := d.keys.bank.tail
    let room := 32 * min 16 (16384 - locBlock tail)
    let recs := x.gathering.take room
    let blocks := (recs.length + 31) / 32
    let e := (d.mapStore fun s => { s with pending := recs, gathering := s.gathering.drop room }).bankUpdate fun b =>
      { b with pendBlocks := blocks, pendDigest := (Config.sha3 ((recordBlocks recs).flatMap blockBytes)).take 14 }
    let sent := (x.currentPorts (locPair tail)).foldl (fun d p => d.emit (.ssd p tail (recs.map Rec.wire))) e
    (¬may → t = d) ∧
    (may → t = (((x.setBlocks tail recs).areaNodes tail blocks).foldl (fun d e => d.writeArea (locPair tail) 1 e.1 e.2) sent).countEvent none 0x24 1)) ∧
  (∀ s : State, Does .localWriteEnd s fun t =>
    let d := s.dev
    (d.store.pending = [] ∨ d.power.st = .stopping → t = d) ∧
    (d.store.pending ≠ [] → d.power.st ≠ .stopping →
      t = ((d.store.pending.foldl (fun d r => d.recordLanded r) d.landWrite).autoCompaction.checkFull).noteState d.storeState)) ∧
  (∀ (port : Fin 4) (s : State), Does (.fuaWriteFailure port) s fun t =>
    let d := s.dev
    let p : Nat := port
    let partner := if p % 2 = 0 then p + 1 else p - 1
    let hit := d.store.ports.getD p .absent = .current ∧ d.store.pending ≠ [] ∧ p / 2 = locPair d.keys.bank.tail
    let failed := (((d.fault 189).storeStep fun s => { s with ports := s.ports.set p .failed }).fault 180)
    (¬hit → t = d) ∧
    (hit → t.gave (.event 189) ∧ t.gave (.event 180)) ∧
    (hit → (d.fault 189).store.ports.getD partner .absent = .current → t = (failed.mapStore fun s => { s with expelled := s.expelled.add p }).writeSuper partner) ∧
    (hit → (d.fault 189).store.ports.getD partner .absent ≠ .current →
      (d.fault 189).store.formatted = true → (d.fault 189).store.readOnly = false → t = failed.becomeReadOnly)) ∧
  ∀ (slot : Nat) (found : ReadEnd) (s : State), Does (.recordReadEnd slot found) s fun t =>
    let d := s.dev
    let waits := fun (r : KeyRun) => r.st ≠ .valid ∧ d.readOf slot = none
    let bothOf := fun (i : Ident) => ∃ w ∈ d.store.written, w.1.ident = i ∧ (d.store.currentPorts (locPair w.2)).length = 2
    let both := fun (r : KeyRun) => bothOf r.ident
    let n := slot - 2 ^ 50
    let asks := fun (x : Item) => x.asksStore = true ∧ d.readOf slot = none
    (2 ^ 50 ≤ slot → (∀ x, d.item n = some x → ¬asks x) → t = d) ∧
    (2 ^ 50 ≤ slot → ∀ x, d.item n = some x → asks x → ∀ i, i = keyIdent (d.tenantOf x) (bitsOf x.current.keyA 63 24) (bitsOf x.current.keyA 23 8) 0 →
      (found = .good → t = d) ∧
      (found = .transient → x.ops.retries < d.retryDoublings →
        t = (((d.fault 176).setItem n { x with ops := { x.ops with retries := x.ops.retries + 1 } }).dropDelay retryList (readKey slot)).addDelay
          retryList (readKey slot) ((d.sched.tick + d.retryDelay x.ops.retries) % 2 ^ 32)) ∧
      (found = .transient → d.retryDoublings ≤ x.ops.retries → bothOf i → t = (d.fault 177).raiseInt .jnl 0 3) ∧
      (found = .transient → d.retryDoublings ≤ x.ops.retries → ¬bothOf i → t = (d.fault 179).peerRead slot i true) ∧
      (found = .mediaPartner → t = (d.fault 177).raiseInt .jnl 0 3) ∧ (found = .badPartner → t = (d.fault 178).raiseInt .jnl 0 3) ∧
      (found = .noLocal → t = ((d.fault 179).indexDrop i).peerRead slot i true) ∧ (found = .noEntry → t = d.peerRead slot i false)) ∧
    (slot < 2 ^ 50 → (∀ r, d.keys.runs.find? slot = some r → ¬waits r) → t = d) ∧
    (slot < 2 ^ 50 → ∀ r, d.keys.runs.find? slot = some r → waits r →
      (found = .good → t = d) ∧
      (found = .transient → r.retries < d.retryDoublings →
        t = (((d.fault 176).setRun slot { r with retries := r.retries + 1 }).dropDelay retryList (readKey slot)).addDelay retryList
          (readKey slot) ((d.sched.tick + d.retryDelay r.retries) % 2 ^ 32)) ∧
      (found = .transient → d.retryDoublings ≤ r.retries → both r → t = (d.fault 177).raiseInt .jnl 0 3) ∧
      (found = .transient → d.retryDoublings ≤ r.retries → ¬both r → t = (d.fault 179).peerRead slot r.ident true) ∧
      (found = .mediaPartner → t = (d.fault 177).raiseInt .jnl 0 3 ∧ t.gave (.event 177)) ∧
      (found = .badPartner → t = (d.fault 178).raiseInt .jnl 0 3 ∧ t.gave (.event 178)) ∧
      (found = .noLocal → t = ((d.fault 179).indexDrop r.ident).peerRead slot r.ident true) ∧
      (found = .noEntry → t = d.peerRead slot r.ident false))

/-- Checkpoints, scrubs, compaction, ADOPT, FORMAT and the JNL soft reset. A checkpoint writes the dirty buckets of the
index, takes TAIL and TREE_VER, and then writes the superblocks of the CURRENT SSDs, where the store can be written. SCRUB
and COMPACT need ENABLE and a usable store, else the write is lost; a run of the same kind becomes the command's. The scrub
timer starts a run where SCRUB_INTERVAL is not 0 and none runs; a scrub's end shows all records done. A compaction ends on
its target or without a candidate, and erases a candidate that is copied out. ADOPT runs in CUSTODY and MAINTENANCE: code 2
for an empty port, 6 for a partner that is not CURRENT, else the port rebuilds, and its end makes it CURRENT, with both
superblocks of the pair written, or says why not. FORMAT needs no CURRENT SSD; its end is code 5 where the ports break R414
or R415, the code found, or a formatted store with code 0. The JNL soft reset, only in MAINTENANCE, ends the running
operation with code 7 and probes FAILED ports again. (10_record_store.md, 02_register_convention.md, 08_scheduler.md,
13_modes_custody.md). -/
def Obligations.StoreSweeps : Prop :=
  let b := Page.jnl.base 0
  let idle := fun (d : Device) (bit : Nat) => d.writeBarred jnlCmd = false ∧ d.bit jnlCmd bit = false ∧ d.reg jnlCmd &&& 0xF = 0
  let waits := fun (c : Instr) (bit : Nat) => ∀ s, Does c s fun t =>
    let d := s.dev
    (d.writeBarred jnlCmd = true → t = d.writeLost jnlCmd) ∧
    (d.writeBarred jnlCmd = false → d.bit jnlCmd bit = true → t = d) ∧
    (d.writeBarred jnlCmd = false → d.bit jnlCmd bit = false → d.reg jnlCmd &&& 0xF ≠ 0 → t = d.writeLost jnlCmd)
  let sweeps := fun (c : Instr) (o : JnlOp) (start : Device → Device) => waits c o.bit ∧ ∀ s, Does c s fun t =>
    let d := s.dev
    let may := d.jnlOn = true ∧ d.store.formatted = true ∧ d.store.quarantined = false
    (idle d o.bit → ¬may → t = d.writeLost jnlCmd) ∧
    (idle d o.bit → may → d.store.op = some o → t = (d.mapStore fun s => { s with opCmd := true }).commandStart jnlCmd o.bit) ∧
    (idle d o.bit → may → d.store.op ≠ some o → t = start (d.jnlEnd true 0))
  let custody := fun (d : Device) => d.cust.mode = .custody ∨ d.cust.mode = .maintenance
  (∀ s, Does .indexCheckpoint s fun t =>
    let d := s.dev
    let may := d.store.formatted = true ∧ d.store.quarantined = false ∧ d.store.readOnly = false
    (may → t = (d.store.currentPorts 0 ++ d.store.currentPorts 1).foldl (fun e p => e.writeSuper p)
      ((d.store.dirtyBuckets.foldl (fun e n => e.writeArea (if d.store.segs1 = 0 then 0 else n % 2) 2 n (d.store.bucketBytes n)) d).mapStore
        fun s => { s with checkpoint := (d.keys.bank.tail, d.keys.bank.treeVer), unindexed := [], area := s.index })) ∧
    (¬may → t = d)) ∧
  sweeps .scrub .scrub (fun d => d.startScrub true) ∧
  (∀ s, Does .scrubTimer s fun t =>
    let d := s.dev
    let due := d.field (jnlAt Off.jnlCtrl) 31 16 ≠ 0 ∧ d.jnlOn = true ∧ d.store.usable = true ∧ d.store.op = none
    (due → t = d.startScrub false) ∧ (¬due → t = d)) ∧
  (∀ s, Does .scrubEnd s fun t =>
    let d := s.dev
    (d.store.op = some .scrub →
      t = ((d.progPos b d.store.written.length).mapStore fun s => { s with scrubbed := d.cycle }).jnlEnd false 0) ∧
    (d.store.op ≠ some .scrub → t = d)) ∧
  sweeps .compact .compact (fun d => d.startCompaction true) ∧
  (∀ s, Does .compactionEnd s fun t =>
    let d := s.dev
    let finish := fun (e : Device) => (e.candidate = none ∨ e.freeBelow (e.compactLow + 2) = false → t = e.jnlEnd false 0) ∧
      (e.candidate ≠ none → e.freeBelow (e.compactLow + 2) = true → t = e)
    (d.store.op ≠ some .compact → t = d) ∧
    (d.store.op = some .compact →
      (∀ k, d.candidate = some k → d.liveIn k = [] → finish (d.eraseSegment k)) ∧
      ((∀ k, d.candidate = some k → d.liveIn k ≠ []) → finish d))) ∧
  waits .adopt 2 ∧
  (∀ s, Does .adopt s fun t =>
    let d := s.dev
    let p := d.field (jnlAt Off.jnlArg) 1 0
    let partner := if p % 2 = 0 then p + 1 else p - 1
    let d1 := ((d.jnlEnd true 0).jnlStart (.adopt p) true).setField (jnlAt Off.jnlResult) 1 0 p
    (idle d 2 → ¬custody d → t = d.writeLost jnlCmd) ∧
    (idle d 2 → custody d → d.store.ports.getD p .absent = .absent → t = d1.jnlEnd true 2) ∧
    (idle d 2 → custody d → d.store.ports.getD p .absent ≠ .absent → d.store.ports.getD partner .absent ≠ .current → t = d1.jnlEnd true 6) ∧
    (idle d 2 → custody d → d.store.ports.getD p .absent ≠ .absent → d.store.ports.getD partner .absent = .current →
      t = (d1.storeStep fun s => { s with ports := s.ports.set p .rebuilding }).progStart b 0x0003 d.store.written.length)) ∧
  (∀ (code : Fin 8) s, Does (.adoptEnd code) s fun t =>
    let d := s.dev
    ((∀ p, d.store.op ≠ some (.adopt p)) → t = d) ∧
    ∀ p, d.store.op = some (.adopt p) →
      ((code : Nat) = 0 → t = ((((d.storeStep fun s => { s with ports := s.ports.set p .current, expelled := s.expelled.erase p }).writeSuper p).writeSuper
        (if p % 2 = 0 then p + 1 else p - 1)).progPos b d.store.written.length).jnlEnd false 0) ∧
      ((code : Nat) ≠ 0 → t = ((d.storeStep fun s => { s with
        ports := s.ports.set p (if (code : Nat) = 3 ∨ (code : Nat) = 4 then .unsuitable else .foreign) }).progPos b
          (d.reg (b + Off.progPosLo))).jnlEnd true code)) ∧
  waits .format 3 ∧
  (∀ s, Does .format s fun t =>
    let d := s.dev
    let may := custody d ∧ .current ∉ d.store.ports
    (idle d 3 → ¬may → t = d.writeLost jnlCmd) ∧ (idle d 3 → may → t = (d.jnlEnd true 0).jnlStart .format true)) ∧
  (∀ (code : Fin 8) s, Does (.formatEnd code) s fun t =>
    let d := s.dev
    let fits := fun p => (d.store.ports.getD p .absent).suitable
    let good := fits 0 = true ∧ fits 1 = true ∧ fits 2 = fits 3
    (d.store.op ≠ some .format → t = d) ∧
    (d.store.op = some .format → ¬good → t = d.jnlEnd true 5) ∧
    (d.store.op = some .format → good → (code : Nat) = 0 → t = d.formatStore.jnlEnd false 0) ∧
    (d.store.op = some .format → good → (code : Nat) ≠ 0 → t = d.jnlEnd true code)) ∧
  (∀ s, Does .jnlSoftReset s fun t =>
    let d := s.dev
    (d.cust.mode ≠ .maintenance → t = d.writeLost (jnlAt 8)) ∧
    (d.cust.mode = .maintenance → d.writeBarred (b + 8) = true → t = d.writeLost (b + 8)) ∧
    (d.cust.mode = .maintenance → d.writeBarred (b + 8) = false → d.bit (b + 8) 2 = true → t = d.writeLost b) ∧
    (d.cust.mode = .maintenance → d.writeBarred (b + 8) = false → d.bit (b + 8) 2 = false →
      let e := ((d.commandStart (b + 8) 1).mapPages fun p => { p with resetting := p.resetting.add b }).progEnd b true
      let f := match e.store.op with
        | some (.adopt p) => e.storeStep fun s => { s with ports := s.ports.set p .foreign }
        | _ => e
      t = (f.jnlEnd true 7).storeStep fun s => { s with
        ports := s.ports.zipIdx.map fun e => if e.1 = .failed ∧ s.expelled.mem e.2 then .foreign else e.1 }))

/-- Messages of the fabric that replicate, read and settle records: what each does where its receiver's checks let it
through. HEARTBEAT does nothing more than a verified message does. HELLO has the coordinator request the sender's addition,
unless another identity holds its ID. REPORT replaces the sender's marks. REPLICATE answers each record, unsealed: ACK where
it is held, NAK 1 where the store takes no write, NAK 2 where it is full, else it gathers and its ACK is due. ACK counts;
NAK sends the record to the next member, and a first EPOCH_STALE from a member sends it to that member again (R490). READ is
answered with the records held, sealed, status 0x30 without any, and the identities that are not. HOLD_QUERY is answered by
a mark per record. ORIGIN_QUERY is answered with the origin's highest SEQ and its records above the floor. READ_REPLY,
HOLD_REPLY and ORIGIN_REPLY serve the reads and questions that wait for them. RESYNC_DIGEST, where the digests of its range
differ, fetches what is placed here and lacking, and a question is answered with this module's own digest (log entry 22).
(11_jochevy_domain.md, 10_record_store.md, 13_modes_custody.md, 15_faults.md). -/
def Obligations.FabricMessages : Prop :=
  ∀ (p : Fin 2) (m : Msg),
  Hears (.hello p m) p 0x01 m (fun d =>
    let w := d.dom.view
    let digest := m.payload.drop 16
    if w.role ≠ 2 ∨ m.payload.take 16 ≠ w.domainId then d
    else match w.ids.find? m.src with
      | some x => if x = digest ∨ m.src ∉ w.members then d.request (.add m.src digest) else d
      | none => d.request (.add m.src digest)) ∧
  Hears (.heartbeat p m) p 0x02 m (fun d => d) ∧
  Hears (.report p m) p 0x03 m (fun d =>
    { d with dom := { d.dom with reports := (d.dom.reports.filter fun r => r.1 != m.src) ++ m.marks.map fun k => (m.src, k) } }) ∧
  Hears (.replicate p m) p 0x10 m (fun d => m.recs.foldl (fun d sent =>
    let r := d.unwire sent
    let id := [(r.ident, r.origin, r.seq)]
    if r.replicated = false then d
    else if d.holdsRecord r.ident r.origin r.seq = true then d.send { m.reply 0x11 0 with idents := id }
    else if d.store.noWrite = true then d.send { m.reply 0x12 1 with idents := id }
    else if d.storeFull = true then d.send { m.reply 0x12 2 with idents := id }
    else { d with
      store := { d.store with
        gathering := if r ∈ d.store.gathering ∨ r ∈ d.store.pending then d.store.gathering else d.store.gathering ++ [r] }
      dom := { d.dom with ackDue := d.dom.ackDue ++ [(m.src, m.seq, r)] } }) d) ∧
  Hears (.ack p m) p 0x11 m (fun d => d.toStub m fun d => d.ackFrom m m.src) ∧
  Hears (.nak p m) p 0x12 m (fun d => d.toStub m fun d => m.idents.foldl (fun d i =>
    match d.store.commits.find? fun c => c.named i with
    | none => d
    | some c =>
      let more := (d.spareTargets c).take 1
      let e := more.foldl (fun d k => d.replicateTo c.rcd k) (d.setCommit { c with targets := c.targets ++ more })
      if m.src ∉ c.targets ∨ m.src ∈ c.acks then d
      else if m.status = 0x21 ∧ m.src ∉ c.stale then (d.setCommit { c with stale := c.stale ++ [m.src] }).replicateTo c.rcd m.src
      else if more = [] then e else (e.countEvent none 0x23 1).fault 196) d) ∧
  Hears (.read p m) p 0x18 m (fun d =>
    let held := if d.store.quarantined then [] else m.idents.filterMap fun i => (currentRec d.records i.1).map Rec.wire
    d.send { m.reply 0x19 (if held = [] then 0x30 else 0) with
      recs := held, idents := m.idents.filter fun i => !held.any fun r => r.ident == i.1 }) ∧
  Hears (.readReply p m) p 0x19 m (fun d => if m.viaStub then m.recs.foldl (fun d r => d.readForwarded r) d
    else d.toStub m fun d => (d.dom.reads.filter fun r => r.members.contains m.src).foldl (Device.readAnswer m) d) ∧
  Hears (.holdQuery p m) p 0x1A m (fun d => d.send { m.reply 0x1B 0 with
    idents := m.idents, marks := m.idents.map fun i => if d.holdsRecord i.1 i.2.1 i.2.2 then 1 else 0 }) ∧
  Hears (.holdReply p m) p 0x1B m (fun d => if m.status ≠ 0 then d else (m.idents.zip m.marks).foldl (fun d e =>
    let i := e.1
    let note := fun (a : HoldAsk) =>
      if a.isOf i.1 i.2.1 i.2.2 = true ∧ m.src ∈ a.asked ∧ m.src ∉ a.holds ∧ m.src ∉ a.lacks then
        (if e.2 = 1 then { a with holds := a.holds ++ [m.src] } else { a with lacks := a.lacks ++ [m.src] })
      else a
    ({ d with dom := { d.dom with asks := d.dom.asks.map note } } : Device).settleAsks fun a => a.isOf i.1 i.2.1 i.2.2) d) ∧
  Hears (.originQuery p m) p 0x1C m (fun d =>
    let o := m.marks.getD 0 0
    let own := (d.records.filter fun r => r.replicated && r.origin == o).dedup
    let above := if m.marks.length < 2 then own else own.filter fun r => decide (m.marks.getD 1 0 < r.seq)
    d.send { m.reply 0x1D 0 with
      marks := [o, own.foldl (fun b r => max b r.seq) 0], idents := above.map fun r => (r.ident, r.origin, r.seq) }) ∧
  Hears (.originReply p m) p 0x1D m (fun d => d.originReplyIn m) ∧
  Hears (.resyncDigest p m) p 0x20 m (fun d =>
    let lo := beNat (slice m.payload 0 8)
    let hi := beNat (slice m.payload 8 8)
    if m.payload.drop 16 = Device.rangeDigest (d.rangeRecords lo hi) then d
    else (m.idents.filter fun i => !d.holdsRecord i.1 i.2.1 i.2.2 && (d.placement i.1).contains d.dom.view.moduleId).foldl
      (fun d i => d.peerRead d.resyncKey { i.1 with frag := 0 } false) (if m.ref = 0 then d.send (d.digestOf m.src m.seq lo hi) else d))

/-- Changes of the epoch: PREPARE_CHANGE to COMMIT, RECOVER to ROLLBACK, their timers, and the ends of graces and holds. The
coordinator batches the requested changes, no earlier than 50 ms after the last change, and prepares them. PREPARE of a
newer epoch is prepared, or acknowledged again where it is prepared already. PREPARE_ACK counts a vote. COMMIT of a newer
epoch writes its VIEW record. A takeover, by the lowest member that reaches others while the coordinator is marked,
multicasts RECOVER and counts on source 200. RECOVER is answered: an acknowledgement of the prepared epoch, else a refusal
that is prepared first. ROLLBACK discards the prepared epoch. The timers send again what is missing. A grace that ends
serves the epoch that was superseded first no longer; a held message that expires is answered EPOCH_AHEAD.
(11_jochevy_domain.md, 10_record_store.md, 09_key_hierarchy.md). -/
def Obligations.EpochChanges : Prop :=
  let fresh := fun (d : Device) (n : Next) (mine : Bool) => ({ epoch := n.epoch, next := some n, refused := false, mine := mine
                                                               recovering := false, asker := none, since := d.cycle } : Prepared)
  let refusal := fun (d : Device) (e src : Nat) => ({ epoch := e, next := none, refused := true, mine := false, recovering := false
                                                      asker := some src, since := d.cycle } : Prepared)
  (∀ s, Does .prepareChange s fun t =>
    let d := s.dev
    let w := d.dom.view
    let may := w.role = 2 ∧ w.joining = false ∧ w.requests ≠ [] ∧ w.prepared = none ∧ w.adopting = none ∧
      w.lastChange + msCycles 50 ≤ d.cycle
    (¬may → t = d) ∧
    (may → t = (d.mapView fun w => { w with requests := [] }).writePrepared (fresh d (w.next w.requests) true))) ∧
  (∀ (p : Fin 2) (m : Msg), Hears (.prepare p m) p 0x30 m (fun d =>
    match m.next with
    | none => d
    | some n =>
      if epochNewer n.epoch d.dom.view.epoch = false then d
      else match d.dom.view.prepared with
        | none => d.writePrepared (fresh d n false)
        | some x =>
          if x.epoch = n.epoch ∧ x.refused = true then d
          else if x.epoch = n.epoch then d.send { Msg.group 0x31 with marks := [n.epoch], next := some n }
          else if epochNewer n.epoch x.epoch = true then d.writePrepared (fresh d n false) else d) ∧
   Hears (.prepareAck p m) p 0x31 m (fun d => match m.next with | some n => d.countVote n m.src true | none => d) ∧
   Hears (.commitMessage p m) p 0x32 m (fun d =>
    match m.next with
    | some n => if epochNewer n.epoch d.dom.view.epoch = true ∧ d.dom.view.adopting = none then d.writeView n false else d
    | none => d) ∧
   Hears (.recover p m) p 0x33 m (fun d =>
    let e := m.marks.getD 0 0
    if epochNewer e d.dom.view.epoch = false then d
    else match d.dom.view.prepared with
      | none => d.writePrepared (refusal d e m.src)
      | some x =>
        if x.epoch = e then d.send { Msg.to 0x34 m.src with marks := [e, if x.refused then 0 else 1], next := x.next }
        else if epochNewer e x.epoch = true then d.writePrepared (refusal d e m.src) else d) ∧
   Hears (.recoverReply p m) p 0x34 m (fun d => d.recoverReplyIn m) ∧
   Hears (.rollback p m) p 0x35 m (fun d => d.rollBack (m.marks.getD 0 0))) ∧
  (∀ s, Does .prepareResendTimer s fun t =>
    let d := s.dev
    let w := d.dom.view
    let acked := fun (n : Next) => match w.votes.find? fun v => v.next.epoch == n.epoch with | some v => v.acks | none => []
    ((∀ x n, w.prepared = some x → x.next = some n → x.mine = false) → t = d) ∧
    ∀ x n, w.prepared = some x → x.next = some n → x.mine = true →
      t = (w.others.filter fun k => !(acked n).contains k).foldl (fun d k => d.send { Msg.to 0x30 k with
        marks := [n.epoch], next := some n }) d) ∧
  (∀ s, Does .recoveryTakeover s fun t =>
    let d := s.dev
    let w := d.dom.view
    let may := fun (x : Prepared) (coord : Nat) => x.refused = false ∧ x.mine = false ∧ x.recovering = false ∧ w.adopting = none ∧
      d.dom.unreach.mem coord = true ∧ ∀ k ∈ d.reached, w.moduleId ≤ k
    ((∀ x c, w.prepared = some x → w.members.head? = some c → ¬may x c) → t = d) ∧
    ∀ x c, w.prepared = some x → w.members.head? = some c → may x c →
      t = ((d.mapView fun w => { w with prepared := some { x with recovering := true } }).fault 200).send
        { Msg.group 0x33 with marks := [x.epoch] } ∧ t.gave (.event 200)) ∧
  (∀ s, Does .recoverResendTimer s fun t =>
    let d := s.dev
    ((∀ x, d.dom.view.prepared = some x → x.recovering = false) → t = d) ∧
    ∀ x, d.dom.view.prepared = some x → x.recovering = true → t = d.send { Msg.group 0x33 with marks := [x.epoch] }) ∧
  (∀ s, Does .epochGraceEnd s fun t =>
    let d := s.dev
    (d.dom.view.grace = [] → t = d) ∧
    (d.dom.view.grace ≠ [] → t = (d.mapView fun w => { w with grace := w.grace.drop 1 }).epochChanged)) ∧
  ∀ (src seq : Nat) s, Does (.gracedHoldExpiry src seq) s fun t =>
    let d := s.dev
    let hit := fun (m : Msg) => m.src == src && m.seq == seq
    let bhit := fun (b : Blob) => b.src == src && b.seq == seq
    let rest := d.mapDom fun x => { x with held := x.held.filter fun m => !hit m, heldBlobs := x.heldBlobs.filter fun b => !bhit b }
    t = (d.dom.heldBlobs.filter bhit).foldl (fun d b => d.answerEpoch { Msg.blank with typ := 0x40, src := b.src, seq := b.seq } 0x20)
      ((d.dom.held.filter hit).foldl (fun d m => d.answerEpoch m 0x20) rest)

/-- Fabric ports, the timers and marks of members, and the commands of the DOM page. A port that loses its link counts on
source 192, a rejected frame on 193, a malformed message on 194, each only while the link is up. A joining module sends
HELLO, a member HEARTBEAT to its neighbours, and reports its marks to the coordinator while any lasts. A silent member is
marked; the coordinator requests the removal of a marked member that another reports. A message without its answer is sent
once more on the other port. APPLY_K requests the factor and is done at once; LEAVE, in MAINTENANCE alone, requests the
module's removal, and ends once its push has ended: the module stands outside the domain. RESYNC starts the run of R503 and
sends the digest of each of its ranges to the members on both sides; it ends when nothing is asked or read any more. The DOM
soft reset, only in MAINTENANCE, clears marks and ends what runs. (11_jochevy_domain.md, 02_register_convention.md,
15_faults.md, 13_modes_custody.md, 10_record_store.md). -/
def Obligations.DomainUnit : Prop :=
  let cmd := domAt Off.domCmd
  let up := fun (d : Device) (p : Nat) => d.dom.portUp.getD p false = true
  let idle := fun (d : Device) (bit : Nat) => d.writeBarred cmd = false ∧ d.bit cmd bit = false ∧ d.reg cmd &&& 7 = 0
  let waits := fun (c : Instr) (bit : Nat) => ∀ s, Does c s fun t =>
    let d := s.dev
    (d.writeBarred cmd = true → t = d.writeLost cmd) ∧
    (d.writeBarred cmd = false → d.bit cmd bit = true → t = d) ∧
    (d.writeBarred cmd = false → d.bit cmd bit = false → d.reg cmd &&& 7 ≠ 0 → t = d.writeLost cmd)
  (∀ (p : Fin 2) s, Does (.fabricLinkLoss p) s fun t =>
    let d := s.dev
    (¬up d p → t = d) ∧
    (up d p → t = ((d.domStep fun x => { x with portUp := x.portUp.set p false, portSecured := x.portSecured.set p false }).fault
      192).raiseInt .dom 0 3 ∧ t.gave (.event 192))) ∧
  (∀ (p : Fin 2) s, Does (.fabricLinkUp p) s fun t =>
    (up s.dev p → t = s.dev) ∧
    (¬up s.dev p → t = (s.dev.domStep fun x => { x with portUp := x.portUp.set p true }).raiseInt .dom 0 3)) ∧
  (∀ (p : Fin 2) s, Does (.frameRejected p) s fun t =>
    (¬up s.dev p → t = s.dev) ∧ (up s.dev p → t = s.dev.fault 193 ∧ t.gave (.event 193))) ∧
  (∀ (p : Fin 2) s, Does (.malformedMessage p) s fun t =>
    (¬up s.dev p → t = s.dev) ∧ (up s.dev p → t = s.dev.fault 194 ∧ t.gave (.event 194))) ∧
  (∀ (p : Fin 2) s, Does (.noFrameVerified1ms p) s fun t =>
    let secured := s.dev.dom.portSecured.getD p false
    (secured = false → t = s.dev) ∧
    (secured = true → t = (s.dev.mapDom fun x => { x with portSecured := x.portSecured.set p false }).raiseInt .dom 0 3)) ∧
  (∀ s, Does .helloTimer s fun t =>
    let d := s.dev
    let w := d.dom.view
    let joins := w.inDomain = true ∧ w.joining = true ∧ (d.keys.cls = 2 ∨ d.keys.cls = 3)
    (joins → t = d.send { Msg.group 0x01 with payload := w.domainId ++ padTo 32 Config.identityDigest, marks := [w.epoch] }) ∧
    (¬joins → t = d)) ∧
  (∀ s, Does .heartbeatTimer s fun t =>
    let d := s.dev
    (d.dom.view.inDomain = true → t = d.dom.view.neighbours.foldl (fun d k => d.send (Msg.to 0x02 k)) d) ∧
    (d.dom.view.inDomain = false → t = d)) ∧
  (∀ (k : Nat) s, Does (.memberUnreachable k) s fun t =>
    let d := s.dev
    let w := d.dom.view
    let marks := w.inDomain = true ∧ d.dom.unreach.mem k = false ∧ k ∈ w.others
    let hit := (d.store.commits.filter fun c => c.targets.contains k && !c.acks.contains k).map fun c => c.rcd.seq
    (¬marks → t = d) ∧
    (marks → t = hit.foldl (fun d n => d.pursue n true) (((d.domStep fun x => { x with
      unreach := x.unreach.add k, waiting := x.waiting.filter fun y => y.msg.dst != k }).fault 195).raiseInt .dom 0 2) ∧
      t.gave (.event 195))) ∧
  (∀ s, Does .reportTimer s fun t =>
    let d := s.dev
    let w := d.dom.view
    let due := fun (c : Nat) => d.dom.unreach ≠ [] ∧ c ≠ w.moduleId ∧ w.inDomain = true
    ((∀ c, w.members.head? = some c → ¬due c) → t = d) ∧
    ∀ c, w.members.head? = some c → due c → t = d.send { Msg.to 0x03 c with marks := (d.dom.unreach.map Prod.fst).take 512 }) ∧
  (∀ (k : Nat) s, Does (.memberLost k) s fun t =>
    let d := s.dev
    let lost := d.dom.view.role = 2 ∧ d.dom.unreach.mem k = true ∧ ∃ r ∈ d.dom.reports, r.2 = k ∧ r.1 ≠ k
    (lost → t = d.request (.remove k)) ∧ (¬lost → t = d)) ∧
  (∀ (n : Nat) s, Does (.otherPortResend n) s fun t =>
    let d := s.dev
    let msg := d.dom.waiting.find? fun w => w.msg.seq == n
    ((∀ w, msg = some w → w.resent = true ∨ ¬up d (1 - w.port)) → t = d) ∧
    ∀ w, msg = some w → w.resent = false → up d (1 - w.port) →
      t = ((d.mapDom fun x => { x with waiting := x.waiting.map fun y =>
        if y.msg.seq = n then { y with resent := true } else y }).emitFrame (1 - w.port) w.msg).countEvent none 0x21 1) ∧
  waits .applyK 0 ∧ waits .leave 1 ∧ waits .resync 2 ∧
  (∀ s, Does .applyK s fun t =>
    let d := s.dev
    let d1 := d.commandStart cmd 0
    idle d 0 →
      (d.dom.view.inDomain = true →
        t = ((d1.request (.setK (max 1 (d.field (domAt Off.domCfg) 2 0)))).commandEnd cmd 0 8).raiseInt .dom 0 4) ∧
      (d.dom.view.inDomain = false → t = (d1.commandEnd cmd 0 8).raiseInt .dom 0 4)) ∧
  (∀ s, Does .leave s fun t =>
    let d := s.dev
    idle d 1 →
      (d.cust.mode ≠ .maintenance → t = d.writeLost cmd) ∧
      (d.cust.mode = .maintenance → d.dom.view.inDomain = false → t = ((d.commandStart cmd 1).commandEnd cmd 1 9).raiseInt .dom 0 4) ∧
      (d.cust.mode = .maintenance → d.dom.view.inDomain = true →
        t = ((d.commandStart cmd 1).mapDom fun x => { x with leaving := true }).request (.remove d.dom.view.moduleId))) ∧
  (∀ s, Does .leaveEnd s fun t =>
    let d := s.dev
    let w := d.dom.view
    let done := d.dom.leaving = true ∧ w.moduleId ∉ w.members ∧ ∀ x ∈ d.dom.waiting, x.msg.typ ≠ 0x10
    (¬done → t = d) ∧
    (done → t = ((((if d.dom.resync = true then d.endResync true else d).releaseRecords none (metaRecords 0x04 0 2 [])).domStep fun x => { x with
      leaving := false, waiting := [], outq := [], held := [], heldBlobs := [], asks := [], unreach := [], resync := false
      view := { x.view with inDomain := false, members := [], ids := [], k := 1, grace := [], prepared := none, votes := []
                            requests := [], adopting := none } }).commandEnd cmd 1 9).raiseInt .dom 0 4)) ∧
  (∀ s, Does .resync s fun t =>
    let d := s.dev
    let digest := fun (d : Device) (k lo hi : Nat) => { Msg.to 0x20 k with
      payload := beBytes 8 lo ++ beBytes 8 hi ++ Device.rangeDigest (d.rangeRecords lo hi)
      idents := (d.rangeRecords lo hi).map fun r => (r.ident, r.origin, r.seq) }
    idle d 2 → t = (memberPoints d.dom.view.domainId d.dom.view.moduleId).foldl (fun d pos =>
      (d.ringSides pos).foldl (fun d k => d.send (digest d k (d.ringLow pos) pos)) d) ((d.startResync true).commandStart cmd 2)) ∧
  (∀ s, Does .resyncEnd s fun t =>
    let d := s.dev
    let ended := d.dom.resync = true ∧ (∀ a ∈ d.dom.asks, a.why ≠ .resync) ∧ ∀ r ∈ d.dom.reads, r.key < 2 ^ 21 ∨ 2 ^ 50 ≤ r.key
    (ended → t = d.endResync false) ∧ (¬ended → t = d)) ∧
  (∀ s, Does .domSoftReset s fun t =>
    let d := s.dev
    let b := Page.dom.base 0
    let m := d.cust.mode = .maintenance
    (¬m → t = d.writeLost (domAt 8)) ∧
    (m → d.writeBarred (b + 8) = true → t = d.writeLost (b + 8)) ∧
    (m → d.writeBarred (b + 8) = false → d.bit (b + 8) 2 = true → t = d.writeLost b) ∧
    (m → d.writeBarred (b + 8) = false → d.bit (b + 8) 2 = false →
      t = (((d.commandStart (b + 8) 1).mapPages fun p => { p with resetting := p.resetting.add b }).progEnd b true).domReset))

/-- FREEZE to DISCARD: moving a tenant between modules, claims, and forwarding stubs. FREEZE, SAVE and RESTORE outside
SERVICE and MAINTENANCE end 0x0A. FREEZE of a VF that is not ACTIVE ends 1, at the last PGEN 2; else its unstarted items
complete MIGRATED, and VF_FROZEN ends it with 0 once nothing of it runs. SAVE needs a frozen VF, else 1, and a peer that is
reached, else 3; it sends the blob, and BLOB_ACK ends it with 0 or 4. A blob takes the lowest free slot. RESTORE ends with
the code of its first failed check, source 203 for a bad tag, or claims; CLAIM is granted once; its reply restores the VF,
or ends 7, and no reply ends 8. UNFREEZE of a claimed VF ends 7, else the VF is ACTIVE again. DISCARD empties a slot, or
ends 5. A stub's expiry, and the timer, ask for the open commits that moved. (11_jochevy_domain.md, 13_modes_custody.md,
12_tenancy.md, 08_scheduler.md, 10_record_store.md). -/
def Obligations.MovingTenants : Prop :=
  let idle := fun (d : Device) (bit : Nat) => d.writeBarred migCmd = false ∧ d.bit migCmd bit = false ∧ d.reg migCmd &&& 0x1F = 0
  let runs := fun (c : Instr) (bit : Nat) (f : Device → Device) => ∀ s, Does c s fun t =>
    let d := s.dev
    (d.writeBarred migCmd = true → t = d.writeLost migCmd) ∧
    (d.writeBarred migCmd = false → d.bit migCmd bit = true → t = d) ∧
    (d.writeBarred migCmd = false → d.bit migCmd bit = false → d.reg migCmd &&& 0x1F ≠ 0 → t = d.writeLost migCmd) ∧
    (idle d bit → t = f (d.commandStart migCmd bit))
  let serving := fun (d : Device) => d.cust.mode = .service ∨ d.cust.mode = .maintenance
  let tag := fun (b : Blob) => ({ Msg.blank with typ := 0x40, src := b.src, seq := b.seq } : Msg)
  runs .freeze 0 (fun d =>
    let v := d.migVf
    if d.serving = false then d.migEnd 0 v 0x0A
    else if (d.vf v).st ≠ .active then d.migEnd 0 v 1
    else if (d.vf v).pgen = 0xFFFF then d.migEnd 0 v 2
    else ({ d with dom := { d.dom with mig := some (.freeze, v, 0, 0) } } : Device).freezeItems v) ∧
  (∀ s : State, s.dev.serving = true ↔ serving s.dev) ∧
  (∀ (vf : Fin 4096) s, Does (.vfFrozen vf) s fun t =>
    let d := s.dev
    let still := d.dom.mig = some (.freeze, (vf : Nat), 0, 0) ∧ ∀ e ∈ d.sched.items, e.2.route.vf = (vf : Nat) → e.2.work = none →
      e.2.stage ≠ .running ∧ ¬(e.2.stage = .ready ∧ e.2.run.firstUnit ≠ none ∧ e.2.exec ≠ .engine)
    let d2 := (d.freezeItems vf).takeOpens vf
    let d3 := (d2.1.sched.items.filter fun e => e.2.route.vf == (vf : Nat) && e.2.stage == .finished && e.2.work.isNone).foldl
      (fun d e => d.setItem e.1 { e.2 with comp := some (.plain .migrated 0) }) d2.1
    (¬still → t = d) ∧
    (still → t = ((d3.changeVf vf { d3.vf vf with st := .frozen }).mapDom fun x => { x with
      frozen := x.frozen.insert vf { claimed := false, blob := none, opens := d2.2, queue := [] } }).migEnd 0 vf 0)) ∧
  runs .save 1 (fun d =>
    let v := d.migVf
    if d.serving = false then d.migEnd 1 v 0x0A
    else match d.dom.frozen.find? v with
      | none => d.migEnd 1 v 1
      | some fr =>
        if (d.vf v).st ≠ .frozen then d.migEnd 1 v 1
        else if d.migPeer ∉ d.reached then d.migEnd 1 v 3
        else
          let b := d.keys.bank.sealBlob (d.random 12) (d.makeBlob v d.migPeer fr.opens)
          let len := b.sealed.length
          let msgs := (128 + len + 8911) / 8912
          ((((d.drawn.mapDom fun x => { x with
            frozen := x.frozen.insert v { fr with blob := some b }, mig := some (.save, v, d.migPeer, 0)
            msgSeq := x.msgSeq + msgs }).progStart (Page.vfm.base v) 0x0005 len).progPos
              (Page.vfm.base v) len).emit (.blob d.migPeer b)).countEvent none 0x21 msgs) ∧
  (∀ (p : Fin 2) (b : Blob) s, Does (.blob p b) s fun t =>
    let d := s.dev
    let listens := d.dom.view.inDomain = true ∧ d.fabricOn = true ∧ d.dom.portUp.getD p false = true ∧ b.dst = d.dom.view.moduleId
    let e := d.heard p (tag b)
    let newer := epochNewer b.epoch e.dom.view.epoch = true
    (¬listens → t = d) ∧
    (listens → newer → t = e.mapDom fun x => { x with heldBlobs := x.heldBlobs ++ [b] }) ∧
    (listens → ¬newer → e.epochServed b.epoch = false → t = e.answerEpoch (tag b) 0x21) ∧
    (listens → ¬newer → e.epochServed b.epoch = true →
      (∀ k, (List.range 16).find? (fun k => !e.dom.blobs.has k) = some k →
        t = ((e.mapDom fun x => { x with blobs := x.blobs.insert k b }).raiseInt .dom 0 6).send { (tag b).reply 0x41 0 with marks := [1] }) ∧
      ((∀ k < 16, e.dom.blobs.has k = true) → t = e.send { (tag b).reply 0x41 0 with marks := [0] }))) ∧
  (∀ (p : Fin 2) (m : Msg),
   Hears (.blobAck p m) p 0x41 m (fun d => match d.dom.mig with
     | some (.save, v, peer, _) =>
       if m.src ≠ peer ∨ m.status ≠ 0 then d
       else if m.marks.head? = some 1 then (d.progEnd (Page.vfm.base v) false).migEnd 1 v 0
       else (d.progEnd (Page.vfm.base v) true).migEnd 1 v 4
     | _ => d) ∧
   Hears (.claim p m) p 0x42 m (fun d =>
     match List.find? (fun e => (d.vf e.1).tenant == m.tenant && (d.vf e.1).pgen == m.pgen && (d.vf e.1).st == .frozen) d.dom.frozen with
     | none => d.send { m.reply 0x43 0 with marks := [0] }
     | some (v, fr) =>
       if fr.claimed = true ∨ fr.blob = none ∨ (m.tenant, m.pgen) ∈ d.dom.granted then d.send { m.reply 0x43 0 with marks := [0] }
       else fr.queue.foldl (fun d q => d.forward q m.src) ((d.mapDom fun x => { x with
         frozen := x.frozen.insert v { fr with claimed := true, blob := none, queue := [] }, granted := x.granted ++ [(m.tenant, m.pgen)]
         stubs := x.stubs ++ [{ tenant := m.tenant, pgen := m.pgen, target := m.src, queue := [] }] }).send
           { m.reply 0x43 0 with marks := [1] })) ∧
   Hears (.claimReply p m) p 0x43 m (fun d => match d.dom.mig with
     | some (.restore, v, peer, slot) =>
       if m.src ≠ peer ∨ m.status ≠ 0 then d
       else match d.dom.blobs.find? slot with
         | none => (d.progEnd (Page.vfm.base v) true).migEnd 2 v 5
         | some b => if m.marks.head? = some 1 then d.restoreVf v slot b else (d.progEnd (Page.vfm.base v) true).migEnd 2 v 7
     | _ => d)) ∧
  runs .restore 2 (fun d =>
    let v := d.migVf
    match d.restoreCheck v d.migSlot, d.dom.blobs.find? d.migSlot with
    | some code, some b => (if code = 6 ∧ d.keys.bank.blobOpens b = false then d.fault 203 else d).migEnd 2 v code
    | some code, none => d.migEnd 2 v code
    | none, none => d.migEnd 2 v 5
    | none, some b => ((d.mapDom fun x => { x with mig := some (.restore, v, b.src, d.migSlot) }).progStart (Page.vfm.base v) 0x0006
        b.sealed.length).send { Msg.to 0x42 b.src with tenant := b.vf.tenant, pgen := b.pgenOld }) ∧
  (∀ s, Does .claimTimeout s fun t =>
    let d := s.dev
    (∀ v peer slot, d.dom.mig = some (.restore, v, peer, slot) → t = (d.progEnd (Page.vfm.base v) true).migEnd 2 v 8) ∧
    ((∀ v peer slot, d.dom.mig ≠ some (.restore, v, peer, slot)) → t = d)) ∧
  runs .unfreeze 3 (fun d =>
    let v := d.migVf
    if d.notLocked = false then d.migEnd 3 v 0x0A
    else if (d.vf v).st ≠ .frozen then d.migEnd 3 v 1
    else match d.dom.frozen.find? v with
      | none => d.migEnd 3 v 1
      | some fr =>
        if fr.claimed = true then d.migEnd 3 v 7
        else
          let d1 := (d.changeVf v { d.vf v with st := .active }).mapDom fun x => { x with frozen := x.frozen.erase v }
          let d2 := d1.sched.items.foldl (fun d e =>
            if e.2.route.vf = v ∧ e.2.stage = .parked ∧ e.2.run.firstUnit ≠ none ∧ e.2.run.firstUnit = e.2.run.unit then
              d.setItem e.1 { e.2 with stage := .ready, level := 7, run := { e.2.run with unit := none } } else d) d1
          (fr.queue.foldl (fun d m => if m.typ = 0x11 then d.ackFrom m m.src else d) d2).migEnd 3 v 0) ∧
  runs .discard 4 (fun d =>
    if d.notLocked = false then d.migEnd 4 d.migVf 0x0A
    else if d.dom.blobs.has d.migSlot = true then (d.mapDom fun x => { x with blobs := x.blobs.erase d.migSlot }).migEnd 4 d.migVf 0
    else d.migEnd 4 d.migVf 5) ∧
  (∀ (tenant pgen : Nat) s, Does (.stubExpiry tenant pgen) s fun t =>
    let d1 := s.dev.mapDom fun x => { x with stubs := x.stubs.filter fun y => !(y.tenant == tenant && y.pgen == pgen) }
    t = (d1.dom.moved.filter fun c => c.rcd.ident.tenant == tenant && c.rcd.pgen == pgen).foldl (fun d c => d.queryMoved c) d1) ∧
  ∀ s, Does .openCommitQueryTimer s fun t => t = s.dev.dom.moved.foldl (fun d c => d.queryMoved c) s.dev

/-- CREATE, ACTIVATE, DRAIN, DESTROY and RECLAIM of a VF, and their ends. A management command that runs already is no
request; while another runs, the write is lost. It ends with code 5 in a mode that does not permit it, 4 for a VF that is
not exposed, 1 in a state that it does not take; CREATE further 2 for its tenant ID, 6 for its minima and quota, 3 where the
pool has no room. CREATE disables the queue pairs and makes the VF CREATED with PGEN 1; ACTIVATE fills the tokens; DRAIN
lasts until every accepted descriptor has completed, and then the VF is CREATED. DESTROY drops the tenant's runs, parked
contexts and blob, and the management registers, and ends when the VF is ABSENT. RECLAIM drains the queue pairs above the
quota and evicts runs until the quota is reached and its drains have ended. (12_tenancy.md, 13_modes_custody.md,
02_register_convention.md, 09_key_hierarchy.md). -/
def Obligations.TenantCommands : Prop :=
  let runs := fun (c : Fin 4096 → Instr) (bit : Nat) (states : List VfState) (more : Device → Nat → Option Nat) (f : Device → Nat → Device) =>
    ∀ (vf : Fin 4096) s, Does (c vf) s fun t =>
      let d := s.dev
      let v : Nat := vf
      let a := vfmAt v Off.vfmCmd
      let e := d.commandStart a bit
      let free := d.writeBarred a = false ∧ d.bit a bit = false ∧ d.reg a &&& 0x1F = 0
      (d.writeBarred a = true → t = d.writeLost a) ∧
      (d.writeBarred a = false → d.bit a bit = true → t = d) ∧
      (d.writeBarred a = false → d.bit a bit = false → d.reg a &&& 0x1F ≠ 0 → t = d.writeLost a) ∧
      (free → e.cust.mode.permitsVfm bit = false → t = e.vfmEnd v bit 5) ∧
      (free → e.cust.mode.permitsVfm bit = true → e.exposed v = false → t = e.vfmEnd v bit 4) ∧
      (free → e.cust.mode.permitsVfm bit = true → e.exposed v = true → (e.vf v).st ∉ states → t = e.vfmEnd v bit 1) ∧
      (free → e.cust.mode.permitsVfm bit = true → e.exposed v = true → (e.vf v).st ∈ states →
        (∀ k, more e v = some k → t = e.vfmEnd v bit k) ∧ (more e v = none → t = f e v))
  let none_ := fun (_ : Device) (_ : Nat) => (none : Option Nat)
  runs .create 0 [.absent] (fun d v =>
    let tenant := d.reg (vfmAt v Off.vfmTenant)
    let lane := d.field (vfmAt v Off.vfmMinShare) 15 0
    let engine := d.field (vfmAt v Off.vfmMinShare) 31 16
    let slots := d.field (vfmAt v Off.vfmMinSlots) 14 0
    if tenant = 0 ∨ (d.front.vfs.any fun e => e.2.st != .absent && e.2.tenant == tenant) = true then some 2
    else if 10000 < lane ∨ 10000 < engine ∨ d.field (vfmAt v Off.vfmQuotaSlots) 20 0 < 64 * slots then some 6
    else if d.poolCovers (d.field (vfmAt v Off.vfmMinSlots) 26 24) (some v) lane engine slots = true then none else some 3)
    (fun d v => ((d.disableQps v).changeVf v (d.limitsOf v { Vf.initial with
      st := .created, tenant := d.reg (vfmAt v Off.vfmTenant), pgen := 1, pool := d.field (vfmAt v Off.vfmMinSlots) 26 24
      minLane := d.field (vfmAt v Off.vfmMinShare) 15 0, minEngine := d.field (vfmAt v Off.vfmMinShare) 31 16
      minSlots := d.field (vfmAt v Off.vfmMinSlots) 14 0 })).vfmEnd v 0 0) ∧
  runs .activate 1 [.created] none_ (fun d v => (d.changeVf v { d.vf v with
    st := .active, tokens := if (d.vf v).rate = 0 then 0 else (d.vf v).burst * 16, frac := 0 }).vfmEnd v 1 0) ∧
  runs .drain 2 [.active] none_ (fun d v => d.changeVf v { d.vf v with st := .draining, drainFrom := d.sched.nextItem }) ∧
  (∀ (vf : Fin 4096) s, Does (.drainEnd vf) s fun t =>
    let d := s.dev
    let v : Nat := vf
    let over_ := (d.vf v).st = .draining ∧ d.busyVf v none = false
    (¬over_ → t = d) ∧
    (over_ → t = ((d.disableQps v).changeVf v { d.vf v with st := .created, drainFrom := 0 }).vfmEnd v 2 0)) ∧
  runs .destroy 3 [.created, .frozen] none_ (fun d v =>
    let d1 := d.mapKeys fun k => { k with runs := k.runs.filter fun e => e.2.tenant != (d.vf v).tenant }
    let parked := d1.sched.items.filter fun e => e.2.route.vf == v && e.2.stage == .parked
    let d2 := (parked.foldl (fun d e => d.dropItem e.1) d1).mapDom fun x => { x with frozen := x.frozen.erase v }
    let d3 := (List.range 8).foldl (fun d c => d.zeroVfCounter v c) d2
    (d3.eraseRegs (vfmAt v Off.vfmTenant) (vfmAt v 0x1000)).changeVf v { d3.vf v with st := .destroyed, reclaiming := false }) ∧
  (∀ (vf : Fin 4096) s, Does (.vfAbsent vf) s fun t =>
    ((s.dev.vf vf).st = .destroyed → t = (s.dev.changeVf vf Vf.initial).vfmEnd vf 3 0) ∧ ((s.dev.vf vf).st ≠ .destroyed → t = s.dev)) ∧
  runs .reclaim 4 [.created, .active, .frozen, .draining] none_ (fun d v =>
    let x := d.vf v
    let qs := (List.range 64).filter fun q => decide (x.qpQuota ≤ q) && (d.qp v q).enabled && !(d.qp v q).draining
    let d2 := qs.foldl (fun d q => d.startDrain v q) (d.setVf v { x with reclaiming := true, reclaimQps := qs })
    Device.evictDown x.tenant x.quotaSlots d2.keys.runs.length d2) ∧
  ∀ (vf : Fin 4096) s, Does (.reclaimEnd vf) s fun t =>
    let d := s.dev
    let v : Nat := vf
    let x := d.vf v
    let e := Device.evictDown x.tenant x.quotaSlots d.keys.runs.length d
    let reached := e.slotUse x.tenant ≤ x.quotaSlots ∧ ∀ q ∈ x.reclaimQps, (e.qp v q).draining = false
    (x.reclaiming = false → t = d) ∧
    (x.reclaiming = true → ¬reached → t = e) ∧
    (x.reclaiming = true → reached → t = (e.setVf v { x with reclaiming := false, reclaimQps := [] }).vfmEnd v 4 0)

/-- Queue pairs, VF resets, VF Enable, page enables, and the mailbox between a tenant and the manager. QP_ENABLE_WRITE and
QP_DRAIN write QP_CFG with ENABLE 1 and 0; a drain ends once every accepted descriptor has completed: the queue pair is
disabled and QP_DRAINED is set. QP_ERROR_CLEAR clears ERROR. A VF reset of the tenant's sets TENANT_RESET; one of the
management page is refused by its LOCK. VF Enable exposes at most 4,096 VFs, and its clearing resets each exposed VF. SEND
and POST are refused for a VF that takes no mailbox command, or a LEN above 63; SEND carries the message and sets T2M_VALID;
TAKE frees it and ends the SEND; POST waits for M2T_VALID 0; the tenant's freeing of MB_M2T delivers a waiting POST. The MBX
soft reset discards frames, and keeps the pool table. (12_tenancy.md, 03_host_queues.md, 02_register_convention.md,
11_jochevy_domain.md). -/
def Obligations.QueuePairsAndMailbox : Prop :=
  (∀ (vf : Fin 4096) (qp : Fin 64) (w : Word) s, Does (.qpEnableWrite vf qp w) s fun t =>
    t = s.dev.qpCfgWrite vf qp (w ||| 0x80000000).toNat ∧ (s.dev.exposed vf = false → t = s.dev)) ∧
  (∀ (vf : Fin 4096) (qp : Fin 64) (w : Word) s, Does (.qpDrain vf qp w) s fun t =>
    t = s.dev.qpCfgWrite vf qp (w &&& 0x7FFFFFFF).toNat ∧ (s.dev.exposed vf = false → t = s.dev)) ∧
  (∀ (vf : Fin 4096) (qp : Fin 64) s, Does (.qpDrainEnd vf qp) s fun t =>
    let d := s.dev
    let ended := (d.qp vf qp).draining = true ∧ d.busyVf vf (some (qp : Nat)) = false
    (¬ended → t = d) ∧ (ended → t = (d.disableQp vf qp).raiseInt .vf vf 2)) ∧
  (∀ (vf : Fin 4096) (qp : Fin 64) s, Does (.qpErrorClear vf qp) s fun t =>
    let d := s.dev
    let a := qpBase vf qp + 0x14
    (d.exposed vf = false → t = d) ∧
    (d.exposed vf = true → d.writeBarred a = true → t = d.writeLost a) ∧
    (d.exposed vf = true → d.writeBarred a = false → t = d.w1c a 4)) ∧
  (∀ (vf : Fin 4096) (cause : Fin 3) s, Does (.vfReset vf cause) s fun t =>
    let d := s.dev
    let v : Nat := vf
    let locked := d.bit (Page.vfm.base v + 8) 2
    ((cause : Nat) = 2 → locked = true → t = d.writeLost (Page.vfm.base v)) ∧
    ((cause : Nat) = 2 → locked = false → t = d.resetVf v) ∧
    ((cause : Nat) ≠ 2 → d.exposed v = false → t = d) ∧
    ((cause : Nat) ≠ 2 → d.exposed v = true → t = (d.raiseInt .vfm v 4).resetVf v)) ∧
  (∀ (n : Nat) s, Does (.vfEnableSet n) s fun t =>
    let d := s.dev
    (d.front.vfEnable = true → t = d) ∧
    (d.front.vfEnable = false → t = { d with front := { d.front with vfEnable := true, numVfs := min n 4096 } })) ∧
  (∀ s, Does .vfEnableClear s fun t =>
    let d := s.dev
    (d.front.vfEnable = false → t = d) ∧
    (d.front.vfEnable = true →
      t = ((List.range d.front.numVfs).foldl (fun d v => d.resetVf v) d).mapFront fun f => { f with vfEnable := false })) ∧
  (∀ (vf : Fin 4096) (manager enable : Bool) s, Does (.vfPageEnableWrite vf manager enable) s fun t =>
    let d := s.dev
    let a := (if manager then Page.vfm.base vf else Page.vf.base vf) + 8
    let hidden := manager = false ∧ d.exposed vf = false
    let barred := d.writeBarred a = true ∨ d.pageLocked a = true
    (hidden → t = d) ∧
    (¬hidden → barred → t = d.writeLost a) ∧
    (¬hidden → ¬barred → t = (d.noteWrite a).setField a 0 0 (if enable then 1 else 0))) ∧
  (∀ (vf : Fin 4096) s, Does (.send vf) s fun t =>
    let d := s.dev
    let v : Nat := vf
    let a := mbAt v Off.mbCtrl
    let refused := (d.vf v).st = .absent ∨ (d.vf v).st = .destroyed ∨ 63 < d.field (mbAt v Off.mbT2m) 15 8
    (d.exposed v = false → t = d) ∧
    (d.exposed v = true → d.writeBarred a = true → t = d.writeLost a) ∧
    (d.exposed v = true → d.writeBarred a = false → d.bit a 0 = true → t = d) ∧
    (d.exposed v = true → d.writeBarred a = false → d.bit a 0 = false → refused → t = d.writeLost a) ∧
    (d.exposed v = true → d.writeBarred a = false → d.bit a 0 = false → ¬refused →
      t = (((d.commandStart a 0).carry (mbAt v Off.mbT2m) (vfmAt v Off.vfmT2m)).setField (vfmAt v Off.vfmMbCtrl) 2 2 1).raiseInt
        .vfm v 2)) ∧
  (∀ (vf : Fin 4096) s, Does (.take vf) s fun t =>
    let d := s.dev
    let v : Nat := vf
    let a := vfmAt v Off.vfmMbCtrl
    (d.writeBarred a = true ∨ d.bit a 2 = false → t = d.writeLost a) ∧
    (d.writeBarred a = false → d.bit a 2 = true →
      t = (((d.clearBits a 4).commandEnd (mbAt v Off.mbCtrl) 0 1).raiseInt .mb v 1).commandEnd a 1 4)) ∧
  (∀ (vf : Fin 4096) s, Does (.post vf) s fun t =>
    let d := s.dev
    let v : Nat := vf
    let a := vfmAt v Off.vfmMbCtrl
    let refused := (d.vf v).st = .absent ∨ (d.vf v).st = .destroyed ∨ 63 < d.field (vfmAt v Off.vfmM2t) 15 8
    (d.writeBarred a = true → t = d.writeLost a) ∧
    (d.writeBarred a = false → d.bit a 0 = true → t = d) ∧
    (d.writeBarred a = false → d.bit a 0 = false → refused → t = d.writeLost a) ∧
    (d.writeBarred a = false → d.bit a 0 = false → ¬refused → t = (d.commandStart a 0).deliverPost v)) ∧
  (∀ (vf : Fin 4096) s, Does (.m2tFree vf) s fun t =>
    let d := s.dev
    let v : Nat := vf
    let a := mbAt v Off.mbCtrl
    (d.exposed v = false → t = d) ∧
    (d.exposed v = true → d.writeBarred a = true → t = d.writeLost a) ∧
    (d.exposed v = true → d.writeBarred a = false → d.bit a 2 = true → (d.w1c a 4).bit a 2 = false →
      t = ((d.w1c a 4).raiseInt .vfm v 3).deliverPost v) ∧
    (d.exposed v = true → d.writeBarred a = false → ¬(d.bit a 2 = true ∧ (d.w1c a 4).bit a 2 = false) → t = d.w1c a 4)) ∧
  (∀ s, Does .mbxSoftReset s fun t =>
    let d := s.dev
    let b := mbxAt 0
    (d.writeBarred (b + 8) = true → t = d.writeLost (b + 8)) ∧
    (d.writeBarred (b + 8) = false → d.bit (b + 8) 2 = true → t = d.writeLost b) ∧
    (d.writeBarred (b + 8) = false → d.bit (b + 8) 2 = false →
      t = (((d.commandStart (b + 8) 1).mapPages fun p => { p with resetting := p.resetting.add b }).progEnd b true).mbxReset))

/-- OPEN, APPROVE, COMPONENT, TRANSPORT, CANCEL and QUERY, unknown types, and the window and limits of the quorum gate. OPEN
is answered with a RESULT that gives the refusal, and recorded, or with OPENED: the next ceremony ID, its transcript and
nonce, the window's end, and a key for KEY_IMPORT and JOIN. An input is answered 0x13 where it names no open ceremony, 0x15
once it executes or where it takes no such input; an approval 0x11 without such a custodian, 0x10 for a bad signature, 0x12
a second time, else 0 and counted; a component likewise, with its check value; a transport blob that fails its checks ends
the ceremony with 0x0A. The last input needed starts the execution. CANCEL ends a collecting ceremony with 0x02, the
window's expiry with 0x01. QUERY gives STATE; an unknown type STATE with 0x14. CLOSE_MAINT and the limit lead back to
SERVICE. (13_modes_custody.md, 02_register_convention.md). -/
def Obligations.CeremonyMessages : Prop :=
  let input := fun (d0 : Device) (carrier id : Nat) (takes : Ceremony → Prop) (t : Device) (act : Device → Ceremony → Device) =>
    let d := d0.expireLate
    (d.cust.ceremony = none → t = d.tallyReply carrier 0x13 id []) ∧
    ∀ c, d.cust.ceremony = some c →
      (c.id ≠ id → t = d.tallyReply carrier 0x13 id []) ∧
      (c.id = id → c.executing = true ∨ ¬takes c → t = d.tallyReply carrier 0x15 id []) ∧
      (c.id = id → c.executing = false → takes c → t = act d c)
  (∀ (k : Fin 2) (body : Bytes) s, Does (.openCeremony k body) s fun t =>
    let d := s.dev
    let typ := hdr body 0 1
    (∀ st r, d.openRefusal typ body = some (st, r) →
      t = ((if typ = 0x30 ∧ st = 8 then d.drawFree else d).ceremonyRecorded st typ).olihildReply k 0x07 st 0 r) ∧
    (d.openRefusal typ body = none → ∃ c, t.cust.ceremony = some c ∧ c.typ = typ ∧ c.id = (d.cust.lastId + 1) % 2 ^ 32 ∧
      c.carrier = k ∧ c.params = body.drop 4 ∧ c.nonce = d.random 32 ∧ c.approved = [] ∧ c.components = [] ∧ c.executing = false ∧
      c.windowMin = d.windowMin ∧ c.opened = d.cycle ∧ c.transcript = d.transcript c.id typ c.nonce c.params ∧
      t.cust.lastId = c.id ∧ t.cust.mode = d.cust.mode)) ∧
  (∀ (k : Fin 2) (id : Word) (body : Bytes) s, Does (.approve k id body) s fun t =>
    input s.dev k id.toNat (fun _ => True) t fun d c =>
      let ks := (d.approvers c).filter fun e => e.1 % 16 == hdr body 0 1
      match ks.find? fun e => e.2.approves c.transcript body with
      | none => d.tallyReply k (if ks = [] then 0x11 else 0x10) id.toNat []
      | some (n, _) =>
        if n ∈ c.approved then d.tallyReply k 0x12 id.toNat []
        else (((d.mapCust fun x => { x with ceremony := some { c with approved := c.approved ++ [n] } }).raiseInt .cust 0 1).tallyReply
          k 0 id.toNat []).tryExecute) ∧
  (∀ (k : Fin 2) (id : Word) (body : Bytes) s, Does (.component k id body) s fun t =>
    input s.dev k id.toNat (fun c => c.typ = 0x20) t fun d c =>
      let i := hdr body 0 1
      if d.setSize ≤ i then d.tallyReply k 0x11 id.toNat []
      else match c.openComponent body with
        | none => d.tallyReply k 0x10 id.toNat []
        | some key =>
          if (c.components.any fun e => e.1 == i) = true then d.tallyReply k 0x12 id.toNat []
          else if importCount c.params ≤ c.components.length then d.tallyReply k 0x15 id.toNat []
          else (((d.mapCust fun x => { x with ceremony := some { c with components := c.components ++ [(i, key)] } }).raiseInt .cust 0 1).tallyReply
            k 0 id.toNat (checkValue (importAlg c.params) key)).tryExecute) ∧
  (∀ (k : Fin 2) (id : Word) (body : Bytes) s, Does (.transport k id body) s fun t =>
    input s.dev k id.toNat (fun c => c.typ = 0x11 ∧ c.transport = none) t fun d c =>
      if d.openTransport c body = none then (d.tallyReply k 0x0A id.toNat []).endCeremony 0x0A (some [])
      else ((d.mapCust fun x => { x with ceremony := some { c with transport := some body } }).tallyReply k 0 id.toNat []).tryExecute) ∧
  (∀ (k : Fin 2) (id : Word) s, Does (.cancelMessage k id) s fun t =>
    let d := s.dev.expireLate
    (d.cust.ceremony = none → t = d.olihildReply k 0x07 0x13 id.toNat []) ∧
    ∀ c, d.cust.ceremony = some c →
      (c.id ≠ id.toNat → t = d.olihildReply k 0x07 0x13 id.toNat []) ∧
      (c.id = id.toNat → c.executing = true → t = d.olihildReply k 0x07 0x15 id.toNat []) ∧
      (c.id = id.toNat → c.executing = false → c.carrier = k → t = d.endCeremony 0x02 (some [])) ∧
      (c.id = id.toNat → c.executing = false → c.carrier ≠ k →
        t = (d.endCeremony 0x02 (some [])).olihildReply k 0x07 0x02 id.toNat [])) ∧
  (∀ (k : Fin 2) s, Does (.query k) s fun t => t = s.dev.olihildReply k 0x0A 0 0 s.dev.cust.stateBody) ∧
  (∀ (k : Fin 2) (typ : Byte) s, Does (.unknownOlihildType k typ) s fun t =>
    (typ.toNat ∈ [0x01, 0x03, 0x05, 0x06, 0x08, 0x09] → t = s.dev) ∧
    (typ.toNat ∉ [0x01, 0x03, 0x05, 0x06, 0x08, 0x09] → t = s.dev.olihildReply k 0x0A 0x14 0 s.dev.cust.stateBody)) ∧
  (∀ s, Does .ceremonyWindowExpiry s fun t =>
    let d := s.dev
    ((∀ c, d.cust.ceremony = some c → c.executing = true) → t = d) ∧
    ∀ c, d.cust.ceremony = some c → c.executing = false → t = d.endCeremony 0x01 (some [])) ∧
  (∀ s, Does .closeMaint s fun t =>
    let d := s.dev
    let a := custAt Off.custCmd
    (d.writeBarred a = true ∨ (d.cust.mode ≠ .maintenance ∧ d.pages.cyc.limit = false) → t = d.writeLost a) ∧
    (d.writeBarred a = false → d.cust.mode = .maintenance → t = (d.changeMode .service).commandEnd a 0 2) ∧
    (d.writeBarred a = false → d.cust.mode ≠ .maintenance → d.pages.cyc.limit = true → t = d.commandEnd a 0 2)) ∧
  (∀ s, Does .cancel s fun t =>
    let d := s.dev
    let a := custAt Off.custCmd
    (d.writeBarred a = true ∨ (∀ c, d.cust.ceremony = some c → c.executing = true) → t = d.writeLost a) ∧
    ∀ c, d.writeBarred a = false → d.cust.ceremony = some c → c.executing = false →
      t = (d.endCeremony 0x02 (some [])).commandEnd a 1 3) ∧
  (∀ s, Does .maintenanceLimitExpiry s fun t =>
    let d := s.dev
    (d.cust.maintEnd = none → t = d) ∧
    (d.cust.maintEnd ≠ none → d.cust.mode = .maintenance → t = (d.mapCyc fun c => { c with limit := true }).changeMode .service) ∧
    (d.cust.maintEnd ≠ none → d.cust.mode ≠ .maintenance → t = { d with cust := { d.cust with
      maintEnd := none, returnTo := if d.cust.returnTo = .maintenance then .service else d.cust.returnTo } })) ∧
  ∀ s, Does .maintExpiring s fun t =>
    (s.dev.cust.maintEnd = none → t = s.dev) ∧ (s.dev.cust.maintEnd ≠ none → t = s.dev.raiseInt .cust 0 3)

/-- What each ceremony does when its execution ends. Only a ceremony of the type that executes ends so. ENROL_INITIAL holds
the set; ENROL replaces and stores it, or ends 0x05, 0x07. ROOT_GENERATE and JOIN end 0x07 without the SSDs they need; JOIN
0x0A for a blob that does not open; else the root is set, the store formatted and the view begun. SPONSOR ends once the view
holds the identity. ROOT_REPLACE ends once the new root is in force, at once outside a domain. KEY_IMPORT combines the
components and releases the key, 0x07 where the store refuses, 0x0B where the tenant holds the ID, here or at the peers of
its placement, which are asked first; its RESULT follows the commit. TABLE_APPROVE puts its blocks behind the image, 0x08
without the key. ENTER_SERVICE, OPEN_MAINTENANCE and RETURN_CUSTODY change the mode; COMPAT_SET stores the setting; ZEROIZE
drives the line. REPLAY_RERUN answers with the tally over the units of the range. (13_modes_custody.md, 09_key_hierarchy.md,
10_record_store.md, 11_jochevy_domain.md, 04_tide_tables.md, 18_counters_replay.md). -/
def Obligations.CeremonyEnds : Prop :=
  let ends := fun (c : Instr) (typ : Nat) (f : Device → Ceremony → Device → Prop) => ∀ s, Does c s fun t =>
    let d := s.dev
    let runs := fun (x : Ceremony) => d.cust.ceremony = some x ∧ x.typ = typ ∧ x.executing = true
    ((∀ x, ¬runs x) → t = d) ∧ ∀ x, runs x → f d x t
  let may := fun (d : Device) => d.store.noWrite = false ∧ d.storeFull = false
  ends .enrolInitial 0x01 (fun d x t =>
    let e := d.mapCust fun y => { y with set := CSet.parse x.params, setStored := false }
    t = e.endCeremony 0 (some e.cust.digest)) ∧
  ends .enrol 0x02 (fun d x t =>
    (CSet.parse x.params = none → t = d.endCeremony 0x05 (some [])) ∧
    ∀ q, CSet.parse x.params = some q →
      (¬may d → t = d.endCeremony 0x07 (some [])) ∧
      (may d →
        let e := (d.mapCust fun y => { y with set := some q, setStored := true }).releaseRecords none (setRecords q)
        t = e.endCeremony 0 (some e.cust.digest))) ∧
  ends .rootGenerate 0x10 (fun d _ t =>
    (d.store.portsOk = false → t = d.endCeremony 0x07 (some [])) ∧
    (d.store.portsOk = true →
      let e := (d.drawn.setRoot (d.random 32) 1)
      let me := [(0, padTo 32 Config.identityDigest)]
      let g := e.drawn.formatStore.storeCustody
      let h := (g.domStep fun y => { y with fresh := false, resync := false, leaving := false, view := { View.initial with
        domainId := e.random 16, inDomain := true, epoch := 1, members := [0], ids := me, k := 1, lastChange := g.cycle } }).raiseInt .dom 0 0
      let n : Next := { epoch := 1, k := 1, members := [0], ids := me, changes := [] }
      t = (h.releaseRecords none (domainRecords h.dom.view 1 ++ viewRecords n)).drawApproval.endCeremony 0
        (some (e.random 16 ++ leBytes 2 0)))) ∧
  ends .join 0x11 (fun d x t =>
    (x.transport = none → t = d) ∧
    ∀ b, x.transport = some b →
      (d.openTransport x b = none → t = d.endCeremony 0x0A (some [])) ∧
      (d.openTransport x b ≠ none → d.store.portsOk = false → t = d.endCeremony 0x07 (some [])) ∧
      ∀ root, d.openTransport x b = some root → d.store.portsOk = true →
        let me := hdr b 32 2
        let g := (d.setRoot root (hdr b 24 4)).formatStore.storeCustody
        let h := (g.domStep fun y => { y with fresh := true, originAsked := [], resync := false, leaving := false, view := { View.initial with
          domainId := slice b 8 16, moduleId := me, inDomain := true, joining := true, epoch := hdr b 28 4, k := hdr b 34 1, lastChange := g.cycle } }).raiseInt .dom 0 0
        t = (h.releaseRecords none (domainRecords h.dom.view (hdr b 28 4))).endCeremony 0 (some (leBytes 2 me ++ slice b 8 16))) ∧
  ends .sponsor 0x12 (fun d x t =>
    let w := d.dom.view
    let found := List.find? (fun e => e.2 == slice x.params 1184 32 && w.members.contains e.1) w.ids
    (found = none → t = d) ∧
    ∀ m k, found = some (m, k) → t = d.drawn.drawn.endCeremony 0 (some (d.transportBlob x m))) ∧
  ends .rootReplace 0x13 (fun d x t =>
    let done := fun (e : Device) => e.endCeremony 0 (some (leBytes 4 e.keys.bank.rootEpoch))
    let inForce := leBytes 4 d.keys.bank.rootEpoch ≠ x.reply
    let e := epochSucc d.dom.view.epoch
    (inForce → t = done d) ∧
    (¬inForce → d.dom.view.inDomain = true → t = d) ∧
    (¬inForce → d.dom.view.inDomain = false →
      t = done (((d.drawn.mapView fun w => { w with epoch := e }).raiseInt .dom 0 0).adoptRoot (d.random 32) e))) ∧
  ends .keyImport 0x20 (fun d x t =>
    let tenant := importTenant x.params
    let id := importId x.params
    let held := x.found = true ∨ d.keyVersions tenant id ≠ [] ∨ d.versionsInFlight tenant id none ≠ []
    let waits := x.wait ≠ [] ∨ d.readOf (importRead x.id) ≠ none
    let alg := importAlg x.params
    let key := (x.components.map Prod.snd).foldl xorBytes (zeros (algLen alg))
    let a : KeyAttr := { newAttr (importUsage x.params) alg (importExportable x.params) false with
      tenant := tenant, keyId := id, version := 1, state := 1, ceremony := true, tdesWeak := tdesWeak alg key }
    let rs := (keyRecords a key).map fun r => d.recordOf tenant (match d.vfOf tenant with | some (_, f) => f.pgen | none => 0) r
    (waits → t = d) ∧
    (¬waits → d.storeRefusal ≠ none → t = d.endCeremony 0x07 (some [])) ∧
    (¬waits → d.storeRefusal = none → held → t = d.endCeremony 0x0B (some [])) ∧
    (¬waits → d.storeRefusal = none → ¬held → t = (d.mapCust fun y => { y with ceremony := some { x with
      wait := (List.range rs.length).map fun i => d.store.nextSeq + 1 + i
      reply := leBytes 8 (storedHandle id 1) ++ checkValue alg key ++ zeros 3 } }).releaseRecords none rs)) ∧
  ends .tableApprove 0x30 (fun d x t =>
    (d.approvalKey = none → t = d.endCeremony 0x08 (some (leBytes 1 0x02 ++ leBytes 2 0xA0))) ∧
    ∀ k, d.approvalKey = some k →
      let tenants := (List.range (hdr x.params 4 1)).map fun i => hdr x.params (8 + 4 * i) 4
      let head := grantHead x.image tenants
      let blocks := signBlock k x.image (d.random 64) ++ head ++ signBlock k head ((d.drawnFor 64).random 64)
      let off := hdr x.params 0 4 + x.image.length
      t = (((d.drawnFor 64).drawnFor 64).mapUnits fun u => { u with
        staging := (blocks.take (2 ^ 25 - off)).zipIdx.foldl (fun t e => t.put 0 (off + e.2) e.1) u.staging }).endCeremony 0 (some blocks)) ∧
  ends .enterService 0x40 (fun d _ t => t = (d.endCeremony 0 (some [])).changeMode .service) ∧
  ends .openMaintenance 0x41 (fun d x t =>
    let m := hdr x.params 0 2
    let e := ((d.endCeremony 0 (some [])).changeMode .maintenance).mapCust fun y => { y with maintEnd := some (d.cycle + minCycles m) }
    (m ≤ 5 → t = e.raiseInt .cust 0 3) ∧ (5 < m → t = e)) ∧
  ends .returnCustody 0x42 (fun d _ t => t = (d.endCeremony 0 (some [])).changeMode .custody) ∧
  ends .compatSet 0x43 (fun d x t =>
    let on := hdr x.params 0 1 == 1
    (¬may d → t = d.endCeremony 0x07 (some [])) ∧
    (may d → t = ((d.mapCust fun y => { y with compat := on }).releaseRecords none (settingRecords on)).endCeremony 0 (some []))) ∧
  ends .zeroizeCeremony 0x4F (fun d _ t => t = (d.endCeremony 0 none).zeroize 0x03 0) ∧
  ends .replayRerun 0x44 (fun d x t =>
    let records := (List.range (hdr x.image 0x18 4)).map fun i => slice x.image (64 + 96 * i) 96
    let first := hdr x.params 4 4
    let units := ((groupUnits records).map Replayed.parse).filter fun u => decide (seqAfter first u.seq < hdr x.params 8 4)
    let tally := units.foldl (d.rerunCount (hdr x.image 8 4)) { ran := 0, matched := 0, skipped := 0, firstDiff := none, firstSkip := none }
    t = d.endCeremony 0 (some tally.body))

/-- START_UP: the stages of the sequence in their order, and the mode that is selected. From the battery or a stop, with a
chain whose outputs settle, START_UP runs its stages in the order of the table: the devices come out of reset and 1.2 ms
later the row that power loss cut is settled, a lost battery domain is recorded and the monitor armed; at 2 ms the settings
are applied, at 2.6 ms the PLLs have locked, at 3 ms keys are drawn and the classifications made; then the memories and
units are tested, the ports probed and the events of start-up counted. With a root the store is recovered, tables and curves
reloaded unless it is quarantined, and custody and the view read back; without one nothing of the store is kept. Then the
mode is selected and the table occupancy shown; unless it is ZEROIZED a re-wrap resumes and the own records are settled; the
clock floor wakes. In any other state the command has no effect. (16_power_clocks_startup.md, 14_tamper.md,
09_key_hierarchy.md, 10_record_store.md, 13_modes_custody.md, 15_faults.md, 04_tide_tables.md). -/
def Obligations.StartUpSequence : Prop :=
  ∀ (f : StartFacts) (s : State), Does (.startUp f) s fun t =>
    let d := s.dev
    let starts := (d.power.st = .battery ∨ d.power.st = .stopping) ∧ (f.chainA = true ∨ f.chainB = true)
    let span := fun (e : Device) (n : Nat) => e.drawFree.advance (1 + e.freeNat % usCycles n)
    let reset := ((d.powerOn f).advance (usCycles 1200)).cutRow d.tamp.burning f.cutRow
    let armed := (if f.batteryPowerOn then reset.batteryLost else reset).arm f.conditions
    let clocked := ((((armed.advance (usCycles 800)).settle0).advance (usCycles 500)).mapPower fun p => { p with locked := 0x1FF }).advance
      (usCycles 100)
    let classified := (((clocked.drawStartKeys.advance (usCycles 400)).classifyTamper f.batteryPowerOn).classifyBanks).startBurn
    let tested := ((span classified 600000).testMemory f.badSlots).testUnits f
    let probed := f.events.foldl Device.startEvent ((span tested 1300000).probePorts f.ports)
    let found := (span (probed.mapStore fun x => { x with recovering := true }) 400000).recover f
    let stored := (((if found.store.quarantined then found.forgetTables else found.reload f).reloadCustody f.custodianSet).reloadView
      f.fabricUp).mapStore fun x => { x with recovering := false }
    let selected := (if probed.hasRoot then stored else probed.forgetStore).selectMode.showTables
    (¬starts → t = d) ∧
    (starts → selected.cust.mode = .zeroized → t = selected.clockFloor.queueSweep.startBurn) ∧
    (starts → selected.cust.mode ≠ .zeroized → t = selected.resumeRewrap.settleOwn.clockFloor.queueSweep.startBurn)
end

