-- ==== Sys2Proof/Laws/State.lean ====
section
/-! SUPPORT. One lemma per field of the device and per update of a component: each is true by rfl. -/

namespace Sys2Proof.Machine

@[simp] theorem Device.mapPages_cycle (d : Device) (f : Pages → Pages) : (d.mapPages f).cycle = d.cycle := rfl
@[simp] theorem Device.mapPages_free (d : Device) (f : Pages → Pages) : (d.mapPages f).free = d.free := rfl
@[simp] theorem Device.mapPages_out (d : Device) (f : Pages → Pages) : (d.mapPages f).out = d.out := rfl
@[simp] theorem Device.mapPages_pages (d : Device) (f : Pages → Pages) : (d.mapPages f).pages = f d.pages := rfl
@[simp] theorem Device.mapPages_front (d : Device) (f : Pages → Pages) : (d.mapPages f).front = d.front := rfl
@[simp] theorem Device.mapPages_sched (d : Device) (f : Pages → Pages) : (d.mapPages f).sched = d.sched := rfl
@[simp] theorem Device.mapPages_units (d : Device) (f : Pages → Pages) : (d.mapPages f).units = d.units := rfl
@[simp] theorem Device.mapPages_keys (d : Device) (f : Pages → Pages) : (d.mapPages f).keys = d.keys := rfl
@[simp] theorem Device.mapPages_store (d : Device) (f : Pages → Pages) : (d.mapPages f).store = d.store := rfl
@[simp] theorem Device.mapPages_dom (d : Device) (f : Pages → Pages) : (d.mapPages f).dom = d.dom := rfl
@[simp] theorem Device.mapPages_cust (d : Device) (f : Pages → Pages) : (d.mapPages f).cust = d.cust := rfl
@[simp] theorem Device.mapPages_tamp (d : Device) (f : Pages → Pages) : (d.mapPages f).tamp = d.tamp := rfl
@[simp] theorem Device.mapPages_sources (d : Device) (f : Pages → Pages) : (d.mapPages f).sources = d.sources := rfl
@[simp] theorem Device.mapPages_causes (d : Device) (f : Pages → Pages) : (d.mapPages f).causes = d.causes := rfl
@[simp] theorem Device.mapPages_rng (d : Device) (f : Pages → Pages) : (d.mapPages f).rng = d.rng := rfl
@[simp] theorem Device.mapPages_power (d : Device) (f : Pages → Pages) : (d.mapPages f).power = d.power := rfl
@[simp] theorem Device.mapPages_pins (d : Device) (f : Pages → Pages) : (d.mapPages f).pins = d.pins := rfl
@[simp] theorem Device.mapPages_rings (d : Device) (f : Pages → Pages) : (d.mapPages f).rings = d.rings := rfl
@[simp] theorem Device.mapPages_exporting (d : Device) (f : Pages → Pages) : (d.mapPages f).exporting = d.exporting := rfl

@[simp] theorem Device.mapFront_cycle (d : Device) (f : Front → Front) : (d.mapFront f).cycle = d.cycle := rfl
@[simp] theorem Device.mapFront_free (d : Device) (f : Front → Front) : (d.mapFront f).free = d.free := rfl
@[simp] theorem Device.mapFront_out (d : Device) (f : Front → Front) : (d.mapFront f).out = d.out := rfl
@[simp] theorem Device.mapFront_pages (d : Device) (f : Front → Front) : (d.mapFront f).pages = d.pages := rfl
@[simp] theorem Device.mapFront_front (d : Device) (f : Front → Front) : (d.mapFront f).front = f d.front := rfl
@[simp] theorem Device.mapFront_sched (d : Device) (f : Front → Front) : (d.mapFront f).sched = d.sched := rfl
@[simp] theorem Device.mapFront_units (d : Device) (f : Front → Front) : (d.mapFront f).units = d.units := rfl
@[simp] theorem Device.mapFront_keys (d : Device) (f : Front → Front) : (d.mapFront f).keys = d.keys := rfl
@[simp] theorem Device.mapFront_store (d : Device) (f : Front → Front) : (d.mapFront f).store = d.store := rfl
@[simp] theorem Device.mapFront_dom (d : Device) (f : Front → Front) : (d.mapFront f).dom = d.dom := rfl
@[simp] theorem Device.mapFront_cust (d : Device) (f : Front → Front) : (d.mapFront f).cust = d.cust := rfl
@[simp] theorem Device.mapFront_tamp (d : Device) (f : Front → Front) : (d.mapFront f).tamp = d.tamp := rfl
@[simp] theorem Device.mapFront_sources (d : Device) (f : Front → Front) : (d.mapFront f).sources = d.sources := rfl
@[simp] theorem Device.mapFront_causes (d : Device) (f : Front → Front) : (d.mapFront f).causes = d.causes := rfl
@[simp] theorem Device.mapFront_rng (d : Device) (f : Front → Front) : (d.mapFront f).rng = d.rng := rfl
@[simp] theorem Device.mapFront_power (d : Device) (f : Front → Front) : (d.mapFront f).power = d.power := rfl
@[simp] theorem Device.mapFront_pins (d : Device) (f : Front → Front) : (d.mapFront f).pins = d.pins := rfl
@[simp] theorem Device.mapFront_rings (d : Device) (f : Front → Front) : (d.mapFront f).rings = d.rings := rfl
@[simp] theorem Device.mapFront_exporting (d : Device) (f : Front → Front) : (d.mapFront f).exporting = d.exporting := rfl

@[simp] theorem Device.mapSched_cycle (d : Device) (f : Sched → Sched) : (d.mapSched f).cycle = d.cycle := rfl
@[simp] theorem Device.mapSched_free (d : Device) (f : Sched → Sched) : (d.mapSched f).free = d.free := rfl
@[simp] theorem Device.mapSched_out (d : Device) (f : Sched → Sched) : (d.mapSched f).out = d.out := rfl
@[simp] theorem Device.mapSched_pages (d : Device) (f : Sched → Sched) : (d.mapSched f).pages = d.pages := rfl
@[simp] theorem Device.mapSched_front (d : Device) (f : Sched → Sched) : (d.mapSched f).front = d.front := rfl
@[simp] theorem Device.mapSched_sched (d : Device) (f : Sched → Sched) : (d.mapSched f).sched = f d.sched := rfl
@[simp] theorem Device.mapSched_units (d : Device) (f : Sched → Sched) : (d.mapSched f).units = d.units := rfl
@[simp] theorem Device.mapSched_keys (d : Device) (f : Sched → Sched) : (d.mapSched f).keys = d.keys := rfl
@[simp] theorem Device.mapSched_store (d : Device) (f : Sched → Sched) : (d.mapSched f).store = d.store := rfl
@[simp] theorem Device.mapSched_dom (d : Device) (f : Sched → Sched) : (d.mapSched f).dom = d.dom := rfl
@[simp] theorem Device.mapSched_cust (d : Device) (f : Sched → Sched) : (d.mapSched f).cust = d.cust := rfl
@[simp] theorem Device.mapSched_tamp (d : Device) (f : Sched → Sched) : (d.mapSched f).tamp = d.tamp := rfl
@[simp] theorem Device.mapSched_sources (d : Device) (f : Sched → Sched) : (d.mapSched f).sources = d.sources := rfl
@[simp] theorem Device.mapSched_causes (d : Device) (f : Sched → Sched) : (d.mapSched f).causes = d.causes := rfl
@[simp] theorem Device.mapSched_rng (d : Device) (f : Sched → Sched) : (d.mapSched f).rng = d.rng := rfl
@[simp] theorem Device.mapSched_power (d : Device) (f : Sched → Sched) : (d.mapSched f).power = d.power := rfl
@[simp] theorem Device.mapSched_pins (d : Device) (f : Sched → Sched) : (d.mapSched f).pins = d.pins := rfl
@[simp] theorem Device.mapSched_rings (d : Device) (f : Sched → Sched) : (d.mapSched f).rings = d.rings := rfl
@[simp] theorem Device.mapSched_exporting (d : Device) (f : Sched → Sched) : (d.mapSched f).exporting = d.exporting := rfl

@[simp] theorem Device.mapUnits_cycle (d : Device) (f : Units → Units) : (d.mapUnits f).cycle = d.cycle := rfl
@[simp] theorem Device.mapUnits_free (d : Device) (f : Units → Units) : (d.mapUnits f).free = d.free := rfl
@[simp] theorem Device.mapUnits_out (d : Device) (f : Units → Units) : (d.mapUnits f).out = d.out := rfl
@[simp] theorem Device.mapUnits_pages (d : Device) (f : Units → Units) : (d.mapUnits f).pages = d.pages := rfl
@[simp] theorem Device.mapUnits_front (d : Device) (f : Units → Units) : (d.mapUnits f).front = d.front := rfl
@[simp] theorem Device.mapUnits_sched (d : Device) (f : Units → Units) : (d.mapUnits f).sched = d.sched := rfl
@[simp] theorem Device.mapUnits_units (d : Device) (f : Units → Units) : (d.mapUnits f).units = f d.units := rfl
@[simp] theorem Device.mapUnits_keys (d : Device) (f : Units → Units) : (d.mapUnits f).keys = d.keys := rfl
@[simp] theorem Device.mapUnits_store (d : Device) (f : Units → Units) : (d.mapUnits f).store = d.store := rfl
@[simp] theorem Device.mapUnits_dom (d : Device) (f : Units → Units) : (d.mapUnits f).dom = d.dom := rfl
@[simp] theorem Device.mapUnits_cust (d : Device) (f : Units → Units) : (d.mapUnits f).cust = d.cust := rfl
@[simp] theorem Device.mapUnits_tamp (d : Device) (f : Units → Units) : (d.mapUnits f).tamp = d.tamp := rfl
@[simp] theorem Device.mapUnits_sources (d : Device) (f : Units → Units) : (d.mapUnits f).sources = d.sources := rfl
@[simp] theorem Device.mapUnits_causes (d : Device) (f : Units → Units) : (d.mapUnits f).causes = d.causes := rfl
@[simp] theorem Device.mapUnits_rng (d : Device) (f : Units → Units) : (d.mapUnits f).rng = d.rng := rfl
@[simp] theorem Device.mapUnits_power (d : Device) (f : Units → Units) : (d.mapUnits f).power = d.power := rfl
@[simp] theorem Device.mapUnits_pins (d : Device) (f : Units → Units) : (d.mapUnits f).pins = d.pins := rfl
@[simp] theorem Device.mapUnits_rings (d : Device) (f : Units → Units) : (d.mapUnits f).rings = d.rings := rfl
@[simp] theorem Device.mapUnits_exporting (d : Device) (f : Units → Units) : (d.mapUnits f).exporting = d.exporting := rfl

@[simp] theorem Device.mapKeys_cycle (d : Device) (f : Keys → Keys) : (d.mapKeys f).cycle = d.cycle := rfl
@[simp] theorem Device.mapKeys_free (d : Device) (f : Keys → Keys) : (d.mapKeys f).free = d.free := rfl
@[simp] theorem Device.mapKeys_out (d : Device) (f : Keys → Keys) : (d.mapKeys f).out = d.out := rfl
@[simp] theorem Device.mapKeys_pages (d : Device) (f : Keys → Keys) : (d.mapKeys f).pages = d.pages := rfl
@[simp] theorem Device.mapKeys_front (d : Device) (f : Keys → Keys) : (d.mapKeys f).front = d.front := rfl
@[simp] theorem Device.mapKeys_sched (d : Device) (f : Keys → Keys) : (d.mapKeys f).sched = d.sched := rfl
@[simp] theorem Device.mapKeys_units (d : Device) (f : Keys → Keys) : (d.mapKeys f).units = d.units := rfl
@[simp] theorem Device.mapKeys_keys (d : Device) (f : Keys → Keys) : (d.mapKeys f).keys = f d.keys := rfl
@[simp] theorem Device.mapKeys_store (d : Device) (f : Keys → Keys) : (d.mapKeys f).store = d.store := rfl
@[simp] theorem Device.mapKeys_dom (d : Device) (f : Keys → Keys) : (d.mapKeys f).dom = d.dom := rfl
@[simp] theorem Device.mapKeys_cust (d : Device) (f : Keys → Keys) : (d.mapKeys f).cust = d.cust := rfl
@[simp] theorem Device.mapKeys_tamp (d : Device) (f : Keys → Keys) : (d.mapKeys f).tamp = d.tamp := rfl
@[simp] theorem Device.mapKeys_sources (d : Device) (f : Keys → Keys) : (d.mapKeys f).sources = d.sources := rfl
@[simp] theorem Device.mapKeys_causes (d : Device) (f : Keys → Keys) : (d.mapKeys f).causes = d.causes := rfl
@[simp] theorem Device.mapKeys_rng (d : Device) (f : Keys → Keys) : (d.mapKeys f).rng = d.rng := rfl
@[simp] theorem Device.mapKeys_power (d : Device) (f : Keys → Keys) : (d.mapKeys f).power = d.power := rfl
@[simp] theorem Device.mapKeys_pins (d : Device) (f : Keys → Keys) : (d.mapKeys f).pins = d.pins := rfl
@[simp] theorem Device.mapKeys_rings (d : Device) (f : Keys → Keys) : (d.mapKeys f).rings = d.rings := rfl
@[simp] theorem Device.mapKeys_exporting (d : Device) (f : Keys → Keys) : (d.mapKeys f).exporting = d.exporting := rfl

@[simp] theorem Device.mapStore_cycle (d : Device) (f : Store → Store) : (d.mapStore f).cycle = d.cycle := rfl
@[simp] theorem Device.mapStore_free (d : Device) (f : Store → Store) : (d.mapStore f).free = d.free := rfl
@[simp] theorem Device.mapStore_out (d : Device) (f : Store → Store) : (d.mapStore f).out = d.out := rfl
@[simp] theorem Device.mapStore_pages (d : Device) (f : Store → Store) : (d.mapStore f).pages = d.pages := rfl
@[simp] theorem Device.mapStore_front (d : Device) (f : Store → Store) : (d.mapStore f).front = d.front := rfl
@[simp] theorem Device.mapStore_sched (d : Device) (f : Store → Store) : (d.mapStore f).sched = d.sched := rfl
@[simp] theorem Device.mapStore_units (d : Device) (f : Store → Store) : (d.mapStore f).units = d.units := rfl
@[simp] theorem Device.mapStore_keys (d : Device) (f : Store → Store) : (d.mapStore f).keys = d.keys := rfl
@[simp] theorem Device.mapStore_store (d : Device) (f : Store → Store) : (d.mapStore f).store = f d.store := rfl
@[simp] theorem Device.mapStore_dom (d : Device) (f : Store → Store) : (d.mapStore f).dom = d.dom := rfl
@[simp] theorem Device.mapStore_cust (d : Device) (f : Store → Store) : (d.mapStore f).cust = d.cust := rfl
@[simp] theorem Device.mapStore_tamp (d : Device) (f : Store → Store) : (d.mapStore f).tamp = d.tamp := rfl
@[simp] theorem Device.mapStore_sources (d : Device) (f : Store → Store) : (d.mapStore f).sources = d.sources := rfl
@[simp] theorem Device.mapStore_causes (d : Device) (f : Store → Store) : (d.mapStore f).causes = d.causes := rfl
@[simp] theorem Device.mapStore_rng (d : Device) (f : Store → Store) : (d.mapStore f).rng = d.rng := rfl
@[simp] theorem Device.mapStore_power (d : Device) (f : Store → Store) : (d.mapStore f).power = d.power := rfl
@[simp] theorem Device.mapStore_pins (d : Device) (f : Store → Store) : (d.mapStore f).pins = d.pins := rfl
@[simp] theorem Device.mapStore_rings (d : Device) (f : Store → Store) : (d.mapStore f).rings = d.rings := rfl
@[simp] theorem Device.mapStore_exporting (d : Device) (f : Store → Store) : (d.mapStore f).exporting = d.exporting := rfl

@[simp] theorem Device.mapDom_cycle (d : Device) (f : Domain → Domain) : (d.mapDom f).cycle = d.cycle := rfl
@[simp] theorem Device.mapDom_free (d : Device) (f : Domain → Domain) : (d.mapDom f).free = d.free := rfl
@[simp] theorem Device.mapDom_out (d : Device) (f : Domain → Domain) : (d.mapDom f).out = d.out := rfl
@[simp] theorem Device.mapDom_pages (d : Device) (f : Domain → Domain) : (d.mapDom f).pages = d.pages := rfl
@[simp] theorem Device.mapDom_front (d : Device) (f : Domain → Domain) : (d.mapDom f).front = d.front := rfl
@[simp] theorem Device.mapDom_sched (d : Device) (f : Domain → Domain) : (d.mapDom f).sched = d.sched := rfl
@[simp] theorem Device.mapDom_units (d : Device) (f : Domain → Domain) : (d.mapDom f).units = d.units := rfl
@[simp] theorem Device.mapDom_keys (d : Device) (f : Domain → Domain) : (d.mapDom f).keys = d.keys := rfl
@[simp] theorem Device.mapDom_store (d : Device) (f : Domain → Domain) : (d.mapDom f).store = d.store := rfl
@[simp] theorem Device.mapDom_dom (d : Device) (f : Domain → Domain) : (d.mapDom f).dom = f d.dom := rfl
@[simp] theorem Device.mapDom_cust (d : Device) (f : Domain → Domain) : (d.mapDom f).cust = d.cust := rfl
@[simp] theorem Device.mapDom_tamp (d : Device) (f : Domain → Domain) : (d.mapDom f).tamp = d.tamp := rfl
@[simp] theorem Device.mapDom_sources (d : Device) (f : Domain → Domain) : (d.mapDom f).sources = d.sources := rfl
@[simp] theorem Device.mapDom_causes (d : Device) (f : Domain → Domain) : (d.mapDom f).causes = d.causes := rfl
@[simp] theorem Device.mapDom_rng (d : Device) (f : Domain → Domain) : (d.mapDom f).rng = d.rng := rfl
@[simp] theorem Device.mapDom_power (d : Device) (f : Domain → Domain) : (d.mapDom f).power = d.power := rfl
@[simp] theorem Device.mapDom_pins (d : Device) (f : Domain → Domain) : (d.mapDom f).pins = d.pins := rfl
@[simp] theorem Device.mapDom_rings (d : Device) (f : Domain → Domain) : (d.mapDom f).rings = d.rings := rfl
@[simp] theorem Device.mapDom_exporting (d : Device) (f : Domain → Domain) : (d.mapDom f).exporting = d.exporting := rfl

@[simp] theorem Device.mapView_cycle (d : Device) (f : View → View) : (d.mapView f).cycle = d.cycle := rfl
@[simp] theorem Device.mapView_free (d : Device) (f : View → View) : (d.mapView f).free = d.free := rfl
@[simp] theorem Device.mapView_out (d : Device) (f : View → View) : (d.mapView f).out = d.out := rfl
@[simp] theorem Device.mapView_pages (d : Device) (f : View → View) : (d.mapView f).pages = d.pages := rfl
@[simp] theorem Device.mapView_front (d : Device) (f : View → View) : (d.mapView f).front = d.front := rfl
@[simp] theorem Device.mapView_sched (d : Device) (f : View → View) : (d.mapView f).sched = d.sched := rfl
@[simp] theorem Device.mapView_units (d : Device) (f : View → View) : (d.mapView f).units = d.units := rfl
@[simp] theorem Device.mapView_keys (d : Device) (f : View → View) : (d.mapView f).keys = d.keys := rfl
@[simp] theorem Device.mapView_store (d : Device) (f : View → View) : (d.mapView f).store = d.store := rfl
@[simp] theorem Device.mapView_dom (d : Device) (f : View → View) : (d.mapView f).dom = { d.dom with view := f d.dom.view } := rfl
@[simp] theorem Device.mapView_cust (d : Device) (f : View → View) : (d.mapView f).cust = d.cust := rfl
@[simp] theorem Device.mapView_tamp (d : Device) (f : View → View) : (d.mapView f).tamp = d.tamp := rfl
@[simp] theorem Device.mapView_sources (d : Device) (f : View → View) : (d.mapView f).sources = d.sources := rfl
@[simp] theorem Device.mapView_causes (d : Device) (f : View → View) : (d.mapView f).causes = d.causes := rfl
@[simp] theorem Device.mapView_rng (d : Device) (f : View → View) : (d.mapView f).rng = d.rng := rfl
@[simp] theorem Device.mapView_power (d : Device) (f : View → View) : (d.mapView f).power = d.power := rfl
@[simp] theorem Device.mapView_pins (d : Device) (f : View → View) : (d.mapView f).pins = d.pins := rfl
@[simp] theorem Device.mapView_rings (d : Device) (f : View → View) : (d.mapView f).rings = d.rings := rfl
@[simp] theorem Device.mapView_exporting (d : Device) (f : View → View) : (d.mapView f).exporting = d.exporting := rfl

@[simp] theorem Device.mapCust_cycle (d : Device) (f : Custody → Custody) : (d.mapCust f).cycle = d.cycle := rfl
@[simp] theorem Device.mapCust_free (d : Device) (f : Custody → Custody) : (d.mapCust f).free = d.free := rfl
@[simp] theorem Device.mapCust_out (d : Device) (f : Custody → Custody) : (d.mapCust f).out = d.out := rfl
@[simp] theorem Device.mapCust_pages (d : Device) (f : Custody → Custody) : (d.mapCust f).pages = d.pages := rfl
@[simp] theorem Device.mapCust_front (d : Device) (f : Custody → Custody) : (d.mapCust f).front = d.front := rfl
@[simp] theorem Device.mapCust_sched (d : Device) (f : Custody → Custody) : (d.mapCust f).sched = d.sched := rfl
@[simp] theorem Device.mapCust_units (d : Device) (f : Custody → Custody) : (d.mapCust f).units = d.units := rfl
@[simp] theorem Device.mapCust_keys (d : Device) (f : Custody → Custody) : (d.mapCust f).keys = d.keys := rfl
@[simp] theorem Device.mapCust_store (d : Device) (f : Custody → Custody) : (d.mapCust f).store = d.store := rfl
@[simp] theorem Device.mapCust_dom (d : Device) (f : Custody → Custody) : (d.mapCust f).dom = d.dom := rfl
@[simp] theorem Device.mapCust_cust (d : Device) (f : Custody → Custody) : (d.mapCust f).cust = f d.cust := rfl
@[simp] theorem Device.mapCust_tamp (d : Device) (f : Custody → Custody) : (d.mapCust f).tamp = d.tamp := rfl
@[simp] theorem Device.mapCust_sources (d : Device) (f : Custody → Custody) : (d.mapCust f).sources = d.sources := rfl
@[simp] theorem Device.mapCust_causes (d : Device) (f : Custody → Custody) : (d.mapCust f).causes = d.causes := rfl
@[simp] theorem Device.mapCust_rng (d : Device) (f : Custody → Custody) : (d.mapCust f).rng = d.rng := rfl
@[simp] theorem Device.mapCust_power (d : Device) (f : Custody → Custody) : (d.mapCust f).power = d.power := rfl
@[simp] theorem Device.mapCust_pins (d : Device) (f : Custody → Custody) : (d.mapCust f).pins = d.pins := rfl
@[simp] theorem Device.mapCust_rings (d : Device) (f : Custody → Custody) : (d.mapCust f).rings = d.rings := rfl
@[simp] theorem Device.mapCust_exporting (d : Device) (f : Custody → Custody) : (d.mapCust f).exporting = d.exporting := rfl

@[simp] theorem Device.mapTamp_cycle (d : Device) (f : Tamper → Tamper) : (d.mapTamp f).cycle = d.cycle := rfl
@[simp] theorem Device.mapTamp_free (d : Device) (f : Tamper → Tamper) : (d.mapTamp f).free = d.free := rfl
@[simp] theorem Device.mapTamp_out (d : Device) (f : Tamper → Tamper) : (d.mapTamp f).out = d.out := rfl
@[simp] theorem Device.mapTamp_pages (d : Device) (f : Tamper → Tamper) : (d.mapTamp f).pages = d.pages := rfl
@[simp] theorem Device.mapTamp_front (d : Device) (f : Tamper → Tamper) : (d.mapTamp f).front = d.front := rfl
@[simp] theorem Device.mapTamp_sched (d : Device) (f : Tamper → Tamper) : (d.mapTamp f).sched = d.sched := rfl
@[simp] theorem Device.mapTamp_units (d : Device) (f : Tamper → Tamper) : (d.mapTamp f).units = d.units := rfl
@[simp] theorem Device.mapTamp_keys (d : Device) (f : Tamper → Tamper) : (d.mapTamp f).keys = d.keys := rfl
@[simp] theorem Device.mapTamp_store (d : Device) (f : Tamper → Tamper) : (d.mapTamp f).store = d.store := rfl
@[simp] theorem Device.mapTamp_dom (d : Device) (f : Tamper → Tamper) : (d.mapTamp f).dom = d.dom := rfl
@[simp] theorem Device.mapTamp_cust (d : Device) (f : Tamper → Tamper) : (d.mapTamp f).cust = d.cust := rfl
@[simp] theorem Device.mapTamp_tamp (d : Device) (f : Tamper → Tamper) : (d.mapTamp f).tamp = f d.tamp := rfl
@[simp] theorem Device.mapTamp_sources (d : Device) (f : Tamper → Tamper) : (d.mapTamp f).sources = d.sources := rfl
@[simp] theorem Device.mapTamp_causes (d : Device) (f : Tamper → Tamper) : (d.mapTamp f).causes = d.causes := rfl
@[simp] theorem Device.mapTamp_rng (d : Device) (f : Tamper → Tamper) : (d.mapTamp f).rng = d.rng := rfl
@[simp] theorem Device.mapTamp_power (d : Device) (f : Tamper → Tamper) : (d.mapTamp f).power = d.power := rfl
@[simp] theorem Device.mapTamp_pins (d : Device) (f : Tamper → Tamper) : (d.mapTamp f).pins = d.pins := rfl
@[simp] theorem Device.mapTamp_rings (d : Device) (f : Tamper → Tamper) : (d.mapTamp f).rings = d.rings := rfl
@[simp] theorem Device.mapTamp_exporting (d : Device) (f : Tamper → Tamper) : (d.mapTamp f).exporting = d.exporting := rfl

@[simp] theorem Device.mapRng_cycle (d : Device) (f : Rng → Rng) : (d.mapRng f).cycle = d.cycle := rfl
@[simp] theorem Device.mapRng_free (d : Device) (f : Rng → Rng) : (d.mapRng f).free = d.free := rfl
@[simp] theorem Device.mapRng_out (d : Device) (f : Rng → Rng) : (d.mapRng f).out = d.out := rfl
@[simp] theorem Device.mapRng_pages (d : Device) (f : Rng → Rng) : (d.mapRng f).pages = d.pages := rfl
@[simp] theorem Device.mapRng_front (d : Device) (f : Rng → Rng) : (d.mapRng f).front = d.front := rfl
@[simp] theorem Device.mapRng_sched (d : Device) (f : Rng → Rng) : (d.mapRng f).sched = d.sched := rfl
@[simp] theorem Device.mapRng_units (d : Device) (f : Rng → Rng) : (d.mapRng f).units = d.units := rfl
@[simp] theorem Device.mapRng_keys (d : Device) (f : Rng → Rng) : (d.mapRng f).keys = d.keys := rfl
@[simp] theorem Device.mapRng_store (d : Device) (f : Rng → Rng) : (d.mapRng f).store = d.store := rfl
@[simp] theorem Device.mapRng_dom (d : Device) (f : Rng → Rng) : (d.mapRng f).dom = d.dom := rfl
@[simp] theorem Device.mapRng_cust (d : Device) (f : Rng → Rng) : (d.mapRng f).cust = d.cust := rfl
@[simp] theorem Device.mapRng_tamp (d : Device) (f : Rng → Rng) : (d.mapRng f).tamp = d.tamp := rfl
@[simp] theorem Device.mapRng_sources (d : Device) (f : Rng → Rng) : (d.mapRng f).sources = d.sources := rfl
@[simp] theorem Device.mapRng_causes (d : Device) (f : Rng → Rng) : (d.mapRng f).causes = d.causes := rfl
@[simp] theorem Device.mapRng_rng (d : Device) (f : Rng → Rng) : (d.mapRng f).rng = f d.rng := rfl
@[simp] theorem Device.mapRng_power (d : Device) (f : Rng → Rng) : (d.mapRng f).power = d.power := rfl
@[simp] theorem Device.mapRng_pins (d : Device) (f : Rng → Rng) : (d.mapRng f).pins = d.pins := rfl
@[simp] theorem Device.mapRng_rings (d : Device) (f : Rng → Rng) : (d.mapRng f).rings = d.rings := rfl
@[simp] theorem Device.mapRng_exporting (d : Device) (f : Rng → Rng) : (d.mapRng f).exporting = d.exporting := rfl

@[simp] theorem Device.mapPower_cycle (d : Device) (f : Power → Power) : (d.mapPower f).cycle = d.cycle := rfl
@[simp] theorem Device.mapPower_free (d : Device) (f : Power → Power) : (d.mapPower f).free = d.free := rfl
@[simp] theorem Device.mapPower_out (d : Device) (f : Power → Power) : (d.mapPower f).out = d.out := rfl
@[simp] theorem Device.mapPower_pages (d : Device) (f : Power → Power) : (d.mapPower f).pages = d.pages := rfl
@[simp] theorem Device.mapPower_front (d : Device) (f : Power → Power) : (d.mapPower f).front = d.front := rfl
@[simp] theorem Device.mapPower_sched (d : Device) (f : Power → Power) : (d.mapPower f).sched = d.sched := rfl
@[simp] theorem Device.mapPower_units (d : Device) (f : Power → Power) : (d.mapPower f).units = d.units := rfl
@[simp] theorem Device.mapPower_keys (d : Device) (f : Power → Power) : (d.mapPower f).keys = d.keys := rfl
@[simp] theorem Device.mapPower_store (d : Device) (f : Power → Power) : (d.mapPower f).store = d.store := rfl
@[simp] theorem Device.mapPower_dom (d : Device) (f : Power → Power) : (d.mapPower f).dom = d.dom := rfl
@[simp] theorem Device.mapPower_cust (d : Device) (f : Power → Power) : (d.mapPower f).cust = d.cust := rfl
@[simp] theorem Device.mapPower_tamp (d : Device) (f : Power → Power) : (d.mapPower f).tamp = d.tamp := rfl
@[simp] theorem Device.mapPower_sources (d : Device) (f : Power → Power) : (d.mapPower f).sources = d.sources := rfl
@[simp] theorem Device.mapPower_causes (d : Device) (f : Power → Power) : (d.mapPower f).causes = d.causes := rfl
@[simp] theorem Device.mapPower_rng (d : Device) (f : Power → Power) : (d.mapPower f).rng = d.rng := rfl
@[simp] theorem Device.mapPower_power (d : Device) (f : Power → Power) : (d.mapPower f).power = f d.power := rfl
@[simp] theorem Device.mapPower_pins (d : Device) (f : Power → Power) : (d.mapPower f).pins = d.pins := rfl
@[simp] theorem Device.mapPower_rings (d : Device) (f : Power → Power) : (d.mapPower f).rings = d.rings := rfl
@[simp] theorem Device.mapPower_exporting (d : Device) (f : Power → Power) : (d.mapPower f).exporting = d.exporting := rfl

@[simp] theorem Device.mapPins_cycle (d : Device) (f : Pins → Pins) : (d.mapPins f).cycle = d.cycle := rfl
@[simp] theorem Device.mapPins_free (d : Device) (f : Pins → Pins) : (d.mapPins f).free = d.free := rfl
@[simp] theorem Device.mapPins_out (d : Device) (f : Pins → Pins) : (d.mapPins f).out = d.out := rfl
@[simp] theorem Device.mapPins_pages (d : Device) (f : Pins → Pins) : (d.mapPins f).pages = d.pages := rfl
@[simp] theorem Device.mapPins_front (d : Device) (f : Pins → Pins) : (d.mapPins f).front = d.front := rfl
@[simp] theorem Device.mapPins_sched (d : Device) (f : Pins → Pins) : (d.mapPins f).sched = d.sched := rfl
@[simp] theorem Device.mapPins_units (d : Device) (f : Pins → Pins) : (d.mapPins f).units = d.units := rfl
@[simp] theorem Device.mapPins_keys (d : Device) (f : Pins → Pins) : (d.mapPins f).keys = d.keys := rfl
@[simp] theorem Device.mapPins_store (d : Device) (f : Pins → Pins) : (d.mapPins f).store = d.store := rfl
@[simp] theorem Device.mapPins_dom (d : Device) (f : Pins → Pins) : (d.mapPins f).dom = d.dom := rfl
@[simp] theorem Device.mapPins_cust (d : Device) (f : Pins → Pins) : (d.mapPins f).cust = d.cust := rfl
@[simp] theorem Device.mapPins_tamp (d : Device) (f : Pins → Pins) : (d.mapPins f).tamp = d.tamp := rfl
@[simp] theorem Device.mapPins_sources (d : Device) (f : Pins → Pins) : (d.mapPins f).sources = d.sources := rfl
@[simp] theorem Device.mapPins_causes (d : Device) (f : Pins → Pins) : (d.mapPins f).causes = d.causes := rfl
@[simp] theorem Device.mapPins_rng (d : Device) (f : Pins → Pins) : (d.mapPins f).rng = d.rng := rfl
@[simp] theorem Device.mapPins_power (d : Device) (f : Pins → Pins) : (d.mapPins f).power = d.power := rfl
@[simp] theorem Device.mapPins_pins (d : Device) (f : Pins → Pins) : (d.mapPins f).pins = f d.pins := rfl
@[simp] theorem Device.mapPins_rings (d : Device) (f : Pins → Pins) : (d.mapPins f).rings = d.rings := rfl
@[simp] theorem Device.mapPins_exporting (d : Device) (f : Pins → Pins) : (d.mapPins f).exporting = d.exporting := rfl

@[simp] theorem Device.mapCyc_cycle (d : Device) (f : Cyc → Cyc) : (d.mapCyc f).cycle = d.cycle := rfl
@[simp] theorem Device.mapCyc_free (d : Device) (f : Cyc → Cyc) : (d.mapCyc f).free = d.free := rfl
@[simp] theorem Device.mapCyc_out (d : Device) (f : Cyc → Cyc) : (d.mapCyc f).out = d.out := rfl
@[simp] theorem Device.mapCyc_pages (d : Device) (f : Cyc → Cyc) : (d.mapCyc f).pages = { d.pages with cyc := f d.pages.cyc } := rfl
@[simp] theorem Device.mapCyc_front (d : Device) (f : Cyc → Cyc) : (d.mapCyc f).front = d.front := rfl
@[simp] theorem Device.mapCyc_sched (d : Device) (f : Cyc → Cyc) : (d.mapCyc f).sched = d.sched := rfl
@[simp] theorem Device.mapCyc_units (d : Device) (f : Cyc → Cyc) : (d.mapCyc f).units = d.units := rfl
@[simp] theorem Device.mapCyc_keys (d : Device) (f : Cyc → Cyc) : (d.mapCyc f).keys = d.keys := rfl
@[simp] theorem Device.mapCyc_store (d : Device) (f : Cyc → Cyc) : (d.mapCyc f).store = d.store := rfl
@[simp] theorem Device.mapCyc_dom (d : Device) (f : Cyc → Cyc) : (d.mapCyc f).dom = d.dom := rfl
@[simp] theorem Device.mapCyc_cust (d : Device) (f : Cyc → Cyc) : (d.mapCyc f).cust = d.cust := rfl
@[simp] theorem Device.mapCyc_tamp (d : Device) (f : Cyc → Cyc) : (d.mapCyc f).tamp = d.tamp := rfl
@[simp] theorem Device.mapCyc_sources (d : Device) (f : Cyc → Cyc) : (d.mapCyc f).sources = d.sources := rfl
@[simp] theorem Device.mapCyc_causes (d : Device) (f : Cyc → Cyc) : (d.mapCyc f).causes = d.causes := rfl
@[simp] theorem Device.mapCyc_rng (d : Device) (f : Cyc → Cyc) : (d.mapCyc f).rng = d.rng := rfl
@[simp] theorem Device.mapCyc_power (d : Device) (f : Cyc → Cyc) : (d.mapCyc f).power = d.power := rfl
@[simp] theorem Device.mapCyc_pins (d : Device) (f : Cyc → Cyc) : (d.mapCyc f).pins = d.pins := rfl
@[simp] theorem Device.mapCyc_rings (d : Device) (f : Cyc → Cyc) : (d.mapCyc f).rings = d.rings := rfl
@[simp] theorem Device.mapCyc_exporting (d : Device) (f : Cyc → Cyc) : (d.mapCyc f).exporting = d.exporting := rfl

theorem State.done_eq (s : State) (d : Device) : s.done d = .next { s with dev := d } := rfl

end Sys2Proof.Machine
end

