-- ==== Sys2Proof/Laws/Frames.lean ====
section
/-! SUPPORT. Frames: the components of the device that each shared operation leaves alone. -/

namespace Sys2Proof.Machine

@[simp] theorem foldl_units {α : Type} (f : Device → α → Device) (h : ∀ d x, (f d x).units = d.units) (l : List α) (d : Device) :
    (l.foldl f d).units = d.units := by
  induction l generalizing d with
  | nil => rfl
  | cons x l ih => rw [List.foldl_cons, ih, h]

@[simp] theorem ite_units (c : Prop) [Decidable c] (a b : Device) : (if c then a else b).units = if c then a.units else b.units := by
  split <;> rfl

@[simp] theorem foldl_keys {α : Type} (f : Device → α → Device) (h : ∀ d x, (f d x).keys = d.keys) (l : List α) (d : Device) :
    (l.foldl f d).keys = d.keys := by
  induction l generalizing d with
  | nil => rfl
  | cons x l ih => rw [List.foldl_cons, ih, h]

@[simp] theorem ite_keys (c : Prop) [Decidable c] (a b : Device) : (if c then a else b).keys = if c then a.keys else b.keys := by
  split <;> rfl

@[simp] theorem foldl_store {α : Type} (f : Device → α → Device) (h : ∀ d x, (f d x).store = d.store) (l : List α) (d : Device) :
    (l.foldl f d).store = d.store := by
  induction l generalizing d with
  | nil => rfl
  | cons x l ih => rw [List.foldl_cons, ih, h]

@[simp] theorem ite_store (c : Prop) [Decidable c] (a b : Device) : (if c then a else b).store = if c then a.store else b.store := by
  split <;> rfl

@[simp] theorem foldl_dom {α : Type} (f : Device → α → Device) (h : ∀ d x, (f d x).dom = d.dom) (l : List α) (d : Device) :
    (l.foldl f d).dom = d.dom := by
  induction l generalizing d with
  | nil => rfl
  | cons x l ih => rw [List.foldl_cons, ih, h]

@[simp] theorem ite_dom (c : Prop) [Decidable c] (a b : Device) : (if c then a else b).dom = if c then a.dom else b.dom := by
  split <;> rfl

@[simp] theorem foldl_cust {α : Type} (f : Device → α → Device) (h : ∀ d x, (f d x).cust = d.cust) (l : List α) (d : Device) :
    (l.foldl f d).cust = d.cust := by
  induction l generalizing d with
  | nil => rfl
  | cons x l ih => rw [List.foldl_cons, ih, h]

@[simp] theorem ite_cust (c : Prop) [Decidable c] (a b : Device) : (if c then a else b).cust = if c then a.cust else b.cust := by
  split <;> rfl

@[simp] theorem foldl_tamp {α : Type} (f : Device → α → Device) (h : ∀ d x, (f d x).tamp = d.tamp) (l : List α) (d : Device) :
    (l.foldl f d).tamp = d.tamp := by
  induction l generalizing d with
  | nil => rfl
  | cons x l ih => rw [List.foldl_cons, ih, h]

@[simp] theorem ite_tamp (c : Prop) [Decidable c] (a b : Device) : (if c then a else b).tamp = if c then a.tamp else b.tamp := by
  split <;> rfl

@[simp] theorem foldl_sources {α : Type} (f : Device → α → Device) (h : ∀ d x, (f d x).sources = d.sources) (l : List α) (d : Device) :
    (l.foldl f d).sources = d.sources := by
  induction l generalizing d with
  | nil => rfl
  | cons x l ih => rw [List.foldl_cons, ih, h]

@[simp] theorem ite_sources (c : Prop) [Decidable c] (a b : Device) : (if c then a else b).sources = if c then a.sources else b.sources := by
  split <;> rfl

@[simp] theorem foldl_causes {α : Type} (f : Device → α → Device) (h : ∀ d x, (f d x).causes = d.causes) (l : List α) (d : Device) :
    (l.foldl f d).causes = d.causes := by
  induction l generalizing d with
  | nil => rfl
  | cons x l ih => rw [List.foldl_cons, ih, h]

@[simp] theorem ite_causes (c : Prop) [Decidable c] (a b : Device) : (if c then a else b).causes = if c then a.causes else b.causes := by
  split <;> rfl

@[simp] theorem foldl_rng {α : Type} (f : Device → α → Device) (h : ∀ d x, (f d x).rng = d.rng) (l : List α) (d : Device) :
    (l.foldl f d).rng = d.rng := by
  induction l generalizing d with
  | nil => rfl
  | cons x l ih => rw [List.foldl_cons, ih, h]

@[simp] theorem ite_rng (c : Prop) [Decidable c] (a b : Device) : (if c then a else b).rng = if c then a.rng else b.rng := by
  split <;> rfl

@[simp] theorem foldl_power {α : Type} (f : Device → α → Device) (h : ∀ d x, (f d x).power = d.power) (l : List α) (d : Device) :
    (l.foldl f d).power = d.power := by
  induction l generalizing d with
  | nil => rfl
  | cons x l ih => rw [List.foldl_cons, ih, h]

@[simp] theorem ite_power (c : Prop) [Decidable c] (a b : Device) : (if c then a else b).power = if c then a.power else b.power := by
  split <;> rfl

@[simp] theorem foldl_pins {α : Type} (f : Device → α → Device) (h : ∀ d x, (f d x).pins = d.pins) (l : List α) (d : Device) :
    (l.foldl f d).pins = d.pins := by
  induction l generalizing d with
  | nil => rfl
  | cons x l ih => rw [List.foldl_cons, ih, h]

@[simp] theorem ite_pins (c : Prop) [Decidable c] (a b : Device) : (if c then a else b).pins = if c then a.pins else b.pins := by
  split <;> rfl


@[simp] theorem Device.emit_units (d : Device) (o : Output) : (Device.emit d o).units = d.units := by
  unfold Device.emit
  simp_all

@[simp] theorem Device.emit_keys (d : Device) (o : Output) : (Device.emit d o).keys = d.keys := by
  unfold Device.emit
  simp_all

@[simp] theorem Device.emit_store (d : Device) (o : Output) : (Device.emit d o).store = d.store := by
  unfold Device.emit
  simp_all

@[simp] theorem Device.emit_dom (d : Device) (o : Output) : (Device.emit d o).dom = d.dom := by
  unfold Device.emit
  simp_all

@[simp] theorem Device.emit_cust (d : Device) (o : Output) : (Device.emit d o).cust = d.cust := by
  unfold Device.emit
  simp_all

@[simp] theorem Device.emit_tamp (d : Device) (o : Output) : (Device.emit d o).tamp = d.tamp := by
  unfold Device.emit
  simp_all

@[simp] theorem Device.emit_sources (d : Device) (o : Output) : (Device.emit d o).sources = d.sources := by
  unfold Device.emit
  simp_all

@[simp] theorem Device.emit_causes (d : Device) (o : Output) : (Device.emit d o).causes = d.causes := by
  unfold Device.emit
  simp_all

@[simp] theorem Device.emit_rng (d : Device) (o : Output) : (Device.emit d o).rng = d.rng := by
  unfold Device.emit
  simp_all

@[simp] theorem Device.emit_power (d : Device) (o : Output) : (Device.emit d o).power = d.power := by
  unfold Device.emit
  simp_all

@[simp] theorem Device.emit_pins (d : Device) (o : Output) : (Device.emit d o).pins = d.pins := by
  unfold Device.emit
  simp_all

@[simp] theorem Device.drawFree_units (d : Device) : (Device.drawFree d).units = d.units := by
  unfold Device.drawFree
  simp_all

@[simp] theorem Device.drawFree_keys (d : Device) : (Device.drawFree d).keys = d.keys := by
  unfold Device.drawFree
  simp_all

@[simp] theorem Device.drawFree_store (d : Device) : (Device.drawFree d).store = d.store := by
  unfold Device.drawFree
  simp_all

@[simp] theorem Device.drawFree_dom (d : Device) : (Device.drawFree d).dom = d.dom := by
  unfold Device.drawFree
  simp_all

@[simp] theorem Device.drawFree_cust (d : Device) : (Device.drawFree d).cust = d.cust := by
  unfold Device.drawFree
  simp_all

@[simp] theorem Device.drawFree_tamp (d : Device) : (Device.drawFree d).tamp = d.tamp := by
  unfold Device.drawFree
  simp_all

@[simp] theorem Device.drawFree_sources (d : Device) : (Device.drawFree d).sources = d.sources := by
  unfold Device.drawFree
  simp_all

@[simp] theorem Device.drawFree_causes (d : Device) : (Device.drawFree d).causes = d.causes := by
  unfold Device.drawFree
  simp_all

@[simp] theorem Device.drawFree_rng (d : Device) : (Device.drawFree d).rng = d.rng := by
  unfold Device.drawFree
  simp_all

@[simp] theorem Device.drawFree_power (d : Device) : (Device.drawFree d).power = d.power := by
  unfold Device.drawFree
  simp_all

@[simp] theorem Device.drawFree_pins (d : Device) : (Device.drawFree d).pins = d.pins := by
  unfold Device.drawFree
  simp_all

@[simp] theorem Device.drawn_units (d : Device) : (Device.drawn d).units = d.units := by
  unfold Device.drawn
  simp_all

@[simp] theorem Device.drawn_keys (d : Device) : (Device.drawn d).keys = d.keys := by
  unfold Device.drawn
  simp_all

@[simp] theorem Device.drawn_store (d : Device) : (Device.drawn d).store = d.store := by
  unfold Device.drawn
  simp_all

@[simp] theorem Device.drawn_dom (d : Device) : (Device.drawn d).dom = d.dom := by
  unfold Device.drawn
  simp_all

@[simp] theorem Device.drawn_cust (d : Device) : (Device.drawn d).cust = d.cust := by
  unfold Device.drawn
  simp_all

@[simp] theorem Device.drawn_tamp (d : Device) : (Device.drawn d).tamp = d.tamp := by
  unfold Device.drawn
  simp_all

@[simp] theorem Device.drawn_sources (d : Device) : (Device.drawn d).sources = d.sources := by
  unfold Device.drawn
  simp_all

@[simp] theorem Device.drawn_causes (d : Device) : (Device.drawn d).causes = d.causes := by
  unfold Device.drawn
  simp_all

@[simp] theorem Device.drawn_power (d : Device) : (Device.drawn d).power = d.power := by
  unfold Device.drawn
  simp_all

@[simp] theorem Device.drawn_pins (d : Device) : (Device.drawn d).pins = d.pins := by
  unfold Device.drawn
  simp_all

@[simp] theorem Device.drawnFor_units (d : Device) (n : ℕ) : (Device.drawnFor d n).units = d.units := by
  unfold Device.drawnFor
  simp

@[simp] theorem Device.drawnFor_keys (d : Device) (n : ℕ) : (Device.drawnFor d n).keys = d.keys := by
  unfold Device.drawnFor
  simp

@[simp] theorem Device.drawnFor_store (d : Device) (n : ℕ) : (Device.drawnFor d n).store = d.store := by
  unfold Device.drawnFor
  simp

@[simp] theorem Device.drawnFor_dom (d : Device) (n : ℕ) : (Device.drawnFor d n).dom = d.dom := by
  unfold Device.drawnFor
  simp

@[simp] theorem Device.drawnFor_cust (d : Device) (n : ℕ) : (Device.drawnFor d n).cust = d.cust := by
  unfold Device.drawnFor
  simp

@[simp] theorem Device.drawnFor_tamp (d : Device) (n : ℕ) : (Device.drawnFor d n).tamp = d.tamp := by
  unfold Device.drawnFor
  simp

@[simp] theorem Device.drawnFor_sources (d : Device) (n : ℕ) : (Device.drawnFor d n).sources = d.sources := by
  unfold Device.drawnFor
  simp

@[simp] theorem Device.drawnFor_causes (d : Device) (n : ℕ) : (Device.drawnFor d n).causes = d.causes := by
  unfold Device.drawnFor
  simp

@[simp] theorem Device.drawnFor_power (d : Device) (n : ℕ) : (Device.drawnFor d n).power = d.power := by
  unfold Device.drawnFor
  simp

@[simp] theorem Device.drawnFor_pins (d : Device) (n : ℕ) : (Device.drawnFor d n).pins = d.pins := by
  unfold Device.drawnFor
  simp

@[simp] theorem Device.setReg_units (d : Device) (a : ℕ) (v : ℕ) : (Device.setReg d a v).units = d.units := by
  unfold Device.setReg
  simp_all

@[simp] theorem Device.setReg_keys (d : Device) (a : ℕ) (v : ℕ) : (Device.setReg d a v).keys = d.keys := by
  unfold Device.setReg
  simp_all

@[simp] theorem Device.setReg_store (d : Device) (a : ℕ) (v : ℕ) : (Device.setReg d a v).store = d.store := by
  unfold Device.setReg
  simp_all

@[simp] theorem Device.setReg_dom (d : Device) (a : ℕ) (v : ℕ) : (Device.setReg d a v).dom = d.dom := by
  unfold Device.setReg
  simp_all

@[simp] theorem Device.setReg_cust (d : Device) (a : ℕ) (v : ℕ) : (Device.setReg d a v).cust = d.cust := by
  unfold Device.setReg
  simp_all

@[simp] theorem Device.setReg_tamp (d : Device) (a : ℕ) (v : ℕ) : (Device.setReg d a v).tamp = d.tamp := by
  unfold Device.setReg
  simp_all

@[simp] theorem Device.setReg_sources (d : Device) (a : ℕ) (v : ℕ) : (Device.setReg d a v).sources = d.sources := by
  unfold Device.setReg
  simp_all

@[simp] theorem Device.setReg_causes (d : Device) (a : ℕ) (v : ℕ) : (Device.setReg d a v).causes = d.causes := by
  unfold Device.setReg
  simp_all

@[simp] theorem Device.setReg_rng (d : Device) (a : ℕ) (v : ℕ) : (Device.setReg d a v).rng = d.rng := by
  unfold Device.setReg
  simp_all

@[simp] theorem Device.setReg_power (d : Device) (a : ℕ) (v : ℕ) : (Device.setReg d a v).power = d.power := by
  unfold Device.setReg
  simp_all

@[simp] theorem Device.setReg_pins (d : Device) (a : ℕ) (v : ℕ) : (Device.setReg d a v).pins = d.pins := by
  unfold Device.setReg
  simp_all

@[simp] theorem Device.setField_units (d : Device) (a : ℕ) (hi : ℕ) (lo : ℕ) (v : ℕ) : (Device.setField d a hi lo v).units = d.units := by
  unfold Device.setField
  simp_all

@[simp] theorem Device.setField_keys (d : Device) (a : ℕ) (hi : ℕ) (lo : ℕ) (v : ℕ) : (Device.setField d a hi lo v).keys = d.keys := by
  unfold Device.setField
  simp_all

@[simp] theorem Device.setField_store (d : Device) (a : ℕ) (hi : ℕ) (lo : ℕ) (v : ℕ) : (Device.setField d a hi lo v).store = d.store := by
  unfold Device.setField
  simp_all

@[simp] theorem Device.setField_dom (d : Device) (a : ℕ) (hi : ℕ) (lo : ℕ) (v : ℕ) : (Device.setField d a hi lo v).dom = d.dom := by
  unfold Device.setField
  simp_all

@[simp] theorem Device.setField_cust (d : Device) (a : ℕ) (hi : ℕ) (lo : ℕ) (v : ℕ) : (Device.setField d a hi lo v).cust = d.cust := by
  unfold Device.setField
  simp_all

@[simp] theorem Device.setField_tamp (d : Device) (a : ℕ) (hi : ℕ) (lo : ℕ) (v : ℕ) : (Device.setField d a hi lo v).tamp = d.tamp := by
  unfold Device.setField
  simp_all

@[simp] theorem Device.setField_sources (d : Device) (a : ℕ) (hi : ℕ) (lo : ℕ) (v : ℕ) : (Device.setField d a hi lo v).sources = d.sources := by
  unfold Device.setField
  simp_all

@[simp] theorem Device.setField_causes (d : Device) (a : ℕ) (hi : ℕ) (lo : ℕ) (v : ℕ) : (Device.setField d a hi lo v).causes = d.causes := by
  unfold Device.setField
  simp_all

@[simp] theorem Device.setField_rng (d : Device) (a : ℕ) (hi : ℕ) (lo : ℕ) (v : ℕ) : (Device.setField d a hi lo v).rng = d.rng := by
  unfold Device.setField
  simp_all

@[simp] theorem Device.setField_power (d : Device) (a : ℕ) (hi : ℕ) (lo : ℕ) (v : ℕ) : (Device.setField d a hi lo v).power = d.power := by
  unfold Device.setField
  simp_all

@[simp] theorem Device.setField_pins (d : Device) (a : ℕ) (hi : ℕ) (lo : ℕ) (v : ℕ) : (Device.setField d a hi lo v).pins = d.pins := by
  unfold Device.setField
  simp_all

@[simp] theorem Device.clearBits_units (d : Device) (a : ℕ) (m : ℕ) : (Device.clearBits d a m).units = d.units := by
  unfold Device.clearBits
  simp_all

@[simp] theorem Device.clearBits_keys (d : Device) (a : ℕ) (m : ℕ) : (Device.clearBits d a m).keys = d.keys := by
  unfold Device.clearBits
  simp_all

@[simp] theorem Device.clearBits_store (d : Device) (a : ℕ) (m : ℕ) : (Device.clearBits d a m).store = d.store := by
  unfold Device.clearBits
  simp_all

@[simp] theorem Device.clearBits_dom (d : Device) (a : ℕ) (m : ℕ) : (Device.clearBits d a m).dom = d.dom := by
  unfold Device.clearBits
  simp_all

@[simp] theorem Device.clearBits_cust (d : Device) (a : ℕ) (m : ℕ) : (Device.clearBits d a m).cust = d.cust := by
  unfold Device.clearBits
  simp_all

@[simp] theorem Device.clearBits_tamp (d : Device) (a : ℕ) (m : ℕ) : (Device.clearBits d a m).tamp = d.tamp := by
  unfold Device.clearBits
  simp_all

@[simp] theorem Device.clearBits_sources (d : Device) (a : ℕ) (m : ℕ) : (Device.clearBits d a m).sources = d.sources := by
  unfold Device.clearBits
  simp_all

@[simp] theorem Device.clearBits_causes (d : Device) (a : ℕ) (m : ℕ) : (Device.clearBits d a m).causes = d.causes := by
  unfold Device.clearBits
  simp_all

@[simp] theorem Device.clearBits_rng (d : Device) (a : ℕ) (m : ℕ) : (Device.clearBits d a m).rng = d.rng := by
  unfold Device.clearBits
  simp_all

@[simp] theorem Device.clearBits_power (d : Device) (a : ℕ) (m : ℕ) : (Device.clearBits d a m).power = d.power := by
  unfold Device.clearBits
  simp_all

@[simp] theorem Device.clearBits_pins (d : Device) (a : ℕ) (m : ℕ) : (Device.clearBits d a m).pins = d.pins := by
  unfold Device.clearBits
  simp_all

@[simp] theorem Device.hwSet_units (d : Device) (a : ℕ) (m : ℕ) : (Device.hwSet d a m).units = d.units := by
  unfold Device.hwSet
  simp_all

@[simp] theorem Device.hwSet_keys (d : Device) (a : ℕ) (m : ℕ) : (Device.hwSet d a m).keys = d.keys := by
  unfold Device.hwSet
  simp_all

@[simp] theorem Device.hwSet_store (d : Device) (a : ℕ) (m : ℕ) : (Device.hwSet d a m).store = d.store := by
  unfold Device.hwSet
  simp_all

@[simp] theorem Device.hwSet_dom (d : Device) (a : ℕ) (m : ℕ) : (Device.hwSet d a m).dom = d.dom := by
  unfold Device.hwSet
  simp_all

@[simp] theorem Device.hwSet_cust (d : Device) (a : ℕ) (m : ℕ) : (Device.hwSet d a m).cust = d.cust := by
  unfold Device.hwSet
  simp_all

@[simp] theorem Device.hwSet_tamp (d : Device) (a : ℕ) (m : ℕ) : (Device.hwSet d a m).tamp = d.tamp := by
  unfold Device.hwSet
  simp_all

@[simp] theorem Device.hwSet_sources (d : Device) (a : ℕ) (m : ℕ) : (Device.hwSet d a m).sources = d.sources := by
  unfold Device.hwSet
  simp_all

@[simp] theorem Device.hwSet_causes (d : Device) (a : ℕ) (m : ℕ) : (Device.hwSet d a m).causes = d.causes := by
  unfold Device.hwSet
  simp_all

@[simp] theorem Device.hwSet_rng (d : Device) (a : ℕ) (m : ℕ) : (Device.hwSet d a m).rng = d.rng := by
  unfold Device.hwSet
  simp_all

@[simp] theorem Device.hwSet_power (d : Device) (a : ℕ) (m : ℕ) : (Device.hwSet d a m).power = d.power := by
  unfold Device.hwSet
  simp_all

@[simp] theorem Device.hwSet_pins (d : Device) (a : ℕ) (m : ℕ) : (Device.hwSet d a m).pins = d.pins := by
  unfold Device.hwSet
  simp_all

@[simp] theorem Device.addCnt_units (d : Device) (a : ℕ) (hi : ℕ) (lo : ℕ) (n : ℕ) (saturates : Bool) : (Device.addCnt d a hi lo n saturates).units = d.units := by
  unfold Device.addCnt
  (repeat' split) <;> simp_all

@[simp] theorem Device.addCnt_keys (d : Device) (a : ℕ) (hi : ℕ) (lo : ℕ) (n : ℕ) (saturates : Bool) : (Device.addCnt d a hi lo n saturates).keys = d.keys := by
  unfold Device.addCnt
  (repeat' split) <;> simp_all

@[simp] theorem Device.addCnt_store (d : Device) (a : ℕ) (hi : ℕ) (lo : ℕ) (n : ℕ) (saturates : Bool) : (Device.addCnt d a hi lo n saturates).store = d.store := by
  unfold Device.addCnt
  (repeat' split) <;> simp_all

@[simp] theorem Device.addCnt_dom (d : Device) (a : ℕ) (hi : ℕ) (lo : ℕ) (n : ℕ) (saturates : Bool) : (Device.addCnt d a hi lo n saturates).dom = d.dom := by
  unfold Device.addCnt
  (repeat' split) <;> simp_all

@[simp] theorem Device.addCnt_cust (d : Device) (a : ℕ) (hi : ℕ) (lo : ℕ) (n : ℕ) (saturates : Bool) : (Device.addCnt d a hi lo n saturates).cust = d.cust := by
  unfold Device.addCnt
  (repeat' split) <;> simp_all

@[simp] theorem Device.addCnt_tamp (d : Device) (a : ℕ) (hi : ℕ) (lo : ℕ) (n : ℕ) (saturates : Bool) : (Device.addCnt d a hi lo n saturates).tamp = d.tamp := by
  unfold Device.addCnt
  (repeat' split) <;> simp_all

@[simp] theorem Device.addCnt_sources (d : Device) (a : ℕ) (hi : ℕ) (lo : ℕ) (n : ℕ) (saturates : Bool) : (Device.addCnt d a hi lo n saturates).sources = d.sources := by
  unfold Device.addCnt
  (repeat' split) <;> simp_all

@[simp] theorem Device.addCnt_causes (d : Device) (a : ℕ) (hi : ℕ) (lo : ℕ) (n : ℕ) (saturates : Bool) : (Device.addCnt d a hi lo n saturates).causes = d.causes := by
  unfold Device.addCnt
  (repeat' split) <;> simp_all

@[simp] theorem Device.addCnt_rng (d : Device) (a : ℕ) (hi : ℕ) (lo : ℕ) (n : ℕ) (saturates : Bool) : (Device.addCnt d a hi lo n saturates).rng = d.rng := by
  unfold Device.addCnt
  (repeat' split) <;> simp_all

@[simp] theorem Device.addCnt_power (d : Device) (a : ℕ) (hi : ℕ) (lo : ℕ) (n : ℕ) (saturates : Bool) : (Device.addCnt d a hi lo n saturates).power = d.power := by
  unfold Device.addCnt
  (repeat' split) <;> simp_all

@[simp] theorem Device.addCnt_pins (d : Device) (a : ℕ) (hi : ℕ) (lo : ℕ) (n : ℕ) (saturates : Bool) : (Device.addCnt d a hi lo n saturates).pins = d.pins := by
  unfold Device.addCnt
  (repeat' split) <;> simp_all

@[simp] theorem Device.writeLost_units (d : Device) (a : ℕ) : (Device.writeLost d a).units = d.units := by
  unfold Device.writeLost
  simp_all

@[simp] theorem Device.writeLost_keys (d : Device) (a : ℕ) : (Device.writeLost d a).keys = d.keys := by
  unfold Device.writeLost
  simp_all

@[simp] theorem Device.writeLost_store (d : Device) (a : ℕ) : (Device.writeLost d a).store = d.store := by
  unfold Device.writeLost
  simp_all

@[simp] theorem Device.writeLost_dom (d : Device) (a : ℕ) : (Device.writeLost d a).dom = d.dom := by
  unfold Device.writeLost
  simp_all

@[simp] theorem Device.writeLost_cust (d : Device) (a : ℕ) : (Device.writeLost d a).cust = d.cust := by
  unfold Device.writeLost
  simp_all

@[simp] theorem Device.writeLost_tamp (d : Device) (a : ℕ) : (Device.writeLost d a).tamp = d.tamp := by
  unfold Device.writeLost
  simp_all

@[simp] theorem Device.writeLost_sources (d : Device) (a : ℕ) : (Device.writeLost d a).sources = d.sources := by
  unfold Device.writeLost
  simp_all

@[simp] theorem Device.writeLost_causes (d : Device) (a : ℕ) : (Device.writeLost d a).causes = d.causes := by
  unfold Device.writeLost
  simp_all

@[simp] theorem Device.writeLost_rng (d : Device) (a : ℕ) : (Device.writeLost d a).rng = d.rng := by
  unfold Device.writeLost
  simp_all

@[simp] theorem Device.writeLost_power (d : Device) (a : ℕ) : (Device.writeLost d a).power = d.power := by
  unfold Device.writeLost
  simp_all

@[simp] theorem Device.writeLost_pins (d : Device) (a : ℕ) : (Device.writeLost d a).pins = d.pins := by
  unfold Device.writeLost
  simp_all

@[simp] theorem Device.rwhClash_units (d : Device) (a : ℕ) : (Device.rwhClash d a).units = d.units := by
  unfold Device.rwhClash
  (repeat' split) <;> simp_all

@[simp] theorem Device.rwhClash_keys (d : Device) (a : ℕ) : (Device.rwhClash d a).keys = d.keys := by
  unfold Device.rwhClash
  (repeat' split) <;> simp_all

@[simp] theorem Device.rwhClash_store (d : Device) (a : ℕ) : (Device.rwhClash d a).store = d.store := by
  unfold Device.rwhClash
  (repeat' split) <;> simp_all

@[simp] theorem Device.rwhClash_dom (d : Device) (a : ℕ) : (Device.rwhClash d a).dom = d.dom := by
  unfold Device.rwhClash
  (repeat' split) <;> simp_all

@[simp] theorem Device.rwhClash_cust (d : Device) (a : ℕ) : (Device.rwhClash d a).cust = d.cust := by
  unfold Device.rwhClash
  (repeat' split) <;> simp_all

@[simp] theorem Device.rwhClash_tamp (d : Device) (a : ℕ) : (Device.rwhClash d a).tamp = d.tamp := by
  unfold Device.rwhClash
  (repeat' split) <;> simp_all

@[simp] theorem Device.rwhClash_sources (d : Device) (a : ℕ) : (Device.rwhClash d a).sources = d.sources := by
  unfold Device.rwhClash
  (repeat' split) <;> simp_all

@[simp] theorem Device.rwhClash_causes (d : Device) (a : ℕ) : (Device.rwhClash d a).causes = d.causes := by
  unfold Device.rwhClash
  (repeat' split) <;> simp_all

@[simp] theorem Device.rwhClash_rng (d : Device) (a : ℕ) : (Device.rwhClash d a).rng = d.rng := by
  unfold Device.rwhClash
  (repeat' split) <;> simp_all

@[simp] theorem Device.rwhClash_power (d : Device) (a : ℕ) : (Device.rwhClash d a).power = d.power := by
  unfold Device.rwhClash
  (repeat' split) <;> simp_all

@[simp] theorem Device.rwhClash_pins (d : Device) (a : ℕ) : (Device.rwhClash d a).pins = d.pins := by
  unfold Device.rwhClash
  (repeat' split) <;> simp_all

@[simp] theorem Device.hwLoad_units (d : Device) (a : ℕ) (v : ℕ) : (Device.hwLoad d a v).units = d.units := by
  unfold Device.hwLoad
  simp_all

@[simp] theorem Device.hwLoad_keys (d : Device) (a : ℕ) (v : ℕ) : (Device.hwLoad d a v).keys = d.keys := by
  unfold Device.hwLoad
  simp_all

@[simp] theorem Device.hwLoad_store (d : Device) (a : ℕ) (v : ℕ) : (Device.hwLoad d a v).store = d.store := by
  unfold Device.hwLoad
  simp_all

@[simp] theorem Device.hwLoad_dom (d : Device) (a : ℕ) (v : ℕ) : (Device.hwLoad d a v).dom = d.dom := by
  unfold Device.hwLoad
  simp_all

@[simp] theorem Device.hwLoad_cust (d : Device) (a : ℕ) (v : ℕ) : (Device.hwLoad d a v).cust = d.cust := by
  unfold Device.hwLoad
  simp_all

@[simp] theorem Device.hwLoad_tamp (d : Device) (a : ℕ) (v : ℕ) : (Device.hwLoad d a v).tamp = d.tamp := by
  unfold Device.hwLoad
  simp_all

@[simp] theorem Device.hwLoad_sources (d : Device) (a : ℕ) (v : ℕ) : (Device.hwLoad d a v).sources = d.sources := by
  unfold Device.hwLoad
  simp_all

@[simp] theorem Device.hwLoad_causes (d : Device) (a : ℕ) (v : ℕ) : (Device.hwLoad d a v).causes = d.causes := by
  unfold Device.hwLoad
  simp_all

@[simp] theorem Device.hwLoad_rng (d : Device) (a : ℕ) (v : ℕ) : (Device.hwLoad d a v).rng = d.rng := by
  unfold Device.hwLoad
  simp_all

@[simp] theorem Device.hwLoad_power (d : Device) (a : ℕ) (v : ℕ) : (Device.hwLoad d a v).power = d.power := by
  unfold Device.hwLoad
  simp_all

@[simp] theorem Device.hwLoad_pins (d : Device) (a : ℕ) (v : ℕ) : (Device.hwLoad d a v).pins = d.pins := by
  unfold Device.hwLoad
  simp_all

@[simp] theorem Device.advance_units (d : Device) (n : ℕ) : (Device.advance d n).units = d.units := by
  unfold Device.advance
  simp_all

@[simp] theorem Device.advance_keys (d : Device) (n : ℕ) : (Device.advance d n).keys = d.keys := by
  unfold Device.advance
  simp_all

@[simp] theorem Device.advance_store (d : Device) (n : ℕ) : (Device.advance d n).store = d.store := by
  unfold Device.advance
  simp_all

@[simp] theorem Device.advance_dom (d : Device) (n : ℕ) : (Device.advance d n).dom = d.dom := by
  unfold Device.advance
  simp_all

@[simp] theorem Device.advance_cust (d : Device) (n : ℕ) : (Device.advance d n).cust = d.cust := by
  unfold Device.advance
  simp_all

@[simp] theorem Device.advance_tamp (d : Device) (n : ℕ) : (Device.advance d n).tamp = d.tamp := by
  unfold Device.advance
  simp_all

@[simp] theorem Device.advance_sources (d : Device) (n : ℕ) : (Device.advance d n).sources = d.sources := by
  unfold Device.advance
  simp_all

@[simp] theorem Device.advance_causes (d : Device) (n : ℕ) : (Device.advance d n).causes = d.causes := by
  unfold Device.advance
  simp_all

@[simp] theorem Device.advance_rng (d : Device) (n : ℕ) : (Device.advance d n).rng = d.rng := by
  unfold Device.advance
  simp_all

@[simp] theorem Device.advance_power (d : Device) (n : ℕ) : (Device.advance d n).power = d.power := by
  unfold Device.advance
  simp_all

@[simp] theorem Device.advance_pins (d : Device) (n : ℕ) : (Device.advance d n).pins = d.pins := by
  unfold Device.advance
  simp_all

@[simp] theorem Device.passCycle_units (d : Device) : (Device.passCycle d).units = d.units := by
  unfold Device.passCycle
  simp_all

@[simp] theorem Device.passCycle_keys (d : Device) : (Device.passCycle d).keys = d.keys := by
  unfold Device.passCycle
  simp_all

@[simp] theorem Device.passCycle_store (d : Device) : (Device.passCycle d).store = d.store := by
  unfold Device.passCycle
  simp_all

@[simp] theorem Device.passCycle_dom (d : Device) : (Device.passCycle d).dom = d.dom := by
  unfold Device.passCycle
  simp_all

@[simp] theorem Device.passCycle_cust (d : Device) : (Device.passCycle d).cust = d.cust := by
  unfold Device.passCycle
  simp_all

@[simp] theorem Device.passCycle_tamp (d : Device) : (Device.passCycle d).tamp = d.tamp := by
  unfold Device.passCycle
  simp_all

@[simp] theorem Device.passCycle_sources (d : Device) : (Device.passCycle d).sources = d.sources := by
  unfold Device.passCycle
  simp_all

@[simp] theorem Device.passCycle_causes (d : Device) : (Device.passCycle d).causes = d.causes := by
  unfold Device.passCycle
  simp_all

@[simp] theorem Device.passCycle_rng (d : Device) : (Device.passCycle d).rng = d.rng := by
  unfold Device.passCycle
  simp_all

@[simp] theorem Device.passCycle_power (d : Device) : (Device.passCycle d).power = d.power := by
  unfold Device.passCycle
  simp_all

@[simp] theorem Device.passCycle_pins (d : Device) : (Device.passCycle d).pins = d.pins := by
  unfold Device.passCycle
  simp_all

@[simp] theorem Device.sendMsix_units (d : Device) (fn : ℕ) (vector : ℕ) : (Device.sendMsix d fn vector).units = d.units := by
  unfold Device.sendMsix
  simp_all

@[simp] theorem Device.sendMsix_keys (d : Device) (fn : ℕ) (vector : ℕ) : (Device.sendMsix d fn vector).keys = d.keys := by
  unfold Device.sendMsix
  simp_all

@[simp] theorem Device.sendMsix_store (d : Device) (fn : ℕ) (vector : ℕ) : (Device.sendMsix d fn vector).store = d.store := by
  unfold Device.sendMsix
  simp_all

@[simp] theorem Device.sendMsix_dom (d : Device) (fn : ℕ) (vector : ℕ) : (Device.sendMsix d fn vector).dom = d.dom := by
  unfold Device.sendMsix
  simp_all

@[simp] theorem Device.sendMsix_cust (d : Device) (fn : ℕ) (vector : ℕ) : (Device.sendMsix d fn vector).cust = d.cust := by
  unfold Device.sendMsix
  simp_all

@[simp] theorem Device.sendMsix_tamp (d : Device) (fn : ℕ) (vector : ℕ) : (Device.sendMsix d fn vector).tamp = d.tamp := by
  unfold Device.sendMsix
  simp_all

@[simp] theorem Device.sendMsix_sources (d : Device) (fn : ℕ) (vector : ℕ) : (Device.sendMsix d fn vector).sources = d.sources := by
  unfold Device.sendMsix
  simp_all

@[simp] theorem Device.sendMsix_causes (d : Device) (fn : ℕ) (vector : ℕ) : (Device.sendMsix d fn vector).causes = d.causes := by
  unfold Device.sendMsix
  simp_all

@[simp] theorem Device.sendMsix_rng (d : Device) (fn : ℕ) (vector : ℕ) : (Device.sendMsix d fn vector).rng = d.rng := by
  unfold Device.sendMsix
  simp_all

@[simp] theorem Device.sendMsix_power (d : Device) (fn : ℕ) (vector : ℕ) : (Device.sendMsix d fn vector).power = d.power := by
  unfold Device.sendMsix
  simp_all

@[simp] theorem Device.sendMsix_pins (d : Device) (fn : ℕ) (vector : ℕ) : (Device.sendMsix d fn vector).pins = d.pins := by
  unfold Device.sendMsix
  simp_all

@[simp] theorem Device.signalPage_units (d : Device) (base : ℕ) : (Device.signalPage d base).units = d.units := by
  unfold Device.signalPage
  (repeat' split) <;> simp_all

@[simp] theorem Device.signalPage_keys (d : Device) (base : ℕ) : (Device.signalPage d base).keys = d.keys := by
  unfold Device.signalPage
  (repeat' split) <;> simp_all

@[simp] theorem Device.signalPage_store (d : Device) (base : ℕ) : (Device.signalPage d base).store = d.store := by
  unfold Device.signalPage
  (repeat' split) <;> simp_all

@[simp] theorem Device.signalPage_dom (d : Device) (base : ℕ) : (Device.signalPage d base).dom = d.dom := by
  unfold Device.signalPage
  (repeat' split) <;> simp_all

@[simp] theorem Device.signalPage_cust (d : Device) (base : ℕ) : (Device.signalPage d base).cust = d.cust := by
  unfold Device.signalPage
  (repeat' split) <;> simp_all

@[simp] theorem Device.signalPage_tamp (d : Device) (base : ℕ) : (Device.signalPage d base).tamp = d.tamp := by
  unfold Device.signalPage
  (repeat' split) <;> simp_all

@[simp] theorem Device.signalPage_sources (d : Device) (base : ℕ) : (Device.signalPage d base).sources = d.sources := by
  unfold Device.signalPage
  (repeat' split) <;> simp_all

@[simp] theorem Device.signalPage_causes (d : Device) (base : ℕ) : (Device.signalPage d base).causes = d.causes := by
  unfold Device.signalPage
  (repeat' split) <;> simp_all

@[simp] theorem Device.signalPage_rng (d : Device) (base : ℕ) : (Device.signalPage d base).rng = d.rng := by
  unfold Device.signalPage
  (repeat' split) <;> simp_all

@[simp] theorem Device.signalPage_power (d : Device) (base : ℕ) : (Device.signalPage d base).power = d.power := by
  unfold Device.signalPage
  (repeat' split) <;> simp_all

@[simp] theorem Device.signalPage_pins (d : Device) (base : ℕ) : (Device.signalPage d base).pins = d.pins := by
  unfold Device.signalPage
  (repeat' split) <;> simp_all

@[simp] theorem Device.raiseMask_units (d : Device) (base : ℕ) (m : ℕ) : (Device.raiseMask d base m).units = d.units := by
  unfold Device.raiseMask
  simp_all

@[simp] theorem Device.raiseMask_keys (d : Device) (base : ℕ) (m : ℕ) : (Device.raiseMask d base m).keys = d.keys := by
  unfold Device.raiseMask
  simp_all

@[simp] theorem Device.raiseMask_store (d : Device) (base : ℕ) (m : ℕ) : (Device.raiseMask d base m).store = d.store := by
  unfold Device.raiseMask
  simp_all

@[simp] theorem Device.raiseMask_dom (d : Device) (base : ℕ) (m : ℕ) : (Device.raiseMask d base m).dom = d.dom := by
  unfold Device.raiseMask
  simp_all

@[simp] theorem Device.raiseMask_cust (d : Device) (base : ℕ) (m : ℕ) : (Device.raiseMask d base m).cust = d.cust := by
  unfold Device.raiseMask
  simp_all

@[simp] theorem Device.raiseMask_tamp (d : Device) (base : ℕ) (m : ℕ) : (Device.raiseMask d base m).tamp = d.tamp := by
  unfold Device.raiseMask
  simp_all

@[simp] theorem Device.raiseMask_sources (d : Device) (base : ℕ) (m : ℕ) : (Device.raiseMask d base m).sources = d.sources := by
  unfold Device.raiseMask
  simp_all

@[simp] theorem Device.raiseMask_causes (d : Device) (base : ℕ) (m : ℕ) : (Device.raiseMask d base m).causes = d.causes := by
  unfold Device.raiseMask
  simp_all

@[simp] theorem Device.raiseMask_rng (d : Device) (base : ℕ) (m : ℕ) : (Device.raiseMask d base m).rng = d.rng := by
  unfold Device.raiseMask
  simp_all

@[simp] theorem Device.raiseMask_power (d : Device) (base : ℕ) (m : ℕ) : (Device.raiseMask d base m).power = d.power := by
  unfold Device.raiseMask
  simp_all

@[simp] theorem Device.raiseMask_pins (d : Device) (base : ℕ) (m : ℕ) : (Device.raiseMask d base m).pins = d.pins := by
  unfold Device.raiseMask
  simp_all

@[simp] theorem Device.raiseInt_units (d : Device) (p : Page) (n : ℕ) (i : ℕ) : (Device.raiseInt d p n i).units = d.units := by
  unfold Device.raiseInt
  simp_all

@[simp] theorem Device.raiseInt_keys (d : Device) (p : Page) (n : ℕ) (i : ℕ) : (Device.raiseInt d p n i).keys = d.keys := by
  unfold Device.raiseInt
  simp_all

@[simp] theorem Device.raiseInt_store (d : Device) (p : Page) (n : ℕ) (i : ℕ) : (Device.raiseInt d p n i).store = d.store := by
  unfold Device.raiseInt
  simp_all

@[simp] theorem Device.raiseInt_dom (d : Device) (p : Page) (n : ℕ) (i : ℕ) : (Device.raiseInt d p n i).dom = d.dom := by
  unfold Device.raiseInt
  simp_all

@[simp] theorem Device.raiseInt_cust (d : Device) (p : Page) (n : ℕ) (i : ℕ) : (Device.raiseInt d p n i).cust = d.cust := by
  unfold Device.raiseInt
  simp_all

@[simp] theorem Device.raiseInt_tamp (d : Device) (p : Page) (n : ℕ) (i : ℕ) : (Device.raiseInt d p n i).tamp = d.tamp := by
  unfold Device.raiseInt
  simp_all

@[simp] theorem Device.raiseInt_sources (d : Device) (p : Page) (n : ℕ) (i : ℕ) : (Device.raiseInt d p n i).sources = d.sources := by
  unfold Device.raiseInt
  simp_all

@[simp] theorem Device.raiseInt_causes (d : Device) (p : Page) (n : ℕ) (i : ℕ) : (Device.raiseInt d p n i).causes = d.causes := by
  unfold Device.raiseInt
  simp_all

@[simp] theorem Device.raiseInt_rng (d : Device) (p : Page) (n : ℕ) (i : ℕ) : (Device.raiseInt d p n i).rng = d.rng := by
  unfold Device.raiseInt
  simp_all

@[simp] theorem Device.raiseInt_power (d : Device) (p : Page) (n : ℕ) (i : ℕ) : (Device.raiseInt d p n i).power = d.power := by
  unfold Device.raiseInt
  simp_all

@[simp] theorem Device.raiseInt_pins (d : Device) (p : Page) (n : ℕ) (i : ℕ) : (Device.raiseInt d p n i).pins = d.pins := by
  unfold Device.raiseInt
  simp_all

@[simp] theorem Device.commandEnd_units (d : Device) (a : ℕ) (req : ℕ) (done : ℕ) : (Device.commandEnd d a req done).units = d.units := by
  unfold Device.commandEnd
  simp_all

@[simp] theorem Device.commandEnd_keys (d : Device) (a : ℕ) (req : ℕ) (done : ℕ) : (Device.commandEnd d a req done).keys = d.keys := by
  unfold Device.commandEnd
  simp_all

@[simp] theorem Device.commandEnd_store (d : Device) (a : ℕ) (req : ℕ) (done : ℕ) : (Device.commandEnd d a req done).store = d.store := by
  unfold Device.commandEnd
  simp_all

@[simp] theorem Device.commandEnd_dom (d : Device) (a : ℕ) (req : ℕ) (done : ℕ) : (Device.commandEnd d a req done).dom = d.dom := by
  unfold Device.commandEnd
  simp_all

@[simp] theorem Device.commandEnd_cust (d : Device) (a : ℕ) (req : ℕ) (done : ℕ) : (Device.commandEnd d a req done).cust = d.cust := by
  unfold Device.commandEnd
  simp_all

@[simp] theorem Device.commandEnd_tamp (d : Device) (a : ℕ) (req : ℕ) (done : ℕ) : (Device.commandEnd d a req done).tamp = d.tamp := by
  unfold Device.commandEnd
  simp_all

@[simp] theorem Device.commandEnd_sources (d : Device) (a : ℕ) (req : ℕ) (done : ℕ) : (Device.commandEnd d a req done).sources = d.sources := by
  unfold Device.commandEnd
  simp_all

@[simp] theorem Device.commandEnd_causes (d : Device) (a : ℕ) (req : ℕ) (done : ℕ) : (Device.commandEnd d a req done).causes = d.causes := by
  unfold Device.commandEnd
  simp_all

@[simp] theorem Device.commandEnd_rng (d : Device) (a : ℕ) (req : ℕ) (done : ℕ) : (Device.commandEnd d a req done).rng = d.rng := by
  unfold Device.commandEnd
  simp_all

@[simp] theorem Device.commandEnd_power (d : Device) (a : ℕ) (req : ℕ) (done : ℕ) : (Device.commandEnd d a req done).power = d.power := by
  unfold Device.commandEnd
  simp_all

@[simp] theorem Device.commandEnd_pins (d : Device) (a : ℕ) (req : ℕ) (done : ℕ) : (Device.commandEnd d a req done).pins = d.pins := by
  unfold Device.commandEnd
  simp_all

@[simp] theorem Device.commandStart_units (d : Device) (a : ℕ) (req : ℕ) : (Device.commandStart d a req).units = d.units := by
  unfold Device.commandStart
  simp_all

@[simp] theorem Device.commandStart_keys (d : Device) (a : ℕ) (req : ℕ) : (Device.commandStart d a req).keys = d.keys := by
  unfold Device.commandStart
  simp_all

@[simp] theorem Device.commandStart_store (d : Device) (a : ℕ) (req : ℕ) : (Device.commandStart d a req).store = d.store := by
  unfold Device.commandStart
  simp_all

@[simp] theorem Device.commandStart_dom (d : Device) (a : ℕ) (req : ℕ) : (Device.commandStart d a req).dom = d.dom := by
  unfold Device.commandStart
  simp_all

@[simp] theorem Device.commandStart_cust (d : Device) (a : ℕ) (req : ℕ) : (Device.commandStart d a req).cust = d.cust := by
  unfold Device.commandStart
  simp_all

@[simp] theorem Device.commandStart_tamp (d : Device) (a : ℕ) (req : ℕ) : (Device.commandStart d a req).tamp = d.tamp := by
  unfold Device.commandStart
  simp_all

@[simp] theorem Device.commandStart_sources (d : Device) (a : ℕ) (req : ℕ) : (Device.commandStart d a req).sources = d.sources := by
  unfold Device.commandStart
  simp_all

@[simp] theorem Device.commandStart_causes (d : Device) (a : ℕ) (req : ℕ) : (Device.commandStart d a req).causes = d.causes := by
  unfold Device.commandStart
  simp_all

@[simp] theorem Device.commandStart_rng (d : Device) (a : ℕ) (req : ℕ) : (Device.commandStart d a req).rng = d.rng := by
  unfold Device.commandStart
  simp_all

@[simp] theorem Device.commandStart_power (d : Device) (a : ℕ) (req : ℕ) : (Device.commandStart d a req).power = d.power := by
  unfold Device.commandStart
  simp_all

@[simp] theorem Device.commandStart_pins (d : Device) (a : ℕ) (req : ℕ) : (Device.commandStart d a req).pins = d.pins := by
  unfold Device.commandStart
  simp_all

@[simp] theorem Device.setResult_units (d : Device) (a : ℕ) (code : ℕ) : (Device.setResult d a code).units = d.units := by
  unfold Device.setResult
  simp_all

@[simp] theorem Device.setResult_keys (d : Device) (a : ℕ) (code : ℕ) : (Device.setResult d a code).keys = d.keys := by
  unfold Device.setResult
  simp_all

@[simp] theorem Device.setResult_store (d : Device) (a : ℕ) (code : ℕ) : (Device.setResult d a code).store = d.store := by
  unfold Device.setResult
  simp_all

@[simp] theorem Device.setResult_dom (d : Device) (a : ℕ) (code : ℕ) : (Device.setResult d a code).dom = d.dom := by
  unfold Device.setResult
  simp_all

@[simp] theorem Device.setResult_cust (d : Device) (a : ℕ) (code : ℕ) : (Device.setResult d a code).cust = d.cust := by
  unfold Device.setResult
  simp_all

@[simp] theorem Device.setResult_tamp (d : Device) (a : ℕ) (code : ℕ) : (Device.setResult d a code).tamp = d.tamp := by
  unfold Device.setResult
  simp_all

@[simp] theorem Device.setResult_sources (d : Device) (a : ℕ) (code : ℕ) : (Device.setResult d a code).sources = d.sources := by
  unfold Device.setResult
  simp_all

@[simp] theorem Device.setResult_causes (d : Device) (a : ℕ) (code : ℕ) : (Device.setResult d a code).causes = d.causes := by
  unfold Device.setResult
  simp_all

@[simp] theorem Device.setResult_rng (d : Device) (a : ℕ) (code : ℕ) : (Device.setResult d a code).rng = d.rng := by
  unfold Device.setResult
  simp_all

@[simp] theorem Device.setResult_power (d : Device) (a : ℕ) (code : ℕ) : (Device.setResult d a code).power = d.power := by
  unfold Device.setResult
  simp_all

@[simp] theorem Device.setResult_pins (d : Device) (a : ℕ) (code : ℕ) : (Device.setResult d a code).pins = d.pins := by
  unfold Device.setResult
  simp_all

@[simp] theorem Device.progStart_units (d : Device) (base : ℕ) (op : ℕ) (total : ℕ) : (Device.progStart d base op total).units = d.units := by
  unfold Device.progStart
  simp_all

@[simp] theorem Device.progStart_keys (d : Device) (base : ℕ) (op : ℕ) (total : ℕ) : (Device.progStart d base op total).keys = d.keys := by
  unfold Device.progStart
  simp_all

@[simp] theorem Device.progStart_store (d : Device) (base : ℕ) (op : ℕ) (total : ℕ) : (Device.progStart d base op total).store = d.store := by
  unfold Device.progStart
  simp_all

@[simp] theorem Device.progStart_dom (d : Device) (base : ℕ) (op : ℕ) (total : ℕ) : (Device.progStart d base op total).dom = d.dom := by
  unfold Device.progStart
  simp_all

@[simp] theorem Device.progStart_cust (d : Device) (base : ℕ) (op : ℕ) (total : ℕ) : (Device.progStart d base op total).cust = d.cust := by
  unfold Device.progStart
  simp_all

@[simp] theorem Device.progStart_tamp (d : Device) (base : ℕ) (op : ℕ) (total : ℕ) : (Device.progStart d base op total).tamp = d.tamp := by
  unfold Device.progStart
  simp_all

@[simp] theorem Device.progStart_sources (d : Device) (base : ℕ) (op : ℕ) (total : ℕ) : (Device.progStart d base op total).sources = d.sources := by
  unfold Device.progStart
  simp_all

@[simp] theorem Device.progStart_causes (d : Device) (base : ℕ) (op : ℕ) (total : ℕ) : (Device.progStart d base op total).causes = d.causes := by
  unfold Device.progStart
  simp_all

@[simp] theorem Device.progStart_rng (d : Device) (base : ℕ) (op : ℕ) (total : ℕ) : (Device.progStart d base op total).rng = d.rng := by
  unfold Device.progStart
  simp_all

@[simp] theorem Device.progStart_power (d : Device) (base : ℕ) (op : ℕ) (total : ℕ) : (Device.progStart d base op total).power = d.power := by
  unfold Device.progStart
  simp_all

@[simp] theorem Device.progStart_pins (d : Device) (base : ℕ) (op : ℕ) (total : ℕ) : (Device.progStart d base op total).pins = d.pins := by
  unfold Device.progStart
  simp_all

@[simp] theorem Device.progPos_units (d : Device) (base : ℕ) (pos : ℕ) : (Device.progPos d base pos).units = d.units := by
  unfold Device.progPos
  simp_all

@[simp] theorem Device.progPos_keys (d : Device) (base : ℕ) (pos : ℕ) : (Device.progPos d base pos).keys = d.keys := by
  unfold Device.progPos
  simp_all

@[simp] theorem Device.progPos_store (d : Device) (base : ℕ) (pos : ℕ) : (Device.progPos d base pos).store = d.store := by
  unfold Device.progPos
  simp_all

@[simp] theorem Device.progPos_dom (d : Device) (base : ℕ) (pos : ℕ) : (Device.progPos d base pos).dom = d.dom := by
  unfold Device.progPos
  simp_all

@[simp] theorem Device.progPos_cust (d : Device) (base : ℕ) (pos : ℕ) : (Device.progPos d base pos).cust = d.cust := by
  unfold Device.progPos
  simp_all

@[simp] theorem Device.progPos_tamp (d : Device) (base : ℕ) (pos : ℕ) : (Device.progPos d base pos).tamp = d.tamp := by
  unfold Device.progPos
  simp_all

@[simp] theorem Device.progPos_sources (d : Device) (base : ℕ) (pos : ℕ) : (Device.progPos d base pos).sources = d.sources := by
  unfold Device.progPos
  simp_all

@[simp] theorem Device.progPos_causes (d : Device) (base : ℕ) (pos : ℕ) : (Device.progPos d base pos).causes = d.causes := by
  unfold Device.progPos
  simp_all

@[simp] theorem Device.progPos_rng (d : Device) (base : ℕ) (pos : ℕ) : (Device.progPos d base pos).rng = d.rng := by
  unfold Device.progPos
  simp_all

@[simp] theorem Device.progPos_power (d : Device) (base : ℕ) (pos : ℕ) : (Device.progPos d base pos).power = d.power := by
  unfold Device.progPos
  simp_all

@[simp] theorem Device.progPos_pins (d : Device) (base : ℕ) (pos : ℕ) : (Device.progPos d base pos).pins = d.pins := by
  unfold Device.progPos
  simp_all

@[simp] theorem Device.progEnd_units (d : Device) (base : ℕ) (aborted : Bool) : (Device.progEnd d base aborted).units = d.units := by
  unfold Device.progEnd
  (repeat' split) <;> simp_all

@[simp] theorem Device.progEnd_keys (d : Device) (base : ℕ) (aborted : Bool) : (Device.progEnd d base aborted).keys = d.keys := by
  unfold Device.progEnd
  (repeat' split) <;> simp_all

@[simp] theorem Device.progEnd_store (d : Device) (base : ℕ) (aborted : Bool) : (Device.progEnd d base aborted).store = d.store := by
  unfold Device.progEnd
  (repeat' split) <;> simp_all

@[simp] theorem Device.progEnd_dom (d : Device) (base : ℕ) (aborted : Bool) : (Device.progEnd d base aborted).dom = d.dom := by
  unfold Device.progEnd
  (repeat' split) <;> simp_all

@[simp] theorem Device.progEnd_cust (d : Device) (base : ℕ) (aborted : Bool) : (Device.progEnd d base aborted).cust = d.cust := by
  unfold Device.progEnd
  (repeat' split) <;> simp_all

@[simp] theorem Device.progEnd_tamp (d : Device) (base : ℕ) (aborted : Bool) : (Device.progEnd d base aborted).tamp = d.tamp := by
  unfold Device.progEnd
  (repeat' split) <;> simp_all

@[simp] theorem Device.progEnd_sources (d : Device) (base : ℕ) (aborted : Bool) : (Device.progEnd d base aborted).sources = d.sources := by
  unfold Device.progEnd
  (repeat' split) <;> simp_all

@[simp] theorem Device.progEnd_causes (d : Device) (base : ℕ) (aborted : Bool) : (Device.progEnd d base aborted).causes = d.causes := by
  unfold Device.progEnd
  (repeat' split) <;> simp_all

@[simp] theorem Device.progEnd_rng (d : Device) (base : ℕ) (aborted : Bool) : (Device.progEnd d base aborted).rng = d.rng := by
  unfold Device.progEnd
  (repeat' split) <;> simp_all

@[simp] theorem Device.progEnd_power (d : Device) (base : ℕ) (aborted : Bool) : (Device.progEnd d base aborted).power = d.power := by
  unfold Device.progEnd
  (repeat' split) <;> simp_all

@[simp] theorem Device.progEnd_pins (d : Device) (base : ℕ) (aborted : Bool) : (Device.progEnd d base aborted).pins = d.pins := by
  unfold Device.progEnd
  (repeat' split) <;> simp_all

@[simp] theorem Device.setVf_units (d : Device) (v : ℕ) (x : Vf) : (Device.setVf d v x).units = d.units := by
  unfold Device.setVf
  simp_all

@[simp] theorem Device.setVf_keys (d : Device) (v : ℕ) (x : Vf) : (Device.setVf d v x).keys = d.keys := by
  unfold Device.setVf
  simp_all

@[simp] theorem Device.setVf_store (d : Device) (v : ℕ) (x : Vf) : (Device.setVf d v x).store = d.store := by
  unfold Device.setVf
  simp_all

@[simp] theorem Device.setVf_dom (d : Device) (v : ℕ) (x : Vf) : (Device.setVf d v x).dom = d.dom := by
  unfold Device.setVf
  simp_all

@[simp] theorem Device.setVf_cust (d : Device) (v : ℕ) (x : Vf) : (Device.setVf d v x).cust = d.cust := by
  unfold Device.setVf
  simp_all

@[simp] theorem Device.setVf_tamp (d : Device) (v : ℕ) (x : Vf) : (Device.setVf d v x).tamp = d.tamp := by
  unfold Device.setVf
  simp_all

@[simp] theorem Device.setVf_sources (d : Device) (v : ℕ) (x : Vf) : (Device.setVf d v x).sources = d.sources := by
  unfold Device.setVf
  simp_all

@[simp] theorem Device.setVf_causes (d : Device) (v : ℕ) (x : Vf) : (Device.setVf d v x).causes = d.causes := by
  unfold Device.setVf
  simp_all

@[simp] theorem Device.setVf_rng (d : Device) (v : ℕ) (x : Vf) : (Device.setVf d v x).rng = d.rng := by
  unfold Device.setVf
  simp_all

@[simp] theorem Device.setVf_power (d : Device) (v : ℕ) (x : Vf) : (Device.setVf d v x).power = d.power := by
  unfold Device.setVf
  simp_all

@[simp] theorem Device.setVf_pins (d : Device) (v : ℕ) (x : Vf) : (Device.setVf d v x).pins = d.pins := by
  unfold Device.setVf
  simp_all

@[simp] theorem Device.changeVf_units (d : Device) (v : ℕ) (x : Vf) : (Device.changeVf d v x).units = d.units := by
  unfold Device.changeVf
  (repeat' split) <;> simp_all

@[simp] theorem Device.changeVf_keys (d : Device) (v : ℕ) (x : Vf) : (Device.changeVf d v x).keys = d.keys := by
  unfold Device.changeVf
  (repeat' split) <;> simp_all

@[simp] theorem Device.changeVf_store (d : Device) (v : ℕ) (x : Vf) : (Device.changeVf d v x).store = d.store := by
  unfold Device.changeVf
  (repeat' split) <;> simp_all

@[simp] theorem Device.changeVf_dom (d : Device) (v : ℕ) (x : Vf) : (Device.changeVf d v x).dom = d.dom := by
  unfold Device.changeVf
  (repeat' split) <;> simp_all

@[simp] theorem Device.changeVf_cust (d : Device) (v : ℕ) (x : Vf) : (Device.changeVf d v x).cust = d.cust := by
  unfold Device.changeVf
  (repeat' split) <;> simp_all

@[simp] theorem Device.changeVf_tamp (d : Device) (v : ℕ) (x : Vf) : (Device.changeVf d v x).tamp = d.tamp := by
  unfold Device.changeVf
  (repeat' split) <;> simp_all

@[simp] theorem Device.changeVf_sources (d : Device) (v : ℕ) (x : Vf) : (Device.changeVf d v x).sources = d.sources := by
  unfold Device.changeVf
  (repeat' split) <;> simp_all

@[simp] theorem Device.changeVf_causes (d : Device) (v : ℕ) (x : Vf) : (Device.changeVf d v x).causes = d.causes := by
  unfold Device.changeVf
  (repeat' split) <;> simp_all

@[simp] theorem Device.changeVf_rng (d : Device) (v : ℕ) (x : Vf) : (Device.changeVf d v x).rng = d.rng := by
  unfold Device.changeVf
  (repeat' split) <;> simp_all

@[simp] theorem Device.changeVf_power (d : Device) (v : ℕ) (x : Vf) : (Device.changeVf d v x).power = d.power := by
  unfold Device.changeVf
  (repeat' split) <;> simp_all

@[simp] theorem Device.changeVf_pins (d : Device) (v : ℕ) (x : Vf) : (Device.changeVf d v x).pins = d.pins := by
  unfold Device.changeVf
  (repeat' split) <;> simp_all

@[simp] theorem Device.setQp_units (d : Device) (v : ℕ) (q : ℕ) (x : Qp) : (Device.setQp d v q x).units = d.units := by
  unfold Device.setQp
  simp_all

@[simp] theorem Device.setQp_keys (d : Device) (v : ℕ) (q : ℕ) (x : Qp) : (Device.setQp d v q x).keys = d.keys := by
  unfold Device.setQp
  simp_all

@[simp] theorem Device.setQp_store (d : Device) (v : ℕ) (q : ℕ) (x : Qp) : (Device.setQp d v q x).store = d.store := by
  unfold Device.setQp
  simp_all

@[simp] theorem Device.setQp_dom (d : Device) (v : ℕ) (q : ℕ) (x : Qp) : (Device.setQp d v q x).dom = d.dom := by
  unfold Device.setQp
  simp_all

@[simp] theorem Device.setQp_cust (d : Device) (v : ℕ) (q : ℕ) (x : Qp) : (Device.setQp d v q x).cust = d.cust := by
  unfold Device.setQp
  simp_all

@[simp] theorem Device.setQp_tamp (d : Device) (v : ℕ) (q : ℕ) (x : Qp) : (Device.setQp d v q x).tamp = d.tamp := by
  unfold Device.setQp
  simp_all

@[simp] theorem Device.setQp_sources (d : Device) (v : ℕ) (q : ℕ) (x : Qp) : (Device.setQp d v q x).sources = d.sources := by
  unfold Device.setQp
  simp_all

@[simp] theorem Device.setQp_causes (d : Device) (v : ℕ) (q : ℕ) (x : Qp) : (Device.setQp d v q x).causes = d.causes := by
  unfold Device.setQp
  simp_all

@[simp] theorem Device.setQp_rng (d : Device) (v : ℕ) (q : ℕ) (x : Qp) : (Device.setQp d v q x).rng = d.rng := by
  unfold Device.setQp
  simp_all

@[simp] theorem Device.setQp_power (d : Device) (v : ℕ) (q : ℕ) (x : Qp) : (Device.setQp d v q x).power = d.power := by
  unfold Device.setQp
  simp_all

@[simp] theorem Device.setQp_pins (d : Device) (v : ℕ) (q : ℕ) (x : Qp) : (Device.setQp d v q x).pins = d.pins := by
  unfold Device.setQp
  simp_all

@[simp] theorem Device.setItem_units (d : Device) (n : ℕ) (x : Item) : (Device.setItem d n x).units = d.units := by
  unfold Device.setItem
  simp_all

@[simp] theorem Device.setItem_keys (d : Device) (n : ℕ) (x : Item) : (Device.setItem d n x).keys = d.keys := by
  unfold Device.setItem
  simp_all

@[simp] theorem Device.setItem_store (d : Device) (n : ℕ) (x : Item) : (Device.setItem d n x).store = d.store := by
  unfold Device.setItem
  simp_all

@[simp] theorem Device.setItem_dom (d : Device) (n : ℕ) (x : Item) : (Device.setItem d n x).dom = d.dom := by
  unfold Device.setItem
  simp_all

@[simp] theorem Device.setItem_cust (d : Device) (n : ℕ) (x : Item) : (Device.setItem d n x).cust = d.cust := by
  unfold Device.setItem
  simp_all

@[simp] theorem Device.setItem_tamp (d : Device) (n : ℕ) (x : Item) : (Device.setItem d n x).tamp = d.tamp := by
  unfold Device.setItem
  simp_all

@[simp] theorem Device.setItem_sources (d : Device) (n : ℕ) (x : Item) : (Device.setItem d n x).sources = d.sources := by
  unfold Device.setItem
  simp_all

@[simp] theorem Device.setItem_causes (d : Device) (n : ℕ) (x : Item) : (Device.setItem d n x).causes = d.causes := by
  unfold Device.setItem
  simp_all

@[simp] theorem Device.setItem_rng (d : Device) (n : ℕ) (x : Item) : (Device.setItem d n x).rng = d.rng := by
  unfold Device.setItem
  simp_all

@[simp] theorem Device.setItem_power (d : Device) (n : ℕ) (x : Item) : (Device.setItem d n x).power = d.power := by
  unfold Device.setItem
  simp_all

@[simp] theorem Device.setItem_pins (d : Device) (n : ℕ) (x : Item) : (Device.setItem d n x).pins = d.pins := by
  unfold Device.setItem
  simp_all

@[simp] theorem Device.dropItem_units (d : Device) (n : ℕ) : (Device.dropItem d n).units = d.units := by
  unfold Device.dropItem
  simp_all

@[simp] theorem Device.dropItem_keys (d : Device) (n : ℕ) : (Device.dropItem d n).keys = d.keys := by
  unfold Device.dropItem
  simp_all

@[simp] theorem Device.dropItem_store (d : Device) (n : ℕ) : (Device.dropItem d n).store = d.store := by
  unfold Device.dropItem
  simp_all

@[simp] theorem Device.dropItem_dom (d : Device) (n : ℕ) : (Device.dropItem d n).dom = d.dom := by
  unfold Device.dropItem
  simp_all

@[simp] theorem Device.dropItem_cust (d : Device) (n : ℕ) : (Device.dropItem d n).cust = d.cust := by
  unfold Device.dropItem
  simp_all

@[simp] theorem Device.dropItem_tamp (d : Device) (n : ℕ) : (Device.dropItem d n).tamp = d.tamp := by
  unfold Device.dropItem
  simp_all

@[simp] theorem Device.dropItem_sources (d : Device) (n : ℕ) : (Device.dropItem d n).sources = d.sources := by
  unfold Device.dropItem
  simp_all

@[simp] theorem Device.dropItem_causes (d : Device) (n : ℕ) : (Device.dropItem d n).causes = d.causes := by
  unfold Device.dropItem
  simp_all

@[simp] theorem Device.dropItem_rng (d : Device) (n : ℕ) : (Device.dropItem d n).rng = d.rng := by
  unfold Device.dropItem
  simp_all

@[simp] theorem Device.dropItem_power (d : Device) (n : ℕ) : (Device.dropItem d n).power = d.power := by
  unfold Device.dropItem
  simp_all

@[simp] theorem Device.dropItem_pins (d : Device) (n : ℕ) : (Device.dropItem d n).pins = d.pins := by
  unfold Device.dropItem
  simp_all

@[simp] theorem Device.dropDelay_units (d : Device) (list : ℕ) (n : ℕ) : (Device.dropDelay d list n).units = d.units := by
  unfold Device.dropDelay
  simp_all

@[simp] theorem Device.dropDelay_keys (d : Device) (list : ℕ) (n : ℕ) : (Device.dropDelay d list n).keys = d.keys := by
  unfold Device.dropDelay
  simp_all

@[simp] theorem Device.dropDelay_store (d : Device) (list : ℕ) (n : ℕ) : (Device.dropDelay d list n).store = d.store := by
  unfold Device.dropDelay
  simp_all

@[simp] theorem Device.dropDelay_dom (d : Device) (list : ℕ) (n : ℕ) : (Device.dropDelay d list n).dom = d.dom := by
  unfold Device.dropDelay
  simp_all

@[simp] theorem Device.dropDelay_cust (d : Device) (list : ℕ) (n : ℕ) : (Device.dropDelay d list n).cust = d.cust := by
  unfold Device.dropDelay
  simp_all

@[simp] theorem Device.dropDelay_tamp (d : Device) (list : ℕ) (n : ℕ) : (Device.dropDelay d list n).tamp = d.tamp := by
  unfold Device.dropDelay
  simp_all

@[simp] theorem Device.dropDelay_sources (d : Device) (list : ℕ) (n : ℕ) : (Device.dropDelay d list n).sources = d.sources := by
  unfold Device.dropDelay
  simp_all

@[simp] theorem Device.dropDelay_causes (d : Device) (list : ℕ) (n : ℕ) : (Device.dropDelay d list n).causes = d.causes := by
  unfold Device.dropDelay
  simp_all

@[simp] theorem Device.dropDelay_rng (d : Device) (list : ℕ) (n : ℕ) : (Device.dropDelay d list n).rng = d.rng := by
  unfold Device.dropDelay
  simp_all

@[simp] theorem Device.dropDelay_power (d : Device) (list : ℕ) (n : ℕ) : (Device.dropDelay d list n).power = d.power := by
  unfold Device.dropDelay
  simp_all

@[simp] theorem Device.dropDelay_pins (d : Device) (list : ℕ) (n : ℕ) : (Device.dropDelay d list n).pins = d.pins := by
  unfold Device.dropDelay
  simp_all

@[simp] theorem Device.addDelay_units (d : Device) (list : ℕ) (n : ℕ) (due : ℕ) : (Device.addDelay d list n due).units = d.units := by
  unfold Device.addDelay
  simp_all

@[simp] theorem Device.addDelay_keys (d : Device) (list : ℕ) (n : ℕ) (due : ℕ) : (Device.addDelay d list n due).keys = d.keys := by
  unfold Device.addDelay
  simp_all

@[simp] theorem Device.addDelay_store (d : Device) (list : ℕ) (n : ℕ) (due : ℕ) : (Device.addDelay d list n due).store = d.store := by
  unfold Device.addDelay
  simp_all

@[simp] theorem Device.addDelay_dom (d : Device) (list : ℕ) (n : ℕ) (due : ℕ) : (Device.addDelay d list n due).dom = d.dom := by
  unfold Device.addDelay
  simp_all

@[simp] theorem Device.addDelay_cust (d : Device) (list : ℕ) (n : ℕ) (due : ℕ) : (Device.addDelay d list n due).cust = d.cust := by
  unfold Device.addDelay
  simp_all

@[simp] theorem Device.addDelay_tamp (d : Device) (list : ℕ) (n : ℕ) (due : ℕ) : (Device.addDelay d list n due).tamp = d.tamp := by
  unfold Device.addDelay
  simp_all

@[simp] theorem Device.addDelay_sources (d : Device) (list : ℕ) (n : ℕ) (due : ℕ) : (Device.addDelay d list n due).sources = d.sources := by
  unfold Device.addDelay
  simp_all

@[simp] theorem Device.addDelay_causes (d : Device) (list : ℕ) (n : ℕ) (due : ℕ) : (Device.addDelay d list n due).causes = d.causes := by
  unfold Device.addDelay
  simp_all

@[simp] theorem Device.addDelay_rng (d : Device) (list : ℕ) (n : ℕ) (due : ℕ) : (Device.addDelay d list n due).rng = d.rng := by
  unfold Device.addDelay
  simp_all

@[simp] theorem Device.addDelay_power (d : Device) (list : ℕ) (n : ℕ) (due : ℕ) : (Device.addDelay d list n due).power = d.power := by
  unfold Device.addDelay
  simp_all

@[simp] theorem Device.addDelay_pins (d : Device) (list : ℕ) (n : ℕ) (due : ℕ) : (Device.addDelay d list n due).pins = d.pins := by
  unfold Device.addDelay
  simp_all

@[simp] theorem Device.finishItem_units (d : Device) (n : ℕ) (st : Status) (detail : ℕ) : (Device.finishItem d n st detail).units = d.units := by
  unfold Device.finishItem
  (repeat' split) <;> simp_all

@[simp] theorem Device.finishItem_keys (d : Device) (n : ℕ) (st : Status) (detail : ℕ) : (Device.finishItem d n st detail).keys = d.keys := by
  unfold Device.finishItem
  (repeat' split) <;> simp_all

@[simp] theorem Device.finishItem_store (d : Device) (n : ℕ) (st : Status) (detail : ℕ) : (Device.finishItem d n st detail).store = d.store := by
  unfold Device.finishItem
  (repeat' split) <;> simp_all

@[simp] theorem Device.finishItem_dom (d : Device) (n : ℕ) (st : Status) (detail : ℕ) : (Device.finishItem d n st detail).dom = d.dom := by
  unfold Device.finishItem
  (repeat' split) <;> simp_all

@[simp] theorem Device.finishItem_cust (d : Device) (n : ℕ) (st : Status) (detail : ℕ) : (Device.finishItem d n st detail).cust = d.cust := by
  unfold Device.finishItem
  (repeat' split) <;> simp_all

@[simp] theorem Device.finishItem_tamp (d : Device) (n : ℕ) (st : Status) (detail : ℕ) : (Device.finishItem d n st detail).tamp = d.tamp := by
  unfold Device.finishItem
  (repeat' split) <;> simp_all

@[simp] theorem Device.finishItem_sources (d : Device) (n : ℕ) (st : Status) (detail : ℕ) : (Device.finishItem d n st detail).sources = d.sources := by
  unfold Device.finishItem
  (repeat' split) <;> simp_all

@[simp] theorem Device.finishItem_causes (d : Device) (n : ℕ) (st : Status) (detail : ℕ) : (Device.finishItem d n st detail).causes = d.causes := by
  unfold Device.finishItem
  (repeat' split) <;> simp_all

@[simp] theorem Device.finishItem_rng (d : Device) (n : ℕ) (st : Status) (detail : ℕ) : (Device.finishItem d n st detail).rng = d.rng := by
  unfold Device.finishItem
  (repeat' split) <;> simp_all

@[simp] theorem Device.finishItem_power (d : Device) (n : ℕ) (st : Status) (detail : ℕ) : (Device.finishItem d n st detail).power = d.power := by
  unfold Device.finishItem
  (repeat' split) <;> simp_all

@[simp] theorem Device.finishItem_pins (d : Device) (n : ℕ) (st : Status) (detail : ℕ) : (Device.finishItem d n st detail).pins = d.pins := by
  unfold Device.finishItem
  (repeat' split) <;> simp_all

@[simp] theorem Device.bumpCounter_units (d : Device) (p : Page) (n : ℕ) (val : ℕ) (ovf : ℕ) (bitNo : ℕ) (inc : ℕ) : (Device.bumpCounter d p n val ovf bitNo inc).units = d.units := by
  unfold Device.bumpCounter
  simp_all

@[simp] theorem Device.bumpCounter_keys (d : Device) (p : Page) (n : ℕ) (val : ℕ) (ovf : ℕ) (bitNo : ℕ) (inc : ℕ) : (Device.bumpCounter d p n val ovf bitNo inc).keys = d.keys := by
  unfold Device.bumpCounter
  simp_all

@[simp] theorem Device.bumpCounter_store (d : Device) (p : Page) (n : ℕ) (val : ℕ) (ovf : ℕ) (bitNo : ℕ) (inc : ℕ) : (Device.bumpCounter d p n val ovf bitNo inc).store = d.store := by
  unfold Device.bumpCounter
  simp_all

@[simp] theorem Device.bumpCounter_dom (d : Device) (p : Page) (n : ℕ) (val : ℕ) (ovf : ℕ) (bitNo : ℕ) (inc : ℕ) : (Device.bumpCounter d p n val ovf bitNo inc).dom = d.dom := by
  unfold Device.bumpCounter
  simp_all

@[simp] theorem Device.bumpCounter_cust (d : Device) (p : Page) (n : ℕ) (val : ℕ) (ovf : ℕ) (bitNo : ℕ) (inc : ℕ) : (Device.bumpCounter d p n val ovf bitNo inc).cust = d.cust := by
  unfold Device.bumpCounter
  simp_all

@[simp] theorem Device.bumpCounter_tamp (d : Device) (p : Page) (n : ℕ) (val : ℕ) (ovf : ℕ) (bitNo : ℕ) (inc : ℕ) : (Device.bumpCounter d p n val ovf bitNo inc).tamp = d.tamp := by
  unfold Device.bumpCounter
  simp_all

@[simp] theorem Device.bumpCounter_sources (d : Device) (p : Page) (n : ℕ) (val : ℕ) (ovf : ℕ) (bitNo : ℕ) (inc : ℕ) : (Device.bumpCounter d p n val ovf bitNo inc).sources = d.sources := by
  unfold Device.bumpCounter
  simp_all

@[simp] theorem Device.bumpCounter_causes (d : Device) (p : Page) (n : ℕ) (val : ℕ) (ovf : ℕ) (bitNo : ℕ) (inc : ℕ) : (Device.bumpCounter d p n val ovf bitNo inc).causes = d.causes := by
  unfold Device.bumpCounter
  simp_all

@[simp] theorem Device.bumpCounter_rng (d : Device) (p : Page) (n : ℕ) (val : ℕ) (ovf : ℕ) (bitNo : ℕ) (inc : ℕ) : (Device.bumpCounter d p n val ovf bitNo inc).rng = d.rng := by
  unfold Device.bumpCounter
  simp_all

@[simp] theorem Device.bumpCounter_power (d : Device) (p : Page) (n : ℕ) (val : ℕ) (ovf : ℕ) (bitNo : ℕ) (inc : ℕ) : (Device.bumpCounter d p n val ovf bitNo inc).power = d.power := by
  unfold Device.bumpCounter
  simp_all

@[simp] theorem Device.bumpCounter_pins (d : Device) (p : Page) (n : ℕ) (val : ℕ) (ovf : ℕ) (bitNo : ℕ) (inc : ℕ) : (Device.bumpCounter d p n val ovf bitNo inc).pins = d.pins := by
  unfold Device.bumpCounter
  simp_all

@[simp] theorem Device.pfCounter_units (vf : Option ℕ) (ev : ℕ) (inc : ℕ) (d : Device) (c : ℕ) : (Device.pfCounter vf ev inc d c).units = d.units := by
  unfold Device.pfCounter
  (repeat' split) <;> simp_all

@[simp] theorem Device.pfCounter_keys (vf : Option ℕ) (ev : ℕ) (inc : ℕ) (d : Device) (c : ℕ) : (Device.pfCounter vf ev inc d c).keys = d.keys := by
  unfold Device.pfCounter
  (repeat' split) <;> simp_all

@[simp] theorem Device.pfCounter_store (vf : Option ℕ) (ev : ℕ) (inc : ℕ) (d : Device) (c : ℕ) : (Device.pfCounter vf ev inc d c).store = d.store := by
  unfold Device.pfCounter
  (repeat' split) <;> simp_all

@[simp] theorem Device.pfCounter_dom (vf : Option ℕ) (ev : ℕ) (inc : ℕ) (d : Device) (c : ℕ) : (Device.pfCounter vf ev inc d c).dom = d.dom := by
  unfold Device.pfCounter
  (repeat' split) <;> simp_all

@[simp] theorem Device.pfCounter_cust (vf : Option ℕ) (ev : ℕ) (inc : ℕ) (d : Device) (c : ℕ) : (Device.pfCounter vf ev inc d c).cust = d.cust := by
  unfold Device.pfCounter
  (repeat' split) <;> simp_all

@[simp] theorem Device.pfCounter_tamp (vf : Option ℕ) (ev : ℕ) (inc : ℕ) (d : Device) (c : ℕ) : (Device.pfCounter vf ev inc d c).tamp = d.tamp := by
  unfold Device.pfCounter
  (repeat' split) <;> simp_all

@[simp] theorem Device.pfCounter_sources (vf : Option ℕ) (ev : ℕ) (inc : ℕ) (d : Device) (c : ℕ) : (Device.pfCounter vf ev inc d c).sources = d.sources := by
  unfold Device.pfCounter
  (repeat' split) <;> simp_all

@[simp] theorem Device.pfCounter_causes (vf : Option ℕ) (ev : ℕ) (inc : ℕ) (d : Device) (c : ℕ) : (Device.pfCounter vf ev inc d c).causes = d.causes := by
  unfold Device.pfCounter
  (repeat' split) <;> simp_all

@[simp] theorem Device.pfCounter_rng (vf : Option ℕ) (ev : ℕ) (inc : ℕ) (d : Device) (c : ℕ) : (Device.pfCounter vf ev inc d c).rng = d.rng := by
  unfold Device.pfCounter
  (repeat' split) <;> simp_all

@[simp] theorem Device.pfCounter_power (vf : Option ℕ) (ev : ℕ) (inc : ℕ) (d : Device) (c : ℕ) : (Device.pfCounter vf ev inc d c).power = d.power := by
  unfold Device.pfCounter
  (repeat' split) <;> simp_all

@[simp] theorem Device.pfCounter_pins (vf : Option ℕ) (ev : ℕ) (inc : ℕ) (d : Device) (c : ℕ) : (Device.pfCounter vf ev inc d c).pins = d.pins := by
  unfold Device.pfCounter
  (repeat' split) <;> simp_all

@[simp] theorem Device.vfCounter_units (v : ℕ) (ev : ℕ) (inc : ℕ) (d : Device) (c : ℕ) : (Device.vfCounter v ev inc d c).units = d.units := by
  unfold Device.vfCounter
  (repeat' split) <;> simp_all

@[simp] theorem Device.vfCounter_keys (v : ℕ) (ev : ℕ) (inc : ℕ) (d : Device) (c : ℕ) : (Device.vfCounter v ev inc d c).keys = d.keys := by
  unfold Device.vfCounter
  (repeat' split) <;> simp_all

@[simp] theorem Device.vfCounter_store (v : ℕ) (ev : ℕ) (inc : ℕ) (d : Device) (c : ℕ) : (Device.vfCounter v ev inc d c).store = d.store := by
  unfold Device.vfCounter
  (repeat' split) <;> simp_all

@[simp] theorem Device.vfCounter_dom (v : ℕ) (ev : ℕ) (inc : ℕ) (d : Device) (c : ℕ) : (Device.vfCounter v ev inc d c).dom = d.dom := by
  unfold Device.vfCounter
  (repeat' split) <;> simp_all

@[simp] theorem Device.vfCounter_cust (v : ℕ) (ev : ℕ) (inc : ℕ) (d : Device) (c : ℕ) : (Device.vfCounter v ev inc d c).cust = d.cust := by
  unfold Device.vfCounter
  (repeat' split) <;> simp_all

@[simp] theorem Device.vfCounter_tamp (v : ℕ) (ev : ℕ) (inc : ℕ) (d : Device) (c : ℕ) : (Device.vfCounter v ev inc d c).tamp = d.tamp := by
  unfold Device.vfCounter
  (repeat' split) <;> simp_all

@[simp] theorem Device.vfCounter_sources (v : ℕ) (ev : ℕ) (inc : ℕ) (d : Device) (c : ℕ) : (Device.vfCounter v ev inc d c).sources = d.sources := by
  unfold Device.vfCounter
  (repeat' split) <;> simp_all

@[simp] theorem Device.vfCounter_causes (v : ℕ) (ev : ℕ) (inc : ℕ) (d : Device) (c : ℕ) : (Device.vfCounter v ev inc d c).causes = d.causes := by
  unfold Device.vfCounter
  (repeat' split) <;> simp_all

@[simp] theorem Device.vfCounter_rng (v : ℕ) (ev : ℕ) (inc : ℕ) (d : Device) (c : ℕ) : (Device.vfCounter v ev inc d c).rng = d.rng := by
  unfold Device.vfCounter
  (repeat' split) <;> simp_all

@[simp] theorem Device.vfCounter_power (v : ℕ) (ev : ℕ) (inc : ℕ) (d : Device) (c : ℕ) : (Device.vfCounter v ev inc d c).power = d.power := by
  unfold Device.vfCounter
  (repeat' split) <;> simp_all

@[simp] theorem Device.vfCounter_pins (v : ℕ) (ev : ℕ) (inc : ℕ) (d : Device) (c : ℕ) : (Device.vfCounter v ev inc d c).pins = d.pins := by
  unfold Device.vfCounter
  (repeat' split) <;> simp_all

@[simp] theorem Device.countEvent_units (d : Device) (vf : Option ℕ) (ev : ℕ) (inc : ℕ) : (Device.countEvent d vf ev inc).units = d.units := by
  unfold Device.countEvent
  (repeat' split) <;> simp_all

@[simp] theorem Device.countEvent_keys (d : Device) (vf : Option ℕ) (ev : ℕ) (inc : ℕ) : (Device.countEvent d vf ev inc).keys = d.keys := by
  unfold Device.countEvent
  (repeat' split) <;> simp_all

@[simp] theorem Device.countEvent_store (d : Device) (vf : Option ℕ) (ev : ℕ) (inc : ℕ) : (Device.countEvent d vf ev inc).store = d.store := by
  unfold Device.countEvent
  (repeat' split) <;> simp_all

@[simp] theorem Device.countEvent_dom (d : Device) (vf : Option ℕ) (ev : ℕ) (inc : ℕ) : (Device.countEvent d vf ev inc).dom = d.dom := by
  unfold Device.countEvent
  (repeat' split) <;> simp_all

@[simp] theorem Device.countEvent_cust (d : Device) (vf : Option ℕ) (ev : ℕ) (inc : ℕ) : (Device.countEvent d vf ev inc).cust = d.cust := by
  unfold Device.countEvent
  (repeat' split) <;> simp_all

@[simp] theorem Device.countEvent_tamp (d : Device) (vf : Option ℕ) (ev : ℕ) (inc : ℕ) : (Device.countEvent d vf ev inc).tamp = d.tamp := by
  unfold Device.countEvent
  (repeat' split) <;> simp_all

@[simp] theorem Device.countEvent_sources (d : Device) (vf : Option ℕ) (ev : ℕ) (inc : ℕ) : (Device.countEvent d vf ev inc).sources = d.sources := by
  unfold Device.countEvent
  (repeat' split) <;> simp_all

@[simp] theorem Device.countEvent_causes (d : Device) (vf : Option ℕ) (ev : ℕ) (inc : ℕ) : (Device.countEvent d vf ev inc).causes = d.causes := by
  unfold Device.countEvent
  (repeat' split) <;> simp_all

@[simp] theorem Device.countEvent_rng (d : Device) (vf : Option ℕ) (ev : ℕ) (inc : ℕ) : (Device.countEvent d vf ev inc).rng = d.rng := by
  unfold Device.countEvent
  (repeat' split) <;> simp_all

@[simp] theorem Device.countEvent_power (d : Device) (vf : Option ℕ) (ev : ℕ) (inc : ℕ) : (Device.countEvent d vf ev inc).power = d.power := by
  unfold Device.countEvent
  (repeat' split) <;> simp_all

@[simp] theorem Device.countEvent_pins (d : Device) (vf : Option ℕ) (ev : ℕ) (inc : ℕ) : (Device.countEvent d vf ev inc).pins = d.pins := by
  unfold Device.countEvent
  (repeat' split) <;> simp_all

@[simp] theorem Device.alertCause_units (d : Device) : (Device.alertCause d).units = d.units := by
  unfold Device.alertCause
  simp_all

@[simp] theorem Device.alertCause_keys (d : Device) : (Device.alertCause d).keys = d.keys := by
  unfold Device.alertCause
  simp_all

@[simp] theorem Device.alertCause_store (d : Device) : (Device.alertCause d).store = d.store := by
  unfold Device.alertCause
  simp_all

@[simp] theorem Device.alertCause_dom (d : Device) : (Device.alertCause d).dom = d.dom := by
  unfold Device.alertCause
  simp_all

@[simp] theorem Device.alertCause_cust (d : Device) : (Device.alertCause d).cust = d.cust := by
  unfold Device.alertCause
  simp_all

@[simp] theorem Device.alertCause_tamp (d : Device) : (Device.alertCause d).tamp = d.tamp := by
  unfold Device.alertCause
  simp_all

@[simp] theorem Device.alertCause_sources (d : Device) : (Device.alertCause d).sources = d.sources := by
  unfold Device.alertCause
  simp_all

@[simp] theorem Device.alertCause_causes (d : Device) : (Device.alertCause d).causes = d.causes := by
  unfold Device.alertCause
  simp_all

@[simp] theorem Device.alertCause_rng (d : Device) : (Device.alertCause d).rng = d.rng := by
  unfold Device.alertCause
  simp_all

@[simp] theorem Device.alertCause_power (d : Device) : (Device.alertCause d).power = d.power := by
  unfold Device.alertCause
  simp_all

@[simp] theorem Device.storeWords_units (d : Device) (a : ℕ) (n : ℕ) (bs : Sys2Proof.Bytes) : (Device.storeWords d a n bs).units = d.units := by
  unfold Device.storeWords
  simp_all

@[simp] theorem Device.storeWords_keys (d : Device) (a : ℕ) (n : ℕ) (bs : Sys2Proof.Bytes) : (Device.storeWords d a n bs).keys = d.keys := by
  unfold Device.storeWords
  simp_all

@[simp] theorem Device.storeWords_store (d : Device) (a : ℕ) (n : ℕ) (bs : Sys2Proof.Bytes) : (Device.storeWords d a n bs).store = d.store := by
  unfold Device.storeWords
  simp_all

@[simp] theorem Device.storeWords_dom (d : Device) (a : ℕ) (n : ℕ) (bs : Sys2Proof.Bytes) : (Device.storeWords d a n bs).dom = d.dom := by
  unfold Device.storeWords
  simp_all

@[simp] theorem Device.storeWords_cust (d : Device) (a : ℕ) (n : ℕ) (bs : Sys2Proof.Bytes) : (Device.storeWords d a n bs).cust = d.cust := by
  unfold Device.storeWords
  simp_all

@[simp] theorem Device.storeWords_tamp (d : Device) (a : ℕ) (n : ℕ) (bs : Sys2Proof.Bytes) : (Device.storeWords d a n bs).tamp = d.tamp := by
  unfold Device.storeWords
  simp_all

@[simp] theorem Device.storeWords_sources (d : Device) (a : ℕ) (n : ℕ) (bs : Sys2Proof.Bytes) : (Device.storeWords d a n bs).sources = d.sources := by
  unfold Device.storeWords
  simp_all

@[simp] theorem Device.storeWords_causes (d : Device) (a : ℕ) (n : ℕ) (bs : Sys2Proof.Bytes) : (Device.storeWords d a n bs).causes = d.causes := by
  unfold Device.storeWords
  simp_all

@[simp] theorem Device.storeWords_rng (d : Device) (a : ℕ) (n : ℕ) (bs : Sys2Proof.Bytes) : (Device.storeWords d a n bs).rng = d.rng := by
  unfold Device.storeWords
  simp_all

@[simp] theorem Device.storeWords_power (d : Device) (a : ℕ) (n : ℕ) (bs : Sys2Proof.Bytes) : (Device.storeWords d a n bs).power = d.power := by
  unfold Device.storeWords
  simp_all

@[simp] theorem Device.storeWords_pins (d : Device) (a : ℕ) (n : ℕ) (bs : Sys2Proof.Bytes) : (Device.storeWords d a n bs).pins = d.pins := by
  unfold Device.storeWords
  simp_all

@[simp] theorem Device.placeFrame_units (d : Device) : (Device.placeFrame d).units = d.units := by
  unfold Device.placeFrame
  (repeat' split) <;> simp_all

@[simp] theorem Device.placeFrame_keys (d : Device) : (Device.placeFrame d).keys = d.keys := by
  unfold Device.placeFrame
  (repeat' split) <;> simp_all

@[simp] theorem Device.placeFrame_store (d : Device) : (Device.placeFrame d).store = d.store := by
  unfold Device.placeFrame
  (repeat' split) <;> simp_all

@[simp] theorem Device.placeFrame_dom (d : Device) : (Device.placeFrame d).dom = d.dom := by
  unfold Device.placeFrame
  (repeat' split) <;> simp_all

@[simp] theorem Device.placeFrame_tamp (d : Device) : (Device.placeFrame d).tamp = d.tamp := by
  unfold Device.placeFrame
  (repeat' split) <;> simp_all

@[simp] theorem Device.placeFrame_sources (d : Device) : (Device.placeFrame d).sources = d.sources := by
  unfold Device.placeFrame
  (repeat' split) <;> simp_all

@[simp] theorem Device.placeFrame_causes (d : Device) : (Device.placeFrame d).causes = d.causes := by
  unfold Device.placeFrame
  (repeat' split) <;> simp_all

@[simp] theorem Device.placeFrame_rng (d : Device) : (Device.placeFrame d).rng = d.rng := by
  unfold Device.placeFrame
  (repeat' split) <;> simp_all

@[simp] theorem Device.placeFrame_power (d : Device) : (Device.placeFrame d).power = d.power := by
  unfold Device.placeFrame
  (repeat' split) <;> simp_all

@[simp] theorem Device.placeFrame_pins (d : Device) : (Device.placeFrame d).pins = d.pins := by
  unfold Device.placeFrame
  (repeat' split) <;> simp_all

@[simp] theorem Device.olihildReply_units (d : Device) (carrier : ℕ) (typ : ℕ) (status : ℕ) (id : ℕ) (body : Sys2Proof.Bytes) : (Device.olihildReply d carrier typ status id body).units = d.units := by
  unfold Device.olihildReply
  (repeat' split) <;> simp_all

@[simp] theorem Device.olihildReply_keys (d : Device) (carrier : ℕ) (typ : ℕ) (status : ℕ) (id : ℕ) (body : Sys2Proof.Bytes) : (Device.olihildReply d carrier typ status id body).keys = d.keys := by
  unfold Device.olihildReply
  (repeat' split) <;> simp_all

@[simp] theorem Device.olihildReply_store (d : Device) (carrier : ℕ) (typ : ℕ) (status : ℕ) (id : ℕ) (body : Sys2Proof.Bytes) : (Device.olihildReply d carrier typ status id body).store = d.store := by
  unfold Device.olihildReply
  (repeat' split) <;> simp_all

@[simp] theorem Device.olihildReply_dom (d : Device) (carrier : ℕ) (typ : ℕ) (status : ℕ) (id : ℕ) (body : Sys2Proof.Bytes) : (Device.olihildReply d carrier typ status id body).dom = d.dom := by
  unfold Device.olihildReply
  (repeat' split) <;> simp_all

@[simp] theorem Device.olihildReply_tamp (d : Device) (carrier : ℕ) (typ : ℕ) (status : ℕ) (id : ℕ) (body : Sys2Proof.Bytes) : (Device.olihildReply d carrier typ status id body).tamp = d.tamp := by
  unfold Device.olihildReply
  (repeat' split) <;> simp_all

@[simp] theorem Device.olihildReply_sources (d : Device) (carrier : ℕ) (typ : ℕ) (status : ℕ) (id : ℕ) (body : Sys2Proof.Bytes) : (Device.olihildReply d carrier typ status id body).sources = d.sources := by
  unfold Device.olihildReply
  (repeat' split) <;> simp_all

@[simp] theorem Device.olihildReply_causes (d : Device) (carrier : ℕ) (typ : ℕ) (status : ℕ) (id : ℕ) (body : Sys2Proof.Bytes) : (Device.olihildReply d carrier typ status id body).causes = d.causes := by
  unfold Device.olihildReply
  (repeat' split) <;> simp_all

@[simp] theorem Device.olihildReply_rng (d : Device) (carrier : ℕ) (typ : ℕ) (status : ℕ) (id : ℕ) (body : Sys2Proof.Bytes) : (Device.olihildReply d carrier typ status id body).rng = d.rng := by
  unfold Device.olihildReply
  (repeat' split) <;> simp_all

@[simp] theorem Device.olihildReply_power (d : Device) (carrier : ℕ) (typ : ℕ) (status : ℕ) (id : ℕ) (body : Sys2Proof.Bytes) : (Device.olihildReply d carrier typ status id body).power = d.power := by
  unfold Device.olihildReply
  (repeat' split) <;> simp_all

@[simp] theorem Device.olihildReply_pins (d : Device) (carrier : ℕ) (typ : ℕ) (status : ℕ) (id : ℕ) (body : Sys2Proof.Bytes) : (Device.olihildReply d carrier typ status id body).pins = d.pins := by
  unfold Device.olihildReply
  (repeat' split) <;> simp_all

@[simp] theorem Device.clearLocks_units (d : Device) : (Device.clearLocks d).units = d.units := by
  unfold Device.clearLocks
  simp_all

@[simp] theorem Device.clearLocks_keys (d : Device) : (Device.clearLocks d).keys = d.keys := by
  unfold Device.clearLocks
  simp_all

@[simp] theorem Device.clearLocks_store (d : Device) : (Device.clearLocks d).store = d.store := by
  unfold Device.clearLocks
  simp_all

@[simp] theorem Device.clearLocks_dom (d : Device) : (Device.clearLocks d).dom = d.dom := by
  unfold Device.clearLocks
  simp_all

@[simp] theorem Device.clearLocks_cust (d : Device) : (Device.clearLocks d).cust = d.cust := by
  unfold Device.clearLocks
  simp_all

@[simp] theorem Device.clearLocks_tamp (d : Device) : (Device.clearLocks d).tamp = d.tamp := by
  unfold Device.clearLocks
  simp_all

@[simp] theorem Device.clearLocks_sources (d : Device) : (Device.clearLocks d).sources = d.sources := by
  unfold Device.clearLocks
  simp_all

@[simp] theorem Device.clearLocks_causes (d : Device) : (Device.clearLocks d).causes = d.causes := by
  unfold Device.clearLocks
  simp_all

@[simp] theorem Device.clearLocks_rng (d : Device) : (Device.clearLocks d).rng = d.rng := by
  unfold Device.clearLocks
  simp_all

@[simp] theorem Device.clearLocks_power (d : Device) : (Device.clearLocks d).power = d.power := by
  unfold Device.clearLocks
  simp_all

@[simp] theorem Device.clearLocks_pins (d : Device) : (Device.clearLocks d).pins = d.pins := by
  unfold Device.clearLocks
  simp_all

@[simp] theorem Device.signalMode_units (d : Device) : (Device.signalMode d).units = d.units := by
  unfold Device.signalMode
  simp_all

@[simp] theorem Device.signalMode_keys (d : Device) : (Device.signalMode d).keys = d.keys := by
  unfold Device.signalMode
  simp_all

@[simp] theorem Device.signalMode_store (d : Device) : (Device.signalMode d).store = d.store := by
  unfold Device.signalMode
  simp_all

@[simp] theorem Device.signalMode_dom (d : Device) : (Device.signalMode d).dom = d.dom := by
  unfold Device.signalMode
  simp_all

@[simp] theorem Device.signalMode_cust (d : Device) : (Device.signalMode d).cust = d.cust := by
  unfold Device.signalMode
  simp_all

@[simp] theorem Device.signalMode_tamp (d : Device) : (Device.signalMode d).tamp = d.tamp := by
  unfold Device.signalMode
  simp_all

@[simp] theorem Device.signalMode_sources (d : Device) : (Device.signalMode d).sources = d.sources := by
  unfold Device.signalMode
  simp_all

@[simp] theorem Device.signalMode_causes (d : Device) : (Device.signalMode d).causes = d.causes := by
  unfold Device.signalMode
  simp_all

@[simp] theorem Device.signalMode_rng (d : Device) : (Device.signalMode d).rng = d.rng := by
  unfold Device.signalMode
  simp_all

@[simp] theorem Device.signalMode_power (d : Device) : (Device.signalMode d).power = d.power := by
  unfold Device.signalMode
  simp_all

@[simp] theorem Device.signalMode_pins (d : Device) : (Device.signalMode d).pins = d.pins := by
  unfold Device.signalMode
  simp_all

@[simp] theorem Device.enterMode_units (d : Device) (m : Mode) : (Device.enterMode d m).units = d.units := by
  unfold Device.enterMode
  (repeat' split) <;> simp_all

@[simp] theorem Device.enterMode_keys (d : Device) (m : Mode) : (Device.enterMode d m).keys = d.keys := by
  unfold Device.enterMode
  (repeat' split) <;> simp_all

@[simp] theorem Device.enterMode_store (d : Device) (m : Mode) : (Device.enterMode d m).store = d.store := by
  unfold Device.enterMode
  (repeat' split) <;> simp_all

@[simp] theorem Device.enterMode_dom (d : Device) (m : Mode) : (Device.enterMode d m).dom = d.dom := by
  unfold Device.enterMode
  (repeat' split) <;> simp_all

@[simp] theorem Device.enterMode_tamp (d : Device) (m : Mode) : (Device.enterMode d m).tamp = d.tamp := by
  unfold Device.enterMode
  (repeat' split) <;> simp_all

@[simp] theorem Device.enterMode_causes (d : Device) (m : Mode) : (Device.enterMode d m).causes = d.causes := by
  unfold Device.enterMode
  (repeat' split) <;> simp_all

@[simp] theorem Device.enterMode_rng (d : Device) (m : Mode) : (Device.enterMode d m).rng = d.rng := by
  unfold Device.enterMode
  (repeat' split) <;> simp_all

@[simp] theorem Device.enterMode_power (d : Device) (m : Mode) : (Device.enterMode d m).power = d.power := by
  unfold Device.enterMode
  (repeat' split) <;> simp_all

@[simp] theorem Device.stopItem_units (d : Device) (n : ℕ) (x : Item) : (Device.stopItem d n x).units = d.units := by
  unfold Device.stopItem
  (repeat' split) <;> simp_all

@[simp] theorem Device.stopItem_keys (d : Device) (n : ℕ) (x : Item) : (Device.stopItem d n x).keys = d.keys := by
  unfold Device.stopItem
  (repeat' split) <;> simp_all

@[simp] theorem Device.stopItem_store (d : Device) (n : ℕ) (x : Item) : (Device.stopItem d n x).store = d.store := by
  unfold Device.stopItem
  (repeat' split) <;> simp_all

@[simp] theorem Device.stopItem_dom (d : Device) (n : ℕ) (x : Item) : (Device.stopItem d n x).dom = d.dom := by
  unfold Device.stopItem
  (repeat' split) <;> simp_all

@[simp] theorem Device.stopItem_cust (d : Device) (n : ℕ) (x : Item) : (Device.stopItem d n x).cust = d.cust := by
  unfold Device.stopItem
  (repeat' split) <;> simp_all

@[simp] theorem Device.stopItem_tamp (d : Device) (n : ℕ) (x : Item) : (Device.stopItem d n x).tamp = d.tamp := by
  unfold Device.stopItem
  (repeat' split) <;> simp_all

@[simp] theorem Device.stopItem_sources (d : Device) (n : ℕ) (x : Item) : (Device.stopItem d n x).sources = d.sources := by
  unfold Device.stopItem
  (repeat' split) <;> simp_all

@[simp] theorem Device.stopItem_causes (d : Device) (n : ℕ) (x : Item) : (Device.stopItem d n x).causes = d.causes := by
  unfold Device.stopItem
  (repeat' split) <;> simp_all

@[simp] theorem Device.stopItem_rng (d : Device) (n : ℕ) (x : Item) : (Device.stopItem d n x).rng = d.rng := by
  unfold Device.stopItem
  (repeat' split) <;> simp_all

@[simp] theorem Device.stopItem_power (d : Device) (n : ℕ) (x : Item) : (Device.stopItem d n x).power = d.power := by
  unfold Device.stopItem
  (repeat' split) <;> simp_all

@[simp] theorem Device.stopItem_pins (d : Device) (n : ℕ) (x : Item) : (Device.stopItem d n x).pins = d.pins := by
  unfold Device.stopItem
  (repeat' split) <;> simp_all

@[simp] theorem Device.burnJoins_units (d : Device) : (Device.burnJoins d).units = d.units := by
  unfold Device.burnJoins
  (repeat' split) <;> simp_all

@[simp] theorem Device.burnJoins_keys (d : Device) : (Device.burnJoins d).keys = d.keys := by
  unfold Device.burnJoins
  (repeat' split) <;> simp_all

@[simp] theorem Device.burnJoins_store (d : Device) : (Device.burnJoins d).store = d.store := by
  unfold Device.burnJoins
  (repeat' split) <;> simp_all

@[simp] theorem Device.burnJoins_dom (d : Device) : (Device.burnJoins d).dom = d.dom := by
  unfold Device.burnJoins
  (repeat' split) <;> simp_all

@[simp] theorem Device.burnJoins_cust (d : Device) : (Device.burnJoins d).cust = d.cust := by
  unfold Device.burnJoins
  (repeat' split) <;> simp_all

@[simp] theorem Device.burnJoins_tamp (d : Device) : (Device.burnJoins d).tamp = d.tamp := by
  unfold Device.burnJoins
  (repeat' split) <;> simp_all

@[simp] theorem Device.burnJoins_sources (d : Device) : (Device.burnJoins d).sources = d.sources := by
  unfold Device.burnJoins
  (repeat' split) <;> simp_all

@[simp] theorem Device.burnJoins_causes (d : Device) : (Device.burnJoins d).causes = d.causes := by
  unfold Device.burnJoins
  (repeat' split) <;> simp_all

@[simp] theorem Device.burnJoins_rng (d : Device) : (Device.burnJoins d).rng = d.rng := by
  unfold Device.burnJoins
  (repeat' split) <;> simp_all

@[simp] theorem Device.burnJoins_power (d : Device) : (Device.burnJoins d).power = d.power := by
  unfold Device.burnJoins
  (repeat' split) <;> simp_all

@[simp] theorem Device.burnJoins_pins (d : Device) : (Device.burnJoins d).pins = d.pins := by
  unfold Device.burnJoins
  (repeat' split) <;> simp_all

@[simp] theorem Device.startBurn_units (d : Device) : (Device.startBurn d).units = d.units := by
  unfold Device.startBurn
  (repeat' split) <;> (try simp_all) <;> repeat' (first | split | intro _ | simp_all)

@[simp] theorem Device.startBurn_keys (d : Device) : (Device.startBurn d).keys = d.keys := by
  unfold Device.startBurn
  (repeat' split) <;> (try simp_all) <;> repeat' (first | split | intro _ | simp_all)

@[simp] theorem Device.startBurn_store (d : Device) : (Device.startBurn d).store = d.store := by
  unfold Device.startBurn
  (repeat' split) <;> (try simp_all) <;> repeat' (first | split | intro _ | simp_all)

@[simp] theorem Device.startBurn_dom (d : Device) : (Device.startBurn d).dom = d.dom := by
  unfold Device.startBurn
  (repeat' split) <;> (try simp_all) <;> repeat' (first | split | intro _ | simp_all)

@[simp] theorem Device.startBurn_cust (d : Device) : (Device.startBurn d).cust = d.cust := by
  unfold Device.startBurn
  (repeat' split) <;> (try simp_all) <;> repeat' (first | split | intro _ | simp_all)

@[simp] theorem Device.startBurn_sources (d : Device) : (Device.startBurn d).sources = d.sources := by
  unfold Device.startBurn
  (repeat' split) <;> (try simp_all) <;> repeat' (first | split | intro _ | simp_all)

@[simp] theorem Device.startBurn_causes (d : Device) : (Device.startBurn d).causes = d.causes := by
  unfold Device.startBurn
  (repeat' split) <;> (try simp_all) <;> repeat' (first | split | intro _ | simp_all)

@[simp] theorem Device.startBurn_rng (d : Device) : (Device.startBurn d).rng = d.rng := by
  unfold Device.startBurn
  (repeat' split) <;> (try simp_all) <;> repeat' (first | split | intro _ | simp_all)

@[simp] theorem Device.startBurn_power (d : Device) : (Device.startBurn d).power = d.power := by
  unfold Device.startBurn
  (repeat' split) <;> (try simp_all) <;> repeat' (first | split | intro _ | simp_all)

@[simp] theorem Device.startBurn_pins (d : Device) : (Device.startBurn d).pins = d.pins := by
  unfold Device.startBurn
  (repeat' split) <;> (try simp_all) <;> repeat' (first | split | intro _ | simp_all)

@[simp] theorem Device.stageRecord_units (raise : Device → ℕ → Device) (d : Device) (r : TampRec) (hraise : ∀ x0 x1, (raise x0 x1).units = x0.units): (Device.stageRecord raise d r).units = d.units := by
  unfold Device.stageRecord
  (repeat' split) <;> simp_all

@[simp] theorem Device.stageRecord_keys (raise : Device → ℕ → Device) (d : Device) (r : TampRec) (hraise : ∀ x0 x1, (raise x0 x1).keys = x0.keys): (Device.stageRecord raise d r).keys = d.keys := by
  unfold Device.stageRecord
  (repeat' split) <;> simp_all

@[simp] theorem Device.stageRecord_store (raise : Device → ℕ → Device) (d : Device) (r : TampRec) (hraise : ∀ x0 x1, (raise x0 x1).store = x0.store): (Device.stageRecord raise d r).store = d.store := by
  unfold Device.stageRecord
  (repeat' split) <;> simp_all

@[simp] theorem Device.stageRecord_dom (raise : Device → ℕ → Device) (d : Device) (r : TampRec) (hraise : ∀ x0 x1, (raise x0 x1).dom = x0.dom): (Device.stageRecord raise d r).dom = d.dom := by
  unfold Device.stageRecord
  (repeat' split) <;> simp_all

@[simp] theorem Device.stageRecord_cust (raise : Device → ℕ → Device) (d : Device) (r : TampRec) (hraise : ∀ x0 x1, (raise x0 x1).cust = x0.cust): (Device.stageRecord raise d r).cust = d.cust := by
  unfold Device.stageRecord
  (repeat' split) <;> simp_all

@[simp] theorem Device.stageRecord_sources (raise : Device → ℕ → Device) (d : Device) (r : TampRec) (hraise : ∀ x0 x1, (raise x0 x1).sources = x0.sources): (Device.stageRecord raise d r).sources = d.sources := by
  unfold Device.stageRecord
  (repeat' split) <;> simp_all

@[simp] theorem Device.stageRecord_causes (raise : Device → ℕ → Device) (d : Device) (r : TampRec) (hraise : ∀ x0 x1, (raise x0 x1).causes = x0.causes): (Device.stageRecord raise d r).causes = d.causes := by
  unfold Device.stageRecord
  (repeat' split) <;> simp_all

@[simp] theorem Device.stageRecord_rng (raise : Device → ℕ → Device) (d : Device) (r : TampRec) (hraise : ∀ x0 x1, (raise x0 x1).rng = x0.rng): (Device.stageRecord raise d r).rng = d.rng := by
  unfold Device.stageRecord
  (repeat' split) <;> simp_all

@[simp] theorem Device.stageRecord_power (raise : Device → ℕ → Device) (d : Device) (r : TampRec) (hraise : ∀ x0 x1, (raise x0 x1).power = x0.power): (Device.stageRecord raise d r).power = d.power := by
  unfold Device.stageRecord
  (repeat' split) <;> simp_all

@[simp] theorem Device.stageRecord_pins (raise : Device → ℕ → Device) (d : Device) (r : TampRec) (hraise : ∀ x0 x1, (raise x0 x1).pins = x0.pins): (Device.stageRecord raise d r).pins = d.pins := by
  unfold Device.stageRecord
  (repeat' split) <;> simp_all

@[simp] theorem Device.stick_units (d : Device) (i : ℕ) : (Device.stick d i).units = d.units := by
  unfold Device.stick
  simp_all

@[simp] theorem Device.stick_keys (d : Device) (i : ℕ) : (Device.stick d i).keys = d.keys := by
  unfold Device.stick
  simp_all

@[simp] theorem Device.stick_store (d : Device) (i : ℕ) : (Device.stick d i).store = d.store := by
  unfold Device.stick
  simp_all

@[simp] theorem Device.stick_dom (d : Device) (i : ℕ) : (Device.stick d i).dom = d.dom := by
  unfold Device.stick
  simp_all

@[simp] theorem Device.stick_cust (d : Device) (i : ℕ) : (Device.stick d i).cust = d.cust := by
  unfold Device.stick
  simp_all

@[simp] theorem Device.stick_sources (d : Device) (i : ℕ) : (Device.stick d i).sources = d.sources := by
  unfold Device.stick
  simp_all

@[simp] theorem Device.stick_causes (d : Device) (i : ℕ) : (Device.stick d i).causes = d.causes := by
  unfold Device.stick
  simp_all

@[simp] theorem Device.stick_rng (d : Device) (i : ℕ) : (Device.stick d i).rng = d.rng := by
  unfold Device.stick
  simp_all

@[simp] theorem Device.stick_power (d : Device) (i : ℕ) : (Device.stick d i).power = d.power := by
  unfold Device.stick
  simp_all

@[simp] theorem Device.stick_pins (d : Device) (i : ℕ) : (Device.stick d i).pins = d.pins := by
  unfold Device.stick
  simp_all

@[simp] theorem Device.setRootClass_units (d : Device) (c : ℕ) : (Device.setRootClass d c).units = d.units := by
  unfold Device.setRootClass
  (repeat' split) <;> simp_all

@[simp] theorem Device.setRootClass_store (d : Device) (c : ℕ) : (Device.setRootClass d c).store = d.store := by
  unfold Device.setRootClass
  (repeat' split) <;> simp_all

@[simp] theorem Device.setRootClass_dom (d : Device) (c : ℕ) : (Device.setRootClass d c).dom = d.dom := by
  unfold Device.setRootClass
  (repeat' split) <;> simp_all

@[simp] theorem Device.setRootClass_cust (d : Device) (c : ℕ) : (Device.setRootClass d c).cust = d.cust := by
  unfold Device.setRootClass
  (repeat' split) <;> simp_all

@[simp] theorem Device.setRootClass_tamp (d : Device) (c : ℕ) : (Device.setRootClass d c).tamp = d.tamp := by
  unfold Device.setRootClass
  (repeat' split) <;> simp_all

@[simp] theorem Device.setRootClass_sources (d : Device) (c : ℕ) : (Device.setRootClass d c).sources = d.sources := by
  unfold Device.setRootClass
  (repeat' split) <;> simp_all

@[simp] theorem Device.setRootClass_causes (d : Device) (c : ℕ) : (Device.setRootClass d c).causes = d.causes := by
  unfold Device.setRootClass
  (repeat' split) <;> simp_all

@[simp] theorem Device.setRootClass_rng (d : Device) (c : ℕ) : (Device.setRootClass d c).rng = d.rng := by
  unfold Device.setRootClass
  (repeat' split) <;> simp_all

@[simp] theorem Device.setRootClass_power (d : Device) (c : ℕ) : (Device.setRootClass d c).power = d.power := by
  unfold Device.setRootClass
  (repeat' split) <;> simp_all

@[simp] theorem Device.setRootClass_pins (d : Device) (c : ℕ) : (Device.setRootClass d c).pins = d.pins := by
  unfold Device.setRootClass
  (repeat' split) <;> simp_all

@[simp] theorem Device.squashAll_units (d : Device) : (Device.squashAll d).units = d.units := by
  unfold Device.squashAll
  simp_all

@[simp] theorem Device.squashAll_keys (d : Device) : (Device.squashAll d).keys = d.keys := by
  unfold Device.squashAll
  simp_all

@[simp] theorem Device.squashAll_store (d : Device) : (Device.squashAll d).store = d.store := by
  unfold Device.squashAll
  simp_all

@[simp] theorem Device.squashAll_dom (d : Device) : (Device.squashAll d).dom = d.dom := by
  unfold Device.squashAll
  simp_all

@[simp] theorem Device.squashAll_cust (d : Device) : (Device.squashAll d).cust = d.cust := by
  unfold Device.squashAll
  simp_all

@[simp] theorem Device.squashAll_tamp (d : Device) : (Device.squashAll d).tamp = d.tamp := by
  unfold Device.squashAll
  simp_all

@[simp] theorem Device.squashAll_sources (d : Device) : (Device.squashAll d).sources = d.sources := by
  unfold Device.squashAll
  simp_all

@[simp] theorem Device.squashAll_causes (d : Device) : (Device.squashAll d).causes = d.causes := by
  unfold Device.squashAll
  simp_all

@[simp] theorem Device.squashAll_rng (d : Device) : (Device.squashAll d).rng = d.rng := by
  unfold Device.squashAll
  simp_all

@[simp] theorem Device.squashAll_power (d : Device) : (Device.squashAll d).power = d.power := by
  unfold Device.squashAll
  simp_all

@[simp] theorem Device.squashAll_pins (d : Device) : (Device.squashAll d).pins = d.pins := by
  unfold Device.squashAll
  simp_all

@[simp] theorem Device.setSource_units (d : Device) (s : ℕ) (x : Source) : (Device.setSource d s x).units = d.units := by
  unfold Device.setSource
  simp_all

@[simp] theorem Device.setSource_keys (d : Device) (s : ℕ) (x : Source) : (Device.setSource d s x).keys = d.keys := by
  unfold Device.setSource
  simp_all

@[simp] theorem Device.setSource_store (d : Device) (s : ℕ) (x : Source) : (Device.setSource d s x).store = d.store := by
  unfold Device.setSource
  simp_all

@[simp] theorem Device.setSource_dom (d : Device) (s : ℕ) (x : Source) : (Device.setSource d s x).dom = d.dom := by
  unfold Device.setSource
  simp_all

@[simp] theorem Device.setSource_cust (d : Device) (s : ℕ) (x : Source) : (Device.setSource d s x).cust = d.cust := by
  unfold Device.setSource
  simp_all

@[simp] theorem Device.setSource_tamp (d : Device) (s : ℕ) (x : Source) : (Device.setSource d s x).tamp = d.tamp := by
  unfold Device.setSource
  simp_all

@[simp] theorem Device.setSource_causes (d : Device) (s : ℕ) (x : Source) : (Device.setSource d s x).causes = d.causes := by
  unfold Device.setSource
  simp_all

@[simp] theorem Device.setSource_rng (d : Device) (s : ℕ) (x : Source) : (Device.setSource d s x).rng = d.rng := by
  unfold Device.setSource
  simp_all

@[simp] theorem Device.setSource_power (d : Device) (s : ℕ) (x : Source) : (Device.setSource d s x).power = d.power := by
  unfold Device.setSource
  simp_all

@[simp] theorem Device.setSource_pins (d : Device) (s : ℕ) (x : Source) : (Device.setSource d s x).pins = d.pins := by
  unfold Device.setSource
  simp_all

@[simp] theorem Device.highWater_units (d : Device) (s : ℕ) (sev : ℕ) : (Device.highWater d s sev).units = d.units := by
  unfold Device.highWater
  (try simp_all) <;> repeat' (first | split | intro _ | simp_all)

@[simp] theorem Device.highWater_keys (d : Device) (s : ℕ) (sev : ℕ) : (Device.highWater d s sev).keys = d.keys := by
  unfold Device.highWater
  (try simp_all) <;> repeat' (first | split | intro _ | simp_all)

@[simp] theorem Device.highWater_store (d : Device) (s : ℕ) (sev : ℕ) : (Device.highWater d s sev).store = d.store := by
  unfold Device.highWater
  (try simp_all) <;> repeat' (first | split | intro _ | simp_all)

@[simp] theorem Device.highWater_dom (d : Device) (s : ℕ) (sev : ℕ) : (Device.highWater d s sev).dom = d.dom := by
  unfold Device.highWater
  (try simp_all) <;> repeat' (first | split | intro _ | simp_all)

@[simp] theorem Device.highWater_cust (d : Device) (s : ℕ) (sev : ℕ) : (Device.highWater d s sev).cust = d.cust := by
  unfold Device.highWater
  (try simp_all) <;> repeat' (first | split | intro _ | simp_all)

@[simp] theorem Device.highWater_tamp (d : Device) (s : ℕ) (sev : ℕ) : (Device.highWater d s sev).tamp = d.tamp := by
  unfold Device.highWater
  (try simp_all) <;> repeat' (first | split | intro _ | simp_all)

@[simp] theorem Device.highWater_sources (d : Device) (s : ℕ) (sev : ℕ) : (Device.highWater d s sev).sources = d.sources := by
  unfold Device.highWater
  (try simp_all) <;> repeat' (first | split | intro _ | simp_all)

@[simp] theorem Device.highWater_causes (d : Device) (s : ℕ) (sev : ℕ) : (Device.highWater d s sev).causes = d.causes := by
  unfold Device.highWater
  (try simp_all) <;> repeat' (first | split | intro _ | simp_all)

@[simp] theorem Device.highWater_rng (d : Device) (s : ℕ) (sev : ℕ) : (Device.highWater d s sev).rng = d.rng := by
  unfold Device.highWater
  (try simp_all) <;> repeat' (first | split | intro _ | simp_all)

@[simp] theorem Device.highWater_power (d : Device) (s : ℕ) (sev : ℕ) : (Device.highWater d s sev).power = d.power := by
  unfold Device.highWater
  (try simp_all) <;> repeat' (first | split | intro _ | simp_all)

@[simp] theorem Device.highWater_pins (d : Device) (s : ℕ) (sev : ℕ) : (Device.highWater d s sev).pins = d.pins := by
  unfold Device.highWater
  (try simp_all) <;> repeat' (first | split | intro _ | simp_all)

@[simp] theorem Device.recordEvent_units (d : Device) (s : ℕ) : (Device.recordEvent d s).1.units = d.units := by
  unfold Device.recordEvent
  (repeat' split) <;> simp_all

@[simp] theorem Device.recordEvent_keys (d : Device) (s : ℕ) : (Device.recordEvent d s).1.keys = d.keys := by
  unfold Device.recordEvent
  (repeat' split) <;> simp_all

@[simp] theorem Device.recordEvent_store (d : Device) (s : ℕ) : (Device.recordEvent d s).1.store = d.store := by
  unfold Device.recordEvent
  (repeat' split) <;> simp_all

@[simp] theorem Device.recordEvent_dom (d : Device) (s : ℕ) : (Device.recordEvent d s).1.dom = d.dom := by
  unfold Device.recordEvent
  (repeat' split) <;> simp_all

@[simp] theorem Device.recordEvent_cust (d : Device) (s : ℕ) : (Device.recordEvent d s).1.cust = d.cust := by
  unfold Device.recordEvent
  (repeat' split) <;> simp_all

@[simp] theorem Device.recordEvent_causes (d : Device) (s : ℕ) : (Device.recordEvent d s).1.causes = d.causes := by
  unfold Device.recordEvent
  (repeat' split) <;> simp_all

@[simp] theorem Device.recordEvent_rng (d : Device) (s : ℕ) : (Device.recordEvent d s).1.rng = d.rng := by
  unfold Device.recordEvent
  (repeat' split) <;> simp_all

@[simp] theorem Device.recordEvent_power (d : Device) (s : ℕ) : (Device.recordEvent d s).1.power = d.power := by
  unfold Device.recordEvent
  (repeat' split) <;> simp_all

@[simp] theorem Device.holdCause_units (d : Device) (s : ℕ) (held : Bool) : (Device.holdCause d s held).units = d.units := by
  unfold Device.holdCause
  (repeat' split) <;> simp_all

@[simp] theorem Device.holdCause_keys (d : Device) (s : ℕ) (held : Bool) : (Device.holdCause d s held).keys = d.keys := by
  unfold Device.holdCause
  (repeat' split) <;> simp_all

@[simp] theorem Device.holdCause_store (d : Device) (s : ℕ) (held : Bool) : (Device.holdCause d s held).store = d.store := by
  unfold Device.holdCause
  (repeat' split) <;> simp_all

@[simp] theorem Device.holdCause_dom (d : Device) (s : ℕ) (held : Bool) : (Device.holdCause d s held).dom = d.dom := by
  unfold Device.holdCause
  (repeat' split) <;> simp_all

@[simp] theorem Device.holdCause_cust (d : Device) (s : ℕ) (held : Bool) : (Device.holdCause d s held).cust = d.cust := by
  unfold Device.holdCause
  (repeat' split) <;> simp_all

@[simp] theorem Device.holdCause_tamp (d : Device) (s : ℕ) (held : Bool) : (Device.holdCause d s held).tamp = d.tamp := by
  unfold Device.holdCause
  (repeat' split) <;> simp_all

@[simp] theorem Device.holdCause_sources (d : Device) (s : ℕ) (held : Bool) : (Device.holdCause d s held).sources = d.sources := by
  unfold Device.holdCause
  (repeat' split) <;> simp_all

@[simp] theorem Device.holdCause_rng (d : Device) (s : ℕ) (held : Bool) : (Device.holdCause d s held).rng = d.rng := by
  unfold Device.holdCause
  (repeat' split) <;> simp_all

@[simp] theorem Device.holdCause_power (d : Device) (s : ℕ) (held : Bool) : (Device.holdCause d s held).power = d.power := by
  unfold Device.holdCause
  (repeat' split) <;> simp_all

@[simp] theorem Device.holdCause_pins (d : Device) (s : ℕ) (held : Bool) : (Device.holdCause d s held).pins = d.pins := by
  unfold Device.holdCause
  (repeat' split) <;> simp_all

@[simp] theorem Device.noteWrite_units (d : Device) (a : ℕ) : (Device.noteWrite d a).units = d.units := rfl

@[simp] theorem Device.noteWrite_keys (d : Device) (a : ℕ) : (Device.noteWrite d a).keys = d.keys := rfl

@[simp] theorem Device.noteWrite_store (d : Device) (a : ℕ) : (Device.noteWrite d a).store = d.store := rfl

@[simp] theorem Device.noteWrite_dom (d : Device) (a : ℕ) : (Device.noteWrite d a).dom = d.dom := rfl

@[simp] theorem Device.noteWrite_cust (d : Device) (a : ℕ) : (Device.noteWrite d a).cust = d.cust := rfl

@[simp] theorem Device.noteWrite_tamp (d : Device) (a : ℕ) : (Device.noteWrite d a).tamp = d.tamp := rfl

@[simp] theorem Device.noteWrite_sources (d : Device) (a : ℕ) : (Device.noteWrite d a).sources = d.sources := rfl

@[simp] theorem Device.noteWrite_causes (d : Device) (a : ℕ) : (Device.noteWrite d a).causes = d.causes := rfl

@[simp] theorem Device.noteWrite_rng (d : Device) (a : ℕ) : (Device.noteWrite d a).rng = d.rng := rfl

@[simp] theorem Device.noteWrite_power (d : Device) (a : ℕ) : (Device.noteWrite d a).power = d.power := rfl

@[simp] theorem Device.noteWrite_pins (d : Device) (a : ℕ) : (Device.noteWrite d a).pins = d.pins := rfl

@[simp] theorem Device.noteReturn_units (d : Device) (lo hi : ℕ) : (Device.noteReturn d lo hi).units = d.units := by
  unfold Device.noteReturn
  simp

@[simp] theorem Device.noteReturn_keys (d : Device) (lo hi : ℕ) : (Device.noteReturn d lo hi).keys = d.keys := by
  unfold Device.noteReturn
  simp

@[simp] theorem Device.noteReturn_store (d : Device) (lo hi : ℕ) : (Device.noteReturn d lo hi).store = d.store := by
  unfold Device.noteReturn
  simp

@[simp] theorem Device.noteReturn_dom (d : Device) (lo hi : ℕ) : (Device.noteReturn d lo hi).dom = d.dom := by
  unfold Device.noteReturn
  simp

@[simp] theorem Device.noteReturn_cust (d : Device) (lo hi : ℕ) : (Device.noteReturn d lo hi).cust = d.cust := by
  unfold Device.noteReturn
  simp

@[simp] theorem Device.noteReturn_tamp (d : Device) (lo hi : ℕ) : (Device.noteReturn d lo hi).tamp = d.tamp := by
  unfold Device.noteReturn
  simp

@[simp] theorem Device.noteReturn_sources (d : Device) (lo hi : ℕ) : (Device.noteReturn d lo hi).sources = d.sources := by
  unfold Device.noteReturn
  simp

@[simp] theorem Device.noteReturn_causes (d : Device) (lo hi : ℕ) : (Device.noteReturn d lo hi).causes = d.causes := by
  unfold Device.noteReturn
  simp

@[simp] theorem Device.noteReturn_rng (d : Device) (lo hi : ℕ) : (Device.noteReturn d lo hi).rng = d.rng := by
  unfold Device.noteReturn
  simp

@[simp] theorem Device.noteReturn_power (d : Device) (lo hi : ℕ) : (Device.noteReturn d lo hi).power = d.power := by
  unfold Device.noteReturn
  simp

@[simp] theorem Device.noteReturn_pins (d : Device) (lo hi : ℕ) : (Device.noteReturn d lo hi).pins = d.pins := by
  unfold Device.noteReturn
  simp

@[simp] theorem Device.onCommand_units (d : Device) (a : ℕ) (f : Device → Device) (hf : ∀ x0, (f x0).units = x0.units): (Device.onCommand d a f).units = d.units := by
  unfold Device.onCommand
  (repeat' split) <;> simp_all

@[simp] theorem Device.onCommand_keys (d : Device) (a : ℕ) (f : Device → Device) (hf : ∀ x0, (f x0).keys = x0.keys): (Device.onCommand d a f).keys = d.keys := by
  unfold Device.onCommand
  (repeat' split) <;> simp_all

@[simp] theorem Device.onCommand_store (d : Device) (a : ℕ) (f : Device → Device) (hf : ∀ x0, (f x0).store = x0.store): (Device.onCommand d a f).store = d.store := by
  unfold Device.onCommand
  (repeat' split) <;> simp_all

@[simp] theorem Device.onCommand_dom (d : Device) (a : ℕ) (f : Device → Device) (hf : ∀ x0, (f x0).dom = x0.dom): (Device.onCommand d a f).dom = d.dom := by
  unfold Device.onCommand
  (repeat' split) <;> simp_all

@[simp] theorem Device.onCommand_cust (d : Device) (a : ℕ) (f : Device → Device) (hf : ∀ x0, (f x0).cust = x0.cust): (Device.onCommand d a f).cust = d.cust := by
  unfold Device.onCommand
  (repeat' split) <;> simp_all

@[simp] theorem Device.onCommand_tamp (d : Device) (a : ℕ) (f : Device → Device) (hf : ∀ x0, (f x0).tamp = x0.tamp): (Device.onCommand d a f).tamp = d.tamp := by
  unfold Device.onCommand
  (repeat' split) <;> simp_all

@[simp] theorem Device.onCommand_sources (d : Device) (a : ℕ) (f : Device → Device) (hf : ∀ x0, (f x0).sources = x0.sources): (Device.onCommand d a f).sources = d.sources := by
  unfold Device.onCommand
  (repeat' split) <;> simp_all

@[simp] theorem Device.onCommand_causes (d : Device) (a : ℕ) (f : Device → Device) (hf : ∀ x0, (f x0).causes = x0.causes): (Device.onCommand d a f).causes = d.causes := by
  unfold Device.onCommand
  (repeat' split) <;> simp_all

@[simp] theorem Device.onCommand_rng (d : Device) (a : ℕ) (f : Device → Device) (hf : ∀ x0, (f x0).rng = x0.rng): (Device.onCommand d a f).rng = d.rng := by
  unfold Device.onCommand
  (repeat' split) <;> simp_all

@[simp] theorem Device.onCommand_power (d : Device) (a : ℕ) (f : Device → Device) (hf : ∀ x0, (f x0).power = x0.power): (Device.onCommand d a f).power = d.power := by
  unfold Device.onCommand
  (repeat' split) <;> simp_all

@[simp] theorem Device.onCommand_pins (d : Device) (a : ℕ) (f : Device → Device) (hf : ∀ x0, (f x0).pins = x0.pins): (Device.onCommand d a f).pins = d.pins := by
  unfold Device.onCommand
  (repeat' split) <;> simp_all

@[simp] theorem Device.onWrite_units (d : Device) (a : ℕ) (f : Device → Device) (hf : ∀ x0, (f x0).units = x0.units): (Device.onWrite d a f).units = d.units := by
  unfold Device.onWrite
  (repeat' split) <;> simp_all

@[simp] theorem Device.onWrite_keys (d : Device) (a : ℕ) (f : Device → Device) (hf : ∀ x0, (f x0).keys = x0.keys): (Device.onWrite d a f).keys = d.keys := by
  unfold Device.onWrite
  (repeat' split) <;> simp_all

@[simp] theorem Device.onWrite_store (d : Device) (a : ℕ) (f : Device → Device) (hf : ∀ x0, (f x0).store = x0.store): (Device.onWrite d a f).store = d.store := by
  unfold Device.onWrite
  (repeat' split) <;> simp_all

@[simp] theorem Device.onWrite_dom (d : Device) (a : ℕ) (f : Device → Device) (hf : ∀ x0, (f x0).dom = x0.dom): (Device.onWrite d a f).dom = d.dom := by
  unfold Device.onWrite
  (repeat' split) <;> simp_all

@[simp] theorem Device.onWrite_cust (d : Device) (a : ℕ) (f : Device → Device) (hf : ∀ x0, (f x0).cust = x0.cust): (Device.onWrite d a f).cust = d.cust := by
  unfold Device.onWrite
  (repeat' split) <;> simp_all

@[simp] theorem Device.onWrite_tamp (d : Device) (a : ℕ) (f : Device → Device) (hf : ∀ x0, (f x0).tamp = x0.tamp): (Device.onWrite d a f).tamp = d.tamp := by
  unfold Device.onWrite
  (repeat' split) <;> simp_all

@[simp] theorem Device.onWrite_sources (d : Device) (a : ℕ) (f : Device → Device) (hf : ∀ x0, (f x0).sources = x0.sources): (Device.onWrite d a f).sources = d.sources := by
  unfold Device.onWrite
  (repeat' split) <;> simp_all

@[simp] theorem Device.onWrite_causes (d : Device) (a : ℕ) (f : Device → Device) (hf : ∀ x0, (f x0).causes = x0.causes): (Device.onWrite d a f).causes = d.causes := by
  unfold Device.onWrite
  (repeat' split) <;> simp_all

@[simp] theorem Device.onWrite_rng (d : Device) (a : ℕ) (f : Device → Device) (hf : ∀ x0, (f x0).rng = x0.rng): (Device.onWrite d a f).rng = d.rng := by
  unfold Device.onWrite
  (repeat' split) <;> simp_all

@[simp] theorem Device.onWrite_power (d : Device) (a : ℕ) (f : Device → Device) (hf : ∀ x0, (f x0).power = x0.power): (Device.onWrite d a f).power = d.power := by
  unfold Device.onWrite
  (repeat' split) <;> simp_all

@[simp] theorem Device.onWrite_pins (d : Device) (a : ℕ) (f : Device → Device) (hf : ∀ x0, (f x0).pins = x0.pins): (Device.onWrite d a f).pins = d.pins := by
  unfold Device.onWrite
  (repeat' split) <;> simp_all

@[simp] theorem Device.onIdle_units (d : Device) (a : ℕ) (req : ℕ) (busy : ℕ) (f : Device → Device) (hf : ∀ x0, (f x0).units = x0.units): (Device.onIdle d a req busy f).units = d.units := by
  unfold Device.onIdle
  simp_all

@[simp] theorem Device.onIdle_keys (d : Device) (a : ℕ) (req : ℕ) (busy : ℕ) (f : Device → Device) (hf : ∀ x0, (f x0).keys = x0.keys): (Device.onIdle d a req busy f).keys = d.keys := by
  unfold Device.onIdle
  simp_all

@[simp] theorem Device.onIdle_store (d : Device) (a : ℕ) (req : ℕ) (busy : ℕ) (f : Device → Device) (hf : ∀ x0, (f x0).store = x0.store): (Device.onIdle d a req busy f).store = d.store := by
  unfold Device.onIdle
  simp_all

@[simp] theorem Device.onIdle_dom (d : Device) (a : ℕ) (req : ℕ) (busy : ℕ) (f : Device → Device) (hf : ∀ x0, (f x0).dom = x0.dom): (Device.onIdle d a req busy f).dom = d.dom := by
  unfold Device.onIdle
  simp_all

@[simp] theorem Device.onIdle_cust (d : Device) (a : ℕ) (req : ℕ) (busy : ℕ) (f : Device → Device) (hf : ∀ x0, (f x0).cust = x0.cust): (Device.onIdle d a req busy f).cust = d.cust := by
  unfold Device.onIdle
  simp_all

@[simp] theorem Device.onIdle_tamp (d : Device) (a : ℕ) (req : ℕ) (busy : ℕ) (f : Device → Device) (hf : ∀ x0, (f x0).tamp = x0.tamp): (Device.onIdle d a req busy f).tamp = d.tamp := by
  unfold Device.onIdle
  simp_all

@[simp] theorem Device.onIdle_sources (d : Device) (a : ℕ) (req : ℕ) (busy : ℕ) (f : Device → Device) (hf : ∀ x0, (f x0).sources = x0.sources): (Device.onIdle d a req busy f).sources = d.sources := by
  unfold Device.onIdle
  simp_all

@[simp] theorem Device.onIdle_causes (d : Device) (a : ℕ) (req : ℕ) (busy : ℕ) (f : Device → Device) (hf : ∀ x0, (f x0).causes = x0.causes): (Device.onIdle d a req busy f).causes = d.causes := by
  unfold Device.onIdle
  simp_all

@[simp] theorem Device.onIdle_rng (d : Device) (a : ℕ) (req : ℕ) (busy : ℕ) (f : Device → Device) (hf : ∀ x0, (f x0).rng = x0.rng): (Device.onIdle d a req busy f).rng = d.rng := by
  unfold Device.onIdle
  simp_all

@[simp] theorem Device.onIdle_power (d : Device) (a : ℕ) (req : ℕ) (busy : ℕ) (f : Device → Device) (hf : ∀ x0, (f x0).power = x0.power): (Device.onIdle d a req busy f).power = d.power := by
  unfold Device.onIdle
  simp_all

@[simp] theorem Device.onIdle_pins (d : Device) (a : ℕ) (req : ℕ) (busy : ℕ) (f : Device → Device) (hf : ∀ x0, (f x0).pins = x0.pins): (Device.onIdle d a req busy f).pins = d.pins := by
  unfold Device.onIdle
  simp_all

@[simp] theorem Device.w1c_units (d : Device) (a : ℕ) (m : ℕ) : (Device.w1c d a m).units = d.units := by
  unfold Device.w1c
  simp_all

@[simp] theorem Device.w1c_keys (d : Device) (a : ℕ) (m : ℕ) : (Device.w1c d a m).keys = d.keys := by
  unfold Device.w1c
  simp_all

@[simp] theorem Device.w1c_store (d : Device) (a : ℕ) (m : ℕ) : (Device.w1c d a m).store = d.store := by
  unfold Device.w1c
  simp_all

@[simp] theorem Device.w1c_dom (d : Device) (a : ℕ) (m : ℕ) : (Device.w1c d a m).dom = d.dom := by
  unfold Device.w1c
  simp_all

@[simp] theorem Device.w1c_cust (d : Device) (a : ℕ) (m : ℕ) : (Device.w1c d a m).cust = d.cust := by
  unfold Device.w1c
  simp_all

@[simp] theorem Device.w1c_tamp (d : Device) (a : ℕ) (m : ℕ) : (Device.w1c d a m).tamp = d.tamp := by
  unfold Device.w1c
  simp_all

@[simp] theorem Device.w1c_sources (d : Device) (a : ℕ) (m : ℕ) : (Device.w1c d a m).sources = d.sources := by
  unfold Device.w1c
  simp_all

@[simp] theorem Device.w1c_causes (d : Device) (a : ℕ) (m : ℕ) : (Device.w1c d a m).causes = d.causes := by
  unfold Device.w1c
  simp_all

@[simp] theorem Device.w1c_rng (d : Device) (a : ℕ) (m : ℕ) : (Device.w1c d a m).rng = d.rng := by
  unfold Device.w1c
  simp_all

@[simp] theorem Device.w1c_power (d : Device) (a : ℕ) (m : ℕ) : (Device.w1c d a m).power = d.power := by
  unfold Device.w1c
  simp_all

@[simp] theorem Device.w1c_pins (d : Device) (a : ℕ) (m : ℕ) : (Device.w1c d a m).pins = d.pins := by
  unfold Device.w1c
  simp_all

@[simp] theorem Device.softStart_units (d : Device) (base : ℕ) (f : Device → Device) (hf : ∀ x0, (f x0).units = x0.units): (Device.softStart d base f).units = d.units := by
  unfold Device.softStart
  simp_all

@[simp] theorem Device.softStart_keys (d : Device) (base : ℕ) (f : Device → Device) (hf : ∀ x0, (f x0).keys = x0.keys): (Device.softStart d base f).keys = d.keys := by
  unfold Device.softStart
  simp_all

@[simp] theorem Device.softStart_store (d : Device) (base : ℕ) (f : Device → Device) (hf : ∀ x0, (f x0).store = x0.store): (Device.softStart d base f).store = d.store := by
  unfold Device.softStart
  simp_all

@[simp] theorem Device.softStart_dom (d : Device) (base : ℕ) (f : Device → Device) (hf : ∀ x0, (f x0).dom = x0.dom): (Device.softStart d base f).dom = d.dom := by
  unfold Device.softStart
  simp_all

@[simp] theorem Device.softStart_cust (d : Device) (base : ℕ) (f : Device → Device) (hf : ∀ x0, (f x0).cust = x0.cust): (Device.softStart d base f).cust = d.cust := by
  unfold Device.softStart
  simp_all

@[simp] theorem Device.softStart_tamp (d : Device) (base : ℕ) (f : Device → Device) (hf : ∀ x0, (f x0).tamp = x0.tamp): (Device.softStart d base f).tamp = d.tamp := by
  unfold Device.softStart
  simp_all

@[simp] theorem Device.softStart_sources (d : Device) (base : ℕ) (f : Device → Device) (hf : ∀ x0, (f x0).sources = x0.sources): (Device.softStart d base f).sources = d.sources := by
  unfold Device.softStart
  simp_all

@[simp] theorem Device.softStart_causes (d : Device) (base : ℕ) (f : Device → Device) (hf : ∀ x0, (f x0).causes = x0.causes): (Device.softStart d base f).causes = d.causes := by
  unfold Device.softStart
  simp_all

@[simp] theorem Device.softStart_rng (d : Device) (base : ℕ) (f : Device → Device) (hf : ∀ x0, (f x0).rng = x0.rng): (Device.softStart d base f).rng = d.rng := by
  unfold Device.softStart
  simp_all

@[simp] theorem Device.softStart_power (d : Device) (base : ℕ) (f : Device → Device) (hf : ∀ x0, (f x0).power = x0.power): (Device.softStart d base f).power = d.power := by
  unfold Device.softStart
  simp_all

@[simp] theorem Device.softStart_pins (d : Device) (base : ℕ) (f : Device → Device) (hf : ∀ x0, (f x0).pins = x0.pins): (Device.softStart d base f).pins = d.pins := by
  unfold Device.softStart
  simp_all

end Sys2Proof.Machine
end

