-- ==== Sys2Proof/Laws/HostFrames.lean ====
section
/-! SUPPORT. Frames: queue pairs, VFs, items and rings that the shared operations leave alone. -/

namespace Sys2Proof.Machine

@[simp] theorem foldl_front_qps {α : Type} (f : Device → α → Device) (h : ∀ d x, (f d x).front.qps = d.front.qps) (l : List α) (d : Device) :
    (l.foldl f d).front.qps = d.front.qps := by
  induction l generalizing d with
  | nil => rfl
  | cons x l ih => rw [List.foldl_cons, ih, h]

@[simp] theorem ite_front_qps (c : Prop) [Decidable c] (a b : Device) : (if c then a else b).front.qps = if c then a.front.qps else b.front.qps := by
  split <;> rfl

@[simp] theorem foldl_front_vfs {α : Type} (f : Device → α → Device) (h : ∀ d x, (f d x).front.vfs = d.front.vfs) (l : List α) (d : Device) :
    (l.foldl f d).front.vfs = d.front.vfs := by
  induction l generalizing d with
  | nil => rfl
  | cons x l ih => rw [List.foldl_cons, ih, h]

@[simp] theorem ite_front_vfs (c : Prop) [Decidable c] (a b : Device) : (if c then a else b).front.vfs = if c then a.front.vfs else b.front.vfs := by
  split <;> rfl

@[simp] theorem foldl_front_vfEnable {α : Type} (f : Device → α → Device) (h : ∀ d x, (f d x).front.vfEnable = d.front.vfEnable) (l : List α) (d : Device) :
    (l.foldl f d).front.vfEnable = d.front.vfEnable := by
  induction l generalizing d with
  | nil => rfl
  | cons x l ih => rw [List.foldl_cons, ih, h]

@[simp] theorem ite_front_vfEnable (c : Prop) [Decidable c] (a b : Device) : (if c then a else b).front.vfEnable = if c then a.front.vfEnable else b.front.vfEnable := by
  split <;> rfl

@[simp] theorem foldl_front_numVfs {α : Type} (f : Device → α → Device) (h : ∀ d x, (f d x).front.numVfs = d.front.numVfs) (l : List α) (d : Device) :
    (l.foldl f d).front.numVfs = d.front.numVfs := by
  induction l generalizing d with
  | nil => rfl
  | cons x l ih => rw [List.foldl_cons, ih, h]

@[simp] theorem ite_front_numVfs (c : Prop) [Decidable c] (a b : Device) : (if c then a else b).front.numVfs = if c then a.front.numVfs else b.front.numVfs := by
  split <;> rfl

@[simp] theorem foldl_sched {α : Type} (f : Device → α → Device) (h : ∀ d x, (f d x).sched = d.sched) (l : List α) (d : Device) :
    (l.foldl f d).sched = d.sched := by
  induction l generalizing d with
  | nil => rfl
  | cons x l ih => rw [List.foldl_cons, ih, h]

@[simp] theorem ite_sched (c : Prop) [Decidable c] (a b : Device) : (if c then a else b).sched = if c then a.sched else b.sched := by
  split <;> rfl

@[simp] theorem foldl_cycle {α : Type} (f : Device → α → Device) (h : ∀ d x, (f d x).cycle = d.cycle) (l : List α) (d : Device) :
    (l.foldl f d).cycle = d.cycle := by
  induction l generalizing d with
  | nil => rfl
  | cons x l ih => rw [List.foldl_cons, ih, h]

@[simp] theorem ite_cycle (c : Prop) [Decidable c] (a b : Device) : (if c then a else b).cycle = if c then a.cycle else b.cycle := by
  split <;> rfl

@[simp] theorem foldl_rings {α : Type} (f : Device → α → Device) (h : ∀ d x, (f d x).rings = d.rings) (l : List α) (d : Device) :
    (l.foldl f d).rings = d.rings := by
  induction l generalizing d with
  | nil => rfl
  | cons x l ih => rw [List.foldl_cons, ih, h]

@[simp] theorem ite_rings (c : Prop) [Decidable c] (a b : Device) : (if c then a else b).rings = if c then a.rings else b.rings := by
  split <;> rfl

@[simp] theorem foldl_exporting {α : Type} (f : Device → α → Device) (h : ∀ d x, (f d x).exporting = d.exporting) (l : List α) (d : Device) :
    (l.foldl f d).exporting = d.exporting := by
  induction l generalizing d with
  | nil => rfl
  | cons x l ih => rw [List.foldl_cons, ih, h]

@[simp] theorem ite_exporting (c : Prop) [Decidable c] (a b : Device) : (if c then a else b).exporting = if c then a.exporting else b.exporting := by
  split <;> rfl

@[simp] theorem foldl_sched_items {α : Type} (f : Device → α → Device) (h : ∀ d x, (f d x).sched.items = d.sched.items) (l : List α) (d : Device) :
    (l.foldl f d).sched.items = d.sched.items := by
  induction l generalizing d with
  | nil => rfl
  | cons x l ih => rw [List.foldl_cons, ih, h]

@[simp] theorem ite_sched_items (c : Prop) [Decidable c] (a b : Device) : (if c then a else b).sched.items = if c then a.sched.items else b.sched.items := by
  split <;> rfl


@[simp] theorem Device.emit_front_qps (d : Device) (o : Output) : (Device.emit d o).front.qps = d.front.qps := by
  unfold Device.emit
  simp_all

@[simp] theorem Device.emit_front_vfs (d : Device) (o : Output) : (Device.emit d o).front.vfs = d.front.vfs := by
  unfold Device.emit
  simp_all

@[simp] theorem Device.emit_front_vfEnable (d : Device) (o : Output) : (Device.emit d o).front.vfEnable = d.front.vfEnable := by
  unfold Device.emit
  simp_all

@[simp] theorem Device.emit_front_numVfs (d : Device) (o : Output) : (Device.emit d o).front.numVfs = d.front.numVfs := by
  unfold Device.emit
  simp_all

@[simp] theorem Device.emit_sched (d : Device) (o : Output) : (Device.emit d o).sched = d.sched := by
  unfold Device.emit
  simp_all

@[simp] theorem Device.emit_cycle (d : Device) (o : Output) : (Device.emit d o).cycle = d.cycle := by
  unfold Device.emit
  simp_all

@[simp] theorem Device.emit_rings (d : Device) (o : Output) : (Device.emit d o).rings = d.rings := by
  unfold Device.emit
  simp_all

@[simp] theorem Device.emit_exporting (d : Device) (o : Output) : (Device.emit d o).exporting = d.exporting := by
  unfold Device.emit
  simp_all

@[simp] theorem Device.emit_sched_items (d : Device) (o : Output) : (Device.emit d o).sched.items = d.sched.items := by
  unfold Device.emit
  simp_all

@[simp] theorem Device.drawFree_front_qps (d : Device) : (Device.drawFree d).front.qps = d.front.qps := by
  unfold Device.drawFree
  simp_all

@[simp] theorem Device.drawFree_front_vfs (d : Device) : (Device.drawFree d).front.vfs = d.front.vfs := by
  unfold Device.drawFree
  simp_all

@[simp] theorem Device.drawFree_front_vfEnable (d : Device) : (Device.drawFree d).front.vfEnable = d.front.vfEnable := by
  unfold Device.drawFree
  simp_all

@[simp] theorem Device.drawFree_front_numVfs (d : Device) : (Device.drawFree d).front.numVfs = d.front.numVfs := by
  unfold Device.drawFree
  simp_all

@[simp] theorem Device.drawFree_sched (d : Device) : (Device.drawFree d).sched = d.sched := by
  unfold Device.drawFree
  simp_all

@[simp] theorem Device.drawFree_cycle (d : Device) : (Device.drawFree d).cycle = d.cycle := by
  unfold Device.drawFree
  simp_all

@[simp] theorem Device.drawFree_rings (d : Device) : (Device.drawFree d).rings = d.rings := by
  unfold Device.drawFree
  simp_all

@[simp] theorem Device.drawFree_exporting (d : Device) : (Device.drawFree d).exporting = d.exporting := by
  unfold Device.drawFree
  simp_all

@[simp] theorem Device.drawFree_sched_items (d : Device) : (Device.drawFree d).sched.items = d.sched.items := by
  unfold Device.drawFree
  simp_all

@[simp] theorem Device.drawn_front_qps (d : Device) : (Device.drawn d).front.qps = d.front.qps := by
  unfold Device.drawn
  simp_all

@[simp] theorem Device.drawn_front_vfs (d : Device) : (Device.drawn d).front.vfs = d.front.vfs := by
  unfold Device.drawn
  simp_all

@[simp] theorem Device.drawn_front_vfEnable (d : Device) : (Device.drawn d).front.vfEnable = d.front.vfEnable := by
  unfold Device.drawn
  simp_all

@[simp] theorem Device.drawn_front_numVfs (d : Device) : (Device.drawn d).front.numVfs = d.front.numVfs := by
  unfold Device.drawn
  simp_all

@[simp] theorem Device.drawn_sched (d : Device) : (Device.drawn d).sched = d.sched := by
  unfold Device.drawn
  simp_all

@[simp] theorem Device.drawn_cycle (d : Device) : (Device.drawn d).cycle = d.cycle := by
  unfold Device.drawn
  simp_all

@[simp] theorem Device.drawn_rings (d : Device) : (Device.drawn d).rings = d.rings := by
  unfold Device.drawn
  simp_all

@[simp] theorem Device.drawn_exporting (d : Device) : (Device.drawn d).exporting = d.exporting := by
  unfold Device.drawn
  simp_all

@[simp] theorem Device.drawn_sched_items (d : Device) : (Device.drawn d).sched.items = d.sched.items := by
  unfold Device.drawn
  simp_all

@[simp] theorem Device.drawnFor_front_qps (d : Device) (n : ℕ) : (Device.drawnFor d n).front.qps = d.front.qps := by
  unfold Device.drawnFor
  simp

@[simp] theorem Device.drawnFor_front_vfs (d : Device) (n : ℕ) : (Device.drawnFor d n).front.vfs = d.front.vfs := by
  unfold Device.drawnFor
  simp

@[simp] theorem Device.drawnFor_front_vfEnable (d : Device) (n : ℕ) : (Device.drawnFor d n).front.vfEnable = d.front.vfEnable := by
  unfold Device.drawnFor
  simp

@[simp] theorem Device.drawnFor_front_numVfs (d : Device) (n : ℕ) : (Device.drawnFor d n).front.numVfs = d.front.numVfs := by
  unfold Device.drawnFor
  simp

@[simp] theorem Device.drawnFor_sched (d : Device) (n : ℕ) : (Device.drawnFor d n).sched = d.sched := by
  unfold Device.drawnFor
  simp

@[simp] theorem Device.drawnFor_cycle (d : Device) (n : ℕ) : (Device.drawnFor d n).cycle = d.cycle := by
  unfold Device.drawnFor
  simp

@[simp] theorem Device.drawnFor_rings (d : Device) (n : ℕ) : (Device.drawnFor d n).rings = d.rings := by
  unfold Device.drawnFor
  simp

@[simp] theorem Device.drawnFor_exporting (d : Device) (n : ℕ) : (Device.drawnFor d n).exporting = d.exporting := by
  unfold Device.drawnFor
  simp

@[simp] theorem Device.drawnFor_sched_items (d : Device) (n : ℕ) : (Device.drawnFor d n).sched.items = d.sched.items := by
  unfold Device.drawnFor
  simp

@[simp] theorem Device.setReg_front_qps (d : Device) (a : ℕ) (v : ℕ) : (Device.setReg d a v).front.qps = d.front.qps := by
  unfold Device.setReg
  simp_all

@[simp] theorem Device.setReg_front_vfs (d : Device) (a : ℕ) (v : ℕ) : (Device.setReg d a v).front.vfs = d.front.vfs := by
  unfold Device.setReg
  simp_all

@[simp] theorem Device.setReg_front_vfEnable (d : Device) (a : ℕ) (v : ℕ) : (Device.setReg d a v).front.vfEnable = d.front.vfEnable := by
  unfold Device.setReg
  simp_all

@[simp] theorem Device.setReg_front_numVfs (d : Device) (a : ℕ) (v : ℕ) : (Device.setReg d a v).front.numVfs = d.front.numVfs := by
  unfold Device.setReg
  simp_all

@[simp] theorem Device.setReg_sched (d : Device) (a : ℕ) (v : ℕ) : (Device.setReg d a v).sched = d.sched := by
  unfold Device.setReg
  simp_all

@[simp] theorem Device.setReg_cycle (d : Device) (a : ℕ) (v : ℕ) : (Device.setReg d a v).cycle = d.cycle := by
  unfold Device.setReg
  simp_all

@[simp] theorem Device.setReg_rings (d : Device) (a : ℕ) (v : ℕ) : (Device.setReg d a v).rings = d.rings := by
  unfold Device.setReg
  simp_all

@[simp] theorem Device.setReg_exporting (d : Device) (a : ℕ) (v : ℕ) : (Device.setReg d a v).exporting = d.exporting := by
  unfold Device.setReg
  simp_all

@[simp] theorem Device.setReg_sched_items (d : Device) (a : ℕ) (v : ℕ) : (Device.setReg d a v).sched.items = d.sched.items := by
  unfold Device.setReg
  simp_all

@[simp] theorem Device.setField_front_qps (d : Device) (a : ℕ) (hi : ℕ) (lo : ℕ) (v : ℕ) : (Device.setField d a hi lo v).front.qps = d.front.qps := by
  unfold Device.setField
  simp_all

@[simp] theorem Device.setField_front_vfs (d : Device) (a : ℕ) (hi : ℕ) (lo : ℕ) (v : ℕ) : (Device.setField d a hi lo v).front.vfs = d.front.vfs := by
  unfold Device.setField
  simp_all

@[simp] theorem Device.setField_front_vfEnable (d : Device) (a : ℕ) (hi : ℕ) (lo : ℕ) (v : ℕ) : (Device.setField d a hi lo v).front.vfEnable = d.front.vfEnable := by
  unfold Device.setField
  simp_all

@[simp] theorem Device.setField_front_numVfs (d : Device) (a : ℕ) (hi : ℕ) (lo : ℕ) (v : ℕ) : (Device.setField d a hi lo v).front.numVfs = d.front.numVfs := by
  unfold Device.setField
  simp_all

@[simp] theorem Device.setField_sched (d : Device) (a : ℕ) (hi : ℕ) (lo : ℕ) (v : ℕ) : (Device.setField d a hi lo v).sched = d.sched := by
  unfold Device.setField
  simp_all

@[simp] theorem Device.setField_cycle (d : Device) (a : ℕ) (hi : ℕ) (lo : ℕ) (v : ℕ) : (Device.setField d a hi lo v).cycle = d.cycle := by
  unfold Device.setField
  simp_all

@[simp] theorem Device.setField_rings (d : Device) (a : ℕ) (hi : ℕ) (lo : ℕ) (v : ℕ) : (Device.setField d a hi lo v).rings = d.rings := by
  unfold Device.setField
  simp_all

@[simp] theorem Device.setField_exporting (d : Device) (a : ℕ) (hi : ℕ) (lo : ℕ) (v : ℕ) : (Device.setField d a hi lo v).exporting = d.exporting := by
  unfold Device.setField
  simp_all

@[simp] theorem Device.setField_sched_items (d : Device) (a : ℕ) (hi : ℕ) (lo : ℕ) (v : ℕ) : (Device.setField d a hi lo v).sched.items = d.sched.items := by
  unfold Device.setField
  simp_all

@[simp] theorem Device.clearBits_front_qps (d : Device) (a : ℕ) (m : ℕ) : (Device.clearBits d a m).front.qps = d.front.qps := by
  unfold Device.clearBits
  simp_all

@[simp] theorem Device.clearBits_front_vfs (d : Device) (a : ℕ) (m : ℕ) : (Device.clearBits d a m).front.vfs = d.front.vfs := by
  unfold Device.clearBits
  simp_all

@[simp] theorem Device.clearBits_front_vfEnable (d : Device) (a : ℕ) (m : ℕ) : (Device.clearBits d a m).front.vfEnable = d.front.vfEnable := by
  unfold Device.clearBits
  simp_all

@[simp] theorem Device.clearBits_front_numVfs (d : Device) (a : ℕ) (m : ℕ) : (Device.clearBits d a m).front.numVfs = d.front.numVfs := by
  unfold Device.clearBits
  simp_all

@[simp] theorem Device.clearBits_sched (d : Device) (a : ℕ) (m : ℕ) : (Device.clearBits d a m).sched = d.sched := by
  unfold Device.clearBits
  simp_all

@[simp] theorem Device.clearBits_cycle (d : Device) (a : ℕ) (m : ℕ) : (Device.clearBits d a m).cycle = d.cycle := by
  unfold Device.clearBits
  simp_all

@[simp] theorem Device.clearBits_rings (d : Device) (a : ℕ) (m : ℕ) : (Device.clearBits d a m).rings = d.rings := by
  unfold Device.clearBits
  simp_all

@[simp] theorem Device.clearBits_exporting (d : Device) (a : ℕ) (m : ℕ) : (Device.clearBits d a m).exporting = d.exporting := by
  unfold Device.clearBits
  simp_all

@[simp] theorem Device.clearBits_sched_items (d : Device) (a : ℕ) (m : ℕ) : (Device.clearBits d a m).sched.items = d.sched.items := by
  unfold Device.clearBits
  simp_all

@[simp] theorem Device.hwSet_front_qps (d : Device) (a : ℕ) (m : ℕ) : (Device.hwSet d a m).front.qps = d.front.qps := by
  unfold Device.hwSet
  simp_all

@[simp] theorem Device.hwSet_front_vfs (d : Device) (a : ℕ) (m : ℕ) : (Device.hwSet d a m).front.vfs = d.front.vfs := by
  unfold Device.hwSet
  simp_all

@[simp] theorem Device.hwSet_front_vfEnable (d : Device) (a : ℕ) (m : ℕ) : (Device.hwSet d a m).front.vfEnable = d.front.vfEnable := by
  unfold Device.hwSet
  simp_all

@[simp] theorem Device.hwSet_front_numVfs (d : Device) (a : ℕ) (m : ℕ) : (Device.hwSet d a m).front.numVfs = d.front.numVfs := by
  unfold Device.hwSet
  simp_all

@[simp] theorem Device.hwSet_sched (d : Device) (a : ℕ) (m : ℕ) : (Device.hwSet d a m).sched = d.sched := by
  unfold Device.hwSet
  simp_all

@[simp] theorem Device.hwSet_cycle (d : Device) (a : ℕ) (m : ℕ) : (Device.hwSet d a m).cycle = d.cycle := by
  unfold Device.hwSet
  simp_all

@[simp] theorem Device.hwSet_rings (d : Device) (a : ℕ) (m : ℕ) : (Device.hwSet d a m).rings = d.rings := by
  unfold Device.hwSet
  simp_all

@[simp] theorem Device.hwSet_exporting (d : Device) (a : ℕ) (m : ℕ) : (Device.hwSet d a m).exporting = d.exporting := by
  unfold Device.hwSet
  simp_all

@[simp] theorem Device.hwSet_sched_items (d : Device) (a : ℕ) (m : ℕ) : (Device.hwSet d a m).sched.items = d.sched.items := by
  unfold Device.hwSet
  simp_all

@[simp] theorem Device.addCnt_front_qps (d : Device) (a : ℕ) (hi : ℕ) (lo : ℕ) (n : ℕ) (saturates : Bool) : (Device.addCnt d a hi lo n saturates).front.qps = d.front.qps := by
  unfold Device.addCnt
  (repeat' split) <;> simp_all

@[simp] theorem Device.addCnt_front_vfs (d : Device) (a : ℕ) (hi : ℕ) (lo : ℕ) (n : ℕ) (saturates : Bool) : (Device.addCnt d a hi lo n saturates).front.vfs = d.front.vfs := by
  unfold Device.addCnt
  (repeat' split) <;> simp_all

@[simp] theorem Device.addCnt_front_vfEnable (d : Device) (a : ℕ) (hi : ℕ) (lo : ℕ) (n : ℕ) (saturates : Bool) : (Device.addCnt d a hi lo n saturates).front.vfEnable = d.front.vfEnable := by
  unfold Device.addCnt
  (repeat' split) <;> simp_all

@[simp] theorem Device.addCnt_front_numVfs (d : Device) (a : ℕ) (hi : ℕ) (lo : ℕ) (n : ℕ) (saturates : Bool) : (Device.addCnt d a hi lo n saturates).front.numVfs = d.front.numVfs := by
  unfold Device.addCnt
  (repeat' split) <;> simp_all

@[simp] theorem Device.addCnt_sched (d : Device) (a : ℕ) (hi : ℕ) (lo : ℕ) (n : ℕ) (saturates : Bool) : (Device.addCnt d a hi lo n saturates).sched = d.sched := by
  unfold Device.addCnt
  (repeat' split) <;> simp_all

@[simp] theorem Device.addCnt_cycle (d : Device) (a : ℕ) (hi : ℕ) (lo : ℕ) (n : ℕ) (saturates : Bool) : (Device.addCnt d a hi lo n saturates).cycle = d.cycle := by
  unfold Device.addCnt
  (repeat' split) <;> simp_all

@[simp] theorem Device.addCnt_rings (d : Device) (a : ℕ) (hi : ℕ) (lo : ℕ) (n : ℕ) (saturates : Bool) : (Device.addCnt d a hi lo n saturates).rings = d.rings := by
  unfold Device.addCnt
  (repeat' split) <;> simp_all

@[simp] theorem Device.addCnt_exporting (d : Device) (a : ℕ) (hi : ℕ) (lo : ℕ) (n : ℕ) (saturates : Bool) : (Device.addCnt d a hi lo n saturates).exporting = d.exporting := by
  unfold Device.addCnt
  (repeat' split) <;> simp_all

@[simp] theorem Device.addCnt_sched_items (d : Device) (a : ℕ) (hi : ℕ) (lo : ℕ) (n : ℕ) (saturates : Bool) : (Device.addCnt d a hi lo n saturates).sched.items = d.sched.items := by
  unfold Device.addCnt
  (repeat' split) <;> simp_all

@[simp] theorem Device.writeLost_front_qps (d : Device) (a : ℕ) : (Device.writeLost d a).front.qps = d.front.qps := by
  unfold Device.writeLost
  simp_all

@[simp] theorem Device.writeLost_front_vfs (d : Device) (a : ℕ) : (Device.writeLost d a).front.vfs = d.front.vfs := by
  unfold Device.writeLost
  simp_all

@[simp] theorem Device.writeLost_front_vfEnable (d : Device) (a : ℕ) : (Device.writeLost d a).front.vfEnable = d.front.vfEnable := by
  unfold Device.writeLost
  simp_all

@[simp] theorem Device.writeLost_front_numVfs (d : Device) (a : ℕ) : (Device.writeLost d a).front.numVfs = d.front.numVfs := by
  unfold Device.writeLost
  simp_all

@[simp] theorem Device.writeLost_sched (d : Device) (a : ℕ) : (Device.writeLost d a).sched = d.sched := by
  unfold Device.writeLost
  simp_all

@[simp] theorem Device.writeLost_cycle (d : Device) (a : ℕ) : (Device.writeLost d a).cycle = d.cycle := by
  unfold Device.writeLost
  simp_all

@[simp] theorem Device.writeLost_rings (d : Device) (a : ℕ) : (Device.writeLost d a).rings = d.rings := by
  unfold Device.writeLost
  simp_all

@[simp] theorem Device.writeLost_exporting (d : Device) (a : ℕ) : (Device.writeLost d a).exporting = d.exporting := by
  unfold Device.writeLost
  simp_all

@[simp] theorem Device.writeLost_sched_items (d : Device) (a : ℕ) : (Device.writeLost d a).sched.items = d.sched.items := by
  unfold Device.writeLost
  simp_all

@[simp] theorem Device.rwhClash_front_qps (d : Device) (a : ℕ) : (Device.rwhClash d a).front.qps = d.front.qps := by
  unfold Device.rwhClash
  (repeat' split) <;> simp_all

@[simp] theorem Device.rwhClash_front_vfs (d : Device) (a : ℕ) : (Device.rwhClash d a).front.vfs = d.front.vfs := by
  unfold Device.rwhClash
  (repeat' split) <;> simp_all

@[simp] theorem Device.rwhClash_front_vfEnable (d : Device) (a : ℕ) : (Device.rwhClash d a).front.vfEnable = d.front.vfEnable := by
  unfold Device.rwhClash
  (repeat' split) <;> simp_all

@[simp] theorem Device.rwhClash_front_numVfs (d : Device) (a : ℕ) : (Device.rwhClash d a).front.numVfs = d.front.numVfs := by
  unfold Device.rwhClash
  (repeat' split) <;> simp_all

@[simp] theorem Device.rwhClash_sched (d : Device) (a : ℕ) : (Device.rwhClash d a).sched = d.sched := by
  unfold Device.rwhClash
  (repeat' split) <;> simp_all

@[simp] theorem Device.rwhClash_cycle (d : Device) (a : ℕ) : (Device.rwhClash d a).cycle = d.cycle := by
  unfold Device.rwhClash
  (repeat' split) <;> simp_all

@[simp] theorem Device.rwhClash_rings (d : Device) (a : ℕ) : (Device.rwhClash d a).rings = d.rings := by
  unfold Device.rwhClash
  (repeat' split) <;> simp_all

@[simp] theorem Device.rwhClash_exporting (d : Device) (a : ℕ) : (Device.rwhClash d a).exporting = d.exporting := by
  unfold Device.rwhClash
  (repeat' split) <;> simp_all

@[simp] theorem Device.rwhClash_sched_items (d : Device) (a : ℕ) : (Device.rwhClash d a).sched.items = d.sched.items := by
  unfold Device.rwhClash
  (repeat' split) <;> simp_all

@[simp] theorem Device.hwLoad_front_qps (d : Device) (a : ℕ) (v : ℕ) : (Device.hwLoad d a v).front.qps = d.front.qps := by
  unfold Device.hwLoad
  simp_all

@[simp] theorem Device.hwLoad_front_vfs (d : Device) (a : ℕ) (v : ℕ) : (Device.hwLoad d a v).front.vfs = d.front.vfs := by
  unfold Device.hwLoad
  simp_all

@[simp] theorem Device.hwLoad_front_vfEnable (d : Device) (a : ℕ) (v : ℕ) : (Device.hwLoad d a v).front.vfEnable = d.front.vfEnable := by
  unfold Device.hwLoad
  simp_all

@[simp] theorem Device.hwLoad_front_numVfs (d : Device) (a : ℕ) (v : ℕ) : (Device.hwLoad d a v).front.numVfs = d.front.numVfs := by
  unfold Device.hwLoad
  simp_all

@[simp] theorem Device.hwLoad_sched (d : Device) (a : ℕ) (v : ℕ) : (Device.hwLoad d a v).sched = d.sched := by
  unfold Device.hwLoad
  simp_all

@[simp] theorem Device.hwLoad_cycle (d : Device) (a : ℕ) (v : ℕ) : (Device.hwLoad d a v).cycle = d.cycle := by
  unfold Device.hwLoad
  simp_all

@[simp] theorem Device.hwLoad_rings (d : Device) (a : ℕ) (v : ℕ) : (Device.hwLoad d a v).rings = d.rings := by
  unfold Device.hwLoad
  simp_all

@[simp] theorem Device.hwLoad_exporting (d : Device) (a : ℕ) (v : ℕ) : (Device.hwLoad d a v).exporting = d.exporting := by
  unfold Device.hwLoad
  simp_all

@[simp] theorem Device.hwLoad_sched_items (d : Device) (a : ℕ) (v : ℕ) : (Device.hwLoad d a v).sched.items = d.sched.items := by
  unfold Device.hwLoad
  simp_all

@[simp] theorem Device.advance_front_qps (d : Device) (n : ℕ) : (Device.advance d n).front.qps = d.front.qps := by
  unfold Device.advance
  simp_all

@[simp] theorem Device.advance_front_vfs (d : Device) (n : ℕ) : (Device.advance d n).front.vfs = d.front.vfs := by
  unfold Device.advance
  simp_all

@[simp] theorem Device.advance_front_vfEnable (d : Device) (n : ℕ) : (Device.advance d n).front.vfEnable = d.front.vfEnable := by
  unfold Device.advance
  simp_all

@[simp] theorem Device.advance_front_numVfs (d : Device) (n : ℕ) : (Device.advance d n).front.numVfs = d.front.numVfs := by
  unfold Device.advance
  simp_all

@[simp] theorem Device.advance_sched (d : Device) (n : ℕ) : (Device.advance d n).sched = d.sched := by
  unfold Device.advance
  simp_all

@[simp] theorem Device.advance_rings (d : Device) (n : ℕ) : (Device.advance d n).rings = d.rings := by
  unfold Device.advance
  simp_all

@[simp] theorem Device.advance_exporting (d : Device) (n : ℕ) : (Device.advance d n).exporting = d.exporting := by
  unfold Device.advance
  simp_all

@[simp] theorem Device.advance_sched_items (d : Device) (n : ℕ) : (Device.advance d n).sched.items = d.sched.items := by
  unfold Device.advance
  simp_all

@[simp] theorem Device.passCycle_front_qps (d : Device) : (Device.passCycle d).front.qps = d.front.qps := by
  unfold Device.passCycle
  simp_all

@[simp] theorem Device.passCycle_front_vfs (d : Device) : (Device.passCycle d).front.vfs = d.front.vfs := by
  unfold Device.passCycle
  simp_all

@[simp] theorem Device.passCycle_front_vfEnable (d : Device) : (Device.passCycle d).front.vfEnable = d.front.vfEnable := by
  unfold Device.passCycle
  simp_all

@[simp] theorem Device.passCycle_front_numVfs (d : Device) : (Device.passCycle d).front.numVfs = d.front.numVfs := by
  unfold Device.passCycle
  simp_all

@[simp] theorem Device.passCycle_sched (d : Device) : (Device.passCycle d).sched = d.sched := by
  unfold Device.passCycle
  simp_all

@[simp] theorem Device.passCycle_rings (d : Device) : (Device.passCycle d).rings = d.rings := by
  unfold Device.passCycle
  simp_all

@[simp] theorem Device.passCycle_exporting (d : Device) : (Device.passCycle d).exporting = d.exporting := by
  unfold Device.passCycle
  simp_all

@[simp] theorem Device.passCycle_sched_items (d : Device) : (Device.passCycle d).sched.items = d.sched.items := by
  unfold Device.passCycle
  simp_all

@[simp] theorem Device.sendMsix_front_qps (d : Device) (fn : ℕ) (vector : ℕ) : (Device.sendMsix d fn vector).front.qps = d.front.qps := by
  unfold Device.sendMsix
  simp_all

@[simp] theorem Device.sendMsix_front_vfs (d : Device) (fn : ℕ) (vector : ℕ) : (Device.sendMsix d fn vector).front.vfs = d.front.vfs := by
  unfold Device.sendMsix
  simp_all

@[simp] theorem Device.sendMsix_front_vfEnable (d : Device) (fn : ℕ) (vector : ℕ) : (Device.sendMsix d fn vector).front.vfEnable = d.front.vfEnable := by
  unfold Device.sendMsix
  simp_all

@[simp] theorem Device.sendMsix_front_numVfs (d : Device) (fn : ℕ) (vector : ℕ) : (Device.sendMsix d fn vector).front.numVfs = d.front.numVfs := by
  unfold Device.sendMsix
  simp_all

@[simp] theorem Device.sendMsix_sched (d : Device) (fn : ℕ) (vector : ℕ) : (Device.sendMsix d fn vector).sched = d.sched := by
  unfold Device.sendMsix
  simp_all

@[simp] theorem Device.sendMsix_cycle (d : Device) (fn : ℕ) (vector : ℕ) : (Device.sendMsix d fn vector).cycle = d.cycle := by
  unfold Device.sendMsix
  simp_all

@[simp] theorem Device.sendMsix_rings (d : Device) (fn : ℕ) (vector : ℕ) : (Device.sendMsix d fn vector).rings = d.rings := by
  unfold Device.sendMsix
  simp_all

@[simp] theorem Device.sendMsix_exporting (d : Device) (fn : ℕ) (vector : ℕ) : (Device.sendMsix d fn vector).exporting = d.exporting := by
  unfold Device.sendMsix
  simp_all

@[simp] theorem Device.sendMsix_sched_items (d : Device) (fn : ℕ) (vector : ℕ) : (Device.sendMsix d fn vector).sched.items = d.sched.items := by
  unfold Device.sendMsix
  simp_all

@[simp] theorem Device.signalPage_front_qps (d : Device) (base : ℕ) : (Device.signalPage d base).front.qps = d.front.qps := by
  unfold Device.signalPage
  (repeat' split) <;> simp_all

@[simp] theorem Device.signalPage_front_vfs (d : Device) (base : ℕ) : (Device.signalPage d base).front.vfs = d.front.vfs := by
  unfold Device.signalPage
  (repeat' split) <;> simp_all

@[simp] theorem Device.signalPage_front_vfEnable (d : Device) (base : ℕ) : (Device.signalPage d base).front.vfEnable = d.front.vfEnable := by
  unfold Device.signalPage
  (repeat' split) <;> simp_all

@[simp] theorem Device.signalPage_front_numVfs (d : Device) (base : ℕ) : (Device.signalPage d base).front.numVfs = d.front.numVfs := by
  unfold Device.signalPage
  (repeat' split) <;> simp_all

@[simp] theorem Device.signalPage_sched (d : Device) (base : ℕ) : (Device.signalPage d base).sched = d.sched := by
  unfold Device.signalPage
  (repeat' split) <;> simp_all

@[simp] theorem Device.signalPage_cycle (d : Device) (base : ℕ) : (Device.signalPage d base).cycle = d.cycle := by
  unfold Device.signalPage
  (repeat' split) <;> simp_all

@[simp] theorem Device.signalPage_rings (d : Device) (base : ℕ) : (Device.signalPage d base).rings = d.rings := by
  unfold Device.signalPage
  (repeat' split) <;> simp_all

@[simp] theorem Device.signalPage_exporting (d : Device) (base : ℕ) : (Device.signalPage d base).exporting = d.exporting := by
  unfold Device.signalPage
  (repeat' split) <;> simp_all

@[simp] theorem Device.signalPage_sched_items (d : Device) (base : ℕ) : (Device.signalPage d base).sched.items = d.sched.items := by
  unfold Device.signalPage
  (repeat' split) <;> simp_all

@[simp] theorem Device.raiseMask_front_qps (d : Device) (base : ℕ) (m : ℕ) : (Device.raiseMask d base m).front.qps = d.front.qps := by
  unfold Device.raiseMask
  simp_all

@[simp] theorem Device.raiseMask_front_vfs (d : Device) (base : ℕ) (m : ℕ) : (Device.raiseMask d base m).front.vfs = d.front.vfs := by
  unfold Device.raiseMask
  simp_all

@[simp] theorem Device.raiseMask_front_vfEnable (d : Device) (base : ℕ) (m : ℕ) : (Device.raiseMask d base m).front.vfEnable = d.front.vfEnable := by
  unfold Device.raiseMask
  simp_all

@[simp] theorem Device.raiseMask_front_numVfs (d : Device) (base : ℕ) (m : ℕ) : (Device.raiseMask d base m).front.numVfs = d.front.numVfs := by
  unfold Device.raiseMask
  simp_all

@[simp] theorem Device.raiseMask_sched (d : Device) (base : ℕ) (m : ℕ) : (Device.raiseMask d base m).sched = d.sched := by
  unfold Device.raiseMask
  simp_all

@[simp] theorem Device.raiseMask_cycle (d : Device) (base : ℕ) (m : ℕ) : (Device.raiseMask d base m).cycle = d.cycle := by
  unfold Device.raiseMask
  simp_all

@[simp] theorem Device.raiseMask_rings (d : Device) (base : ℕ) (m : ℕ) : (Device.raiseMask d base m).rings = d.rings := by
  unfold Device.raiseMask
  simp_all

@[simp] theorem Device.raiseMask_exporting (d : Device) (base : ℕ) (m : ℕ) : (Device.raiseMask d base m).exporting = d.exporting := by
  unfold Device.raiseMask
  simp_all

@[simp] theorem Device.raiseMask_sched_items (d : Device) (base : ℕ) (m : ℕ) : (Device.raiseMask d base m).sched.items = d.sched.items := by
  unfold Device.raiseMask
  simp_all

@[simp] theorem Device.raiseInt_front_qps (d : Device) (p : Page) (n : ℕ) (i : ℕ) : (Device.raiseInt d p n i).front.qps = d.front.qps := by
  unfold Device.raiseInt
  simp_all

@[simp] theorem Device.raiseInt_front_vfs (d : Device) (p : Page) (n : ℕ) (i : ℕ) : (Device.raiseInt d p n i).front.vfs = d.front.vfs := by
  unfold Device.raiseInt
  simp_all

@[simp] theorem Device.raiseInt_front_vfEnable (d : Device) (p : Page) (n : ℕ) (i : ℕ) : (Device.raiseInt d p n i).front.vfEnable = d.front.vfEnable := by
  unfold Device.raiseInt
  simp_all

@[simp] theorem Device.raiseInt_front_numVfs (d : Device) (p : Page) (n : ℕ) (i : ℕ) : (Device.raiseInt d p n i).front.numVfs = d.front.numVfs := by
  unfold Device.raiseInt
  simp_all

@[simp] theorem Device.raiseInt_sched (d : Device) (p : Page) (n : ℕ) (i : ℕ) : (Device.raiseInt d p n i).sched = d.sched := by
  unfold Device.raiseInt
  simp_all

@[simp] theorem Device.raiseInt_cycle (d : Device) (p : Page) (n : ℕ) (i : ℕ) : (Device.raiseInt d p n i).cycle = d.cycle := by
  unfold Device.raiseInt
  simp_all

@[simp] theorem Device.raiseInt_rings (d : Device) (p : Page) (n : ℕ) (i : ℕ) : (Device.raiseInt d p n i).rings = d.rings := by
  unfold Device.raiseInt
  simp_all

@[simp] theorem Device.raiseInt_exporting (d : Device) (p : Page) (n : ℕ) (i : ℕ) : (Device.raiseInt d p n i).exporting = d.exporting := by
  unfold Device.raiseInt
  simp_all

@[simp] theorem Device.raiseInt_sched_items (d : Device) (p : Page) (n : ℕ) (i : ℕ) : (Device.raiseInt d p n i).sched.items = d.sched.items := by
  unfold Device.raiseInt
  simp_all

@[simp] theorem Device.commandEnd_front_qps (d : Device) (a : ℕ) (req : ℕ) (done : ℕ) : (Device.commandEnd d a req done).front.qps = d.front.qps := by
  unfold Device.commandEnd
  simp_all

@[simp] theorem Device.commandEnd_front_vfs (d : Device) (a : ℕ) (req : ℕ) (done : ℕ) : (Device.commandEnd d a req done).front.vfs = d.front.vfs := by
  unfold Device.commandEnd
  simp_all

@[simp] theorem Device.commandEnd_front_vfEnable (d : Device) (a : ℕ) (req : ℕ) (done : ℕ) : (Device.commandEnd d a req done).front.vfEnable = d.front.vfEnable := by
  unfold Device.commandEnd
  simp_all

@[simp] theorem Device.commandEnd_front_numVfs (d : Device) (a : ℕ) (req : ℕ) (done : ℕ) : (Device.commandEnd d a req done).front.numVfs = d.front.numVfs := by
  unfold Device.commandEnd
  simp_all

@[simp] theorem Device.commandEnd_sched (d : Device) (a : ℕ) (req : ℕ) (done : ℕ) : (Device.commandEnd d a req done).sched = d.sched := by
  unfold Device.commandEnd
  simp_all

@[simp] theorem Device.commandEnd_cycle (d : Device) (a : ℕ) (req : ℕ) (done : ℕ) : (Device.commandEnd d a req done).cycle = d.cycle := by
  unfold Device.commandEnd
  simp_all

@[simp] theorem Device.commandEnd_rings (d : Device) (a : ℕ) (req : ℕ) (done : ℕ) : (Device.commandEnd d a req done).rings = d.rings := by
  unfold Device.commandEnd
  simp_all

@[simp] theorem Device.commandEnd_exporting (d : Device) (a : ℕ) (req : ℕ) (done : ℕ) : (Device.commandEnd d a req done).exporting = d.exporting := by
  unfold Device.commandEnd
  simp_all

@[simp] theorem Device.commandEnd_sched_items (d : Device) (a : ℕ) (req : ℕ) (done : ℕ) : (Device.commandEnd d a req done).sched.items = d.sched.items := by
  unfold Device.commandEnd
  simp_all

@[simp] theorem Device.commandStart_front_qps (d : Device) (a : ℕ) (req : ℕ) : (Device.commandStart d a req).front.qps = d.front.qps := by
  unfold Device.commandStart
  simp_all

@[simp] theorem Device.commandStart_front_vfs (d : Device) (a : ℕ) (req : ℕ) : (Device.commandStart d a req).front.vfs = d.front.vfs := by
  unfold Device.commandStart
  simp_all

@[simp] theorem Device.commandStart_front_vfEnable (d : Device) (a : ℕ) (req : ℕ) : (Device.commandStart d a req).front.vfEnable = d.front.vfEnable := by
  unfold Device.commandStart
  simp_all

@[simp] theorem Device.commandStart_front_numVfs (d : Device) (a : ℕ) (req : ℕ) : (Device.commandStart d a req).front.numVfs = d.front.numVfs := by
  unfold Device.commandStart
  simp_all

@[simp] theorem Device.commandStart_sched (d : Device) (a : ℕ) (req : ℕ) : (Device.commandStart d a req).sched = d.sched := by
  unfold Device.commandStart
  simp_all

@[simp] theorem Device.commandStart_cycle (d : Device) (a : ℕ) (req : ℕ) : (Device.commandStart d a req).cycle = d.cycle := by
  unfold Device.commandStart
  simp_all

@[simp] theorem Device.commandStart_rings (d : Device) (a : ℕ) (req : ℕ) : (Device.commandStart d a req).rings = d.rings := by
  unfold Device.commandStart
  simp_all

@[simp] theorem Device.commandStart_exporting (d : Device) (a : ℕ) (req : ℕ) : (Device.commandStart d a req).exporting = d.exporting := by
  unfold Device.commandStart
  simp_all

@[simp] theorem Device.commandStart_sched_items (d : Device) (a : ℕ) (req : ℕ) : (Device.commandStart d a req).sched.items = d.sched.items := by
  unfold Device.commandStart
  simp_all

@[simp] theorem Device.setResult_front_qps (d : Device) (a : ℕ) (code : ℕ) : (Device.setResult d a code).front.qps = d.front.qps := by
  unfold Device.setResult
  simp_all

@[simp] theorem Device.setResult_front_vfs (d : Device) (a : ℕ) (code : ℕ) : (Device.setResult d a code).front.vfs = d.front.vfs := by
  unfold Device.setResult
  simp_all

@[simp] theorem Device.setResult_front_vfEnable (d : Device) (a : ℕ) (code : ℕ) : (Device.setResult d a code).front.vfEnable = d.front.vfEnable := by
  unfold Device.setResult
  simp_all

@[simp] theorem Device.setResult_front_numVfs (d : Device) (a : ℕ) (code : ℕ) : (Device.setResult d a code).front.numVfs = d.front.numVfs := by
  unfold Device.setResult
  simp_all

@[simp] theorem Device.setResult_sched (d : Device) (a : ℕ) (code : ℕ) : (Device.setResult d a code).sched = d.sched := by
  unfold Device.setResult
  simp_all

@[simp] theorem Device.setResult_cycle (d : Device) (a : ℕ) (code : ℕ) : (Device.setResult d a code).cycle = d.cycle := by
  unfold Device.setResult
  simp_all

@[simp] theorem Device.setResult_rings (d : Device) (a : ℕ) (code : ℕ) : (Device.setResult d a code).rings = d.rings := by
  unfold Device.setResult
  simp_all

@[simp] theorem Device.setResult_exporting (d : Device) (a : ℕ) (code : ℕ) : (Device.setResult d a code).exporting = d.exporting := by
  unfold Device.setResult
  simp_all

@[simp] theorem Device.setResult_sched_items (d : Device) (a : ℕ) (code : ℕ) : (Device.setResult d a code).sched.items = d.sched.items := by
  unfold Device.setResult
  simp_all

@[simp] theorem Device.progStart_front_qps (d : Device) (base : ℕ) (op : ℕ) (total : ℕ) : (Device.progStart d base op total).front.qps = d.front.qps := by
  unfold Device.progStart
  simp_all

@[simp] theorem Device.progStart_front_vfs (d : Device) (base : ℕ) (op : ℕ) (total : ℕ) : (Device.progStart d base op total).front.vfs = d.front.vfs := by
  unfold Device.progStart
  simp_all

@[simp] theorem Device.progStart_front_vfEnable (d : Device) (base : ℕ) (op : ℕ) (total : ℕ) : (Device.progStart d base op total).front.vfEnable = d.front.vfEnable := by
  unfold Device.progStart
  simp_all

@[simp] theorem Device.progStart_front_numVfs (d : Device) (base : ℕ) (op : ℕ) (total : ℕ) : (Device.progStart d base op total).front.numVfs = d.front.numVfs := by
  unfold Device.progStart
  simp_all

@[simp] theorem Device.progStart_sched (d : Device) (base : ℕ) (op : ℕ) (total : ℕ) : (Device.progStart d base op total).sched = d.sched := by
  unfold Device.progStart
  simp_all

@[simp] theorem Device.progStart_cycle (d : Device) (base : ℕ) (op : ℕ) (total : ℕ) : (Device.progStart d base op total).cycle = d.cycle := by
  unfold Device.progStart
  simp_all

@[simp] theorem Device.progStart_rings (d : Device) (base : ℕ) (op : ℕ) (total : ℕ) : (Device.progStart d base op total).rings = d.rings := by
  unfold Device.progStart
  simp_all

@[simp] theorem Device.progStart_exporting (d : Device) (base : ℕ) (op : ℕ) (total : ℕ) : (Device.progStart d base op total).exporting = d.exporting := by
  unfold Device.progStart
  simp_all

@[simp] theorem Device.progStart_sched_items (d : Device) (base : ℕ) (op : ℕ) (total : ℕ) : (Device.progStart d base op total).sched.items = d.sched.items := by
  unfold Device.progStart
  simp_all

@[simp] theorem Device.progPos_front_qps (d : Device) (base : ℕ) (pos : ℕ) : (Device.progPos d base pos).front.qps = d.front.qps := by
  unfold Device.progPos
  simp_all

@[simp] theorem Device.progPos_front_vfs (d : Device) (base : ℕ) (pos : ℕ) : (Device.progPos d base pos).front.vfs = d.front.vfs := by
  unfold Device.progPos
  simp_all

@[simp] theorem Device.progPos_front_vfEnable (d : Device) (base : ℕ) (pos : ℕ) : (Device.progPos d base pos).front.vfEnable = d.front.vfEnable := by
  unfold Device.progPos
  simp_all

@[simp] theorem Device.progPos_front_numVfs (d : Device) (base : ℕ) (pos : ℕ) : (Device.progPos d base pos).front.numVfs = d.front.numVfs := by
  unfold Device.progPos
  simp_all

@[simp] theorem Device.progPos_sched (d : Device) (base : ℕ) (pos : ℕ) : (Device.progPos d base pos).sched = d.sched := by
  unfold Device.progPos
  simp_all

@[simp] theorem Device.progPos_cycle (d : Device) (base : ℕ) (pos : ℕ) : (Device.progPos d base pos).cycle = d.cycle := by
  unfold Device.progPos
  simp_all

@[simp] theorem Device.progPos_rings (d : Device) (base : ℕ) (pos : ℕ) : (Device.progPos d base pos).rings = d.rings := by
  unfold Device.progPos
  simp_all

@[simp] theorem Device.progPos_exporting (d : Device) (base : ℕ) (pos : ℕ) : (Device.progPos d base pos).exporting = d.exporting := by
  unfold Device.progPos
  simp_all

@[simp] theorem Device.progPos_sched_items (d : Device) (base : ℕ) (pos : ℕ) : (Device.progPos d base pos).sched.items = d.sched.items := by
  unfold Device.progPos
  simp_all

@[simp] theorem Device.progEnd_front_qps (d : Device) (base : ℕ) (aborted : Bool) : (Device.progEnd d base aborted).front.qps = d.front.qps := by
  unfold Device.progEnd
  (repeat' split) <;> simp_all

@[simp] theorem Device.progEnd_front_vfs (d : Device) (base : ℕ) (aborted : Bool) : (Device.progEnd d base aborted).front.vfs = d.front.vfs := by
  unfold Device.progEnd
  (repeat' split) <;> simp_all

@[simp] theorem Device.progEnd_front_vfEnable (d : Device) (base : ℕ) (aborted : Bool) : (Device.progEnd d base aborted).front.vfEnable = d.front.vfEnable := by
  unfold Device.progEnd
  (repeat' split) <;> simp_all

@[simp] theorem Device.progEnd_front_numVfs (d : Device) (base : ℕ) (aborted : Bool) : (Device.progEnd d base aborted).front.numVfs = d.front.numVfs := by
  unfold Device.progEnd
  (repeat' split) <;> simp_all

@[simp] theorem Device.progEnd_sched (d : Device) (base : ℕ) (aborted : Bool) : (Device.progEnd d base aborted).sched = d.sched := by
  unfold Device.progEnd
  (repeat' split) <;> simp_all

@[simp] theorem Device.progEnd_cycle (d : Device) (base : ℕ) (aborted : Bool) : (Device.progEnd d base aborted).cycle = d.cycle := by
  unfold Device.progEnd
  (repeat' split) <;> simp_all

@[simp] theorem Device.progEnd_rings (d : Device) (base : ℕ) (aborted : Bool) : (Device.progEnd d base aborted).rings = d.rings := by
  unfold Device.progEnd
  (repeat' split) <;> simp_all

@[simp] theorem Device.progEnd_exporting (d : Device) (base : ℕ) (aborted : Bool) : (Device.progEnd d base aborted).exporting = d.exporting := by
  unfold Device.progEnd
  (repeat' split) <;> simp_all

@[simp] theorem Device.progEnd_sched_items (d : Device) (base : ℕ) (aborted : Bool) : (Device.progEnd d base aborted).sched.items = d.sched.items := by
  unfold Device.progEnd
  (repeat' split) <;> simp_all

@[simp] theorem Device.setVf_front_qps (d : Device) (v : ℕ) (x : Vf) : (Device.setVf d v x).front.qps = d.front.qps := by
  unfold Device.setVf
  simp_all

@[simp] theorem Device.setVf_front_vfEnable (d : Device) (v : ℕ) (x : Vf) : (Device.setVf d v x).front.vfEnable = d.front.vfEnable := by
  unfold Device.setVf
  simp_all

@[simp] theorem Device.setVf_front_numVfs (d : Device) (v : ℕ) (x : Vf) : (Device.setVf d v x).front.numVfs = d.front.numVfs := by
  unfold Device.setVf
  simp_all

@[simp] theorem Device.setVf_sched (d : Device) (v : ℕ) (x : Vf) : (Device.setVf d v x).sched = d.sched := by
  unfold Device.setVf
  simp_all

@[simp] theorem Device.setVf_cycle (d : Device) (v : ℕ) (x : Vf) : (Device.setVf d v x).cycle = d.cycle := by
  unfold Device.setVf
  simp_all

@[simp] theorem Device.setVf_rings (d : Device) (v : ℕ) (x : Vf) : (Device.setVf d v x).rings = d.rings := by
  unfold Device.setVf
  simp_all

@[simp] theorem Device.setVf_exporting (d : Device) (v : ℕ) (x : Vf) : (Device.setVf d v x).exporting = d.exporting := by
  unfold Device.setVf
  simp_all

@[simp] theorem Device.setVf_sched_items (d : Device) (v : ℕ) (x : Vf) : (Device.setVf d v x).sched.items = d.sched.items := by
  unfold Device.setVf
  simp_all

@[simp] theorem Device.changeVf_front_qps (d : Device) (v : ℕ) (x : Vf) : (Device.changeVf d v x).front.qps = d.front.qps := by
  unfold Device.changeVf
  (repeat' split) <;> simp_all

@[simp] theorem Device.changeVf_front_vfEnable (d : Device) (v : ℕ) (x : Vf) : (Device.changeVf d v x).front.vfEnable = d.front.vfEnable := by
  unfold Device.changeVf
  (repeat' split) <;> simp_all

@[simp] theorem Device.changeVf_front_numVfs (d : Device) (v : ℕ) (x : Vf) : (Device.changeVf d v x).front.numVfs = d.front.numVfs := by
  unfold Device.changeVf
  (repeat' split) <;> simp_all

@[simp] theorem Device.changeVf_sched (d : Device) (v : ℕ) (x : Vf) : (Device.changeVf d v x).sched = d.sched := by
  unfold Device.changeVf
  (repeat' split) <;> simp_all

@[simp] theorem Device.changeVf_cycle (d : Device) (v : ℕ) (x : Vf) : (Device.changeVf d v x).cycle = d.cycle := by
  unfold Device.changeVf
  (repeat' split) <;> simp_all

@[simp] theorem Device.changeVf_rings (d : Device) (v : ℕ) (x : Vf) : (Device.changeVf d v x).rings = d.rings := by
  unfold Device.changeVf
  (repeat' split) <;> simp_all

@[simp] theorem Device.changeVf_exporting (d : Device) (v : ℕ) (x : Vf) : (Device.changeVf d v x).exporting = d.exporting := by
  unfold Device.changeVf
  (repeat' split) <;> simp_all

@[simp] theorem Device.changeVf_sched_items (d : Device) (v : ℕ) (x : Vf) : (Device.changeVf d v x).sched.items = d.sched.items := by
  unfold Device.changeVf
  (repeat' split) <;> simp_all

@[simp] theorem Device.setQp_front_vfs (d : Device) (v : ℕ) (q : ℕ) (x : Qp) : (Device.setQp d v q x).front.vfs = d.front.vfs := by
  unfold Device.setQp
  simp_all

@[simp] theorem Device.setQp_front_vfEnable (d : Device) (v : ℕ) (q : ℕ) (x : Qp) : (Device.setQp d v q x).front.vfEnable = d.front.vfEnable := by
  unfold Device.setQp
  simp_all

@[simp] theorem Device.setQp_front_numVfs (d : Device) (v : ℕ) (q : ℕ) (x : Qp) : (Device.setQp d v q x).front.numVfs = d.front.numVfs := by
  unfold Device.setQp
  simp_all

@[simp] theorem Device.setQp_sched (d : Device) (v : ℕ) (q : ℕ) (x : Qp) : (Device.setQp d v q x).sched = d.sched := by
  unfold Device.setQp
  simp_all

@[simp] theorem Device.setQp_cycle (d : Device) (v : ℕ) (q : ℕ) (x : Qp) : (Device.setQp d v q x).cycle = d.cycle := by
  unfold Device.setQp
  simp_all

@[simp] theorem Device.setQp_rings (d : Device) (v : ℕ) (q : ℕ) (x : Qp) : (Device.setQp d v q x).rings = d.rings := by
  unfold Device.setQp
  simp_all

@[simp] theorem Device.setQp_exporting (d : Device) (v : ℕ) (q : ℕ) (x : Qp) : (Device.setQp d v q x).exporting = d.exporting := by
  unfold Device.setQp
  simp_all

@[simp] theorem Device.setQp_sched_items (d : Device) (v : ℕ) (q : ℕ) (x : Qp) : (Device.setQp d v q x).sched.items = d.sched.items := by
  unfold Device.setQp
  simp_all

@[simp] theorem Device.setItem_front_qps (d : Device) (n : ℕ) (x : Item) : (Device.setItem d n x).front.qps = d.front.qps := by
  unfold Device.setItem
  simp_all

@[simp] theorem Device.setItem_front_vfs (d : Device) (n : ℕ) (x : Item) : (Device.setItem d n x).front.vfs = d.front.vfs := by
  unfold Device.setItem
  simp_all

@[simp] theorem Device.setItem_front_vfEnable (d : Device) (n : ℕ) (x : Item) : (Device.setItem d n x).front.vfEnable = d.front.vfEnable := by
  unfold Device.setItem
  simp_all

@[simp] theorem Device.setItem_front_numVfs (d : Device) (n : ℕ) (x : Item) : (Device.setItem d n x).front.numVfs = d.front.numVfs := by
  unfold Device.setItem
  simp_all

@[simp] theorem Device.setItem_cycle (d : Device) (n : ℕ) (x : Item) : (Device.setItem d n x).cycle = d.cycle := by
  unfold Device.setItem
  simp_all

@[simp] theorem Device.setItem_rings (d : Device) (n : ℕ) (x : Item) : (Device.setItem d n x).rings = d.rings := by
  unfold Device.setItem
  simp_all

@[simp] theorem Device.setItem_exporting (d : Device) (n : ℕ) (x : Item) : (Device.setItem d n x).exporting = d.exporting := by
  unfold Device.setItem
  simp_all

@[simp] theorem Device.dropItem_front_qps (d : Device) (n : ℕ) : (Device.dropItem d n).front.qps = d.front.qps := by
  unfold Device.dropItem
  simp_all

@[simp] theorem Device.dropItem_front_vfs (d : Device) (n : ℕ) : (Device.dropItem d n).front.vfs = d.front.vfs := by
  unfold Device.dropItem
  simp_all

@[simp] theorem Device.dropItem_front_vfEnable (d : Device) (n : ℕ) : (Device.dropItem d n).front.vfEnable = d.front.vfEnable := by
  unfold Device.dropItem
  simp_all

@[simp] theorem Device.dropItem_front_numVfs (d : Device) (n : ℕ) : (Device.dropItem d n).front.numVfs = d.front.numVfs := by
  unfold Device.dropItem
  simp_all

@[simp] theorem Device.dropItem_cycle (d : Device) (n : ℕ) : (Device.dropItem d n).cycle = d.cycle := by
  unfold Device.dropItem
  simp_all

@[simp] theorem Device.dropItem_rings (d : Device) (n : ℕ) : (Device.dropItem d n).rings = d.rings := by
  unfold Device.dropItem
  simp_all

@[simp] theorem Device.dropItem_exporting (d : Device) (n : ℕ) : (Device.dropItem d n).exporting = d.exporting := by
  unfold Device.dropItem
  simp_all

@[simp] theorem Device.dropDelay_front_qps (d : Device) (list : ℕ) (n : ℕ) : (Device.dropDelay d list n).front.qps = d.front.qps := by
  unfold Device.dropDelay
  simp_all

@[simp] theorem Device.dropDelay_front_vfs (d : Device) (list : ℕ) (n : ℕ) : (Device.dropDelay d list n).front.vfs = d.front.vfs := by
  unfold Device.dropDelay
  simp_all

@[simp] theorem Device.dropDelay_front_vfEnable (d : Device) (list : ℕ) (n : ℕ) : (Device.dropDelay d list n).front.vfEnable = d.front.vfEnable := by
  unfold Device.dropDelay
  simp_all

@[simp] theorem Device.dropDelay_front_numVfs (d : Device) (list : ℕ) (n : ℕ) : (Device.dropDelay d list n).front.numVfs = d.front.numVfs := by
  unfold Device.dropDelay
  simp_all

@[simp] theorem Device.dropDelay_cycle (d : Device) (list : ℕ) (n : ℕ) : (Device.dropDelay d list n).cycle = d.cycle := by
  unfold Device.dropDelay
  simp_all

@[simp] theorem Device.dropDelay_rings (d : Device) (list : ℕ) (n : ℕ) : (Device.dropDelay d list n).rings = d.rings := by
  unfold Device.dropDelay
  simp_all

@[simp] theorem Device.dropDelay_exporting (d : Device) (list : ℕ) (n : ℕ) : (Device.dropDelay d list n).exporting = d.exporting := by
  unfold Device.dropDelay
  simp_all

@[simp] theorem Device.dropDelay_sched_items (d : Device) (list : ℕ) (n : ℕ) : (Device.dropDelay d list n).sched.items = d.sched.items := by
  unfold Device.dropDelay
  simp_all

@[simp] theorem Device.addDelay_front_qps (d : Device) (list : ℕ) (n : ℕ) (due : ℕ) : (Device.addDelay d list n due).front.qps = d.front.qps := by
  unfold Device.addDelay
  simp_all

@[simp] theorem Device.addDelay_front_vfs (d : Device) (list : ℕ) (n : ℕ) (due : ℕ) : (Device.addDelay d list n due).front.vfs = d.front.vfs := by
  unfold Device.addDelay
  simp_all

@[simp] theorem Device.addDelay_front_vfEnable (d : Device) (list : ℕ) (n : ℕ) (due : ℕ) : (Device.addDelay d list n due).front.vfEnable = d.front.vfEnable := by
  unfold Device.addDelay
  simp_all

@[simp] theorem Device.addDelay_front_numVfs (d : Device) (list : ℕ) (n : ℕ) (due : ℕ) : (Device.addDelay d list n due).front.numVfs = d.front.numVfs := by
  unfold Device.addDelay
  simp_all

@[simp] theorem Device.addDelay_cycle (d : Device) (list : ℕ) (n : ℕ) (due : ℕ) : (Device.addDelay d list n due).cycle = d.cycle := by
  unfold Device.addDelay
  simp_all

@[simp] theorem Device.addDelay_rings (d : Device) (list : ℕ) (n : ℕ) (due : ℕ) : (Device.addDelay d list n due).rings = d.rings := by
  unfold Device.addDelay
  simp_all

@[simp] theorem Device.addDelay_exporting (d : Device) (list : ℕ) (n : ℕ) (due : ℕ) : (Device.addDelay d list n due).exporting = d.exporting := by
  unfold Device.addDelay
  simp_all

@[simp] theorem Device.addDelay_sched_items (d : Device) (list : ℕ) (n : ℕ) (due : ℕ) : (Device.addDelay d list n due).sched.items = d.sched.items := by
  unfold Device.addDelay
  simp_all

@[simp] theorem Device.finishItem_front_qps (d : Device) (n : ℕ) (st : Status) (detail : ℕ) : (Device.finishItem d n st detail).front.qps = d.front.qps := by
  unfold Device.finishItem
  (repeat' split) <;> simp_all

@[simp] theorem Device.finishItem_front_vfs (d : Device) (n : ℕ) (st : Status) (detail : ℕ) : (Device.finishItem d n st detail).front.vfs = d.front.vfs := by
  unfold Device.finishItem
  (repeat' split) <;> simp_all

@[simp] theorem Device.finishItem_front_vfEnable (d : Device) (n : ℕ) (st : Status) (detail : ℕ) : (Device.finishItem d n st detail).front.vfEnable = d.front.vfEnable := by
  unfold Device.finishItem
  (repeat' split) <;> simp_all

@[simp] theorem Device.finishItem_front_numVfs (d : Device) (n : ℕ) (st : Status) (detail : ℕ) : (Device.finishItem d n st detail).front.numVfs = d.front.numVfs := by
  unfold Device.finishItem
  (repeat' split) <;> simp_all

@[simp] theorem Device.finishItem_cycle (d : Device) (n : ℕ) (st : Status) (detail : ℕ) : (Device.finishItem d n st detail).cycle = d.cycle := by
  unfold Device.finishItem
  (repeat' split) <;> simp_all

@[simp] theorem Device.finishItem_rings (d : Device) (n : ℕ) (st : Status) (detail : ℕ) : (Device.finishItem d n st detail).rings = d.rings := by
  unfold Device.finishItem
  (repeat' split) <;> simp_all

@[simp] theorem Device.finishItem_exporting (d : Device) (n : ℕ) (st : Status) (detail : ℕ) : (Device.finishItem d n st detail).exporting = d.exporting := by
  unfold Device.finishItem
  (repeat' split) <;> simp_all

@[simp] theorem Device.bumpCounter_front_qps (d : Device) (p : Page) (n : ℕ) (val : ℕ) (ovf : ℕ) (bitNo : ℕ) (inc : ℕ) : (Device.bumpCounter d p n val ovf bitNo inc).front.qps = d.front.qps := by
  unfold Device.bumpCounter
  simp_all

@[simp] theorem Device.bumpCounter_front_vfs (d : Device) (p : Page) (n : ℕ) (val : ℕ) (ovf : ℕ) (bitNo : ℕ) (inc : ℕ) : (Device.bumpCounter d p n val ovf bitNo inc).front.vfs = d.front.vfs := by
  unfold Device.bumpCounter
  simp_all

@[simp] theorem Device.bumpCounter_front_vfEnable (d : Device) (p : Page) (n : ℕ) (val : ℕ) (ovf : ℕ) (bitNo : ℕ) (inc : ℕ) : (Device.bumpCounter d p n val ovf bitNo inc).front.vfEnable = d.front.vfEnable := by
  unfold Device.bumpCounter
  simp_all

@[simp] theorem Device.bumpCounter_front_numVfs (d : Device) (p : Page) (n : ℕ) (val : ℕ) (ovf : ℕ) (bitNo : ℕ) (inc : ℕ) : (Device.bumpCounter d p n val ovf bitNo inc).front.numVfs = d.front.numVfs := by
  unfold Device.bumpCounter
  simp_all

@[simp] theorem Device.bumpCounter_sched (d : Device) (p : Page) (n : ℕ) (val : ℕ) (ovf : ℕ) (bitNo : ℕ) (inc : ℕ) : (Device.bumpCounter d p n val ovf bitNo inc).sched = d.sched := by
  unfold Device.bumpCounter
  simp_all

@[simp] theorem Device.bumpCounter_cycle (d : Device) (p : Page) (n : ℕ) (val : ℕ) (ovf : ℕ) (bitNo : ℕ) (inc : ℕ) : (Device.bumpCounter d p n val ovf bitNo inc).cycle = d.cycle := by
  unfold Device.bumpCounter
  simp_all

@[simp] theorem Device.bumpCounter_rings (d : Device) (p : Page) (n : ℕ) (val : ℕ) (ovf : ℕ) (bitNo : ℕ) (inc : ℕ) : (Device.bumpCounter d p n val ovf bitNo inc).rings = d.rings := by
  unfold Device.bumpCounter
  simp_all

@[simp] theorem Device.bumpCounter_exporting (d : Device) (p : Page) (n : ℕ) (val : ℕ) (ovf : ℕ) (bitNo : ℕ) (inc : ℕ) : (Device.bumpCounter d p n val ovf bitNo inc).exporting = d.exporting := by
  unfold Device.bumpCounter
  simp_all

@[simp] theorem Device.bumpCounter_sched_items (d : Device) (p : Page) (n : ℕ) (val : ℕ) (ovf : ℕ) (bitNo : ℕ) (inc : ℕ) : (Device.bumpCounter d p n val ovf bitNo inc).sched.items = d.sched.items := by
  unfold Device.bumpCounter
  simp_all

@[simp] theorem Device.pfCounter_front_qps (vf : Option ℕ) (ev : ℕ) (inc : ℕ) (d : Device) (c : ℕ) : (Device.pfCounter vf ev inc d c).front.qps = d.front.qps := by
  unfold Device.pfCounter
  (repeat' split) <;> simp_all

@[simp] theorem Device.pfCounter_front_vfs (vf : Option ℕ) (ev : ℕ) (inc : ℕ) (d : Device) (c : ℕ) : (Device.pfCounter vf ev inc d c).front.vfs = d.front.vfs := by
  unfold Device.pfCounter
  (repeat' split) <;> simp_all

@[simp] theorem Device.pfCounter_front_vfEnable (vf : Option ℕ) (ev : ℕ) (inc : ℕ) (d : Device) (c : ℕ) : (Device.pfCounter vf ev inc d c).front.vfEnable = d.front.vfEnable := by
  unfold Device.pfCounter
  (repeat' split) <;> simp_all

@[simp] theorem Device.pfCounter_front_numVfs (vf : Option ℕ) (ev : ℕ) (inc : ℕ) (d : Device) (c : ℕ) : (Device.pfCounter vf ev inc d c).front.numVfs = d.front.numVfs := by
  unfold Device.pfCounter
  (repeat' split) <;> simp_all

@[simp] theorem Device.pfCounter_sched (vf : Option ℕ) (ev : ℕ) (inc : ℕ) (d : Device) (c : ℕ) : (Device.pfCounter vf ev inc d c).sched = d.sched := by
  unfold Device.pfCounter
  (repeat' split) <;> simp_all

@[simp] theorem Device.pfCounter_cycle (vf : Option ℕ) (ev : ℕ) (inc : ℕ) (d : Device) (c : ℕ) : (Device.pfCounter vf ev inc d c).cycle = d.cycle := by
  unfold Device.pfCounter
  (repeat' split) <;> simp_all

@[simp] theorem Device.pfCounter_rings (vf : Option ℕ) (ev : ℕ) (inc : ℕ) (d : Device) (c : ℕ) : (Device.pfCounter vf ev inc d c).rings = d.rings := by
  unfold Device.pfCounter
  (repeat' split) <;> simp_all

@[simp] theorem Device.pfCounter_exporting (vf : Option ℕ) (ev : ℕ) (inc : ℕ) (d : Device) (c : ℕ) : (Device.pfCounter vf ev inc d c).exporting = d.exporting := by
  unfold Device.pfCounter
  (repeat' split) <;> simp_all

@[simp] theorem Device.pfCounter_sched_items (vf : Option ℕ) (ev : ℕ) (inc : ℕ) (d : Device) (c : ℕ) : (Device.pfCounter vf ev inc d c).sched.items = d.sched.items := by
  unfold Device.pfCounter
  (repeat' split) <;> simp_all

@[simp] theorem Device.vfCounter_front_qps (v : ℕ) (ev : ℕ) (inc : ℕ) (d : Device) (c : ℕ) : (Device.vfCounter v ev inc d c).front.qps = d.front.qps := by
  unfold Device.vfCounter
  (repeat' split) <;> simp_all

@[simp] theorem Device.vfCounter_front_vfs (v : ℕ) (ev : ℕ) (inc : ℕ) (d : Device) (c : ℕ) : (Device.vfCounter v ev inc d c).front.vfs = d.front.vfs := by
  unfold Device.vfCounter
  (repeat' split) <;> simp_all

@[simp] theorem Device.vfCounter_front_vfEnable (v : ℕ) (ev : ℕ) (inc : ℕ) (d : Device) (c : ℕ) : (Device.vfCounter v ev inc d c).front.vfEnable = d.front.vfEnable := by
  unfold Device.vfCounter
  (repeat' split) <;> simp_all

@[simp] theorem Device.vfCounter_front_numVfs (v : ℕ) (ev : ℕ) (inc : ℕ) (d : Device) (c : ℕ) : (Device.vfCounter v ev inc d c).front.numVfs = d.front.numVfs := by
  unfold Device.vfCounter
  (repeat' split) <;> simp_all

@[simp] theorem Device.vfCounter_sched (v : ℕ) (ev : ℕ) (inc : ℕ) (d : Device) (c : ℕ) : (Device.vfCounter v ev inc d c).sched = d.sched := by
  unfold Device.vfCounter
  (repeat' split) <;> simp_all

@[simp] theorem Device.vfCounter_cycle (v : ℕ) (ev : ℕ) (inc : ℕ) (d : Device) (c : ℕ) : (Device.vfCounter v ev inc d c).cycle = d.cycle := by
  unfold Device.vfCounter
  (repeat' split) <;> simp_all

@[simp] theorem Device.vfCounter_rings (v : ℕ) (ev : ℕ) (inc : ℕ) (d : Device) (c : ℕ) : (Device.vfCounter v ev inc d c).rings = d.rings := by
  unfold Device.vfCounter
  (repeat' split) <;> simp_all

@[simp] theorem Device.vfCounter_exporting (v : ℕ) (ev : ℕ) (inc : ℕ) (d : Device) (c : ℕ) : (Device.vfCounter v ev inc d c).exporting = d.exporting := by
  unfold Device.vfCounter
  (repeat' split) <;> simp_all

@[simp] theorem Device.vfCounter_sched_items (v : ℕ) (ev : ℕ) (inc : ℕ) (d : Device) (c : ℕ) : (Device.vfCounter v ev inc d c).sched.items = d.sched.items := by
  unfold Device.vfCounter
  (repeat' split) <;> simp_all

@[simp] theorem Device.countEvent_front_qps (d : Device) (vf : Option ℕ) (ev : ℕ) (inc : ℕ) : (Device.countEvent d vf ev inc).front.qps = d.front.qps := by
  unfold Device.countEvent
  (repeat' split) <;> simp_all

@[simp] theorem Device.countEvent_front_vfs (d : Device) (vf : Option ℕ) (ev : ℕ) (inc : ℕ) : (Device.countEvent d vf ev inc).front.vfs = d.front.vfs := by
  unfold Device.countEvent
  (repeat' split) <;> simp_all

@[simp] theorem Device.countEvent_front_vfEnable (d : Device) (vf : Option ℕ) (ev : ℕ) (inc : ℕ) : (Device.countEvent d vf ev inc).front.vfEnable = d.front.vfEnable := by
  unfold Device.countEvent
  (repeat' split) <;> simp_all

@[simp] theorem Device.countEvent_front_numVfs (d : Device) (vf : Option ℕ) (ev : ℕ) (inc : ℕ) : (Device.countEvent d vf ev inc).front.numVfs = d.front.numVfs := by
  unfold Device.countEvent
  (repeat' split) <;> simp_all

@[simp] theorem Device.countEvent_sched (d : Device) (vf : Option ℕ) (ev : ℕ) (inc : ℕ) : (Device.countEvent d vf ev inc).sched = d.sched := by
  unfold Device.countEvent
  (repeat' split) <;> simp_all

@[simp] theorem Device.countEvent_cycle (d : Device) (vf : Option ℕ) (ev : ℕ) (inc : ℕ) : (Device.countEvent d vf ev inc).cycle = d.cycle := by
  unfold Device.countEvent
  (repeat' split) <;> simp_all

@[simp] theorem Device.countEvent_rings (d : Device) (vf : Option ℕ) (ev : ℕ) (inc : ℕ) : (Device.countEvent d vf ev inc).rings = d.rings := by
  unfold Device.countEvent
  (repeat' split) <;> simp_all

@[simp] theorem Device.countEvent_exporting (d : Device) (vf : Option ℕ) (ev : ℕ) (inc : ℕ) : (Device.countEvent d vf ev inc).exporting = d.exporting := by
  unfold Device.countEvent
  (repeat' split) <;> simp_all

@[simp] theorem Device.countEvent_sched_items (d : Device) (vf : Option ℕ) (ev : ℕ) (inc : ℕ) : (Device.countEvent d vf ev inc).sched.items = d.sched.items := by
  unfold Device.countEvent
  (repeat' split) <;> simp_all

@[simp] theorem Device.alertCause_front_qps (d : Device) : (Device.alertCause d).front.qps = d.front.qps := by
  unfold Device.alertCause
  simp_all

@[simp] theorem Device.alertCause_front_vfs (d : Device) : (Device.alertCause d).front.vfs = d.front.vfs := by
  unfold Device.alertCause
  simp_all

@[simp] theorem Device.alertCause_front_vfEnable (d : Device) : (Device.alertCause d).front.vfEnable = d.front.vfEnable := by
  unfold Device.alertCause
  simp_all

@[simp] theorem Device.alertCause_front_numVfs (d : Device) : (Device.alertCause d).front.numVfs = d.front.numVfs := by
  unfold Device.alertCause
  simp_all

@[simp] theorem Device.alertCause_sched (d : Device) : (Device.alertCause d).sched = d.sched := by
  unfold Device.alertCause
  simp_all

@[simp] theorem Device.alertCause_cycle (d : Device) : (Device.alertCause d).cycle = d.cycle := by
  unfold Device.alertCause
  simp_all

@[simp] theorem Device.alertCause_rings (d : Device) : (Device.alertCause d).rings = d.rings := by
  unfold Device.alertCause
  simp_all

@[simp] theorem Device.alertCause_exporting (d : Device) : (Device.alertCause d).exporting = d.exporting := by
  unfold Device.alertCause
  simp_all

@[simp] theorem Device.alertCause_sched_items (d : Device) : (Device.alertCause d).sched.items = d.sched.items := by
  unfold Device.alertCause
  simp_all

@[simp] theorem Device.storeWords_front_qps (d : Device) (a : ℕ) (n : ℕ) (bs : Sys2Proof.Bytes) : (Device.storeWords d a n bs).front.qps = d.front.qps := by
  unfold Device.storeWords
  simp_all

@[simp] theorem Device.storeWords_front_vfs (d : Device) (a : ℕ) (n : ℕ) (bs : Sys2Proof.Bytes) : (Device.storeWords d a n bs).front.vfs = d.front.vfs := by
  unfold Device.storeWords
  simp_all

@[simp] theorem Device.storeWords_front_vfEnable (d : Device) (a : ℕ) (n : ℕ) (bs : Sys2Proof.Bytes) : (Device.storeWords d a n bs).front.vfEnable = d.front.vfEnable := by
  unfold Device.storeWords
  simp_all

@[simp] theorem Device.storeWords_front_numVfs (d : Device) (a : ℕ) (n : ℕ) (bs : Sys2Proof.Bytes) : (Device.storeWords d a n bs).front.numVfs = d.front.numVfs := by
  unfold Device.storeWords
  simp_all

@[simp] theorem Device.storeWords_sched (d : Device) (a : ℕ) (n : ℕ) (bs : Sys2Proof.Bytes) : (Device.storeWords d a n bs).sched = d.sched := by
  unfold Device.storeWords
  simp_all

@[simp] theorem Device.storeWords_cycle (d : Device) (a : ℕ) (n : ℕ) (bs : Sys2Proof.Bytes) : (Device.storeWords d a n bs).cycle = d.cycle := by
  unfold Device.storeWords
  simp_all

@[simp] theorem Device.storeWords_rings (d : Device) (a : ℕ) (n : ℕ) (bs : Sys2Proof.Bytes) : (Device.storeWords d a n bs).rings = d.rings := by
  unfold Device.storeWords
  simp_all

@[simp] theorem Device.storeWords_exporting (d : Device) (a : ℕ) (n : ℕ) (bs : Sys2Proof.Bytes) : (Device.storeWords d a n bs).exporting = d.exporting := by
  unfold Device.storeWords
  simp_all

@[simp] theorem Device.storeWords_sched_items (d : Device) (a : ℕ) (n : ℕ) (bs : Sys2Proof.Bytes) : (Device.storeWords d a n bs).sched.items = d.sched.items := by
  unfold Device.storeWords
  simp_all

@[simp] theorem Device.placeFrame_front_qps (d : Device) : (Device.placeFrame d).front.qps = d.front.qps := by
  unfold Device.placeFrame
  (repeat' split) <;> simp_all

@[simp] theorem Device.placeFrame_front_vfs (d : Device) : (Device.placeFrame d).front.vfs = d.front.vfs := by
  unfold Device.placeFrame
  (repeat' split) <;> simp_all

@[simp] theorem Device.placeFrame_front_vfEnable (d : Device) : (Device.placeFrame d).front.vfEnable = d.front.vfEnable := by
  unfold Device.placeFrame
  (repeat' split) <;> simp_all

@[simp] theorem Device.placeFrame_front_numVfs (d : Device) : (Device.placeFrame d).front.numVfs = d.front.numVfs := by
  unfold Device.placeFrame
  (repeat' split) <;> simp_all

@[simp] theorem Device.placeFrame_sched (d : Device) : (Device.placeFrame d).sched = d.sched := by
  unfold Device.placeFrame
  (repeat' split) <;> simp_all

@[simp] theorem Device.placeFrame_cycle (d : Device) : (Device.placeFrame d).cycle = d.cycle := by
  unfold Device.placeFrame
  (repeat' split) <;> simp_all

@[simp] theorem Device.placeFrame_rings (d : Device) : (Device.placeFrame d).rings = d.rings := by
  unfold Device.placeFrame
  (repeat' split) <;> simp_all

@[simp] theorem Device.placeFrame_exporting (d : Device) : (Device.placeFrame d).exporting = d.exporting := by
  unfold Device.placeFrame
  (repeat' split) <;> simp_all

@[simp] theorem Device.placeFrame_sched_items (d : Device) : (Device.placeFrame d).sched.items = d.sched.items := by
  unfold Device.placeFrame
  (repeat' split) <;> simp_all

@[simp] theorem Device.olihildReply_front_qps (d : Device) (carrier : ℕ) (typ : ℕ) (status : ℕ) (id : ℕ) (body : Sys2Proof.Bytes) : (Device.olihildReply d carrier typ status id body).front.qps = d.front.qps := by
  unfold Device.olihildReply
  (repeat' split) <;> simp_all

@[simp] theorem Device.olihildReply_front_vfs (d : Device) (carrier : ℕ) (typ : ℕ) (status : ℕ) (id : ℕ) (body : Sys2Proof.Bytes) : (Device.olihildReply d carrier typ status id body).front.vfs = d.front.vfs := by
  unfold Device.olihildReply
  (repeat' split) <;> simp_all

@[simp] theorem Device.olihildReply_front_vfEnable (d : Device) (carrier : ℕ) (typ : ℕ) (status : ℕ) (id : ℕ) (body : Sys2Proof.Bytes) : (Device.olihildReply d carrier typ status id body).front.vfEnable = d.front.vfEnable := by
  unfold Device.olihildReply
  (repeat' split) <;> simp_all

@[simp] theorem Device.olihildReply_front_numVfs (d : Device) (carrier : ℕ) (typ : ℕ) (status : ℕ) (id : ℕ) (body : Sys2Proof.Bytes) : (Device.olihildReply d carrier typ status id body).front.numVfs = d.front.numVfs := by
  unfold Device.olihildReply
  (repeat' split) <;> simp_all

@[simp] theorem Device.olihildReply_sched (d : Device) (carrier : ℕ) (typ : ℕ) (status : ℕ) (id : ℕ) (body : Sys2Proof.Bytes) : (Device.olihildReply d carrier typ status id body).sched = d.sched := by
  unfold Device.olihildReply
  (repeat' split) <;> simp_all

@[simp] theorem Device.olihildReply_cycle (d : Device) (carrier : ℕ) (typ : ℕ) (status : ℕ) (id : ℕ) (body : Sys2Proof.Bytes) : (Device.olihildReply d carrier typ status id body).cycle = d.cycle := by
  unfold Device.olihildReply
  (repeat' split) <;> simp_all

@[simp] theorem Device.olihildReply_rings (d : Device) (carrier : ℕ) (typ : ℕ) (status : ℕ) (id : ℕ) (body : Sys2Proof.Bytes) : (Device.olihildReply d carrier typ status id body).rings = d.rings := by
  unfold Device.olihildReply
  (repeat' split) <;> simp_all

@[simp] theorem Device.olihildReply_exporting (d : Device) (carrier : ℕ) (typ : ℕ) (status : ℕ) (id : ℕ) (body : Sys2Proof.Bytes) : (Device.olihildReply d carrier typ status id body).exporting = d.exporting := by
  unfold Device.olihildReply
  (repeat' split) <;> simp_all

@[simp] theorem Device.olihildReply_sched_items (d : Device) (carrier : ℕ) (typ : ℕ) (status : ℕ) (id : ℕ) (body : Sys2Proof.Bytes) : (Device.olihildReply d carrier typ status id body).sched.items = d.sched.items := by
  unfold Device.olihildReply
  (repeat' split) <;> simp_all

@[simp] theorem Device.clearLocks_front_qps (d : Device) : (Device.clearLocks d).front.qps = d.front.qps := by
  unfold Device.clearLocks
  simp_all

@[simp] theorem Device.clearLocks_front_vfs (d : Device) : (Device.clearLocks d).front.vfs = d.front.vfs := by
  unfold Device.clearLocks
  simp_all

@[simp] theorem Device.clearLocks_front_vfEnable (d : Device) : (Device.clearLocks d).front.vfEnable = d.front.vfEnable := by
  unfold Device.clearLocks
  simp_all

@[simp] theorem Device.clearLocks_front_numVfs (d : Device) : (Device.clearLocks d).front.numVfs = d.front.numVfs := by
  unfold Device.clearLocks
  simp_all

@[simp] theorem Device.clearLocks_sched (d : Device) : (Device.clearLocks d).sched = d.sched := by
  unfold Device.clearLocks
  simp_all

@[simp] theorem Device.clearLocks_cycle (d : Device) : (Device.clearLocks d).cycle = d.cycle := by
  unfold Device.clearLocks
  simp_all

@[simp] theorem Device.clearLocks_rings (d : Device) : (Device.clearLocks d).rings = d.rings := by
  unfold Device.clearLocks
  simp_all

@[simp] theorem Device.clearLocks_exporting (d : Device) : (Device.clearLocks d).exporting = d.exporting := by
  unfold Device.clearLocks
  simp_all

@[simp] theorem Device.clearLocks_sched_items (d : Device) : (Device.clearLocks d).sched.items = d.sched.items := by
  unfold Device.clearLocks
  simp_all

@[simp] theorem Device.signalMode_front_qps (d : Device) : (Device.signalMode d).front.qps = d.front.qps := by
  unfold Device.signalMode
  simp_all

@[simp] theorem Device.signalMode_front_vfs (d : Device) : (Device.signalMode d).front.vfs = d.front.vfs := by
  unfold Device.signalMode
  simp_all

@[simp] theorem Device.signalMode_front_vfEnable (d : Device) : (Device.signalMode d).front.vfEnable = d.front.vfEnable := by
  unfold Device.signalMode
  simp_all

@[simp] theorem Device.signalMode_front_numVfs (d : Device) : (Device.signalMode d).front.numVfs = d.front.numVfs := by
  unfold Device.signalMode
  simp_all

@[simp] theorem Device.signalMode_sched (d : Device) : (Device.signalMode d).sched = d.sched := by
  unfold Device.signalMode
  simp_all

@[simp] theorem Device.signalMode_cycle (d : Device) : (Device.signalMode d).cycle = d.cycle := by
  unfold Device.signalMode
  simp_all

@[simp] theorem Device.signalMode_rings (d : Device) : (Device.signalMode d).rings = d.rings := by
  unfold Device.signalMode
  simp_all

@[simp] theorem Device.signalMode_exporting (d : Device) : (Device.signalMode d).exporting = d.exporting := by
  unfold Device.signalMode
  simp_all

@[simp] theorem Device.signalMode_sched_items (d : Device) : (Device.signalMode d).sched.items = d.sched.items := by
  unfold Device.signalMode
  simp_all

@[simp] theorem Device.enterMode_front_qps (d : Device) (m : Mode) : (Device.enterMode d m).front.qps = d.front.qps := by
  unfold Device.enterMode
  (repeat' split) <;> simp_all

@[simp] theorem Device.enterMode_front_vfs (d : Device) (m : Mode) : (Device.enterMode d m).front.vfs = d.front.vfs := by
  unfold Device.enterMode
  (repeat' split) <;> simp_all

@[simp] theorem Device.enterMode_front_vfEnable (d : Device) (m : Mode) : (Device.enterMode d m).front.vfEnable = d.front.vfEnable := by
  unfold Device.enterMode
  (repeat' split) <;> simp_all

@[simp] theorem Device.enterMode_front_numVfs (d : Device) (m : Mode) : (Device.enterMode d m).front.numVfs = d.front.numVfs := by
  unfold Device.enterMode
  (repeat' split) <;> simp_all

@[simp] theorem Device.enterMode_sched (d : Device) (m : Mode) : (Device.enterMode d m).sched = d.sched := by
  unfold Device.enterMode
  (repeat' split) <;> simp_all

@[simp] theorem Device.enterMode_cycle (d : Device) (m : Mode) : (Device.enterMode d m).cycle = d.cycle := by
  unfold Device.enterMode
  (repeat' split) <;> simp_all

@[simp] theorem Device.enterMode_rings (d : Device) (m : Mode) : (Device.enterMode d m).rings = d.rings := by
  unfold Device.enterMode
  (repeat' split) <;> simp_all

@[simp] theorem Device.enterMode_exporting (d : Device) (m : Mode) : (Device.enterMode d m).exporting = d.exporting := by
  unfold Device.enterMode
  (repeat' split) <;> simp_all

@[simp] theorem Device.enterMode_sched_items (d : Device) (m : Mode) : (Device.enterMode d m).sched.items = d.sched.items := by
  unfold Device.enterMode
  (repeat' split) <;> simp_all

@[simp] theorem Device.stopItem_front_qps (d : Device) (n : ℕ) (x : Item) : (Device.stopItem d n x).front.qps = d.front.qps := by
  unfold Device.stopItem
  (repeat' split) <;> simp_all

@[simp] theorem Device.stopItem_front_vfs (d : Device) (n : ℕ) (x : Item) : (Device.stopItem d n x).front.vfs = d.front.vfs := by
  unfold Device.stopItem
  (repeat' split) <;> simp_all

@[simp] theorem Device.stopItem_front_vfEnable (d : Device) (n : ℕ) (x : Item) : (Device.stopItem d n x).front.vfEnable = d.front.vfEnable := by
  unfold Device.stopItem
  (repeat' split) <;> simp_all

@[simp] theorem Device.stopItem_front_numVfs (d : Device) (n : ℕ) (x : Item) : (Device.stopItem d n x).front.numVfs = d.front.numVfs := by
  unfold Device.stopItem
  (repeat' split) <;> simp_all

@[simp] theorem Device.stopItem_cycle (d : Device) (n : ℕ) (x : Item) : (Device.stopItem d n x).cycle = d.cycle := by
  unfold Device.stopItem
  (repeat' split) <;> simp_all

@[simp] theorem Device.stopItem_rings (d : Device) (n : ℕ) (x : Item) : (Device.stopItem d n x).rings = d.rings := by
  unfold Device.stopItem
  (repeat' split) <;> simp_all

@[simp] theorem Device.stopItem_exporting (d : Device) (n : ℕ) (x : Item) : (Device.stopItem d n x).exporting = d.exporting := by
  unfold Device.stopItem
  (repeat' split) <;> simp_all

@[simp] theorem Device.burnJoins_front_qps (d : Device) : (Device.burnJoins d).front.qps = d.front.qps := by
  unfold Device.burnJoins
  (repeat' split) <;> simp_all

@[simp] theorem Device.burnJoins_front_vfs (d : Device) : (Device.burnJoins d).front.vfs = d.front.vfs := by
  unfold Device.burnJoins
  (repeat' split) <;> simp_all

@[simp] theorem Device.burnJoins_front_vfEnable (d : Device) : (Device.burnJoins d).front.vfEnable = d.front.vfEnable := by
  unfold Device.burnJoins
  (repeat' split) <;> simp_all

@[simp] theorem Device.burnJoins_front_numVfs (d : Device) : (Device.burnJoins d).front.numVfs = d.front.numVfs := by
  unfold Device.burnJoins
  (repeat' split) <;> simp_all

@[simp] theorem Device.burnJoins_sched (d : Device) : (Device.burnJoins d).sched = d.sched := by
  unfold Device.burnJoins
  (repeat' split) <;> simp_all

@[simp] theorem Device.burnJoins_cycle (d : Device) : (Device.burnJoins d).cycle = d.cycle := by
  unfold Device.burnJoins
  (repeat' split) <;> simp_all

@[simp] theorem Device.burnJoins_rings (d : Device) : (Device.burnJoins d).rings = d.rings := by
  unfold Device.burnJoins
  (repeat' split) <;> simp_all

@[simp] theorem Device.burnJoins_exporting (d : Device) : (Device.burnJoins d).exporting = d.exporting := by
  unfold Device.burnJoins
  (repeat' split) <;> simp_all

@[simp] theorem Device.burnJoins_sched_items (d : Device) : (Device.burnJoins d).sched.items = d.sched.items := by
  unfold Device.burnJoins
  (repeat' split) <;> simp_all

@[simp] theorem Device.stick_front_qps (d : Device) (i : ℕ) : (Device.stick d i).front.qps = d.front.qps := by
  unfold Device.stick
  simp_all

@[simp] theorem Device.stick_front_vfs (d : Device) (i : ℕ) : (Device.stick d i).front.vfs = d.front.vfs := by
  unfold Device.stick
  simp_all

@[simp] theorem Device.stick_front_vfEnable (d : Device) (i : ℕ) : (Device.stick d i).front.vfEnable = d.front.vfEnable := by
  unfold Device.stick
  simp_all

@[simp] theorem Device.stick_front_numVfs (d : Device) (i : ℕ) : (Device.stick d i).front.numVfs = d.front.numVfs := by
  unfold Device.stick
  simp_all

@[simp] theorem Device.stick_sched (d : Device) (i : ℕ) : (Device.stick d i).sched = d.sched := by
  unfold Device.stick
  simp_all

@[simp] theorem Device.stick_cycle (d : Device) (i : ℕ) : (Device.stick d i).cycle = d.cycle := by
  unfold Device.stick
  simp_all

@[simp] theorem Device.stick_rings (d : Device) (i : ℕ) : (Device.stick d i).rings = d.rings := by
  unfold Device.stick
  simp_all

@[simp] theorem Device.stick_exporting (d : Device) (i : ℕ) : (Device.stick d i).exporting = d.exporting := by
  unfold Device.stick
  simp_all

@[simp] theorem Device.stick_sched_items (d : Device) (i : ℕ) : (Device.stick d i).sched.items = d.sched.items := by
  unfold Device.stick
  simp_all

@[simp] theorem Device.setRootClass_front_qps (d : Device) (c : ℕ) : (Device.setRootClass d c).front.qps = d.front.qps := by
  unfold Device.setRootClass
  (repeat' split) <;> simp_all

@[simp] theorem Device.setRootClass_front_vfs (d : Device) (c : ℕ) : (Device.setRootClass d c).front.vfs = d.front.vfs := by
  unfold Device.setRootClass
  (repeat' split) <;> simp_all

@[simp] theorem Device.setRootClass_front_vfEnable (d : Device) (c : ℕ) : (Device.setRootClass d c).front.vfEnable = d.front.vfEnable := by
  unfold Device.setRootClass
  (repeat' split) <;> simp_all

@[simp] theorem Device.setRootClass_front_numVfs (d : Device) (c : ℕ) : (Device.setRootClass d c).front.numVfs = d.front.numVfs := by
  unfold Device.setRootClass
  (repeat' split) <;> simp_all

@[simp] theorem Device.setRootClass_sched (d : Device) (c : ℕ) : (Device.setRootClass d c).sched = d.sched := by
  unfold Device.setRootClass
  (repeat' split) <;> simp_all

@[simp] theorem Device.setRootClass_cycle (d : Device) (c : ℕ) : (Device.setRootClass d c).cycle = d.cycle := by
  unfold Device.setRootClass
  (repeat' split) <;> simp_all

@[simp] theorem Device.setRootClass_rings (d : Device) (c : ℕ) : (Device.setRootClass d c).rings = d.rings := by
  unfold Device.setRootClass
  (repeat' split) <;> simp_all

@[simp] theorem Device.setRootClass_exporting (d : Device) (c : ℕ) : (Device.setRootClass d c).exporting = d.exporting := by
  unfold Device.setRootClass
  (repeat' split) <;> simp_all

@[simp] theorem Device.setRootClass_sched_items (d : Device) (c : ℕ) : (Device.setRootClass d c).sched.items = d.sched.items := by
  unfold Device.setRootClass
  (repeat' split) <;> simp_all

@[simp] theorem Device.squashAll_front_qps (d : Device) : (Device.squashAll d).front.qps = d.front.qps := by
  unfold Device.squashAll
  simp_all

@[simp] theorem Device.squashAll_front_vfs (d : Device) : (Device.squashAll d).front.vfs = d.front.vfs := by
  unfold Device.squashAll
  simp_all

@[simp] theorem Device.squashAll_front_vfEnable (d : Device) : (Device.squashAll d).front.vfEnable = d.front.vfEnable := by
  unfold Device.squashAll
  simp_all

@[simp] theorem Device.squashAll_front_numVfs (d : Device) : (Device.squashAll d).front.numVfs = d.front.numVfs := by
  unfold Device.squashAll
  simp_all

@[simp] theorem Device.squashAll_cycle (d : Device) : (Device.squashAll d).cycle = d.cycle := by
  unfold Device.squashAll
  simp_all

@[simp] theorem Device.squashAll_rings (d : Device) : (Device.squashAll d).rings = d.rings := by
  unfold Device.squashAll
  simp_all

@[simp] theorem Device.squashAll_exporting (d : Device) : (Device.squashAll d).exporting = d.exporting := by
  unfold Device.squashAll
  simp_all

@[simp] theorem Device.setSource_front_qps (d : Device) (s : ℕ) (x : Source) : (Device.setSource d s x).front.qps = d.front.qps := by
  unfold Device.setSource
  simp_all

@[simp] theorem Device.setSource_front_vfs (d : Device) (s : ℕ) (x : Source) : (Device.setSource d s x).front.vfs = d.front.vfs := by
  unfold Device.setSource
  simp_all

@[simp] theorem Device.setSource_front_vfEnable (d : Device) (s : ℕ) (x : Source) : (Device.setSource d s x).front.vfEnable = d.front.vfEnable := by
  unfold Device.setSource
  simp_all

@[simp] theorem Device.setSource_front_numVfs (d : Device) (s : ℕ) (x : Source) : (Device.setSource d s x).front.numVfs = d.front.numVfs := by
  unfold Device.setSource
  simp_all

@[simp] theorem Device.setSource_sched (d : Device) (s : ℕ) (x : Source) : (Device.setSource d s x).sched = d.sched := by
  unfold Device.setSource
  simp_all

@[simp] theorem Device.setSource_cycle (d : Device) (s : ℕ) (x : Source) : (Device.setSource d s x).cycle = d.cycle := by
  unfold Device.setSource
  simp_all

@[simp] theorem Device.setSource_rings (d : Device) (s : ℕ) (x : Source) : (Device.setSource d s x).rings = d.rings := by
  unfold Device.setSource
  simp_all

@[simp] theorem Device.setSource_exporting (d : Device) (s : ℕ) (x : Source) : (Device.setSource d s x).exporting = d.exporting := by
  unfold Device.setSource
  simp_all

@[simp] theorem Device.setSource_sched_items (d : Device) (s : ℕ) (x : Source) : (Device.setSource d s x).sched.items = d.sched.items := by
  unfold Device.setSource
  simp_all

@[simp] theorem Device.holdCause_front_qps (d : Device) (s : ℕ) (held : Bool) : (Device.holdCause d s held).front.qps = d.front.qps := by
  unfold Device.holdCause
  (repeat' split) <;> simp_all

@[simp] theorem Device.holdCause_front_vfs (d : Device) (s : ℕ) (held : Bool) : (Device.holdCause d s held).front.vfs = d.front.vfs := by
  unfold Device.holdCause
  (repeat' split) <;> simp_all

@[simp] theorem Device.holdCause_front_vfEnable (d : Device) (s : ℕ) (held : Bool) : (Device.holdCause d s held).front.vfEnable = d.front.vfEnable := by
  unfold Device.holdCause
  (repeat' split) <;> simp_all

@[simp] theorem Device.holdCause_front_numVfs (d : Device) (s : ℕ) (held : Bool) : (Device.holdCause d s held).front.numVfs = d.front.numVfs := by
  unfold Device.holdCause
  (repeat' split) <;> simp_all

@[simp] theorem Device.holdCause_sched (d : Device) (s : ℕ) (held : Bool) : (Device.holdCause d s held).sched = d.sched := by
  unfold Device.holdCause
  (repeat' split) <;> simp_all

@[simp] theorem Device.holdCause_cycle (d : Device) (s : ℕ) (held : Bool) : (Device.holdCause d s held).cycle = d.cycle := by
  unfold Device.holdCause
  (repeat' split) <;> simp_all

@[simp] theorem Device.holdCause_rings (d : Device) (s : ℕ) (held : Bool) : (Device.holdCause d s held).rings = d.rings := by
  unfold Device.holdCause
  (repeat' split) <;> simp_all

@[simp] theorem Device.holdCause_exporting (d : Device) (s : ℕ) (held : Bool) : (Device.holdCause d s held).exporting = d.exporting := by
  unfold Device.holdCause
  (repeat' split) <;> simp_all

@[simp] theorem Device.holdCause_sched_items (d : Device) (s : ℕ) (held : Bool) : (Device.holdCause d s held).sched.items = d.sched.items := by
  unfold Device.holdCause
  (repeat' split) <;> simp_all

@[simp] theorem Device.noteWrite_front_qps (d : Device) (a : ℕ) : (Device.noteWrite d a).front.qps = d.front.qps := rfl

@[simp] theorem Device.noteWrite_front_vfs (d : Device) (a : ℕ) : (Device.noteWrite d a).front.vfs = d.front.vfs := rfl

@[simp] theorem Device.noteWrite_front_vfEnable (d : Device) (a : ℕ) : (Device.noteWrite d a).front.vfEnable = d.front.vfEnable := rfl

@[simp] theorem Device.noteWrite_front_numVfs (d : Device) (a : ℕ) : (Device.noteWrite d a).front.numVfs = d.front.numVfs := rfl

@[simp] theorem Device.noteWrite_sched (d : Device) (a : ℕ) : (Device.noteWrite d a).sched = d.sched := rfl

@[simp] theorem Device.noteWrite_cycle (d : Device) (a : ℕ) : (Device.noteWrite d a).cycle = d.cycle := rfl

@[simp] theorem Device.noteWrite_rings (d : Device) (a : ℕ) : (Device.noteWrite d a).rings = d.rings := rfl

@[simp] theorem Device.noteWrite_exporting (d : Device) (a : ℕ) : (Device.noteWrite d a).exporting = d.exporting := rfl

@[simp] theorem Device.noteWrite_sched_items (d : Device) (a : ℕ) : (Device.noteWrite d a).sched.items = d.sched.items := rfl

@[simp] theorem Device.noteReturn_front_qps (d : Device) (lo hi : ℕ) : (Device.noteReturn d lo hi).front.qps = d.front.qps := by
  unfold Device.noteReturn
  simp

@[simp] theorem Device.noteReturn_front_vfs (d : Device) (lo hi : ℕ) : (Device.noteReturn d lo hi).front.vfs = d.front.vfs := by
  unfold Device.noteReturn
  simp

@[simp] theorem Device.noteReturn_front_vfEnable (d : Device) (lo hi : ℕ) : (Device.noteReturn d lo hi).front.vfEnable = d.front.vfEnable := by
  unfold Device.noteReturn
  simp

@[simp] theorem Device.noteReturn_front_numVfs (d : Device) (lo hi : ℕ) : (Device.noteReturn d lo hi).front.numVfs = d.front.numVfs := by
  unfold Device.noteReturn
  simp

@[simp] theorem Device.noteReturn_sched (d : Device) (lo hi : ℕ) : (Device.noteReturn d lo hi).sched = d.sched := by
  unfold Device.noteReturn
  simp

@[simp] theorem Device.noteReturn_cycle (d : Device) (lo hi : ℕ) : (Device.noteReturn d lo hi).cycle = d.cycle := by
  unfold Device.noteReturn
  simp

@[simp] theorem Device.noteReturn_rings (d : Device) (lo hi : ℕ) : (Device.noteReturn d lo hi).rings = d.rings := by
  unfold Device.noteReturn
  simp

@[simp] theorem Device.noteReturn_exporting (d : Device) (lo hi : ℕ) : (Device.noteReturn d lo hi).exporting = d.exporting := by
  unfold Device.noteReturn
  simp

@[simp] theorem Device.noteReturn_sched_items (d : Device) (lo hi : ℕ) : (Device.noteReturn d lo hi).sched.items = d.sched.items := by
  unfold Device.noteReturn
  simp

@[simp] theorem Device.onCommand_front_qps (d : Device) (a : ℕ) (f : Device → Device) (hf : ∀ x0, (f x0).front.qps = x0.front.qps): (Device.onCommand d a f).front.qps = d.front.qps := by
  unfold Device.onCommand
  (repeat' split) <;> simp_all

@[simp] theorem Device.onCommand_front_vfs (d : Device) (a : ℕ) (f : Device → Device) (hf : ∀ x0, (f x0).front.vfs = x0.front.vfs): (Device.onCommand d a f).front.vfs = d.front.vfs := by
  unfold Device.onCommand
  (repeat' split) <;> simp_all

@[simp] theorem Device.onCommand_front_vfEnable (d : Device) (a : ℕ) (f : Device → Device) (hf : ∀ x0, (f x0).front.vfEnable = x0.front.vfEnable): (Device.onCommand d a f).front.vfEnable = d.front.vfEnable := by
  unfold Device.onCommand
  (repeat' split) <;> simp_all

@[simp] theorem Device.onCommand_front_numVfs (d : Device) (a : ℕ) (f : Device → Device) (hf : ∀ x0, (f x0).front.numVfs = x0.front.numVfs): (Device.onCommand d a f).front.numVfs = d.front.numVfs := by
  unfold Device.onCommand
  (repeat' split) <;> simp_all

@[simp] theorem Device.onCommand_sched (d : Device) (a : ℕ) (f : Device → Device) (hf : ∀ x0, (f x0).sched = x0.sched): (Device.onCommand d a f).sched = d.sched := by
  unfold Device.onCommand
  (repeat' split) <;> simp_all

@[simp] theorem Device.onCommand_cycle (d : Device) (a : ℕ) (f : Device → Device) (hf : ∀ x0, (f x0).cycle = x0.cycle): (Device.onCommand d a f).cycle = d.cycle := by
  unfold Device.onCommand
  (repeat' split) <;> simp_all

@[simp] theorem Device.onCommand_rings (d : Device) (a : ℕ) (f : Device → Device) (hf : ∀ x0, (f x0).rings = x0.rings): (Device.onCommand d a f).rings = d.rings := by
  unfold Device.onCommand
  (repeat' split) <;> simp_all

@[simp] theorem Device.onCommand_exporting (d : Device) (a : ℕ) (f : Device → Device) (hf : ∀ x0, (f x0).exporting = x0.exporting): (Device.onCommand d a f).exporting = d.exporting := by
  unfold Device.onCommand
  (repeat' split) <;> simp_all

@[simp] theorem Device.onCommand_sched_items (d : Device) (a : ℕ) (f : Device → Device) (hf : ∀ x0, (f x0).sched.items = x0.sched.items): (Device.onCommand d a f).sched.items = d.sched.items := by
  unfold Device.onCommand
  (repeat' split) <;> simp_all

@[simp] theorem Device.onWrite_front_qps (d : Device) (a : ℕ) (f : Device → Device) (hf : ∀ x0, (f x0).front.qps = x0.front.qps): (Device.onWrite d a f).front.qps = d.front.qps := by
  unfold Device.onWrite
  (repeat' split) <;> simp_all

@[simp] theorem Device.onWrite_front_vfs (d : Device) (a : ℕ) (f : Device → Device) (hf : ∀ x0, (f x0).front.vfs = x0.front.vfs): (Device.onWrite d a f).front.vfs = d.front.vfs := by
  unfold Device.onWrite
  (repeat' split) <;> simp_all

@[simp] theorem Device.onWrite_front_vfEnable (d : Device) (a : ℕ) (f : Device → Device) (hf : ∀ x0, (f x0).front.vfEnable = x0.front.vfEnable): (Device.onWrite d a f).front.vfEnable = d.front.vfEnable := by
  unfold Device.onWrite
  (repeat' split) <;> simp_all

@[simp] theorem Device.onWrite_front_numVfs (d : Device) (a : ℕ) (f : Device → Device) (hf : ∀ x0, (f x0).front.numVfs = x0.front.numVfs): (Device.onWrite d a f).front.numVfs = d.front.numVfs := by
  unfold Device.onWrite
  (repeat' split) <;> simp_all

@[simp] theorem Device.onWrite_sched (d : Device) (a : ℕ) (f : Device → Device) (hf : ∀ x0, (f x0).sched = x0.sched): (Device.onWrite d a f).sched = d.sched := by
  unfold Device.onWrite
  (repeat' split) <;> simp_all

@[simp] theorem Device.onWrite_cycle (d : Device) (a : ℕ) (f : Device → Device) (hf : ∀ x0, (f x0).cycle = x0.cycle): (Device.onWrite d a f).cycle = d.cycle := by
  unfold Device.onWrite
  (repeat' split) <;> simp_all

@[simp] theorem Device.onWrite_rings (d : Device) (a : ℕ) (f : Device → Device) (hf : ∀ x0, (f x0).rings = x0.rings): (Device.onWrite d a f).rings = d.rings := by
  unfold Device.onWrite
  (repeat' split) <;> simp_all

@[simp] theorem Device.onWrite_exporting (d : Device) (a : ℕ) (f : Device → Device) (hf : ∀ x0, (f x0).exporting = x0.exporting): (Device.onWrite d a f).exporting = d.exporting := by
  unfold Device.onWrite
  (repeat' split) <;> simp_all

@[simp] theorem Device.onWrite_sched_items (d : Device) (a : ℕ) (f : Device → Device) (hf : ∀ x0, (f x0).sched.items = x0.sched.items): (Device.onWrite d a f).sched.items = d.sched.items := by
  unfold Device.onWrite
  (repeat' split) <;> simp_all

@[simp] theorem Device.onIdle_front_qps (d : Device) (a : ℕ) (req : ℕ) (busy : ℕ) (f : Device → Device) (hf : ∀ x0, (f x0).front.qps = x0.front.qps): (Device.onIdle d a req busy f).front.qps = d.front.qps := by
  unfold Device.onIdle
  simp_all

@[simp] theorem Device.onIdle_front_vfs (d : Device) (a : ℕ) (req : ℕ) (busy : ℕ) (f : Device → Device) (hf : ∀ x0, (f x0).front.vfs = x0.front.vfs): (Device.onIdle d a req busy f).front.vfs = d.front.vfs := by
  unfold Device.onIdle
  simp_all

@[simp] theorem Device.onIdle_front_vfEnable (d : Device) (a : ℕ) (req : ℕ) (busy : ℕ) (f : Device → Device) (hf : ∀ x0, (f x0).front.vfEnable = x0.front.vfEnable): (Device.onIdle d a req busy f).front.vfEnable = d.front.vfEnable := by
  unfold Device.onIdle
  simp_all

@[simp] theorem Device.onIdle_front_numVfs (d : Device) (a : ℕ) (req : ℕ) (busy : ℕ) (f : Device → Device) (hf : ∀ x0, (f x0).front.numVfs = x0.front.numVfs): (Device.onIdle d a req busy f).front.numVfs = d.front.numVfs := by
  unfold Device.onIdle
  simp_all

@[simp] theorem Device.onIdle_sched (d : Device) (a : ℕ) (req : ℕ) (busy : ℕ) (f : Device → Device) (hf : ∀ x0, (f x0).sched = x0.sched): (Device.onIdle d a req busy f).sched = d.sched := by
  unfold Device.onIdle
  simp_all

@[simp] theorem Device.onIdle_cycle (d : Device) (a : ℕ) (req : ℕ) (busy : ℕ) (f : Device → Device) (hf : ∀ x0, (f x0).cycle = x0.cycle): (Device.onIdle d a req busy f).cycle = d.cycle := by
  unfold Device.onIdle
  simp_all

@[simp] theorem Device.onIdle_rings (d : Device) (a : ℕ) (req : ℕ) (busy : ℕ) (f : Device → Device) (hf : ∀ x0, (f x0).rings = x0.rings): (Device.onIdle d a req busy f).rings = d.rings := by
  unfold Device.onIdle
  simp_all

@[simp] theorem Device.onIdle_exporting (d : Device) (a : ℕ) (req : ℕ) (busy : ℕ) (f : Device → Device) (hf : ∀ x0, (f x0).exporting = x0.exporting): (Device.onIdle d a req busy f).exporting = d.exporting := by
  unfold Device.onIdle
  simp_all

@[simp] theorem Device.w1c_front_qps (d : Device) (a : ℕ) (m : ℕ) : (Device.w1c d a m).front.qps = d.front.qps := by
  unfold Device.w1c
  simp_all

@[simp] theorem Device.w1c_front_vfs (d : Device) (a : ℕ) (m : ℕ) : (Device.w1c d a m).front.vfs = d.front.vfs := by
  unfold Device.w1c
  simp_all

@[simp] theorem Device.w1c_front_vfEnable (d : Device) (a : ℕ) (m : ℕ) : (Device.w1c d a m).front.vfEnable = d.front.vfEnable := by
  unfold Device.w1c
  simp_all

@[simp] theorem Device.w1c_front_numVfs (d : Device) (a : ℕ) (m : ℕ) : (Device.w1c d a m).front.numVfs = d.front.numVfs := by
  unfold Device.w1c
  simp_all

@[simp] theorem Device.w1c_sched (d : Device) (a : ℕ) (m : ℕ) : (Device.w1c d a m).sched = d.sched := by
  unfold Device.w1c
  simp_all

@[simp] theorem Device.w1c_cycle (d : Device) (a : ℕ) (m : ℕ) : (Device.w1c d a m).cycle = d.cycle := by
  unfold Device.w1c
  simp_all

@[simp] theorem Device.w1c_rings (d : Device) (a : ℕ) (m : ℕ) : (Device.w1c d a m).rings = d.rings := by
  unfold Device.w1c
  simp_all

@[simp] theorem Device.w1c_exporting (d : Device) (a : ℕ) (m : ℕ) : (Device.w1c d a m).exporting = d.exporting := by
  unfold Device.w1c
  simp_all

@[simp] theorem Device.w1c_sched_items (d : Device) (a : ℕ) (m : ℕ) : (Device.w1c d a m).sched.items = d.sched.items := by
  unfold Device.w1c
  simp_all

@[simp] theorem Device.softStart_front_qps (d : Device) (base : ℕ) (f : Device → Device) (hf : ∀ x0, (f x0).front.qps = x0.front.qps): (Device.softStart d base f).front.qps = d.front.qps := by
  unfold Device.softStart
  simp_all

@[simp] theorem Device.softStart_front_vfs (d : Device) (base : ℕ) (f : Device → Device) (hf : ∀ x0, (f x0).front.vfs = x0.front.vfs): (Device.softStart d base f).front.vfs = d.front.vfs := by
  unfold Device.softStart
  simp_all

@[simp] theorem Device.softStart_front_vfEnable (d : Device) (base : ℕ) (f : Device → Device) (hf : ∀ x0, (f x0).front.vfEnable = x0.front.vfEnable): (Device.softStart d base f).front.vfEnable = d.front.vfEnable := by
  unfold Device.softStart
  simp_all

@[simp] theorem Device.softStart_front_numVfs (d : Device) (base : ℕ) (f : Device → Device) (hf : ∀ x0, (f x0).front.numVfs = x0.front.numVfs): (Device.softStart d base f).front.numVfs = d.front.numVfs := by
  unfold Device.softStart
  simp_all

@[simp] theorem Device.softStart_sched (d : Device) (base : ℕ) (f : Device → Device) (hf : ∀ x0, (f x0).sched = x0.sched): (Device.softStart d base f).sched = d.sched := by
  unfold Device.softStart
  simp_all

@[simp] theorem Device.softStart_cycle (d : Device) (base : ℕ) (f : Device → Device) (hf : ∀ x0, (f x0).cycle = x0.cycle): (Device.softStart d base f).cycle = d.cycle := by
  unfold Device.softStart
  simp_all

@[simp] theorem Device.softStart_rings (d : Device) (base : ℕ) (f : Device → Device) (hf : ∀ x0, (f x0).rings = x0.rings): (Device.softStart d base f).rings = d.rings := by
  unfold Device.softStart
  simp_all

@[simp] theorem Device.softStart_exporting (d : Device) (base : ℕ) (f : Device → Device) (hf : ∀ x0, (f x0).exporting = x0.exporting): (Device.softStart d base f).exporting = d.exporting := by
  unfold Device.softStart
  simp_all

end Sys2Proof.Machine
end

