-- ==== Sys2Proof/Laws/Faults.lean ====
section
/-! SUPPORT. What an event of the fault collector leaves alone, whatever the reaction of its severity. -/

namespace Sys2Proof.Machine

/-! The end of a ceremony, case by case. -/

theorem endCeremony_idle (d : Device) (o : Nat) (r : Option Bytes) (h : d.cust.ceremony = none) : d.endCeremony o r = d := by
  rw [Device.endCeremony, h]

theorem endCeremony_silent (d : Device) (o : Nat) (c : Ceremony) (h : d.cust.ceremony = some c) :
    d.endCeremony o none = (d.mapCust fun x => { x with
      ceremony := none, lastApproved := c.approved
      lastComponents := c.components.map Prod.fst, lastId := c.id }).ceremonyRecorded o c.typ := by
  rw [Device.endCeremony, h]

theorem endCeremony_result (d : Device) (o : Nat) (b : Bytes) (c : Ceremony) (h : d.cust.ceremony = some c) :
    d.endCeremony o (some b) = ((d.mapCust fun x => { x with
      ceremony := none, lastApproved := c.approved
      lastComponents := c.components.map Prod.fst, lastId := c.id }).ceremonyRecorded o c.typ).olihildReply c.carrier 0x07 o c.id b := by
  rw [Device.endCeremony, h]

@[simp] theorem Device.ceremonyRecorded_power (d : Device) (o t : Nat) : (d.ceremonyRecorded o t).power = d.power := by
  unfold Device.ceremonyRecorded
  exact (Device.raiseInt_power _ _ _ _).trans (Device.setReg_power _ _ _)

@[simp] theorem Device.endCeremony_power (d : Device) (o : Nat) (r : Option Bytes) : (d.endCeremony o r).power = d.power := by
  cases h : d.cust.ceremony with
  | none => rw [endCeremony_idle d o r h]
  | some c => cases r with
    | none => rw [endCeremony_silent d o c h, Device.ceremonyRecorded_power, Device.mapCust_power]
    | some b => rw [endCeremony_result d o b c h, Device.olihildReply_power, Device.ceremonyRecorded_power, Device.mapCust_power]

@[simp] theorem Device.dropUnaccepted_power (d : Device) : d.dropUnaccepted.power = d.power := by
  unfold Device.dropUnaccepted
  (repeat' split) <;> simp

@[simp] theorem Device.changeMode_power (d : Device) (m : Mode) : (d.changeMode m).power = d.power := by
  simp [Device.changeMode]

@[simp] theorem Device.leaveQuarantine_power (d : Device) : d.leaveQuarantine.power = d.power := by
  unfold Device.leaveQuarantine
  split <;> simp

@[simp] theorem Device.endExport_power (d : Device) (c : Nat) : (d.endExport c).power = d.power := by
  unfold Device.endExport
  extract_lets b
  split
  · rfl
  · simp

@[simp] theorem Device.clearAtOnce_power (d : Device) : d.clearAtOnce.power = d.power := by
  simp [Device.clearAtOnce]

@[simp] theorem Device.assertLine_power (raise : Device → Nat → Device) (d : Device) (cause source : Nat)
    (h : ∀ d s, (raise d s).power = d.power) : (d.assertLine raise cause source).power = d.power := by
  unfold Device.assertLine
  extract_lets d1 e d2
  have h2 : d2.power = d.power := by
    simp only [d2]
    split
    · simp [d1]
    · split
      · simp [e, d1]
      · rw [Device.stageRecord_power _ _ _ h]; simp [e, d1]
  simp [h2]

@[simp] theorem Device.shutGate_power (d : Device) (n : Nat) (x : Item) : (d.shutGate n x).power = d.power := by
  unfold Device.shutGate
  (repeat' split) <;> simp

@[simp] theorem Device.enterQuarantine_power (d : Device) : d.enterQuarantine.power = d.power := by
  unfold Device.enterQuarantine
  split
  · rfl
  · extract_lets d1 d2 d3
    have h1 : d1.power = d.power := by simp [d1]
    have h2 : d2.power = d.power := (foldl_power _ (fun d e => by simp) _ _).trans h1
    have h3 : d3.power = d.power := (foldl_power _ (fun d e => by split <;> simp) _ _).trans h2
    (repeat' split) <;> simp_all

@[simp] theorem Device.faultN_power (k : Nat) (d : Device) (s : Nat) : (Device.faultN k d s).power = d.power := by
  induction k generalizing d s with
  | zero => exact Device.recordEvent_power d s
  | succ k ih =>
    unfold Device.faultN
    have h := Device.recordEvent_power d s
    revert h
    obtain ⟨d1, sev⟩ := d.recordEvent s
    intro h
    simp only at h ⊢
    (repeat' split) <;> simp_all

@[simp] theorem Device.fault_power (d : Device) (s : Nat) : (d.fault s).power = d.power := Device.faultN_power 3 d s

@[simp] theorem Device.zeroize_power (d : Device) (c s : Nat) : (d.zeroize c s).power = d.power := by
  simp [Device.zeroize]

@[simp] theorem Device.ceremonyRecorded_units (d : Device) (o t : Nat) : (d.ceremonyRecorded o t).units = d.units := by
  unfold Device.ceremonyRecorded
  exact (Device.raiseInt_units _ _ _ _).trans (Device.setReg_units _ _ _)

@[simp] theorem Device.endCeremony_units (d : Device) (o : Nat) (r : Option Bytes) : (d.endCeremony o r).units = d.units := by
  cases h : d.cust.ceremony with
  | none => rw [endCeremony_idle d o r h]
  | some c => cases r with
    | none => rw [endCeremony_silent d o c h, Device.ceremonyRecorded_units, Device.mapCust_units]
    | some b => rw [endCeremony_result d o b c h, Device.olihildReply_units, Device.ceremonyRecorded_units, Device.mapCust_units]

@[simp] theorem Device.dropUnaccepted_units (d : Device) : d.dropUnaccepted.units = d.units := by
  unfold Device.dropUnaccepted
  (repeat' split) <;> simp

@[simp] theorem Device.changeMode_units (d : Device) (m : Mode) : (d.changeMode m).units = d.units := by
  simp [Device.changeMode]

@[simp] theorem Device.leaveQuarantine_units (d : Device) : d.leaveQuarantine.units = d.units := by
  unfold Device.leaveQuarantine
  split <;> simp

@[simp] theorem Device.endExport_units (d : Device) (c : Nat) : (d.endExport c).units = d.units := by
  unfold Device.endExport
  extract_lets b
  split
  · rfl
  · simp

@[simp] theorem Device.clearAtOnce_units (d : Device) : d.clearAtOnce.units = d.units := by
  simp [Device.clearAtOnce]

@[simp] theorem Device.assertLine_units (raise : Device → Nat → Device) (d : Device) (cause source : Nat)
    (h : ∀ d s, (raise d s).units = d.units) : (d.assertLine raise cause source).units = d.units := by
  unfold Device.assertLine
  extract_lets d1 e d2
  have h2 : d2.units = d.units := by
    simp only [d2]
    split
    · simp [d1]
    · split
      · simp [e, d1]
      · rw [Device.stageRecord_units _ _ _ h]; simp [e, d1]
  simp [h2]

@[simp] theorem Device.shutGate_units (d : Device) (n : Nat) (x : Item) : (d.shutGate n x).units = d.units := by
  unfold Device.shutGate
  (repeat' split) <;> simp

@[simp] theorem Device.enterQuarantine_units (d : Device) : d.enterQuarantine.units = d.units := by
  unfold Device.enterQuarantine
  split
  · rfl
  · extract_lets d1 d2 d3
    have h1 : d1.units = d.units := by simp [d1]
    have h2 : d2.units = d.units := (foldl_units _ (fun d e => by simp) _ _).trans h1
    have h3 : d3.units = d.units := (foldl_units _ (fun d e => by split <;> simp) _ _).trans h2
    (repeat' split) <;> simp_all

@[simp] theorem Device.faultN_units (k : Nat) (d : Device) (s : Nat) : (Device.faultN k d s).units = d.units := by
  induction k generalizing d s with
  | zero => exact Device.recordEvent_units d s
  | succ k ih =>
    unfold Device.faultN
    have h := Device.recordEvent_units d s
    revert h
    obtain ⟨d1, sev⟩ := d.recordEvent s
    intro h
    simp only at h ⊢
    (repeat' split) <;> simp_all

@[simp] theorem Device.fault_units (d : Device) (s : Nat) : (d.fault s).units = d.units := Device.faultN_units 3 d s

@[simp] theorem Device.zeroize_units (d : Device) (c s : Nat) : (d.zeroize c s).units = d.units := by
  simp [Device.zeroize]

@[simp] theorem Device.ceremonyRecorded_cycle (d : Device) (o t : Nat) : (d.ceremonyRecorded o t).cycle = d.cycle := by
  unfold Device.ceremonyRecorded
  exact (Device.raiseInt_cycle _ _ _ _).trans (Device.setReg_cycle _ _ _)

@[simp] theorem Device.endCeremony_cycle (d : Device) (o : Nat) (r : Option Bytes) : (d.endCeremony o r).cycle = d.cycle := by
  cases h : d.cust.ceremony with
  | none => rw [endCeremony_idle d o r h]
  | some c => cases r with
    | none => rw [endCeremony_silent d o c h, Device.ceremonyRecorded_cycle, Device.mapCust_cycle]
    | some b => rw [endCeremony_result d o b c h, Device.olihildReply_cycle, Device.ceremonyRecorded_cycle, Device.mapCust_cycle]

@[simp] theorem Device.dropUnaccepted_cycle (d : Device) : d.dropUnaccepted.cycle = d.cycle := by
  unfold Device.dropUnaccepted
  (repeat' split) <;> simp

@[simp] theorem Device.changeMode_cycle (d : Device) (m : Mode) : (d.changeMode m).cycle = d.cycle := by
  simp [Device.changeMode]

@[simp] theorem Device.leaveQuarantine_cycle (d : Device) : d.leaveQuarantine.cycle = d.cycle := by
  unfold Device.leaveQuarantine
  split <;> simp

@[simp] theorem Device.endExport_cycle (d : Device) (c : Nat) : (d.endExport c).cycle = d.cycle := by
  unfold Device.endExport
  extract_lets b
  split
  · rfl
  · simp

@[simp] theorem Device.startBurn_cycle (d : Device) : d.startBurn.cycle = d.cycle := by
  unfold Device.startBurn
  (repeat' split) <;> (try simp_all) <;> repeat' (first | split | intro _ | simp_all)

@[simp] theorem Device.stageRecord_cycle (raise : Device → Nat → Device) (d : Device) (r : TampRec)
    (h : ∀ d s, (raise d s).cycle = d.cycle) : (Device.stageRecord raise d r).cycle = d.cycle := by
  unfold Device.stageRecord
  split
  · simp
  · simp only [h, Device.startBurn_cycle, Device.raiseInt_cycle, ite_cycle, Device.burnJoins_cycle, Device.mapTamp_cycle, ite_self]

@[simp] theorem Device.highWater_cycle (d : Device) (s sev : Nat) : (d.highWater s sev).cycle = d.cycle := by
  unfold Device.highWater
  extract_lets b valid evs mode
  split
  · rfl
  · split
    · rfl
    · simp only [ite_cycle, Device.raiseInt_cycle]
      rw [foldl_cycle]
      · simp
      · intro d x; simp

@[simp] theorem Device.recordEvent_cycle (d : Device) (s : Nat) : (d.recordEvent s).1.cycle = d.cycle := by
  unfold Device.recordEvent
  simp

@[simp] theorem Device.clearAtOnce_cycle (d : Device) : d.clearAtOnce.cycle = d.cycle := by
  simp [Device.clearAtOnce]

@[simp] theorem Device.assertLine_cycle (raise : Device → Nat → Device) (d : Device) (cause source : Nat)
    (h : ∀ d s, (raise d s).cycle = d.cycle) : (d.assertLine raise cause source).cycle = d.cycle := by
  unfold Device.assertLine
  extract_lets d1 e d2
  have h2 : d2.cycle = d.cycle := by
    simp only [d2]
    split
    · simp [d1]
    · split
      · simp [e, d1]
      · rw [Device.stageRecord_cycle _ _ _ h]; simp [e, d1]
  simp [h2]

@[simp] theorem Device.shutGate_cycle (d : Device) (n : Nat) (x : Item) : (d.shutGate n x).cycle = d.cycle := by
  unfold Device.shutGate
  (repeat' split) <;> simp

@[simp] theorem Device.enterQuarantine_cycle (d : Device) : d.enterQuarantine.cycle = d.cycle := by
  unfold Device.enterQuarantine
  split
  · rfl
  · extract_lets d1 d2 d3
    have h1 : d1.cycle = d.cycle := by simp [d1]
    have h2 : d2.cycle = d.cycle := (foldl_cycle _ (fun d e => by simp) _ _).trans h1
    have h3 : d3.cycle = d.cycle := (foldl_cycle _ (fun d e => by split <;> simp) _ _).trans h2
    (repeat' split) <;> simp_all

@[simp] theorem Device.faultN_cycle (k : Nat) (d : Device) (s : Nat) : (Device.faultN k d s).cycle = d.cycle := by
  induction k generalizing d s with
  | zero => exact Device.recordEvent_cycle d s
  | succ k ih =>
    unfold Device.faultN
    have h := Device.recordEvent_cycle d s
    revert h
    obtain ⟨d1, sev⟩ := d.recordEvent s
    intro h
    simp only at h ⊢
    (repeat' split) <;> simp_all

@[simp] theorem Device.fault_cycle (d : Device) (s : Nat) : (d.fault s).cycle = d.cycle := Device.faultN_cycle 3 d s

@[simp] theorem Device.zeroize_cycle (d : Device) (c s : Nat) : (d.zeroize c s).cycle = d.cycle := by
  simp [Device.zeroize]

@[simp] theorem Device.ceremonyRecorded_front_qps (d : Device) (o t : Nat) : (d.ceremonyRecorded o t).front.qps = d.front.qps := by
  unfold Device.ceremonyRecorded
  exact (Device.raiseInt_front_qps _ _ _ _).trans (Device.setReg_front_qps _ _ _)

@[simp] theorem Device.endCeremony_front_qps (d : Device) (o : Nat) (r : Option Bytes) : (d.endCeremony o r).front.qps = d.front.qps := by
  cases h : d.cust.ceremony with
  | none => rw [endCeremony_idle d o r h]
  | some c => cases r with
    | none => rw [endCeremony_silent d o c h, Device.ceremonyRecorded_front_qps, Device.mapCust_front]
    | some b => rw [endCeremony_result d o b c h, Device.olihildReply_front_qps, Device.ceremonyRecorded_front_qps, Device.mapCust_front]

@[simp] theorem Device.dropUnaccepted_front_qps (d : Device) : d.dropUnaccepted.front.qps = d.front.qps := by
  unfold Device.dropUnaccepted
  (repeat' split) <;> simp

@[simp] theorem Device.changeMode_front_qps (d : Device) (m : Mode) : (d.changeMode m).front.qps = d.front.qps := by
  simp [Device.changeMode]

@[simp] theorem Device.leaveQuarantine_front_qps (d : Device) : d.leaveQuarantine.front.qps = d.front.qps := by
  unfold Device.leaveQuarantine
  split <;> simp

@[simp] theorem Device.endExport_front_qps (d : Device) (c : Nat) : (d.endExport c).front.qps = d.front.qps := by
  unfold Device.endExport
  extract_lets b
  split
  · rfl
  · simp

@[simp] theorem Device.startBurn_front_qps (d : Device) : d.startBurn.front.qps = d.front.qps := by
  unfold Device.startBurn
  (repeat' split) <;> (try simp_all) <;> repeat' (first | split | intro _ | simp_all)

@[simp] theorem Device.stageRecord_front_qps (raise : Device → Nat → Device) (d : Device) (r : TampRec)
    (h : ∀ d s, (raise d s).front.qps = d.front.qps) : (Device.stageRecord raise d r).front.qps = d.front.qps := by
  unfold Device.stageRecord
  split
  · simp
  · simp only [h, Device.startBurn_front_qps, Device.raiseInt_front_qps, ite_front_qps, Device.burnJoins_front_qps, Device.mapTamp_front, ite_self]

@[simp] theorem Device.highWater_front_qps (d : Device) (s sev : Nat) : (d.highWater s sev).front.qps = d.front.qps := by
  unfold Device.highWater
  extract_lets b valid evs mode
  split
  · rfl
  · split
    · rfl
    · simp only [ite_front_qps, Device.raiseInt_front_qps]
      rw [foldl_front_qps]
      · simp
      · intro d x; simp

@[simp] theorem Device.recordEvent_front_qps (d : Device) (s : Nat) : (d.recordEvent s).1.front.qps = d.front.qps := by
  unfold Device.recordEvent
  simp

@[simp] theorem Device.clearAtOnce_front_qps (d : Device) : d.clearAtOnce.front.qps = d.front.qps := by
  simp [Device.clearAtOnce]

@[simp] theorem Device.assertLine_front_qps (raise : Device → Nat → Device) (d : Device) (cause source : Nat)
    (h : ∀ d s, (raise d s).front.qps = d.front.qps) : (d.assertLine raise cause source).front.qps = d.front.qps := by
  unfold Device.assertLine
  extract_lets d1 e d2
  have h2 : d2.front.qps = d.front.qps := by
    simp only [d2]
    split
    · simp [d1]
    · split
      · simp [e, d1]
      · rw [Device.stageRecord_front_qps _ _ _ h]; simp [e, d1]
  simp [h2]

@[simp] theorem Device.shutGate_front_qps (d : Device) (n : Nat) (x : Item) : (d.shutGate n x).front.qps = d.front.qps := by
  unfold Device.shutGate
  (repeat' split) <;> simp

@[simp] theorem Device.enterQuarantine_front_qps (d : Device) : d.enterQuarantine.front.qps = d.front.qps := by
  unfold Device.enterQuarantine
  split
  · rfl
  · extract_lets d1 d2 d3
    have h1 : d1.front.qps = d.front.qps := by simp [d1]
    have h2 : d2.front.qps = d.front.qps := (foldl_front_qps _ (fun d e => by simp) _ _).trans h1
    have h3 : d3.front.qps = d.front.qps := (foldl_front_qps _ (fun d e => by split <;> simp) _ _).trans h2
    (repeat' split) <;> simp_all

@[simp] theorem Device.faultN_front_qps (k : Nat) (d : Device) (s : Nat) : (Device.faultN k d s).front.qps = d.front.qps := by
  induction k generalizing d s with
  | zero => exact Device.recordEvent_front_qps d s
  | succ k ih =>
    unfold Device.faultN
    have h := Device.recordEvent_front_qps d s
    revert h
    obtain ⟨d1, sev⟩ := d.recordEvent s
    intro h
    simp only at h ⊢
    (repeat' split) <;> simp_all

@[simp] theorem Device.fault_front_qps (d : Device) (s : Nat) : (d.fault s).front.qps = d.front.qps := Device.faultN_front_qps 3 d s

@[simp] theorem Device.zeroize_front_qps (d : Device) (c s : Nat) : (d.zeroize c s).front.qps = d.front.qps := by
  simp [Device.zeroize]

@[simp] theorem Device.ceremonyRecorded_front_vfs (d : Device) (o t : Nat) : (d.ceremonyRecorded o t).front.vfs = d.front.vfs := by
  unfold Device.ceremonyRecorded
  exact (Device.raiseInt_front_vfs _ _ _ _).trans (Device.setReg_front_vfs _ _ _)

@[simp] theorem Device.endCeremony_front_vfs (d : Device) (o : Nat) (r : Option Bytes) : (d.endCeremony o r).front.vfs = d.front.vfs := by
  cases h : d.cust.ceremony with
  | none => rw [endCeremony_idle d o r h]
  | some c => cases r with
    | none => rw [endCeremony_silent d o c h, Device.ceremonyRecorded_front_vfs, Device.mapCust_front]
    | some b => rw [endCeremony_result d o b c h, Device.olihildReply_front_vfs, Device.ceremonyRecorded_front_vfs, Device.mapCust_front]

@[simp] theorem Device.dropUnaccepted_front_vfs (d : Device) : d.dropUnaccepted.front.vfs = d.front.vfs := by
  unfold Device.dropUnaccepted
  (repeat' split) <;> simp

@[simp] theorem Device.changeMode_front_vfs (d : Device) (m : Mode) : (d.changeMode m).front.vfs = d.front.vfs := by
  simp [Device.changeMode]

@[simp] theorem Device.leaveQuarantine_front_vfs (d : Device) : d.leaveQuarantine.front.vfs = d.front.vfs := by
  unfold Device.leaveQuarantine
  split <;> simp

@[simp] theorem Device.endExport_front_vfs (d : Device) (c : Nat) : (d.endExport c).front.vfs = d.front.vfs := by
  unfold Device.endExport
  extract_lets b
  split
  · rfl
  · simp

@[simp] theorem Device.startBurn_front_vfs (d : Device) : d.startBurn.front.vfs = d.front.vfs := by
  unfold Device.startBurn
  (repeat' split) <;> (try simp_all) <;> repeat' (first | split | intro _ | simp_all)

@[simp] theorem Device.stageRecord_front_vfs (raise : Device → Nat → Device) (d : Device) (r : TampRec)
    (h : ∀ d s, (raise d s).front.vfs = d.front.vfs) : (Device.stageRecord raise d r).front.vfs = d.front.vfs := by
  unfold Device.stageRecord
  split
  · simp
  · simp only [h, Device.startBurn_front_vfs, Device.raiseInt_front_vfs, ite_front_vfs, Device.burnJoins_front_vfs, Device.mapTamp_front, ite_self]

@[simp] theorem Device.highWater_front_vfs (d : Device) (s sev : Nat) : (d.highWater s sev).front.vfs = d.front.vfs := by
  unfold Device.highWater
  extract_lets b valid evs mode
  split
  · rfl
  · split
    · rfl
    · simp only [ite_front_vfs, Device.raiseInt_front_vfs]
      rw [foldl_front_vfs]
      · simp
      · intro d x; simp

@[simp] theorem Device.recordEvent_front_vfs (d : Device) (s : Nat) : (d.recordEvent s).1.front.vfs = d.front.vfs := by
  unfold Device.recordEvent
  simp

@[simp] theorem Device.clearAtOnce_front_vfs (d : Device) : d.clearAtOnce.front.vfs = d.front.vfs := by
  simp [Device.clearAtOnce]

@[simp] theorem Device.assertLine_front_vfs (raise : Device → Nat → Device) (d : Device) (cause source : Nat)
    (h : ∀ d s, (raise d s).front.vfs = d.front.vfs) : (d.assertLine raise cause source).front.vfs = d.front.vfs := by
  unfold Device.assertLine
  extract_lets d1 e d2
  have h2 : d2.front.vfs = d.front.vfs := by
    simp only [d2]
    split
    · simp [d1]
    · split
      · simp [e, d1]
      · rw [Device.stageRecord_front_vfs _ _ _ h]; simp [e, d1]
  simp [h2]

@[simp] theorem Device.shutGate_front_vfs (d : Device) (n : Nat) (x : Item) : (d.shutGate n x).front.vfs = d.front.vfs := by
  unfold Device.shutGate
  (repeat' split) <;> simp

@[simp] theorem Device.enterQuarantine_front_vfs (d : Device) : d.enterQuarantine.front.vfs = d.front.vfs := by
  unfold Device.enterQuarantine
  split
  · rfl
  · extract_lets d1 d2 d3
    have h1 : d1.front.vfs = d.front.vfs := by simp [d1]
    have h2 : d2.front.vfs = d.front.vfs := (foldl_front_vfs _ (fun d e => by simp) _ _).trans h1
    have h3 : d3.front.vfs = d.front.vfs := (foldl_front_vfs _ (fun d e => by split <;> simp) _ _).trans h2
    (repeat' split) <;> simp_all

@[simp] theorem Device.faultN_front_vfs (k : Nat) (d : Device) (s : Nat) : (Device.faultN k d s).front.vfs = d.front.vfs := by
  induction k generalizing d s with
  | zero => exact Device.recordEvent_front_vfs d s
  | succ k ih =>
    unfold Device.faultN
    have h := Device.recordEvent_front_vfs d s
    revert h
    obtain ⟨d1, sev⟩ := d.recordEvent s
    intro h
    simp only at h ⊢
    (repeat' split) <;> simp_all

@[simp] theorem Device.fault_front_vfs (d : Device) (s : Nat) : (d.fault s).front.vfs = d.front.vfs := Device.faultN_front_vfs 3 d s

@[simp] theorem Device.zeroize_front_vfs (d : Device) (c s : Nat) : (d.zeroize c s).front.vfs = d.front.vfs := by
  simp [Device.zeroize]

@[simp] theorem Device.ceremonyRecorded_front_vfEnable (d : Device) (o t : Nat) : (d.ceremonyRecorded o t).front.vfEnable = d.front.vfEnable := by
  unfold Device.ceremonyRecorded
  exact (Device.raiseInt_front_vfEnable _ _ _ _).trans (Device.setReg_front_vfEnable _ _ _)

@[simp] theorem Device.endCeremony_front_vfEnable (d : Device) (o : Nat) (r : Option Bytes) : (d.endCeremony o r).front.vfEnable = d.front.vfEnable := by
  cases h : d.cust.ceremony with
  | none => rw [endCeremony_idle d o r h]
  | some c => cases r with
    | none => rw [endCeremony_silent d o c h, Device.ceremonyRecorded_front_vfEnable, Device.mapCust_front]
    | some b => rw [endCeremony_result d o b c h, Device.olihildReply_front_vfEnable, Device.ceremonyRecorded_front_vfEnable, Device.mapCust_front]

@[simp] theorem Device.dropUnaccepted_front_vfEnable (d : Device) : d.dropUnaccepted.front.vfEnable = d.front.vfEnable := by
  unfold Device.dropUnaccepted
  (repeat' split) <;> simp

@[simp] theorem Device.changeMode_front_vfEnable (d : Device) (m : Mode) : (d.changeMode m).front.vfEnable = d.front.vfEnable := by
  simp [Device.changeMode]

@[simp] theorem Device.leaveQuarantine_front_vfEnable (d : Device) : d.leaveQuarantine.front.vfEnable = d.front.vfEnable := by
  unfold Device.leaveQuarantine
  split <;> simp

@[simp] theorem Device.endExport_front_vfEnable (d : Device) (c : Nat) : (d.endExport c).front.vfEnable = d.front.vfEnable := by
  unfold Device.endExport
  extract_lets b
  split
  · rfl
  · simp

@[simp] theorem Device.startBurn_front_vfEnable (d : Device) : d.startBurn.front.vfEnable = d.front.vfEnable := by
  unfold Device.startBurn
  (repeat' split) <;> (try simp_all) <;> repeat' (first | split | intro _ | simp_all)

@[simp] theorem Device.stageRecord_front_vfEnable (raise : Device → Nat → Device) (d : Device) (r : TampRec)
    (h : ∀ d s, (raise d s).front.vfEnable = d.front.vfEnable) : (Device.stageRecord raise d r).front.vfEnable = d.front.vfEnable := by
  unfold Device.stageRecord
  split
  · simp
  · simp only [h, Device.startBurn_front_vfEnable, Device.raiseInt_front_vfEnable, ite_front_vfEnable, Device.burnJoins_front_vfEnable, Device.mapTamp_front, ite_self]

@[simp] theorem Device.highWater_front_vfEnable (d : Device) (s sev : Nat) : (d.highWater s sev).front.vfEnable = d.front.vfEnable := by
  unfold Device.highWater
  extract_lets b valid evs mode
  split
  · rfl
  · split
    · rfl
    · simp only [ite_front_vfEnable, Device.raiseInt_front_vfEnable]
      rw [foldl_front_vfEnable]
      · simp
      · intro d x; simp

@[simp] theorem Device.recordEvent_front_vfEnable (d : Device) (s : Nat) : (d.recordEvent s).1.front.vfEnable = d.front.vfEnable := by
  unfold Device.recordEvent
  simp

@[simp] theorem Device.clearAtOnce_front_vfEnable (d : Device) : d.clearAtOnce.front.vfEnable = d.front.vfEnable := by
  simp [Device.clearAtOnce]

@[simp] theorem Device.assertLine_front_vfEnable (raise : Device → Nat → Device) (d : Device) (cause source : Nat)
    (h : ∀ d s, (raise d s).front.vfEnable = d.front.vfEnable) : (d.assertLine raise cause source).front.vfEnable = d.front.vfEnable := by
  unfold Device.assertLine
  extract_lets d1 e d2
  have h2 : d2.front.vfEnable = d.front.vfEnable := by
    simp only [d2]
    split
    · simp [d1]
    · split
      · simp [e, d1]
      · rw [Device.stageRecord_front_vfEnable _ _ _ h]; simp [e, d1]
  simp [h2]

@[simp] theorem Device.shutGate_front_vfEnable (d : Device) (n : Nat) (x : Item) : (d.shutGate n x).front.vfEnable = d.front.vfEnable := by
  unfold Device.shutGate
  (repeat' split) <;> simp

@[simp] theorem Device.enterQuarantine_front_vfEnable (d : Device) : d.enterQuarantine.front.vfEnable = d.front.vfEnable := by
  unfold Device.enterQuarantine
  split
  · rfl
  · extract_lets d1 d2 d3
    have h1 : d1.front.vfEnable = d.front.vfEnable := by simp [d1]
    have h2 : d2.front.vfEnable = d.front.vfEnable := (foldl_front_vfEnable _ (fun d e => by simp) _ _).trans h1
    have h3 : d3.front.vfEnable = d.front.vfEnable := (foldl_front_vfEnable _ (fun d e => by split <;> simp) _ _).trans h2
    (repeat' split) <;> simp_all

@[simp] theorem Device.faultN_front_vfEnable (k : Nat) (d : Device) (s : Nat) : (Device.faultN k d s).front.vfEnable = d.front.vfEnable := by
  induction k generalizing d s with
  | zero => exact Device.recordEvent_front_vfEnable d s
  | succ k ih =>
    unfold Device.faultN
    have h := Device.recordEvent_front_vfEnable d s
    revert h
    obtain ⟨d1, sev⟩ := d.recordEvent s
    intro h
    simp only at h ⊢
    (repeat' split) <;> simp_all

@[simp] theorem Device.fault_front_vfEnable (d : Device) (s : Nat) : (d.fault s).front.vfEnable = d.front.vfEnable := Device.faultN_front_vfEnable 3 d s

@[simp] theorem Device.zeroize_front_vfEnable (d : Device) (c s : Nat) : (d.zeroize c s).front.vfEnable = d.front.vfEnable := by
  simp [Device.zeroize]

@[simp] theorem Device.ceremonyRecorded_front_numVfs (d : Device) (o t : Nat) : (d.ceremonyRecorded o t).front.numVfs = d.front.numVfs := by
  unfold Device.ceremonyRecorded
  exact (Device.raiseInt_front_numVfs _ _ _ _).trans (Device.setReg_front_numVfs _ _ _)

@[simp] theorem Device.endCeremony_front_numVfs (d : Device) (o : Nat) (r : Option Bytes) : (d.endCeremony o r).front.numVfs = d.front.numVfs := by
  cases h : d.cust.ceremony with
  | none => rw [endCeremony_idle d o r h]
  | some c => cases r with
    | none => rw [endCeremony_silent d o c h, Device.ceremonyRecorded_front_numVfs, Device.mapCust_front]
    | some b => rw [endCeremony_result d o b c h, Device.olihildReply_front_numVfs, Device.ceremonyRecorded_front_numVfs, Device.mapCust_front]

@[simp] theorem Device.dropUnaccepted_front_numVfs (d : Device) : d.dropUnaccepted.front.numVfs = d.front.numVfs := by
  unfold Device.dropUnaccepted
  (repeat' split) <;> simp

@[simp] theorem Device.changeMode_front_numVfs (d : Device) (m : Mode) : (d.changeMode m).front.numVfs = d.front.numVfs := by
  simp [Device.changeMode]

@[simp] theorem Device.leaveQuarantine_front_numVfs (d : Device) : d.leaveQuarantine.front.numVfs = d.front.numVfs := by
  unfold Device.leaveQuarantine
  split <;> simp

@[simp] theorem Device.endExport_front_numVfs (d : Device) (c : Nat) : (d.endExport c).front.numVfs = d.front.numVfs := by
  unfold Device.endExport
  extract_lets b
  split
  · rfl
  · simp

@[simp] theorem Device.startBurn_front_numVfs (d : Device) : d.startBurn.front.numVfs = d.front.numVfs := by
  unfold Device.startBurn
  (repeat' split) <;> (try simp_all) <;> repeat' (first | split | intro _ | simp_all)

@[simp] theorem Device.stageRecord_front_numVfs (raise : Device → Nat → Device) (d : Device) (r : TampRec)
    (h : ∀ d s, (raise d s).front.numVfs = d.front.numVfs) : (Device.stageRecord raise d r).front.numVfs = d.front.numVfs := by
  unfold Device.stageRecord
  split
  · simp
  · simp only [h, Device.startBurn_front_numVfs, Device.raiseInt_front_numVfs, ite_front_numVfs, Device.burnJoins_front_numVfs, Device.mapTamp_front, ite_self]

@[simp] theorem Device.highWater_front_numVfs (d : Device) (s sev : Nat) : (d.highWater s sev).front.numVfs = d.front.numVfs := by
  unfold Device.highWater
  extract_lets b valid evs mode
  split
  · rfl
  · split
    · rfl
    · simp only [ite_front_numVfs, Device.raiseInt_front_numVfs]
      rw [foldl_front_numVfs]
      · simp
      · intro d x; simp

@[simp] theorem Device.recordEvent_front_numVfs (d : Device) (s : Nat) : (d.recordEvent s).1.front.numVfs = d.front.numVfs := by
  unfold Device.recordEvent
  simp

@[simp] theorem Device.clearAtOnce_front_numVfs (d : Device) : d.clearAtOnce.front.numVfs = d.front.numVfs := by
  simp [Device.clearAtOnce]

@[simp] theorem Device.assertLine_front_numVfs (raise : Device → Nat → Device) (d : Device) (cause source : Nat)
    (h : ∀ d s, (raise d s).front.numVfs = d.front.numVfs) : (d.assertLine raise cause source).front.numVfs = d.front.numVfs := by
  unfold Device.assertLine
  extract_lets d1 e d2
  have h2 : d2.front.numVfs = d.front.numVfs := by
    simp only [d2]
    split
    · simp [d1]
    · split
      · simp [e, d1]
      · rw [Device.stageRecord_front_numVfs _ _ _ h]; simp [e, d1]
  simp [h2]

@[simp] theorem Device.shutGate_front_numVfs (d : Device) (n : Nat) (x : Item) : (d.shutGate n x).front.numVfs = d.front.numVfs := by
  unfold Device.shutGate
  (repeat' split) <;> simp

@[simp] theorem Device.enterQuarantine_front_numVfs (d : Device) : d.enterQuarantine.front.numVfs = d.front.numVfs := by
  unfold Device.enterQuarantine
  split
  · rfl
  · extract_lets d1 d2 d3
    have h1 : d1.front.numVfs = d.front.numVfs := by simp [d1]
    have h2 : d2.front.numVfs = d.front.numVfs := (foldl_front_numVfs _ (fun d e => by simp) _ _).trans h1
    have h3 : d3.front.numVfs = d.front.numVfs := (foldl_front_numVfs _ (fun d e => by split <;> simp) _ _).trans h2
    (repeat' split) <;> simp_all

@[simp] theorem Device.faultN_front_numVfs (k : Nat) (d : Device) (s : Nat) : (Device.faultN k d s).front.numVfs = d.front.numVfs := by
  induction k generalizing d s with
  | zero => exact Device.recordEvent_front_numVfs d s
  | succ k ih =>
    unfold Device.faultN
    have h := Device.recordEvent_front_numVfs d s
    revert h
    obtain ⟨d1, sev⟩ := d.recordEvent s
    intro h
    simp only at h ⊢
    (repeat' split) <;> simp_all

@[simp] theorem Device.fault_front_numVfs (d : Device) (s : Nat) : (d.fault s).front.numVfs = d.front.numVfs := Device.faultN_front_numVfs 3 d s

@[simp] theorem Device.zeroize_front_numVfs (d : Device) (c s : Nat) : (d.zeroize c s).front.numVfs = d.front.numVfs := by
  simp [Device.zeroize]

end Sys2Proof.Machine
end

