-- ==== Sys2Proof/Laws/Gave.lean ====
section
/-! SUPPORT. Signs of the present cycle: what no operation within the cycle takes back. -/

namespace Sys2Proof.Machine

@[simp] theorem gave_mapPages {w : Sign} (d : Device) (f : Pages → Pages) (h : d.gave w) (hf : (f d.pages).cyc = d.pages.cyc) :
    (d.mapPages f).gave w := by
  unfold Device.gave Device.mapPages
  rw [hf]; exact h

@[simp] theorem gave_mapCyc {w : Sign} (d : Device) (f : Cyc → Cyc) (h : d.gave w)
    (hf : (f d.pages.cyc).events = d.pages.cyc.events) : (d.mapCyc f).gave w := by
  cases w with
  | event s => show (f d.pages.cyc).events.mem s = true; rw [hf]; exact h
  | sent o => exact h

@[simp] theorem gave_emit {w : Sign} (d : Device) (o : Output) (h : d.gave w) : (d.emit o).gave w := by
  cases w with
  | event s => exact h
  | sent x => exact List.mem_cons_of_mem o h

@[simp] theorem gave_emit_self (d : Device) (o : Output) : (d.emit o).gave (.sent o) := List.mem_cons_self

@[simp] theorem gave_foldl {α : Type} {w : Sign} (f : Device → α → Device) (l : List α) (d : Device) (h : d.gave w)
    (hf : ∀ d x, d.gave w → (f d x).gave w) : (l.foldl f d).gave w := by
  induction l generalizing d with
  | nil => exact h
  | cons x l ih => exact ih _ (hf _ _ h)

@[simp] theorem gave_ite {w : Sign} (c : Prop) [Decidable c] (a b : Device) (ha : a.gave w) (hb : b.gave w) :
    (if c then a else b).gave w := by split <;> assumption

@[simp] theorem gave_mk (w : Sign) (cy fr : Nat) (o : List Output) (pg : Pages) (ft : Front) (sc : Sched) (u : Units) (k : Keys)
    (st : Store) (dm : Domain) (cu : Custody) (t : Tamper) (so : Table Source) (ca : NatSet) (rg : Rng) (p : Power) (pn : Pins)
    (ri : Table Ring) (ex : Option Export) :
    (Device.mk cy fr o pg ft sc u k st dm cu t so ca rg p pn ri ex).gave w ↔ signIn pg.cyc o w := Iff.rfl

@[simp] theorem gave_eta (w : Sign) (d : Device) : signIn d.pages.cyc d.out w ↔ d.gave w := Iff.rfl


/-- A key put into a set is in it, and what was in it stays. -/
theorem NatSet.mem_add (s : NatSet) (k j : Nat) : (s.add k).mem j = (s.mem j || decide (j = k)) := by
  unfold NatSet.add NatSet.mem Table.has
  have hd : (k == j) = decide (j = k) := by
    by_cases h : k = j
    · simp [h]
    · simp [h, Ne.symm h]
  induction s with
  | nil => simp only [Table.insert, List.any_cons, List.any_nil, Bool.or_false, Bool.false_or, hd]
  | cons e m ih =>
    obtain ⟨i, v⟩ := e
    simp only [Table.insert]
    split
    · simp only [List.any_cons, hd]
      rw [Bool.or_comm]
    · split
      · rename_i h1 h2
        subst h2
        simp only [List.any_cons, hd]
        cases decide (j = k) <;> cases (m.any fun e => e.1 == j) <;> rfl
      · simp only [List.any_cons, ih, Bool.or_assoc]

end Sys2Proof.Machine
end

