-- ==== Sys2Proof/Laws/GaveCore.lean ====
section
/-! SUPPORT. Signs kept: the shared operations, the key banks, the journal and the replay log. -/

namespace Sys2Proof.Machine

@[simp] theorem gave_mapFront {sg : Sign} (d : Device) (f : Front → Front) (h : d.gave sg)  : (Device.mapFront d f).gave sg := by
  exact h

@[simp] theorem gave_mapSched {sg : Sign} (d : Device) (f : Sched → Sched) (h : d.gave sg)  : (Device.mapSched d f).gave sg := by
  exact h

@[simp] theorem gave_mapUnits {sg : Sign} (d : Device) (f : Units → Units) (h : d.gave sg)  : (Device.mapUnits d f).gave sg := by
  exact h

@[simp] theorem gave_mapKeys {sg : Sign} (d : Device) (f : Keys → Keys) (h : d.gave sg)  : (Device.mapKeys d f).gave sg := by
  exact h

@[simp] theorem gave_mapStore {sg : Sign} (d : Device) (f : Store → Store) (h : d.gave sg)  : (Device.mapStore d f).gave sg := by
  exact h

@[simp] theorem gave_mapDom {sg : Sign} (d : Device) (f : Domain → Domain) (h : d.gave sg)  : (Device.mapDom d f).gave sg := by
  exact h

@[simp] theorem gave_mapView {sg : Sign} (d : Device) (f : View → View) (h : d.gave sg)  : (Device.mapView d f).gave sg := by
  exact h

@[simp] theorem gave_mapCust {sg : Sign} (d : Device) (f : Custody → Custody) (h : d.gave sg)  : (Device.mapCust d f).gave sg := by
  exact h

@[simp] theorem gave_mapTamp {sg : Sign} (d : Device) (f : Tamper → Tamper) (h : d.gave sg)  : (Device.mapTamp d f).gave sg := by
  exact h

@[simp] theorem gave_mapRng {sg : Sign} (d : Device) (f : Rng → Rng) (h : d.gave sg)  : (Device.mapRng d f).gave sg := by
  exact h

@[simp] theorem gave_mapPower {sg : Sign} (d : Device) (f : Power → Power) (h : d.gave sg)  : (Device.mapPower d f).gave sg := by
  exact h

@[simp] theorem gave_mapPins {sg : Sign} (d : Device) (f : Pins → Pins) (h : d.gave sg)  : (Device.mapPins d f).gave sg := by
  exact h

@[simp] theorem gave_drawFree {sg : Sign} (d : Device) (h : d.gave sg)  : (Device.drawFree d).gave sg := by
  exact h

@[simp] theorem gave_setReg {sg : Sign} (d : Device) (a : ℕ) (v : ℕ) (h : d.gave sg)  : (Device.setReg d a v).gave sg := by
  unfold Device.setReg
  apply gave_mapPages _ _ h
  rfl

@[simp] theorem gave_setField {sg : Sign} (d : Device) (a : ℕ) (hi : ℕ) (lo : ℕ) (v : ℕ) (h : d.gave sg)  : (Device.setField d a hi lo v).gave sg := by
  unfold Device.setField
  (repeat' split) <;> simp_all (maxDischargeDepth := 60)

@[simp] theorem gave_clearBits {sg : Sign} (d : Device) (a : ℕ) (m : ℕ) (h : d.gave sg)  : (Device.clearBits d a m).gave sg := by
  unfold Device.clearBits
  (repeat' split) <;> simp_all (maxDischargeDepth := 60)

@[simp] theorem gave_hwSet {sg : Sign} (d : Device) (a : ℕ) (m : ℕ) (h : d.gave sg)  : (Device.hwSet d a m).gave sg := by
  unfold Device.hwSet
  (repeat' split) <;> simp_all (maxDischargeDepth := 60)

@[simp] theorem gave_addCnt {sg : Sign} (d : Device) (a : ℕ) (hi : ℕ) (lo : ℕ) (n : ℕ) (saturates : Bool) (h : d.gave sg)  : (Device.addCnt d a hi lo n saturates).gave sg := by
  unfold Device.addCnt
  (repeat' split) <;> simp_all (maxDischargeDepth := 60)

@[simp] theorem gave_writeLost {sg : Sign} (d : Device) (a : ℕ) (h : d.gave sg)  : (Device.writeLost d a).gave sg := by
  unfold Device.writeLost
  (repeat' split) <;> simp_all (maxDischargeDepth := 60)

@[simp] theorem gave_rwhClash {sg : Sign} (d : Device) (a : ℕ) (h : d.gave sg)  : (Device.rwhClash d a).gave sg := by
  unfold Device.rwhClash
  (repeat' split) <;> simp_all (maxDischargeDepth := 60)

@[simp] theorem gave_hwLoad {sg : Sign} (d : Device) (a : ℕ) (v : ℕ) (h : d.gave sg)  : (Device.hwLoad d a v).gave sg := by
  unfold Device.hwLoad
  (repeat' split) <;> simp_all (maxDischargeDepth := 60)

@[simp] theorem gave_noteWrite {sg : Sign} (d : Device) (a : ℕ) (h : d.gave sg)  : (Device.noteWrite d a).gave sg := by
  unfold Device.noteWrite
  (repeat' split) <;> simp_all (maxDischargeDepth := 60)

@[simp] theorem gave_noteReturn {sg : Sign} (d : Device) (lo : ℕ) (hi : ℕ) (h : d.gave sg)  : (Device.noteReturn d lo hi).gave sg := by
  unfold Device.noteReturn
  (repeat' split) <;> simp_all (maxDischargeDepth := 60)

@[simp] theorem gave_drawn {sg : Sign} (d : Device) (h : d.gave sg)  : (Device.drawn d).gave sg := by
  unfold Device.drawn
  (repeat' split) <;> simp_all (maxDischargeDepth := 60)

@[simp] theorem gave_drawnFor {sg : Sign} (d : Device) (n : ℕ) (h : d.gave sg)  : (Device.drawnFor d n).gave sg := by
  unfold Device.drawnFor
  (repeat' split) <;> simp_all (maxDischargeDepth := 60)

@[simp] theorem gave_sendMsix {sg : Sign} (d : Device) (fn : ℕ) (vector : ℕ) (h : d.gave sg)  : (Device.sendMsix d fn vector).gave sg := by
  unfold Device.sendMsix
  (repeat' split) <;> simp_all (maxDischargeDepth := 60)

@[simp] theorem gave_signalPage {sg : Sign} (d : Device) (base : ℕ) (h : d.gave sg)  : (Device.signalPage d base).gave sg := by
  unfold Device.signalPage
  (repeat' split) <;> simp_all (maxDischargeDepth := 60)

@[simp] theorem gave_raiseMask {sg : Sign} (d : Device) (base : ℕ) (m : ℕ) (h : d.gave sg)  : (Device.raiseMask d base m).gave sg := by
  unfold Device.raiseMask
  (repeat' split) <;> simp_all (maxDischargeDepth := 60)

@[simp] theorem gave_raiseInt {sg : Sign} (d : Device) (p : Page) (n : ℕ) (i : ℕ) (h : d.gave sg)  : (Device.raiseInt d p n i).gave sg := by
  unfold Device.raiseInt
  (repeat' split) <;> simp_all (maxDischargeDepth := 60)

@[simp] theorem gave_commandEnd {sg : Sign} (d : Device) (a : ℕ) (req : ℕ) (done : ℕ) (h : d.gave sg)  : (Device.commandEnd d a req done).gave sg := by
  unfold Device.commandEnd
  (repeat' split) <;> simp_all (maxDischargeDepth := 60)

@[simp] theorem gave_commandStart {sg : Sign} (d : Device) (a : ℕ) (req : ℕ) (h : d.gave sg)  : (Device.commandStart d a req).gave sg := by
  unfold Device.commandStart
  (repeat' split) <;> simp_all (maxDischargeDepth := 60)

@[simp] theorem gave_setResult {sg : Sign} (d : Device) (a : ℕ) (code : ℕ) (h : d.gave sg)  : (Device.setResult d a code).gave sg := by
  unfold Device.setResult
  (repeat' split) <;> simp_all (maxDischargeDepth := 60)

@[simp] theorem gave_progStart {sg : Sign} (d : Device) (base : ℕ) (op : ℕ) (total : ℕ) (h : d.gave sg)  : (Device.progStart d base op total).gave sg := by
  unfold Device.progStart
  (repeat' split) <;> simp_all (maxDischargeDepth := 60)

@[simp] theorem gave_progPos {sg : Sign} (d : Device) (base : ℕ) (pos : ℕ) (h : d.gave sg)  : (Device.progPos d base pos).gave sg := by
  unfold Device.progPos
  (repeat' split) <;> simp_all (maxDischargeDepth := 60)

@[simp] theorem gave_progEnd {sg : Sign} (d : Device) (base : ℕ) (aborted : Bool) (h : d.gave sg)  : (Device.progEnd d base aborted).gave sg := by
  unfold Device.progEnd
  (repeat' split) <;> simp_all (maxDischargeDepth := 60)

@[simp] theorem gave_setVf {sg : Sign} (d : Device) (v : ℕ) (x : Vf) (h : d.gave sg)  : (Device.setVf d v x).gave sg := by
  unfold Device.setVf
  (repeat' split) <;> simp_all (maxDischargeDepth := 60)

@[simp] theorem gave_changeVf {sg : Sign} (d : Device) (v : ℕ) (x : Vf) (h : d.gave sg)  : (Device.changeVf d v x).gave sg := by
  unfold Device.changeVf
  (repeat' split) <;> simp_all (maxDischargeDepth := 60)

@[simp] theorem gave_setQp {sg : Sign} (d : Device) (v : ℕ) (q : ℕ) (x : Qp) (h : d.gave sg)  : (Device.setQp d v q x).gave sg := by
  unfold Device.setQp
  (repeat' split) <;> simp_all (maxDischargeDepth := 60)

@[simp] theorem gave_setItem {sg : Sign} (d : Device) (n : ℕ) (x : Item) (h : d.gave sg)  : (Device.setItem d n x).gave sg := by
  unfold Device.setItem
  (repeat' split) <;> simp_all (maxDischargeDepth := 60)

@[simp] theorem gave_dropItem {sg : Sign} (d : Device) (n : ℕ) (h : d.gave sg)  : (Device.dropItem d n).gave sg := by
  unfold Device.dropItem
  (repeat' split) <;> simp_all (maxDischargeDepth := 60)

@[simp] theorem gave_dropDelay {sg : Sign} (d : Device) (list : ℕ) (n : ℕ) (h : d.gave sg)  : (Device.dropDelay d list n).gave sg := by
  unfold Device.dropDelay
  (repeat' split) <;> simp_all (maxDischargeDepth := 60)

@[simp] theorem gave_addDelay {sg : Sign} (d : Device) (list : ℕ) (n : ℕ) (due : ℕ) (h : d.gave sg)  : (Device.addDelay d list n due).gave sg := by
  unfold Device.addDelay
  (repeat' split) <;> simp_all (maxDischargeDepth := 60)

@[simp] theorem gave_finishItem {sg : Sign} (d : Device) (n : ℕ) (st : Status) (detail : ℕ) (h : d.gave sg)  : (Device.finishItem d n st detail).gave sg := by
  unfold Device.finishItem
  (repeat' split) <;> simp_all (maxDischargeDepth := 60)

@[simp] theorem gave_bumpCounter {sg : Sign} (d : Device) (p : Page) (n : ℕ) (val : ℕ) (ovf : ℕ) (bitNo : ℕ) (inc : ℕ) (h : d.gave sg)  : (Device.bumpCounter d p n val ovf bitNo inc).gave sg := by
  unfold Device.bumpCounter
  (repeat' split) <;> simp_all (maxDischargeDepth := 60)

@[simp] theorem gave_pfCounter {sg : Sign} (vf : Option ℕ) (ev : ℕ) (inc : ℕ) (d : Device) (c : ℕ) (h : d.gave sg)  : (Device.pfCounter vf ev inc d c).gave sg := by
  unfold Device.pfCounter
  (repeat' split) <;> simp_all (maxDischargeDepth := 60)

@[simp] theorem gave_vfCounter {sg : Sign} (v : ℕ) (ev : ℕ) (inc : ℕ) (d : Device) (c : ℕ) (h : d.gave sg)  : (Device.vfCounter v ev inc d c).gave sg := by
  unfold Device.vfCounter
  (repeat' split) <;> simp_all (maxDischargeDepth := 60)

@[simp] theorem gave_countEvent {sg : Sign} (d : Device) (vf : Option ℕ) (ev : ℕ) (inc : ℕ) (h : d.gave sg)  : (Device.countEvent d vf ev inc).gave sg := by
  unfold Device.countEvent
  (repeat' split) <;> simp_all (maxDischargeDepth := 60)

@[simp] theorem gave_alertCause {sg : Sign} (d : Device) (h : d.gave sg)  : (Device.alertCause d).gave sg := by
  unfold Device.alertCause
  (repeat' split) <;> simp_all (maxDischargeDepth := 60)

@[simp] theorem gave_storeWords {sg : Sign} (d : Device) (a : ℕ) (n : ℕ) (bs : Sys2Proof.Bytes) (h : d.gave sg)  : (Device.storeWords d a n bs).gave sg := by
  unfold Device.storeWords
  (repeat' split) <;> simp_all (maxDischargeDepth := 60)

@[simp] theorem gave_placeFrame {sg : Sign} (d : Device) (h : d.gave sg)  : (Device.placeFrame d).gave sg := by
  unfold Device.placeFrame
  (repeat' split) <;> simp_all (maxDischargeDepth := 60)

@[simp] theorem gave_olihildReply {sg : Sign} (d : Device) (carrier : ℕ) (typ : ℕ) (status : ℕ) (id : ℕ) (body : Sys2Proof.Bytes) (h : d.gave sg)  : (Device.olihildReply d carrier typ status id body).gave sg := by
  unfold Device.olihildReply
  (repeat' split) <;> simp_all (maxDischargeDepth := 60)

@[simp] theorem gave_ceremonyRecorded {sg : Sign} (d : Device) (outcome : ℕ) (typ : ℕ) (h : d.gave sg)  : (Device.ceremonyRecorded d outcome typ).gave sg := by
  unfold Device.ceremonyRecorded
  (repeat' split) <;> simp_all (maxDischargeDepth := 60)

@[simp] theorem gave_endCeremony {sg : Sign} (d : Device) (outcome : ℕ) (result : Option Sys2Proof.Bytes) (h : d.gave sg)  : (Device.endCeremony d outcome result).gave sg := by
  unfold Device.endCeremony
  (repeat' split) <;> simp_all (maxDischargeDepth := 60)

@[simp] theorem gave_clearLocks {sg : Sign} (d : Device) (h : d.gave sg)  : (Device.clearLocks d).gave sg := by
  unfold Device.clearLocks
  (repeat' split) <;> simp_all (maxDischargeDepth := 60)

@[simp] theorem gave_signalMode {sg : Sign} (d : Device) (h : d.gave sg)  : (Device.signalMode d).gave sg := by
  unfold Device.signalMode
  (repeat' split) <;> simp_all (maxDischargeDepth := 60)

@[simp] theorem gave_enterMode {sg : Sign} (d : Device) (m : Mode) (h : d.gave sg)  : (Device.enterMode d m).gave sg := by
  unfold Device.enterMode
  (repeat' split) <;> simp_all (maxDischargeDepth := 60)

@[simp] theorem gave_dropUnaccepted {sg : Sign} (d : Device) (h : d.gave sg)  : (Device.dropUnaccepted d).gave sg := by
  unfold Device.dropUnaccepted
  (repeat' split) <;> simp_all (maxDischargeDepth := 60)

@[simp] theorem gave_changeMode {sg : Sign} (d : Device) (m : Mode) (h : d.gave sg)  : (Device.changeMode d m).gave sg := by
  unfold Device.changeMode
  (repeat' split) <;> simp_all (maxDischargeDepth := 60)

@[simp] theorem gave_stopItem {sg : Sign} (d : Device) (n : ℕ) (x : Item) (h : d.gave sg)  : (Device.stopItem d n x).gave sg := by
  unfold Device.stopItem
  (repeat' split) <;> simp_all (maxDischargeDepth := 60)

@[simp] theorem gave_shutGate {sg : Sign} (d : Device) (n : ℕ) (x : Item) (h : d.gave sg)  : (Device.shutGate d n x).gave sg := by
  unfold Device.shutGate
  (repeat' split) <;> simp_all (maxDischargeDepth := 60)

@[simp] theorem gave_enterQuarantine {sg : Sign} (d : Device) (h : d.gave sg)  : (Device.enterQuarantine d).gave sg := by
  unfold Device.enterQuarantine
  (repeat' split) <;> (try simp_all (maxDischargeDepth := 60)) <;> repeat' (first | split | intro _ | simp_all (maxDischargeDepth := 60) | (rename_i h; replace h := congrArg (fun q => q.1.gave sg) h; simp_all (maxDischargeDepth := 60); done))

@[simp] theorem gave_burnJoins {sg : Sign} (d : Device) (h : d.gave sg)  : (Device.burnJoins d).gave sg := by
  unfold Device.burnJoins
  (repeat' split) <;> simp_all (maxDischargeDepth := 60)

@[simp] theorem gave_startBurn {sg : Sign} (d : Device) (h : d.gave sg)  : (Device.startBurn d).gave sg := by
  unfold Device.startBurn
  (repeat' split) <;> (try simp_all (maxDischargeDepth := 60)) <;> repeat' (first | split | intro _ | simp_all (maxDischargeDepth := 60) | (rename_i h; replace h := congrArg (fun q => q.1.gave sg) h; simp_all (maxDischargeDepth := 60); done))

@[simp] theorem gave_stageRecord {sg : Sign} (raise : Device → ℕ → Device) (d : Device) (r : TampRec) (h : d.gave sg) (hraise : ∀ x0 x1, x0.gave sg → ((raise x0 x1)).gave sg) : (Device.stageRecord raise d r).gave sg := by
  unfold Device.stageRecord
  (repeat' split) <;> simp_all (maxDischargeDepth := 60)

@[simp] theorem gave_stick {sg : Sign} (d : Device) (i : ℕ) (h : d.gave sg)  : (Device.stick d i).gave sg := by
  cases sg <;> exact h

@[simp] theorem gave_setRootClass {sg : Sign} (d : Device) (c : ℕ) (h : d.gave sg)  : (Device.setRootClass d c).gave sg := by
  unfold Device.setRootClass
  (repeat' split) <;> simp_all (maxDischargeDepth := 60)

@[simp] theorem gave_endExport {sg : Sign} (d : Device) (code : ℕ) (h : d.gave sg)  : (Device.endExport d code).gave sg := by
  unfold Device.endExport
  (repeat' split) <;> simp_all (maxDischargeDepth := 60)

@[simp] theorem gave_squashAll {sg : Sign} (d : Device) (h : d.gave sg)  : (Device.squashAll d).gave sg := by
  unfold Device.squashAll
  (repeat' split) <;> simp_all (maxDischargeDepth := 60)

@[simp] theorem gave_clearAtOnce {sg : Sign} (d : Device) (h : d.gave sg)  : (Device.clearAtOnce d).gave sg := by
  unfold Device.clearAtOnce
  (repeat' split) <;> simp_all (maxDischargeDepth := 60)

@[simp] theorem gave_assertLine {sg : Sign} (raise : Device → ℕ → Device) (d : Device) (cause : ℕ) (source : ℕ) (h : d.gave sg) (hraise : ∀ x0 x1, x0.gave sg → ((raise x0 x1)).gave sg) : (Device.assertLine raise d cause source).gave sg := by
  unfold Device.assertLine
  extract_lets d1 e d2
  have h1 : d1.gave sg := gave_mapTamp _ _ h
  have h2 : d2.gave sg := by
    simp only [d2]
    split
    · exact h1
    · have he : e.gave sg := gave_raiseInt _ _ _ _ (gave_mapTamp _ _ h1)
      split
      · exact he
      · exact gave_stageRecord _ _ _ he hraise
  exact gave_clearAtOnce _ h2

@[simp] theorem gave_setSource {sg : Sign} (d : Device) (s : ℕ) (x : Source) (h : d.gave sg)  : (Device.setSource d s x).gave sg := by
  exact h

@[simp] theorem gave_highWater {sg : Sign} (d : Device) (s : ℕ) (sev : ℕ) (h : d.gave sg)  : (Device.highWater d s sev).gave sg := by
  unfold Device.highWater
  (repeat' split) <;> (try simp_all (maxDischargeDepth := 60)) <;> repeat' (first | split | intro _ | simp_all (maxDischargeDepth := 60) | (rename_i h; replace h := congrArg (fun q => q.1.gave sg) h; simp_all (maxDischargeDepth := 60); done))

theorem gave_event (d : Device) (s : Nat) (f : Cyc → Cyc) (hf : (f d.pages.cyc).events = d.pages.cyc.events.add s) {sg : Sign}
    (h : d.gave sg ∨ sg = .event s) : (d.mapCyc f).gave sg := by
  cases sg with
  | event k =>
    show (f d.pages.cyc).events.mem k = true
    rw [hf, NatSet.mem_add]
    rcases h with h | h
    · have h1 : d.pages.cyc.events.mem k = true := h
      simp [h1]
    · cases h; simp
  | sent o => exact h.elim id fun x => nomatch x

theorem gave_recordEvent_or {sg : Sign} (d : Device) (s : Nat) (h : d.gave sg ∨ sg = .event s) : ((d.recordEvent s).1).gave sg := by
  unfold Device.recordEvent
  extract_lets d0 d1 d1b
  have h0 : d0.gave sg ∨ sg = .event s := by
    simp only [d0]
    split
    · exact h.imp (fun x => gave_stick _ _ x) id
    · exact h
  have h1 : d1.gave sg := gave_addCnt _ _ _ _ _ _ (gave_event _ _ _ rfl h0)
  have h2 : d1b.gave sg := by
    simp only [d1b]
    split
    · exact gave_rwhClash _ _ h1
    · exact h1
  clear_value d0 d1 d1b
  have key : ∀ (e : Nat × Source), (match e with
      | (sev, x) =>
        let timers := d1b.cust.selected && !d1b.store.recovering
        let d2 := (d1b.setSource s (x.report sev timers)).highWater s sev
        let d3 := if sev = 0 then d2 else d2.raiseMask (Page.flt.base 0) (severityBits sev)
        (if d3.alertSev ≤ sev then d3.alertCause else d3, sev)).1.gave sg := by
    rintro ⟨sev, x⟩
    have h3 : ((d1b.setSource s (x.report sev (d1b.cust.selected && !d1b.store.recovering))).highWater s sev).gave sg :=
      gave_highWater _ _ _ (gave_setSource _ _ _ h2)
    have h4 := gave_raiseMask _ (Page.flt.base 0) (severityBits sev) h3
    simp only
    (repeat' split) <;> first | assumption | exact gave_alertCause _ ‹_›
  exact key (d1b.classify s)

@[simp] theorem gave_recordEvent {sg : Sign} (d : Device) (s : Nat) (h : d.gave sg) : ((d.recordEvent s).1).gave sg :=
  gave_recordEvent_or d s (.inl h)

/-- An event reported is a sign of the cycle. -/
theorem gave_recordEvent_self (d : Device) (s : Nat) : ((d.recordEvent s).1).gave (.event s) :=
  gave_recordEvent_or d s (.inr rfl)

@[simp] theorem gave_faultN {sg : Sign} (k : Nat) (d : Device) (s : Nat) (h : d.gave sg) : (Device.faultN k d s).gave sg := by
  induction k generalizing d s with
  | zero => exact gave_recordEvent d s h
  | succ k ih =>
    unfold Device.faultN
    have h1 := gave_recordEvent d s h
    split
    rename_i heq
    rw [heq] at h1
    split
    · exact gave_enterQuarantine _ h1
    · split
      · exact gave_assertLine _ _ _ _ h1 (fun x0 x1 hx => ih x0 x1 hx)
      · exact h1

@[simp] theorem gave_fault {sg : Sign} (d : Device) (s : Nat) (h : d.gave sg) : (d.fault s).gave sg :=
  gave_faultN 3 d s h

theorem gave_faultN_self (k : Nat) (d : Device) (s : Nat) : (Device.faultN k d s).gave (.event s) := by
  have h1 := gave_recordEvent_self d s
  cases k with
  | zero => exact h1
  | succ k =>
    unfold Device.faultN
    split
    rename_i heq
    rw [heq] at h1
    split
    · exact gave_enterQuarantine _ h1
    · split
      · exact gave_assertLine _ _ _ _ h1 (fun x0 x1 hx => gave_faultN k x0 x1 hx)
      · exact h1

/-- A source that reports an event is among the cycle's events from then on. -/
@[simp] theorem gave_fault_self (d : Device) (s : Nat) : (d.fault s).gave (.event s) := gave_faultN_self 3 d s

@[simp] theorem gave_holdCause {sg : Sign} (d : Device) (s : ℕ) (held : Bool) (h : d.gave sg)  : (Device.holdCause d s held).gave sg := by
  exact h

@[simp] theorem gave_zeroize {sg : Sign} (d : Device) (cause : ℕ) (source : ℕ) (h : d.gave sg)  : (Device.zeroize d cause source).gave sg := by
  unfold Device.zeroize
  (repeat' split) <;> simp_all (maxDischargeDepth := 60)

@[simp] theorem gave_leaveQuarantine {sg : Sign} (d : Device) (h : d.gave sg)  : (Device.leaveQuarantine d).gave sg := by
  unfold Device.leaveQuarantine
  (repeat' split) <;> simp_all (maxDischargeDepth := 60)

@[simp] theorem gave_onCommand {sg : Sign} (d : Device) (a : ℕ) (f : Device → Device) (h : d.gave sg) (hf : ∀ x0, x0.gave sg → ((f x0)).gave sg) : (Device.onCommand d a f).gave sg := by
  unfold Device.onCommand
  (repeat' split) <;> simp_all (maxDischargeDepth := 60)

@[simp] theorem gave_onWrite {sg : Sign} (d : Device) (a : ℕ) (f : Device → Device) (h : d.gave sg) (hf : ∀ x0, x0.gave sg → ((f x0)).gave sg) : (Device.onWrite d a f).gave sg := by
  unfold Device.onWrite
  (repeat' split) <;> simp_all (maxDischargeDepth := 60)

@[simp] theorem gave_onIdle {sg : Sign} (d : Device) (a : ℕ) (req : ℕ) (busy : ℕ) (f : Device → Device) (h : d.gave sg) (hf : ∀ x0, x0.gave sg → ((f x0)).gave sg) : (Device.onIdle d a req busy f).gave sg := by
  unfold Device.onIdle
  (repeat' split) <;> simp_all (maxDischargeDepth := 60)

@[simp] theorem gave_w1c {sg : Sign} (d : Device) (a : ℕ) (m : ℕ) (h : d.gave sg)  : (Device.w1c d a m).gave sg := by
  unfold Device.w1c
  (repeat' split) <;> simp_all (maxDischargeDepth := 60)

@[simp] theorem gave_softStart {sg : Sign} (d : Device) (base : ℕ) (f : Device → Device) (h : d.gave sg) (hf : ∀ x0, x0.gave sg → ((f x0)).gave sg) : (Device.softStart d base f).gave sg := by
  unfold Device.softStart
  (repeat' split) <;> simp_all (maxDischargeDepth := 60)

@[simp] theorem gave_captureViolation {sg : Sign} (d : Device) (cls : ℕ) (kind : ℕ) (a : ℕ) (h : d.gave sg)  : (Device.captureViolation d cls kind a).gave sg := by
  unfold Device.captureViolation
  (repeat' split) <;> simp_all (maxDischargeDepth := 60)

@[simp] theorem gave_setValid {sg : Sign} (d : Device) (h : d.gave sg)  : (Device.setValid d).gave sg := by
  unfold Device.setValid
  (repeat' split) <;> simp_all (maxDischargeDepth := 60)

@[simp] theorem gave_recordViolation {sg : Sign} (d : Device) (cls : ℕ) (kind : ℕ) (a : ℕ) (h : d.gave sg)  : (Device.recordViolation d cls kind a).gave sg := by
  unfold Device.recordViolation
  (repeat' split) <;> simp_all (maxDischargeDepth := 60)

@[simp] theorem gave_violation {sg : Sign} (d : Device) (cls : ℕ) (kind : ℕ) (a : ℕ) (h : d.gave sg)  : (Device.violation d cls kind a).gave sg := by
  unfold Device.violation
  (repeat' split) <;> simp_all (maxDischargeDepth := 60)

@[simp] theorem gave_accessViolation {sg : Sign} (d : Device) (cls : ℕ) (kind : ℕ) (a : ℕ) (h : d.gave sg)  : (Device.accessViolation d cls kind a).gave sg := by
  unfold Device.accessViolation
  (repeat' split) <;> simp_all (maxDischargeDepth := 60)

@[simp] theorem gave_violClear {sg : Sign} (d : Device) (w : ℕ) (h : d.gave sg)  : (Device.violClear d w).gave sg := by
  unfold Device.violClear
  (repeat' split) <;> simp_all (maxDischargeDepth := 60)

@[simp] theorem gave_indexDrop {sg : Sign} (d : Device) (i : Ident) (h : d.gave sg)  : (Device.indexDrop d i).gave sg := by
  unfold Device.indexDrop
  (repeat' split) <;> simp_all (maxDischargeDepth := 60)

@[simp] theorem gave_indexPut {sg : Sign} (d : Device) (i : Ident) (loc : ℕ) (h : d.gave sg)  : (Device.indexPut d i loc).gave sg := by
  unfold Device.indexPut
  (repeat' split) <;> simp_all (maxDischargeDepth := 60)

@[simp] theorem gave_readRecord {sg : Sign} (d : Device) (i : Ident) (h : d.gave sg)  : (Device.readRecord d i).gave sg := by
  unfold Device.readRecord
  (repeat' split) <;> simp_all (maxDischargeDepth := 60)

@[simp] theorem gave_setRun {sg : Sign} (d : Device) (k : ℕ) (r : KeyRun) (h : d.gave sg)  : (Device.setRun d k r).gave sg := by
  unfold Device.setRun
  (repeat' split) <;> simp_all (maxDischargeDepth := 60)

@[simp] theorem gave_dropRun {sg : Sign} (d : Device) (k : ℕ) (h : d.gave sg)  : (Device.dropRun d k).gave sg := by
  unfold Device.dropRun
  (repeat' split) <;> simp_all (maxDischargeDepth := 60)

@[simp] theorem gave_makeRoom {sg : Sign} (n k : Nat) (d : Device) (h : d.gave sg) : (Device.makeRoom n k d).1.gave sg := by
  induction k generalizing d with
  | zero => exact h
  | succ k ih => unfold Device.makeRoom; (repeat' split) <;> simp_all

@[simp] theorem gave_stamp {sg : Sign} (d : Device) (h : d.gave sg)  : (Device.stamp d).gave sg := by
  unfold Device.stamp
  (repeat' split) <;> simp_all (maxDischargeDepth := 60)

@[simp] theorem gave_failSlot {sg : Sign} (d : Device) (k : ℕ) (h : d.gave sg)  : (Device.failSlot d k).gave sg := by
  unfold Device.failSlot
  (repeat' split) <;> simp_all (maxDischargeDepth := 60)

@[simp] theorem gave_refetchRun {sg : Sign} (d : Device) (k : ℕ) (h : d.gave sg)  : (Device.refetchRun d k).gave sg := by
  unfold Device.refetchRun
  (repeat' split) <;> (try simp_all (maxDischargeDepth := 60)) <;> repeat' (first | split | intro _ | simp_all (maxDischargeDepth := 60) | (rename_i h; replace h := congrArg (fun q => q.1.gave sg) h; simp_all (maxDischargeDepth := 60); done) | apply gave_onCommand | apply gave_onIdle | apply gave_onWrite | apply gave_softStart)

@[simp] theorem gave_retryFill {sg : Sign} (d : Device) (n : ℕ) (h : d.gave sg)  : (Device.retryFill d n).gave sg := by
  unfold Device.retryFill
  (repeat' split) <;> simp_all (maxDischargeDepth := 60)

@[simp] theorem gave_startFill {sg : Sign} (d : Device) (n : ℕ) (x : Item) (vault : Bool) (id : ℕ) (version : ℕ) (h : d.gave sg)  : (Device.startFill d n x vault id version).gave sg := by
  unfold Device.startFill
  extract_lets tenant len vf d0
  have h0 : d0.gave sg := by
    simp only [d0]; (repeat' split) <;> simp_all
  have h1 := gave_makeRoom len 128 d0 h0
  split
  all_goals
    rename_i he
    rw [he] at h1
    simp_all (maxDischargeDepth := 60)

@[simp] theorem gave_endStep {sg : Sign} (d : Device) (n : ℕ) (e : StepEnd) (h : d.gave sg)  : (Device.endStep d n e).gave sg := by
  unfold Device.endStep
  (repeat' split) <;> simp_all (maxDischargeDepth := 60)

@[simp] theorem gave_refuse {sg : Sign} (d : Device) (n : ℕ) (st : Status) (detail : ℕ) (h : d.gave sg)  : (Device.refuse d n st detail).gave sg := by
  unfold Device.refuse
  (repeat' split) <;> simp_all (maxDischargeDepth := 60)

@[simp] theorem gave_lookupStored {sg : Sign} (d : Device) (n : ℕ) (b : Bool) (vault : Bool) (id : ℕ) (version : ℕ) (h : d.gave sg)  : (Device.lookupStored d n b vault id version).gave sg := by
  unfold Device.lookupStored
  (repeat' split) <;> (try simp_all (maxDischargeDepth := 60)) <;> repeat' (first | split | intro _ | simp_all (maxDischargeDepth := 60) | (rename_i h; replace h := congrArg (fun q => q.1.gave sg) h; simp_all (maxDischargeDepth := 60); done) | apply gave_onCommand | apply gave_onIdle | apply gave_onWrite | apply gave_softStart)

@[simp] theorem gave_requestKey {sg : Sign} (d : Device) (n : ℕ) (b : Bool) (h : d.gave sg)  : (Device.requestKey d n b).gave sg := by
  unfold Device.requestKey
  (repeat' split) <;> simp_all (maxDischargeDepth := 60)

@[simp] theorem gave_writeArea {sg : Sign} (d : Device) (pair : ℕ) (area : ℕ) (place : ℕ) (bytes : Sys2Proof.Bytes) (h : d.gave sg)  : (Device.writeArea d pair area place bytes).gave sg := by
  unfold Device.writeArea
  (repeat' split) <;> simp_all (maxDischargeDepth := 60)

@[simp] theorem gave_writeSuper {sg : Sign} (d : Device) (p : ℕ) (h : d.gave sg)  : (Device.writeSuper d p).gave sg := by
  unfold Device.writeSuper
  (repeat' split) <;> simp_all (maxDischargeDepth := 60)

@[simp] theorem gave_deallocate {sg : Sign} (d : Device) (k : ℕ) (h : d.gave sg)  : (Device.deallocate d k).gave sg := by
  unfold Device.deallocate
  (repeat' split) <;> simp_all (maxDischargeDepth := 60)

@[simp] theorem gave_writeHeader {sg : Sign} (d : Device) (k : ℕ) (g : Seg) (h : d.gave sg)  : (Device.writeHeader d k g).gave sg := by
  unfold Device.writeHeader
  (repeat' split) <;> simp_all (maxDischargeDepth := 60)

@[simp] theorem gave_storeStep {sg : Sign} (d : Device) (f : Store → Store) (h : d.gave sg)  : (Device.storeStep d f).gave sg := by
  unfold Device.storeStep
  extract_lets d1 d2
  have h2 : d2.gave sg := by
    simp only [d2]
    split
    · exact gave_mapStore _ _ h
    · exact gave_raiseInt _ _ _ _ (gave_mapStore _ _ h)
  split
  · exact h2
  · exact gave_raiseInt _ _ _ _ h2

@[simp] theorem gave_setRing {sg : Sign} (d : Device) (v : ℕ) (r : Ring) (h : d.gave sg)  : (Device.setRing d v r).gave sg := by
  unfold Device.setRing
  (repeat' split) <;> simp_all (maxDischargeDepth := 60)

@[simp] theorem gave_recordUnit {sg : Sign} (d : Device) (x : Item) (status : ℕ) (c : Option Comp) (h : d.gave sg)  : (Device.recordUnit d x status c).gave sg := by
  unfold Device.recordUnit
  (repeat' split) <;> simp_all (maxDischargeDepth := 60)

@[simp] theorem gave_takeSeq {sg : Sign} (d : Device) (n : ℕ) (h : d.gave sg)  : (Device.takeSeq d n).gave sg := by
  unfold Device.takeSeq
  (repeat' split) <;> simp_all (maxDischargeDepth := 60)

@[simp] theorem gave_captureWrite {sg : Sign} (d : Device) (w : ℕ) (h : d.gave sg)  : (Device.captureWrite d w).gave sg := by
  unfold Device.captureWrite
  (repeat' split) <;> simp_all (maxDischargeDepth := 60)

@[simp] theorem gave_exportRefused {sg : Sign} (d : Device) (code : ℕ) (h : d.gave sg)  : (Device.exportRefused d code).gave sg := by
  unfold Device.exportRefused
  (repeat' split) <;> simp_all (maxDischargeDepth := 60)

@[simp] theorem gave_exportStart {sg : Sign} (d : Device) (h : d.gave sg)  : (Device.exportStart d).gave sg := by
  unfold Device.exportStart
  (repeat' split) <;> simp_all (maxDischargeDepth := 60)

@[simp] theorem gave_exportEnd {sg : Sign} (d : Device) (hostOk : Bool) (h : d.gave sg)  : (Device.exportEnd d hostOk).gave sg := by
  unfold Device.exportEnd
  (repeat' split) <;> simp_all (maxDischargeDepth := 60)

@[simp] theorem gave_setEngine {sg : Sign} (d : Device) (e : ℕ) (x : Engine) (h : d.gave sg)  : (Device.setEngine d e x).gave sg := by
  unfold Device.setEngine
  (repeat' split) <;> simp_all (maxDischargeDepth := 60)

@[simp] theorem gave_setPair {sg : Sign} (d : Device) (p : ℕ) (x : Pair) (h : d.gave sg)  : (Device.setPair d p x).gave sg := by
  unfold Device.setPair
  (repeat' split) <;> simp_all (maxDischargeDepth := 60)

@[simp] theorem gave_setGroup {sg : Sign} (d : Device) (g : ℕ) (x : Cluster) (h : d.gave sg)  : (Device.setGroup d g x).gave sg := by
  unfold Device.setGroup
  (repeat' split) <;> simp_all (maxDischargeDepth := 60)

@[simp] theorem gave_askYield {sg : Sign} (d : Device) (n : ℕ) (h : d.gave sg)  : (Device.askYield d n).gave sg := by
  unfold Device.askYield
  (repeat' split) <;> simp_all (maxDischargeDepth := 60)

@[simp] theorem gave_askYields {sg : Sign} (d : Device) (h : d.gave sg)  : (Device.askYields d).gave sg := by
  unfold Device.askYields
  (repeat' split) <;> simp_all (maxDischargeDepth := 60)

@[simp] theorem gave_startRun {sg : Sign} (d : Device) (n : ℕ) (u : RunUnit) (h : d.gave sg)  : (Device.startRun d n u).gave sg := by
  unfold Device.startRun
  (repeat' split) <;> simp_all (maxDischargeDepth := 60)

end Sys2Proof.Machine
end

