-- ==== Sys2Proof/Laws/GaveHost.lean ====
section
/-! SUPPORT. Signs kept: the host queues, the lanes and the key cache. -/

namespace Sys2Proof.Machine

@[simp] theorem gave_dropAccess {sg : Sign} (d : Device) (v : ℕ) (src : ℕ) (h : d.gave sg)  : (Device.dropAccess d v src).gave sg := by
  unfold Device.dropAccess
  (repeat' split) <;> simp_all (maxDischargeDepth := 60)

@[simp] theorem gave_requestOperands {sg : Sign} (d : Device) (n : ℕ) (h : d.gave sg)  : (Device.requestOperands d n).gave sg := by
  unfold Device.requestOperands
  (repeat' split) <;> simp_all (maxDischargeDepth := 60)

@[simp] theorem gave_openStep {sg : Sign} (d : Device) (n : ℕ) (h : d.gave sg)  : (Device.openStep d n).gave sg := by
  unfold Device.openStep
  (repeat' split) <;> (try simp_all (maxDischargeDepth := 60)) <;> repeat' (first | split | intro _ | simp_all (maxDischargeDepth := 60) | (rename_i h; replace h := congrArg (fun q => q.1.gave sg) h; simp_all (maxDischargeDepth := 60); done) | apply gave_onCommand | apply gave_onIdle | apply gave_onWrite | apply gave_softStart)

@[simp] theorem gave_finishBundle {sg : Sign} (d : Device) (n : ℕ) (x : Item) (steps : List StepEnd) (h : d.gave sg)  : (Device.finishBundle d n x steps).gave sg := by
  unfold Device.finishBundle
  (repeat' split) <;> simp_all (maxDischargeDepth := 60)

@[simp] theorem gave_settleN {sg : Sign} (k : Nat) (d : Device) (n : Nat) (h : d.gave sg) : (Device.settleN k d n).gave sg := by
  induction k generalizing d n with
  | zero => exact h
  | succ k ih => unfold Device.settleN; (repeat' split) <;> simp_all (maxDischargeDepth := 60)

@[simp] theorem gave_settle {sg : Sign} (d : Device) (n : ℕ) (h : d.gave sg)  : (Device.settle d n).gave sg := by
  unfold Device.settle
  (repeat' split) <;> simp_all (maxDischargeDepth := 60)

@[simp] theorem gave_refuseAdmission {sg : Sign} (d : Device) (n : ℕ) (st : Status) (h : d.gave sg)  : (Device.refuseAdmission d n st).gave sg := by
  unfold Device.refuseAdmission
  (repeat' split) <;> simp_all (maxDischargeDepth := 60)

@[simp] theorem gave_admitItem {sg : Sign} (d : Device) (n : ℕ) (x : Item) (h : d.gave sg)  : (Device.admitItem d n x).gave sg := by
  unfold Device.admitItem
  (repeat' split) <;> simp_all (maxDischargeDepth := 60)

@[simp] theorem gave_deferItem {sg : Sign} (d : Device) (n : ℕ) (x : Item) (h : d.gave sg)  : (Device.deferItem d n x).gave sg := by
  unfold Device.deferItem
  (repeat' split) <;> simp_all (maxDischargeDepth := 60)

@[simp] theorem gave_admitTry {sg : Sign} (d : Device) (n : ℕ) (due : Bool) (h : d.gave sg)  : (Device.admitTry d n due).gave sg := by
  unfold Device.admitTry
  (repeat' split) <;> simp_all (maxDischargeDepth := 60)

@[simp] theorem gave_admitDeferred {sg : Sign} (d : Device) (h : d.gave sg)  : (Device.admitDeferred d).gave sg := by
  unfold Device.admitDeferred
  (repeat' split) <;> simp_all (maxDischargeDepth := 60)

@[simp] theorem gave_admitStart {sg : Sign} (d : Device) (n : ℕ) (x : Item) (h : d.gave sg)  : (Device.admitStart d n x).gave sg := by
  unfold Device.admitStart
  (repeat' split) <;> simp_all (maxDischargeDepth := 60)

@[simp] theorem gave_preAdmit {sg : Sign} (d : Device) (n : ℕ) (h : d.gave sg)  : (Device.preAdmit d n).gave sg := by
  unfold Device.preAdmit
  (repeat' split) <;> simp_all (maxDischargeDepth := 60)

@[simp] theorem gave_unfence {sg : Sign} (d : Device) (n : ℕ) (h : d.gave sg)  : (Device.unfence d n).gave sg := by
  unfold Device.unfence
  (repeat' split) <;> simp_all (maxDischargeDepth := 60)

@[simp] theorem gave_epochStep {sg : Sign} (d : Device) (n : ℕ) (h : d.gave sg)  : (Device.epochStep d n).gave sg := by
  unfold Device.epochStep
  (repeat' split) <;> simp_all (maxDischargeDepth := 60)

@[simp] theorem gave_epochChanged {sg : Sign} (d : Device) (h : d.gave sg)  : (Device.epochChanged d).gave sg := by
  unfold Device.epochChanged
  refine gave_foldl _ _ _ h ?_
  intro d n h
  (repeat' split) <;> simp_all (maxDischargeDepth := 60)

@[simp] theorem gave_serviceStep {sg : Sign} (d : Device) (n : ℕ) (h : d.gave sg)  : (Device.serviceStep d n).gave sg := by
  unfold Device.serviceStep
  (repeat' split) <;> simp_all (maxDischargeDepth := 60)

@[simp] theorem gave_checkItem {sg : Sign} (d : Device) (n : ℕ) (h : d.gave sg)  : (Device.checkItem d n).gave sg := by
  unfold Device.checkItem
  (repeat' split) <;> simp_all (maxDischargeDepth := 60)

@[simp] theorem gave_ingest {sg : Sign} (d : Device) (n : ℕ) (h : d.gave sg)  : (Device.ingest d n).gave sg := by
  unfold Device.ingest
  (repeat' split) <;> simp_all (maxDischargeDepth := 60)

@[simp] theorem gave_ingestAll {sg : Sign} (d : Device) (h : d.gave sg)  : (Device.ingestAll d).gave sg := by
  unfold Device.ingestAll
  (repeat' split) <;> simp_all (maxDischargeDepth := 60)

@[simp] theorem gave_accept {sg : Sign} (d : Device) (r : Route) (bytes : Sys2Proof.Bytes) (h : d.gave sg)  : (Device.accept d r bytes).gave sg := by
  unfold Device.accept
  (repeat' split) <;> simp_all (maxDischargeDepth := 60)

@[simp] theorem gave_windowWrite {sg : Sign} (d : Device) (v : ℕ) (q : ℕ) (k : ℕ) (off : ℕ) (data : Sys2Proof.Bytes) (h : d.gave sg)  : (Device.windowWrite d v q k off data).gave sg := by
  unfold Device.windowWrite
  (repeat' split) <;> simp_all (maxDischargeDepth := 60)

@[simp] theorem gave_tailDoorbell {sg : Sign} (d : Device) (v : ℕ) (q : ℕ) (be : BitVec 4) (value : Sys2Proof.Word) (h : d.gave sg)  : (Device.tailDoorbell d v q be value).gave sg := by
  unfold Device.tailDoorbell
  (repeat' split) <;> simp_all (maxDischargeDepth := 60)

@[simp] theorem gave_unholdWindow {sg : Sign} (d : Device) (v : ℕ) (q : ℕ) (h : d.gave sg)  : (Device.unholdWindow d v q).gave sg := by
  unfold Device.unholdWindow
  (repeat' split) <;> simp_all (maxDischargeDepth := 60)

@[simp] theorem gave_headDoorbell {sg : Sign} (d : Device) (v : ℕ) (q : ℕ) (be : BitVec 4) (value : Sys2Proof.Word) (h : d.gave sg)  : (Device.headDoorbell d v q be value).gave sg := by
  unfold Device.headDoorbell
  (repeat' split) <;> simp_all (maxDischargeDepth := 60)

@[simp] theorem gave_fetchIssue {sg : Sign} (d : Device) (v : ℕ) (q : ℕ) (h : d.gave sg)  : (Device.fetchIssue d v q).gave sg := by
  unfold Device.fetchIssue
  (repeat' split) <;> simp_all (maxDischargeDepth := 60)

@[simp] theorem gave_dropReads {sg : Sign} (d : Device) (v : ℕ) (q : ℕ) (h : d.gave sg)  : (Device.dropReads d v q).gave sg := by
  unfold Device.dropReads
  (repeat' split) <;> simp_all (maxDischargeDepth := 60)

@[simp] theorem gave_readCompletion {sg : Sign} (d : Device) (v : ℕ) (q : ℕ) (data : Sys2Proof.Bytes) (h : d.gave sg)  : (Device.readCompletion d v q data).gave sg := by
  unfold Device.readCompletion
  (repeat' split) <;> (try simp_all (maxDischargeDepth := 60)) <;> repeat' (first | split | intro _ | simp_all (maxDischargeDepth := 60) | (rename_i h; replace h := congrArg (fun q => q.1.gave sg) h; simp_all (maxDischargeDepth := 60); done) | apply gave_onCommand | apply gave_onIdle | apply gave_onWrite | apply gave_softStart)

@[simp] theorem gave_readFailure {sg : Sign} (d : Device) (v : ℕ) (q : ℕ) (h : d.gave sg)  : (Device.readFailure d v q).gave sg := by
  unfold Device.readFailure
  (repeat' split) <;> (try simp_all (maxDischargeDepth := 60)) <;> repeat' (first | split | intro _ | simp_all (maxDischargeDepth := 60) | (rename_i h; replace h := congrArg (fun q => q.1.gave sg) h; simp_all (maxDischargeDepth := 60); done) | apply gave_onCommand | apply gave_onIdle | apply gave_onWrite | apply gave_softStart)

@[simp] theorem gave_refuseBuffer {sg : Sign} (d : Device) (n : ℕ) (x : Item) (detail : ℕ) (h : d.gave sg)  : (Device.refuseBuffer d n x detail).gave sg := by
  unfold Device.refuseBuffer
  (repeat' split) <;> simp_all (maxDischargeDepth := 60)

@[simp] theorem gave_bufferEnd {sg : Sign} (d : Device) (n : ℕ) (data : Option Sys2Proof.Bytes) (h : d.gave sg)  : (Device.bufferEnd d n data).gave sg := by
  unfold Device.bufferEnd
  (repeat' split) <;> (try simp_all (maxDischargeDepth := 60)) <;> repeat' (first | split | intro _ | simp_all (maxDischargeDepth := 60) | (rename_i h; replace h := congrArg (fun q => q.1.gave sg) h; simp_all (maxDischargeDepth := 60); done) | apply gave_onCommand | apply gave_onIdle | apply gave_onWrite | apply gave_softStart)

@[simp] theorem gave_deferDue {sg : Sign} (d : Device) (n : ℕ) (h : d.gave sg)  : (Device.deferDue d n).gave sg := by
  unfold Device.deferDue
  (repeat' split) <;> simp_all (maxDischargeDepth := 60)

@[simp] theorem gave_holdDue {sg : Sign} (d : Device) (n : ℕ) (h : d.gave sg)  : (Device.holdDue d n).gave sg := by
  unfold Device.holdDue
  (repeat' split) <;> simp_all (maxDischargeDepth := 60)

@[simp] theorem gave_postCompletion {sg : Sign} (d : Device) (n : ℕ) (h : d.gave sg)  : (Device.postCompletion d n).gave sg := by
  unfold Device.postCompletion
  (repeat' split) <;> simp_all (maxDischargeDepth := 60)

@[simp] theorem gave_setCluster {sg : Sign} (d : Device) (c : ℕ) (x : Cluster) (h : d.gave sg)  : (Device.setCluster d c x).gave sg := by
  unfold Device.setCluster
  (repeat' split) <;> simp_all (maxDischargeDepth := 60)

@[simp] theorem gave_quarantineCluster {sg : Sign} (d : Device) (c : ℕ) (cause : ℕ) (lane : ℕ) (h : d.gave sg)  : (Device.quarantineCluster d c cause lane).gave sg := by
  unfold Device.quarantineCluster
  (repeat' split) <;> simp_all (maxDischargeDepth := 60)

@[simp] theorem gave_markLane {sg : Sign} (d : Device) (c : ℕ) (l : ℕ) (bits : ℕ) (h : d.gave sg)  : (Device.markLane d c l bits).gave sg := by
  unfold Device.markLane
  (repeat' split) <;> simp_all (maxDischargeDepth := 60)

@[simp] theorem gave_checkFailure {sg : Sign} (d : Device) (c : ℕ) (l : ℕ) (h : d.gave sg)  : (Device.checkFailure d c l).gave sg := by
  unfold Device.checkFailure
  (repeat' split) <;> simp_all (maxDischargeDepth := 60)

@[simp] theorem gave_refuseOrDoom {sg : Sign} (d : Device) (n : ℕ) (st : Status) (detail : ℕ) (h : d.gave sg)  : (Device.refuseOrDoom d n st detail).gave sg := by
  unfold Device.refuseOrDoom
  (repeat' split) <;> simp_all (maxDischargeDepth := 60)

@[simp] theorem gave_withdraw {sg : Sign} (d : Device) (k : ℕ) (h : d.gave sg)  : (Device.withdraw d k).gave sg := by
  unfold Device.withdraw
  (repeat' split) <;> simp_all (maxDischargeDepth := 60)

@[simp] theorem gave_released {sg : Sign} (d : Device) (h : d.gave sg)  : (Device.released d).gave sg := by
  unfold Device.released
  (repeat' split) <;> simp_all (maxDischargeDepth := 60)

@[simp] theorem gave_chargeInternal {sg : Sign} (d : Device) (x : Item) (h : d.gave sg)  : (Device.chargeInternal d x).gave sg := by
  unfold Device.chargeInternal
  (repeat' split) <;> simp_all (maxDischargeDepth := 60)

@[simp] theorem gave_setLane {sg : Sign} (d : Device) (c : ℕ) (l : ℕ) (x : Lane) (h : d.gave sg)  : (Device.setLane d c l x).gave sg := by
  unfold Device.setLane
  (repeat' split) <;> simp_all (maxDischargeDepth := 60)

@[simp] theorem gave_startLane {sg : Sign} (d : Device) (n : ℕ) (c : ℕ) (l : ℕ) (x : Item) (t : TableVersion) (h : d.gave sg)  : (Device.startLane d n c l x t).gave sg := by
  unfold Device.startLane
  (repeat' split) <;> simp_all (maxDischargeDepth := 60)

@[simp] theorem gave_runLane {sg : Sign} (d : Device) (x : Item) (h : d.gave sg)  : (Device.runLane d x).1.gave sg := by
  unfold Device.runLane
  (repeat' split) <;> simp_all (maxDischargeDepth := 60)

@[simp] theorem gave_dispatchLane {sg : Sign} (d : Device) (tagOk : Bool) (h : d.gave sg)  : (Device.dispatchLane d tagOk).gave sg := by
  unfold Device.dispatchLane
  (repeat' split) <;> simp_all (maxDischargeDepth := 60)

@[simp] theorem gave_discardItem {sg : Sign} (d : Device) (n : ℕ) (h : d.gave sg)  : (Device.discardItem d n).gave sg := by
  unfold Device.discardItem
  (repeat' split) <;> simp_all (maxDischargeDepth := 60)

@[simp] theorem gave_releaseStaged {sg : Sign} (d : Device) (n : ℕ) (st : Staged) (h : d.gave sg)  : (Device.releaseStaged d n st).gave sg := by
  unfold Device.releaseStaged
  (repeat' split) <;> simp_all (maxDischargeDepth := 60)

@[simp] theorem gave_withhold {sg : Sign} (d : Device) (n : ℕ) (st : Status) (detail : ℕ) (h : d.gave sg)  : (Device.withhold d n st detail).gave sg := by
  unfold Device.withhold
  (repeat' split) <;> simp_all (maxDischargeDepth := 60)

@[simp] theorem gave_rerun {sg : Sign} (d : Device) (n : ℕ) (x : Item) (h : d.gave sg)  : (Device.rerun d n x).gave sg := by
  unfold Device.rerun
  (repeat' split) <;> simp_all (maxDischargeDepth := 60)

@[simp] theorem gave_laneGate {sg : Sign} (d : Device) (n : ℕ) (c : ℕ) (l : ℕ) (failed : Bool) (h : d.gave sg)  : (Device.laneGate d n c l failed).gave sg := by
  unfold Device.laneGate
  (repeat' split) <;> simp_all (maxDischargeDepth := 60)

@[simp] theorem gave_laneRunEnd {sg : Sign} (d : Device) (n : ℕ) (mismatches : ℕ) (countersOk : Bool) (h : d.gave sg)  : (Device.laneRunEnd d n mismatches countersOk).gave sg := by
  unfold Device.laneRunEnd
  (repeat' split) <;> simp_all (maxDischargeDepth := 60)

@[simp] theorem gave_failRuns {sg : Sign} (d : Device) (c : ℕ) (p : ℕ → Bool) (h : d.gave sg)  : (Device.failRuns d c p).gave sg := by
  unfold Device.failRuns
  (repeat' split) <;> (try simp_all (maxDischargeDepth := 60)) <;> repeat' (first | split | intro _ | simp_all (maxDischargeDepth := 60) | (rename_i h; replace h := congrArg (fun q => q.1.gave sg) h; simp_all (maxDischargeDepth := 60); done) | apply gave_onCommand | apply gave_onIdle | apply gave_onWrite | apply gave_softStart)

@[simp] theorem gave_laneFailure {sg : Sign} (d : Device) (c : ℕ) (l : ℕ) (u : LaneUnit) (h : d.gave sg)  : (Device.laneFailure d c l u).gave sg := by
  unfold Device.laneFailure
  (repeat' split) <;> simp_all (maxDischargeDepth := 60)

@[simp] theorem gave_glitch {sg : Sign} (d : Device) (c : ℕ) (h : d.gave sg)  : (Device.glitch d c).gave sg := by
  unfold Device.glitch
  (repeat' split) <;> simp_all (maxDischargeDepth := 60)

@[simp] theorem gave_clusterWake {sg : Sign} (d : Device) (c : ℕ) (h : d.gave sg)  : (Device.clusterWake d c).gave sg := by
  unfold Device.clusterWake
  (repeat' split) <;> simp_all (maxDischargeDepth := 60)

@[simp] theorem gave_floodWake {sg : Sign} (d : Device) (h : d.gave sg)  : (Device.floodWake d).gave sg := by
  unfold Device.floodWake
  (repeat' split) <;> simp_all (maxDischargeDepth := 60)

@[simp] theorem gave_warmWake {sg : Sign} (d : Device) (h : d.gave sg)  : (Device.warmWake d).gave sg := by
  unfold Device.warmWake
  (repeat' split) <;> simp_all (maxDischargeDepth := 60)

@[simp] theorem gave_testWakes {sg : Sign} (d : Device) (h : d.gave sg)  : (Device.testWakes d).gave sg := by
  unfold Device.testWakes
  (repeat' split) <;> simp_all (maxDischargeDepth := 60)

@[simp] theorem gave_lcReleaseEnd {sg : Sign} (d : Device) (c : ℕ) (h : d.gave sg)  : (Device.lcReleaseEnd d c).gave sg := by
  unfold Device.lcReleaseEnd
  (repeat' split) <;> simp_all (maxDischargeDepth := 60)

@[simp] theorem gave_clusterWakeEnd {sg : Sign} (d : Device) (c : ℕ) (ok : Bool) (h : d.gave sg)  : (Device.clusterWakeEnd d c ok).gave sg := by
  unfold Device.clusterWakeEnd
  (repeat' split) <;> simp_all (maxDischargeDepth := 60)

@[simp] theorem gave_clusterIdleGate {sg : Sign} (d : Device) (c : ℕ) (h : d.gave sg)  : (Device.clusterIdleGate d c).gave sg := by
  unfold Device.clusterIdleGate
  (repeat' split) <;> simp_all (maxDischargeDepth := 60)

@[simp] theorem gave_clusterGated {sg : Sign} (d : Device) (c : ℕ) (h : d.gave sg)  : (Device.clusterGated d c).gave sg := by
  unfold Device.clusterGated
  (repeat' split) <;> (try simp_all (maxDischargeDepth := 60)) <;> repeat' (first | split | intro _ | simp_all (maxDischargeDepth := 60) | (rename_i h; replace h := congrArg (fun q => q.1.gave sg) h; simp_all (maxDischargeDepth := 60); done) | apply gave_onCommand | apply gave_onIdle | apply gave_onWrite | apply gave_softStart)

@[simp] theorem gave_lcRelease {sg : Sign} (d : Device) (c : ℕ) (h : d.gave sg)  : (Device.lcRelease d c).gave sg := by
  unfold Device.lcRelease
  (repeat' split) <;> simp_all (maxDischargeDepth := 60)

@[simp] theorem gave_lcFailClear {sg : Sign} (d : Device) (c : ℕ) (half : ℕ) (bits : ℕ) (h : d.gave sg)  : (Device.lcFailClear d c half bits).gave sg := by
  unfold Device.lcFailClear
  (repeat' split) <;> simp_all (maxDischargeDepth := 60)

@[simp] theorem gave_lcReset {sg : Sign} (d : Device) (c : ℕ) (h : d.gave sg)  : (Device.lcReset d c).gave sg := by
  unfold Device.lcReset
  (repeat' split) <;> simp_all (maxDischargeDepth := 60)

@[simp] theorem gave_lcSoftReset {sg : Sign} (d : Device) (c : ℕ) (h : d.gave sg)  : (Device.lcSoftReset d c).gave sg := by
  unfold Device.lcSoftReset
  (repeat' split) <;> simp_all (maxDischargeDepth := 60)

@[simp] theorem gave_dispatchKeySide {sg : Sign} (d : Device) (h : d.gave sg)  : (Device.dispatchKeySide d).gave sg := by
  unfold Device.dispatchKeySide
  (repeat' split) <;> simp_all (maxDischargeDepth := 60)

@[simp] theorem gave_keySideEnd {sg : Sign} (d : Device) (n : ℕ) (mismatches : ℕ) (h : d.gave sg)  : (Device.keySideEnd d n mismatches).gave sg := by
  unfold Device.keySideEnd
  (repeat' split) <;> simp_all (maxDischargeDepth := 60)

@[simp] theorem gave_deliverKey {sg : Sign} (d : Device) (n : ℕ) (b : Bool) (e : Option KeyEntry) (h : d.gave sg)  : (Device.deliverKey d n b e).gave sg := by
  unfold Device.deliverKey
  (repeat' split) <;> simp_all (maxDischargeDepth := 60)

@[simp] theorem gave_refuseWaiters {sg : Sign} (d : Device) (r : KeyRun) (st : Status) (detail : ℕ) (h : d.gave sg)  : (Device.refuseWaiters d r st detail).gave sg := by
  unfold Device.refuseWaiters
  (repeat' split) <;> simp_all (maxDischargeDepth := 60)

@[simp] theorem gave_fillRun {sg : Sign} (d : Device) (k : ℕ) (r : KeyRun) (h : d.gave sg)  : (Device.fillRun d k r).gave sg := by
  unfold Device.fillRun
  (repeat' split) <;> simp_all (maxDischargeDepth := 60)

@[simp] theorem gave_fillAbsent {sg : Sign} (d : Device) (k : ℕ) (r : KeyRun) (h : d.gave sg)  : (Device.fillAbsent d k r).gave sg := by
  unfold Device.fillAbsent
  (repeat' split) <;> simp_all (maxDischargeDepth := 60)

@[simp] theorem gave_fillBad {sg : Sign} (d : Device) (k : ℕ) (r : KeyRun) (h : d.gave sg)  : (Device.fillBad d k r).gave sg := by
  unfold Device.fillBad
  (repeat' split) <;> simp_all (maxDischargeDepth := 60)

@[simp] theorem gave_fetchEnd {sg : Sign} (d : Device) (k : ℕ) (f : FetchEnd) (h : d.gave sg)  : (Device.fetchEnd d k f).gave sg := by
  unfold Device.fetchEnd
  (repeat' split) <;> simp_all (maxDischargeDepth := 60)

@[simp] theorem gave_slotRead {sg : Sign} (d : Device) (n : ℕ) (b : Bool) (k : ℕ) (r : KeyRun) (f : SlotRead) (h : d.gave sg)  : (Device.slotRead d n b k r f).gave sg := by
  unfold Device.slotRead
  (repeat' split) <;> simp_all (maxDischargeDepth := 60)

@[simp] theorem gave_keyArrival {sg : Sign} (d : Device) (n : ℕ) (x : Item) (b : Bool) (f : SlotRead) (h : d.gave sg)  : (Device.keyArrival d n x b f).gave sg := by
  unfold Device.keyArrival
  extract_lets hh tenant e vault id ver
  split
  · (repeat' split) <;> simp [h]
  · split
    · split
      · exact h
      · split
        · exact gave_deliverKey _ _ _ _ h
        · exact gave_deliverKey _ _ _ _ (gave_fault _ _ h)
        · exact gave_settle _ _ (gave_refuse _ _ _ _ (gave_fault _ _ (gave_fault _ _ h)))
        · exact h
    · split
      · split
        · exact gave_slotRead _ _ _ _ _ _ h
        · exact h
      · exact gave_lookupStored _ _ _ _ _ _ h

@[simp] theorem gave_giveBlock {sg : Sign} (d : Device) (n : ℕ) (h : d.gave sg)  : (Device.giveBlock d n).gave sg := by
  unfold Device.giveBlock
  (repeat' split) <;> simp_all (maxDischargeDepth := 60)

@[simp] theorem gave_queueRequest {sg : Sign} (d : Device) (q : RngReq) (h : d.gave sg)  : (Device.queueRequest d q).gave sg := by
  unfold Device.queueRequest
  (repeat' split) <;> simp_all (maxDischargeDepth := 60)

@[simp] theorem gave_operandArrival {sg : Sign} (d : Device) (n : ℕ) (which : ℕ) (f : SlotRead) (h : d.gave sg)  : (Device.operandArrival d n which f).gave sg := by
  unfold Device.operandArrival
  (repeat' split) <;> simp_all (maxDischargeDepth := 60)

@[simp] theorem gave_operandRefusal {sg : Sign} (d : Device) (n : ℕ) (which : ℕ) (why : Refuse) (h : d.gave sg)  : (Device.operandRefusal d n which why).gave sg := by
  unfold Device.operandRefusal
  (repeat' split) <;> simp_all (maxDischargeDepth := 60)

@[simp] theorem gave_sessionEnd {sg : Sign} (d : Device) (n : ℕ) (mismatches : ℕ) (h : d.gave sg)  : (Device.sessionEnd d n mismatches).gave sg := by
  unfold Device.sessionEnd
  (repeat' split) <;> (try simp_all (maxDischargeDepth := 60)) <;> repeat' (first | split | intro _ | simp_all (maxDischargeDepth := 60) | (rename_i h; replace h := congrArg (fun q => q.1.gave sg) h; simp_all (maxDischargeDepth := 60); done) | apply gave_onCommand | apply gave_onIdle | apply gave_onWrite | apply gave_softStart)

@[simp] theorem gave_queueSweep {sg : Sign} (d : Device) (h : d.gave sg)  : (Device.queueSweep d).gave sg := by
  unfold Device.queueSweep
  (repeat' split) <;> simp_all (maxDischargeDepth := 60)

@[simp] theorem gave_sweepRun {sg : Sign} (failing : List ℕ) (d : Device) (e : ℕ × KeyRun) (h : d.gave sg)  : (Device.sweepRun failing d e).gave sg := by
  unfold Device.sweepRun
  (repeat' split) <;> simp_all (maxDischargeDepth := 60)

@[simp] theorem gave_sweepPass {sg : Sign} (d : Device) (failing : List ℕ) (h : d.gave sg)  : (Device.sweepPass d failing).gave sg := by
  unfold Device.sweepPass
  (repeat' split) <;> simp_all (maxDischargeDepth := 60)

end Sys2Proof.Machine
end

