-- ==== Sys2Proof/Laws/GaveStore.lean ====
section
/-! SUPPORT. Signs kept: the fabric, the record store, the domain and migration. -/

namespace Sys2Proof.Machine

@[simp] theorem gave_domStep {sg : Sign} (d : Device) (f : Domain → Domain) (h : d.gave sg)  : (Device.domStep d f).gave sg := by
  unfold Device.domStep
  extract_lets d1 d2
  have h2 : d2.gave sg := by
    simp only [d2]
    split
    · exact gave_mapDom _ _ h
    · exact gave_raiseInt _ _ _ _ (gave_mapDom _ _ h)
  (repeat' split)
  · exact gave_holdCause _ _ _ (gave_fault _ _ h2)
  · exact gave_holdCause _ _ _ h2
  · exact h2

@[simp] theorem gave_emitFrame {sg : Sign} (d : Device) (p : ℕ) (m : Msg) (h : d.gave sg)  : (Device.emitFrame d p m).gave sg := by
  unfold Device.emitFrame
  (repeat' split) <;> simp_all (maxDischargeDepth := 60)

@[simp] theorem gave_transmit {sg : Sign} (d : Device) (m : Msg) (h : d.gave sg)  : (Device.transmit d m).gave sg := by
  unfold Device.transmit
  (repeat' split) <;> (try simp_all (maxDischargeDepth := 60)) <;> repeat' (first | split | intro _ | simp_all (maxDischargeDepth := 60) | (rename_i h; replace h := congrArg (fun q => q.1.gave sg) h; simp_all (maxDischargeDepth := 60); done) | apply gave_onCommand | apply gave_onIdle | apply gave_onWrite | apply gave_softStart)

@[simp] theorem gave_send {sg : Sign} (d : Device) (m : Msg) (h : d.gave sg)  : (Device.send d m).gave sg := by
  unfold Device.send
  (repeat' split) <;> simp_all (maxDischargeDepth := 60)

@[simp] theorem gave_flushQueue {sg : Sign} (d : Device) (m : ℕ) (h : d.gave sg)  : (Device.flushQueue d m).gave sg := by
  unfold Device.flushQueue
  (repeat' split) <;> simp_all (maxDischargeDepth := 60)

@[simp] theorem gave_replicateTo {sg : Sign} (d : Device) (r : Rec) (m : ℕ) (h : d.gave sg)  : (Device.replicateTo d r m).gave sg := by
  unfold Device.replicateTo
  (repeat' split) <;> simp_all (maxDischargeDepth := 60)

@[simp] theorem gave_bankUpdate {sg : Sign} (d : Device) (f : Bank → Bank) (h : d.gave sg)  : (Device.bankUpdate d f).gave sg := by
  unfold Device.bankUpdate
  (repeat' split) <;> simp_all (maxDischargeDepth := 60)

@[simp] theorem gave_setCommit {sg : Sign} (d : Device) (c : Commit) (h : d.gave sg)  : (Device.setCommit d c).gave sg := by
  unfold Device.setCommit
  (repeat' split) <;> simp_all (maxDischargeDepth := 60)

@[simp] theorem gave_dropCommit {sg : Sign} (d : Device) (seq : ℕ) (h : d.gave sg)  : (Device.dropCommit d seq).gave sg := by
  unfold Device.dropCommit
  (repeat' split) <;> simp_all (maxDischargeDepth := 60)

@[simp] theorem gave_pursue {sg : Sign} (d : Device) (seq : ℕ) (again : Bool) (h : d.gave sg)  : (Device.pursue d seq again).gave sg := by
  unfold Device.pursue
  (repeat' split) <;> simp_all (maxDischargeDepth := 60)

@[simp] theorem gave_sealRecord {sg : Sign} (d : Device) (r : Rec) (h : d.gave sg)  : (Device.sealRecord d r).1.gave sg := by
  unfold Device.sealRecord
  (repeat' split) <;> simp_all (maxDischargeDepth := 60)

@[simp] theorem gave_releaseRecord {sg : Sign} (item : Option ℕ) (d0 : Device) (r : Rec) (h : d0.gave sg)  : (Device.releaseRecord item d0 r).gave sg := by
  unfold Device.releaseRecord
  have h1 := gave_sealRecord d0 r h
  revert h1
  obtain ⟨d, s⟩ := d0.sealRecord r
  intro h1
  simp_all (maxDischargeDepth := 60)

@[simp] theorem gave_releaseRecords {sg : Sign} (d : Device) (item : Option ℕ) (rs : List Rec) (h : d.gave sg)  : (Device.releaseRecords d item rs).gave sg := by
  unfold Device.releaseRecords
  (repeat' split) <;> simp_all (maxDischargeDepth := 60)

@[simp] theorem gave_voidRecord {sg : Sign} (d : Device) (r : Rec) (holders : List ℕ) (h : d.gave sg)  : (Device.voidRecord d r holders).gave sg := by
  unfold Device.voidRecord
  (repeat' split) <;> simp_all (maxDischargeDepth := 60)

@[simp] theorem gave_copyForward {sg : Sign} (d : Device) (rs : List Rec) (h : d.gave sg)  : (Device.copyForward d rs).gave sg := by
  unfold Device.copyForward
  (repeat' split) <;> simp_all (maxDischargeDepth := 60)

@[simp] theorem gave_markMember {sg : Sign} (d : Device) (m : ℕ) (h : d.gave sg)  : (Device.markMember d m).gave sg := by
  unfold Device.markMember
  (repeat' split) <;> simp_all (maxDischargeDepth := 60)

@[simp] theorem gave_clearMark {sg : Sign} (d : Device) (m : ℕ) (h : d.gave sg)  : (Device.clearMark d m).gave sg := by
  unfold Device.clearMark
  (repeat' split) <;> simp_all (maxDischargeDepth := 60)

@[simp] theorem gave_setSeg {sg : Sign} (d : Device) (k : ℕ) (g : Seg) (h : d.gave sg)  : (Device.setSeg d k g).gave sg := by
  unfold Device.setSeg
  (repeat' split) <;> simp_all (maxDischargeDepth := 60)

@[simp] theorem gave_openSegment {sg : Sign} (d : Device) (pair : ℕ) (n : ℕ) (h : d.gave sg)  : (Device.openSegment d pair n).gave sg := by
  unfold Device.openSegment
  (repeat' split) <;> simp_all (maxDischargeDepth := 60)

@[simp] theorem gave_openNext {sg : Sign} (d : Device) (last : ℕ) (h : d.gave sg)  : (Device.openNext d last).gave sg := by
  unfold Device.openNext
  (repeat' split) <;> simp_all (maxDischargeDepth := 60)

@[simp] theorem gave_jnlEnd {sg : Sign} (d : Device) (aborted : Bool) (code : ℕ) (h : d.gave sg)  : (Device.jnlEnd d aborted code).gave sg := by
  unfold Device.jnlEnd
  (repeat' split) <;> simp_all (maxDischargeDepth := 60)

@[simp] theorem gave_jnlStart {sg : Sign} (d : Device) (o : JnlOp) (cmd : Bool) (h : d.gave sg)  : (Device.jnlStart d o cmd).gave sg := by
  unfold Device.jnlStart
  (repeat' split) <;> simp_all (maxDischargeDepth := 60)

@[simp] theorem gave_queueStep {sg : Sign} (d : Device) (o : JnlOp) (h : d.gave sg)  : (Device.queueStep d o).gave sg := by
  unfold Device.queueStep
  (repeat' split) <;> simp_all (maxDischargeDepth := 60)

@[simp] theorem gave_startScrub {sg : Sign} (d : Device) (cmd : Bool) (h : d.gave sg)  : (Device.startScrub d cmd).gave sg := by
  unfold Device.startScrub
  (repeat' split) <;> simp_all (maxDischargeDepth := 60)

@[simp] theorem gave_startCompaction {sg : Sign} (d : Device) (cmd : Bool) (h : d.gave sg)  : (Device.startCompaction d cmd).gave sg := by
  unfold Device.startCompaction
  (repeat' split) <;> simp_all (maxDischargeDepth := 60)

@[simp] theorem gave_autoCompaction {sg : Sign} (d : Device) (h : d.gave sg)  : (Device.autoCompaction d).gave sg := by
  unfold Device.autoCompaction
  (repeat' split) <;> simp_all (maxDischargeDepth := 60)

@[simp] theorem gave_commitItem {sg : Sign} (d : Device) (n : ℕ) (h : d.gave sg)  : (Device.commitItem d n).gave sg := by
  unfold Device.commitItem
  (repeat' split) <;> simp_all (maxDischargeDepth := 60)

@[simp] theorem gave_commitNotice {sg : Sign} (d : Device) (n : ℕ) (h : d.gave sg)  : (Device.commitNotice d n).gave sg := by
  unfold Device.commitNotice
  (repeat' split) <;> simp_all (maxDischargeDepth := 60)

@[simp] theorem gave_ceremonyCommit {sg : Sign} (d : Device) (c : Commit) (h : d.gave sg)  : (Device.ceremonyCommit d c).gave sg := by
  unfold Device.ceremonyCommit
  (repeat' split) <;> simp_all (maxDischargeDepth := 60)

@[simp] theorem gave_markCommitted {sg : Sign} (d : Device) (c : Commit) (h : d.gave sg)  : (Device.markCommitted d c).gave sg := by
  unfold Device.markCommitted
  (repeat' split) <;> simp_all (maxDischargeDepth := 60)

@[simp] theorem gave_recordCommitted {sg : Sign} (d : Device) (seq : ℕ) (h : d.gave sg)  : (Device.recordCommitted d seq).gave sg := by
  unfold Device.recordCommitted
  (repeat' split) <;> simp_all (maxDischargeDepth := 60)

@[simp] theorem gave_commitLate {sg : Sign} (d : Device) (seq : ℕ) (h : d.gave sg)  : (Device.commitLate d seq).gave sg := by
  unfold Device.commitLate
  (repeat' split) <;> simp_all (maxDischargeDepth := 60)

@[simp] theorem gave_localWrite {sg : Sign} (d : Device) (h : d.gave sg)  : (Device.localWrite d).gave sg := by
  unfold Device.localWrite
  (repeat' split) <;> simp_all (maxDischargeDepth := 60)

@[simp] theorem gave_indexRecord {sg : Sign} (d : Device) (r : Rec) (h : d.gave sg)  : (Device.indexRecord d r).gave sg := by
  unfold Device.indexRecord
  (repeat' split) <;> simp_all (maxDischargeDepth := 60)

@[simp] theorem gave_landWrite {sg : Sign} (d : Device) (h : d.gave sg)  : (Device.landWrite d).gave sg := by
  unfold Device.landWrite
  (repeat' split) <;> simp_all (maxDischargeDepth := 60)

@[simp] theorem gave_dropSuperseded {sg : Sign} (d : Device) (r : Rec) (h : d.gave sg)  : (Device.dropSuperseded d r).gave sg := by
  unfold Device.dropSuperseded
  (repeat' split) <;> simp_all (maxDischargeDepth := 60)

@[simp] theorem gave_noteState {sg : Sign} (d : Device) (was : ℕ) (h : d.gave sg)  : (Device.noteState d was).gave sg := by
  unfold Device.noteState
  (repeat' split) <;> simp_all (maxDischargeDepth := 60)

@[simp] theorem gave_checkFull {sg : Sign} (d : Device) (h : d.gave sg)  : (Device.checkFull d).gave sg := by
  unfold Device.checkFull
  (repeat' split) <;> simp_all (maxDischargeDepth := 60)

@[simp] theorem gave_abandonCommit {sg : Sign} (d : Device) (c : Commit) (h : d.gave sg)  : (Device.abandonCommit d c).gave sg := by
  unfold Device.abandonCommit
  (repeat' split) <;> (try simp_all (maxDischargeDepth := 60)) <;> repeat' (first | split | intro _ | simp_all (maxDischargeDepth := 60) | (rename_i h; replace h := congrArg (fun q => q.1.gave sg) h; simp_all (maxDischargeDepth := 60); done) | apply gave_onCommand | apply gave_onIdle | apply gave_onWrite | apply gave_softStart)

@[simp] theorem gave_becomeReadOnly {sg : Sign} (d : Device) (h : d.gave sg)  : (Device.becomeReadOnly d).gave sg := by
  unfold Device.becomeReadOnly
  (repeat' split) <;> simp_all (maxDischargeDepth := 60)

@[simp] theorem gave_failPort {sg : Sign} (d : Device) (p : ℕ) (h : d.gave sg)  : (Device.failPort d p).gave sg := by
  unfold Device.failPort
  (repeat' split) <;> simp_all (maxDischargeDepth := 60)

@[simp] theorem gave_fuaFailure {sg : Sign} (d : Device) (p : ℕ) (h : d.gave sg)  : (Device.fuaFailure d p).gave sg := by
  unfold Device.fuaFailure
  (repeat' split) <;> simp_all (maxDischargeDepth := 60)

@[simp] theorem gave_setRead {sg : Sign} (d : Device) (r : PeerRead) (h : d.gave sg)  : (Device.setRead d r).gave sg := by
  unfold Device.setRead
  (repeat' split) <;> simp_all (maxDischargeDepth := 60)

@[simp] theorem gave_dropRead {sg : Sign} (d : Device) (k : ℕ) (h : d.gave sg)  : (Device.dropRead d k).gave sg := by
  unfold Device.dropRead
  (repeat' split) <;> simp_all (maxDischargeDepth := 60)

@[simp] theorem gave_probeAbsent {sg : Sign} (d : Device) (n : ℕ) (bad : Bool) (h : d.gave sg)  : (Device.probeAbsent d n bad).gave sg := by
  unfold Device.probeAbsent
  (repeat' split) <;> simp_all (maxDischargeDepth := 60)

@[simp] theorem gave_probeFound {sg : Sign} (d : Device) (n : ℕ) (recs : List Rec) (h : d.gave sg)  : (Device.probeFound d n recs).gave sg := by
  unfold Device.probeFound
  (repeat' split) <;> (try simp_all (maxDischargeDepth := 60)) <;> repeat' (first | split | intro _ | simp_all (maxDischargeDepth := 60) | (rename_i h; replace h := congrArg (fun q => q.1.gave sg) h; simp_all (maxDischargeDepth := 60); done) | apply gave_onCommand | apply gave_onIdle | apply gave_onWrite | apply gave_softStart)

@[simp] theorem gave_readAbsent {sg : Sign} (d : Device) (r : PeerRead) (h : d.gave sg)  : (Device.readAbsent d r).gave sg := by
  unfold Device.readAbsent
  (repeat' split) <;> (try simp_all (maxDischargeDepth := 60)) <;> repeat' (first | split | intro _ | simp_all (maxDischargeDepth := 60) | (rename_i h; replace h := congrArg (fun q => q.1.gave sg) h; simp_all (maxDischargeDepth := 60); done) | apply gave_onCommand | apply gave_onIdle | apply gave_onWrite | apply gave_softStart)

@[simp] theorem gave_readNext {sg : Sign} (d : Device) (r : PeerRead) (h : d.gave sg)  : (Device.readNext d r).gave sg := by
  unfold Device.readNext
  (repeat' split) <;> simp_all (maxDischargeDepth := 60)

@[simp] theorem gave_peerRead {sg : Sign} (d : Device) (k : ℕ) (i : Ident) (bad : Bool) (h : d.gave sg)  : (Device.peerRead d k i bad).gave sg := by
  unfold Device.peerRead
  (repeat' split) <;> simp_all (maxDischargeDepth := 60)

@[simp] theorem gave_probeReadEnd {sg : Sign} (d : Device) (n : ℕ) (f : ReadEnd) (h : d.gave sg)  : (Device.probeReadEnd d n f).gave sg := by
  unfold Device.probeReadEnd
  (repeat' split) <;> simp_all (maxDischargeDepth := 60)

@[simp] theorem gave_recordReadEnd {sg : Sign} (d : Device) (k : ℕ) (f : ReadEnd) (h : d.gave sg)  : (Device.recordReadEnd d k f).gave sg := by
  unfold Device.recordReadEnd
  (repeat' split) <;> simp_all (maxDischargeDepth := 60)

@[simp] theorem gave_retryRead {sg : Sign} (d : Device) (k : ℕ) (h : d.gave sg)  : (Device.retryRead d k).gave sg := by
  unfold Device.retryRead
  (repeat' split) <;> (try simp_all (maxDischargeDepth := 60)) <;> repeat' (first | split | intro _ | simp_all (maxDischargeDepth := 60) | (rename_i h; replace h := congrArg (fun q => q.1.gave sg) h; simp_all (maxDischargeDepth := 60); done) | apply gave_onCommand | apply gave_onIdle | apply gave_onWrite | apply gave_softStart)

@[simp] theorem gave_indexCheckpoint {sg : Sign} (d : Device) (h : d.gave sg)  : (Device.indexCheckpoint d).gave sg := by
  unfold Device.indexCheckpoint
  (repeat' split) <;> simp_all (maxDischargeDepth := 60)

@[simp] theorem gave_jnlCommand {sg : Sign} (d : Device) (o : JnlOp) (f : Device → Device) (h : d.gave sg) (hf : ∀ x0, x0.gave sg → ((f x0)).gave sg) : (Device.jnlCommand d o f).gave sg := by
  unfold Device.jnlCommand
  (repeat' split) <;> simp_all (maxDischargeDepth := 60)

@[simp] theorem gave_sweepCommand {sg : Sign} (d : Device) (o : JnlOp) (start : Device → Device) (h : d.gave sg) (hstart : ∀ x0, x0.gave sg → ((start x0)).gave sg) : (Device.sweepCommand d o start).gave sg := by
  unfold Device.sweepCommand
  (repeat' split) <;> simp_all (maxDischargeDepth := 60)

@[simp] theorem gave_scrubTimer {sg : Sign} (d : Device) (h : d.gave sg)  : (Device.scrubTimer d).gave sg := by
  unfold Device.scrubTimer
  (repeat' split) <;> simp_all (maxDischargeDepth := 60)

@[simp] theorem gave_scrubEnd {sg : Sign} (d : Device) (h : d.gave sg)  : (Device.scrubEnd d).gave sg := by
  unfold Device.scrubEnd
  (repeat' split) <;> simp_all (maxDischargeDepth := 60)

@[simp] theorem gave_eraseSegment {sg : Sign} (d : Device) (k : ℕ) (h : d.gave sg)  : (Device.eraseSegment d k).gave sg := by
  unfold Device.eraseSegment
  (repeat' split) <;> simp_all (maxDischargeDepth := 60)

@[simp] theorem gave_compactStep {sg : Sign} (d : Device) (h : d.gave sg)  : (Device.compactStep d).gave sg := by
  unfold Device.compactStep
  (repeat' split) <;> simp_all (maxDischargeDepth := 60)

@[simp] theorem gave_compactionEnd {sg : Sign} (d : Device) (h : d.gave sg)  : (Device.compactionEnd d).gave sg := by
  unfold Device.compactionEnd
  (repeat' split) <;> simp_all (maxDischargeDepth := 60)

@[simp] theorem gave_scrubStep {sg : Sign} (d : Device) (h : d.gave sg)  : (Device.scrubStep d).gave sg := by
  unfold Device.scrubStep
  (repeat' split) <;> simp_all (maxDischargeDepth := 60)

@[simp] theorem gave_adopt {sg : Sign} (d : Device) (h : d.gave sg)  : (Device.adopt d).gave sg := by
  unfold Device.adopt
  (repeat' split) <;> simp_all (maxDischargeDepth := 60)

@[simp] theorem gave_adoptSuper {sg : Sign} (d : Device) (p : ℕ) (code : ℕ) (h : d.gave sg)  : (Device.adoptSuper d p code).gave sg := by
  unfold Device.adoptSuper
  (repeat' split) <;> simp_all (maxDischargeDepth := 60)

@[simp] theorem gave_adoptEnd {sg : Sign} (d : Device) (code : ℕ) (h : d.gave sg)  : (Device.adoptEnd d code).gave sg := by
  unfold Device.adoptEnd
  (repeat' split) <;> simp_all (maxDischargeDepth := 60)

@[simp] theorem gave_format {sg : Sign} (d : Device) (h : d.gave sg)  : (Device.format d).gave sg := by
  unfold Device.format
  (repeat' split) <;> simp_all (maxDischargeDepth := 60)

@[simp] theorem gave_formatStore {sg : Sign} (d : Device) (h : d.gave sg)  : (Device.formatStore d).gave sg := by
  unfold Device.formatStore
  (repeat' split) <;> simp_all (maxDischargeDepth := 60)

@[simp] theorem gave_formatEnd {sg : Sign} (d : Device) (code : ℕ) (h : d.gave sg)  : (Device.formatEnd d code).gave sg := by
  unfold Device.formatEnd
  (repeat' split) <;> simp_all (maxDischargeDepth := 60)

@[simp] theorem gave_jnlReset {sg : Sign} (d : Device) (h : d.gave sg)  : (Device.jnlReset d).gave sg := by
  unfold Device.jnlReset
  (repeat' split) <;> simp_all (maxDischargeDepth := 60)

@[simp] theorem gave_jnlSoftReset {sg : Sign} (d : Device) (h : d.gave sg)  : (Device.jnlSoftReset d).gave sg := by
  unfold Device.jnlSoftReset
  (repeat' split) <;> simp_all (maxDischargeDepth := 60)

@[simp] theorem gave_answerEpoch {sg : Sign} (d : Device) (m : Msg) (status : ℕ) (h : d.gave sg)  : (Device.answerEpoch d m status).gave sg := by
  unfold Device.answerEpoch
  (repeat' split) <;> simp_all (maxDischargeDepth := 60)

@[simp] theorem gave_heard {sg : Sign} (d : Device) (p : ℕ) (m : Msg) (h : d.gave sg)  : (Device.heard d p m).gave sg := by
  unfold Device.heard
  (repeat' split) <;> simp_all (maxDischargeDepth := 60)

@[simp] theorem gave_graced {sg : Sign} (d : Device) (m : Msg) (f : Device → Device) (h : d.gave sg) (hf : ∀ x0, x0.gave sg → ((f x0)).gave sg) : (Device.graced d m f).gave sg := by
  unfold Device.graced
  (repeat' split) <;> simp_all (maxDischargeDepth := 60)

@[simp] theorem gave_receive {sg : Sign} (d : Device) (p : ℕ) (m : Msg) (f : Device → Device) (h : d.gave sg) (hf : ∀ x0, x0.gave sg → ((f x0)).gave sg) : (Device.receive d p m f).gave sg := by
  unfold Device.receive
  (repeat' split) <;> simp_all (maxDischargeDepth := 60)

@[simp] theorem gave_askHold {sg : Sign} (d : Device) (r : Rec) (why : AskWhy) (members : List ℕ) (h : d.gave sg)  : (Device.askHold d r why members).gave sg := by
  unfold Device.askHold
  (repeat' split) <;> simp_all (maxDischargeDepth := 60)

@[simp] theorem gave_dropAsk {sg : Sign} (d : Device) (a : HoldAsk) (h : d.gave sg)  : (Device.dropAsk d a).gave sg := by
  unfold Device.dropAsk
  (repeat' split) <;> simp_all (maxDischargeDepth := 60)

@[simp] theorem gave_endMoved {sg : Sign} (d : Device) (c : Commit) (committed : Bool) (h : d.gave sg)  : (Device.endMoved d c committed).gave sg := by
  unfold Device.endMoved
  (repeat' split) <;> simp_all (maxDischargeDepth := 60)

@[simp] theorem gave_settleMoved {sg : Sign} (d : Device) (c : Commit) (h : d.gave sg)  : (Device.settleMoved d c).gave sg := by
  unfold Device.settleMoved
  (repeat' split) <;> simp_all (maxDischargeDepth := 60)

@[simp] theorem gave_settleAsk {sg : Sign} (d : Device) (a : HoldAsk) (h : d.gave sg)  : (Device.settleAsk d a).gave sg := by
  unfold Device.settleAsk
  (repeat' split) <;> (try simp_all (maxDischargeDepth := 60)) <;> repeat' (first | split | intro _ | simp_all (maxDischargeDepth := 60) | (rename_i h; replace h := congrArg (fun q => q.1.gave sg) h; simp_all (maxDischargeDepth := 60); done) | apply gave_onCommand | apply gave_onIdle | apply gave_onWrite | apply gave_softStart)

@[simp] theorem gave_settleAsks {sg : Sign} (d : Device) (p : HoldAsk → Bool) (h : d.gave sg)  : (Device.settleAsks d p).gave sg := by
  unfold Device.settleAsks
  (repeat' split) <;> simp_all (maxDischargeDepth := 60)

@[simp] theorem gave_startResync {sg : Sign} (d : Device) (cmd : Bool) (h : d.gave sg)  : (Device.startResync d cmd).gave sg := by
  unfold Device.startResync
  extract_lets rs d1
  have h1 : d1.gave sg := gave_progStart _ _ _ _ (gave_mapDom _ _ h)
  refine gave_foldl _ _ _ h1 ?_
  intro d r hd
  extract_lets all ms d2
  have h2 : d2.gave sg := by simp only [d2]; split <;> simp [hd]
  split
  · exact gave_progPos _ _ _ h2
  · exact gave_askHold _ _ _ _ h2

@[simp] theorem gave_endResync {sg : Sign} (d : Device) (aborted : Bool) (h : d.gave sg)  : (Device.endResync d aborted).gave sg := by
  unfold Device.endResync
  (repeat' split) <;> simp_all (maxDischargeDepth := 60)

@[simp] theorem gave_resyncEnd {sg : Sign} (d : Device) (h : d.gave sg)  : (Device.resyncEnd d).gave sg := by
  unfold Device.resyncEnd
  (repeat' split) <;> simp_all (maxDischargeDepth := 60)

@[simp] theorem gave_domCommand {sg : Sign} (d : Device) (bit : ℕ) (f : Device → Device) (h : d.gave sg) (hf : ∀ x0, x0.gave sg → ((f x0)).gave sg) : (Device.domCommand d bit f).gave sg := by
  unfold Device.domCommand
  (repeat' split) <;> simp_all (maxDischargeDepth := 60)

@[simp] theorem gave_resyncCommand {sg : Sign} (d : Device) (h : d.gave sg)  : (Device.resyncCommand d).gave sg := by
  unfold Device.resyncCommand
  (repeat' split) <;> simp_all (maxDischargeDepth := 60)

@[simp] theorem gave_resyncDigest {sg : Sign} (d : Device) (m : Msg) (h : d.gave sg)  : (Device.resyncDigest d m).gave sg := by
  unfold Device.resyncDigest
  (repeat' split) <;> simp_all (maxDischargeDepth := 60)

@[simp] theorem gave_replicateIn {sg : Sign} (d : Device) (m : Msg) (h : d.gave sg)  : (Device.replicateIn d m).gave sg := by
  unfold Device.replicateIn
  (repeat' split) <;> simp_all (maxDischargeDepth := 60)

@[simp] theorem gave_ackFrom {sg : Sign} (d : Device) (m : Msg) (src : ℕ) (h : d.gave sg)  : (Device.ackFrom d m src).gave sg := by
  unfold Device.ackFrom
  refine gave_foldl _ _ _ h ?_
  intro d i hd
  extract_lets d1
  have h1 : d1.gave sg := by simp only [d1]; (repeat' split) <;> simp_all
  split
  · exact gave_settleMoved _ _ (gave_mapDom _ _ h1)
  · exact h1

@[simp] theorem gave_forward {sg : Sign} (d : Device) (m : Msg) (target : ℕ) (h : d.gave sg)  : (Device.forward d m target).gave sg := by
  unfold Device.forward
  (repeat' split) <;> (try simp_all (maxDischargeDepth := 60)) <;> repeat' (first | split | intro _ | simp_all (maxDischargeDepth := 60) | (rename_i h; replace h := congrArg (fun q => q.1.gave sg) h; simp_all (maxDischargeDepth := 60); done) | apply gave_onCommand | apply gave_onIdle | apply gave_onWrite | apply gave_softStart | apply gave_domCommand)

@[simp] theorem gave_toStub {sg : Sign} (d : Device) (m : Msg) (f : Device → Device) (h : d.gave sg) (hf : ∀ x0, x0.gave sg → ((f x0)).gave sg) : (Device.toStub d m f).gave sg := by
  unfold Device.toStub
  (repeat' split) <;> simp_all (maxDischargeDepth := 60)

@[simp] theorem gave_ackIn {sg : Sign} (d : Device) (m : Msg) (h : d.gave sg)  : (Device.ackIn d m).gave sg := by
  unfold Device.ackIn
  (repeat' split) <;> simp_all (maxDischargeDepth := 60)

@[simp] theorem gave_nakIn {sg : Sign} (d : Device) (m : Msg) (h : d.gave sg)  : (Device.nakIn d m).gave sg := by
  unfold Device.nakIn
  refine gave_toStub _ _ _ h ?_
  intro d hd
  refine gave_foldl _ _ _ hd ?_
  intro d i hd
  (repeat' split) <;> simp_all (maxDischargeDepth := 60)

@[simp] theorem gave_readIn {sg : Sign} (d : Device) (m : Msg) (h : d.gave sg)  : (Device.readIn d m).gave sg := by
  unfold Device.readIn
  (repeat' split) <;> simp_all (maxDischargeDepth := 60)

@[simp] theorem gave_importFound {sg : Sign} (d : Device) (k : ℕ) (h : d.gave sg) : (Device.importFound d k).gave sg := by
  unfold Device.importFound
  simp_all

@[simp] theorem gave_fillFromPeers {sg : Sign} (d : Device) (r : PeerRead) (h : d.gave sg)  : (Device.fillFromPeers d r).gave sg := by
  unfold Device.fillFromPeers
  (repeat' split) <;> (try simp_all (maxDischargeDepth := 60)) <;> repeat' (first | split | intro _ | simp_all (maxDischargeDepth := 60) | (rename_i h; replace h := congrArg (fun q => q.1.gave sg) h; simp_all (maxDischargeDepth := 60); done) | apply gave_onCommand | apply gave_onIdle | apply gave_onWrite | apply gave_softStart | apply gave_domCommand | apply gave_toStub)

@[simp] theorem gave_readAnswer {sg : Sign} (m : Msg) (d : Device) (r : PeerRead) (h : d.gave sg)  : (Device.readAnswer m d r).gave sg := by
  unfold Device.readAnswer
  (repeat' split) <;> simp_all (maxDischargeDepth := 60)

@[simp] theorem gave_readForwarded {sg : Sign} (d : Device) (w : Rec) (h : d.gave sg)  : (Device.readForwarded d w).gave sg := by
  unfold Device.readForwarded
  have h1 := gave_makeRoom 1 128 d h
  extract_lets vault
  split
  · exact h
  · split
    · exact h
    · rename_i he
      rw [he] at h1
      extract_lets run
      split
      · simp_all (maxDischargeDepth := 60)
      · exact h

@[simp] theorem gave_readReplyIn {sg : Sign} (d : Device) (m : Msg) (h : d.gave sg)  : (Device.readReplyIn d m).gave sg := by
  unfold Device.readReplyIn
  (repeat' split) <;> simp_all (maxDischargeDepth := 60)

@[simp] theorem gave_holdQueryIn {sg : Sign} (d : Device) (m : Msg) (h : d.gave sg)  : (Device.holdQueryIn d m).gave sg := by
  unfold Device.holdQueryIn
  (repeat' split) <;> simp_all (maxDischargeDepth := 60)

@[simp] theorem gave_holdReplyIn {sg : Sign} (d : Device) (m : Msg) (h : d.gave sg)  : (Device.holdReplyIn d m).gave sg := by
  unfold Device.holdReplyIn
  (repeat' split) <;> simp_all (maxDischargeDepth := 60)

@[simp] theorem gave_originQueryIn {sg : Sign} (d : Device) (m : Msg) (h : d.gave sg)  : (Device.originQueryIn d m).gave sg := by
  unfold Device.originQueryIn
  (repeat' split) <;> simp_all (maxDischargeDepth := 60)

@[simp] theorem gave_originReplyIn {sg : Sign} (d : Device) (m : Msg) (h : d.gave sg)  : (Device.originReplyIn d m).gave sg := by
  unfold Device.originReplyIn
  split
  · exact h
  · extract_lets d1 e d2
    have h1 : d1.gave sg := gave_mapDom _ _ (gave_mapStore _ _ h)
    have h2 : d2.gave sg := by
      simp only [d2]
      split
      · exact gave_foldl _ _ _ (gave_mapDom _ _ h1) (fun d c hd => gave_pursue _ _ _ hd)
      · exact h1
    split
    · exact h2
    · refine gave_foldl _ _ _ h2 (fun d i hd => ?_)
      split
      · exact hd
      · exact gave_askHold _ _ _ _ hd

@[simp] theorem gave_writePrepared {sg : Sign} (d : Device) (p : Prepared) (h : d.gave sg)  : (Device.writePrepared d p).gave sg := by
  unfold Device.writePrepared
  (repeat' split) <;> simp_all (maxDischargeDepth := 60)

@[simp] theorem gave_writeView {sg : Sign} (d : Device) (n : Next) (tell : Bool) (h : d.gave sg)  : (Device.writeView d n tell).gave sg := by
  unfold Device.writeView
  (repeat' split) <;> simp_all (maxDischargeDepth := 60)

@[simp] theorem gave_countVote {sg : Sign} (d : Device) (n : Next) (src : ℕ) (ack : Bool) (h : d.gave sg)  : (Device.countVote d n src ack).gave sg := by
  unfold Device.countVote
  (repeat' split) <;> simp_all (maxDischargeDepth := 60)

@[simp] theorem gave_rollBack {sg : Sign} (d : Device) (p : ℕ) (h : d.gave sg)  : (Device.rollBack d p).gave sg := by
  unfold Device.rollBack
  (repeat' split) <;> simp_all (maxDischargeDepth := 60)

@[simp] theorem gave_prepareChange {sg : Sign} (d : Device) (h : d.gave sg)  : (Device.prepareChange d).gave sg := by
  unfold Device.prepareChange
  (repeat' split) <;> simp_all (maxDischargeDepth := 60)

@[simp] theorem gave_sendAck {sg : Sign} (d : Device) (n : Next) (h : d.gave sg)  : (Device.sendAck d n).gave sg := by
  unfold Device.sendAck
  (repeat' split) <;> simp_all (maxDischargeDepth := 60)

@[simp] theorem gave_prepareIn {sg : Sign} (d : Device) (m : Msg) (h : d.gave sg)  : (Device.prepareIn d m).gave sg := by
  unfold Device.prepareIn
  (repeat' split) <;> (try simp_all (maxDischargeDepth := 60)) <;> repeat' (first | split | intro _ | simp_all (maxDischargeDepth := 60) | (rename_i h; replace h := congrArg (fun q => q.1.gave sg) h; simp_all (maxDischargeDepth := 60); done) | apply gave_onCommand | apply gave_onIdle | apply gave_onWrite | apply gave_softStart | apply gave_domCommand | apply gave_toStub)

@[simp] theorem gave_prepareResend {sg : Sign} (d : Device) (h : d.gave sg)  : (Device.prepareResend d).gave sg := by
  unfold Device.prepareResend
  (repeat' split) <;> (try simp_all (maxDischargeDepth := 60)) <;> repeat' (first | split | intro _ | simp_all (maxDischargeDepth := 60) | (rename_i h; replace h := congrArg (fun q => q.1.gave sg) h; simp_all (maxDischargeDepth := 60); done) | apply gave_onCommand | apply gave_onIdle | apply gave_onWrite | apply gave_softStart | apply gave_domCommand | apply gave_toStub)

@[simp] theorem gave_prepareAckIn {sg : Sign} (d : Device) (m : Msg) (h : d.gave sg)  : (Device.prepareAckIn d m).gave sg := by
  unfold Device.prepareAckIn
  (repeat' split) <;> simp_all (maxDischargeDepth := 60)

@[simp] theorem gave_commitIn {sg : Sign} (d : Device) (m : Msg) (h : d.gave sg)  : (Device.commitIn d m).gave sg := by
  unfold Device.commitIn
  (repeat' split) <;> simp_all (maxDischargeDepth := 60)

@[simp] theorem gave_takeover {sg : Sign} (d : Device) (h : d.gave sg)  : (Device.takeover d).gave sg := by
  unfold Device.takeover
  (repeat' split) <;> (try simp_all (maxDischargeDepth := 60)) <;> repeat' (first | split | intro _ | simp_all (maxDischargeDepth := 60) | (rename_i h; replace h := congrArg (fun q => q.1.gave sg) h; simp_all (maxDischargeDepth := 60); done) | apply gave_onCommand | apply gave_onIdle | apply gave_onWrite | apply gave_softStart | apply gave_domCommand | apply gave_toStub)

@[simp] theorem gave_recoverResend {sg : Sign} (d : Device) (h : d.gave sg)  : (Device.recoverResend d).gave sg := by
  unfold Device.recoverResend
  (repeat' split) <;> simp_all (maxDischargeDepth := 60)

@[simp] theorem gave_recoverAnswer {sg : Sign} (d : Device) (dst : ℕ) (x : Prepared) (h : d.gave sg)  : (Device.recoverAnswer d dst x).gave sg := by
  unfold Device.recoverAnswer
  (repeat' split) <;> simp_all (maxDischargeDepth := 60)

@[simp] theorem gave_recoverIn {sg : Sign} (d : Device) (m : Msg) (h : d.gave sg)  : (Device.recoverIn d m).gave sg := by
  unfold Device.recoverIn
  (repeat' split) <;> simp_all (maxDischargeDepth := 60)

@[simp] theorem gave_recoverReplyIn {sg : Sign} (d : Device) (m : Msg) (h : d.gave sg)  : (Device.recoverReplyIn d m).gave sg := by
  unfold Device.recoverReplyIn
  (repeat' split) <;> simp_all (maxDischargeDepth := 60)

@[simp] theorem gave_rollbackIn {sg : Sign} (d : Device) (m : Msg) (h : d.gave sg)  : (Device.rollbackIn d m).gave sg := by
  unfold Device.rollbackIn
  (repeat' split) <;> simp_all (maxDischargeDepth := 60)

@[simp] theorem gave_request {sg : Sign} (d : Device) (c : Change) (h : d.gave sg)  : (Device.request d c).gave sg := by
  unfold Device.request
  (repeat' split) <;> simp_all (maxDischargeDepth := 60)

@[simp] theorem gave_helloIn {sg : Sign} (d : Device) (m : Msg) (h : d.gave sg)  : (Device.helloIn d m).gave sg := by
  unfold Device.helloIn
  (repeat' split) <;> (try simp_all (maxDischargeDepth := 60)) <;> repeat' (first | split | intro _ | simp_all (maxDischargeDepth := 60) | (rename_i h; replace h := congrArg (fun q => q.1.gave sg) h; simp_all (maxDischargeDepth := 60); done) | apply gave_onCommand | apply gave_onIdle | apply gave_onWrite | apply gave_softStart | apply gave_domCommand | apply gave_toStub)

@[simp] theorem gave_helloTimer {sg : Sign} (d : Device) (h : d.gave sg)  : (Device.helloTimer d).gave sg := by
  unfold Device.helloTimer
  (repeat' split) <;> simp_all (maxDischargeDepth := 60)

@[simp] theorem gave_heartbeatTimer {sg : Sign} (d : Device) (h : d.gave sg)  : (Device.heartbeatTimer d).gave sg := by
  unfold Device.heartbeatTimer
  (repeat' split) <;> simp_all (maxDischargeDepth := 60)

@[simp] theorem gave_reportIn {sg : Sign} (d : Device) (m : Msg) (h : d.gave sg)  : (Device.reportIn d m).gave sg := by
  unfold Device.reportIn
  (repeat' split) <;> simp_all (maxDischargeDepth := 60)

@[simp] theorem gave_reportTimer {sg : Sign} (d : Device) (h : d.gave sg)  : (Device.reportTimer d).gave sg := by
  unfold Device.reportTimer
  (repeat' split) <;> simp_all (maxDischargeDepth := 60)

@[simp] theorem gave_memberLost {sg : Sign} (d : Device) (m : ℕ) (h : d.gave sg)  : (Device.memberLost d m).gave sg := by
  unfold Device.memberLost
  (repeat' split) <;> simp_all (maxDischargeDepth := 60)

@[simp] theorem gave_otherPort {sg : Sign} (d : Device) (seq : ℕ) (h : d.gave sg)  : (Device.otherPort d seq).gave sg := by
  unfold Device.otherPort
  (repeat' split) <;> simp_all (maxDischargeDepth := 60)

@[simp] theorem gave_linkLoss {sg : Sign} (d : Device) (p : ℕ) (h : d.gave sg)  : (Device.linkLoss d p).gave sg := by
  unfold Device.linkLoss
  (repeat' split) <;> simp_all (maxDischargeDepth := 60)

@[simp] theorem gave_linkUp {sg : Sign} (d : Device) (p : ℕ) (h : d.gave sg)  : (Device.linkUp d p).gave sg := by
  unfold Device.linkUp
  (repeat' split) <;> simp_all (maxDischargeDepth := 60)

@[simp] theorem gave_unsecured {sg : Sign} (d : Device) (p : ℕ) (h : d.gave sg)  : (Device.unsecured d p).gave sg := by
  unfold Device.unsecured
  (repeat' split) <;> simp_all (maxDischargeDepth := 60)

@[simp] theorem gave_process {sg : Sign} (moves : Device → Msg → Device) (d : Device) (m : Msg) (h : d.gave sg) (hmoves : ∀ x0 x1, x0.gave sg → ((moves x0 x1)).gave sg) : (Device.process moves d m).gave sg := by
  unfold Device.process
  (repeat' split) <;> simp_all (maxDischargeDepth := 60)

@[simp] theorem gave_message {sg : Sign} (d : Device) (p : ℕ) (t : ℕ) (m : Msg) (f : Device → Device) (h : d.gave sg) (hf : ∀ x0, x0.gave sg → ((f x0)).gave sg) : (Device.message d p t m f).gave sg := by
  unfold Device.message
  (repeat' split) <;> simp_all (maxDischargeDepth := 60)

@[simp] theorem gave_gracedExpiry {sg : Sign} (d : Device) (src : ℕ) (seq : ℕ) (h : d.gave sg)  : (Device.gracedExpiry d src seq).gave sg := by
  unfold Device.gracedExpiry
  (repeat' split) <;> simp_all (maxDischargeDepth := 60)

@[simp] theorem gave_adoptRoot {sg : Sign} (d : Device) (root : Sys2Proof.Bytes) (epoch : ℕ) (h : d.gave sg)  : (Device.adoptRoot d root epoch).gave sg := by
  unfold Device.adoptRoot
  (repeat' split) <;> simp_all (maxDischargeDepth := 60)

@[simp] theorem gave_adoptEpoch {sg : Sign} (moves : Device → Msg → Device) (blobs : Device → Blob → Device) (d : Device) (n : Next) (h : d.gave sg) (hmoves : ∀ x0 x1, x0.gave sg → ((moves x0 x1)).gave sg) (hblobs : ∀ x0 x1, x0.gave sg → ((blobs x0 x1)).gave sg) : (Device.adoptEpoch moves blobs d n).gave sg := by
  unfold Device.adoptEpoch
  extract_lets w gone changed d1 d2 d3 back d4 ready bready d5 d6 d7 d8 src d9
  have h1 : d1.gave sg := gave_raiseInt _ _ _ _ (gave_domStep _ _ h)
  have h2 : d2.gave sg := by
    refine gave_foldl _ _ _ h1 ?_
    intro d e hd; simp [hd]
  have h3 : d3.gave sg := by
    refine gave_epochChanged _ (gave_foldl _ _ _ h2 ?_)
    intro d c hd; cases c <;> simp [hd]
  have h4 : d4.gave sg := by
    refine gave_foldl _ _ _ h3 ?_
    intro d e hd; simp [hd]
  have h5 : d5.gave sg := gave_mapDom _ _ h4
  have h6 : d6.gave sg := by
    refine gave_foldl _ _ _ h5 ?_
    intro d m hd; exact gave_graced _ _ _ hd (fun x0 hx => gave_process _ _ _ hx hmoves)
  have h7 : d7.gave sg := gave_foldl _ _ _ h6 hblobs
  have h8 : d8.gave sg := by
    refine gave_foldl _ _ _ h7 ?_
    intro d e hd; simp [hd]
  have h9 : d9.gave sg := by simp only [d9]; split <;> simp [h8]
  (repeat' split)
  · refine gave_foldl _ _ _ h9 ?_
    intro d r hd; refine gave_foldl _ _ _ hd ?_
    intro d m hd; simp [hd]
  · simp [h9]
  · exact h9

@[simp] theorem gave_graceEnd {sg : Sign} (d : Device) (h : d.gave sg)  : (Device.graceEnd d).gave sg := by
  unfold Device.graceEnd
  (repeat' split) <;> simp_all (maxDischargeDepth := 60)

@[simp] theorem gave_applyK {sg : Sign} (d : Device) (h : d.gave sg)  : (Device.applyK d).gave sg := by
  unfold Device.applyK
  (repeat' split) <;> simp_all (maxDischargeDepth := 60)

@[simp] theorem gave_leave {sg : Sign} (d : Device) (h : d.gave sg)  : (Device.leave d).gave sg := by
  unfold Device.leave
  (repeat' split) <;> simp_all (maxDischargeDepth := 60)

@[simp] theorem gave_leaveEnd {sg : Sign} (d : Device) (h : d.gave sg)  : (Device.leaveEnd d).gave sg := by
  unfold Device.leaveEnd
  (repeat' split) <;> simp_all (maxDischargeDepth := 60)

@[simp] theorem gave_domReset {sg : Sign} (d : Device) (h : d.gave sg)  : (Device.domReset d).gave sg := by
  unfold Device.domReset
  (repeat' split) <;> simp_all (maxDischargeDepth := 60)

@[simp] theorem gave_migEnd {sg : Sign} (d : Device) (bit : ℕ) (v : ℕ) (code : ℕ) (h : d.gave sg)  : (Device.migEnd d bit v code).gave sg := by
  unfold Device.migEnd
  (repeat' split) <;> simp_all (maxDischargeDepth := 60)

@[simp] theorem gave_migCommand {sg : Sign} (d : Device) (bit : ℕ) (f : Device → Device) (h : d.gave sg) (hf : ∀ x0, x0.gave sg → ((f x0)).gave sg) : (Device.migCommand d bit f).gave sg := by
  unfold Device.migCommand
  (repeat' split) <;> simp_all (maxDischargeDepth := 60)

@[simp] theorem gave_freezeItems {sg : Sign} (d : Device) (v : ℕ) (h : d.gave sg)  : (Device.freezeItems d v).gave sg := by
  unfold Device.freezeItems
  (repeat' split) <;> simp_all (maxDischargeDepth := 60)

@[simp] theorem gave_freeze {sg : Sign} (d : Device) (h : d.gave sg)  : (Device.freeze d).gave sg := by
  unfold Device.freeze
  (repeat' split) <;> simp_all (maxDischargeDepth := 60)

@[simp] theorem gave_takeOpens {sg : Sign} (d : Device) (v : ℕ) (h : d.gave sg)  : (Device.takeOpens d v).1.gave sg := by
  unfold Device.takeOpens
  (repeat' split) <;> simp_all (maxDischargeDepth := 60)

@[simp] theorem gave_vfFrozen {sg : Sign} (d : Device) (v : ℕ) (h : d.gave sg)  : (Device.vfFrozen d v).gave sg := by
  unfold Device.vfFrozen
  (repeat' split) <;> simp_all (maxDischargeDepth := 60)

@[simp] theorem gave_save {sg : Sign} (d : Device) (h : d.gave sg)  : (Device.save d).gave sg := by
  unfold Device.save
  (repeat' split) <;> (try simp_all (maxDischargeDepth := 60)) <;> repeat' (first | split | intro _ | simp_all (maxDischargeDepth := 60) | (rename_i h; replace h := congrArg (fun q => q.1.gave sg) h; simp_all (maxDischargeDepth := 60); done) | apply gave_onCommand | apply gave_onIdle | apply gave_onWrite | apply gave_softStart | apply gave_domCommand | apply gave_migCommand | apply gave_toStub)

@[simp] theorem gave_placeBlob {sg : Sign} (d : Device) (b : Blob) (h : d.gave sg)  : (Device.placeBlob d b).gave sg := by
  unfold Device.placeBlob
  (repeat' split) <;> simp_all (maxDischargeDepth := 60)

@[simp] theorem gave_gracedBlob {sg : Sign} (d : Device) (b : Blob) (h : d.gave sg)  : (Device.gracedBlob d b).gave sg := by
  unfold Device.gracedBlob
  (repeat' split) <;> simp_all (maxDischargeDepth := 60)

@[simp] theorem gave_blobIn {sg : Sign} (d : Device) (p : ℕ) (b : Blob) (h : d.gave sg)  : (Device.blobIn d p b).gave sg := by
  unfold Device.blobIn
  (repeat' split) <;> simp_all (maxDischargeDepth := 60)

@[simp] theorem gave_blobAckIn {sg : Sign} (d : Device) (m : Msg) (h : d.gave sg)  : (Device.blobAckIn d m).gave sg := by
  unfold Device.blobAckIn
  (repeat' split) <;> simp_all (maxDischargeDepth := 60)

@[simp] theorem gave_restore {sg : Sign} (d : Device) (h : d.gave sg)  : (Device.restore d).gave sg := by
  unfold Device.restore
  (repeat' split) <;> (try simp_all (maxDischargeDepth := 60)) <;> repeat' (first | split | intro _ | simp_all (maxDischargeDepth := 60) | (rename_i h; replace h := congrArg (fun q => q.1.gave sg) h; simp_all (maxDischargeDepth := 60); done) | apply gave_onCommand | apply gave_onIdle | apply gave_onWrite | apply gave_softStart | apply gave_domCommand | apply gave_migCommand | apply gave_toStub)

@[simp] theorem gave_claimIn {sg : Sign} (d : Device) (m : Msg) (h : d.gave sg)  : (Device.claimIn d m).gave sg := by
  unfold Device.claimIn
  (repeat' split) <;> simp_all (maxDischargeDepth := 60)

@[simp] theorem gave_adoptItem {sg : Sign} (v : ℕ) (d : Device) (x : Item) (h : d.gave sg)  : (Device.adoptItem v d x).gave sg := by
  unfold Device.adoptItem
  (repeat' split) <;> simp_all (maxDischargeDepth := 60)

@[simp] theorem gave_adoptParked {sg : Sign} (v : ℕ) (d : Device) (x : Item) (h : d.gave sg)  : (Device.adoptParked v d x).gave sg := by
  unfold Device.adoptParked
  (repeat' split) <;> simp_all (maxDischargeDepth := 60)

@[simp] theorem gave_adoptOpen {sg : Sign} (v : ℕ) (d : Device) (o : Item × List Commit) (h : d.gave sg)  : (Device.adoptOpen v d o).gave sg := by
  unfold Device.adoptOpen
  (repeat' split) <;> simp_all (maxDischargeDepth := 60)

@[simp] theorem gave_restoreVf {sg : Sign} (d : Device) (v : ℕ) (slot : ℕ) (b : Blob) (h : d.gave sg)  : (Device.restoreVf d v slot b).gave sg := by
  unfold Device.restoreVf
  (repeat' split) <;> simp_all (maxDischargeDepth := 60)

@[simp] theorem gave_claimReplyIn {sg : Sign} (d : Device) (m : Msg) (h : d.gave sg)  : (Device.claimReplyIn d m).gave sg := by
  unfold Device.claimReplyIn
  (repeat' split) <;> simp_all (maxDischargeDepth := 60)

@[simp] theorem gave_claimTimeout {sg : Sign} (d : Device) (h : d.gave sg)  : (Device.claimTimeout d).gave sg := by
  unfold Device.claimTimeout
  (repeat' split) <;> simp_all (maxDischargeDepth := 60)

@[simp] theorem gave_unfreeze {sg : Sign} (d : Device) (h : d.gave sg)  : (Device.unfreeze d).gave sg := by
  unfold Device.unfreeze
  (repeat' split) <;> (try simp_all (maxDischargeDepth := 60)) <;> repeat' (first | split | intro _ | simp_all (maxDischargeDepth := 60) | (rename_i h; replace h := congrArg (fun q => q.1.gave sg) h; simp_all (maxDischargeDepth := 60); done) | apply gave_onCommand | apply gave_onIdle | apply gave_onWrite | apply gave_softStart | apply gave_domCommand | apply gave_migCommand | apply gave_toStub)

@[simp] theorem gave_discardBlob {sg : Sign} (d : Device) (h : d.gave sg)  : (Device.discardBlob d).gave sg := by
  unfold Device.discardBlob
  (repeat' split) <;> simp_all (maxDischargeDepth := 60)

@[simp] theorem gave_queryMoved {sg : Sign} (d : Device) (c : Commit) (h : d.gave sg)  : (Device.queryMoved d c).gave sg := by
  unfold Device.queryMoved
  (repeat' split) <;> simp_all (maxDischargeDepth := 60)

@[simp] theorem gave_stubExpiry {sg : Sign} (d : Device) (tenant : ℕ) (pgen : ℕ) (h : d.gave sg)  : (Device.stubExpiry d tenant pgen).gave sg := by
  unfold Device.stubExpiry
  (repeat' split) <;> simp_all (maxDischargeDepth := 60)

@[simp] theorem gave_moveIn {sg : Sign} (d : Device) (m : Msg) (h : d.gave sg)  : (Device.moveIn d m).gave sg := by
  unfold Device.moveIn
  (repeat' split) <;> simp_all (maxDischargeDepth := 60)

@[simp] theorem gave_viewWritten {sg : Sign} (d : Device) (h : d.gave sg)  : (Device.viewWritten d).gave sg := by
  unfold Device.viewWritten
  (repeat' split) <;> simp_all (maxDischargeDepth := 60)

@[simp] theorem gave_preparedWritten {sg : Sign} (d : Device) (h : d.gave sg)  : (Device.preparedWritten d).gave sg := by
  unfold Device.preparedWritten
  (repeat' split) <;> simp_all (maxDischargeDepth := 60)

@[simp] theorem gave_recordLanded {sg : Sign} (d : Device) (r : Rec) (h : d.gave sg)  : (Device.recordLanded d r).gave sg := by
  unfold Device.recordLanded
  (repeat' split) <;> (try simp_all (maxDischargeDepth := 60)) <;> repeat' (first | split | intro _ | simp_all (maxDischargeDepth := 60) | (rename_i h; replace h := congrArg (fun q => q.1.gave sg) h; simp_all (maxDischargeDepth := 60); done) | apply gave_onCommand | apply gave_onIdle | apply gave_onWrite | apply gave_softStart | apply gave_domCommand | apply gave_migCommand | apply gave_toStub)

@[simp] theorem gave_writeEnd {sg : Sign} (d : Device) (h : d.gave sg)  : (Device.writeEnd d).gave sg := by
  unfold Device.writeEnd
  (repeat' split) <;> simp_all (maxDischargeDepth := 60)

end Sys2Proof.Machine
end

