-- ==== Sys2Proof/Laws/GaveServices.lean ====
section
/-! SUPPORT. Signs kept: the engines, the scheduler, tables and services. -/

namespace Sys2Proof.Machine

@[simp] theorem gave_freePair {sg : Sign} (d : Device) (p : ℕ) (h : d.gave sg)  : (Device.freePair d p).gave sg := by
  unfold Device.freePair
  (repeat' split) <;> simp_all (maxDischargeDepth := 60)

@[simp] theorem gave_onEngines {sg : Sign} (d : Device) (es : List ℕ) (f : Device → ℕ → Device) (h : d.gave sg) (hf : ∀ x0 x1, x0.gave sg → ((f x0 x1)).gave sg) : (Device.onEngines d es f).gave sg := by
  unfold Device.onEngines
  (repeat' split) <;> simp_all (maxDischargeDepth := 60)

@[simp] theorem gave_quarantinePair {sg : Sign} (d : Device) (p : ℕ) (cause : ℕ) (h : d.gave sg)  : (Device.quarantinePair d p cause).gave sg := by
  unfold Device.quarantinePair
  (repeat' split) <;> simp_all (maxDischargeDepth := 60)

@[simp] theorem gave_pairMismatch {sg : Sign} (d : Device) (p : ℕ) (h : d.gave sg)  : (Device.pairMismatch d p).gave sg := by
  unfold Device.pairMismatch
  (repeat' split) <;> simp_all (maxDischargeDepth := 60)

@[simp] theorem gave_startPair {sg : Sign} (d : Device) (n : ℕ) (p : ℕ) (h : d.gave sg)  : (Device.startPair d n p).gave sg := by
  unfold Device.startPair
  (repeat' split) <;> (try simp_all (maxDischargeDepth := 60)) <;> repeat' (first | split | intro _ | simp_all (maxDischargeDepth := 60) | (rename_i h; replace h := congrArg (fun q => q.1.gave sg) h; simp_all (maxDischargeDepth := 60); done) | apply gave_onCommand | apply gave_onIdle | apply gave_onWrite | apply gave_softStart | apply gave_domCommand | apply gave_migCommand | apply gave_toStub)

@[simp] theorem gave_giveEngine {sg : Sign} (d : Device) (n : ℕ) (p : ℕ) (x : Item) (h : d.gave sg)  : (Device.giveEngine d n p x).gave sg := by
  unfold Device.giveEngine
  (repeat' split) <;> simp_all (maxDischargeDepth := 60)

@[simp] theorem gave_startEngine {sg : Sign} (d : Device) (n : ℕ) (p : ℕ) (x : Item) (h : d.gave sg)  : (Device.startEngine d n p x).gave sg := by
  unfold Device.startEngine
  (repeat' split) <;> simp_all (maxDischargeDepth := 60)

@[simp] theorem gave_dispatchEngine {sg : Sign} (d : Device) (h : d.gave sg)  : (Device.dispatchEngine d).gave sg := by
  unfold Device.dispatchEngine
  (repeat' split) <;> simp_all (maxDischargeDepth := 60)

@[simp] theorem gave_resume {sg : Sign} (d : Device) (n : ℕ) (x : Item) (h : d.gave sg)  : (Device.resume d n x).gave sg := by
  unfold Device.resume
  (repeat' split) <;> simp_all (maxDischargeDepth := 60)

@[simp] theorem gave_pairFree {sg : Sign} (d : Device) (p : ℕ) (h : d.gave sg)  : (Device.pairFree d p).gave sg := by
  unfold Device.pairFree
  (repeat' split) <;> (try simp_all (maxDischargeDepth := 60)) <;> repeat' (first | split | intro _ | simp_all (maxDischargeDepth := 60) | (rename_i h; replace h := congrArg (fun q => q.1.gave sg) h; simp_all (maxDischargeDepth := 60); done) | apply gave_onCommand | apply gave_onIdle | apply gave_onWrite | apply gave_softStart | apply gave_domCommand | apply gave_migCommand | apply gave_toStub)

@[simp] theorem gave_rerunEngine {sg : Sign} (d : Device) (n : ℕ) (x : Item) (h : d.gave sg)  : (Device.rerunEngine d n x).gave sg := by
  unfold Device.rerunEngine
  (repeat' split) <;> simp_all (maxDischargeDepth := 60)

@[simp] theorem gave_pairGate {sg : Sign} (d : Device) (n : ℕ) (p : ℕ) (failed : Bool) (st : Staged) (h : d.gave sg)  : (Device.pairGate d n p failed st).gave sg := by
  unfold Device.pairGate
  (repeat' split) <;> simp_all (maxDischargeDepth := 60)

@[simp] theorem gave_endGeneration {sg : Sign} (d : Device) (p : ℕ) (x : Item) (h : d.gave sg)  : (Device.endGeneration d p x).gave sg := by
  unfold Device.endGeneration
  (repeat' split) <;> simp_all (maxDischargeDepth := 60)

@[simp] theorem gave_abortGeneration {sg : Sign} (d : Device) (x : Item) (h : d.gave sg)  : (Device.abortGeneration d x).gave sg := by
  unfold Device.abortGeneration
  (repeat' split) <;> simp_all (maxDischargeDepth := 60)

@[simp] theorem gave_attemptLimit {sg : Sign} (d : Device) (n : ℕ) (h : d.gave sg)  : (Device.attemptLimit d n).gave sg := by
  unfold Device.attemptLimit
  (repeat' split) <;> simp_all (maxDischargeDepth := 60)

@[simp] theorem gave_engineFailure {sg : Sign} (d : Device) (e : ℕ) (unit : ℕ) (h : d.gave sg)  : (Device.engineFailure d e unit).gave sg := by
  unfold Device.engineFailure
  (repeat' split) <;> (try simp_all (maxDischargeDepth := 60)) <;> repeat' (first | split | intro _ | simp_all (maxDischargeDepth := 60) | (rename_i h; replace h := congrArg (fun q => q.1.gave sg) h; simp_all (maxDischargeDepth := 60); done) | apply gave_onCommand | apply gave_onIdle | apply gave_onWrite | apply gave_softStart | apply gave_domCommand | apply gave_migCommand | apply gave_toStub)

@[simp] theorem gave_restartJob {sg : Sign} (d : Device) (n : ℕ) (x : Item) (h : d.gave sg)  : (Device.restartJob d n x).gave sg := by
  unfold Device.restartJob
  (repeat' split) <;> simp_all (maxDischargeDepth := 60)

@[simp] theorem gave_yieldPoint {sg : Sign} (d : Device) (n : ℕ) (h : d.gave sg)  : (Device.yieldPoint d n).gave sg := by
  unfold Device.yieldPoint
  (repeat' split) <;> simp_all (maxDischargeDepth := 60)

@[simp] theorem gave_bnReleaseEnd {sg : Sign} (d : Device) (g : ℕ) (ok : Bool) (h : d.gave sg)  : (Device.bnReleaseEnd d g ok).gave sg := by
  unfold Device.bnReleaseEnd
  (repeat' split) <;> simp_all (maxDischargeDepth := 60)

@[simp] theorem gave_groupWakeFailed {sg : Sign} (d : Device) (g : ℕ) (h : d.gave sg)  : (Device.groupWakeFailed d g).gave sg := by
  unfold Device.groupWakeFailed
  extract_lets x d1 d2 d3
  have h1 : d1.gave sg := gave_setGroup _ _ _ h
  have h2 : d2.gave sg := by
    refine gave_foldl _ _ _ h1 ?_
    intro d e hd; simp (maxDischargeDepth := 60) [hd]
  have h3 : d3.gave sg := by
    refine gave_foldl _ _ _ h2 ?_
    intro d e hd
    (repeat' split) <;> simp_all (maxDischargeDepth := 60)
  split <;> simp_all (maxDischargeDepth := 60)

@[simp] theorem gave_groupWakeEnd {sg : Sign} (d : Device) (g : ℕ) (ok : Bool) (h : d.gave sg)  : (Device.groupWakeEnd d g ok).gave sg := by
  unfold Device.groupWakeEnd
  extract_lets x d1 x2 d2
  have h1 : d1.gave sg := by simp only [d1]; split <;> simp_all (maxDischargeDepth := 60)
  have h2 : d2.gave sg := gave_setGroup _ _ _ h1
  split
  · exact h
  · split
    · exact h1
    · split
      · exact gave_groupWakeFailed _ _ h1
      · apply gave_released
        refine gave_foldl _ _ _ h2 ?_
        intro d e hd
        (repeat' split) <;> simp_all (maxDischargeDepth := 60)

@[simp] theorem gave_groupGated {sg : Sign} (d : Device) (g : ℕ) (h : d.gave sg)  : (Device.groupGated d g).gave sg := by
  unfold Device.groupGated
  extract_lets x used
  split
  · exact gave_setGroup _ _ _ h
  · exact h

@[simp] theorem gave_bnRelease {sg : Sign} (d : Device) (e : ℕ) (h : d.gave sg)  : (Device.bnRelease d e).gave sg := by
  unfold Device.bnRelease
  (repeat' split) <;> simp_all (maxDischargeDepth := 60)

@[simp] theorem gave_bnFailClear {sg : Sign} (d : Device) (e : ℕ) (bits : ℕ) (h : d.gave sg)  : (Device.bnFailClear d e bits).gave sg := by
  unfold Device.bnFailClear
  (repeat' split) <;> simp_all (maxDischargeDepth := 60)

@[simp] theorem gave_bnReset {sg : Sign} (d : Device) (e : ℕ) (h : d.gave sg)  : (Device.bnReset d e).gave sg := by
  unfold Device.bnReset
  (repeat' split) <;> simp_all (maxDischargeDepth := 60)

@[simp] theorem gave_bnResetEnd {sg : Sign} (d : Device) (e : ℕ) (h : d.gave sg)  : (Device.bnResetEnd d e).gave sg := by
  unfold Device.bnResetEnd
  (repeat' split) <;> (try simp_all (maxDischargeDepth := 60)) <;> repeat' (first | split | intro _ | simp_all (maxDischargeDepth := 60) | (rename_i h; replace h := congrArg (fun q => q.1.gave sg) h; simp_all (maxDischargeDepth := 60); done) | apply gave_onCommand | apply gave_onIdle | apply gave_onWrite | apply gave_softStart | apply gave_domCommand | apply gave_migCommand | apply gave_toStub)

@[simp] theorem gave_bnSoftReset {sg : Sign} (d : Device) (e : ℕ) (h : d.gave sg)  : (Device.bnSoftReset d e).gave sg := by
  unfold Device.bnSoftReset
  (repeat' split) <;> simp_all (maxDischargeDepth := 60)

@[simp] theorem gave_showCurves {sg : Sign} (d : Device) (h : d.gave sg)  : (Device.showCurves d).gave sg := by
  unfold Device.showCurves
  (repeat' split) <;> simp_all (maxDischargeDepth := 60)

@[simp] theorem gave_curveEnd {sg : Sign} (d : Device) (req : ℕ) (code : ℕ) (slot : ℕ) (h : d.gave sg)  : (Device.curveEnd d req code slot).gave sg := by
  unfold Device.curveEnd
  (repeat' split) <;> simp_all (maxDischargeDepth := 60)

@[simp] theorem gave_emptyCurves {sg : Sign} (d : Device) (h : d.gave sg)  : (Device.emptyCurves d).gave sg := by
  unfold Device.emptyCurves
  (repeat' split) <;> simp_all (maxDischargeDepth := 60)

@[simp] theorem gave_internalItem {sg : Sign} (d : Device) (w : Work) (c : ExecClass) (level : ℕ) (cycles : ℕ) (h : d.gave sg)  : (Device.internalItem d w c level cycles).gave sg := by
  unfold Device.internalItem
  (repeat' split) <;> simp_all (maxDischargeDepth := 60)

@[simp] theorem gave_coreItem {sg : Sign} (d : Device) (kind : ℕ) (h : d.gave sg)  : (Device.coreItem d kind).gave sg := by
  unfold Device.coreItem
  (repeat' split) <;> simp_all (maxDischargeDepth := 60)

@[simp] theorem gave_giveCore {sg : Sign} (d : Device) (n : ℕ) (x : Item) (c : ℕ) (h : d.gave sg)  : (Device.giveCore d n x c).gave sg := by
  unfold Device.giveCore
  (repeat' split) <;> simp_all (maxDischargeDepth := 60)

@[simp] theorem gave_dispatchCore {sg : Sign} (d : Device) (h : d.gave sg)  : (Device.dispatchCore d).gave sg := by
  unfold Device.dispatchCore
  (repeat' split) <;> simp_all (maxDischargeDepth := 60)

@[simp] theorem gave_coreReport {sg : Sign} (d : Device) (n : ℕ) (h : d.gave sg)  : (Device.coreReport d n).gave sg := by
  unfold Device.coreReport
  (repeat' split) <;> simp_all (maxDischargeDepth := 60)

@[simp] theorem gave_coreLate {sg : Sign} (d : Device) (n : ℕ) (h : d.gave sg)  : (Device.coreLate d n).gave sg := by
  unfold Device.coreLate
  (repeat' split) <;> (try simp_all (maxDischargeDepth := 60)) <;> repeat' (first | split | intro _ | simp_all (maxDischargeDepth := 60) | (rename_i h; replace h := congrArg (fun q => q.1.gave sg) h; simp_all (maxDischargeDepth := 60); done) | apply gave_onCommand | apply gave_onIdle | apply gave_onWrite | apply gave_softStart | apply gave_domCommand | apply gave_migCommand | apply gave_toStub)

@[simp] theorem gave_notAccepted {sg : Sign} (d : Device) (n : ℕ) (h : d.gave sg)  : (Device.notAccepted d n).gave sg := by
  unfold Device.notAccepted
  (repeat' split) <;> simp_all (maxDischargeDepth := 60)

@[simp] theorem gave_unreadable {sg : Sign} (d : Device) (n : ℕ) (h : d.gave sg)  : (Device.unreadable d n).gave sg := by
  unfold Device.unreadable
  (repeat' split) <;> simp_all (maxDischargeDepth := 60)

@[simp] theorem gave_rebuildEnd {sg : Sign} (d : Device) (c : ℕ) (delay : Bool) (h : d.gave sg)  : (Device.rebuildEnd d c delay).gave sg := by
  unfold Device.rebuildEnd
  (repeat' split) <;> simp_all (maxDischargeDepth := 60)

@[simp] theorem gave_retryDue {sg : Sign} (d : Device) (n : ℕ) (h : d.gave sg)  : (Device.retryDue d n).gave sg := by
  unfold Device.retryDue
  (repeat' split) <;> (try simp_all (maxDischargeDepth := 60)) <;> repeat' (first | split | intro _ | simp_all (maxDischargeDepth := 60) | (rename_i h; replace h := congrArg (fun q => q.1.gave sg) h; simp_all (maxDischargeDepth := 60); done) | apply gave_onCommand | apply gave_onIdle | apply gave_onWrite | apply gave_softStart | apply gave_domCommand | apply gave_migCommand | apply gave_toStub)

@[simp] theorem gave_sweepDue {sg : Sign} (d : Device) (k : ℕ) (h : d.gave sg)  : (Device.sweepDue d k).gave sg := by
  unfold Device.sweepDue
  (repeat' split) <;> simp_all (maxDischargeDepth := 60)

@[simp] theorem gave_releaseEntry {sg : Sign} (d : Device) (e : Delay) (h : d.gave sg)  : (Device.releaseEntry d e).gave sg := by
  unfold Device.releaseEntry
  (repeat' split) <;> simp_all (maxDischargeDepth := 60)

@[simp] theorem gave_releaseList {sg : Sign} (d : Device) (list : ℕ) (h : d.gave sg)  : (Device.releaseList d list).gave sg := by
  unfold Device.releaseList
  (repeat' split) <;> simp_all (maxDischargeDepth := 60)

@[simp] theorem gave_tickVf {sg : Sign} (d : Device) (v : ℕ) (x : Vf) (h : d.gave sg)  : (Device.tickVf d v x).gave sg := by
  unfold Device.tickVf
  (repeat' split) <;> simp_all (maxDischargeDepth := 60)

@[simp] theorem gave_settleAll {sg : Sign} (d : Device) (h : d.gave sg)  : (Device.settleAll d).gave sg := by
  unfold Device.settleAll
  (repeat' split) <;> simp_all (maxDischargeDepth := 60)

@[simp] theorem gave_stage {sg : Sign} (d : Device) (off : ℕ) (data : Sys2Proof.Bytes) (h : d.gave sg)  : (Device.stage d off data).gave sg := by
  unfold Device.stage
  (repeat' split) <;> simp_all (maxDischargeDepth := 60)

@[simp] theorem gave_showTables {sg : Sign} (d : Device) (h : d.gave sg)  : (Device.showTables d).gave sg := by
  unfold Device.showTables
  (repeat' split) <;> simp_all (maxDischargeDepth := 60)

@[simp] theorem gave_whereOf {sg : Sign} (d : Device) (w : Option ℕ) (h : d.gave sg)  : (Device.whereOf d w).1.gave sg := by
  unfold Device.whereOf
  (repeat' split) <;> simp_all (maxDischargeDepth := 60)

@[simp] theorem gave_tableEnd {sg : Sign} (d : Device) (req : ℕ) (code : ℕ) (w : Option ℕ) (h : d.gave sg)  : (Device.tableEnd d req code w).gave sg := by
  unfold Device.tableEnd
  (repeat' split) <;> (try simp_all (maxDischargeDepth := 60)) <;> repeat' (first | split | intro _ | simp_all (maxDischargeDepth := 60) | (rename_i h; replace h := congrArg (fun q => q.1.gave sg) h; simp_all (maxDischargeDepth := 60); done) | apply gave_onCommand | apply gave_onIdle | apply gave_onWrite | apply gave_softStart | apply gave_domCommand | apply gave_migCommand | apply gave_toStub)

@[simp] theorem gave_chargeLoad {sg : Sign} (d : Device) (h : d.gave sg)  : (Device.chargeLoad d).gave sg := by
  unfold Device.chargeLoad
  (repeat' split) <;> simp_all (maxDischargeDepth := 60)

@[simp] theorem gave_tableLoad {sg : Sign} (d : Device) (h : d.gave sg)  : (Device.tableLoad d).gave sg := by
  unfold Device.tableLoad
  (repeat' split) <;> simp_all (maxDischargeDepth := 60)

@[simp] theorem gave_keepTable {sg : Sign} (d : Device) (t : TableVersion) (image : Sys2Proof.Bytes) (h : d.gave sg)  : (Device.keepTable d t image).gave sg := by
  unfold Device.keepTable
  (repeat' split) <;> simp_all (maxDischargeDepth := 60)

@[simp] theorem gave_tableLoadEnd {sg : Sign} (d : Device) (h : d.gave sg)  : (Device.tableLoadEnd d).gave sg := by
  unfold Device.tableLoadEnd
  (repeat' split) <;> simp_all (maxDischargeDepth := 60)

@[simp] theorem gave_tableRetire {sg : Sign} (d : Device) (h : d.gave sg)  : (Device.tableRetire d).gave sg := by
  unfold Device.tableRetire
  (repeat' split) <;> (try simp_all (maxDischargeDepth := 60)) <;> repeat' (first | split | intro _ | simp_all (maxDischargeDepth := 60) | (rename_i h; replace h := congrArg (fun q => q.1.gave sg) h; simp_all (maxDischargeDepth := 60); done) | apply gave_onCommand | apply gave_onIdle | apply gave_onWrite | apply gave_softStart | apply gave_domCommand | apply gave_migCommand | apply gave_toStub)

@[simp] theorem gave_versionFree {sg : Sign} (d : Device) (k : ℕ) (h : d.gave sg)  : (Device.versionFree d k).gave sg := by
  unfold Device.versionFree
  (repeat' split) <;> simp_all (maxDischargeDepth := 60)

@[simp] theorem gave_tableReloadEnd {sg : Sign} (d : Device) (k : ℕ) (h : d.gave sg)  : (Device.tableReloadEnd d k).gave sg := by
  unfold Device.tableReloadEnd
  (repeat' split) <;> simp_all (maxDischargeDepth := 60)

@[simp] theorem gave_curveLoad {sg : Sign} (d : Device) (h : d.gave sg)  : (Device.curveLoad d).gave sg := by
  unfold Device.curveLoad
  (repeat' split) <;> simp_all (maxDischargeDepth := 60)

@[simp] theorem gave_curveLoadEnd {sg : Sign} (d : Device) (found : ℕ) (h : d.gave sg)  : (Device.curveLoadEnd d found).gave sg := by
  unfold Device.curveLoadEnd
  (repeat' split) <;> simp_all (maxDischargeDepth := 60)

@[simp] theorem gave_curveRetire {sg : Sign} (d : Device) (h : d.gave sg)  : (Device.curveRetire d).gave sg := by
  unfold Device.curveRetire
  (repeat' split) <;> (try simp_all (maxDischargeDepth := 60)) <;> repeat' (first | split | intro _ | simp_all (maxDischargeDepth := 60) | (rename_i h; replace h := congrArg (fun q => q.1.gave sg) h; simp_all (maxDischargeDepth := 60); done) | apply gave_onCommand | apply gave_onIdle | apply gave_onWrite | apply gave_softStart | apply gave_domCommand | apply gave_migCommand | apply gave_toStub)

@[simp] theorem gave_stageIn {sg : Sign} (n : ℕ) (o : Device × Item × Staged) (h : o.1.gave sg) : (Device.stageIn n o).gave sg := by
  unfold Device.stageIn
  have h1 := gave_runLane o.1 o.2.1 h
  simp_all

@[simp] theorem gave_stageOpt {sg : Sign} (d : Device) (n : ℕ) (p : Desc → Bool) (f : Device → Item → Device × Item × Option Staged) (h : d.gave sg)
    (hf : ∀ x0 x1, x0.gave sg → ((f x0 x1).1).gave sg) : (Device.stageOpt d n p f).gave sg := by
  unfold Device.stageOpt
  split
  · exact h
  · rename_i x hx
    split
    · have h1 := hf d x h
      revert h1
      obtain ⟨d1, y, o⟩ := f d x
      intro h1
      cases o with
      | none => exact gave_setItem _ _ _ h1
      | some st => exact gave_stageIn _ _ h1
    · exact h

@[simp] theorem gave_stageRun {sg : Sign} (d : Device) (n : ℕ) (p : Desc → Bool) (f : Device → Item → Device × Item × Staged) (h : d.gave sg)
    (hf : ∀ x0 x1, x0.gave sg → ((f x0 x1).1).gave sg) : (Device.stageRun d n p f).gave sg := by
  unfold Device.stageRun
  split
  · exact h
  · split
    · exact gave_stageIn _ _ (hf _ _ h)
    · exact h

@[simp] theorem gave_stagePure {sg : Sign} (d : Device) (n : ℕ) (p : Desc → Bool) (f : Item → Staged) (h : d.gave sg)  : (Device.stagePure d n p f).gave sg := by
  unfold Device.stagePure
  (repeat' split) <;> simp_all (maxDischargeDepth := 60)

@[simp] theorem gave_drawToken {sg : Sign} (rules : Nat) (pan : List Nat) (tenant : Nat) (held : List Nat) (k : Nat) (d : Device) (x : Item)
    (h : d.gave sg) : (Device.drawToken rules pan tenant held k d x).1.gave sg := by
  induction k generalizing d x with
  | zero => exact h
  | succ k ih =>
    unfold Device.drawToken
    extract_lets t present seen next
    split
    · exact h
    · split
      · exact h
      · exact ih _ _ (gave_drawn d h)

@[simp] theorem gave_tokenRecord {sg : Sign} (d : Device) (x : Item) (id : ℕ) (pan : Sys2Proof.Bytes) (expiry : Sys2Proof.Bytes) (h : d.gave sg)  : (Device.tokenRecord d x id pan expiry).1.gave sg := by
  unfold Device.tokenRecord
  (repeat' split) <;> simp_all (maxDischargeDepth := 60)

@[simp] theorem gave_newToken {sg : Sign} (held : List Nat) (pan expiry : Bytes) (d : Device) (x : Item) (h : d.gave sg) :
    (Device.newToken held pan expiry d x).1.gave sg := by
  unfold Device.newToken
  have h1 := gave_drawToken x.current.paramHi (panDigits pan) (d.tenantOf x) held 64 d x h
  revert h1
  obtain ⟨d1, y, o⟩ := Device.drawToken x.current.paramHi (panDigits pan) (d.tenantOf x) held 64 d x
  intro h1
  cases o with
  | more => exact h1
  | full => exact h1
  | token t => exact gave_tokenRecord _ _ _ _ _ h1

@[simp] theorem gave_lifecycle {sg : Sign} (new : ℕ) (result : ℕ) (d : Device) (x : Item) (h : d.gave sg)  : (Device.lifecycle new result d x).1.gave sg := by
  unfold Device.lifecycle
  (repeat' split) <;> (try simp_all (maxDischargeDepth := 60)) <;> repeat' (first | split | intro _ | simp_all (maxDischargeDepth := 60) | (rename_i h; replace h := congrArg (fun q => q.1.gave sg) h; simp_all (maxDischargeDepth := 60); done) | apply gave_onCommand | apply gave_onIdle | apply gave_onWrite | apply gave_softStart | apply gave_domCommand | apply gave_migCommand | apply gave_toStub)

@[simp] theorem gave_runOperator {sg : Sign} (d : Device) (x : Item) (h : d.gave sg)  : (Device.runOperator d x).1.gave sg := by
  unfold Device.runOperator
  (repeat' split) <;> (try simp_all (maxDischargeDepth := 60)) <;> repeat' (first | split | intro _ | simp_all (maxDischargeDepth := 60) | (rename_i h; replace h := congrArg (fun q => q.1.gave sg) h; simp_all (maxDischargeDepth := 60); done) | apply gave_onCommand | apply gave_onIdle | apply gave_onWrite | apply gave_softStart | apply gave_domCommand | apply gave_migCommand | apply gave_toStub)

@[simp] theorem gave_stageSerial {sg : Sign} (d : Device) (n : ℕ) (p : Desc → Bool) (keyB : Bool) (f : Device → Item → Device × Item × Staged) (h : d.gave sg) (hf : ∀ x0 x1, x0.gave sg → ((f x0 x1).1).gave sg) : (Device.stageSerial d n p keyB f).gave sg := by
  unfold Device.stageSerial
  (repeat' split) <;> simp_all (maxDischargeDepth := 60)

@[simp] theorem gave_stageNewKey {sg : Sign} (d : Device) (n : ℕ) (p : Desc → Bool) (f : Device → Item → Device × Item × Option Staged) (h : d.gave sg) (hf : ∀ x0 x1, x0.gave sg → ((f x0 x1).1).gave sg) : (Device.stageNewKey d n p f).gave sg := by
  unfold Device.stageNewKey
  (repeat' split) <;> simp_all (maxDischargeDepth := 60)

@[simp] theorem gave_stageCreate {sg : Sign} (d : Device) (n : ℕ) (p : Desc → Bool) (f : Device → Item → Staged) (h : d.gave sg)  : (Device.stageCreate d n p f).gave sg := by
  unfold Device.stageCreate
  (repeat' split) <;> simp_all (maxDischargeDepth := 60)

@[simp] theorem gave_withFound {sg : Sign} (d : Device) (x : Item) (h : d.gave sg)  : (Device.withFound d x).gave sg := by
  unfold Device.withFound
  (repeat' split) <;> simp_all (maxDischargeDepth := 60)

@[simp] theorem gave_rotateKey {sg : Sign} (pgen : ℕ) (d : Device) (a : KeyAttr) (h : d.gave sg)  : (Device.rotateKey pgen d a).gave sg := by
  unfold Device.rotateKey
  (repeat' split) <;> simp_all (maxDischargeDepth := 60)

@[simp] theorem gave_rotate {sg : Sign} (d : Device) (h : d.gave sg)  : (Device.rotate d).gave sg := by
  unfold Device.rotate
  (repeat' split) <;> simp_all (maxDischargeDepth := 60)

@[simp] theorem gave_rotationEnd {sg : Sign} (d : Device) (h : d.gave sg)  : (Device.rotationEnd d).gave sg := by
  unfold Device.rotationEnd
  (repeat' split) <;> simp_all (maxDischargeDepth := 60)

@[simp] theorem gave_rewrapEnd {sg : Sign} (d : Device) (h : d.gave sg)  : (Device.rewrapEnd d).gave sg := by
  unfold Device.rewrapEnd
  (repeat' split) <;> simp_all (maxDischargeDepth := 60)

@[simp] theorem gave_signingOf {sg : Sign} (d : Device) (x : Item) (h : d.gave sg)  : (Device.signingOf d x).1.gave sg := by
  unfold Device.signingOf
  (repeat' split) <;> simp_all (maxDischargeDepth := 60)

@[simp] theorem gave_stageDrawn {sg : Sign} (d : Device) (n : ℕ) (p : Desc → Bool) (f : Device → Item → Sys2Proof.Bytes → Staged) (h : d.gave sg)  : (Device.stageDrawn d n p f).gave sg := by
  unfold Device.stageDrawn
  (repeat' split) <;> simp_all (maxDischargeDepth := 60)

@[simp] theorem gave_pairRun {sg : Sign} (d : Device) (x : Item) (h : d.gave sg)  : (Device.pairRun d x).1.gave sg := by
  unfold Device.pairRun
  (repeat' split) <;> simp_all (maxDischargeDepth := 60)

@[simp] theorem gave_engineJobEnd {sg : Sign} (d : Device) (n : ℕ) (mismatch : Bool) (h : d.gave sg)  : (Device.engineJobEnd d n mismatch).gave sg := by
  unfold Device.engineJobEnd
  (repeat' split) <;> simp_all (maxDischargeDepth := 60)

@[simp] theorem gave_zeroVfCounter {sg : Sign} (d : Device) (v : ℕ) (c : ℕ) (h : d.gave sg)  : (Device.zeroVfCounter d v c).gave sg := by
  unfold Device.zeroVfCounter
  (repeat' split) <;> simp_all (maxDischargeDepth := 60)

@[simp] theorem gave_grantWrite {sg : Sign} (d : Device) (v : ℕ) (g : ℕ) (h : d.gave sg)  : (Device.grantWrite d v g).gave sg := by
  unfold Device.grantWrite
  (repeat' split) <;> simp_all (maxDischargeDepth := 60)

@[simp] theorem gave_eventWrite {sg : Sign} (d : Device) (vf : Option ℕ) (c : ℕ) (w : ℕ) (h : d.gave sg)  : (Device.eventWrite d vf c w).gave sg := by
  unfold Device.eventWrite
  (repeat' split) <;> simp_all (maxDischargeDepth := 60)

@[simp] theorem gave_zeroCounters {sg : Sign} (d : Device) (h : d.gave sg)  : (Device.zeroCounters d).gave sg := by
  unfold Device.zeroCounters
  (repeat' split) <;> simp_all (maxDischargeDepth := 60)

end Sys2Proof.Machine
end

