-- ==== Sys2Proof/Laws/GaveCustody.lean ====
section
/-! SUPPORT. Signs kept: tenancy, ceremonies, custody, tamper response and faults. -/

namespace Sys2Proof.Machine

@[simp] theorem gave_vfmCommand {sg : Sign} (d : Device) (v : ℕ) (bit : ℕ) (f : Device → Device) (h : d.gave sg) (hf : ∀ x0, x0.gave sg → ((f x0)).gave sg) : (Device.vfmCommand d v bit f).gave sg := by
  unfold Device.vfmCommand
  (repeat' split) <;> simp_all (maxDischargeDepth := 60)

@[simp] theorem gave_vfmEnd {sg : Sign} (d : Device) (v : ℕ) (bit : ℕ) (code : ℕ) (h : d.gave sg)  : (Device.vfmEnd d v bit code).gave sg := by
  unfold Device.vfmEnd
  (repeat' split) <;> simp_all (maxDischargeDepth := 60)

@[simp] theorem gave_disableQp {sg : Sign} (d : Device) (v : ℕ) (q : ℕ) (h : d.gave sg)  : (Device.disableQp d v q).gave sg := by
  unfold Device.disableQp
  (repeat' split) <;> simp_all (maxDischargeDepth := 60)

@[simp] theorem gave_disableQps {sg : Sign} (d : Device) (v : ℕ) (h : d.gave sg)  : (Device.disableQps d v).gave sg := by
  unfold Device.disableQps
  (repeat' split) <;> simp_all (maxDischargeDepth := 60)

@[simp] theorem gave_createVf {sg : Sign} (d : Device) (v : ℕ) (h : d.gave sg)  : (Device.createVf d v).gave sg := by
  unfold Device.createVf
  (repeat' split) <;> (try simp_all (maxDischargeDepth := 60)) <;> repeat' (first | split | intro _ | simp_all (maxDischargeDepth := 60) | (rename_i h; replace h := congrArg (fun q => q.1.gave sg) h; simp_all (maxDischargeDepth := 60); done) | apply gave_onCommand | apply gave_onIdle | apply gave_onWrite | apply gave_softStart | apply gave_vfmCommand | apply gave_domCommand | apply gave_migCommand | apply gave_toStub)

@[simp] theorem gave_activateVf {sg : Sign} (d : Device) (v : ℕ) (h : d.gave sg)  : (Device.activateVf d v).gave sg := by
  unfold Device.activateVf
  (repeat' split) <;> (try simp_all (maxDischargeDepth := 60)) <;> repeat' (first | split | intro _ | simp_all (maxDischargeDepth := 60) | (rename_i h; replace h := congrArg (fun q => q.1.gave sg) h; simp_all (maxDischargeDepth := 60); done) | apply gave_onCommand | apply gave_onIdle | apply gave_onWrite | apply gave_softStart | apply gave_vfmCommand | apply gave_domCommand | apply gave_migCommand | apply gave_toStub)

@[simp] theorem gave_drainVf {sg : Sign} (d : Device) (v : ℕ) (h : d.gave sg)  : (Device.drainVf d v).gave sg := by
  unfold Device.drainVf
  (repeat' split) <;> (try simp_all (maxDischargeDepth := 60)) <;> repeat' (first | split | intro _ | simp_all (maxDischargeDepth := 60) | (rename_i h; replace h := congrArg (fun q => q.1.gave sg) h; simp_all (maxDischargeDepth := 60); done) | apply gave_onCommand | apply gave_onIdle | apply gave_onWrite | apply gave_softStart | apply gave_vfmCommand | apply gave_domCommand | apply gave_migCommand | apply gave_toStub)

@[simp] theorem gave_drainEnd {sg : Sign} (d : Device) (v : ℕ) (h : d.gave sg)  : (Device.drainEnd d v).gave sg := by
  unfold Device.drainEnd
  (repeat' split) <;> simp_all (maxDischargeDepth := 60)

@[simp] theorem gave_eraseRegs {sg : Sign} (d : Device) (lo : ℕ) (hi : ℕ) (h : d.gave sg)  : (Device.eraseRegs d lo hi).gave sg := by
  unfold Device.eraseRegs
  (repeat' split) <;> simp_all (maxDischargeDepth := 60)

@[simp] theorem gave_destroyVf {sg : Sign} (d : Device) (v : ℕ) (h : d.gave sg)  : (Device.destroyVf d v).gave sg := by
  unfold Device.destroyVf
  (repeat' split) <;> (try simp_all (maxDischargeDepth := 60)) <;> repeat' (first | split | intro _ | simp_all (maxDischargeDepth := 60) | (rename_i h; replace h := congrArg (fun q => q.1.gave sg) h; simp_all (maxDischargeDepth := 60); done) | apply gave_onCommand | apply gave_onIdle | apply gave_onWrite | apply gave_softStart | apply gave_vfmCommand | apply gave_domCommand | apply gave_migCommand | apply gave_toStub)

@[simp] theorem gave_vfAbsent {sg : Sign} (d : Device) (v : ℕ) (h : d.gave sg)  : (Device.vfAbsent d v).gave sg := by
  unfold Device.vfAbsent
  (repeat' split) <;> simp_all (maxDischargeDepth := 60)

@[simp] theorem gave_startDrain {sg : Sign} (d : Device) (v : ℕ) (q : ℕ) (h : d.gave sg)  : (Device.startDrain d v q).gave sg := by
  unfold Device.startDrain
  (repeat' split) <;> simp_all (maxDischargeDepth := 60)

@[simp] theorem gave_qpDrainEnd {sg : Sign} (d : Device) (v : ℕ) (q : ℕ) (h : d.gave sg)  : (Device.qpDrainEnd d v q).gave sg := by
  unfold Device.qpDrainEnd
  (repeat' split) <;> simp_all (maxDischargeDepth := 60)

@[simp] theorem gave_qpCfgWrite {sg : Sign} (d : Device) (v : ℕ) (q : ℕ) (w : ℕ) (h : d.gave sg)  : (Device.qpCfgWrite d v q w).gave sg := by
  unfold Device.qpCfgWrite
  (repeat' split) <;> simp_all (maxDischargeDepth := 60)

@[simp] theorem gave_qpErrorClear {sg : Sign} (d : Device) (v : ℕ) (q : ℕ) (h : d.gave sg)  : (Device.qpErrorClear d v q).gave sg := by
  unfold Device.qpErrorClear
  (repeat' split) <;> simp_all (maxDischargeDepth := 60)

@[simp] theorem gave_evictDown {sg : Sign} (tenant quota k : Nat) (d : Device) (h : d.gave sg) : (Device.evictDown tenant quota k d).gave sg := by
  induction k generalizing d with
  | zero => exact h
  | succ k ih => unfold Device.evictDown; (repeat' split) <;> simp_all

@[simp] theorem gave_reclaimVf {sg : Sign} (d : Device) (v : ℕ) (h : d.gave sg)  : (Device.reclaimVf d v).gave sg := by
  unfold Device.reclaimVf
  (repeat' split) <;> (try simp_all (maxDischargeDepth := 60)) <;> repeat' (first | split | intro _ | simp_all (maxDischargeDepth := 60) | (rename_i h; replace h := congrArg (fun q => q.1.gave sg) h; simp_all (maxDischargeDepth := 60); done) | apply gave_onCommand | apply gave_onIdle | apply gave_onWrite | apply gave_softStart | apply gave_vfmCommand | apply gave_domCommand | apply gave_migCommand | apply gave_toStub)

@[simp] theorem gave_reclaimEnd {sg : Sign} (d : Device) (v : ℕ) (h : d.gave sg)  : (Device.reclaimEnd d v).gave sg := by
  unfold Device.reclaimEnd
  (repeat' split) <;> simp_all (maxDischargeDepth := 60)

@[simp] theorem gave_resetMigration {sg : Sign} (d : Device) (v : ℕ) (h : d.gave sg)  : (Device.resetMigration d v).gave sg := by
  unfold Device.resetMigration
  (repeat' split) <;> simp_all (maxDischargeDepth := 60)

@[simp] theorem gave_resetItem {sg : Sign} (d : Device) (n : ℕ) (x : Item) (h : d.gave sg)  : (Device.resetItem d n x).gave sg := by
  unfold Device.resetItem
  (repeat' split) <;> simp_all (maxDischargeDepth := 60)

@[simp] theorem gave_resetWork {sg : Sign} (d : Device) (v : ℕ) (h : d.gave sg)  : (Device.resetWork d v).gave sg := by
  unfold Device.resetWork
  extract_lets mine drop d1 d2 drains d4 d5
  have h1 : d1.gave sg := gave_mapDom _ _ (gave_mapStore _ _ h)
  have h2 : d2.gave sg := by
    refine gave_foldl _ _ _ h1 ?_
    intro d e hd; simp [hd]
  have h4 : d4.gave sg := by simp only [d4]; split <;> simp [h2]
  have h5 : d5.gave sg := by
    refine gave_foldl _ _ _ h4 ?_
    intro d e hd; simp [hd]
  split
  · split <;> simp [h5]
  · exact h5

@[simp] theorem gave_dropFinished {sg : Sign} (d : Device) (v : ℕ) (h : d.gave sg)  : (Device.dropFinished d v).gave sg := by
  unfold Device.dropFinished
  (repeat' split) <;> simp_all (maxDischargeDepth := 60)

@[simp] theorem gave_resetPages {sg : Sign} (d : Device) (v : ℕ) (h : d.gave sg)  : (Device.resetPages d v).gave sg := by
  unfold Device.resetPages
  (repeat' split) <;> simp_all (maxDischargeDepth := 60)

@[simp] theorem gave_resetVf {sg : Sign} (d : Device) (v : ℕ) (h : d.gave sg)  : (Device.resetVf d v).gave sg := by
  unfold Device.resetVf
  (repeat' split) <;> simp_all (maxDischargeDepth := 60)

@[simp] theorem gave_vfReset {sg : Sign} (d : Device) (v : ℕ) (cause : ℕ) (h : d.gave sg)  : (Device.vfReset d v cause).gave sg := by
  unfold Device.vfReset
  (repeat' split) <;> simp_all (maxDischargeDepth := 60)

@[simp] theorem gave_vfEnableSet {sg : Sign} (d : Device) (n : ℕ) (h : d.gave sg)  : (Device.vfEnableSet d n).gave sg := by
  unfold Device.vfEnableSet
  (repeat' split) <;> simp_all (maxDischargeDepth := 60)

@[simp] theorem gave_vfEnableClear {sg : Sign} (d : Device) (h : d.gave sg)  : (Device.vfEnableClear d).gave sg := by
  unfold Device.vfEnableClear
  (repeat' split) <;> simp_all (maxDischargeDepth := 60)

@[simp] theorem gave_vfPageEnable {sg : Sign} (d : Device) (v : ℕ) (manager : Bool) (enable : Bool) (h : d.gave sg)  : (Device.vfPageEnable d v manager enable).gave sg := by
  unfold Device.vfPageEnable
  (repeat' split) <;> simp_all (maxDischargeDepth := 60)

@[simp] theorem gave_poolWrite {sg : Sign} (d : Device) (p : ℕ) (slots : Bool) (w : ℕ) (h : d.gave sg)  : (Device.poolWrite d p slots w).gave sg := by
  unfold Device.poolWrite
  (repeat' split) <;> simp_all (maxDischargeDepth := 60)

@[simp] theorem gave_carry {sg : Sign} (d : Device) (src : ℕ) (dst : ℕ) (h : d.gave sg)  : (Device.carry d src dst).gave sg := by
  unfold Device.carry
  (repeat' split) <;> simp_all (maxDischargeDepth := 60)

@[simp] theorem gave_mbSend {sg : Sign} (d : Device) (v : ℕ) (h : d.gave sg)  : (Device.mbSend d v).gave sg := by
  unfold Device.mbSend
  (repeat' split) <;> simp_all (maxDischargeDepth := 60)

@[simp] theorem gave_mbTake {sg : Sign} (d : Device) (v : ℕ) (h : d.gave sg)  : (Device.mbTake d v).gave sg := by
  unfold Device.mbTake
  (repeat' split) <;> simp_all (maxDischargeDepth := 60)

@[simp] theorem gave_deliverPost {sg : Sign} (d : Device) (v : ℕ) (h : d.gave sg)  : (Device.deliverPost d v).gave sg := by
  unfold Device.deliverPost
  (repeat' split) <;> simp_all (maxDischargeDepth := 60)

@[simp] theorem gave_mbPost {sg : Sign} (d : Device) (v : ℕ) (h : d.gave sg)  : (Device.mbPost d v).gave sg := by
  unfold Device.mbPost
  (repeat' split) <;> simp_all (maxDischargeDepth := 60)

@[simp] theorem gave_m2tFree {sg : Sign} (d : Device) (v : ℕ) (h : d.gave sg)  : (Device.m2tFree d v).gave sg := by
  unfold Device.m2tFree
  (repeat' split) <;> simp_all (maxDischargeDepth := 60)

@[simp] theorem gave_openCeremony {sg : Sign} (d : Device) (carrier : ℕ) (body : Sys2Proof.Bytes) (h : d.gave sg)  : (Device.openCeremony d carrier body).gave sg := by
  unfold Device.openCeremony
  (repeat' split) <;> (try simp_all (maxDischargeDepth := 60)) <;> repeat' (first | split | intro _ | simp_all (maxDischargeDepth := 60) | (rename_i h; replace h := congrArg (fun q => q.1.gave sg) h; simp_all (maxDischargeDepth := 60); done) | apply gave_onCommand | apply gave_onIdle | apply gave_onWrite | apply gave_softStart | apply gave_vfmCommand | apply gave_domCommand | apply gave_migCommand | apply gave_toStub)

@[simp] theorem gave_executionAsks {sg : Sign} (d : Device) (c : Ceremony) (h : d.gave sg)  : (Device.executionAsks d c).gave sg := by
  unfold Device.executionAsks
  (repeat' split) <;> simp_all (maxDischargeDepth := 60)

@[simp] theorem gave_tryExecute {sg : Sign} (d : Device) (h : d.gave sg)  : (Device.tryExecute d).gave sg := by
  unfold Device.tryExecute
  (repeat' split) <;> simp_all (maxDischargeDepth := 60)

@[simp] theorem gave_tallyReply {sg : Sign} (d : Device) (carrier : ℕ) (status : ℕ) (id : ℕ) (kcv : Sys2Proof.Bytes) (h : d.gave sg)  : (Device.tallyReply d carrier status id kcv).gave sg := by
  unfold Device.tallyReply
  (repeat' split) <;> simp_all (maxDischargeDepth := 60)

@[simp] theorem gave_expireLate {sg : Sign} (d : Device) (h : d.gave sg)  : (Device.expireLate d).gave sg := by
  unfold Device.expireLate
  (repeat' split) <;> simp_all (maxDischargeDepth := 60)

@[simp] theorem gave_ceremonyInput {sg : Sign} (d0 : Device) (carrier : ℕ) (id : ℕ) (takes : Ceremony → Bool) (f : Device → Ceremony → Device) (h : d0.gave sg) (hf : ∀ x0 x1, x0.gave sg → ((f x0 x1)).gave sg) : (Device.ceremonyInput d0 carrier id takes f).gave sg := by
  unfold Device.ceremonyInput
  (repeat' split) <;> (try simp_all (maxDischargeDepth := 60)) <;> repeat' (first | split | intro _ | simp_all (maxDischargeDepth := 60) | (rename_i h; replace h := congrArg (fun q => q.1.gave sg) h; simp_all (maxDischargeDepth := 60); done) | apply gave_onCommand | apply gave_onIdle | apply gave_onWrite | apply gave_softStart | apply gave_vfmCommand | apply gave_domCommand | apply gave_migCommand | apply gave_toStub)

@[simp] theorem gave_approve {sg : Sign} (d : Device) (carrier : ℕ) (id : ℕ) (body : Sys2Proof.Bytes) (h : d.gave sg)  : (Device.approve d carrier id body).gave sg := by
  unfold Device.approve
  (repeat' split) <;> (try simp_all (maxDischargeDepth := 60)) <;> repeat' (first | split | intro _ | simp_all (maxDischargeDepth := 60) | (rename_i h; replace h := congrArg (fun q => q.1.gave sg) h; simp_all (maxDischargeDepth := 60); done) | apply gave_onCommand | apply gave_onIdle | apply gave_onWrite | apply gave_softStart | apply gave_vfmCommand | apply gave_ceremonyInput | apply gave_domCommand | apply gave_migCommand | apply gave_toStub)

@[simp] theorem gave_component {sg : Sign} (d : Device) (carrier : ℕ) (id : ℕ) (body : Sys2Proof.Bytes) (h : d.gave sg)  : (Device.component d carrier id body).gave sg := by
  unfold Device.component
  (repeat' split) <;> (try simp_all (maxDischargeDepth := 60)) <;> repeat' (first | split | intro _ | simp_all (maxDischargeDepth := 60) | (rename_i h; replace h := congrArg (fun q => q.1.gave sg) h; simp_all (maxDischargeDepth := 60); done) | apply gave_onCommand | apply gave_onIdle | apply gave_onWrite | apply gave_softStart | apply gave_vfmCommand | apply gave_ceremonyInput | apply gave_domCommand | apply gave_migCommand | apply gave_toStub)

@[simp] theorem gave_transport {sg : Sign} (d : Device) (carrier : ℕ) (id : ℕ) (body : Sys2Proof.Bytes) (h : d.gave sg)  : (Device.transport d carrier id body).gave sg := by
  unfold Device.transport
  (repeat' split) <;> (try simp_all (maxDischargeDepth := 60)) <;> repeat' (first | split | intro _ | simp_all (maxDischargeDepth := 60) | (rename_i h; replace h := congrArg (fun q => q.1.gave sg) h; simp_all (maxDischargeDepth := 60); done) | apply gave_onCommand | apply gave_onIdle | apply gave_onWrite | apply gave_softStart | apply gave_vfmCommand | apply gave_ceremonyInput | apply gave_domCommand | apply gave_migCommand | apply gave_toStub)

@[simp] theorem gave_cancelMessage {sg : Sign} (d0 : Device) (carrier : ℕ) (id : ℕ) (h : d0.gave sg)  : (Device.cancelMessage d0 carrier id).gave sg := by
  unfold Device.cancelMessage
  (repeat' split) <;> (try simp_all (maxDischargeDepth := 60)) <;> repeat' (first | split | intro _ | simp_all (maxDischargeDepth := 60) | (rename_i h; replace h := congrArg (fun q => q.1.gave sg) h; simp_all (maxDischargeDepth := 60); done) | apply gave_onCommand | apply gave_onIdle | apply gave_onWrite | apply gave_softStart | apply gave_vfmCommand | apply gave_ceremonyInput | apply gave_domCommand | apply gave_migCommand | apply gave_toStub)

@[simp] theorem gave_query {sg : Sign} (d : Device) (carrier : ℕ) (h : d.gave sg)  : (Device.query d carrier).gave sg := by
  unfold Device.query
  (repeat' split) <;> simp_all (maxDischargeDepth := 60)

@[simp] theorem gave_unknownType {sg : Sign} (d : Device) (carrier : ℕ) (typ : ℕ) (h : d.gave sg)  : (Device.unknownType d carrier typ).gave sg := by
  unfold Device.unknownType
  (repeat' split) <;> simp_all (maxDischargeDepth := 60)

@[simp] theorem gave_olihild {sg : Sign} (d : Device) (carrier : ℕ) (msg : Sys2Proof.Bytes) (h : d.gave sg)  : (Device.olihild d carrier msg).gave sg := by
  unfold Device.olihild
  (repeat' split) <;> simp_all (maxDischargeDepth := 60)

@[simp] theorem gave_windowExpiry {sg : Sign} (d : Device) (h : d.gave sg)  : (Device.windowExpiry d).gave sg := by
  unfold Device.windowExpiry
  (repeat' split) <;> simp_all (maxDischargeDepth := 60)

@[simp] theorem gave_closeMaint {sg : Sign} (d : Device) (h : d.gave sg)  : (Device.closeMaint d).gave sg := by
  unfold Device.closeMaint
  (repeat' split) <;> simp_all (maxDischargeDepth := 60)

@[simp] theorem gave_cancelCeremony {sg : Sign} (d : Device) (h : d.gave sg)  : (Device.cancelCeremony d).gave sg := by
  unfold Device.cancelCeremony
  (repeat' split) <;> (try simp_all (maxDischargeDepth := 60)) <;> repeat' (first | split | intro _ | simp_all (maxDischargeDepth := 60) | (rename_i h; replace h := congrArg (fun q => q.1.gave sg) h; simp_all (maxDischargeDepth := 60); done) | apply gave_onCommand | apply gave_onIdle | apply gave_onWrite | apply gave_softStart | apply gave_vfmCommand | apply gave_ceremonyInput | apply gave_domCommand | apply gave_migCommand | apply gave_toStub)

@[simp] theorem gave_maintLimit {sg : Sign} (d : Device) (h : d.gave sg)  : (Device.maintLimit d).gave sg := by
  unfold Device.maintLimit
  (repeat' split) <;> simp_all (maxDischargeDepth := 60)

@[simp] theorem gave_maintExpiring {sg : Sign} (d : Device) (h : d.gave sg)  : (Device.maintExpiring d).gave sg := by
  unfold Device.maintExpiring
  (repeat' split) <;> simp_all (maxDischargeDepth := 60)

@[simp] theorem gave_atEnd {sg : Sign} (d : Device) (t : ℕ) (f : Device → Ceremony → Device) (h : d.gave sg) (hf : ∀ x0 x1, x0.gave sg → ((f x0 x1)).gave sg) : (Device.atEnd d t f).gave sg := by
  unfold Device.atEnd
  (repeat' split) <;> simp_all (maxDischargeDepth := 60)

@[simp] theorem gave_enrolInitial {sg : Sign} (d : Device) (h : d.gave sg)  : (Device.enrolInitial d).gave sg := by
  unfold Device.enrolInitial
  (repeat' split) <;> simp_all (maxDischargeDepth := 60)

@[simp] theorem gave_enrol {sg : Sign} (d : Device) (h : d.gave sg)  : (Device.enrol d).gave sg := by
  unfold Device.enrol
  (repeat' split) <;> (try simp_all (maxDischargeDepth := 60)) <;> repeat' (first | split | intro _ | simp_all (maxDischargeDepth := 60) | (rename_i h; replace h := congrArg (fun q => q.1.gave sg) h; simp_all (maxDischargeDepth := 60); done) | apply gave_onCommand | apply gave_onIdle | apply gave_onWrite | apply gave_softStart | apply gave_vfmCommand | apply gave_atEnd | apply gave_ceremonyInput | apply gave_domCommand | apply gave_migCommand | apply gave_toStub)

@[simp] theorem gave_setRoot {sg : Sign} (d : Device) (root : Sys2Proof.Bytes) (epoch : ℕ) (h : d.gave sg)  : (Device.setRoot d root epoch).gave sg := by
  unfold Device.setRoot
  (repeat' split) <;> simp_all (maxDischargeDepth := 60)

@[simp] theorem gave_storeCustody {sg : Sign} (d : Device) (h : d.gave sg)  : (Device.storeCustody d).gave sg := by
  unfold Device.storeCustody
  (repeat' split) <;> simp_all (maxDischargeDepth := 60)

@[simp] theorem gave_drawApproval {sg : Sign} (d : Device) (h : d.gave sg)  : (Device.drawApproval d).gave sg := by
  unfold Device.drawApproval
  (repeat' split) <;> simp_all (maxDischargeDepth := 60)

@[simp] theorem gave_rootGenerate {sg : Sign} (d : Device) (h : d.gave sg)  : (Device.rootGenerate d).gave sg := by
  unfold Device.rootGenerate
  (repeat' split) <;> simp_all (maxDischargeDepth := 60)

@[simp] theorem gave_join {sg : Sign} (d : Device) (h : d.gave sg)  : (Device.join d).gave sg := by
  unfold Device.join
  (repeat' split) <;> (try simp_all (maxDischargeDepth := 60)) <;> repeat' (first | split | intro _ | simp_all (maxDischargeDepth := 60) | (rename_i h; replace h := congrArg (fun q => q.1.gave sg) h; simp_all (maxDischargeDepth := 60); done) | apply gave_onCommand | apply gave_onIdle | apply gave_onWrite | apply gave_softStart | apply gave_vfmCommand | apply gave_atEnd | apply gave_ceremonyInput | apply gave_domCommand | apply gave_migCommand | apply gave_toStub)

@[simp] theorem gave_sponsor {sg : Sign} (d : Device) (h : d.gave sg)  : (Device.sponsor d).gave sg := by
  unfold Device.sponsor
  (repeat' split) <;> (try simp_all (maxDischargeDepth := 60)) <;> repeat' (first | split | intro _ | simp_all (maxDischargeDepth := 60) | (rename_i h; replace h := congrArg (fun q => q.1.gave sg) h; simp_all (maxDischargeDepth := 60); done) | apply gave_onCommand | apply gave_onIdle | apply gave_onWrite | apply gave_softStart | apply gave_vfmCommand | apply gave_atEnd | apply gave_ceremonyInput | apply gave_domCommand | apply gave_migCommand | apply gave_toStub)

@[simp] theorem gave_rootReplace {sg : Sign} (d : Device) (h : d.gave sg)  : (Device.rootReplace d).gave sg := by
  unfold Device.rootReplace
  (repeat' split) <;> simp_all (maxDischargeDepth := 60)

@[simp] theorem gave_keyImport {sg : Sign} (d : Device) (h : d.gave sg)  : (Device.keyImport d).gave sg := by
  unfold Device.keyImport
  (repeat' split) <;> simp_all (maxDischargeDepth := 60)

@[simp] theorem gave_tableApprove {sg : Sign} (d : Device) (h : d.gave sg)  : (Device.tableApprove d).gave sg := by
  unfold Device.tableApprove
  (repeat' split) <;> (try simp_all (maxDischargeDepth := 60)) <;> repeat' (first | split | intro _ | simp_all (maxDischargeDepth := 60) | (rename_i h; replace h := congrArg (fun q => q.1.gave sg) h; simp_all (maxDischargeDepth := 60); done) | apply gave_onCommand | apply gave_onIdle | apply gave_onWrite | apply gave_softStart | apply gave_vfmCommand | apply gave_atEnd | apply gave_ceremonyInput | apply gave_domCommand | apply gave_migCommand | apply gave_toStub)

@[simp] theorem gave_openMaintenance {sg : Sign} (d : Device) (h : d.gave sg)  : (Device.openMaintenance d).gave sg := by
  unfold Device.openMaintenance
  (repeat' split) <;> simp_all (maxDischargeDepth := 60)

@[simp] theorem gave_compatSet {sg : Sign} (d : Device) (h : d.gave sg)  : (Device.compatSet d).gave sg := by
  unfold Device.compatSet
  (repeat' split) <;> simp_all (maxDischargeDepth := 60)

@[simp] theorem gave_reportCoalesced {sg : Sign} (battery : Bool) (d : Device) (s : ℕ) (h : d.gave sg)  : (Device.reportCoalesced battery d s).gave sg := by
  unfold Device.reportCoalesced
  (repeat' split) <;> simp_all (maxDischargeDepth := 60)

@[simp] theorem gave_detect {sg : Sign} (d : Device) (battery : Bool) (s : ℕ) (detail : ℕ) (h : d.gave sg)  : (Device.detect d battery s detail).gave sg := by
  unfold Device.detect
  (repeat' split) <;> simp_all (maxDischargeDepth := 60)

@[simp] theorem gave_tamperEvent {sg : Sign} (d : Device) (s : ℕ) (detail : ℕ) (h : d.gave sg)  : (Device.tamperEvent d s detail).gave sg := by
  unfold Device.tamperEvent
  (repeat' split) <;> simp_all (maxDischargeDepth := 60)

@[simp] theorem gave_conditionEnd {sg : Sign} (d : Device) (s : ℕ) (h : d.gave sg)  : (Device.conditionEnd d s).gave sg := by
  unfold Device.conditionEnd
  (repeat' split) <;> simp_all (maxDischargeDepth := 60)

@[simp] theorem gave_zeroizeEnd {sg : Sign} (d : Device) (h : d.gave sg)  : (Device.zeroizeEnd d).gave sg := by
  unfold Device.zeroizeEnd
  (repeat' split) <;> simp_all (maxDischargeDepth := 60)

@[simp] theorem gave_samplingWindow {sg : Sign} (d : Device) (found : List (ℕ × ℕ)) (h : d.gave sg)  : (Device.samplingWindow d found).gave sg := by
  unfold Device.samplingWindow
  (repeat' split) <;> simp_all (maxDischargeDepth := 60)

@[simp] theorem gave_rowBurnt {sg : Sign} (d : Device) (torn : Bool) (h : d.gave sg)  : (Device.rowBurnt d torn).gave sg := by
  unfold Device.rowBurnt
  (repeat' split) <;> simp_all (maxDischargeDepth := 60)

@[simp] theorem gave_stickyClear {sg : Sign} (d : Device) (bits : ℕ) (h : d.gave sg)  : (Device.stickyClear d bits).gave sg := by
  unfold Device.stickyClear
  (repeat' split) <;> simp_all (maxDischargeDepth := 60)

@[simp] theorem gave_blockEffect {sg : Sign} (d : Device) (s : ℕ) (place : ℕ) (h : d.gave sg)  : (Device.blockEffect d s place).gave sg := by
  unfold Device.blockEffect
  (repeat' split) <;> simp_all (maxDischargeDepth := 60)

@[simp] theorem gave_resetConfig {sg : Sign} (d : Device) (h : d.gave sg)  : (Device.resetConfig d).gave sg := by
  unfold Device.resetConfig
  (repeat' split) <;> simp_all (maxDischargeDepth := 60)

@[simp] theorem gave_escalate {sg : Sign} (d : Device) (s : ℕ) (h : d.gave sg)  : (Device.escalate d s).gave sg := by
  unfold Device.escalate
  (repeat' split) <;> simp_all (maxDischargeDepth := 60)

@[simp] theorem gave_clearHwm {sg : Sign} (d : Device) (h : d.gave sg)  : (Device.clearHwm d).gave sg := by
  unfold Device.clearHwm
  (repeat' split) <;> simp_all (maxDischargeDepth := 60)

@[simp] theorem gave_selfRepair {sg : Sign} (d : Device) (which : ℕ) (words : List ℕ) (counts : List ℕ) (hwm : Bool) (h : d.gave sg)  : (Device.selfRepair d which words counts hwm).gave sg := by
  unfold Device.selfRepair
  (repeat' split) <;> simp_all (maxDischargeDepth := 60)

@[simp] theorem gave_selfError {sg : Sign} (d : Device) (which : ℕ) (words : List ℕ) (counts : List ℕ) (hwm : Bool) (h : d.gave sg)  : (Device.selfError d which words counts hwm).gave sg := by
  unfold Device.selfError
  (repeat' split) <;> simp_all (maxDischargeDepth := 60)

@[simp] theorem gave_faultEvent {sg : Sign} (d : Device) (s : ℕ) (held : Bool) (place : ℕ) (h : d.gave sg)  : (Device.faultEvent d s held place).gave sg := by
  unfold Device.faultEvent
  (repeat' split) <;> simp_all (maxDischargeDepth := 60)

@[simp] theorem gave_faultAck {sg : Sign} (d : Device) (s : ℕ) (h : d.gave sg)  : (Device.faultAck d s).gave sg := by
  unfold Device.faultAck
  (repeat' split) <;> simp_all (maxDischargeDepth := 60)

@[simp] theorem gave_pendingClear {sg : Sign} (d : Device) (s : ℕ) (h : d.gave sg)  : (Device.pendingClear d s).gave sg := by
  unfold Device.pendingClear
  (repeat' split) <;> simp_all (maxDischargeDepth := 60)

@[simp] theorem gave_cfgWrite {sg : Sign} (d : Device) (s : ℕ) (w : ℕ) (h : d.gave sg)  : (Device.cfgWrite d s w).gave sg := by
  unfold Device.cfgWrite
  (repeat' split) <;> simp_all (maxDischargeDepth := 60)

@[simp] theorem gave_replayRerun {sg : Sign} (d : Device) (h : d.gave sg)  : (Device.replayRerun d).gave sg := by
  unfold Device.replayRerun
  (repeat' split) <;> simp_all (maxDischargeDepth := 60)

@[simp] theorem gave_frameIn {sg : Sign} (d : Device) (more : Bool) (data : Sys2Proof.Bytes) (h : d.gave sg)  : (Device.frameIn d more data).gave sg := by
  unfold Device.frameIn
  (repeat' split) <;> simp_all (maxDischargeDepth := 60)

@[simp] theorem gave_mbxSend {sg : Sign} (d : Device) (h : d.gave sg)  : (Device.mbxSend d).gave sg := by
  unfold Device.mbxSend
  (repeat' split) <;> simp_all (maxDischargeDepth := 60)

@[simp] theorem gave_mbxInFree {sg : Sign} (d : Device) (h : d.gave sg)  : (Device.mbxInFree d).gave sg := by
  unfold Device.mbxInFree
  (repeat' split) <;> simp_all (maxDischargeDepth := 60)

@[simp] theorem gave_mbxReset {sg : Sign} (d : Device) (h : d.gave sg)  : (Device.mbxReset d).gave sg := by
  unfold Device.mbxReset
  (repeat' split) <;> simp_all (maxDischargeDepth := 60)

end Sys2Proof.Machine
end

