-- ==== Sys2Proof/Laws/GaveBoard.lean ====
section
/-! SUPPORT. Signs kept: power, the sideband, the RNG and register writes. -/

namespace Sys2Proof.Machine

@[simp] theorem gave_coresStop {sg : Sign} (d : Device) (h : d.gave sg)  : (Device.coresStop d).gave sg := by
  unfold Device.coresStop
  (repeat' split) <;> simp_all (maxDischargeDepth := 60)

@[simp] theorem gave_coresResume {sg : Sign} (d : Device) (h : d.gave sg)  : (Device.coresResume d).gave sg := by
  unfold Device.coresResume
  (repeat' split) <;> simp_all (maxDischargeDepth := 60)

@[simp] theorem gave_powerStep {sg : Sign} (d : Device) (f : Power → Power) (h : d.gave sg)  : (Device.powerStep d f).gave sg := by
  unfold Device.powerStep
  (repeat' split) <;> simp_all (maxDischargeDepth := 60)

@[simp] theorem gave_setPowerState {sg : Sign} (d : Device) (st : PowerState) (h : d.gave sg)  : (Device.setPowerState d st).gave sg := by
  unfold Device.setPowerState
  (repeat' split) <;> simp_all (maxDischargeDepth := 60)

@[simp] theorem gave_powerStop {sg : Sign} (d : Device) (h : d.gave sg)  : (Device.powerStop d).gave sg := by
  unfold Device.powerStop
  (repeat' split) <;> simp_all (maxDischargeDepth := 60)

@[simp] theorem gave_chainUnhealthy {sg : Sign} (d : Device) (c : ℕ) (feedOk : Bool) (mv : ℕ) (h : d.gave sg)  : (Device.chainUnhealthy d c feedOk mv).gave sg := by
  unfold Device.chainUnhealthy
  (repeat' split) <;> simp_all (maxDischargeDepth := 60)

@[simp] theorem gave_chainHealthy {sg : Sign} (d : Device) (c : ℕ) (mv : ℕ) (h : d.gave sg)  : (Device.chainHealthy d c mv).gave sg := by
  unfold Device.chainHealthy
  (repeat' split) <;> simp_all (maxDischargeDepth := 60)

@[simp] theorem gave_failoverEnd {sg : Sign} (d : Device) (h : d.gave sg)  : (Device.failoverEnd d).gave sg := by
  unfold Device.failoverEnd
  (repeat' split) <;> simp_all (maxDischargeDepth := 60)

@[simp] theorem gave_selfTest {sg : Sign} (d : Device) (pass : Bool) (h : d.gave sg)  : (Device.selfTest d pass).gave sg := by
  unfold Device.selfTest
  (repeat' split) <;> simp_all (maxDischargeDepth := 60)

@[simp] theorem gave_plannedSwitch {sg : Sign} (d : Device) (h : d.gave sg)  : (Device.plannedSwitch d).gave sg := by
  unfold Device.plannedSwitch
  (repeat' split) <;> simp_all (maxDischargeDepth := 60)

@[simp] theorem gave_gateAll {sg : Sign} (d : Device) (h : d.gave sg)  : (Device.gateAll d).gave sg := by
  unfold Device.gateAll
  (repeat' split) <;> simp_all (maxDischargeDepth := 60)

@[simp] theorem gave_clockFloor {sg : Sign} (d : Device) (h : d.gave sg)  : (Device.clockFloor d).gave sg := by
  unfold Device.clockFloor
  (repeat' split) <;> simp_all (maxDischargeDepth := 60)

@[simp] theorem gave_stateReq {sg : Sign} (d : Device) (v : ℕ) (h : d.gave sg)  : (Device.stateReq d v).gave sg := by
  unfold Device.stateReq
  (repeat' split) <;> (try simp_all (maxDischargeDepth := 60)) <;> repeat' (first | split | intro _ | simp_all (maxDischargeDepth := 60) | (rename_i h; replace h := congrArg (fun q => q.1.gave sg) h; simp_all (maxDischargeDepth := 60); done) | apply gave_onCommand | apply gave_onIdle | apply gave_onWrite | apply gave_softStart | apply gave_vfmCommand | apply gave_atEnd | apply gave_ceremonyInput | apply gave_domCommand | apply gave_migCommand | apply gave_toStub)

@[simp] theorem gave_ebbEntry {sg : Sign} (d : Device) (h : d.gave sg)  : (Device.ebbEntry d).gave sg := by
  unfold Device.ebbEntry
  (repeat' split) <;> simp_all (maxDischargeDepth := 60)

@[simp] theorem gave_wakeEnd {sg : Sign} (d : Device) (h : d.gave sg)  : (Device.wakeEnd d).gave sg := by
  unfold Device.wakeEnd
  (repeat' split) <;> simp_all (maxDischargeDepth := 60)

@[simp] theorem gave_lockLoss {sg : Sign} (d : Device) (n : ℕ) (h : d.gave sg)  : (Device.lockLoss d n).gave sg := by
  unfold Device.lockLoss
  (repeat' split) <;> simp_all (maxDischargeDepth := 60)

@[simp] theorem gave_relock {sg : Sign} (d : Device) (n : ℕ) (h : d.gave sg)  : (Device.relock d n).gave sg := by
  unfold Device.relock
  (repeat' split) <;> simp_all (maxDischargeDepth := 60)

@[simp] theorem gave_follow {sg : Sign} (d : Device) (src : ℕ) (ok : Bool) (h : d.gave sg)  : (Device.follow d src ok).gave sg := by
  unfold Device.follow
  (repeat' split) <;> simp_all (maxDischargeDepth := 60)

@[simp] theorem gave_burnDone {sg : Sign} (d : Device) (code : ℕ) (h : d.gave sg)  : (Device.burnDone d code).gave sg := by
  unfold Device.burnDone
  (repeat' split) <;> simp_all (maxDischargeDepth := 60)

@[simp] theorem gave_burn {sg : Sign} (d : Device) (h : d.gave sg)  : (Device.burn d).gave sg := by
  unfold Device.burn
  (repeat' split) <;> (try simp_all (maxDischargeDepth := 60)) <;> repeat' (first | split | intro _ | simp_all (maxDischargeDepth := 60) | (rename_i h; replace h := congrArg (fun q => q.1.gave sg) h; simp_all (maxDischargeDepth := 60); done) | apply gave_onCommand | apply gave_onIdle | apply gave_onWrite | apply gave_softStart | apply gave_vfmCommand | apply gave_atEnd | apply gave_ceremonyInput | apply gave_domCommand | apply gave_migCommand | apply gave_toStub)

@[simp] theorem gave_countTorn {sg : Sign} (d : Device) (g : ℕ) (h : d.gave sg)  : (Device.countTorn d g).gave sg := by
  unfold Device.countTorn
  (repeat' split) <;> simp_all (maxDischargeDepth := 60)

@[simp] theorem gave_burnEnd {sg : Sign} (d : Device) (ok : Bool) (h : d.gave sg)  : (Device.burnEnd d ok).gave sg := by
  unfold Device.burnEnd
  (repeat' split) <;> simp_all (maxDischargeDepth := 60)

@[simp] theorem gave_hostReset {sg : Sign} (d : Device) (h : d.gave sg)  : (Device.hostReset d).gave sg := by
  unfold Device.hostReset
  (repeat' split) <;> simp_all (maxDischargeDepth := 60)

@[simp] theorem gave_pinStep {sg : Sign} (d : Device) (f : Pins → Pins) (h : d.gave sg)  : (Device.pinStep d f).gave sg := by
  unfold Device.pinStep
  (repeat' split) <;> simp_all (maxDischargeDepth := 60)

@[simp] theorem gave_perstLong {sg : Sign} (d : Device) (h : d.gave sg)  : (Device.perstLong d).gave sg := by
  unfold Device.perstLong
  (repeat' split) <;> simp_all (maxDischargeDepth := 60)

@[simp] theorem gave_linkChange {sg : Sign} (d : Device) (gen : ℕ) (requested : Bool) (idle : Bool) (h : d.gave sg)  : (Device.linkChange d gen requested idle).gave sg := by
  unfold Device.linkChange
  (repeat' split) <;> simp_all (maxDischargeDepth := 60)

@[simp] theorem gave_busSeen {sg : Sign} (d : Device) (smbus : Bool) (h : d.gave sg)  : (Device.busSeen d smbus).gave sg := by
  unfold Device.busSeen
  (repeat' split) <;> simp_all (maxDischargeDepth := 60)

@[simp] theorem gave_sideTransaction {sg : Sign} (d : Device) (smbus : Bool) (assign : Option (BitVec 7)) (data : Sys2Proof.Bytes) (h : d.gave sg)  : (Device.sideTransaction d smbus assign data).gave sg := by
  unfold Device.sideTransaction
  (repeat' split) <;> simp_all (maxDischargeDepth := 60)

@[simp] theorem gave_spdmMessage {sg : Sign} (d : Device) (sideband : Bool) (supported : Bool) (data : Sys2Proof.Bytes) (h : d.gave sg)  : (Device.spdmMessage d sideband supported data).gave sg := by
  unfold Device.spdmMessage
  (repeat' split) <;> simp_all (maxDischargeDepth := 60)

@[simp] theorem gave_pldmMessage {sg : Sign} (d : Device) (monitoring : Bool) (readsEvent : Bool) (data : Sys2Proof.Bytes) (h : d.gave sg)  : (Device.pldmMessage d monitoring readsEvent data).gave sg := by
  unfold Device.pldmMessage
  (repeat' split) <;> simp_all (maxDischargeDepth := 60)

@[simp] theorem gave_araRead {sg : Sign} (d : Device) (won : Bool) (h : d.gave sg)  : (Device.araRead d won).gave sg := by
  unfold Device.araRead
  (repeat' split) <;> simp_all (maxDischargeDepth := 60)

@[simp] theorem gave_sdaStuck {sg : Sign} (d : Device) (h : d.gave sg)  : (Device.sdaStuck d).gave sg := by
  unfold Device.sdaStuck
  (repeat' split) <;> simp_all (maxDischargeDepth := 60)

@[simp] theorem gave_sideReset {sg : Sign} (d : Device) (h : d.gave sg)  : (Device.sideReset d).gave sg := by
  unfold Device.sideReset
  (repeat' split) <;> simp_all (maxDischargeDepth := 60)

@[simp] theorem gave_reqEnd {sg : Sign} (d : Device) (served : Bool) (h : d.gave sg)  : (Device.reqEnd d served).gave sg := by
  unfold Device.reqEnd
  extract_lets m refused code gives d0 d1 d2
  have h0 : d0.gave sg := by
    simp only [d0]
    split
    · exact gave_drawn d h
    · exact h
  have h1 : d1.gave sg := gave_mapCyc _ _ (gave_mapRng _ _ h0) rfl
  exact gave_raiseInt _ _ _ _ (gave_commandEnd _ _ _ _ (gave_setResult _ _ _ (gave_storeWords _ _ _ _ h1)))

@[simp] theorem gave_req {sg : Sign} (d : Device) (h : d.gave sg)  : (Device.req d).gave sg := by
  unfold Device.req
  (repeat' split) <;> simp_all (maxDischargeDepth := 60)

@[simp] theorem gave_setDrbg {sg : Sign} (d : Device) (i : ℕ) (x : Drbg) (h : d.gave sg)  : (Device.setDrbg d i x).gave sg := by
  unfold Device.setDrbg
  (repeat' split) <;> simp_all (maxDischargeDepth := 60)

@[simp] theorem gave_serveQueue {sg : Sign} (k : ℕ) (d : Device) (h : d.gave sg) : (Device.serveQueue k d).gave sg := by
  induction k generalizing d with
  | zero => exact h
  | succ k ih =>
    unfold Device.serveQueue
    split
    · exact h
    · split
      · exact h
      · refine ih _ ?_
        have h1 := gave_mapRng (sg := sg) d (fun r => { r with queue := r.queue.filter (· != ‹RngReq›) }) h
        (repeat' split) <;> simp_all

@[simp] theorem gave_reseedEnd {sg : Sign} (d : Device) (i : ℕ) (h : d.gave sg)  : (Device.reseedEnd d i).gave sg := by
  unfold Device.reseedEnd
  (repeat' split) <;> simp_all (maxDischargeDepth := 60)

@[simp] theorem gave_healthFail {sg : Sign} (d : Device) (latch : ℕ) (proportion : Bool) (h : d.gave sg)  : (Device.healthFail d latch proportion).gave sg := by
  unfold Device.healthFail
  (repeat' split) <;> simp_all (maxDischargeDepth := 60)

@[simp] theorem gave_testPattern {sg : Sign} (d : Device) (v : Bool) (h : d.gave sg)  : (Device.testPattern d v).gave sg := by
  unfold Device.testPattern
  (repeat' split) <;> simp_all (maxDischargeDepth := 60)

@[simp] theorem gave_unmapped {sg : Sign} (d : Device) (a : ℕ) (write : Bool) (h : d.gave sg)  : (Device.unmapped d a write).gave sg := by
  unfold Device.unmapped
  (repeat' split) <;> simp_all (maxDischargeDepth := 60)

@[simp] theorem gave_capture {sg : Sign} (d : Device) (cls : ℕ) (a : ℕ) (h : d.gave sg)  : (Device.capture d cls a).gave sg := by
  unfold Device.capture
  (repeat' split) <;> simp_all (maxDischargeDepth := 60)

@[simp] theorem gave_readClear {sg : Sign} (d : Device) (a : ℕ) (h : d.gave sg)  : (Device.readClear d a).gave sg := by
  unfold Device.readClear
  (repeat' split) <;> simp_all (maxDischargeDepth := 60)

@[simp] theorem gave_readReg {sg : Sign} (d : Device) (cls : ℕ) (a : ℕ) (h : d.gave sg)  : (Device.readReg d cls a).gave sg := by
  unfold Device.readReg
  (repeat' split) <;> simp_all (maxDischargeDepth := 60)

@[simp] theorem gave_snapWrite {sg : Sign} (d : Device) (cls : ℕ) (b : ℕ) (hold : Bool) (h : d.gave sg)  : (Device.snapWrite d cls b hold).gave sg := by
  unfold Device.snapWrite
  (repeat' split) <;> simp_all (maxDischargeDepth := 60)

@[simp] theorem gave_snapHold {sg : Sign} (d : Device) (cls : ℕ) (b : ℕ) (hold : Bool) (h : d.gave sg)  : (Device.snapHold d cls b hold).gave sg := by
  unfold Device.snapHold
  (repeat' split) <;> simp_all (maxDischargeDepth := 60)

@[simp] theorem gave_signalAgain {sg : Sign} (d : Device) (b : ℕ) (h : d.gave sg)  : (Device.signalAgain d b).gave sg := by
  unfold Device.signalAgain
  (repeat' split) <;> simp_all (maxDischargeDepth := 60)

@[simp] theorem gave_interruptWrite {sg : Sign} (d : Device) (b : ℕ) (enable : Bool) (v : ℕ) (h : d.gave sg)  : (Device.interruptWrite d b enable v).gave sg := by
  unfold Device.interruptWrite
  (repeat' split) <;> simp_all (maxDischargeDepth := 60)

@[simp] theorem gave_softReset {sg : Sign} (d : Device) (p : Page) (n : ℕ) (h : d.gave sg)  : (Device.softReset d p n).gave sg := by
  unfold Device.softReset
  (repeat' split) <;> simp_all (maxDischargeDepth := 60)

@[simp] theorem gave_softResetAt {sg : Sign} (d : Device) (b : ℕ) (h : d.gave sg)  : (Device.softResetAt d b).gave sg := by
  unfold Device.softResetAt
  (repeat' split) <;> simp_all (maxDischargeDepth := 60)

@[simp] theorem gave_softResetEnd {sg : Sign} (d : Device) (b : ℕ) (h : d.gave sg)  : (Device.softResetEnd d b).gave sg := by
  unfold Device.softResetEnd
  (repeat' split) <;> simp_all (maxDischargeDepth := 60)

@[simp] theorem gave_writeCount {sg : Sign} (d : Device) (p : Page) (n : ℕ) (a : ℕ) (v : ℕ) (f : Field) (h : d.gave sg)  : (Device.writeCount d p n a v f).gave sg := by
  unfold Device.writeCount
  (repeat' split) <;> simp_all (maxDischargeDepth := 60)

@[simp] theorem gave_writeFields {sg : Sign} (d : Device) (p : Page) (n : ℕ) (a : ℕ) (v : ℕ) (h : d.gave sg)  : (Device.writeFields d p n a v).gave sg := by
  unfold Device.writeFields
  (repeat' split) <;> simp_all (maxDischargeDepth := 60)

@[simp] theorem gave_lostOnce {sg : Sign} (d : Device) (a : ℕ) (f : Device → Device) (h : d.gave sg) (hf : ∀ x0, x0.gave sg → ((f x0)).gave sg) : (Device.lostOnce d a f).gave sg := by
  unfold Device.lostOnce
  (repeat' split) <;> simp_all (maxDischargeDepth := 60)

@[simp] theorem gave_onBit {sg : Sign} (d : Device) (v : ℕ) (i : ℕ) (f : Device → Device) (h : d.gave sg) (hf : ∀ x0, x0.gave sg → ((f x0)).gave sg) : (Device.onBit d v i f).gave sg := by
  unfold Device.onBit
  (repeat' split) <;> simp_all (maxDischargeDepth := 60)

@[simp] theorem gave_writePageHeader {sg : Sign} (d : Device) (p : Page) (n : ℕ) (cls : ℕ) (a : ℕ) (v : ℕ) (h : d.gave sg)  : (Device.writePageHeader d p n cls a v).gave sg := by
  unfold Device.writePageHeader
  (repeat' split) <;> simp_all (maxDischargeDepth := 60)

@[simp] theorem gave_ackWrite {sg : Sign} (d : Device) (s : ℕ) (v : Bool) (h : d.gave sg)  : (Device.ackWrite d s v).gave sg := by
  unfold Device.ackWrite
  (repeat' split) <;> simp_all (maxDischargeDepth := 60)

@[simp] theorem gave_writePwr {sg : Sign} (d : Device) (a : ℕ) (v : ℕ) (h : d.gave sg)  : (Device.writePwr d a v).gave sg := by
  unfold Device.writePwr
  (repeat' split) <;> simp_all (maxDischargeDepth := 60)

@[simp] theorem gave_writeOtp {sg : Sign} (d : Device) (a : ℕ) (v : ℕ) (h : d.gave sg)  : (Device.writeOtp d a v).gave sg := by
  unfold Device.writeOtp
  (repeat' split) <;> simp_all (maxDischargeDepth := 60)

@[simp] theorem gave_writeRng {sg : Sign} (d : Device) (a : ℕ) (v : ℕ) (h : d.gave sg)  : (Device.writeRng d a v).gave sg := by
  unfold Device.writeRng
  (repeat' split) <;> simp_all (maxDischargeDepth := 60)

@[simp] theorem gave_writeJnl {sg : Sign} (d : Device) (a : ℕ) (v : ℕ) (h : d.gave sg)  : (Device.writeJnl d a v).gave sg := by
  unfold Device.writeJnl
  (repeat' split) <;> simp_all (maxDischargeDepth := 60)

@[simp] theorem gave_writeDom {sg : Sign} (d : Device) (a : ℕ) (v : ℕ) (h : d.gave sg)  : (Device.writeDom d a v).gave sg := by
  unfold Device.writeDom
  (repeat' split) <;> simp_all (maxDischargeDepth := 60)

@[simp] theorem gave_writeSched {sg : Sign} (d : Device) (a : ℕ) (v : ℕ) (h : d.gave sg)  : (Device.writeSched d a v).gave sg := by
  unfold Device.writeSched
  (repeat' split) <;> simp_all (maxDischargeDepth := 60)

@[simp] theorem gave_writeRpl {sg : Sign} (d : Device) (a : ℕ) (v : ℕ) (h : d.gave sg)  : (Device.writeRpl d a v).gave sg := by
  unfold Device.writeRpl
  (repeat' split) <;> simp_all (maxDischargeDepth := 60)

@[simp] theorem gave_writeMbx {sg : Sign} (d : Device) (a : ℕ) (v : ℕ) (h : d.gave sg)  : (Device.writeMbx d a v).gave sg := by
  unfold Device.writeMbx
  (repeat' split) <;> simp_all (maxDischargeDepth := 60)

@[simp] theorem gave_writeLc {sg : Sign} (d : Device) (n : ℕ) (a : ℕ) (v : ℕ) (h : d.gave sg)  : (Device.writeLc d n a v).gave sg := by
  unfold Device.writeLc
  (repeat' split) <;> simp_all (maxDischargeDepth := 60)

@[simp] theorem gave_writeBn {sg : Sign} (d : Device) (n : ℕ) (a : ℕ) (v : ℕ) (h : d.gave sg)  : (Device.writeBn d n a v).gave sg := by
  unfold Device.writeBn
  (repeat' split) <;> simp_all (maxDischargeDepth := 60)

@[simp] theorem gave_writeVfm {sg : Sign} (d : Device) (v : ℕ) (a : ℕ) (w : ℕ) (h : d.gave sg)  : (Device.writeVfm d v a w).gave sg := by
  unfold Device.writeVfm
  (repeat' split) <;> simp_all (maxDischargeDepth := 60)

@[simp] theorem gave_writeVf {sg : Sign} (d : Device) (v : ℕ) (a : ℕ) (w : ℕ) (h : d.gave sg)  : (Device.writeVf d v a w).gave sg := by
  unfold Device.writeVf
  (repeat' split) <;> simp_all (maxDischargeDepth := 60)

@[simp] theorem gave_writeMb {sg : Sign} (d : Device) (v : ℕ) (a : ℕ) (w : ℕ) (h : d.gave sg)  : (Device.writeMb d v a w).gave sg := by
  unfold Device.writeMb
  (repeat' split) <;> simp_all (maxDischargeDepth := 60)

@[simp] theorem gave_writeVcnt {sg : Sign} (d : Device) (v : ℕ) (a : ℕ) (w : ℕ) (h : d.gave sg)  : (Device.writeVcnt d v a w).gave sg := by
  unfold Device.writeVcnt
  (repeat' split) <;> simp_all (maxDischargeDepth := 60)

@[simp] theorem gave_msixWrite {sg : Sign} (d : Device) (fn : ℕ) (vector : ℕ) (word : ℕ) (v : ℕ) (h : d.gave sg)  : (Device.msixWrite d fn vector word v).gave sg := by
  unfold Device.msixWrite
  (repeat' split) <;> simp_all (maxDischargeDepth := 60)

@[simp] theorem gave_rebuildHbm {sg : Sign} (d : Device) (h : d.gave sg)  : (Device.rebuildHbm d).gave sg := by
  unfold Device.rebuildHbm
  (repeat' split) <;> simp_all (maxDischargeDepth := 60)

@[simp] theorem gave_reloadCurve {sg : Sign} (bad : List ℕ) (d : Device) (s : ℕ) (h : d.gave sg)  : (Device.reloadCurve bad d s).gave sg := by
  unfold Device.reloadCurve
  (repeat' split) <;> simp_all (maxDischargeDepth := 60)

end Sys2Proof.Machine
end

