-- ==== Sys2Proof/Laws/Guarded.lean ====
section
/-! SUPPORT. The guarded part of the device: the burnt memories and the staging window, and what changes it. -/

namespace Sys2Proof.Machine

/-- A component changed by a function leaves the guarded part alone, where the function does. -/
@[simp] theorem guarded_mapPower (d : Device) (f : Power → Power) (h : (f d.power).otp = d.power.otp ∧ (f d.power).burn = d.power.burn) :
    (d.mapPower f).guarded = d.guarded := by
  simp only [Device.mapPower, Device.guarded, h.1, h.2]

@[simp] theorem guarded_mapTamp (d : Device) (f : Tamper → Tamper) (h : (f d.tamp).rows = d.tamp.rows ∧ (f d.tamp).nextRow = d.tamp.nextRow) :
    (d.mapTamp f).guarded = d.guarded := by
  simp only [Device.mapTamp, Device.guarded, h.1, h.2]

@[simp] theorem guarded_mapUnits (d : Device) (f : Units → Units) (h : (f d.units).staging = d.units.staging) :
    (d.mapUnits f).guarded = d.guarded := by
  simp only [Device.mapUnits, Device.guarded, h]

/-- A run of steps each of which leaves the guarded part alone. -/
@[simp] theorem guarded_foldl {α : Type} (f : Device → α → Device) (h : ∀ d x, (f d x).guarded = d.guarded) (l : List α) (d : Device) :
    (l.foldl f d).guarded = d.guarded := by
  induction l generalizing d with
  | nil => rfl
  | cons x l ih => rw [List.foldl_cons, ih, h]

@[simp] theorem guarded_ite (c : Prop) [Decidable c] (a b : Device) :
    (if c then a else b).guarded = if c then a.guarded else b.guarded := by split <;> rfl

@[simp] theorem guarded_mk (cy fr : Nat) (o : List Output) (pg : Pages) (ft : Front) (sc : Sched) (u : Units) (k : Keys) (st : Store)
    (dm : Domain) (cu : Custody) (t : Tamper) (so : Table Source) (ca : NatSet) (rg : Rng) (p : Power) (pn : Pins)
    (ri : Table Ring) (ex : Option Export) :
    (Device.mk cy fr o pg ft sc u k st dm cu t so ca rg p pn ri ex).guarded
      = { otp := p.otp, burn := p.burn, rows := t.rows, nextRow := t.nextRow, staging := u.staging } := rfl

@[simp] theorem guarded_eta (d : Device) :
    ({ otp := d.power.otp, burn := d.power.burn, rows := d.tamp.rows, nextRow := d.tamp.nextRow, staging := d.units.staging }
      : Guarded) = d.guarded := rfl


end Sys2Proof.Machine
end

