-- ==== Sys2Proof/Laws/GuardedCore.lean ====
section
/-! SUPPORT. Guarded memories kept: the shared operations, the key banks, the journal and the replay log. -/

namespace Sys2Proof.Machine

@[simp] theorem guarded_mapPages (d : Device) (f : Pages → Pages)  : (Device.mapPages d f).guarded = d.guarded := by
  rfl

@[simp] theorem guarded_mapFront (d : Device) (f : Front → Front)  : (Device.mapFront d f).guarded = d.guarded := by
  rfl

@[simp] theorem guarded_mapSched (d : Device) (f : Sched → Sched)  : (Device.mapSched d f).guarded = d.guarded := by
  rfl

@[simp] theorem guarded_mapKeys (d : Device) (f : Keys → Keys)  : (Device.mapKeys d f).guarded = d.guarded := by
  rfl

@[simp] theorem guarded_mapStore (d : Device) (f : Store → Store)  : (Device.mapStore d f).guarded = d.guarded := by
  rfl

@[simp] theorem guarded_mapDom (d : Device) (f : Domain → Domain)  : (Device.mapDom d f).guarded = d.guarded := by
  rfl

@[simp] theorem guarded_mapView (d : Device) (f : View → View)  : (Device.mapView d f).guarded = d.guarded := by
  rfl

@[simp] theorem guarded_mapCust (d : Device) (f : Custody → Custody)  : (Device.mapCust d f).guarded = d.guarded := by
  rfl

@[simp] theorem guarded_mapRng (d : Device) (f : Rng → Rng)  : (Device.mapRng d f).guarded = d.guarded := by
  rfl

@[simp] theorem guarded_mapPins (d : Device) (f : Pins → Pins)  : (Device.mapPins d f).guarded = d.guarded := by
  rfl

@[simp] theorem guarded_mapCyc (d : Device) (f : Cyc → Cyc)  : (Device.mapCyc d f).guarded = d.guarded := by
  rfl

@[simp] theorem guarded_emit (d : Device) (o : Output)  : (Device.emit d o).guarded = d.guarded := by
  rfl

@[simp] theorem guarded_drawFree (d : Device)  : (Device.drawFree d).guarded = d.guarded := by
  rfl

@[simp] theorem guarded_setReg (d : Device) (a : ℕ) (v : ℕ)  : (Device.setReg d a v).guarded = d.guarded := by
  unfold Device.setReg
  (repeat' split) <;> simp_all

@[simp] theorem guarded_setField (d : Device) (a : ℕ) (hi : ℕ) (lo : ℕ) (v : ℕ)  : (Device.setField d a hi lo v).guarded = d.guarded := by
  unfold Device.setField
  (repeat' split) <;> simp_all

@[simp] theorem guarded_clearBits (d : Device) (a : ℕ) (m : ℕ)  : (Device.clearBits d a m).guarded = d.guarded := by
  unfold Device.clearBits
  (repeat' split) <;> simp_all

@[simp] theorem guarded_hwSet (d : Device) (a : ℕ) (m : ℕ)  : (Device.hwSet d a m).guarded = d.guarded := by
  unfold Device.hwSet
  (repeat' split) <;> simp_all

@[simp] theorem guarded_addCnt (d : Device) (a : ℕ) (hi : ℕ) (lo : ℕ) (n : ℕ) (saturates : Bool)  : (Device.addCnt d a hi lo n saturates).guarded = d.guarded := by
  unfold Device.addCnt
  (repeat' split) <;> simp_all

@[simp] theorem guarded_writeLost (d : Device) (a : ℕ)  : (Device.writeLost d a).guarded = d.guarded := by
  unfold Device.writeLost
  (repeat' split) <;> simp_all

@[simp] theorem guarded_rwhClash (d : Device) (a : ℕ)  : (Device.rwhClash d a).guarded = d.guarded := by
  unfold Device.rwhClash
  (repeat' split) <;> simp_all

@[simp] theorem guarded_hwLoad (d : Device) (a : ℕ) (v : ℕ)  : (Device.hwLoad d a v).guarded = d.guarded := by
  unfold Device.hwLoad
  (repeat' split) <;> simp_all

@[simp] theorem guarded_noteWrite (d : Device) (a : ℕ)  : (Device.noteWrite d a).guarded = d.guarded := by
  unfold Device.noteWrite
  (repeat' split) <;> simp_all

@[simp] theorem guarded_noteReturn (d : Device) (lo : ℕ) (hi : ℕ)  : (Device.noteReturn d lo hi).guarded = d.guarded := by
  unfold Device.noteReturn
  (repeat' split) <;> simp_all

@[simp] theorem guarded_advance (d : Device) (n : ℕ)  : (Device.advance d n).guarded = d.guarded := by
  rfl

@[simp] theorem guarded_passCycle (d : Device)  : (Device.passCycle d).guarded = d.guarded := by
  unfold Device.passCycle
  (repeat' split) <;> simp_all

@[simp] theorem guarded_drawn (d : Device)  : (Device.drawn d).guarded = d.guarded := by
  unfold Device.drawn
  (repeat' split) <;> simp_all

@[simp] theorem guarded_drawnFor (d : Device) (n : ℕ)  : (Device.drawnFor d n).guarded = d.guarded := by
  unfold Device.drawnFor
  (repeat' split) <;> simp_all

@[simp] theorem guarded_sendMsix (d : Device) (fn : ℕ) (vector : ℕ)  : (Device.sendMsix d fn vector).guarded = d.guarded := by
  unfold Device.sendMsix
  (repeat' split) <;> simp_all

@[simp] theorem guarded_signalPage (d : Device) (base : ℕ)  : (Device.signalPage d base).guarded = d.guarded := by
  unfold Device.signalPage
  (repeat' split) <;> simp_all

@[simp] theorem guarded_raiseMask (d : Device) (base : ℕ) (m : ℕ)  : (Device.raiseMask d base m).guarded = d.guarded := by
  unfold Device.raiseMask
  (repeat' split) <;> simp_all

@[simp] theorem guarded_raiseInt (d : Device) (p : Page) (n : ℕ) (i : ℕ)  : (Device.raiseInt d p n i).guarded = d.guarded := by
  unfold Device.raiseInt
  (repeat' split) <;> simp_all

@[simp] theorem guarded_commandEnd (d : Device) (a : ℕ) (req : ℕ) (done : ℕ)  : (Device.commandEnd d a req done).guarded = d.guarded := by
  unfold Device.commandEnd
  (repeat' split) <;> simp_all

@[simp] theorem guarded_commandStart (d : Device) (a : ℕ) (req : ℕ)  : (Device.commandStart d a req).guarded = d.guarded := by
  unfold Device.commandStart
  (repeat' split) <;> simp_all

@[simp] theorem guarded_setResult (d : Device) (a : ℕ) (code : ℕ)  : (Device.setResult d a code).guarded = d.guarded := by
  unfold Device.setResult
  (repeat' split) <;> simp_all

@[simp] theorem guarded_progStart (d : Device) (base : ℕ) (op : ℕ) (total : ℕ)  : (Device.progStart d base op total).guarded = d.guarded := by
  unfold Device.progStart
  (repeat' split) <;> simp_all

@[simp] theorem guarded_progPos (d : Device) (base : ℕ) (pos : ℕ)  : (Device.progPos d base pos).guarded = d.guarded := by
  unfold Device.progPos
  (repeat' split) <;> simp_all

@[simp] theorem guarded_progEnd (d : Device) (base : ℕ) (aborted : Bool)  : (Device.progEnd d base aborted).guarded = d.guarded := by
  unfold Device.progEnd
  (repeat' split) <;> simp_all

@[simp] theorem guarded_setVf (d : Device) (v : ℕ) (x : Vf)  : (Device.setVf d v x).guarded = d.guarded := by
  unfold Device.setVf
  (repeat' split) <;> simp_all

@[simp] theorem guarded_changeVf (d : Device) (v : ℕ) (x : Vf)  : (Device.changeVf d v x).guarded = d.guarded := by
  unfold Device.changeVf
  (repeat' split) <;> simp_all

@[simp] theorem guarded_setQp (d : Device) (v : ℕ) (q : ℕ) (x : Qp)  : (Device.setQp d v q x).guarded = d.guarded := by
  unfold Device.setQp
  (repeat' split) <;> simp_all

@[simp] theorem guarded_setItem (d : Device) (n : ℕ) (x : Item)  : (Device.setItem d n x).guarded = d.guarded := by
  unfold Device.setItem
  (repeat' split) <;> simp_all

@[simp] theorem guarded_dropItem (d : Device) (n : ℕ)  : (Device.dropItem d n).guarded = d.guarded := by
  unfold Device.dropItem
  (repeat' split) <;> simp_all

@[simp] theorem guarded_dropDelay (d : Device) (list : ℕ) (n : ℕ)  : (Device.dropDelay d list n).guarded = d.guarded := by
  unfold Device.dropDelay
  (repeat' split) <;> simp_all

@[simp] theorem guarded_addDelay (d : Device) (list : ℕ) (n : ℕ) (due : ℕ)  : (Device.addDelay d list n due).guarded = d.guarded := by
  unfold Device.addDelay
  (repeat' split) <;> simp_all

@[simp] theorem guarded_finishItem (d : Device) (n : ℕ) (st : Status) (detail : ℕ)  : (Device.finishItem d n st detail).guarded = d.guarded := by
  unfold Device.finishItem
  (repeat' split) <;> simp_all

@[simp] theorem guarded_bumpCounter (d : Device) (p : Page) (n : ℕ) (val : ℕ) (ovf : ℕ) (bitNo : ℕ) (inc : ℕ)  : (Device.bumpCounter d p n val ovf bitNo inc).guarded = d.guarded := by
  unfold Device.bumpCounter
  (repeat' split) <;> simp_all

@[simp] theorem guarded_pfCounter (vf : Option ℕ) (ev : ℕ) (inc : ℕ) (d : Device) (c : ℕ)  : (Device.pfCounter vf ev inc d c).guarded = d.guarded := by
  unfold Device.pfCounter
  (repeat' split) <;> simp_all

@[simp] theorem guarded_vfCounter (v : ℕ) (ev : ℕ) (inc : ℕ) (d : Device) (c : ℕ)  : (Device.vfCounter v ev inc d c).guarded = d.guarded := by
  unfold Device.vfCounter
  (repeat' split) <;> simp_all

@[simp] theorem guarded_countEvent (d : Device) (vf : Option ℕ) (ev : ℕ) (inc : ℕ)  : (Device.countEvent d vf ev inc).guarded = d.guarded := by
  unfold Device.countEvent
  (repeat' split) <;> simp_all

@[simp] theorem guarded_alertCause (d : Device)  : (Device.alertCause d).guarded = d.guarded := by
  unfold Device.alertCause
  (repeat' split) <;> simp_all

@[simp] theorem guarded_storeWords (d : Device) (a : ℕ) (n : ℕ) (bs : Sys2Proof.Bytes)  : (Device.storeWords d a n bs).guarded = d.guarded := by
  unfold Device.storeWords
  (repeat' split) <;> simp_all

@[simp] theorem guarded_placeFrame (d : Device)  : (Device.placeFrame d).guarded = d.guarded := by
  unfold Device.placeFrame
  (repeat' split) <;> simp_all

@[simp] theorem guarded_olihildReply (d : Device) (carrier : ℕ) (typ : ℕ) (status : ℕ) (id : ℕ) (body : Sys2Proof.Bytes)  : (Device.olihildReply d carrier typ status id body).guarded = d.guarded := by
  unfold Device.olihildReply
  (repeat' split) <;> simp_all

@[simp] theorem guarded_ceremonyRecorded (d : Device) (outcome : ℕ) (typ : ℕ)  : (Device.ceremonyRecorded d outcome typ).guarded = d.guarded := by
  unfold Device.ceremonyRecorded
  (repeat' split) <;> simp_all

@[simp] theorem guarded_endCeremony (d : Device) (outcome : ℕ) (result : Option Sys2Proof.Bytes)  : (Device.endCeremony d outcome result).guarded = d.guarded := by
  unfold Device.endCeremony
  (repeat' split) <;> simp_all

@[simp] theorem guarded_clearLocks (d : Device)  : (Device.clearLocks d).guarded = d.guarded := by
  unfold Device.clearLocks
  (repeat' split) <;> simp_all

@[simp] theorem guarded_signalMode (d : Device)  : (Device.signalMode d).guarded = d.guarded := by
  unfold Device.signalMode
  (repeat' split) <;> simp_all

@[simp] theorem guarded_enterMode (d : Device) (m : Mode)  : (Device.enterMode d m).guarded = d.guarded := by
  unfold Device.enterMode
  (repeat' split) <;> simp_all

@[simp] theorem guarded_dropUnaccepted (d : Device)  : (Device.dropUnaccepted d).guarded = d.guarded := by
  unfold Device.dropUnaccepted
  (repeat' split) <;> simp_all

@[simp] theorem guarded_changeMode (d : Device) (m : Mode)  : (Device.changeMode d m).guarded = d.guarded := by
  unfold Device.changeMode
  (repeat' split) <;> simp_all

@[simp] theorem guarded_stopItem (d : Device) (n : ℕ) (x : Item)  : (Device.stopItem d n x).guarded = d.guarded := by
  unfold Device.stopItem
  (repeat' split) <;> simp_all

@[simp] theorem guarded_shutGate (d : Device) (n : ℕ) (x : Item)  : (Device.shutGate d n x).guarded = d.guarded := by
  unfold Device.shutGate
  (repeat' split) <;> simp_all

@[simp] theorem guarded_enterQuarantine (d : Device)  : (Device.enterQuarantine d).guarded = d.guarded := by
  unfold Device.enterQuarantine
  (repeat' split) <;> (try simp_all) <;> repeat' (first | split | intro _ | simp_all | (rename_i h; replace h := congrArg (fun q => q.1.guarded) h; simp_all; done) | (refine (guarded_foldl _ ?_ _ _).trans ?_))

@[simp] theorem guarded_burnJoins (d : Device)  : (Device.burnJoins d).guarded = d.guarded := by
  unfold Device.burnJoins
  (repeat' split) <;> simp_all

@[simp] theorem guarded_startBurn (d : Device)  : (Device.startBurn d).guarded = d.guarded := by
  unfold Device.startBurn Tamper.coalesceAll
  (repeat' split) <;> (try simp_all) <;> repeat' (first | split | intro _ | simp_all | (rw [guarded_mapTamp]; simp_all))

@[simp] theorem guarded_stageRecord (raise : Device → ℕ → Device) (d : Device) (r : TampRec) (hraise : ∀ x0 x1, (raise x0 x1).guarded = x0.guarded) : (Device.stageRecord raise d r).guarded = d.guarded := by
  unfold Device.stageRecord
  (repeat' split) <;> simp_all

@[simp] theorem guarded_stick (d : Device) (i : ℕ)  : (Device.stick d i).guarded = d.guarded := by
  unfold Device.stick
  (repeat' split) <;> simp_all

@[simp] theorem guarded_setRootClass (d : Device) (c : ℕ)  : (Device.setRootClass d c).guarded = d.guarded := by
  unfold Device.setRootClass
  (repeat' split) <;> simp_all

@[simp] theorem guarded_endExport (d : Device) (code : ℕ)  : (Device.endExport d code).guarded = d.guarded := by
  unfold Device.endExport
  (repeat' split) <;> simp_all

@[simp] theorem guarded_squashAll (d : Device)  : (Device.squashAll d).guarded = d.guarded := by
  unfold Device.squashAll
  (repeat' split) <;> simp_all

@[simp] theorem guarded_clearAtOnce (d : Device)  : (Device.clearAtOnce d).guarded = d.guarded := by
  unfold Device.clearAtOnce
  extract_lets d1 d2 d3 d4 d5 d6 d7
  have h1 : d1.guarded = d.guarded := (guarded_setRootClass _ _).trans ((guarded_endExport _ _).trans (guarded_squashAll _))
  clear_value d1
  have h2 : d2.guarded = d1.guarded := rfl
  clear_value d2
  have h4 : d4.guarded = d2.guarded := rfl
  clear_value d4
  have h6 : d6.guarded = d4.guarded := rfl
  clear_value d6
  have h7 : d7.guarded = d6.guarded := rfl
  clear_value d7
  exact (guarded_progStart _ _ _ _).trans ((guarded_progEnd _ _ _).trans (h7.trans (h6.trans (h4.trans (h2.trans h1)))))

@[simp] theorem guarded_assertLine (raise : Device → ℕ → Device) (d : Device) (cause : ℕ) (source : ℕ) (hraise : ∀ x0 x1, (raise x0 x1).guarded = x0.guarded) : (Device.assertLine raise d cause source).guarded = d.guarded := by
  unfold Device.assertLine
  extract_lets d1 e d2
  have h2 : d2.guarded = d.guarded := by
    simp only [d2]
    split
    · rfl
    · have he : e.guarded = d.guarded := (guarded_raiseInt _ _ _ _).trans rfl
      split
      · exact he
      · exact (guarded_stageRecord _ _ _ hraise).trans he
  exact (guarded_clearAtOnce _).trans h2

@[simp] theorem guarded_setSource (d : Device) (s : ℕ) (x : Source)  : (Device.setSource d s x).guarded = d.guarded := by
  rfl

@[simp] theorem guarded_highWater (d : Device) (s : ℕ) (sev : ℕ)  : (Device.highWater d s sev).guarded = d.guarded := by
  unfold Device.highWater
  (repeat' split) <;> (try simp_all) <;> repeat' (first | split | intro _ | simp_all | (rename_i h; replace h := congrArg (fun q => q.1.guarded) h; simp_all; done) | (refine (guarded_foldl _ ?_ _ _).trans ?_))

@[simp] theorem guarded_recordEvent (d : Device) (s : ℕ)  : (Device.recordEvent d s).1.guarded = d.guarded := by
  unfold Device.recordEvent
  (repeat' split) <;> simp_all

theorem guarded_recordEvent_fst (d d1 : Device) (s sev : Nat) (h : d.recordEvent s = (d1, sev)) : d1.guarded = d.guarded := by
  have := guarded_recordEvent d s
  rw [h] at this
  exact this

@[simp] theorem guarded_faultN (k : Nat) (d : Device) (s : Nat) : (Device.faultN k d s).guarded = d.guarded := by
  induction k generalizing d s with
  | zero => exact guarded_recordEvent d s
  | succ k ih =>
    unfold Device.faultN
    split
    rename_i h
    have h' := guarded_recordEvent_fst _ _ _ _ h
    repeat' split
    all_goals simp_all

@[simp] theorem guarded_fault (d : Device) (s : ℕ)  : (Device.fault d s).guarded = d.guarded := by
  unfold Device.fault
  (repeat' split) <;> simp_all

@[simp] theorem guarded_holdCause (d : Device) (s : ℕ) (held : Bool)  : (Device.holdCause d s held).guarded = d.guarded := by
  rfl

@[simp] theorem guarded_zeroize (d : Device) (cause : ℕ) (source : ℕ)  : (Device.zeroize d cause source).guarded = d.guarded := by
  unfold Device.zeroize
  (repeat' split) <;> simp_all

@[simp] theorem guarded_leaveQuarantine (d : Device)  : (Device.leaveQuarantine d).guarded = d.guarded := by
  unfold Device.leaveQuarantine
  (repeat' split) <;> simp_all

@[simp] theorem guarded_onCommand (d : Device) (a : ℕ) (f : Device → Device) (hf : ∀ x0, (f x0).guarded = x0.guarded) : (Device.onCommand d a f).guarded = d.guarded := by
  unfold Device.onCommand
  (repeat' split) <;> simp_all

@[simp] theorem guarded_onWrite (d : Device) (a : ℕ) (f : Device → Device) (hf : ∀ x0, (f x0).guarded = x0.guarded) : (Device.onWrite d a f).guarded = d.guarded := by
  unfold Device.onWrite
  (repeat' split) <;> simp_all

@[simp] theorem guarded_onIdle (d : Device) (a : ℕ) (req : ℕ) (busy : ℕ) (f : Device → Device) (hf : ∀ x0, (f x0).guarded = x0.guarded) : (Device.onIdle d a req busy f).guarded = d.guarded := by
  unfold Device.onIdle
  (repeat' split) <;> simp_all

@[simp] theorem guarded_w1c (d : Device) (a : ℕ) (m : ℕ)  : (Device.w1c d a m).guarded = d.guarded := by
  unfold Device.w1c
  (repeat' split) <;> simp_all

@[simp] theorem guarded_softStart (d : Device) (base : ℕ) (f : Device → Device) (hf : ∀ x0, (f x0).guarded = x0.guarded) : (Device.softStart d base f).guarded = d.guarded := by
  unfold Device.softStart
  (repeat' split) <;> simp_all

@[simp] theorem guarded_captureViolation (d : Device) (cls : ℕ) (kind : ℕ) (a : ℕ)  : (Device.captureViolation d cls kind a).guarded = d.guarded := by
  unfold Device.captureViolation
  (repeat' split) <;> simp_all

@[simp] theorem guarded_setValid (d : Device)  : (Device.setValid d).guarded = d.guarded := by
  unfold Device.setValid
  (repeat' split) <;> simp_all

@[simp] theorem guarded_recordViolation (d : Device) (cls : ℕ) (kind : ℕ) (a : ℕ)  : (Device.recordViolation d cls kind a).guarded = d.guarded := by
  unfold Device.recordViolation
  (repeat' split) <;> simp_all

@[simp] theorem guarded_violation (d : Device) (cls : ℕ) (kind : ℕ) (a : ℕ)  : (Device.violation d cls kind a).guarded = d.guarded := by
  unfold Device.violation
  (repeat' split) <;> simp_all

@[simp] theorem guarded_accessViolation (d : Device) (cls : ℕ) (kind : ℕ) (a : ℕ)  : (Device.accessViolation d cls kind a).guarded = d.guarded := by
  unfold Device.accessViolation
  (repeat' split) <;> simp_all

@[simp] theorem guarded_violClear (d : Device) (w : ℕ)  : (Device.violClear d w).guarded = d.guarded := by
  unfold Device.violClear
  (repeat' split) <;> simp_all

@[simp] theorem guarded_regionWrite (d : Device) (i : ℕ) (j : ℕ) (v : ℕ)  : (Device.regionWrite d i j v).guarded = d.guarded := by
  unfold Device.regionWrite
  (repeat' split) <;> simp_all

@[simp] theorem guarded_indexDrop (d : Device) (i : Ident)  : (Device.indexDrop d i).guarded = d.guarded := by
  unfold Device.indexDrop
  (repeat' split) <;> simp_all

@[simp] theorem guarded_indexPut (d : Device) (i : Ident) (loc : ℕ)  : (Device.indexPut d i loc).guarded = d.guarded := by
  unfold Device.indexPut
  (repeat' split) <;> simp_all

@[simp] theorem guarded_readRecord (d : Device) (i : Ident)  : (Device.readRecord d i).guarded = d.guarded := by
  unfold Device.readRecord
  (repeat' split) <;> simp_all

@[simp] theorem guarded_setRun (d : Device) (k : ℕ) (r : KeyRun)  : (Device.setRun d k r).guarded = d.guarded := by
  unfold Device.setRun
  (repeat' split) <;> simp_all

@[simp] theorem guarded_dropRun (d : Device) (k : ℕ)  : (Device.dropRun d k).guarded = d.guarded := by
  unfold Device.dropRun
  (repeat' split) <;> simp_all

@[simp] theorem guarded_makeRoom (n k : Nat) (d : Device) : (Device.makeRoom n k d).1.guarded = d.guarded := by
  induction k generalizing d with
  | zero => rfl
  | succ k ih => unfold Device.makeRoom; (repeat' split) <;> simp_all

@[simp] theorem guarded_stamp (d : Device)  : (Device.stamp d).guarded = d.guarded := by
  unfold Device.stamp
  (repeat' split) <;> simp_all

@[simp] theorem guarded_failSlot (d : Device) (k : ℕ)  : (Device.failSlot d k).guarded = d.guarded := by
  unfold Device.failSlot
  (repeat' split) <;> simp_all

@[simp] theorem guarded_refetchRun (d : Device) (k : ℕ)  : (Device.refetchRun d k).guarded = d.guarded := by
  unfold Device.refetchRun
  (repeat' split) <;> (try simp_all) <;> repeat' (first | split | intro _ | simp_all | (rename_i h; replace h := congrArg (fun q => q.1.guarded) h; simp_all; done) | apply guarded_onCommand | apply guarded_onIdle | apply guarded_onWrite | apply guarded_softStart | (refine (guarded_foldl _ ?_ _ _).trans ?_))

@[simp] theorem guarded_retryFill (d : Device) (n : ℕ)  : (Device.retryFill d n).guarded = d.guarded := by
  unfold Device.retryFill
  (repeat' split) <;> simp_all

@[simp] theorem guarded_startFill (d : Device) (n : ℕ) (x : Item) (vault : Bool) (id : ℕ) (version : ℕ)  : (Device.startFill d n x vault id version).guarded = d.guarded := by
  unfold Device.startFill
  extract_lets tenant len vf d0
  have h0 : d0.guarded = d.guarded := by
    simp only [d0]; (repeat' split) <;> simp_all
  split
  all_goals
    rename_i h
    replace h := congrArg (fun q => q.1.guarded) h
    simp_all

@[simp] theorem guarded_endStep (d : Device) (n : ℕ) (e : StepEnd)  : (Device.endStep d n e).guarded = d.guarded := by
  unfold Device.endStep
  (repeat' split) <;> simp_all

@[simp] theorem guarded_refuse (d : Device) (n : ℕ) (st : Status) (detail : ℕ)  : (Device.refuse d n st detail).guarded = d.guarded := by
  unfold Device.refuse
  (repeat' split) <;> simp_all

@[simp] theorem guarded_lookupStored (d : Device) (n : ℕ) (b : Bool) (vault : Bool) (id : ℕ) (version : ℕ)  : (Device.lookupStored d n b vault id version).guarded = d.guarded := by
  unfold Device.lookupStored
  (repeat' split) <;> (try simp_all) <;> repeat' (first | split | intro _ | simp_all | (rename_i h; replace h := congrArg (fun q => q.1.guarded) h; simp_all; done) | apply guarded_onCommand | apply guarded_onIdle | apply guarded_onWrite | apply guarded_softStart | (refine (guarded_foldl _ ?_ _ _).trans ?_))

@[simp] theorem guarded_requestKey (d : Device) (n : ℕ) (b : Bool)  : (Device.requestKey d n b).guarded = d.guarded := by
  unfold Device.requestKey
  (repeat' split) <;> simp_all

@[simp] theorem guarded_writeArea (d : Device) (pair : ℕ) (area : ℕ) (place : ℕ) (bytes : Sys2Proof.Bytes)  : (Device.writeArea d pair area place bytes).guarded = d.guarded := by
  unfold Device.writeArea
  (repeat' split) <;> simp_all

@[simp] theorem guarded_writeSuper (d : Device) (p : ℕ)  : (Device.writeSuper d p).guarded = d.guarded := by
  unfold Device.writeSuper
  (repeat' split) <;> simp_all

@[simp] theorem guarded_deallocate (d : Device) (k : ℕ)  : (Device.deallocate d k).guarded = d.guarded := by
  unfold Device.deallocate
  (repeat' split) <;> simp_all

@[simp] theorem guarded_writeHeader (d : Device) (k : ℕ) (g : Seg)  : (Device.writeHeader d k g).guarded = d.guarded := by
  unfold Device.writeHeader
  (repeat' split) <;> simp_all

@[simp] theorem guarded_storeStep (d : Device) (f : Store → Store)  : (Device.storeStep d f).guarded = d.guarded := by
  unfold Device.storeStep
  extract_lets d1 d2
  have h2 : d2.guarded = d.guarded := by
    simp only [d2]
    split
    · rfl
    · exact (guarded_raiseInt _ _ _ _).trans rfl
  split
  · exact h2
  · exact (guarded_raiseInt _ _ _ _).trans h2

@[simp] theorem guarded_setRing (d : Device) (v : ℕ) (r : Ring)  : (Device.setRing d v r).guarded = d.guarded := by
  unfold Device.setRing
  (repeat' split) <;> simp_all

@[simp] theorem guarded_recordUnit (d : Device) (x : Item) (status : ℕ) (c : Option Comp)  : (Device.recordUnit d x status c).guarded = d.guarded := by
  unfold Device.recordUnit
  (repeat' split) <;> simp_all

@[simp] theorem guarded_takeSeq (d : Device) (n : ℕ)  : (Device.takeSeq d n).guarded = d.guarded := by
  unfold Device.takeSeq
  (repeat' split) <;> simp_all

@[simp] theorem guarded_captureWrite (d : Device) (w : ℕ)  : (Device.captureWrite d w).guarded = d.guarded := by
  unfold Device.captureWrite
  (repeat' split) <;> simp_all

@[simp] theorem guarded_exportRefused (d : Device) (code : ℕ)  : (Device.exportRefused d code).guarded = d.guarded := by
  unfold Device.exportRefused
  (repeat' split) <;> simp_all

@[simp] theorem guarded_exportStart (d : Device)  : (Device.exportStart d).guarded = d.guarded := by
  unfold Device.exportStart
  (repeat' split) <;> simp_all

@[simp] theorem guarded_exportEnd (d : Device) (hostOk : Bool)  : (Device.exportEnd d hostOk).guarded = d.guarded := by
  unfold Device.exportEnd
  (repeat' split) <;> simp_all

@[simp] theorem guarded_setEngine (d : Device) (e : ℕ) (x : Engine)  : (Device.setEngine d e x).guarded = d.guarded := by
  unfold Device.setEngine
  (repeat' split) <;> simp_all

@[simp] theorem guarded_setPair (d : Device) (p : ℕ) (x : Pair)  : (Device.setPair d p x).guarded = d.guarded := by
  unfold Device.setPair
  (repeat' split) <;> simp_all

@[simp] theorem guarded_setGroup (d : Device) (g : ℕ) (x : Cluster)  : (Device.setGroup d g x).guarded = d.guarded := by
  unfold Device.setGroup
  (repeat' split) <;> simp_all

@[simp] theorem guarded_askYield (d : Device) (n : ℕ)  : (Device.askYield d n).guarded = d.guarded := by
  unfold Device.askYield
  (repeat' split) <;> simp_all

@[simp] theorem guarded_askYields (d : Device)  : (Device.askYields d).guarded = d.guarded := by
  unfold Device.askYields
  (repeat' split) <;> simp_all

@[simp] theorem guarded_startRun (d : Device) (n : ℕ) (u : RunUnit)  : (Device.startRun d n u).guarded = d.guarded := by
  unfold Device.startRun
  (repeat' split) <;> simp_all

end Sys2Proof.Machine
end

