-- ==== Sys2Proof/Laws/GuardedHost.lean ====
section
/-! SUPPORT. Guarded memories kept: the host queues, the lanes and the key cache. -/

namespace Sys2Proof.Machine

@[simp] theorem guarded_dropAccess (d : Device) (v : ℕ) (src : ℕ)  : (Device.dropAccess d v src).guarded = d.guarded := by
  unfold Device.dropAccess
  (repeat' split) <;> simp_all

@[simp] theorem guarded_requestOperands (d : Device) (n : ℕ)  : (Device.requestOperands d n).guarded = d.guarded := by
  unfold Device.requestOperands
  (repeat' split) <;> simp_all

@[simp] theorem guarded_openStep (d : Device) (n : ℕ)  : (Device.openStep d n).guarded = d.guarded := by
  unfold Device.openStep
  (repeat' split) <;> (try simp_all) <;> repeat' (first | split | intro _ | simp_all | (rename_i h; replace h := congrArg (fun q => q.1.guarded) h; simp_all; done) | apply guarded_onCommand | apply guarded_onIdle | apply guarded_onWrite | apply guarded_softStart | (refine (guarded_foldl _ ?_ _ _).trans ?_))

@[simp] theorem guarded_finishBundle (d : Device) (n : ℕ) (x : Item) (steps : List StepEnd)  : (Device.finishBundle d n x steps).guarded = d.guarded := by
  unfold Device.finishBundle
  (repeat' split) <;> simp_all

@[simp] theorem guarded_settleN (k : Nat) (d : Device) (n : Nat) : (Device.settleN k d n).guarded = d.guarded := by
  induction k generalizing d n with
  | zero => rfl
  | succ k ih =>
    unfold Device.settleN
    cases d.item n with
    | none => rfl
    | some x =>
      dsimp only
      split
      · rfl
      · split
        · split
          · simp
          · rw [guarded_ite, ih]
            simp
        · (repeat' split) <;> simp_all

@[simp] theorem guarded_settle (d : Device) (n : ℕ)  : (Device.settle d n).guarded = d.guarded := by
  unfold Device.settle
  (repeat' split) <;> simp_all

@[simp] theorem guarded_refuseAdmission (d : Device) (n : ℕ) (st : Status)  : (Device.refuseAdmission d n st).guarded = d.guarded := by
  unfold Device.refuseAdmission
  (repeat' split) <;> simp_all

@[simp] theorem guarded_admitItem (d : Device) (n : ℕ) (x : Item)  : (Device.admitItem d n x).guarded = d.guarded := by
  unfold Device.admitItem
  (repeat' split) <;> simp_all

@[simp] theorem guarded_deferItem (d : Device) (n : ℕ) (x : Item)  : (Device.deferItem d n x).guarded = d.guarded := by
  unfold Device.deferItem
  (repeat' split) <;> simp_all

@[simp] theorem guarded_admitTry (d : Device) (n : ℕ) (due : Bool)  : (Device.admitTry d n due).guarded = d.guarded := by
  unfold Device.admitTry
  (repeat' split) <;> simp_all

@[simp] theorem guarded_admitDeferred (d : Device)  : (Device.admitDeferred d).guarded = d.guarded := by
  unfold Device.admitDeferred
  (repeat' split) <;> simp_all

@[simp] theorem guarded_admitStart (d : Device) (n : ℕ) (x : Item)  : (Device.admitStart d n x).guarded = d.guarded := by
  unfold Device.admitStart
  (repeat' split) <;> simp_all

@[simp] theorem guarded_preAdmit (d : Device) (n : ℕ)  : (Device.preAdmit d n).guarded = d.guarded := by
  unfold Device.preAdmit
  (repeat' split) <;> simp_all

@[simp] theorem guarded_unfence (d : Device) (n : ℕ)  : (Device.unfence d n).guarded = d.guarded := by
  unfold Device.unfence
  (repeat' split) <;> simp_all

@[simp] theorem guarded_epochStep (d : Device) (n : ℕ)  : (Device.epochStep d n).guarded = d.guarded := by
  unfold Device.epochStep
  (repeat' split) <;> simp_all

@[simp] theorem guarded_epochChanged (d : Device)  : (Device.epochChanged d).guarded = d.guarded := by
  unfold Device.epochChanged
  (repeat' split) <;> (try simp_all) <;> repeat' (first | split | intro _ | simp_all | (rename_i h; replace h := congrArg (fun q => q.1.guarded) h; simp_all; done) | apply guarded_onCommand | apply guarded_onIdle | apply guarded_onWrite | apply guarded_softStart | (refine (guarded_foldl _ ?_ _ _).trans ?_))

@[simp] theorem guarded_serviceStep (d : Device) (n : ℕ)  : (Device.serviceStep d n).guarded = d.guarded := by
  unfold Device.serviceStep
  (repeat' split) <;> simp_all

@[simp] theorem guarded_checkItem (d : Device) (n : ℕ)  : (Device.checkItem d n).guarded = d.guarded := by
  unfold Device.checkItem
  (repeat' split) <;> simp_all

@[simp] theorem guarded_ingest (d : Device) (n : ℕ)  : (Device.ingest d n).guarded = d.guarded := by
  unfold Device.ingest
  (repeat' split) <;> simp_all

@[simp] theorem guarded_ingestAll (d : Device)  : (Device.ingestAll d).guarded = d.guarded := by
  unfold Device.ingestAll
  (repeat' split) <;> simp_all

@[simp] theorem guarded_accept (d : Device) (r : Route) (bytes : Sys2Proof.Bytes)  : (Device.accept d r bytes).guarded = d.guarded := by
  unfold Device.accept
  (repeat' split) <;> simp_all

@[simp] theorem guarded_windowWrite (d : Device) (v : ℕ) (q : ℕ) (k : ℕ) (off : ℕ) (data : Sys2Proof.Bytes)  : (Device.windowWrite d v q k off data).guarded = d.guarded := by
  unfold Device.windowWrite
  (repeat' split) <;> simp_all

@[simp] theorem guarded_tailDoorbell (d : Device) (v : ℕ) (q : ℕ) (be : BitVec 4) (value : Sys2Proof.Word)  : (Device.tailDoorbell d v q be value).guarded = d.guarded := by
  unfold Device.tailDoorbell
  (repeat' split) <;> simp_all

@[simp] theorem guarded_unholdWindow (d : Device) (v : ℕ) (q : ℕ)  : (Device.unholdWindow d v q).guarded = d.guarded := by
  unfold Device.unholdWindow
  (repeat' split) <;> simp_all

@[simp] theorem guarded_headDoorbell (d : Device) (v : ℕ) (q : ℕ) (be : BitVec 4) (value : Sys2Proof.Word)  : (Device.headDoorbell d v q be value).guarded = d.guarded := by
  unfold Device.headDoorbell
  (repeat' split) <;> simp_all

@[simp] theorem guarded_fetchIssue (d : Device) (v : ℕ) (q : ℕ)  : (Device.fetchIssue d v q).guarded = d.guarded := by
  unfold Device.fetchIssue
  (repeat' split) <;> simp_all

@[simp] theorem guarded_dropReads (d : Device) (v : ℕ) (q : ℕ)  : (Device.dropReads d v q).guarded = d.guarded := by
  unfold Device.dropReads
  (repeat' split) <;> simp_all

@[simp] theorem guarded_readCompletion (d : Device) (v : ℕ) (q : ℕ) (data : Sys2Proof.Bytes)  : (Device.readCompletion d v q data).guarded = d.guarded := by
  unfold Device.readCompletion
  (repeat' split) <;> (try simp_all) <;> repeat' (first | split | intro _ | simp_all | (rename_i h; replace h := congrArg (fun q => q.1.guarded) h; simp_all; done) | apply guarded_onCommand | apply guarded_onIdle | apply guarded_onWrite | apply guarded_softStart | (refine (guarded_foldl _ ?_ _ _).trans ?_))

@[simp] theorem guarded_readFailure (d : Device) (v : ℕ) (q : ℕ)  : (Device.readFailure d v q).guarded = d.guarded := by
  unfold Device.readFailure
  (repeat' split) <;> (try simp_all) <;> repeat' (first | split | intro _ | simp_all | (rename_i h; replace h := congrArg (fun q => q.1.guarded) h; simp_all; done) | apply guarded_onCommand | apply guarded_onIdle | apply guarded_onWrite | apply guarded_softStart | (refine (guarded_foldl _ ?_ _ _).trans ?_))

@[simp] theorem guarded_refuseBuffer (d : Device) (n : ℕ) (x : Item) (detail : ℕ)  : (Device.refuseBuffer d n x detail).guarded = d.guarded := by
  unfold Device.refuseBuffer
  (repeat' split) <;> simp_all

@[simp] theorem guarded_bufferEnd (d : Device) (n : ℕ) (data : Option Sys2Proof.Bytes)  : (Device.bufferEnd d n data).guarded = d.guarded := by
  unfold Device.bufferEnd
  (repeat' split) <;> (try simp_all) <;> repeat' (first | split | intro _ | simp_all | (rename_i h; replace h := congrArg (fun q => q.1.guarded) h; simp_all; done) | apply guarded_onCommand | apply guarded_onIdle | apply guarded_onWrite | apply guarded_softStart | (refine (guarded_foldl _ ?_ _ _).trans ?_))

@[simp] theorem guarded_deferDue (d : Device) (n : ℕ)  : (Device.deferDue d n).guarded = d.guarded := by
  unfold Device.deferDue
  (repeat' split) <;> simp_all

@[simp] theorem guarded_holdDue (d : Device) (n : ℕ)  : (Device.holdDue d n).guarded = d.guarded := by
  unfold Device.holdDue
  (repeat' split) <;> simp_all

@[simp] theorem guarded_postCompletion (d : Device) (n : ℕ)  : (Device.postCompletion d n).guarded = d.guarded := by
  unfold Device.postCompletion
  (repeat' split) <;> simp_all

@[simp] theorem guarded_setCluster (d : Device) (c : ℕ) (x : Cluster)  : (Device.setCluster d c x).guarded = d.guarded := by
  unfold Device.setCluster
  (repeat' split) <;> simp_all

@[simp] theorem guarded_quarantineCluster (d : Device) (c : ℕ) (cause : ℕ) (lane : ℕ)  : (Device.quarantineCluster d c cause lane).guarded = d.guarded := by
  unfold Device.quarantineCluster
  (repeat' split) <;> simp_all

@[simp] theorem guarded_markLane (d : Device) (c : ℕ) (l : ℕ) (bits : ℕ)  : (Device.markLane d c l bits).guarded = d.guarded := by
  unfold Device.markLane
  (repeat' split) <;> simp_all

@[simp] theorem guarded_checkFailure (d : Device) (c : ℕ) (l : ℕ)  : (Device.checkFailure d c l).guarded = d.guarded := by
  unfold Device.checkFailure
  (repeat' split) <;> simp_all

@[simp] theorem guarded_refuseOrDoom (d : Device) (n : ℕ) (st : Status) (detail : ℕ)  : (Device.refuseOrDoom d n st detail).guarded = d.guarded := by
  unfold Device.refuseOrDoom
  (repeat' split) <;> simp_all

@[simp] theorem guarded_withdraw (d : Device) (k : ℕ)  : (Device.withdraw d k).guarded = d.guarded := by
  unfold Device.withdraw
  (repeat' split) <;> simp_all

@[simp] theorem guarded_released (d : Device)  : (Device.released d).guarded = d.guarded := by
  unfold Device.released
  (repeat' split) <;> simp_all

@[simp] theorem guarded_chargeInternal (d : Device) (x : Item)  : (Device.chargeInternal d x).guarded = d.guarded := by
  unfold Device.chargeInternal
  (repeat' split) <;> simp_all

@[simp] theorem guarded_setLane (d : Device) (c : ℕ) (l : ℕ) (x : Lane)  : (Device.setLane d c l x).guarded = d.guarded := by
  unfold Device.setLane
  (repeat' split) <;> simp_all

@[simp] theorem guarded_startLane (d : Device) (n : ℕ) (c : ℕ) (l : ℕ) (x : Item) (t : TableVersion)  : (Device.startLane d n c l x t).guarded = d.guarded := by
  unfold Device.startLane
  (repeat' split) <;> simp_all

@[simp] theorem guarded_runLane (d : Device) (x : Item)  : (Device.runLane d x).1.guarded = d.guarded := by
  unfold Device.runLane
  (repeat' split) <;> simp_all

@[simp] theorem guarded_dispatchLane (d : Device) (tagOk : Bool)  : (Device.dispatchLane d tagOk).guarded = d.guarded := by
  unfold Device.dispatchLane
  (repeat' split) <;> simp_all

@[simp] theorem guarded_discardItem (d : Device) (n : ℕ)  : (Device.discardItem d n).guarded = d.guarded := by
  unfold Device.discardItem
  (repeat' split) <;> simp_all

@[simp] theorem guarded_releaseStaged (d : Device) (n : ℕ) (st : Staged)  : (Device.releaseStaged d n st).guarded = d.guarded := by
  unfold Device.releaseStaged
  (repeat' split) <;> simp_all

@[simp] theorem guarded_withhold (d : Device) (n : ℕ) (st : Status) (detail : ℕ)  : (Device.withhold d n st detail).guarded = d.guarded := by
  unfold Device.withhold
  (repeat' split) <;> simp_all

@[simp] theorem guarded_rerun (d : Device) (n : ℕ) (x : Item)  : (Device.rerun d n x).guarded = d.guarded := by
  unfold Device.rerun
  (repeat' split) <;> simp_all

@[simp] theorem guarded_laneGate (d : Device) (n : ℕ) (c : ℕ) (l : ℕ) (failed : Bool)  : (Device.laneGate d n c l failed).guarded = d.guarded := by
  unfold Device.laneGate
  (repeat' split) <;> simp_all

@[simp] theorem guarded_laneRunEnd (d : Device) (n : ℕ) (mismatches : ℕ) (countersOk : Bool)  : (Device.laneRunEnd d n mismatches countersOk).guarded = d.guarded := by
  unfold Device.laneRunEnd
  (repeat' split) <;> simp_all

@[simp] theorem guarded_failRuns (d : Device) (c : ℕ) (p : ℕ → Bool)  : (Device.failRuns d c p).guarded = d.guarded := by
  unfold Device.failRuns
  (repeat' split) <;> (try simp_all) <;> repeat' (first | split | intro _ | simp_all | (rename_i h; replace h := congrArg (fun q => q.1.guarded) h; simp_all; done) | apply guarded_onCommand | apply guarded_onIdle | apply guarded_onWrite | apply guarded_softStart | (refine (guarded_foldl _ ?_ _ _).trans ?_))

@[simp] theorem guarded_laneFailure (d : Device) (c : ℕ) (l : ℕ) (u : LaneUnit)  : (Device.laneFailure d c l u).guarded = d.guarded := by
  unfold Device.laneFailure
  (repeat' split) <;> simp_all

@[simp] theorem guarded_glitch (d : Device) (c : ℕ)  : (Device.glitch d c).guarded = d.guarded := by
  unfold Device.glitch
  (repeat' split) <;> simp_all

@[simp] theorem guarded_clusterWake (d : Device) (c : ℕ)  : (Device.clusterWake d c).guarded = d.guarded := by
  unfold Device.clusterWake
  (repeat' split) <;> simp_all

@[simp] theorem guarded_floodWake (d : Device)  : (Device.floodWake d).guarded = d.guarded := by
  unfold Device.floodWake
  (repeat' split) <;> simp_all

@[simp] theorem guarded_warmWake (d : Device)  : (Device.warmWake d).guarded = d.guarded := by
  unfold Device.warmWake
  (repeat' split) <;> simp_all

@[simp] theorem guarded_testWakes (d : Device)  : (Device.testWakes d).guarded = d.guarded := by
  unfold Device.testWakes
  (repeat' split) <;> simp_all

@[simp] theorem guarded_lcReleaseEnd (d : Device) (c : ℕ)  : (Device.lcReleaseEnd d c).guarded = d.guarded := by
  unfold Device.lcReleaseEnd
  (repeat' split) <;> simp_all

@[simp] theorem guarded_clusterWakeEnd (d : Device) (c : ℕ) (ok : Bool)  : (Device.clusterWakeEnd d c ok).guarded = d.guarded := by
  unfold Device.clusterWakeEnd
  (repeat' split) <;> simp_all

@[simp] theorem guarded_clusterIdleGate (d : Device) (c : ℕ)  : (Device.clusterIdleGate d c).guarded = d.guarded := by
  unfold Device.clusterIdleGate
  (repeat' split) <;> simp_all

@[simp] theorem guarded_clusterGated (d : Device) (c : ℕ)  : (Device.clusterGated d c).guarded = d.guarded := by
  unfold Device.clusterGated
  (repeat' split) <;> (try simp_all) <;> repeat' (first | split | intro _ | simp_all | (rename_i h; replace h := congrArg (fun q => q.1.guarded) h; simp_all; done) | apply guarded_onCommand | apply guarded_onIdle | apply guarded_onWrite | apply guarded_softStart | (refine (guarded_foldl _ ?_ _ _).trans ?_))

@[simp] theorem guarded_lcRelease (d : Device) (c : ℕ)  : (Device.lcRelease d c).guarded = d.guarded := by
  unfold Device.lcRelease
  (repeat' split) <;> simp_all

@[simp] theorem guarded_lcFailClear (d : Device) (c : ℕ) (half : ℕ) (bits : ℕ)  : (Device.lcFailClear d c half bits).guarded = d.guarded := by
  unfold Device.lcFailClear
  (repeat' split) <;> simp_all

@[simp] theorem guarded_lcReset (d : Device) (c : ℕ)  : (Device.lcReset d c).guarded = d.guarded := by
  unfold Device.lcReset
  (repeat' split) <;> simp_all

@[simp] theorem guarded_lcSoftReset (d : Device) (c : ℕ)  : (Device.lcSoftReset d c).guarded = d.guarded := by
  unfold Device.lcSoftReset
  (repeat' split) <;> simp_all

@[simp] theorem guarded_dispatchKeySide (d : Device)  : (Device.dispatchKeySide d).guarded = d.guarded := by
  unfold Device.dispatchKeySide
  (repeat' split) <;> simp_all

@[simp] theorem guarded_keySideEnd (d : Device) (n : ℕ) (mismatches : ℕ)  : (Device.keySideEnd d n mismatches).guarded = d.guarded := by
  unfold Device.keySideEnd
  (repeat' split) <;> simp_all

@[simp] theorem guarded_deliverKey (d : Device) (n : ℕ) (b : Bool) (e : Option KeyEntry)  : (Device.deliverKey d n b e).guarded = d.guarded := by
  unfold Device.deliverKey
  (repeat' split) <;> simp_all

@[simp] theorem guarded_refuseWaiters (d : Device) (r : KeyRun) (st : Status) (detail : ℕ)  : (Device.refuseWaiters d r st detail).guarded = d.guarded := by
  unfold Device.refuseWaiters
  (repeat' split) <;> simp_all

@[simp] theorem guarded_fillRun (d : Device) (k : ℕ) (r : KeyRun)  : (Device.fillRun d k r).guarded = d.guarded := by
  unfold Device.fillRun
  (repeat' split) <;> simp_all

@[simp] theorem guarded_fillAbsent (d : Device) (k : ℕ) (r : KeyRun)  : (Device.fillAbsent d k r).guarded = d.guarded := by
  unfold Device.fillAbsent
  (repeat' split) <;> simp_all

@[simp] theorem guarded_fillBad (d : Device) (k : ℕ) (r : KeyRun)  : (Device.fillBad d k r).guarded = d.guarded := by
  unfold Device.fillBad
  (repeat' split) <;> simp_all

@[simp] theorem guarded_fetchEnd (d : Device) (k : ℕ) (f : FetchEnd)  : (Device.fetchEnd d k f).guarded = d.guarded := by
  unfold Device.fetchEnd
  (repeat' split) <;> simp_all

@[simp] theorem guarded_slotRead (d : Device) (n : ℕ) (b : Bool) (k : ℕ) (r : KeyRun) (f : SlotRead)  : (Device.slotRead d n b k r f).guarded = d.guarded := by
  unfold Device.slotRead
  (repeat' split) <;> simp_all

@[simp] theorem guarded_keyArrival (d : Device) (n : ℕ) (x : Item) (b : Bool) (f : SlotRead)  : (Device.keyArrival d n x b f).guarded = d.guarded := by
  unfold Device.keyArrival
  (repeat' split) <;> (try simp_all) <;> repeat' (first | split | intro _ | simp_all | (rename_i h; replace h := congrArg (fun q => q.1.guarded) h; simp_all; done) | apply guarded_onCommand | apply guarded_onIdle | apply guarded_onWrite | apply guarded_softStart | (refine (guarded_foldl _ ?_ _ _).trans ?_))

@[simp] theorem guarded_giveBlock (d : Device) (n : ℕ)  : (Device.giveBlock d n).guarded = d.guarded := by
  unfold Device.giveBlock
  (repeat' split) <;> simp_all

@[simp] theorem guarded_queueRequest (d : Device) (q : RngReq)  : (Device.queueRequest d q).guarded = d.guarded := by
  unfold Device.queueRequest
  (repeat' split) <;> simp_all

@[simp] theorem guarded_operandArrival (d : Device) (n : ℕ) (which : ℕ) (f : SlotRead)  : (Device.operandArrival d n which f).guarded = d.guarded := by
  unfold Device.operandArrival
  (repeat' split) <;> simp_all

@[simp] theorem guarded_operandRefusal (d : Device) (n : ℕ) (which : ℕ) (why : Refuse)  : (Device.operandRefusal d n which why).guarded = d.guarded := by
  unfold Device.operandRefusal
  (repeat' split) <;> simp_all

@[simp] theorem guarded_sessionEnd (d : Device) (n : ℕ) (mismatches : ℕ)  : (Device.sessionEnd d n mismatches).guarded = d.guarded := by
  unfold Device.sessionEnd
  (repeat' split) <;> (try simp_all) <;> repeat' (first | split | intro _ | simp_all | (rename_i h; replace h := congrArg (fun q => q.1.guarded) h; simp_all; done) | apply guarded_onCommand | apply guarded_onIdle | apply guarded_onWrite | apply guarded_softStart | (refine (guarded_foldl _ ?_ _ _).trans ?_))

@[simp] theorem guarded_queueSweep (d : Device)  : (Device.queueSweep d).guarded = d.guarded := by
  unfold Device.queueSweep
  (repeat' split) <;> simp_all

@[simp] theorem guarded_sweepRun (failing : List ℕ) (d : Device) (e : ℕ × KeyRun)  : (Device.sweepRun failing d e).guarded = d.guarded := by
  unfold Device.sweepRun
  (repeat' split) <;> simp_all

@[simp] theorem guarded_sweepPass (d : Device) (failing : List ℕ)  : (Device.sweepPass d failing).guarded = d.guarded := by
  unfold Device.sweepPass
  (repeat' split) <;> simp_all

end Sys2Proof.Machine
end

