-- ==== Sys2Proof/Laws/GuardedStore.lean ====
section
/-! SUPPORT. Guarded memories kept: the fabric, the record store, the domain and migration. -/

namespace Sys2Proof.Machine

@[simp] theorem guarded_domStep (d : Device) (f : Domain → Domain)  : (Device.domStep d f).guarded = d.guarded := by
  unfold Device.domStep
  extract_lets d1 d2
  have h2 : d2.guarded = d.guarded := by
    simp only [d2]
    split
    · rfl
    · exact (guarded_raiseInt _ _ _ _).trans rfl
  (repeat' split)
  · exact (guarded_holdCause _ _ _).trans ((guarded_fault _ _).trans h2)
  · exact (guarded_holdCause _ _ _).trans h2
  · exact h2

@[simp] theorem guarded_emitFrame (d : Device) (p : ℕ) (m : Msg)  : (Device.emitFrame d p m).guarded = d.guarded := by
  unfold Device.emitFrame
  (repeat' split) <;> simp_all

@[simp] theorem guarded_transmit (d : Device) (m : Msg)  : (Device.transmit d m).guarded = d.guarded := by
  unfold Device.transmit
  (repeat' split) <;> (try simp_all) <;> repeat' (first | split | intro _ | simp_all | (rename_i h; replace h := congrArg (fun q => q.1.guarded) h; simp_all; done) | apply guarded_onCommand | apply guarded_onIdle | apply guarded_onWrite | apply guarded_softStart | (refine (guarded_foldl _ ?_ _ _).trans ?_))

@[simp] theorem guarded_send (d : Device) (m : Msg)  : (Device.send d m).guarded = d.guarded := by
  unfold Device.send
  (repeat' split) <;> simp_all

@[simp] theorem guarded_flushQueue (d : Device) (m : ℕ)  : (Device.flushQueue d m).guarded = d.guarded := by
  unfold Device.flushQueue
  (repeat' split) <;> simp_all

@[simp] theorem guarded_replicateTo (d : Device) (r : Rec) (m : ℕ)  : (Device.replicateTo d r m).guarded = d.guarded := by
  unfold Device.replicateTo
  (repeat' split) <;> simp_all

@[simp] theorem guarded_bankUpdate (d : Device) (f : Bank → Bank)  : (Device.bankUpdate d f).guarded = d.guarded := by
  unfold Device.bankUpdate
  (repeat' split) <;> simp_all

@[simp] theorem guarded_setCommit (d : Device) (c : Commit)  : (Device.setCommit d c).guarded = d.guarded := by
  unfold Device.setCommit
  (repeat' split) <;> simp_all

@[simp] theorem guarded_dropCommit (d : Device) (seq : ℕ)  : (Device.dropCommit d seq).guarded = d.guarded := by
  unfold Device.dropCommit
  (repeat' split) <;> simp_all

@[simp] theorem guarded_pursue (d : Device) (seq : ℕ) (again : Bool)  : (Device.pursue d seq again).guarded = d.guarded := by
  unfold Device.pursue
  (repeat' split) <;> simp_all

@[simp] theorem guarded_sealRecord (d : Device) (r : Rec)  : (Device.sealRecord d r).1.guarded = d.guarded := by
  unfold Device.sealRecord
  (repeat' split) <;> simp_all

@[simp] theorem guarded_releaseRecord (item : Option ℕ) (d0 : Device) (r : Rec)  : (Device.releaseRecord item d0 r).guarded = d0.guarded := by
  unfold Device.releaseRecord
  (repeat' split) <;> (try simp_all) <;> repeat' (first | split | intro _ | simp_all | (rename_i h; replace h := congrArg (fun q => q.1.guarded) h; simp_all; done) | apply guarded_onCommand | apply guarded_onIdle | apply guarded_onWrite | apply guarded_softStart | (refine (guarded_foldl _ ?_ _ _).trans ?_))

@[simp] theorem guarded_releaseRecords (d : Device) (item : Option ℕ) (rs : List Rec)  : (Device.releaseRecords d item rs).guarded = d.guarded := by
  unfold Device.releaseRecords
  (repeat' split) <;> simp_all

@[simp] theorem guarded_voidRecord (d : Device) (r : Rec) (holders : List ℕ)  : (Device.voidRecord d r holders).guarded = d.guarded := by
  unfold Device.voidRecord
  (repeat' split) <;> simp_all

@[simp] theorem guarded_copyForward (d : Device) (rs : List Rec)  : (Device.copyForward d rs).guarded = d.guarded := by
  unfold Device.copyForward
  (repeat' split) <;> simp_all

@[simp] theorem guarded_markMember (d : Device) (m : ℕ)  : (Device.markMember d m).guarded = d.guarded := by
  unfold Device.markMember
  (repeat' split) <;> simp_all

@[simp] theorem guarded_clearMark (d : Device) (m : ℕ)  : (Device.clearMark d m).guarded = d.guarded := by
  unfold Device.clearMark
  (repeat' split) <;> simp_all

@[simp] theorem guarded_setSeg (d : Device) (k : ℕ) (g : Seg)  : (Device.setSeg d k g).guarded = d.guarded := by
  unfold Device.setSeg
  (repeat' split) <;> simp_all

@[simp] theorem guarded_openSegment (d : Device) (pair : ℕ) (n : ℕ)  : (Device.openSegment d pair n).guarded = d.guarded := by
  unfold Device.openSegment
  (repeat' split) <;> simp_all

@[simp] theorem guarded_openNext (d : Device) (last : ℕ)  : (Device.openNext d last).guarded = d.guarded := by
  unfold Device.openNext
  (repeat' split) <;> simp_all

@[simp] theorem guarded_jnlEnd (d : Device) (aborted : Bool) (code : ℕ)  : (Device.jnlEnd d aborted code).guarded = d.guarded := by
  unfold Device.jnlEnd
  (repeat' split) <;> simp_all

@[simp] theorem guarded_jnlStart (d : Device) (o : JnlOp) (cmd : Bool)  : (Device.jnlStart d o cmd).guarded = d.guarded := by
  unfold Device.jnlStart
  (repeat' split) <;> simp_all

@[simp] theorem guarded_queueStep (d : Device) (o : JnlOp)  : (Device.queueStep d o).guarded = d.guarded := by
  unfold Device.queueStep
  (repeat' split) <;> simp_all

@[simp] theorem guarded_startScrub (d : Device) (cmd : Bool)  : (Device.startScrub d cmd).guarded = d.guarded := by
  unfold Device.startScrub
  (repeat' split) <;> simp_all

@[simp] theorem guarded_startCompaction (d : Device) (cmd : Bool)  : (Device.startCompaction d cmd).guarded = d.guarded := by
  unfold Device.startCompaction
  (repeat' split) <;> simp_all

@[simp] theorem guarded_autoCompaction (d : Device)  : (Device.autoCompaction d).guarded = d.guarded := by
  unfold Device.autoCompaction
  (repeat' split) <;> simp_all

@[simp] theorem guarded_commitItem (d : Device) (n : ℕ)  : (Device.commitItem d n).guarded = d.guarded := by
  unfold Device.commitItem
  (repeat' split) <;> simp_all

@[simp] theorem guarded_commitNotice (d : Device) (n : ℕ)  : (Device.commitNotice d n).guarded = d.guarded := by
  unfold Device.commitNotice
  (repeat' split) <;> simp_all

@[simp] theorem guarded_ceremonyCommit (d : Device) (c : Commit)  : (Device.ceremonyCommit d c).guarded = d.guarded := by
  unfold Device.ceremonyCommit
  (repeat' split) <;> simp_all

@[simp] theorem guarded_markCommitted (d : Device) (c : Commit)  : (Device.markCommitted d c).guarded = d.guarded := by
  unfold Device.markCommitted
  (repeat' split) <;> simp_all

@[simp] theorem guarded_recordCommitted (d : Device) (seq : ℕ)  : (Device.recordCommitted d seq).guarded = d.guarded := by
  unfold Device.recordCommitted
  (repeat' split) <;> simp_all

@[simp] theorem guarded_commitLate (d : Device) (seq : ℕ)  : (Device.commitLate d seq).guarded = d.guarded := by
  unfold Device.commitLate
  (repeat' split) <;> simp_all

@[simp] theorem guarded_localWrite (d : Device)  : (Device.localWrite d).guarded = d.guarded := by
  unfold Device.localWrite
  (repeat' split) <;> simp_all

@[simp] theorem guarded_indexRecord (d : Device) (r : Rec)  : (Device.indexRecord d r).guarded = d.guarded := by
  unfold Device.indexRecord
  (repeat' split) <;> simp_all

@[simp] theorem guarded_landWrite (d : Device)  : (Device.landWrite d).guarded = d.guarded := by
  unfold Device.landWrite
  (repeat' split) <;> simp_all

@[simp] theorem guarded_dropSuperseded (d : Device) (r : Rec)  : (Device.dropSuperseded d r).guarded = d.guarded := by
  unfold Device.dropSuperseded
  (repeat' split) <;> simp_all

@[simp] theorem guarded_noteState (d : Device) (was : ℕ)  : (Device.noteState d was).guarded = d.guarded := by
  unfold Device.noteState
  (repeat' split) <;> simp_all

@[simp] theorem guarded_checkFull (d : Device)  : (Device.checkFull d).guarded = d.guarded := by
  unfold Device.checkFull
  (repeat' split) <;> simp_all

@[simp] theorem guarded_abandonCommit (d : Device) (c : Commit)  : (Device.abandonCommit d c).guarded = d.guarded := by
  unfold Device.abandonCommit
  (repeat' split) <;> (try simp_all) <;> repeat' (first | split | intro _ | simp_all | (rename_i h; replace h := congrArg (fun q => q.1.guarded) h; simp_all; done) | apply guarded_onCommand | apply guarded_onIdle | apply guarded_onWrite | apply guarded_softStart | (refine (guarded_foldl _ ?_ _ _).trans ?_))

@[simp] theorem guarded_becomeReadOnly (d : Device)  : (Device.becomeReadOnly d).guarded = d.guarded := by
  unfold Device.becomeReadOnly
  (repeat' split) <;> simp_all

@[simp] theorem guarded_failPort (d : Device) (p : ℕ)  : (Device.failPort d p).guarded = d.guarded := by
  unfold Device.failPort
  (repeat' split) <;> simp_all

@[simp] theorem guarded_fuaFailure (d : Device) (p : ℕ)  : (Device.fuaFailure d p).guarded = d.guarded := by
  unfold Device.fuaFailure
  (repeat' split) <;> simp_all

@[simp] theorem guarded_setRead (d : Device) (r : PeerRead)  : (Device.setRead d r).guarded = d.guarded := by
  unfold Device.setRead
  (repeat' split) <;> simp_all

@[simp] theorem guarded_dropRead (d : Device) (k : ℕ)  : (Device.dropRead d k).guarded = d.guarded := by
  unfold Device.dropRead
  (repeat' split) <;> simp_all

@[simp] theorem guarded_probeAbsent (d : Device) (n : ℕ) (bad : Bool)  : (Device.probeAbsent d n bad).guarded = d.guarded := by
  unfold Device.probeAbsent
  (repeat' split) <;> simp_all

@[simp] theorem guarded_probeFound (d : Device) (n : ℕ) (recs : List Rec)  : (Device.probeFound d n recs).guarded = d.guarded := by
  unfold Device.probeFound
  (repeat' split) <;> (try simp_all) <;> repeat' (first | split | intro _ | simp_all | (rename_i h; replace h := congrArg (fun q => q.1.guarded) h; simp_all; done) | apply guarded_onCommand | apply guarded_onIdle | apply guarded_onWrite | apply guarded_softStart | (refine (guarded_foldl _ ?_ _ _).trans ?_))

@[simp] theorem guarded_readAbsent (d : Device) (r : PeerRead)  : (Device.readAbsent d r).guarded = d.guarded := by
  unfold Device.readAbsent
  (repeat' split) <;> (try simp_all) <;> repeat' (first | split | intro _ | simp_all | (rename_i h; replace h := congrArg (fun q => q.1.guarded) h; simp_all; done) | apply guarded_onCommand | apply guarded_onIdle | apply guarded_onWrite | apply guarded_softStart | (refine (guarded_foldl _ ?_ _ _).trans ?_))

@[simp] theorem guarded_readNext (d : Device) (r : PeerRead)  : (Device.readNext d r).guarded = d.guarded := by
  unfold Device.readNext
  (repeat' split) <;> simp_all

@[simp] theorem guarded_peerRead (d : Device) (k : ℕ) (i : Ident) (bad : Bool)  : (Device.peerRead d k i bad).guarded = d.guarded := by
  unfold Device.peerRead
  (repeat' split) <;> simp_all

@[simp] theorem guarded_probeReadEnd (d : Device) (n : ℕ) (f : ReadEnd)  : (Device.probeReadEnd d n f).guarded = d.guarded := by
  unfold Device.probeReadEnd
  (repeat' split) <;> simp_all

@[simp] theorem guarded_recordReadEnd (d : Device) (k : ℕ) (f : ReadEnd)  : (Device.recordReadEnd d k f).guarded = d.guarded := by
  unfold Device.recordReadEnd
  (repeat' split) <;> simp_all

@[simp] theorem guarded_retryRead (d : Device) (k : ℕ)  : (Device.retryRead d k).guarded = d.guarded := by
  unfold Device.retryRead
  (repeat' split) <;> (try simp_all) <;> repeat' (first | split | intro _ | simp_all | (rename_i h; replace h := congrArg (fun q => q.1.guarded) h; simp_all; done) | apply guarded_onCommand | apply guarded_onIdle | apply guarded_onWrite | apply guarded_softStart | (refine (guarded_foldl _ ?_ _ _).trans ?_))

@[simp] theorem guarded_indexCheckpoint (d : Device)  : (Device.indexCheckpoint d).guarded = d.guarded := by
  unfold Device.indexCheckpoint
  (repeat' split) <;> simp_all

@[simp] theorem guarded_jnlCommand (d : Device) (o : JnlOp) (f : Device → Device) (hf : ∀ x0, (f x0).guarded = x0.guarded) : (Device.jnlCommand d o f).guarded = d.guarded := by
  unfold Device.jnlCommand
  (repeat' split) <;> simp_all

@[simp] theorem guarded_sweepCommand (d : Device) (o : JnlOp) (start : Device → Device) (hstart : ∀ x0, (start x0).guarded = x0.guarded) : (Device.sweepCommand d o start).guarded = d.guarded := by
  unfold Device.sweepCommand
  (repeat' split) <;> simp_all

@[simp] theorem guarded_scrubTimer (d : Device)  : (Device.scrubTimer d).guarded = d.guarded := by
  unfold Device.scrubTimer
  (repeat' split) <;> simp_all

@[simp] theorem guarded_scrubEnd (d : Device)  : (Device.scrubEnd d).guarded = d.guarded := by
  unfold Device.scrubEnd
  (repeat' split) <;> simp_all

@[simp] theorem guarded_eraseSegment (d : Device) (k : ℕ)  : (Device.eraseSegment d k).guarded = d.guarded := by
  unfold Device.eraseSegment
  (repeat' split) <;> simp_all

@[simp] theorem guarded_compactStep (d : Device)  : (Device.compactStep d).guarded = d.guarded := by
  unfold Device.compactStep
  (repeat' split) <;> simp_all

@[simp] theorem guarded_compactionEnd (d : Device)  : (Device.compactionEnd d).guarded = d.guarded := by
  unfold Device.compactionEnd
  (repeat' split) <;> simp_all

@[simp] theorem guarded_scrubStep (d : Device)  : (Device.scrubStep d).guarded = d.guarded := by
  unfold Device.scrubStep
  (repeat' split) <;> simp_all

@[simp] theorem guarded_adopt (d : Device)  : (Device.adopt d).guarded = d.guarded := by
  unfold Device.adopt
  (repeat' split) <;> simp_all

@[simp] theorem guarded_adoptSuper (d : Device) (p : ℕ) (code : ℕ)  : (Device.adoptSuper d p code).guarded = d.guarded := by
  unfold Device.adoptSuper
  (repeat' split) <;> simp_all

@[simp] theorem guarded_adoptEnd (d : Device) (code : ℕ)  : (Device.adoptEnd d code).guarded = d.guarded := by
  unfold Device.adoptEnd
  (repeat' split) <;> simp_all

@[simp] theorem guarded_format (d : Device)  : (Device.format d).guarded = d.guarded := by
  unfold Device.format
  (repeat' split) <;> simp_all

@[simp] theorem guarded_formatStore (d : Device)  : (Device.formatStore d).guarded = d.guarded := by
  unfold Device.formatStore
  (repeat' split) <;> simp_all

@[simp] theorem guarded_formatEnd (d : Device) (code : ℕ)  : (Device.formatEnd d code).guarded = d.guarded := by
  unfold Device.formatEnd
  (repeat' split) <;> simp_all

@[simp] theorem guarded_jnlReset (d : Device)  : (Device.jnlReset d).guarded = d.guarded := by
  unfold Device.jnlReset
  (repeat' split) <;> simp_all

@[simp] theorem guarded_jnlSoftReset (d : Device)  : (Device.jnlSoftReset d).guarded = d.guarded := by
  unfold Device.jnlSoftReset
  (repeat' split) <;> simp_all

@[simp] theorem guarded_answerEpoch (d : Device) (m : Msg) (status : ℕ)  : (Device.answerEpoch d m status).guarded = d.guarded := by
  unfold Device.answerEpoch
  (repeat' split) <;> simp_all

@[simp] theorem guarded_heard (d : Device) (p : ℕ) (m : Msg)  : (Device.heard d p m).guarded = d.guarded := by
  unfold Device.heard
  (repeat' split) <;> simp_all

@[simp] theorem guarded_graced (d : Device) (m : Msg) (f : Device → Device) (hf : ∀ x0, (f x0).guarded = x0.guarded) : (Device.graced d m f).guarded = d.guarded := by
  unfold Device.graced
  (repeat' split) <;> simp_all

@[simp] theorem guarded_receive (d : Device) (p : ℕ) (m : Msg) (f : Device → Device) (hf : ∀ x0, (f x0).guarded = x0.guarded) : (Device.receive d p m f).guarded = d.guarded := by
  unfold Device.receive
  (repeat' split) <;> simp_all

@[simp] theorem guarded_askHold (d : Device) (r : Rec) (why : AskWhy) (members : List ℕ)  : (Device.askHold d r why members).guarded = d.guarded := by
  unfold Device.askHold
  (repeat' split) <;> simp_all

@[simp] theorem guarded_dropAsk (d : Device) (a : HoldAsk)  : (Device.dropAsk d a).guarded = d.guarded := by
  unfold Device.dropAsk
  (repeat' split) <;> simp_all

@[simp] theorem guarded_endMoved (d : Device) (c : Commit) (committed : Bool)  : (Device.endMoved d c committed).guarded = d.guarded := by
  unfold Device.endMoved
  (repeat' split) <;> simp_all

@[simp] theorem guarded_settleMoved (d : Device) (c : Commit)  : (Device.settleMoved d c).guarded = d.guarded := by
  unfold Device.settleMoved
  (repeat' split) <;> simp_all

@[simp] theorem guarded_settleAsk (d : Device) (a : HoldAsk)  : (Device.settleAsk d a).guarded = d.guarded := by
  unfold Device.settleAsk
  (repeat' split) <;> (try simp_all) <;> repeat' (first | split | intro _ | simp_all | (rename_i h; replace h := congrArg (fun q => q.1.guarded) h; simp_all; done) | apply guarded_onCommand | apply guarded_onIdle | apply guarded_onWrite | apply guarded_softStart | (refine (guarded_foldl _ ?_ _ _).trans ?_))

@[simp] theorem guarded_settleAsks (d : Device) (p : HoldAsk → Bool)  : (Device.settleAsks d p).guarded = d.guarded := by
  unfold Device.settleAsks
  (repeat' split) <;> simp_all

@[simp] theorem guarded_startResync (d : Device) (cmd : Bool)  : (Device.startResync d cmd).guarded = d.guarded := by
  unfold Device.startResync
  (repeat' split) <;> simp_all

@[simp] theorem guarded_endResync (d : Device) (aborted : Bool)  : (Device.endResync d aborted).guarded = d.guarded := by
  unfold Device.endResync
  (repeat' split) <;> simp_all

@[simp] theorem guarded_resyncEnd (d : Device)  : (Device.resyncEnd d).guarded = d.guarded := by
  unfold Device.resyncEnd
  (repeat' split) <;> simp_all

@[simp] theorem guarded_domCommand (d : Device) (bit : ℕ) (f : Device → Device) (hf : ∀ x0, (f x0).guarded = x0.guarded) : (Device.domCommand d bit f).guarded = d.guarded := by
  unfold Device.domCommand
  (repeat' split) <;> simp_all

@[simp] theorem guarded_resyncCommand (d : Device)  : (Device.resyncCommand d).guarded = d.guarded := by
  unfold Device.resyncCommand
  (repeat' split) <;> (try simp_all) <;> repeat' (first | split | intro _ | simp_all | (rename_i h; replace h := congrArg (fun q => q.1.guarded) h; simp_all; done) | apply guarded_onCommand | apply guarded_onIdle | apply guarded_onWrite | apply guarded_softStart | apply guarded_domCommand | (refine (guarded_foldl _ ?_ _ _).trans ?_))

@[simp] theorem guarded_resyncDigest (d : Device) (m : Msg)  : (Device.resyncDigest d m).guarded = d.guarded := by
  unfold Device.resyncDigest
  (repeat' split) <;> simp_all

@[simp] theorem guarded_replicateIn (d : Device) (m : Msg)  : (Device.replicateIn d m).guarded = d.guarded := by
  unfold Device.replicateIn
  (repeat' split) <;> simp_all

@[simp] theorem guarded_ackFrom (d : Device) (m : Msg) (src : ℕ)  : (Device.ackFrom d m src).guarded = d.guarded := by
  unfold Device.ackFrom
  (repeat' split) <;> (try simp_all) <;> repeat' (first | split | intro _ | simp_all | (rename_i h; replace h := congrArg (fun q => q.1.guarded) h; simp_all; done) | apply guarded_onCommand | apply guarded_onIdle | apply guarded_onWrite | apply guarded_softStart | apply guarded_domCommand | (refine (guarded_foldl _ ?_ _ _).trans ?_))

@[simp] theorem guarded_forward (d : Device) (m : Msg) (target : ℕ)  : (Device.forward d m target).guarded = d.guarded := by
  unfold Device.forward
  (repeat' split) <;> (try simp_all) <;> repeat' (first | split | intro _ | simp_all | (rename_i h; replace h := congrArg (fun q => q.1.guarded) h; simp_all; done) | apply guarded_onCommand | apply guarded_onIdle | apply guarded_onWrite | apply guarded_softStart | apply guarded_domCommand | (refine (guarded_foldl _ ?_ _ _).trans ?_))

@[simp] theorem guarded_toStub (d : Device) (m : Msg) (f : Device → Device) (hf : ∀ x0, (f x0).guarded = x0.guarded) : (Device.toStub d m f).guarded = d.guarded := by
  unfold Device.toStub
  (repeat' split) <;> simp_all

@[simp] theorem guarded_ackIn (d : Device) (m : Msg)  : (Device.ackIn d m).guarded = d.guarded := by
  unfold Device.ackIn
  (repeat' split) <;> simp_all

@[simp] theorem guarded_nakIn (d : Device) (m : Msg)  : (Device.nakIn d m).guarded = d.guarded := by
  unfold Device.nakIn
  (repeat' split) <;> (try simp_all) <;> repeat' (first | split | intro _ | simp_all | (rename_i h; replace h := congrArg (fun q => q.1.guarded) h; simp_all; done) | apply guarded_onCommand | apply guarded_onIdle | apply guarded_onWrite | apply guarded_softStart | apply guarded_domCommand | apply guarded_toStub | (refine (guarded_foldl _ ?_ _ _).trans ?_))

@[simp] theorem guarded_readIn (d : Device) (m : Msg)  : (Device.readIn d m).guarded = d.guarded := by
  unfold Device.readIn
  (repeat' split) <;> simp_all

@[simp] theorem guarded_importFound (d : Device) (k : ℕ) : (Device.importFound d k).guarded = d.guarded := by
  unfold Device.importFound
  simp_all

@[simp] theorem guarded_fillFromPeers (d : Device) (r : PeerRead)  : (Device.fillFromPeers d r).guarded = d.guarded := by
  unfold Device.fillFromPeers
  (repeat' split) <;> (try simp_all) <;> repeat' (first | split | intro _ | simp_all | (rename_i h; replace h := congrArg (fun q => q.1.guarded) h; simp_all; done) | apply guarded_onCommand | apply guarded_onIdle | apply guarded_onWrite | apply guarded_softStart | apply guarded_domCommand | apply guarded_toStub | (refine (guarded_foldl _ ?_ _ _).trans ?_))

@[simp] theorem guarded_readAnswer (m : Msg) (d : Device) (r : PeerRead)  : (Device.readAnswer m d r).guarded = d.guarded := by
  unfold Device.readAnswer
  (repeat' split) <;> simp_all

@[simp] theorem guarded_readForwarded (d : Device) (w : Rec)  : (Device.readForwarded d w).guarded = d.guarded := by
  unfold Device.readForwarded
  extract_lets vault
  split
  · rfl
  · split
    · rfl
    · rename_i h
      replace h := congrArg (fun q => q.1.guarded) h
      simp only [guarded_makeRoom] at h
      extract_lets run
      split <;> simp [h]

@[simp] theorem guarded_readReplyIn (d : Device) (m : Msg)  : (Device.readReplyIn d m).guarded = d.guarded := by
  unfold Device.readReplyIn
  (repeat' split) <;> simp_all

@[simp] theorem guarded_holdQueryIn (d : Device) (m : Msg)  : (Device.holdQueryIn d m).guarded = d.guarded := by
  unfold Device.holdQueryIn
  (repeat' split) <;> simp_all

@[simp] theorem guarded_holdReplyIn (d : Device) (m : Msg)  : (Device.holdReplyIn d m).guarded = d.guarded := by
  unfold Device.holdReplyIn
  (repeat' split) <;> simp_all

@[simp] theorem guarded_originQueryIn (d : Device) (m : Msg)  : (Device.originQueryIn d m).guarded = d.guarded := by
  unfold Device.originQueryIn
  (repeat' split) <;> simp_all

@[simp] theorem guarded_originReplyIn (d : Device) (m : Msg)  : (Device.originReplyIn d m).guarded = d.guarded := by
  unfold Device.originReplyIn
  (repeat' split) <;> simp_all

@[simp] theorem guarded_writePrepared (d : Device) (p : Prepared)  : (Device.writePrepared d p).guarded = d.guarded := by
  unfold Device.writePrepared
  (repeat' split) <;> simp_all

@[simp] theorem guarded_writeView (d : Device) (n : Next) (tell : Bool)  : (Device.writeView d n tell).guarded = d.guarded := by
  unfold Device.writeView
  (repeat' split) <;> simp_all

@[simp] theorem guarded_countVote (d : Device) (n : Next) (src : ℕ) (ack : Bool)  : (Device.countVote d n src ack).guarded = d.guarded := by
  unfold Device.countVote
  (repeat' split) <;> simp_all

@[simp] theorem guarded_rollBack (d : Device) (p : ℕ)  : (Device.rollBack d p).guarded = d.guarded := by
  unfold Device.rollBack
  (repeat' split) <;> simp_all

@[simp] theorem guarded_prepareChange (d : Device)  : (Device.prepareChange d).guarded = d.guarded := by
  unfold Device.prepareChange
  (repeat' split) <;> simp_all

@[simp] theorem guarded_sendAck (d : Device) (n : Next)  : (Device.sendAck d n).guarded = d.guarded := by
  unfold Device.sendAck
  (repeat' split) <;> simp_all

@[simp] theorem guarded_prepareIn (d : Device) (m : Msg)  : (Device.prepareIn d m).guarded = d.guarded := by
  unfold Device.prepareIn
  (repeat' split) <;> (try simp_all) <;> repeat' (first | split | intro _ | simp_all | (rename_i h; replace h := congrArg (fun q => q.1.guarded) h; simp_all; done) | apply guarded_onCommand | apply guarded_onIdle | apply guarded_onWrite | apply guarded_softStart | apply guarded_domCommand | apply guarded_toStub | (refine (guarded_foldl _ ?_ _ _).trans ?_))

@[simp] theorem guarded_prepareResend (d : Device)  : (Device.prepareResend d).guarded = d.guarded := by
  unfold Device.prepareResend
  (repeat' split) <;> (try simp_all) <;> repeat' (first | split | intro _ | simp_all | (rename_i h; replace h := congrArg (fun q => q.1.guarded) h; simp_all; done) | apply guarded_onCommand | apply guarded_onIdle | apply guarded_onWrite | apply guarded_softStart | apply guarded_domCommand | apply guarded_toStub | (refine (guarded_foldl _ ?_ _ _).trans ?_))

@[simp] theorem guarded_prepareAckIn (d : Device) (m : Msg)  : (Device.prepareAckIn d m).guarded = d.guarded := by
  unfold Device.prepareAckIn
  (repeat' split) <;> simp_all

@[simp] theorem guarded_commitIn (d : Device) (m : Msg)  : (Device.commitIn d m).guarded = d.guarded := by
  unfold Device.commitIn
  (repeat' split) <;> simp_all

@[simp] theorem guarded_takeover (d : Device)  : (Device.takeover d).guarded = d.guarded := by
  unfold Device.takeover
  (repeat' split) <;> (try simp_all) <;> repeat' (first | split | intro _ | simp_all | (rename_i h; replace h := congrArg (fun q => q.1.guarded) h; simp_all; done) | apply guarded_onCommand | apply guarded_onIdle | apply guarded_onWrite | apply guarded_softStart | apply guarded_domCommand | apply guarded_toStub | (refine (guarded_foldl _ ?_ _ _).trans ?_))

@[simp] theorem guarded_recoverResend (d : Device)  : (Device.recoverResend d).guarded = d.guarded := by
  unfold Device.recoverResend
  (repeat' split) <;> simp_all

@[simp] theorem guarded_recoverAnswer (d : Device) (dst : ℕ) (x : Prepared)  : (Device.recoverAnswer d dst x).guarded = d.guarded := by
  unfold Device.recoverAnswer
  (repeat' split) <;> simp_all

@[simp] theorem guarded_recoverIn (d : Device) (m : Msg)  : (Device.recoverIn d m).guarded = d.guarded := by
  unfold Device.recoverIn
  (repeat' split) <;> simp_all

@[simp] theorem guarded_recoverReplyIn (d : Device) (m : Msg)  : (Device.recoverReplyIn d m).guarded = d.guarded := by
  unfold Device.recoverReplyIn
  (repeat' split) <;> simp_all

@[simp] theorem guarded_rollbackIn (d : Device) (m : Msg)  : (Device.rollbackIn d m).guarded = d.guarded := by
  unfold Device.rollbackIn
  (repeat' split) <;> simp_all

@[simp] theorem guarded_request (d : Device) (c : Change)  : (Device.request d c).guarded = d.guarded := by
  unfold Device.request
  (repeat' split) <;> simp_all

@[simp] theorem guarded_helloIn (d : Device) (m : Msg)  : (Device.helloIn d m).guarded = d.guarded := by
  unfold Device.helloIn
  (repeat' split) <;> (try simp_all) <;> repeat' (first | split | intro _ | simp_all | (rename_i h; replace h := congrArg (fun q => q.1.guarded) h; simp_all; done) | apply guarded_onCommand | apply guarded_onIdle | apply guarded_onWrite | apply guarded_softStart | apply guarded_domCommand | apply guarded_toStub | (refine (guarded_foldl _ ?_ _ _).trans ?_))

@[simp] theorem guarded_helloTimer (d : Device)  : (Device.helloTimer d).guarded = d.guarded := by
  unfold Device.helloTimer
  (repeat' split) <;> simp_all

@[simp] theorem guarded_heartbeatTimer (d : Device)  : (Device.heartbeatTimer d).guarded = d.guarded := by
  unfold Device.heartbeatTimer
  (repeat' split) <;> simp_all

@[simp] theorem guarded_reportIn (d : Device) (m : Msg)  : (Device.reportIn d m).guarded = d.guarded := by
  unfold Device.reportIn
  (repeat' split) <;> simp_all

@[simp] theorem guarded_reportTimer (d : Device)  : (Device.reportTimer d).guarded = d.guarded := by
  unfold Device.reportTimer
  (repeat' split) <;> simp_all

@[simp] theorem guarded_memberLost (d : Device) (m : ℕ)  : (Device.memberLost d m).guarded = d.guarded := by
  unfold Device.memberLost
  (repeat' split) <;> simp_all

@[simp] theorem guarded_otherPort (d : Device) (seq : ℕ)  : (Device.otherPort d seq).guarded = d.guarded := by
  unfold Device.otherPort
  (repeat' split) <;> simp_all

@[simp] theorem guarded_linkLoss (d : Device) (p : ℕ)  : (Device.linkLoss d p).guarded = d.guarded := by
  unfold Device.linkLoss
  (repeat' split) <;> simp_all

@[simp] theorem guarded_linkUp (d : Device) (p : ℕ)  : (Device.linkUp d p).guarded = d.guarded := by
  unfold Device.linkUp
  (repeat' split) <;> simp_all

@[simp] theorem guarded_unsecured (d : Device) (p : ℕ)  : (Device.unsecured d p).guarded = d.guarded := by
  unfold Device.unsecured
  (repeat' split) <;> simp_all

@[simp] theorem guarded_process (moves : Device → Msg → Device) (d : Device) (m : Msg) (hmoves : ∀ x0 x1, (moves x0 x1).guarded = x0.guarded) : (Device.process moves d m).guarded = d.guarded := by
  unfold Device.process
  (repeat' split) <;> simp_all

@[simp] theorem guarded_message (d : Device) (p : ℕ) (t : ℕ) (m : Msg) (f : Device → Device) (hf : ∀ x0, (f x0).guarded = x0.guarded) : (Device.message d p t m f).guarded = d.guarded := by
  unfold Device.message
  (repeat' split) <;> simp_all

@[simp] theorem guarded_gracedExpiry (d : Device) (src : ℕ) (seq : ℕ)  : (Device.gracedExpiry d src seq).guarded = d.guarded := by
  unfold Device.gracedExpiry
  (repeat' split) <;> simp_all

@[simp] theorem guarded_adoptRoot (d : Device) (root : Sys2Proof.Bytes) (epoch : ℕ)  : (Device.adoptRoot d root epoch).guarded = d.guarded := by
  unfold Device.adoptRoot
  (repeat' split) <;> simp_all

@[simp] theorem guarded_adoptEpoch (moves : Device → Msg → Device) (blobs : Device → Blob → Device) (d : Device) (n : Next) (hmoves : ∀ x0 x1, (moves x0 x1).guarded = x0.guarded) (hblobs : ∀ x0 x1, (blobs x0 x1).guarded = x0.guarded) : (Device.adoptEpoch moves blobs d n).guarded = d.guarded := by
  unfold Device.adoptEpoch
  extract_lets w gone changed d1 d2 d3 back d4 ready bready d5 d6 d7 d8 src d9
  have h1 : d1.guarded = d.guarded := by simp only [d1, guarded_raiseInt, guarded_domStep]
  have h2 : d2.guarded = d.guarded := by simp [d2, h1]
  have h3 : d3.guarded = d.guarded := by
    simp only [d3, guarded_epochChanged]
    refine (guarded_foldl _ ?_ _ _).trans h2
    intro d c; cases c <;> simp
  have h4 : d4.guarded = d.guarded := by simp [d4, h3]
  have h5 : d5.guarded = d.guarded := by simp only [d5, guarded_mapDom, h4]
  have h6 : d6.guarded = d.guarded := by
    refine (guarded_foldl _ ?_ _ _).trans h5
    intro d m; apply guarded_graced; intro d; exact guarded_process moves d m hmoves
  have h7 : d7.guarded = d.guarded := (guarded_foldl _ hblobs _ _).trans h6
  have h8 : d8.guarded = d.guarded := by simp [d8, h7]
  have h9 : d9.guarded = d.guarded := by simp only [d9]; split <;> simp [h8]
  (repeat' split)
  · refine (guarded_foldl _ ?_ _ _).trans h9
    intro d r; apply guarded_foldl; intro d m; simp
  · simp [h9]
  · exact h9

@[simp] theorem guarded_graceEnd (d : Device)  : (Device.graceEnd d).guarded = d.guarded := by
  unfold Device.graceEnd
  (repeat' split) <;> simp_all

@[simp] theorem guarded_applyK (d : Device)  : (Device.applyK d).guarded = d.guarded := by
  unfold Device.applyK
  (repeat' split) <;> simp_all

@[simp] theorem guarded_leave (d : Device)  : (Device.leave d).guarded = d.guarded := by
  unfold Device.leave
  (repeat' split) <;> simp_all

@[simp] theorem guarded_leaveEnd (d : Device)  : (Device.leaveEnd d).guarded = d.guarded := by
  unfold Device.leaveEnd
  (repeat' split) <;> simp_all

@[simp] theorem guarded_domReset (d : Device)  : (Device.domReset d).guarded = d.guarded := by
  unfold Device.domReset
  (repeat' split) <;> simp_all

@[simp] theorem guarded_migEnd (d : Device) (bit : ℕ) (v : ℕ) (code : ℕ)  : (Device.migEnd d bit v code).guarded = d.guarded := by
  unfold Device.migEnd
  (repeat' split) <;> simp_all

@[simp] theorem guarded_migCommand (d : Device) (bit : ℕ) (f : Device → Device) (hf : ∀ x0, (f x0).guarded = x0.guarded) : (Device.migCommand d bit f).guarded = d.guarded := by
  unfold Device.migCommand
  (repeat' split) <;> simp_all

@[simp] theorem guarded_freezeItems (d : Device) (v : ℕ)  : (Device.freezeItems d v).guarded = d.guarded := by
  unfold Device.freezeItems
  (repeat' split) <;> simp_all

@[simp] theorem guarded_freeze (d : Device)  : (Device.freeze d).guarded = d.guarded := by
  unfold Device.freeze
  (repeat' split) <;> simp_all

@[simp] theorem guarded_takeOpens (d : Device) (v : ℕ)  : (Device.takeOpens d v).1.guarded = d.guarded := by
  unfold Device.takeOpens
  (repeat' split) <;> simp_all

@[simp] theorem guarded_vfFrozen (d : Device) (v : ℕ)  : (Device.vfFrozen d v).guarded = d.guarded := by
  unfold Device.vfFrozen
  (repeat' split) <;> simp_all

@[simp] theorem guarded_save (d : Device)  : (Device.save d).guarded = d.guarded := by
  unfold Device.save
  (repeat' split) <;> (try simp_all) <;> repeat' (first | split | intro _ | simp_all | (rename_i h; replace h := congrArg (fun q => q.1.guarded) h; simp_all; done) | apply guarded_onCommand | apply guarded_onIdle | apply guarded_onWrite | apply guarded_softStart | apply guarded_domCommand | apply guarded_migCommand | apply guarded_toStub | (refine (guarded_foldl _ ?_ _ _).trans ?_))

@[simp] theorem guarded_placeBlob (d : Device) (b : Blob)  : (Device.placeBlob d b).guarded = d.guarded := by
  unfold Device.placeBlob
  (repeat' split) <;> simp_all

@[simp] theorem guarded_gracedBlob (d : Device) (b : Blob)  : (Device.gracedBlob d b).guarded = d.guarded := by
  unfold Device.gracedBlob
  (repeat' split) <;> simp_all

@[simp] theorem guarded_blobIn (d : Device) (p : ℕ) (b : Blob)  : (Device.blobIn d p b).guarded = d.guarded := by
  unfold Device.blobIn
  (repeat' split) <;> simp_all

@[simp] theorem guarded_blobAckIn (d : Device) (m : Msg)  : (Device.blobAckIn d m).guarded = d.guarded := by
  unfold Device.blobAckIn
  (repeat' split) <;> simp_all

@[simp] theorem guarded_restore (d : Device)  : (Device.restore d).guarded = d.guarded := by
  unfold Device.restore
  (repeat' split) <;> (try simp_all) <;> repeat' (first | split | intro _ | simp_all | (rename_i h; replace h := congrArg (fun q => q.1.guarded) h; simp_all; done) | apply guarded_onCommand | apply guarded_onIdle | apply guarded_onWrite | apply guarded_softStart | apply guarded_domCommand | apply guarded_migCommand | apply guarded_toStub | (refine (guarded_foldl _ ?_ _ _).trans ?_))

@[simp] theorem guarded_claimIn (d : Device) (m : Msg)  : (Device.claimIn d m).guarded = d.guarded := by
  unfold Device.claimIn
  (repeat' split) <;> simp_all

@[simp] theorem guarded_adoptItem (v : ℕ) (d : Device) (x : Item)  : (Device.adoptItem v d x).guarded = d.guarded := by
  unfold Device.adoptItem
  (repeat' split) <;> simp_all

@[simp] theorem guarded_adoptParked (v : ℕ) (d : Device) (x : Item)  : (Device.adoptParked v d x).guarded = d.guarded := by
  unfold Device.adoptParked
  (repeat' split) <;> simp_all

@[simp] theorem guarded_adoptOpen (v : ℕ) (d : Device) (o : Item × List Commit)  : (Device.adoptOpen v d o).guarded = d.guarded := by
  unfold Device.adoptOpen
  (repeat' split) <;> simp_all

@[simp] theorem guarded_restoreVf (d : Device) (v : ℕ) (slot : ℕ) (b : Blob)  : (Device.restoreVf d v slot b).guarded = d.guarded := by
  unfold Device.restoreVf
  (repeat' split) <;> simp_all

@[simp] theorem guarded_claimReplyIn (d : Device) (m : Msg)  : (Device.claimReplyIn d m).guarded = d.guarded := by
  unfold Device.claimReplyIn
  (repeat' split) <;> simp_all

@[simp] theorem guarded_claimTimeout (d : Device)  : (Device.claimTimeout d).guarded = d.guarded := by
  unfold Device.claimTimeout
  (repeat' split) <;> simp_all

@[simp] theorem guarded_unfreeze (d : Device)  : (Device.unfreeze d).guarded = d.guarded := by
  unfold Device.unfreeze
  (repeat' split) <;> (try simp_all) <;> repeat' (first | split | intro _ | simp_all | (rename_i h; replace h := congrArg (fun q => q.1.guarded) h; simp_all; done) | apply guarded_onCommand | apply guarded_onIdle | apply guarded_onWrite | apply guarded_softStart | apply guarded_domCommand | apply guarded_migCommand | apply guarded_toStub | (refine (guarded_foldl _ ?_ _ _).trans ?_))

@[simp] theorem guarded_discardBlob (d : Device)  : (Device.discardBlob d).guarded = d.guarded := by
  unfold Device.discardBlob
  (repeat' split) <;> simp_all

@[simp] theorem guarded_queryMoved (d : Device) (c : Commit)  : (Device.queryMoved d c).guarded = d.guarded := by
  unfold Device.queryMoved
  (repeat' split) <;> simp_all

@[simp] theorem guarded_stubExpiry (d : Device) (tenant : ℕ) (pgen : ℕ)  : (Device.stubExpiry d tenant pgen).guarded = d.guarded := by
  unfold Device.stubExpiry
  (repeat' split) <;> simp_all

@[simp] theorem guarded_moveIn (d : Device) (m : Msg)  : (Device.moveIn d m).guarded = d.guarded := by
  unfold Device.moveIn
  (repeat' split) <;> simp_all

@[simp] theorem guarded_viewWritten (d : Device)  : (Device.viewWritten d).guarded = d.guarded := by
  unfold Device.viewWritten
  (repeat' split) <;> simp_all

@[simp] theorem guarded_preparedWritten (d : Device)  : (Device.preparedWritten d).guarded = d.guarded := by
  unfold Device.preparedWritten
  (repeat' split) <;> simp_all

@[simp] theorem guarded_recordLanded (d : Device) (r : Rec)  : (Device.recordLanded d r).guarded = d.guarded := by
  unfold Device.recordLanded
  (repeat' split) <;> (try simp_all) <;> repeat' (first | split | intro _ | simp_all | (rename_i h; replace h := congrArg (fun q => q.1.guarded) h; simp_all; done) | apply guarded_onCommand | apply guarded_onIdle | apply guarded_onWrite | apply guarded_softStart | apply guarded_domCommand | apply guarded_migCommand | apply guarded_toStub | (refine (guarded_foldl _ ?_ _ _).trans ?_))

@[simp] theorem guarded_writeEnd (d : Device)  : (Device.writeEnd d).guarded = d.guarded := by
  unfold Device.writeEnd
  (repeat' split) <;> simp_all

end Sys2Proof.Machine
end

