-- ==== Sys2Proof/Laws/GuardedServices.lean ====
section
/-! SUPPORT. Guarded memories kept: the engines, the scheduler, tables and services. -/

namespace Sys2Proof.Machine

@[simp] theorem guarded_freePair (d : Device) (p : ℕ)  : (Device.freePair d p).guarded = d.guarded := by
  unfold Device.freePair
  (repeat' split) <;> simp_all

@[simp] theorem guarded_onEngines (d : Device) (es : List ℕ) (f : Device → ℕ → Device) (hf : ∀ x0 x1, (f x0 x1).guarded = x0.guarded) : (Device.onEngines d es f).guarded = d.guarded := by
  unfold Device.onEngines
  (repeat' split) <;> simp_all

@[simp] theorem guarded_quarantinePair (d : Device) (p : ℕ) (cause : ℕ)  : (Device.quarantinePair d p cause).guarded = d.guarded := by
  unfold Device.quarantinePair
  (repeat' split) <;> simp_all

@[simp] theorem guarded_pairMismatch (d : Device) (p : ℕ)  : (Device.pairMismatch d p).guarded = d.guarded := by
  unfold Device.pairMismatch
  (repeat' split) <;> simp_all

@[simp] theorem guarded_startPair (d : Device) (n : ℕ) (p : ℕ)  : (Device.startPair d n p).guarded = d.guarded := by
  unfold Device.startPair
  (repeat' split) <;> (try simp_all) <;> repeat' (first | split | intro _ | simp_all | (rename_i h; replace h := congrArg (fun q => q.1.guarded) h; simp_all; done) | apply guarded_onCommand | apply guarded_onIdle | apply guarded_onWrite | apply guarded_softStart | apply guarded_domCommand | apply guarded_migCommand | apply guarded_toStub | (refine (guarded_foldl _ ?_ _ _).trans ?_))

@[simp] theorem guarded_giveEngine (d : Device) (n : ℕ) (p : ℕ) (x : Item)  : (Device.giveEngine d n p x).guarded = d.guarded := by
  unfold Device.giveEngine
  (repeat' split) <;> simp_all

@[simp] theorem guarded_startEngine (d : Device) (n : ℕ) (p : ℕ) (x : Item)  : (Device.startEngine d n p x).guarded = d.guarded := by
  unfold Device.startEngine
  (repeat' split) <;> simp_all

@[simp] theorem guarded_dispatchEngine (d : Device)  : (Device.dispatchEngine d).guarded = d.guarded := by
  unfold Device.dispatchEngine
  (repeat' split) <;> simp_all

@[simp] theorem guarded_resume (d : Device) (n : ℕ) (x : Item)  : (Device.resume d n x).guarded = d.guarded := by
  unfold Device.resume
  (repeat' split) <;> simp_all

@[simp] theorem guarded_pairFree (d : Device) (p : ℕ)  : (Device.pairFree d p).guarded = d.guarded := by
  unfold Device.pairFree
  (repeat' split) <;> (try simp_all) <;> repeat' (first | split | intro _ | simp_all | (rename_i h; replace h := congrArg (fun q => q.1.guarded) h; simp_all; done) | apply guarded_onCommand | apply guarded_onIdle | apply guarded_onWrite | apply guarded_softStart | apply guarded_domCommand | apply guarded_migCommand | apply guarded_toStub | (refine (guarded_foldl _ ?_ _ _).trans ?_))

@[simp] theorem guarded_rerunEngine (d : Device) (n : ℕ) (x : Item)  : (Device.rerunEngine d n x).guarded = d.guarded := by
  unfold Device.rerunEngine
  (repeat' split) <;> simp_all

@[simp] theorem guarded_pairGate (d : Device) (n : ℕ) (p : ℕ) (failed : Bool) (st : Staged)  : (Device.pairGate d n p failed st).guarded = d.guarded := by
  unfold Device.pairGate
  (repeat' split) <;> simp_all

@[simp] theorem guarded_endGeneration (d : Device) (p : ℕ) (x : Item)  : (Device.endGeneration d p x).guarded = d.guarded := by
  unfold Device.endGeneration
  (repeat' split) <;> simp_all

@[simp] theorem guarded_abortGeneration (d : Device) (x : Item)  : (Device.abortGeneration d x).guarded = d.guarded := by
  unfold Device.abortGeneration
  (repeat' split) <;> simp_all

@[simp] theorem guarded_attemptLimit (d : Device) (n : ℕ)  : (Device.attemptLimit d n).guarded = d.guarded := by
  unfold Device.attemptLimit
  (repeat' split) <;> simp_all

@[simp] theorem guarded_engineFailure (d : Device) (e : ℕ) (unit : ℕ)  : (Device.engineFailure d e unit).guarded = d.guarded := by
  unfold Device.engineFailure
  (repeat' split) <;> (try simp_all) <;> repeat' (first | split | intro _ | simp_all | (rename_i h; replace h := congrArg (fun q => q.1.guarded) h; simp_all; done) | apply guarded_onCommand | apply guarded_onIdle | apply guarded_onWrite | apply guarded_softStart | apply guarded_domCommand | apply guarded_migCommand | apply guarded_toStub | (refine (guarded_foldl _ ?_ _ _).trans ?_))

@[simp] theorem guarded_restartJob (d : Device) (n : ℕ) (x : Item)  : (Device.restartJob d n x).guarded = d.guarded := by
  unfold Device.restartJob
  (repeat' split) <;> simp_all

@[simp] theorem guarded_yieldPoint (d : Device) (n : ℕ)  : (Device.yieldPoint d n).guarded = d.guarded := by
  unfold Device.yieldPoint
  (repeat' split) <;> simp_all

@[simp] theorem guarded_bnReleaseEnd (d : Device) (g : ℕ) (ok : Bool)  : (Device.bnReleaseEnd d g ok).guarded = d.guarded := by
  unfold Device.bnReleaseEnd
  (repeat' split) <;> simp_all

@[simp] theorem guarded_groupWakeFailed (d : Device) (g : ℕ)  : (Device.groupWakeFailed d g).guarded = d.guarded := by
  unfold Device.groupWakeFailed
  (repeat' split) <;> (try simp_all) <;> repeat' (first | split | intro _ | simp_all | (rename_i h; replace h := congrArg (fun q => q.1.guarded) h; simp_all; done) | apply guarded_onCommand | apply guarded_onIdle | apply guarded_onWrite | apply guarded_softStart | apply guarded_domCommand | apply guarded_migCommand | apply guarded_toStub | (refine (guarded_foldl _ ?_ _ _).trans ?_))

@[simp] theorem guarded_groupWakeEnd (d : Device) (g : ℕ) (ok : Bool)  : (Device.groupWakeEnd d g ok).guarded = d.guarded := by
  unfold Device.groupWakeEnd
  (repeat' split) <;> (try simp_all) <;> repeat' (first | split | intro _ | simp_all | (rename_i h; replace h := congrArg (fun q => q.1.guarded) h; simp_all; done) | apply guarded_onCommand | apply guarded_onIdle | apply guarded_onWrite | apply guarded_softStart | apply guarded_domCommand | apply guarded_migCommand | apply guarded_toStub | (refine (guarded_foldl _ ?_ _ _).trans ?_))

@[simp] theorem guarded_groupGated (d : Device) (g : ℕ)  : (Device.groupGated d g).guarded = d.guarded := by
  unfold Device.groupGated
  extract_lets x used
  split <;> simp

@[simp] theorem guarded_bnRelease (d : Device) (e : ℕ)  : (Device.bnRelease d e).guarded = d.guarded := by
  unfold Device.bnRelease
  (repeat' split) <;> simp_all

@[simp] theorem guarded_bnFailClear (d : Device) (e : ℕ) (bits : ℕ)  : (Device.bnFailClear d e bits).guarded = d.guarded := by
  unfold Device.bnFailClear
  (repeat' split) <;> simp_all

@[simp] theorem guarded_bnReset (d : Device) (e : ℕ)  : (Device.bnReset d e).guarded = d.guarded := by
  unfold Device.bnReset
  (repeat' split) <;> simp_all

@[simp] theorem guarded_bnResetEnd (d : Device) (e : ℕ)  : (Device.bnResetEnd d e).guarded = d.guarded := by
  unfold Device.bnResetEnd
  (repeat' split) <;> (try simp_all) <;> repeat' (first | split | intro _ | simp_all | (rename_i h; replace h := congrArg (fun q => q.1.guarded) h; simp_all; done) | apply guarded_onCommand | apply guarded_onIdle | apply guarded_onWrite | apply guarded_softStart | apply guarded_domCommand | apply guarded_migCommand | apply guarded_toStub | (refine (guarded_foldl _ ?_ _ _).trans ?_))

@[simp] theorem guarded_bnSoftReset (d : Device) (e : ℕ)  : (Device.bnSoftReset d e).guarded = d.guarded := by
  unfold Device.bnSoftReset
  (repeat' split) <;> simp_all

@[simp] theorem guarded_showCurves (d : Device)  : (Device.showCurves d).guarded = d.guarded := by
  unfold Device.showCurves
  (repeat' split) <;> simp_all

@[simp] theorem guarded_curveEnd (d : Device) (req : ℕ) (code : ℕ) (slot : ℕ)  : (Device.curveEnd d req code slot).guarded = d.guarded := by
  unfold Device.curveEnd
  (repeat' split) <;> simp_all

@[simp] theorem guarded_emptyCurves (d : Device)  : (Device.emptyCurves d).guarded = d.guarded := by
  unfold Device.emptyCurves
  (repeat' split) <;> simp_all

@[simp] theorem guarded_internalItem (d : Device) (w : Work) (c : ExecClass) (level : ℕ) (cycles : ℕ)  : (Device.internalItem d w c level cycles).guarded = d.guarded := by
  unfold Device.internalItem
  (repeat' split) <;> simp_all

@[simp] theorem guarded_coreItem (d : Device) (kind : ℕ)  : (Device.coreItem d kind).guarded = d.guarded := by
  unfold Device.coreItem
  (repeat' split) <;> simp_all

@[simp] theorem guarded_giveCore (d : Device) (n : ℕ) (x : Item) (c : ℕ)  : (Device.giveCore d n x c).guarded = d.guarded := by
  unfold Device.giveCore
  (repeat' split) <;> simp_all

@[simp] theorem guarded_dispatchCore (d : Device)  : (Device.dispatchCore d).guarded = d.guarded := by
  unfold Device.dispatchCore
  (repeat' split) <;> simp_all

@[simp] theorem guarded_coreReport (d : Device) (n : ℕ)  : (Device.coreReport d n).guarded = d.guarded := by
  unfold Device.coreReport
  (repeat' split) <;> simp_all

@[simp] theorem guarded_coreLate (d : Device) (n : ℕ)  : (Device.coreLate d n).guarded = d.guarded := by
  unfold Device.coreLate
  (repeat' split) <;> (try simp_all) <;> repeat' (first | split | intro _ | simp_all | (rename_i h; replace h := congrArg (fun q => q.1.guarded) h; simp_all; done) | apply guarded_onCommand | apply guarded_onIdle | apply guarded_onWrite | apply guarded_softStart | apply guarded_domCommand | apply guarded_migCommand | apply guarded_toStub | (refine (guarded_foldl _ ?_ _ _).trans ?_))

@[simp] theorem guarded_notAccepted (d : Device) (n : ℕ)  : (Device.notAccepted d n).guarded = d.guarded := by
  unfold Device.notAccepted
  (repeat' split) <;> simp_all

@[simp] theorem guarded_unreadable (d : Device) (n : ℕ)  : (Device.unreadable d n).guarded = d.guarded := by
  unfold Device.unreadable
  (repeat' split) <;> simp_all

@[simp] theorem guarded_rebuildEnd (d : Device) (c : ℕ) (delay : Bool)  : (Device.rebuildEnd d c delay).guarded = d.guarded := by
  unfold Device.rebuildEnd
  (repeat' split) <;> simp_all

@[simp] theorem guarded_retryDue (d : Device) (n : ℕ)  : (Device.retryDue d n).guarded = d.guarded := by
  unfold Device.retryDue
  (repeat' split) <;> (try simp_all) <;> repeat' (first | split | intro _ | simp_all | (rename_i h; replace h := congrArg (fun q => q.1.guarded) h; simp_all; done) | apply guarded_onCommand | apply guarded_onIdle | apply guarded_onWrite | apply guarded_softStart | apply guarded_domCommand | apply guarded_migCommand | apply guarded_toStub | (refine (guarded_foldl _ ?_ _ _).trans ?_))

@[simp] theorem guarded_sweepDue (d : Device) (k : ℕ)  : (Device.sweepDue d k).guarded = d.guarded := by
  unfold Device.sweepDue
  (repeat' split) <;> simp_all

@[simp] theorem guarded_releaseEntry (d : Device) (e : Delay)  : (Device.releaseEntry d e).guarded = d.guarded := by
  unfold Device.releaseEntry
  (repeat' split) <;> simp_all

@[simp] theorem guarded_releaseList (d : Device) (list : ℕ)  : (Device.releaseList d list).guarded = d.guarded := by
  unfold Device.releaseList
  (repeat' split) <;> simp_all

@[simp] theorem guarded_tickVf (d : Device) (v : ℕ) (x : Vf)  : (Device.tickVf d v x).guarded = d.guarded := by
  unfold Device.tickVf
  (repeat' split) <;> simp_all

@[simp] theorem guarded_settleAll (d : Device)  : (Device.settleAll d).guarded = d.guarded := by
  unfold Device.settleAll
  (repeat' split) <;> simp_all

@[simp] theorem guarded_doTick (d : Device) (aon : ℕ)  : (Device.doTick d aon).guarded = d.guarded := by
  unfold Device.doTick
  (repeat' split) <;> simp_all

@[simp] theorem guarded_showTables (d : Device)  : (Device.showTables d).guarded = d.guarded := by
  unfold Device.showTables
  (repeat' split) <;> simp_all

@[simp] theorem guarded_whereOf (d : Device) (w : Option ℕ)  : (Device.whereOf d w).1.guarded = d.guarded := by
  unfold Device.whereOf
  (repeat' split) <;> simp_all

@[simp] theorem guarded_tableEnd (d : Device) (req : ℕ) (code : ℕ) (w : Option ℕ)  : (Device.tableEnd d req code w).guarded = d.guarded := by
  unfold Device.tableEnd
  (repeat' split) <;> (try simp_all) <;> repeat' (first | split | intro _ | simp_all | (rename_i h; replace h := congrArg (fun q => q.1.guarded) h; simp_all; done) | apply guarded_onCommand | apply guarded_onIdle | apply guarded_onWrite | apply guarded_softStart | apply guarded_domCommand | apply guarded_migCommand | apply guarded_toStub | (refine (guarded_foldl _ ?_ _ _).trans ?_))

@[simp] theorem guarded_chargeLoad (d : Device)  : (Device.chargeLoad d).guarded = d.guarded := by
  unfold Device.chargeLoad
  (repeat' split) <;> simp_all

@[simp] theorem guarded_tableLoad (d : Device)  : (Device.tableLoad d).guarded = d.guarded := by
  unfold Device.tableLoad
  (repeat' split) <;> simp_all

@[simp] theorem guarded_keepTable (d : Device) (t : TableVersion) (image : Sys2Proof.Bytes)  : (Device.keepTable d t image).guarded = d.guarded := by
  unfold Device.keepTable
  (repeat' split) <;> simp_all

@[simp] theorem guarded_tableLoadEnd (d : Device)  : (Device.tableLoadEnd d).guarded = d.guarded := by
  unfold Device.tableLoadEnd
  (repeat' split) <;> simp_all

@[simp] theorem guarded_tableRetire (d : Device)  : (Device.tableRetire d).guarded = d.guarded := by
  unfold Device.tableRetire
  (repeat' split) <;> (try simp_all) <;> repeat' (first | split | intro _ | simp_all | (rename_i h; replace h := congrArg (fun q => q.1.guarded) h; simp_all; done) | apply guarded_onCommand | apply guarded_onIdle | apply guarded_onWrite | apply guarded_softStart | apply guarded_domCommand | apply guarded_migCommand | apply guarded_toStub | (refine (guarded_foldl _ ?_ _ _).trans ?_))

@[simp] theorem guarded_versionFree (d : Device) (k : ℕ)  : (Device.versionFree d k).guarded = d.guarded := by
  unfold Device.versionFree
  (repeat' split) <;> simp_all

@[simp] theorem guarded_tableReloadEnd (d : Device) (k : ℕ)  : (Device.tableReloadEnd d k).guarded = d.guarded := by
  unfold Device.tableReloadEnd
  (repeat' split) <;> simp_all

@[simp] theorem guarded_curveLoad (d : Device)  : (Device.curveLoad d).guarded = d.guarded := by
  unfold Device.curveLoad
  (repeat' split) <;> simp_all

@[simp] theorem guarded_curveLoadEnd (d : Device) (found : ℕ)  : (Device.curveLoadEnd d found).guarded = d.guarded := by
  unfold Device.curveLoadEnd
  split
  · rfl
  · extract_lets d0 code d1
    split
    · exact (guarded_curveEnd _ _ _ _).trans rfl
    · exact (guarded_curveEnd _ _ _ _).trans ((guarded_showCurves _).trans ((guarded_releaseRecords _ _ _).trans rfl))

@[simp] theorem guarded_curveRetire (d : Device)  : (Device.curveRetire d).guarded = d.guarded := by
  unfold Device.curveRetire
  (repeat' split) <;> (try simp_all) <;> repeat' (first | split | intro _ | simp_all | (rename_i h; replace h := congrArg (fun q => q.1.guarded) h; simp_all; done) | apply guarded_onCommand | apply guarded_onIdle | apply guarded_onWrite | apply guarded_softStart | apply guarded_domCommand | apply guarded_migCommand | apply guarded_toStub | (refine (guarded_foldl _ ?_ _ _).trans ?_))

@[simp] theorem guarded_stageIn (n : ℕ) (o : Device × Item × Staged) : (Device.stageIn n o).guarded = o.1.guarded := by
  unfold Device.stageIn
  have h1 := guarded_runLane o.1 o.2.1
  simp_all

@[simp] theorem guarded_stageOpt (d : Device) (n : ℕ) (p : Desc → Bool) (f : Device → Item → Device × Item × Option Staged)
    (hf : ∀ x0 x1, (f x0 x1).1.guarded = x0.guarded) : (Device.stageOpt d n p f).guarded = d.guarded := by
  unfold Device.stageOpt
  split
  · rfl
  · rename_i x hx
    split
    · have h1 := hf d x
      revert h1
      obtain ⟨d1, y, o⟩ := f d x
      intro h1
      cases o with
      | none => exact (guarded_setItem _ _ _).trans h1
      | some st => exact (guarded_stageIn _ _).trans h1
    · rfl

@[simp] theorem guarded_stageRun (d : Device) (n : ℕ) (p : Desc → Bool) (f : Device → Item → Device × Item × Staged)
    (hf : ∀ x0 x1, (f x0 x1).1.guarded = x0.guarded) : (Device.stageRun d n p f).guarded = d.guarded := by
  unfold Device.stageRun
  split
  · rfl
  · split
    · exact (guarded_stageIn _ _).trans (hf _ _)
    · rfl

@[simp] theorem guarded_stagePure (d : Device) (n : ℕ) (p : Desc → Bool) (f : Item → Staged)  : (Device.stagePure d n p f).guarded = d.guarded := by
  unfold Device.stagePure
  (repeat' split) <;> simp_all

@[simp] theorem guarded_drawToken (rules : Nat) (pan : List Nat) (tenant : Nat) (held : List Nat) (k : Nat) (d : Device) (x : Item) :
    (Device.drawToken rules pan tenant held k d x).1.guarded = d.guarded := by
  induction k generalizing d x with
  | zero => rfl
  | succ k ih =>
    unfold Device.drawToken
    extract_lets t present seen next
    split
    · rfl
    · split
      · rfl
      · exact (ih _ _).trans (guarded_drawn d)

@[simp] theorem guarded_tokenRecord (d : Device) (x : Item) (id : ℕ) (pan : Sys2Proof.Bytes) (expiry : Sys2Proof.Bytes)  : (Device.tokenRecord d x id pan expiry).1.guarded = d.guarded := by
  unfold Device.tokenRecord
  (repeat' split) <;> simp_all

@[simp] theorem guarded_newToken (held : List Nat) (pan expiry : Bytes) (d : Device) (x : Item) :
    (Device.newToken held pan expiry d x).1.guarded = d.guarded := by
  unfold Device.newToken
  have h1 := guarded_drawToken x.current.paramHi (panDigits pan) (d.tenantOf x) held 64 d x
  revert h1
  obtain ⟨d1, y, o⟩ := Device.drawToken x.current.paramHi (panDigits pan) (d.tenantOf x) held 64 d x
  intro h1
  cases o with
  | more => exact h1
  | full => exact h1
  | token t => exact (guarded_tokenRecord _ _ _ _ _).trans h1

@[simp] theorem guarded_lifecycle (new : ℕ) (result : ℕ) (d : Device) (x : Item)  : (Device.lifecycle new result d x).1.guarded = d.guarded := by
  unfold Device.lifecycle
  (repeat' split) <;> (try simp_all) <;> repeat' (first | split | intro _ | simp_all | (rename_i h; replace h := congrArg (fun q => q.1.guarded) h; simp_all; done) | apply guarded_onCommand | apply guarded_onIdle | apply guarded_onWrite | apply guarded_softStart | apply guarded_domCommand | apply guarded_migCommand | apply guarded_toStub | (refine (guarded_foldl _ ?_ _ _).trans ?_))

@[simp] theorem guarded_runOperator (d : Device) (x : Item)  : (Device.runOperator d x).1.guarded = d.guarded := by
  unfold Device.runOperator
  (repeat' split) <;> (try simp_all) <;> repeat' (first | split | intro _ | simp_all | (rename_i h; replace h := congrArg (fun q => q.1.guarded) h; simp_all; done) | apply guarded_onCommand | apply guarded_onIdle | apply guarded_onWrite | apply guarded_softStart | apply guarded_domCommand | apply guarded_migCommand | apply guarded_toStub | (refine (guarded_foldl _ ?_ _ _).trans ?_))

@[simp] theorem guarded_stageSerial (d : Device) (n : ℕ) (p : Desc → Bool) (keyB : Bool) (f : Device → Item → Device × Item × Staged) (hf : ∀ x0 x1, (f x0 x1).1.guarded = x0.guarded) : (Device.stageSerial d n p keyB f).guarded = d.guarded := by
  unfold Device.stageSerial
  (repeat' split) <;> simp_all

@[simp] theorem guarded_stageNewKey (d : Device) (n : ℕ) (p : Desc → Bool) (f : Device → Item → Device × Item × Option Staged) (hf : ∀ x0 x1, (f x0 x1).1.guarded = x0.guarded) : (Device.stageNewKey d n p f).guarded = d.guarded := by
  unfold Device.stageNewKey
  (repeat' split) <;> simp_all

@[simp] theorem guarded_stageCreate (d : Device) (n : ℕ) (p : Desc → Bool) (f : Device → Item → Staged)  : (Device.stageCreate d n p f).guarded = d.guarded := by
  unfold Device.stageCreate
  (repeat' split) <;> simp_all

@[simp] theorem guarded_withFound (d : Device) (x : Item)  : (Device.withFound d x).guarded = d.guarded := by
  unfold Device.withFound
  (repeat' split) <;> simp_all

@[simp] theorem guarded_rotateKey (pgen : ℕ) (d : Device) (a : KeyAttr)  : (Device.rotateKey pgen d a).guarded = d.guarded := by
  unfold Device.rotateKey
  (repeat' split) <;> simp_all

@[simp] theorem guarded_rotate (d : Device)  : (Device.rotate d).guarded = d.guarded := by
  unfold Device.rotate
  (repeat' split) <;> simp_all

@[simp] theorem guarded_rotationEnd (d : Device)  : (Device.rotationEnd d).guarded = d.guarded := by
  unfold Device.rotationEnd
  (repeat' split) <;> simp_all

@[simp] theorem guarded_rewrapEnd (d : Device)  : (Device.rewrapEnd d).guarded = d.guarded := by
  unfold Device.rewrapEnd
  (repeat' split) <;> simp_all

@[simp] theorem guarded_signingOf (d : Device) (x : Item)  : (Device.signingOf d x).1.guarded = d.guarded := by
  unfold Device.signingOf
  (repeat' split) <;> simp_all

@[simp] theorem guarded_stageDrawn (d : Device) (n : ℕ) (p : Desc → Bool) (f : Device → Item → Sys2Proof.Bytes → Staged)  : (Device.stageDrawn d n p f).guarded = d.guarded := by
  unfold Device.stageDrawn
  (repeat' split) <;> simp_all

@[simp] theorem guarded_pairRun (d : Device) (x : Item)  : (Device.pairRun d x).1.guarded = d.guarded := by
  unfold Device.pairRun
  (repeat' split) <;> simp_all

@[simp] theorem guarded_engineJobEnd (d : Device) (n : ℕ) (mismatch : Bool)  : (Device.engineJobEnd d n mismatch).guarded = d.guarded := by
  unfold Device.engineJobEnd
  (repeat' split) <;> simp_all

@[simp] theorem guarded_zeroVfCounter (d : Device) (v : ℕ) (c : ℕ)  : (Device.zeroVfCounter d v c).guarded = d.guarded := by
  unfold Device.zeroVfCounter
  (repeat' split) <;> simp_all

@[simp] theorem guarded_grantWrite (d : Device) (v : ℕ) (g : ℕ)  : (Device.grantWrite d v g).guarded = d.guarded := by
  unfold Device.grantWrite
  (repeat' split) <;> simp_all

@[simp] theorem guarded_eventWrite (d : Device) (vf : Option ℕ) (c : ℕ) (w : ℕ)  : (Device.eventWrite d vf c w).guarded = d.guarded := by
  unfold Device.eventWrite
  (repeat' split) <;> simp_all

@[simp] theorem guarded_zeroCounters (d : Device)  : (Device.zeroCounters d).guarded = d.guarded := by
  unfold Device.zeroCounters
  (repeat' split) <;> simp_all

end Sys2Proof.Machine
end

