-- ==== Sys2Proof/Laws/GuardedCustody.lean ====
section
/-! SUPPORT. Guarded memories kept: tenancy, ceremonies, custody, tamper response and faults. -/

namespace Sys2Proof.Machine

@[simp] theorem guarded_vfmCommand (d : Device) (v : ℕ) (bit : ℕ) (f : Device → Device) (hf : ∀ x0, (f x0).guarded = x0.guarded) : (Device.vfmCommand d v bit f).guarded = d.guarded := by
  unfold Device.vfmCommand
  (repeat' split) <;> simp_all

@[simp] theorem guarded_vfmEnd (d : Device) (v : ℕ) (bit : ℕ) (code : ℕ)  : (Device.vfmEnd d v bit code).guarded = d.guarded := by
  unfold Device.vfmEnd
  (repeat' split) <;> simp_all

@[simp] theorem guarded_disableQp (d : Device) (v : ℕ) (q : ℕ)  : (Device.disableQp d v q).guarded = d.guarded := by
  unfold Device.disableQp
  (repeat' split) <;> simp_all

@[simp] theorem guarded_disableQps (d : Device) (v : ℕ)  : (Device.disableQps d v).guarded = d.guarded := by
  unfold Device.disableQps
  (repeat' split) <;> simp_all

@[simp] theorem guarded_createVf (d : Device) (v : ℕ)  : (Device.createVf d v).guarded = d.guarded := by
  unfold Device.createVf
  (repeat' split) <;> (try simp_all) <;> repeat' (first | split | intro _ | simp_all | (rename_i h; replace h := congrArg (fun q => q.1.guarded) h; simp_all; done) | apply guarded_onCommand | apply guarded_onIdle | apply guarded_onWrite | apply guarded_softStart | apply guarded_vfmCommand | apply guarded_domCommand | apply guarded_migCommand | apply guarded_toStub | (refine (guarded_foldl _ ?_ _ _).trans ?_))

@[simp] theorem guarded_activateVf (d : Device) (v : ℕ)  : (Device.activateVf d v).guarded = d.guarded := by
  unfold Device.activateVf
  (repeat' split) <;> (try simp_all) <;> repeat' (first | split | intro _ | simp_all | (rename_i h; replace h := congrArg (fun q => q.1.guarded) h; simp_all; done) | apply guarded_onCommand | apply guarded_onIdle | apply guarded_onWrite | apply guarded_softStart | apply guarded_vfmCommand | apply guarded_domCommand | apply guarded_migCommand | apply guarded_toStub | (refine (guarded_foldl _ ?_ _ _).trans ?_))

@[simp] theorem guarded_drainVf (d : Device) (v : ℕ)  : (Device.drainVf d v).guarded = d.guarded := by
  unfold Device.drainVf
  (repeat' split) <;> (try simp_all) <;> repeat' (first | split | intro _ | simp_all | (rename_i h; replace h := congrArg (fun q => q.1.guarded) h; simp_all; done) | apply guarded_onCommand | apply guarded_onIdle | apply guarded_onWrite | apply guarded_softStart | apply guarded_vfmCommand | apply guarded_domCommand | apply guarded_migCommand | apply guarded_toStub | (refine (guarded_foldl _ ?_ _ _).trans ?_))

@[simp] theorem guarded_drainEnd (d : Device) (v : ℕ)  : (Device.drainEnd d v).guarded = d.guarded := by
  unfold Device.drainEnd
  (repeat' split) <;> simp_all

@[simp] theorem guarded_eraseRegs (d : Device) (lo : ℕ) (hi : ℕ)  : (Device.eraseRegs d lo hi).guarded = d.guarded := by
  unfold Device.eraseRegs
  (repeat' split) <;> simp_all

@[simp] theorem guarded_destroyVf (d : Device) (v : ℕ)  : (Device.destroyVf d v).guarded = d.guarded := by
  unfold Device.destroyVf
  (repeat' split) <;> (try simp_all) <;> repeat' (first | split | intro _ | simp_all | (rename_i h; replace h := congrArg (fun q => q.1.guarded) h; simp_all; done) | apply guarded_onCommand | apply guarded_onIdle | apply guarded_onWrite | apply guarded_softStart | apply guarded_vfmCommand | apply guarded_domCommand | apply guarded_migCommand | apply guarded_toStub | (refine (guarded_foldl _ ?_ _ _).trans ?_))

@[simp] theorem guarded_vfAbsent (d : Device) (v : ℕ)  : (Device.vfAbsent d v).guarded = d.guarded := by
  unfold Device.vfAbsent
  (repeat' split) <;> simp_all

@[simp] theorem guarded_startDrain (d : Device) (v : ℕ) (q : ℕ)  : (Device.startDrain d v q).guarded = d.guarded := by
  unfold Device.startDrain
  (repeat' split) <;> simp_all

@[simp] theorem guarded_qpDrainEnd (d : Device) (v : ℕ) (q : ℕ)  : (Device.qpDrainEnd d v q).guarded = d.guarded := by
  unfold Device.qpDrainEnd
  (repeat' split) <;> simp_all

@[simp] theorem guarded_qpCfgWrite (d : Device) (v : ℕ) (q : ℕ) (w : ℕ)  : (Device.qpCfgWrite d v q w).guarded = d.guarded := by
  unfold Device.qpCfgWrite
  (repeat' split) <;> simp_all

@[simp] theorem guarded_qpErrorClear (d : Device) (v : ℕ) (q : ℕ)  : (Device.qpErrorClear d v q).guarded = d.guarded := by
  unfold Device.qpErrorClear
  (repeat' split) <;> simp_all

@[simp] theorem guarded_evictDown (tenant quota k : Nat) (d : Device) : (Device.evictDown tenant quota k d).guarded = d.guarded := by
  induction k generalizing d with
  | zero => rfl
  | succ k ih => unfold Device.evictDown; (repeat' split) <;> simp_all

@[simp] theorem guarded_reclaimVf (d : Device) (v : ℕ)  : (Device.reclaimVf d v).guarded = d.guarded := by
  unfold Device.reclaimVf
  (repeat' split) <;> (try simp_all) <;> repeat' (first | split | intro _ | simp_all | (rename_i h; replace h := congrArg (fun q => q.1.guarded) h; simp_all; done) | apply guarded_onCommand | apply guarded_onIdle | apply guarded_onWrite | apply guarded_softStart | apply guarded_vfmCommand | apply guarded_domCommand | apply guarded_migCommand | apply guarded_toStub | (refine (guarded_foldl _ ?_ _ _).trans ?_))

@[simp] theorem guarded_reclaimEnd (d : Device) (v : ℕ)  : (Device.reclaimEnd d v).guarded = d.guarded := by
  unfold Device.reclaimEnd
  (repeat' split) <;> simp_all

@[simp] theorem guarded_resetMigration (d : Device) (v : ℕ)  : (Device.resetMigration d v).guarded = d.guarded := by
  unfold Device.resetMigration
  (repeat' split) <;> simp_all

@[simp] theorem guarded_resetItem (d : Device) (n : ℕ) (x : Item)  : (Device.resetItem d n x).guarded = d.guarded := by
  unfold Device.resetItem
  (repeat' split) <;> simp_all

@[simp] theorem guarded_resetWork (d : Device) (v : ℕ)  : (Device.resetWork d v).guarded = d.guarded := by
  unfold Device.resetWork
  extract_lets mine drop d1 d2 drains d4 d5
  have h1 : d1.guarded = d.guarded := by simp only [d1, guarded_mapDom, guarded_mapStore]
  have h2 : d2.guarded = d.guarded := by
    refine (guarded_foldl _ ?_ _ _).trans h1
    intro d e; simp
  have h4 : d4.guarded = d.guarded := by simp only [d4]; split <;> simp [h2]
  have h5 : d5.guarded = d.guarded := by
    refine (guarded_foldl _ ?_ _ _).trans h4
    intro d e; simp
  split
  · split <;> simp [h5]
  · exact h5

@[simp] theorem guarded_dropFinished (d : Device) (v : ℕ)  : (Device.dropFinished d v).guarded = d.guarded := by
  unfold Device.dropFinished
  (repeat' split) <;> simp_all

@[simp] theorem guarded_resetPages (d : Device) (v : ℕ)  : (Device.resetPages d v).guarded = d.guarded := by
  unfold Device.resetPages
  (repeat' split) <;> simp_all

@[simp] theorem guarded_resetVf (d : Device) (v : ℕ)  : (Device.resetVf d v).guarded = d.guarded := by
  unfold Device.resetVf
  (repeat' split) <;> simp_all

@[simp] theorem guarded_vfReset (d : Device) (v : ℕ) (cause : ℕ)  : (Device.vfReset d v cause).guarded = d.guarded := by
  unfold Device.vfReset
  (repeat' split) <;> simp_all

@[simp] theorem guarded_vfEnableSet (d : Device) (n : ℕ)  : (Device.vfEnableSet d n).guarded = d.guarded := by
  unfold Device.vfEnableSet
  (repeat' split) <;> simp_all

@[simp] theorem guarded_vfEnableClear (d : Device)  : (Device.vfEnableClear d).guarded = d.guarded := by
  unfold Device.vfEnableClear
  (repeat' split) <;> simp_all

@[simp] theorem guarded_vfPageEnable (d : Device) (v : ℕ) (manager : Bool) (enable : Bool)  : (Device.vfPageEnable d v manager enable).guarded = d.guarded := by
  unfold Device.vfPageEnable
  (repeat' split) <;> simp_all

@[simp] theorem guarded_poolWrite (d : Device) (p : ℕ) (slots : Bool) (w : ℕ)  : (Device.poolWrite d p slots w).guarded = d.guarded := by
  unfold Device.poolWrite
  (repeat' split) <;> simp_all

@[simp] theorem guarded_carry (d : Device) (src : ℕ) (dst : ℕ)  : (Device.carry d src dst).guarded = d.guarded := by
  unfold Device.carry
  (repeat' split) <;> simp_all

@[simp] theorem guarded_mbSend (d : Device) (v : ℕ)  : (Device.mbSend d v).guarded = d.guarded := by
  unfold Device.mbSend
  (repeat' split) <;> simp_all

@[simp] theorem guarded_mbTake (d : Device) (v : ℕ)  : (Device.mbTake d v).guarded = d.guarded := by
  unfold Device.mbTake
  (repeat' split) <;> simp_all

@[simp] theorem guarded_deliverPost (d : Device) (v : ℕ)  : (Device.deliverPost d v).guarded = d.guarded := by
  unfold Device.deliverPost
  (repeat' split) <;> simp_all

@[simp] theorem guarded_mbPost (d : Device) (v : ℕ)  : (Device.mbPost d v).guarded = d.guarded := by
  unfold Device.mbPost
  (repeat' split) <;> simp_all

@[simp] theorem guarded_m2tFree (d : Device) (v : ℕ)  : (Device.m2tFree d v).guarded = d.guarded := by
  unfold Device.m2tFree
  (repeat' split) <;> simp_all

@[simp] theorem guarded_openCeremony (d : Device) (carrier : ℕ) (body : Sys2Proof.Bytes)  : (Device.openCeremony d carrier body).guarded = d.guarded := by
  unfold Device.openCeremony
  (repeat' split) <;> (try simp_all) <;> repeat' (first | split | intro _ | simp_all | (rename_i h; replace h := congrArg (fun q => q.1.guarded) h; simp_all; done) | apply guarded_onCommand | apply guarded_onIdle | apply guarded_onWrite | apply guarded_softStart | apply guarded_vfmCommand | apply guarded_domCommand | apply guarded_migCommand | apply guarded_toStub | (refine (guarded_foldl _ ?_ _ _).trans ?_))

@[simp] theorem guarded_executionAsks (d : Device) (c : Ceremony)  : (Device.executionAsks d c).guarded = d.guarded := by
  unfold Device.executionAsks
  (repeat' split) <;> simp_all

@[simp] theorem guarded_tryExecute (d : Device)  : (Device.tryExecute d).guarded = d.guarded := by
  unfold Device.tryExecute
  (repeat' split) <;> simp_all

@[simp] theorem guarded_tallyReply (d : Device) (carrier : ℕ) (status : ℕ) (id : ℕ) (kcv : Sys2Proof.Bytes)  : (Device.tallyReply d carrier status id kcv).guarded = d.guarded := by
  unfold Device.tallyReply
  (repeat' split) <;> simp_all

@[simp] theorem guarded_expireLate (d : Device)  : (Device.expireLate d).guarded = d.guarded := by
  unfold Device.expireLate
  (repeat' split) <;> simp_all

@[simp] theorem guarded_ceremonyInput (d0 : Device) (carrier : ℕ) (id : ℕ) (takes : Ceremony → Bool) (f : Device → Ceremony → Device) (hf : ∀ x0 x1, (f x0 x1).guarded = x0.guarded) : (Device.ceremonyInput d0 carrier id takes f).guarded = d0.guarded := by
  unfold Device.ceremonyInput
  (repeat' split) <;> (try simp_all) <;> repeat' (first | split | intro _ | simp_all | (rename_i h; replace h := congrArg (fun q => q.1.guarded) h; simp_all; done) | apply guarded_onCommand | apply guarded_onIdle | apply guarded_onWrite | apply guarded_softStart | apply guarded_vfmCommand | apply guarded_domCommand | apply guarded_migCommand | apply guarded_toStub | (refine (guarded_foldl _ ?_ _ _).trans ?_))

@[simp] theorem guarded_approve (d : Device) (carrier : ℕ) (id : ℕ) (body : Sys2Proof.Bytes)  : (Device.approve d carrier id body).guarded = d.guarded := by
  unfold Device.approve
  (repeat' split) <;> (try simp_all) <;> repeat' (first | split | intro _ | simp_all | (rename_i h; replace h := congrArg (fun q => q.1.guarded) h; simp_all; done) | apply guarded_onCommand | apply guarded_onIdle | apply guarded_onWrite | apply guarded_softStart | apply guarded_vfmCommand | apply guarded_ceremonyInput | apply guarded_domCommand | apply guarded_migCommand | apply guarded_toStub | (refine (guarded_foldl _ ?_ _ _).trans ?_))

@[simp] theorem guarded_component (d : Device) (carrier : ℕ) (id : ℕ) (body : Sys2Proof.Bytes)  : (Device.component d carrier id body).guarded = d.guarded := by
  unfold Device.component
  (repeat' split) <;> (try simp_all) <;> repeat' (first | split | intro _ | simp_all | (rename_i h; replace h := congrArg (fun q => q.1.guarded) h; simp_all; done) | apply guarded_onCommand | apply guarded_onIdle | apply guarded_onWrite | apply guarded_softStart | apply guarded_vfmCommand | apply guarded_ceremonyInput | apply guarded_domCommand | apply guarded_migCommand | apply guarded_toStub | (refine (guarded_foldl _ ?_ _ _).trans ?_))

@[simp] theorem guarded_transport (d : Device) (carrier : ℕ) (id : ℕ) (body : Sys2Proof.Bytes)  : (Device.transport d carrier id body).guarded = d.guarded := by
  unfold Device.transport
  (repeat' split) <;> (try simp_all) <;> repeat' (first | split | intro _ | simp_all | (rename_i h; replace h := congrArg (fun q => q.1.guarded) h; simp_all; done) | apply guarded_onCommand | apply guarded_onIdle | apply guarded_onWrite | apply guarded_softStart | apply guarded_vfmCommand | apply guarded_ceremonyInput | apply guarded_domCommand | apply guarded_migCommand | apply guarded_toStub | (refine (guarded_foldl _ ?_ _ _).trans ?_))

@[simp] theorem guarded_cancelMessage (d0 : Device) (carrier : ℕ) (id : ℕ)  : (Device.cancelMessage d0 carrier id).guarded = d0.guarded := by
  unfold Device.cancelMessage
  (repeat' split) <;> (try simp_all) <;> repeat' (first | split | intro _ | simp_all | (rename_i h; replace h := congrArg (fun q => q.1.guarded) h; simp_all; done) | apply guarded_onCommand | apply guarded_onIdle | apply guarded_onWrite | apply guarded_softStart | apply guarded_vfmCommand | apply guarded_ceremonyInput | apply guarded_domCommand | apply guarded_migCommand | apply guarded_toStub | (refine (guarded_foldl _ ?_ _ _).trans ?_))

@[simp] theorem guarded_query (d : Device) (carrier : ℕ)  : (Device.query d carrier).guarded = d.guarded := by
  unfold Device.query
  (repeat' split) <;> simp_all

@[simp] theorem guarded_unknownType (d : Device) (carrier : ℕ) (typ : ℕ)  : (Device.unknownType d carrier typ).guarded = d.guarded := by
  unfold Device.unknownType
  (repeat' split) <;> simp_all

@[simp] theorem guarded_olihild (d : Device) (carrier : ℕ) (msg : Sys2Proof.Bytes)  : (Device.olihild d carrier msg).guarded = d.guarded := by
  unfold Device.olihild
  (repeat' split) <;> simp_all

@[simp] theorem guarded_windowExpiry (d : Device)  : (Device.windowExpiry d).guarded = d.guarded := by
  unfold Device.windowExpiry
  (repeat' split) <;> simp_all

@[simp] theorem guarded_closeMaint (d : Device)  : (Device.closeMaint d).guarded = d.guarded := by
  unfold Device.closeMaint
  (repeat' split) <;> simp_all

@[simp] theorem guarded_cancelCeremony (d : Device)  : (Device.cancelCeremony d).guarded = d.guarded := by
  unfold Device.cancelCeremony
  (repeat' split) <;> (try simp_all) <;> repeat' (first | split | intro _ | simp_all | (rename_i h; replace h := congrArg (fun q => q.1.guarded) h; simp_all; done) | apply guarded_onCommand | apply guarded_onIdle | apply guarded_onWrite | apply guarded_softStart | apply guarded_vfmCommand | apply guarded_ceremonyInput | apply guarded_domCommand | apply guarded_migCommand | apply guarded_toStub | (refine (guarded_foldl _ ?_ _ _).trans ?_))

@[simp] theorem guarded_maintLimit (d : Device)  : (Device.maintLimit d).guarded = d.guarded := by
  unfold Device.maintLimit
  (repeat' split) <;> simp_all

@[simp] theorem guarded_maintExpiring (d : Device)  : (Device.maintExpiring d).guarded = d.guarded := by
  unfold Device.maintExpiring
  (repeat' split) <;> simp_all

@[simp] theorem guarded_atEnd (d : Device) (t : ℕ) (f : Device → Ceremony → Device) (hf : ∀ x0 x1, (f x0 x1).guarded = x0.guarded) : (Device.atEnd d t f).guarded = d.guarded := by
  unfold Device.atEnd
  (repeat' split) <;> simp_all

@[simp] theorem guarded_enrolInitial (d : Device)  : (Device.enrolInitial d).guarded = d.guarded := by
  unfold Device.enrolInitial
  (repeat' split) <;> simp_all

@[simp] theorem guarded_enrol (d : Device)  : (Device.enrol d).guarded = d.guarded := by
  unfold Device.enrol
  (repeat' split) <;> (try simp_all) <;> repeat' (first | split | intro _ | simp_all | (rename_i h; replace h := congrArg (fun q => q.1.guarded) h; simp_all; done) | apply guarded_onCommand | apply guarded_onIdle | apply guarded_onWrite | apply guarded_softStart | apply guarded_vfmCommand | apply guarded_atEnd | apply guarded_ceremonyInput | apply guarded_domCommand | apply guarded_migCommand | apply guarded_toStub | (refine (guarded_foldl _ ?_ _ _).trans ?_))

@[simp] theorem guarded_setRoot (d : Device) (root : Sys2Proof.Bytes) (epoch : ℕ)  : (Device.setRoot d root epoch).guarded = d.guarded := by
  unfold Device.setRoot
  (repeat' split) <;> simp_all

@[simp] theorem guarded_storeCustody (d : Device)  : (Device.storeCustody d).guarded = d.guarded := by
  unfold Device.storeCustody
  (repeat' split) <;> simp_all

@[simp] theorem guarded_drawApproval (d : Device)  : (Device.drawApproval d).guarded = d.guarded := by
  unfold Device.drawApproval
  (repeat' split) <;> simp_all

@[simp] theorem guarded_rootGenerate (d : Device)  : (Device.rootGenerate d).guarded = d.guarded := by
  unfold Device.rootGenerate
  (repeat' split) <;> simp_all

@[simp] theorem guarded_join (d : Device)  : (Device.join d).guarded = d.guarded := by
  unfold Device.join
  (repeat' split) <;> (try simp_all) <;> repeat' (first | split | intro _ | simp_all | (rename_i h; replace h := congrArg (fun q => q.1.guarded) h; simp_all; done) | apply guarded_onCommand | apply guarded_onIdle | apply guarded_onWrite | apply guarded_softStart | apply guarded_vfmCommand | apply guarded_atEnd | apply guarded_ceremonyInput | apply guarded_domCommand | apply guarded_migCommand | apply guarded_toStub | (refine (guarded_foldl _ ?_ _ _).trans ?_))

@[simp] theorem guarded_sponsor (d : Device)  : (Device.sponsor d).guarded = d.guarded := by
  unfold Device.sponsor
  (repeat' split) <;> (try simp_all) <;> repeat' (first | split | intro _ | simp_all | (rename_i h; replace h := congrArg (fun q => q.1.guarded) h; simp_all; done) | apply guarded_onCommand | apply guarded_onIdle | apply guarded_onWrite | apply guarded_softStart | apply guarded_vfmCommand | apply guarded_atEnd | apply guarded_ceremonyInput | apply guarded_domCommand | apply guarded_migCommand | apply guarded_toStub | (refine (guarded_foldl _ ?_ _ _).trans ?_))

@[simp] theorem guarded_rootReplace (d : Device)  : (Device.rootReplace d).guarded = d.guarded := by
  unfold Device.rootReplace
  (repeat' split) <;> simp_all

@[simp] theorem guarded_keyImport (d : Device)  : (Device.keyImport d).guarded = d.guarded := by
  unfold Device.keyImport
  (repeat' split) <;> simp_all

@[simp] theorem guarded_openMaintenance (d : Device)  : (Device.openMaintenance d).guarded = d.guarded := by
  unfold Device.openMaintenance
  (repeat' split) <;> simp_all

@[simp] theorem guarded_compatSet (d : Device)  : (Device.compatSet d).guarded = d.guarded := by
  unfold Device.compatSet
  (repeat' split) <;> simp_all

@[simp] theorem guarded_reportCoalesced (battery : Bool) (d : Device) (s : ℕ)  : (Device.reportCoalesced battery d s).guarded = d.guarded := by
  unfold Device.reportCoalesced
  (repeat' split) <;> simp_all

@[simp] theorem guarded_detect (d : Device) (battery : Bool) (s : ℕ) (detail : ℕ)  : (Device.detect d battery s detail).guarded = d.guarded := by
  unfold Device.detect
  (repeat' split) <;> simp_all

@[simp] theorem guarded_tamperEvent (d : Device) (s : ℕ) (detail : ℕ)  : (Device.tamperEvent d s detail).guarded = d.guarded := by
  unfold Device.tamperEvent
  (repeat' split) <;> simp_all

@[simp] theorem guarded_conditionEnd (d : Device) (s : ℕ)  : (Device.conditionEnd d s).guarded = d.guarded := by
  unfold Device.conditionEnd
  (repeat' split) <;> simp_all

@[simp] theorem guarded_zeroizeEnd (d : Device)  : (Device.zeroizeEnd d).guarded = d.guarded := by
  unfold Device.zeroizeEnd
  (repeat' split) <;> simp_all

@[simp] theorem guarded_samplingWindow (d : Device) (found : List (ℕ × ℕ))  : (Device.samplingWindow d found).guarded = d.guarded := by
  unfold Device.samplingWindow
  (repeat' split) <;> simp_all

@[simp] theorem guarded_stickyClear (d : Device) (bits : ℕ)  : (Device.stickyClear d bits).guarded = d.guarded := by
  unfold Device.stickyClear
  (repeat' split) <;> simp_all

@[simp] theorem guarded_blockEffect (d : Device) (s : ℕ) (place : ℕ)  : (Device.blockEffect d s place).guarded = d.guarded := by
  unfold Device.blockEffect
  (repeat' split) <;> simp_all

@[simp] theorem guarded_resetConfig (d : Device)  : (Device.resetConfig d).guarded = d.guarded := by
  unfold Device.resetConfig
  (repeat' split) <;> simp_all

@[simp] theorem guarded_escalate (d : Device) (s : ℕ)  : (Device.escalate d s).guarded = d.guarded := by
  unfold Device.escalate
  (repeat' split) <;> simp_all

@[simp] theorem guarded_clearHwm (d : Device)  : (Device.clearHwm d).guarded = d.guarded := by
  unfold Device.clearHwm
  (repeat' split) <;> simp_all

@[simp] theorem guarded_selfRepair (d : Device) (which : ℕ) (words : List ℕ) (counts : List ℕ) (hwm : Bool)  : (Device.selfRepair d which words counts hwm).guarded = d.guarded := by
  unfold Device.selfRepair
  (repeat' split) <;> simp_all

@[simp] theorem guarded_selfError (d : Device) (which : ℕ) (words : List ℕ) (counts : List ℕ) (hwm : Bool)  : (Device.selfError d which words counts hwm).guarded = d.guarded := by
  unfold Device.selfError
  (repeat' split) <;> simp_all

@[simp] theorem guarded_faultEvent (d : Device) (s : ℕ) (held : Bool) (place : ℕ)  : (Device.faultEvent d s held place).guarded = d.guarded := by
  unfold Device.faultEvent
  (repeat' split) <;> simp_all

@[simp] theorem guarded_faultAck (d : Device) (s : ℕ)  : (Device.faultAck d s).guarded = d.guarded := by
  unfold Device.faultAck
  (repeat' split) <;> simp_all

@[simp] theorem guarded_pendingClear (d : Device) (s : ℕ)  : (Device.pendingClear d s).guarded = d.guarded := by
  unfold Device.pendingClear
  (repeat' split) <;> simp_all

@[simp] theorem guarded_rearm (d : Device)  : (Device.rearm d).guarded = d.guarded := by
  unfold Device.rearm
  (repeat' split) <;> simp_all

@[simp] theorem guarded_cfgWrite (d : Device) (s : ℕ) (w : ℕ)  : (Device.cfgWrite d s w).guarded = d.guarded := by
  unfold Device.cfgWrite
  (repeat' split) <;> simp_all

@[simp] theorem guarded_replayRerun (d : Device)  : (Device.replayRerun d).guarded = d.guarded := by
  unfold Device.replayRerun
  (repeat' split) <;> simp_all

@[simp] theorem guarded_frameIn (d : Device) (more : Bool) (data : Sys2Proof.Bytes)  : (Device.frameIn d more data).guarded = d.guarded := by
  unfold Device.frameIn
  (repeat' split) <;> simp_all

@[simp] theorem guarded_mbxSend (d : Device)  : (Device.mbxSend d).guarded = d.guarded := by
  unfold Device.mbxSend
  (repeat' split) <;> simp_all

@[simp] theorem guarded_mbxInFree (d : Device)  : (Device.mbxInFree d).guarded = d.guarded := by
  unfold Device.mbxInFree
  (repeat' split) <;> simp_all

@[simp] theorem guarded_mbxReset (d : Device)  : (Device.mbxReset d).guarded = d.guarded := by
  unfold Device.mbxReset
  (repeat' split) <;> simp_all

end Sys2Proof.Machine
end

