-- ==== Sys2Proof/Laws/GuardedBoard.lean ====
section
/-! SUPPORT. Guarded memories kept: power, the sideband, the RNG and register writes. -/

namespace Sys2Proof.Machine

@[simp] theorem guarded_coresStop (d : Device)  : (Device.coresStop d).guarded = d.guarded := by
  unfold Device.coresStop
  (repeat' split) <;> simp_all

@[simp] theorem guarded_coresResume (d : Device)  : (Device.coresResume d).guarded = d.guarded := by
  unfold Device.coresResume
  (repeat' split) <;> simp_all

@[simp] theorem guarded_powerStep (d : Device) (f : Power → Power)
    (h : (f d.power).otp = d.power.otp ∧ (f d.power).burn = d.power.burn) : (d.powerStep f).guarded = d.guarded := by
  have h1 : (d.mapPower f).guarded = d.guarded := guarded_mapPower d f h
  unfold Device.powerStep
  (repeat' split) <;> simp_all

@[simp] theorem Power.setChain_otp (p : Power) (c : Nat) (x : Chain) : (p.setChain c x).otp = p.otp := by
  unfold Power.setChain; split <;> rfl

@[simp] theorem Power.setChain_burn (p : Power) (c : Nat) (x : Chain) : (p.setChain c x).burn = p.burn := by
  unfold Power.setChain; split <;> rfl

@[simp] theorem guarded_setPowerState (d : Device) (st : PowerState)  : (Device.setPowerState d st).guarded = d.guarded := by
  unfold Device.setPowerState
  (repeat' split) <;> simp_all

@[simp] theorem guarded_powerStop (d : Device)  : (Device.powerStop d).guarded = d.guarded := by
  unfold Device.powerStop
  (repeat' split) <;> simp_all

@[simp] theorem guarded_chainUnhealthy (d : Device) (c : ℕ) (feedOk : Bool) (mv : ℕ)  : (Device.chainUnhealthy d c feedOk mv).guarded = d.guarded := by
  unfold Device.chainUnhealthy
  (repeat' split) <;> simp_all

@[simp] theorem guarded_chainHealthy (d : Device) (c : ℕ) (mv : ℕ)  : (Device.chainHealthy d c mv).guarded = d.guarded := by
  unfold Device.chainHealthy
  (repeat' split) <;> simp_all

@[simp] theorem guarded_failoverEnd (d : Device)  : (Device.failoverEnd d).guarded = d.guarded := by
  unfold Device.failoverEnd
  (repeat' split) <;> simp_all

@[simp] theorem guarded_selfTest (d : Device) (pass : Bool)  : (Device.selfTest d pass).guarded = d.guarded := by
  unfold Device.selfTest
  (repeat' split) <;> simp_all

@[simp] theorem guarded_plannedSwitch (d : Device)  : (Device.plannedSwitch d).guarded = d.guarded := by
  unfold Device.plannedSwitch
  (repeat' split) <;> simp_all

@[simp] theorem guarded_gateAll (d : Device)  : (Device.gateAll d).guarded = d.guarded := by
  unfold Device.gateAll
  (repeat' split) <;> simp_all

@[simp] theorem guarded_clockFloor (d : Device)  : (Device.clockFloor d).guarded = d.guarded := by
  unfold Device.clockFloor
  (repeat' split) <;> simp_all

@[simp] theorem guarded_stateReq (d : Device) (v : ℕ)  : (Device.stateReq d v).guarded = d.guarded := by
  unfold Device.stateReq
  (repeat' split) <;> (try simp_all) <;> repeat' (first | split | intro _ | simp_all | (rename_i h; replace h := congrArg (fun q => q.1.guarded) h; simp_all; done) | apply guarded_onCommand | apply guarded_onIdle | apply guarded_onWrite | apply guarded_softStart | apply guarded_vfmCommand | apply guarded_atEnd | apply guarded_ceremonyInput | apply guarded_domCommand | apply guarded_migCommand | apply guarded_toStub | (refine (guarded_foldl _ ?_ _ _).trans ?_))

@[simp] theorem guarded_ebbEntry (d : Device)  : (Device.ebbEntry d).guarded = d.guarded := by
  unfold Device.ebbEntry
  (repeat' split) <;> simp_all

@[simp] theorem guarded_wakeEnd (d : Device)  : (Device.wakeEnd d).guarded = d.guarded := by
  unfold Device.wakeEnd
  (repeat' split) <;> simp_all

@[simp] theorem guarded_lockLoss (d : Device) (n : ℕ)  : (Device.lockLoss d n).guarded = d.guarded := by
  unfold Device.lockLoss
  (repeat' split) <;> simp_all

@[simp] theorem guarded_relock (d : Device) (n : ℕ)  : (Device.relock d n).guarded = d.guarded := by
  unfold Device.relock
  (repeat' split) <;> simp_all

@[simp] theorem guarded_follow (d : Device) (src : ℕ) (ok : Bool)  : (Device.follow d src ok).guarded = d.guarded := by
  unfold Device.follow
  (repeat' split) <;> simp_all

@[simp] theorem guarded_burnDone (d : Device) (code : ℕ)  : (Device.burnDone d code).guarded = d.guarded := by
  unfold Device.burnDone
  (repeat' split) <;> simp_all

@[simp] theorem guarded_countTorn (d : Device) (g : ℕ)  : (Device.countTorn d g).guarded = d.guarded := by
  unfold Device.countTorn
  (repeat' split) <;> simp_all

@[simp] theorem guarded_hostReset (d : Device)  : (Device.hostReset d).guarded = d.guarded := by
  unfold Device.hostReset
  (repeat' split) <;> simp_all

@[simp] theorem guarded_pinStep (d : Device) (f : Pins → Pins)  : (Device.pinStep d f).guarded = d.guarded := by
  unfold Device.pinStep
  (repeat' split) <;> simp_all

@[simp] theorem guarded_perstLong (d : Device)  : (Device.perstLong d).guarded = d.guarded := by
  unfold Device.perstLong
  (repeat' split) <;> simp_all

@[simp] theorem guarded_linkChange (d : Device) (gen : ℕ) (requested : Bool) (idle : Bool)  : (Device.linkChange d gen requested idle).guarded = d.guarded := by
  unfold Device.linkChange
  (repeat' split) <;> simp_all

@[simp] theorem guarded_busSeen (d : Device) (smbus : Bool)  : (Device.busSeen d smbus).guarded = d.guarded := by
  unfold Device.busSeen
  (repeat' split) <;> simp_all

@[simp] theorem guarded_sideTransaction (d : Device) (smbus : Bool) (assign : Option (BitVec 7)) (data : Sys2Proof.Bytes)  : (Device.sideTransaction d smbus assign data).guarded = d.guarded := by
  unfold Device.sideTransaction
  (repeat' split) <;> simp_all

@[simp] theorem guarded_spdmMessage (d : Device) (sideband : Bool) (supported : Bool) (data : Sys2Proof.Bytes)  : (Device.spdmMessage d sideband supported data).guarded = d.guarded := by
  unfold Device.spdmMessage
  (repeat' split) <;> simp_all

@[simp] theorem guarded_pldmMessage (d : Device) (monitoring : Bool) (readsEvent : Bool) (data : Sys2Proof.Bytes)  : (Device.pldmMessage d monitoring readsEvent data).guarded = d.guarded := by
  unfold Device.pldmMessage
  (repeat' split) <;> simp_all

@[simp] theorem guarded_araRead (d : Device) (won : Bool)  : (Device.araRead d won).guarded = d.guarded := by
  unfold Device.araRead
  (repeat' split) <;> simp_all

@[simp] theorem guarded_sdaStuck (d : Device)  : (Device.sdaStuck d).guarded = d.guarded := by
  unfold Device.sdaStuck
  (repeat' split) <;> simp_all

@[simp] theorem guarded_sideReset (d : Device)  : (Device.sideReset d).guarded = d.guarded := by
  unfold Device.sideReset
  (repeat' split) <;> simp_all

@[simp] theorem guarded_reqEnd (d : Device) (served : Bool)  : (Device.reqEnd d served).guarded = d.guarded := by
  unfold Device.reqEnd
  (repeat' split) <;> simp_all

@[simp] theorem guarded_req (d : Device)  : (Device.req d).guarded = d.guarded := by
  unfold Device.req
  (repeat' split) <;> simp_all

@[simp] theorem guarded_setDrbg (d : Device) (i : ℕ) (x : Drbg)  : (Device.setDrbg d i x).guarded = d.guarded := by
  unfold Device.setDrbg
  (repeat' split) <;> simp_all

@[simp] theorem guarded_serveQueue (k : ℕ) (d : Device) : (Device.serveQueue k d).guarded = d.guarded := by
  induction k generalizing d with
  | zero => rfl
  | succ k ih =>
    unfold Device.serveQueue
    split
    · rfl
    · split
      · rfl
      · refine (ih _).trans ?_
        (repeat' split) <;> simp_all

@[simp] theorem guarded_reseedEnd (d : Device) (i : ℕ)  : (Device.reseedEnd d i).guarded = d.guarded := by
  unfold Device.reseedEnd
  (repeat' split) <;> simp_all

@[simp] theorem guarded_healthFail (d : Device) (latch : ℕ) (proportion : Bool)  : (Device.healthFail d latch proportion).guarded = d.guarded := by
  unfold Device.healthFail
  (repeat' split) <;> simp_all

@[simp] theorem guarded_testPattern (d : Device) (v : Bool)  : (Device.testPattern d v).guarded = d.guarded := by
  unfold Device.testPattern
  (repeat' split) <;> simp_all

@[simp] theorem guarded_unmapped (d : Device) (a : ℕ) (write : Bool)  : (Device.unmapped d a write).guarded = d.guarded := by
  unfold Device.unmapped
  (repeat' split) <;> simp_all

@[simp] theorem guarded_capture (d : Device) (cls : ℕ) (a : ℕ)  : (Device.capture d cls a).guarded = d.guarded := by
  unfold Device.capture
  (repeat' split) <;> simp_all

@[simp] theorem guarded_readClear (d : Device) (a : ℕ)  : (Device.readClear d a).guarded = d.guarded := by
  unfold Device.readClear
  (repeat' split) <;> simp_all

@[simp] theorem guarded_readReg (d : Device) (cls : ℕ) (a : ℕ)  : (Device.readReg d cls a).guarded = d.guarded := by
  unfold Device.readReg
  (repeat' split) <;> simp_all

@[simp] theorem guarded_snapWrite (d : Device) (cls : ℕ) (b : ℕ) (hold : Bool)  : (Device.snapWrite d cls b hold).guarded = d.guarded := by
  unfold Device.snapWrite
  (repeat' split) <;> simp_all

@[simp] theorem guarded_snapHold (d : Device) (cls : ℕ) (b : ℕ) (hold : Bool)  : (Device.snapHold d cls b hold).guarded = d.guarded := by
  unfold Device.snapHold
  (repeat' split) <;> simp_all

@[simp] theorem guarded_signalAgain (d : Device) (b : ℕ)  : (Device.signalAgain d b).guarded = d.guarded := by
  unfold Device.signalAgain
  (repeat' split) <;> simp_all

@[simp] theorem guarded_interruptWrite (d : Device) (b : ℕ) (enable : Bool) (v : ℕ)  : (Device.interruptWrite d b enable v).guarded = d.guarded := by
  unfold Device.interruptWrite
  (repeat' split) <;> simp_all

@[simp] theorem guarded_softReset (d : Device) (p : Page) (n : ℕ)  : (Device.softReset d p n).guarded = d.guarded := by
  unfold Device.softReset
  (repeat' split) <;> simp_all

@[simp] theorem guarded_softResetAt (d : Device) (b : ℕ)  : (Device.softResetAt d b).guarded = d.guarded := by
  unfold Device.softResetAt
  (repeat' split) <;> simp_all

@[simp] theorem guarded_softResetEnd (d : Device) (b : ℕ)  : (Device.softResetEnd d b).guarded = d.guarded := by
  unfold Device.softResetEnd
  (repeat' split) <;> simp_all

@[simp] theorem guarded_writeCount (d : Device) (p : Page) (n : ℕ) (a : ℕ) (v : ℕ) (f : Field)  : (Device.writeCount d p n a v f).guarded = d.guarded := by
  unfold Device.writeCount
  (repeat' split) <;> simp_all

@[simp] theorem guarded_writeFields (d : Device) (p : Page) (n : ℕ) (a : ℕ) (v : ℕ)  : (Device.writeFields d p n a v).guarded = d.guarded := by
  unfold Device.writeFields
  (repeat' split) <;> simp_all

@[simp] theorem guarded_lostOnce (d : Device) (a : ℕ) (f : Device → Device) (hf : ∀ x0, (f x0).guarded = x0.guarded) : (Device.lostOnce d a f).guarded = d.guarded := by
  unfold Device.lostOnce
  (repeat' split) <;> simp_all

@[simp] theorem guarded_onBit (d : Device) (v : ℕ) (i : ℕ) (f : Device → Device) (hf : ∀ x0, (f x0).guarded = x0.guarded) : (Device.onBit d v i f).guarded = d.guarded := by
  unfold Device.onBit
  (repeat' split) <;> simp_all

@[simp] theorem guarded_writePageHeader (d : Device) (p : Page) (n : ℕ) (cls : ℕ) (a : ℕ) (v : ℕ)  : (Device.writePageHeader d p n cls a v).guarded = d.guarded := by
  unfold Device.writePageHeader
  (repeat' split) <;> simp_all

@[simp] theorem guarded_ackWrite (d : Device) (s : ℕ) (v : Bool)  : (Device.ackWrite d s v).guarded = d.guarded := by
  unfold Device.ackWrite
  (repeat' split) <;> simp_all

@[simp] theorem guarded_writePwr (d : Device) (a : ℕ) (v : ℕ)  : (Device.writePwr d a v).guarded = d.guarded := by
  unfold Device.writePwr
  (repeat' split) <;> simp_all

@[simp] theorem guarded_writeFlt (d : Device) (n : ℕ) (a : ℕ) (v : ℕ)  : (Device.writeFlt d n a v).guarded = d.guarded := by
  unfold Device.writeFlt
  (repeat' split) <;> simp_all

@[simp] theorem guarded_writeRng (d : Device) (a : ℕ) (v : ℕ)  : (Device.writeRng d a v).guarded = d.guarded := by
  unfold Device.writeRng
  (repeat' split) <;> simp_all

@[simp] theorem guarded_writeJnl (d : Device) (a : ℕ) (v : ℕ)  : (Device.writeJnl d a v).guarded = d.guarded := by
  unfold Device.writeJnl
  (repeat' split) <;> simp_all

@[simp] theorem guarded_writeDom (d : Device) (a : ℕ) (v : ℕ)  : (Device.writeDom d a v).guarded = d.guarded := by
  unfold Device.writeDom
  (repeat' split) <;> simp_all

@[simp] theorem guarded_writeSched (d : Device) (a : ℕ) (v : ℕ)  : (Device.writeSched d a v).guarded = d.guarded := by
  unfold Device.writeSched
  (repeat' split) <;> simp_all

@[simp] theorem guarded_writeAcc (d : Device) (n : ℕ) (a : ℕ) (v : ℕ)  : (Device.writeAcc d n a v).guarded = d.guarded := by
  unfold Device.writeAcc
  (repeat' split) <;> simp_all

@[simp] theorem guarded_writeRpl (d : Device) (a : ℕ) (v : ℕ)  : (Device.writeRpl d a v).guarded = d.guarded := by
  unfold Device.writeRpl
  (repeat' split) <;> simp_all

@[simp] theorem guarded_writeMbx (d : Device) (a : ℕ) (v : ℕ)  : (Device.writeMbx d a v).guarded = d.guarded := by
  unfold Device.writeMbx
  (repeat' split) <;> simp_all

@[simp] theorem guarded_writeLc (d : Device) (n : ℕ) (a : ℕ) (v : ℕ)  : (Device.writeLc d n a v).guarded = d.guarded := by
  unfold Device.writeLc
  (repeat' split) <;> simp_all

@[simp] theorem guarded_writeBn (d : Device) (n : ℕ) (a : ℕ) (v : ℕ)  : (Device.writeBn d n a v).guarded = d.guarded := by
  unfold Device.writeBn
  (repeat' split) <;> simp_all

@[simp] theorem guarded_writeVfm (d : Device) (v : ℕ) (a : ℕ) (w : ℕ)  : (Device.writeVfm d v a w).guarded = d.guarded := by
  unfold Device.writeVfm
  (repeat' split) <;> simp_all

@[simp] theorem guarded_writeVf (d : Device) (v : ℕ) (a : ℕ) (w : ℕ)  : (Device.writeVf d v a w).guarded = d.guarded := by
  unfold Device.writeVf
  (repeat' split) <;> simp_all

@[simp] theorem guarded_writeMb (d : Device) (v : ℕ) (a : ℕ) (w : ℕ)  : (Device.writeMb d v a w).guarded = d.guarded := by
  unfold Device.writeMb
  (repeat' split) <;> simp_all

@[simp] theorem guarded_writeVcnt (d : Device) (v : ℕ) (a : ℕ) (w : ℕ)  : (Device.writeVcnt d v a w).guarded = d.guarded := by
  unfold Device.writeVcnt
  (repeat' split) <;> simp_all

@[simp] theorem guarded_msixWrite (d : Device) (fn : ℕ) (vector : ℕ) (word : ℕ) (v : ℕ)  : (Device.msixWrite d fn vector word v).guarded = d.guarded := by
  unfold Device.msixWrite
  (repeat' split) <;> simp_all

@[simp] theorem guarded_batteryLost (d : Device)  : (Device.batteryLost d).guarded = d.guarded := by
  unfold Device.batteryLost
  (repeat' split) <;> simp_all

@[simp] theorem guarded_arm (d : Device) (found : List ℕ)  : (Device.arm d found).guarded = d.guarded := by
  unfold Device.arm
  (repeat' split) <;> simp_all

@[simp] theorem guarded_settle0 (d : Device)  : (Device.settle0 d).guarded = d.guarded := by
  unfold Device.settle0
  extract_lets p b d1 d2 d3 d4
  have h1 : d1.guarded = d.guarded := by
    simp only [d1]
    rw [guarded_mapTamp _ _ ⟨rfl, rfl⟩, guarded_mapPower _ _ ⟨rfl, rfl⟩]
  have h2 : d2.guarded = d.guarded := by
    refine (guarded_foldl _ ?_ _ _).trans h1
    intro d g; simp
  have h3 : d3.guarded = d.guarded := by simp only [d3]; split <;> simp [h2]
  have h4 : d4.guarded = d.guarded := by
    refine (guarded_foldl _ ?_ _ _).trans h3
    intro d c; split <;> simp
  split
  · split
    · exact h4
    · rw [guarded_fault, guarded_powerStep _ _ ⟨rfl, rfl⟩, h4]
  · exact h4

@[simp] theorem guarded_classifyTamper (d : Device) (powerOn : Bool)  : (Device.classifyTamper d powerOn).guarded = d.guarded := by
  unfold Device.classifyTamper
  (repeat' split) <;> simp_all

@[simp] theorem guarded_classifyBanks (d : Device)  : (Device.classifyBanks d).guarded = d.guarded := by
  unfold Device.classifyBanks
  (repeat' split) <;> (try simp_all) <;> repeat' (first | split | intro _ | simp_all | (rename_i h; replace h := congrArg (fun q => q.1.guarded) h; simp_all; done) | apply guarded_onCommand | apply guarded_onIdle | apply guarded_onWrite | apply guarded_softStart | apply guarded_vfmCommand | apply guarded_atEnd | apply guarded_ceremonyInput | apply guarded_domCommand | apply guarded_migCommand | apply guarded_toStub | (refine (guarded_foldl _ ?_ _ _).trans ?_))

@[simp] theorem guarded_drawStartKeys (d : Device)  : (Device.drawStartKeys d).guarded = d.guarded := by
  unfold Device.drawStartKeys
  (repeat' split) <;> simp_all

@[simp] theorem guarded_testMemory (d : Device) (bad : List ℕ)  : (Device.testMemory d bad).guarded = d.guarded := by
  unfold Device.testMemory
  extract_lets d1 cap
  split
  · exact (guarded_fault _ _).trans ((guarded_raiseInt _ _ _ _).trans rfl)
  · rfl

@[simp] theorem guarded_testUnits (d : Device) (f : StartFacts)  : (Device.testUnits d f).guarded = d.guarded := by
  unfold Device.testUnits
  (repeat' split) <;> simp_all

@[simp] theorem guarded_probePorts (d : Device) (found : List PortState)  : (Device.probePorts d found).guarded = d.guarded := by
  unfold Device.probePorts
  (repeat' split) <;> simp_all

@[simp] theorem guarded_landView (d : Device) (recs : List Rec)  : (Device.landView d recs).guarded = d.guarded := by
  unfold Device.landView
  (repeat' split) <;> (try simp_all) <;> repeat' (first | split | intro _ | simp_all | (rename_i h; replace h := congrArg (fun q => q.1.guarded) h; simp_all; done) | apply guarded_onCommand | apply guarded_onIdle | apply guarded_onWrite | apply guarded_softStart | apply guarded_vfmCommand | apply guarded_atEnd | apply guarded_ceremonyInput | apply guarded_domCommand | apply guarded_migCommand | apply guarded_toStub | (refine (guarded_foldl _ ?_ _ _).trans ?_))

@[simp] theorem guarded_resolvePending (d : Device) (f : StartFacts)  : (Device.resolvePending d f).guarded = d.guarded := by
  unfold Device.resolvePending
  (repeat' split) <;> simp_all

@[simp] theorem guarded_resolveSegment (torn : List ℕ) (d : Device) (k : ℕ)  : (Device.resolveSegment torn d k).guarded = d.guarded := by
  unfold Device.resolveSegment
  (repeat' split) <;> simp_all

@[simp] theorem guarded_resolveSegments (d : Device) (torn : List ℕ)  : (Device.resolveSegments d torn).guarded = d.guarded := by
  unfold Device.resolveSegments
  (repeat' split) <;> simp_all

@[simp] theorem guarded_rebuildHbm (d : Device)  : (Device.rebuildHbm d).guarded = d.guarded := by
  unfold Device.rebuildHbm
  (repeat' split) <;> simp_all

@[simp] theorem guarded_recover (d : Device) (f : StartFacts)  : (Device.recover d f).guarded = d.guarded := by
  unfold Device.recover
  extract_lets d0 d1 d2 mine d3
  have h0 : d0.guarded = d.guarded := by
    simp only [d0]
    split
    · exact guarded_fault _ _
    · rfl
  have h1 : d1.guarded = d.guarded := (guarded_resolvePending _ _).trans ((guarded_rebuildHbm _).trans h0)
  split
  · exact h1
  · have h3 : d3.guarded = d.guarded := ((guarded_mapStore _ _).trans (guarded_resolveSegments _ _)).trans h1
    clear_value d3
    refine (guarded_checkFull _).trans ?_
    split
    · exact (guarded_holdCause _ _ _).trans ((guarded_fault _ _).trans h3)
    · exact h3

@[simp] theorem guarded_forgetImage (d : Device) (t : TableVersion)  : (Device.forgetImage d t).guarded = d.guarded := by
  unfold Device.forgetImage
  (repeat' split) <;> simp_all

@[simp] theorem guarded_reloadTable (bad : List ℕ) (d : Device) (e : ℕ × TableVersion)  : (Device.reloadTable bad d e).guarded = d.guarded := by
  unfold Device.reloadTable
  (repeat' split) <;> simp_all

@[simp] theorem guarded_reloadOrphan (d : Device) (i : ℕ)  : (Device.reloadOrphan d i).guarded = d.guarded := by
  unfold Device.reloadOrphan
  (repeat' split) <;> simp_all

@[simp] theorem guarded_reloadCurve (bad : List ℕ) (d : Device) (s : ℕ)  : (Device.reloadCurve bad d s).guarded = d.guarded := by
  unfold Device.reloadCurve
  (repeat' split) <;> simp_all

@[simp] theorem guarded_reload (d : Device) (f : StartFacts)  : (Device.reload d f).guarded = d.guarded := by
  unfold Device.reload
  (repeat' split) <;> simp_all

@[simp] theorem guarded_forgetTables (d : Device)  : (Device.forgetTables d).guarded = d.guarded := by
  unfold Device.forgetTables
  (repeat' split) <;> simp_all

@[simp] theorem guarded_reloadCustody (d : Device) (found : Bool)  : (Device.reloadCustody d found).guarded = d.guarded := by
  unfold Device.reloadCustody
  (repeat' split) <;> simp_all

@[simp] theorem guarded_reloadView (d : Device) (up : List Bool)  : (Device.reloadView d up).guarded = d.guarded := by
  unfold Device.reloadView
  (repeat' split) <;> simp_all

@[simp] theorem guarded_resumeRewrap (d : Device)  : (Device.resumeRewrap d).guarded = d.guarded := by
  unfold Device.resumeRewrap
  (repeat' split) <;> simp_all

@[simp] theorem guarded_settleOwn (d : Device)  : (Device.settleOwn d).guarded = d.guarded := by
  unfold Device.settleOwn
  (repeat' split) <;> simp_all

@[simp] theorem guarded_selectMode (d : Device)  : (Device.selectMode d).guarded = d.guarded := by
  unfold Device.selectMode
  (repeat' split) <;> simp_all

@[simp] theorem guarded_startEvent (d : Device) (s : ℕ)  : (Device.startEvent d s).guarded = d.guarded := by
  unfold Device.startEvent
  (repeat' split) <;> simp_all

end Sys2Proof.Machine
end

