-- ==== Sys2Proof/Laws/Map.lean ====
section
/-! SUPPORT. Laws of the sparse tables: a read after a write, and that every operation keeps the canonical form. -/

namespace Sys2Proof.Machine

/-! ## Reads after writes -/

theorem Table.find?_insert {α : Type} (m : Table α) (k j : Nat) (v : α) :
    (Table.insert k v m).find? j = if j = k then some v else m.find? j := by
  induction m with
  | nil =>
    by_cases h : j = k
    · simp [Table.insert, Table.find?, h]
    · simp [Table.insert, Table.find?, h, Ne.symm h]
  | cons e m ih =>
    obtain ⟨i, w⟩ := e
    by_cases h1 : k < i
    · by_cases h : j = k
      · simp [Table.insert, h1, Table.find?, h]
      · simp [Table.insert, h1, Table.find?, h, Ne.symm h]
    · by_cases h2 : k = i
      · subst h2
        by_cases h : j = k
        · simp [Table.insert, Table.find?, h]
        · simp [Table.insert, Table.find?, h, Ne.symm h]
      · simp only [Table.insert, h1, h2, if_false, Table.find?]
        by_cases h : i = j
        · subst h; simp [Ne.symm h2]
        · simp only [h, if_false, ih]

theorem Table.find?_erase {α : Type} (m : Table α) (k j : Nat) :
    (Table.erase m k).find? j = if j = k then none else m.find? j := by
  unfold Table.erase
  induction m with
  | nil => simp [Table.find?]
  | cons e m ih =>
    obtain ⟨i, w⟩ := e
    by_cases h : i = k
    · subst h
      simp only [List.filter, bne_self_eq_false, ih, Table.find?]
      by_cases h2 : j = i
      · simp [h2]
      · simp [h2, Ne.symm h2]
    · have hb : (i != k) = true := by simp [h]
      simp only [List.filter, hb, Table.find?, ih]
      by_cases h2 : i = j
      · subst h2; simp [h]
      · simp [h2]

/-- A table filtered by its keys. -/
theorem Table.find?_filterKey {α : Type} (m : Table α) (p : Nat → Bool) (j : Nat) :
    Table.find? (m.filter fun e => p e.1) j = if p j = true then m.find? j else none := by
  induction m with
  | nil => simp [Table.find?]
  | cons e m ih =>
    obtain ⟨i, w⟩ := e
    simp only [List.filter]
    by_cases h : p i = true
    · simp only [h, Table.find?, ih]
      by_cases hj : i = j
      · subst hj; simp [h]
      · simp [hj]
    · simp only [h, Table.find?, ih]
      by_cases hj : i = j
      · subst hj; simp [h]
      · simp [hj]

theorem Table.get_insert {α : Type} (d : α) (m : Table α) (k j : Nat) (v : α) :
    (Table.insert k v m).get d j = if j = k then v else m.get d j := by
  induction m with
  | nil =>
    by_cases h : j = k
    · simp [Table.insert, Table.get, h]
    · simp [Table.insert, Table.get, h, Ne.symm h]
  | cons e m ih =>
    obtain ⟨i, w⟩ := e
    by_cases h1 : k < i
    · by_cases h : j = k
      · simp [Table.insert, h1, Table.get, h]
      · simp [Table.insert, h1, Table.get, h, Ne.symm h]
    · by_cases h2 : k = i
      · subst h2
        by_cases h : j = k
        · simp [Table.insert, Table.get, h]
        · simp [Table.insert, Table.get, h, Ne.symm h]
      · simp only [Table.insert, h1, h2, if_false, Table.get]
        by_cases h : i = j
        · subst h; simp [Ne.symm h2]
        · simp only [h, if_false, ih]

theorem Table.get_erase {α : Type} (d : α) (m : Table α) (k j : Nat) :
    (Table.erase m k).get d j = if j = k then d else m.get d j := by
  unfold Table.erase
  induction m with
  | nil => simp [Table.get]
  | cons e m ih =>
    obtain ⟨i, w⟩ := e
    by_cases h : i = k
    · subst h
      simp only [List.filter, bne_self_eq_false, ih, Table.get]
      by_cases h2 : j = i
      · simp [h2]
      · simp [h2, Ne.symm h2]
    · have hb : (i != k) = true := by simp [h]
      simp only [List.filter, hb, Table.get, ih]
      by_cases h2 : i = j
      · subst h2; simp [h]
      · simp [h2]

theorem Table.get_put {α : Type} [DecidableEq α] (d : α) (m : Table α) (k j : Nat) (v : α) :
    (m.put d k v).get d j = if j = k then v else m.get d j := by
  unfold Table.put
  split
  · rename_i h; subst h; rw [Table.get_erase]
  · rw [Table.get_insert]

/-! ## The canonical form -/

theorem Table.mem_insert {α : Type} (m : Table α) (k : Nat) (v : α) (e : Nat × α) (h : e ∈ Table.insert k v m) :
    e = (k, v) ∨ e ∈ m := by
  induction m with
  | nil => simp [Table.insert] at h; exact .inl h
  | cons f m ih =>
    obtain ⟨i, w⟩ := f
    simp only [Table.insert] at h
    split at h
    · simpa using h
    · split at h
      · rcases List.mem_cons.mp h with h | h
        · exact .inl h
        · exact .inr (List.mem_cons_of_mem _ h)
      · rcases List.mem_cons.mp h with h | h
        · exact .inr (h ▸ List.mem_cons_self)
        · rcases ih h with h | h
          · exact .inl h
          · exact .inr (List.mem_cons_of_mem _ h)

theorem Table.rising_insert {α : Type} (m : Table α) (k : Nat) (v : α) (h : (m.map Prod.fst).Pairwise (· < ·)) :
    ((Table.insert k v m).map Prod.fst).Pairwise (· < ·) := by
  induction m with
  | nil => simp [Table.insert]
  | cons e m ih =>
    obtain ⟨i, w⟩ := e
    simp only [List.map_cons, List.pairwise_cons] at h
    simp only [Table.insert]
    split
    · rename_i hk
      simp only [List.map_cons, List.pairwise_cons, List.mem_cons]
      exact ⟨fun a ha => ha.elim (fun x => x ▸ hk) fun x => lt_trans hk (h.1 a x), h⟩
    · split
      · rename_i hk; subst hk
        simpa [List.pairwise_cons] using h
      · rename_i h1 h2
        simp only [List.map_cons, List.pairwise_cons]
        refine ⟨fun a ha => ?_, ih h.2⟩
        obtain ⟨e, he, rfl⟩ := List.mem_map.mp ha
        rcases Table.mem_insert _ _ _ _ he with rfl | he
        · simp only; omega
        · exact h.1 _ (List.mem_map.mpr ⟨e, he, rfl⟩)

theorem Table.rising_filter {α : Type} (m : Table α) (p : Nat × α → Bool) (h : (m.map Prod.fst).Pairwise (· < ·)) :
    ((m.filter p).map Prod.fst).Pairwise (· < ·) :=
  List.Pairwise.sublist (List.Sublist.map _ List.filter_sublist) h

theorem Table.wf_insert {α : Type} (d : α) (m : Table α) (k : Nat) (v : α) (hv : v ≠ d) (h : Table.wf d m) :
    Table.wf d (Table.insert k v m) :=
  ⟨Table.rising_insert m k v h.1, fun e he => (Table.mem_insert m k v e he).elim (fun x => x ▸ hv) (h.2 e)⟩

theorem Table.wf_erase {α : Type} (d : α) (m : Table α) (k : Nat) (h : Table.wf d m) : Table.wf d (Table.erase m k) :=
  ⟨Table.rising_filter m _ h.1, fun e he => h.2 e (List.mem_of_mem_filter he)⟩

theorem Table.wf_put {α : Type} [DecidableEq α] (d : α) (m : Table α) (k : Nat) (v : α) (h : Table.wf d m) :
    Table.wf d (m.put d k v) := by
  unfold Table.put
  split
  · exact Table.wf_erase d m k h
  · rename_i hv; exact Table.wf_insert d m k v hv h

theorem Table.wf_nil {α : Type} (d : α) : Table.wf d ([] : Table α) := ⟨List.Pairwise.nil, fun _ h => nomatch h⟩

end Sys2Proof.Machine
end

