-- ==== Sys2Proof/Laws/Registers.lean ====
section
/-! SUPPORT. Laws of the register file: what a register, a field or a bit reads as after an operation on a register. -/

namespace Sys2Proof.Machine

/-! ## Bits of numbers -/

theorem testBit_mod_word (v i : Nat) (h : i < 32) : (v % 2 ^ 32).testBit i = v.testBit i := by
  rw [Nat.testBit_mod_two_pow]; simp [h]

theorem bitsOf_mod_word (v hi lo : Nat) (h : hi < 32) : bitsOf (v % 2 ^ 32) hi lo = bitsOf v hi lo := by
  unfold bitsOf
  apply Nat.eq_of_testBit_eq
  intro i
  simp only [Nat.testBit_mod_two_pow, Nat.testBit_div_two_pow]
  by_cases hi2 : i < hi + 1 - lo
  · have : i + lo < 32 := by omega
    simp [this]
  · simp [hi2]

theorem or_add_disjoint (a b : Nat) (h : a &&& b = 0) : a ||| b = a + b := by
  have hn : a < 2 ^ (a + b + 1) := lt_of_lt_of_le Nat.lt_two_pow_self (Nat.pow_le_pow_right (by decide) (by omega))
  have hm : b < 2 ^ (a + b + 1) := lt_of_lt_of_le Nat.lt_two_pow_self (Nat.pow_le_pow_right (by decide) (by omega))
  have hs : a + b < 2 ^ (a + b + 1) := lt_of_lt_of_le Nat.lt_two_pow_self (Nat.pow_le_pow_right (by decide) (by omega))
  have := BitVec.add_eq_or_of_and_eq_zero (BitVec.ofNat (a + b + 1) a) (BitVec.ofNat (a + b + 1) b)
    (by rw [← BitVec.ofNat_and, h])
  have := congrArg BitVec.toNat this
  simp [Nat.mod_eq_of_lt hn, Nat.mod_eq_of_lt hm, Nat.mod_eq_of_lt hs] at this
  omega

theorem testBit_sub_and (w m i : Nat) : (w - (w &&& m)).testBit i = (w.testBit i && !m.testBit i) := by
  have h : w - (w &&& m) = w ^^^ (w &&& m) := by
    have hd : (w &&& m) ||| (w ^^^ (w &&& m)) = w := by
      apply Nat.eq_of_testBit_eq
      intro j
      simp only [Nat.testBit_or, Nat.testBit_and, Nat.testBit_xor]
      cases w.testBit j <;> cases m.testBit j <;> rfl
    have hn : (w &&& m) &&& (w ^^^ (w &&& m)) = 0 := by
      apply Nat.eq_of_testBit_eq
      intro j
      simp only [Nat.testBit_and, Nat.testBit_xor, Nat.zero_testBit]
      cases w.testBit j <;> cases m.testBit j <;> rfl
    have hs : (w &&& m) + (w ^^^ (w &&& m)) = w := by
      rw [← or_add_disjoint _ _ hn]; exact hd
    omega
  rw [h]
  simp only [Nat.testBit_xor, Nat.testBit_and]
  cases w.testBit i <;> cases m.testBit i <;> rfl

theorem testBit_two_pow_eq (j i : Nat) : (2 ^ j).testBit i = decide (i = j) := by
  rw [Nat.testBit_two_pow]
  simp [eq_comm]

/-! ## Whole registers -/

theorem Device.reg_setReg (d : Device) (a v : Nat) :
    (d.setReg a v).reg a = if v = resetWord a then v else v % 2 ^ 32 := by
  unfold Device.reg Device.setReg Device.mapPages Pages.reg Pages.setReg
  by_cases h : v = resetWord a
  · simp only [h, if_true, Table.find?_erase]
  · simp only [h, if_false, Table.find?_insert, if_true, BitVec.toNat_ofNat]

theorem Device.reg_setReg_ne (d : Device) (a b v : Nat) (h : b ≠ a) : (d.setReg a v).reg b = d.reg b := by
  unfold Device.reg Device.setReg Device.mapPages Pages.reg Pages.setReg
  by_cases hv : v = resetWord a
  · simp only [hv, if_true, Table.find?_erase, h, if_false]
  · simp only [hv, if_false, Table.find?_insert, h]

theorem Device.reg_mapCyc (d : Device) (f : Cyc → Cyc) (a : Nat) : (d.mapCyc f).reg a = d.reg a := rfl

/-! ## Fields and bits -/

theorem Device.bit_setReg (d : Device) (a v i : Nat) (h : i < 32) : (d.setReg a v).bit a i = v.testBit i := by
  unfold Device.bit bitOf
  rw [Device.reg_setReg]
  split
  · rfl
  · exact testBit_mod_word v i h

theorem Device.bit_setReg_ne (d : Device) (a b v i : Nat) (h : b ≠ a) : (d.setReg a v).bit b i = d.bit b i := by
  unfold Device.bit
  rw [Device.reg_setReg_ne d a b v h]

theorem Device.field_setReg (d : Device) (a v hi lo : Nat) (h : hi < 32) : (d.setReg a v).field a hi lo = bitsOf v hi lo := by
  unfold Device.field
  rw [Device.reg_setReg]
  split
  · rfl
  · exact bitsOf_mod_word v hi lo h

theorem Device.field_setReg_ne (d : Device) (a b v hi lo : Nat) (h : b ≠ a) : (d.setReg a v).field b hi lo = d.field b hi lo := by
  unfold Device.field
  rw [Device.reg_setReg_ne d a b v h]

theorem Device.bit_hwSet (d : Device) (a m i : Nat) (h : i < 32) : (d.hwSet a m).bit a i = (d.bit a i || m.testBit i) := by
  unfold Device.hwSet
  show ((d.setReg a (d.reg a ||| m)).bit a i) = _
  rw [Device.bit_setReg _ _ _ _ h, Nat.testBit_or]
  rfl

theorem Device.reg_hwSet_ne (d : Device) (a b m : Nat) (h : b ≠ a) : (d.hwSet a m).reg b = d.reg b :=
  Device.reg_setReg_ne d a b _ h

theorem Device.bit_clearBits (d : Device) (a m i : Nat) (h : i < 32) :
    (d.clearBits a m).bit a i = (d.bit a i && !m.testBit i) := by
  unfold Device.clearBits
  rw [Device.bit_setReg _ _ _ _ h, testBit_sub_and]
  rfl

theorem Device.reg_clearBits_ne (d : Device) (a b m : Nat) (h : b ≠ a) : (d.clearBits a m).reg b = d.reg b :=
  Device.reg_setReg_ne d a b _ h

theorem Device.bit_commandStart (d : Device) (a req i : Nat) (h : i < 32) :
    (d.commandStart a req).bit a i = (d.bit a i || decide (i = req)) := by
  unfold Device.commandStart
  rw [Device.bit_setReg _ _ _ _ h, Nat.testBit_or, testBit_two_pow_eq]
  rfl

theorem Device.reg_commandStart_ne (d : Device) (a b req : Nat) (h : b ≠ a) : (d.commandStart a req).reg b = d.reg b :=
  Device.reg_setReg_ne d a b _ h

theorem Device.bit_commandEnd (d : Device) (a req done i : Nat) (h : i < 32) :
    (d.commandEnd a req done).bit a i = ((d.bit a i && !decide (i = req)) || decide (i = done)) := by
  unfold Device.commandEnd
  rw [Device.bit_hwSet _ _ _ _ h, Device.bit_clearBits _ _ _ _ h, testBit_two_pow_eq, testBit_two_pow_eq]

theorem Device.reg_commandEnd_ne (d : Device) (a b req done : Nat) (h : b ≠ a) :
    (d.commandEnd a req done).reg b = d.reg b := by
  unfold Device.commandEnd
  rw [Device.reg_hwSet_ne _ _ _ _ h, Device.reg_clearBits_ne _ _ _ _ h]

/-- A bit of a field. -/
theorem testBit_bitsOf (w hi lo i : Nat) : (bitsOf w hi lo).testBit i = (decide (i < hi + 1 - lo) && w.testBit (i + lo)) := by
  unfold bitsOf
  rw [Nat.testBit_mod_two_pow, Nat.testBit_div_two_pow]

/-- A number with a field replaced, bit by bit. -/
theorem testBit_putBits (w hi lo v i : Nat) (h : lo ≤ hi) :
    (putBits w hi lo v).testBit i = if lo ≤ i ∧ i ≤ hi then v.testBit (i - lo) else w.testBit i := by
  have hp : 0 < 2 ^ lo := Nat.two_pow_pos lo
  have hq : 0 < 2 ^ (hi + 1 - lo) := Nat.two_pow_pos _
  have he : putBits w hi lo v
      = 2 ^ lo * (2 ^ (hi + 1 - lo) * (w / 2 ^ lo / 2 ^ (hi + 1 - lo)) + v % 2 ^ (hi + 1 - lo)) + w % 2 ^ lo := by
    unfold putBits bitsOf
    generalize hn : hi + 1 - lo = n
    have h1 := Nat.div_add_mod w (2 ^ lo)
    have h2 := Nat.div_add_mod (w / 2 ^ lo) (2 ^ n)
    have h4 : w - w / 2 ^ lo % 2 ^ n * 2 ^ lo = 2 ^ lo * (2 ^ n * (w / 2 ^ lo / 2 ^ n)) + w % 2 ^ lo := by
      have h5 : w = 2 ^ lo * (2 ^ n * (w / 2 ^ lo / 2 ^ n)) + 2 ^ lo * (w / 2 ^ lo % 2 ^ n) + w % 2 ^ lo := by
        rw [← Nat.mul_add, h2, h1]
      have h6 : w / 2 ^ lo % 2 ^ n * 2 ^ lo = 2 ^ lo * (w / 2 ^ lo % 2 ^ n) := Nat.mul_comm _ _
      omega
    rw [h4]; ring
  rw [he, Nat.testBit_two_pow_mul_add _ (Nat.mod_lt _ hp), Nat.testBit_mod_two_pow]
  by_cases h1 : i < lo
  · have : ¬ (lo ≤ i ∧ i ≤ hi) := by omega
    simp [h1, this]
  · simp only [h1, if_false]
    rw [Nat.testBit_two_pow_mul_add _ (Nat.mod_lt _ hq)]
    by_cases h2 : i - lo < hi + 1 - lo
    · have : lo ≤ i ∧ i ≤ hi := by omega
      simp only [h2, if_true, this, Nat.testBit_mod_two_pow, decide_true, Bool.true_and, and_self]
    · have : ¬ (lo ≤ i ∧ i ≤ hi) := by omega
      simp only [h2, if_false, this, Nat.testBit_div_two_pow]
      congr 1
      omega

theorem bitsOf_putBits (w hi lo v : Nat) (h : lo ≤ hi) : bitsOf (putBits w hi lo v) hi lo = v % 2 ^ (hi + 1 - lo) := by
  apply Nat.eq_of_testBit_eq
  intro i
  rw [testBit_bitsOf, testBit_putBits _ _ _ _ _ h, Nat.testBit_mod_two_pow]
  by_cases h1 : i < hi + 1 - lo
  · have : lo ≤ i + lo ∧ i + lo ≤ hi := by omega
    simp [h1, this]
  · simp [h1]

/-- A field apart from the one that changes keeps its value. -/
theorem bitsOf_putBits_apart (w hi lo v hi2 lo2 : Nat) (h : lo ≤ hi) (ha : hi2 < lo ∨ hi < lo2) :
    bitsOf (putBits w hi lo v) hi2 lo2 = bitsOf w hi2 lo2 := by
  apply Nat.eq_of_testBit_eq
  intro i
  rw [testBit_bitsOf, testBit_bitsOf, testBit_putBits _ _ _ _ _ h]
  by_cases h1 : i < hi2 + 1 - lo2
  · have : ¬ (lo ≤ i + lo2 ∧ i + lo2 ≤ hi) := by omega
    simp [h1, this]
  · simp [h1]

theorem Device.bit_setField (d : Device) (a hi lo v i : Nat) (h : lo ≤ hi) (h32 : i < 32) :
    (d.setField a hi lo v).bit a i = if lo ≤ i ∧ i ≤ hi then v.testBit (i - lo) else d.bit a i := by
  unfold Device.setField
  rw [Device.bit_setReg _ _ _ _ h32, testBit_putBits _ _ _ _ _ h]
  rfl

theorem Device.field_setField (d : Device) (a hi lo v : Nat) (h : lo ≤ hi) (h32 : hi < 32) :
    (d.setField a hi lo v).field a hi lo = v % 2 ^ (hi + 1 - lo) := by
  unfold Device.setField
  rw [Device.field_setReg _ _ _ _ _ h32, bitsOf_putBits _ _ _ _ h]

theorem Device.field_setField_apart (d : Device) (a hi lo v hi2 lo2 : Nat) (h : lo ≤ hi) (h32 : hi2 < 32) (ha : hi2 < lo ∨ hi < lo2) :
    (d.setField a hi lo v).field a hi2 lo2 = d.field a hi2 lo2 := by
  unfold Device.setField
  rw [Device.field_setReg _ _ _ _ _ h32, bitsOf_putBits_apart _ _ _ _ _ _ h ha]
  rfl

theorem Device.reg_setField_ne (d : Device) (a b hi lo v : Nat) (h : b ≠ a) : (d.setField a hi lo v).reg b = d.reg b :=
  Device.reg_setReg_ne d a b _ h

/-- A result register shows the code it took. -/
theorem Device.field_setResult (d : Device) (a c : Nat) : (d.setResult a c).field a 23 16 = c % 256 := by
  unfold Device.setResult
  exact Device.field_setField _ _ _ _ _ (by decide) (by decide)

theorem Device.reg_setResult_ne (d : Device) (a b c : Nat) (h : b ≠ a) : (d.setResult a c).reg b = d.reg b := by
  unfold Device.setResult
  rw [Device.reg_setField_ne _ _ _ _ _ _ h, Device.reg_setField_ne _ _ _ _ _ _ h]

theorem Device.reg_setReg_zero (d : Device) (a : Nat) : (d.setReg a 0).reg a = 0 := by rw [Device.reg_setReg]; simp

/-- The note of a write changes no register, and nothing outside the record of the cycle. -/
@[simp] theorem Device.noteWrite_regs (d : Device) (a : Nat) : (d.noteWrite a).pages.regs = d.pages.regs := rfl
@[simp] theorem Device.noteWrite_hiCap (d : Device) (a : Nat) : (d.noteWrite a).pages.hiCap = d.pages.hiCap := rfl
@[simp] theorem Device.noteWrite_snaps (d : Device) (a : Nat) : (d.noteWrite a).pages.snaps = d.pages.snaps := rfl
@[simp] theorem Device.noteWrite_resetting (d : Device) (a : Nat) : (d.noteWrite a).pages.resetting = d.pages.resetting := rfl
@[simp] theorem Device.reg_noteWrite (d : Device) (a b : Nat) : (d.noteWrite a).reg b = d.reg b := rfl
@[simp] theorem Device.bit_noteWrite (d : Device) (a b i : Nat) : (d.noteWrite a).bit b i = d.bit b i := rfl
@[simp] theorem Device.field_noteWrite (d : Device) (a b hi lo : Nat) : (d.noteWrite a).field b hi lo = d.field b hi lo := rfl

end Sys2Proof.Machine
end

