-- ==== Sys2Proof/Laws/Signals.lean ====
section
/-! SUPPORT. Laws of signals: operations that change registers alone, the bits they leave, and the registers they keep. -/

namespace Sys2Proof.Machine

/-- A command completes with the device its meaning gives. -/
theorem does_of {c : Instr} {s : State} {P : Device → Prop} (d : Device) (h : exec c s = s.done d) (hp : P d) : Does c s P :=
  ⟨_, h, rfl, hp⟩

/-! ## Registers alone -/

@[simp] theorem Device.onlyRegs_refl (d : Device) : d.onlyRegs d := rfl

theorem Device.onlyRegs_trans {a b c : Device} (h1 : a.onlyRegs b) (h2 : b.onlyRegs c) : a.onlyRegs c := by
  unfold Device.onlyRegs at *
  rw [h2, h1]

@[simp] theorem Device.onlyRegs_mapPages (d t : Device) (f : Pages → Pages) (h : d.onlyRegs t) : d.onlyRegs (t.mapPages f) :=
  Device.onlyRegs_trans h rfl
@[simp] theorem Device.onlyRegs_mapCyc (d t : Device) (f : Cyc → Cyc) (h : d.onlyRegs t) : d.onlyRegs (t.mapCyc f) :=
  Device.onlyRegs_trans h rfl
@[simp] theorem Device.onlyRegs_noteWrite (d t : Device) (a : Nat) (h : d.onlyRegs t) : d.onlyRegs (t.noteWrite a) :=
  Device.onlyRegs_trans h rfl

@[simp] theorem Device.onlyRegs_setReg (d t : Device) (a v : Nat) (h : d.onlyRegs t) : d.onlyRegs (t.setReg a v) :=
  Device.onlyRegs_trans h rfl
@[simp] theorem Device.onlyRegs_setField (d t : Device) (a hi lo v : Nat) (h : d.onlyRegs t) : d.onlyRegs (t.setField a hi lo v) :=
  Device.onlyRegs_trans h rfl
@[simp] theorem Device.onlyRegs_clearBits (d t : Device) (a m : Nat) (h : d.onlyRegs t) : d.onlyRegs (t.clearBits a m) :=
  Device.onlyRegs_trans h rfl
@[simp] theorem Device.onlyRegs_hwSet (d t : Device) (a m : Nat) (h : d.onlyRegs t) : d.onlyRegs (t.hwSet a m) :=
  Device.onlyRegs_trans h rfl
@[simp] theorem Device.onlyRegs_addCnt (d t : Device) (a hi lo n : Nat) (b : Bool) (h : d.onlyRegs t) :
    d.onlyRegs (t.addCnt a hi lo n b) := Device.onlyRegs_trans h rfl
@[simp] theorem Device.onlyRegs_writeLost (d t : Device) (a : Nat) (h : d.onlyRegs t) : d.onlyRegs (t.writeLost a) :=
  Device.onlyRegs_trans h rfl
@[simp] theorem Device.onlyRegs_emit (d t : Device) (o : Output) (h : d.onlyRegs t) : d.onlyRegs (t.emit o) :=
  Device.onlyRegs_trans h rfl
@[simp] theorem Device.onlyRegs_ite (d : Device) (c : Prop) [Decidable c] (a b : Device) (ha : d.onlyRegs a) (hb : d.onlyRegs b) :
    d.onlyRegs (if c then a else b) := by split <;> assumption
@[simp] theorem Device.onlyRegs_foldl {α : Type} (d t : Device) (f : Device → α → Device) (l : List α) (h : d.onlyRegs t)
    (hf : ∀ t x, d.onlyRegs t → d.onlyRegs (f t x)) : d.onlyRegs (l.foldl f t) := by
  induction l generalizing t with
  | nil => exact h
  | cons x l ih => exact ih _ (hf _ _ h)
@[simp] theorem Device.onlyRegs_rwhClash (d t : Device) (a : Nat) (h : d.onlyRegs t) : d.onlyRegs (t.rwhClash a) := by
  unfold Device.rwhClash; split <;> simp [h]
@[simp] theorem Device.onlyRegs_hwLoad (d t : Device) (a v : Nat) (h : d.onlyRegs t) : d.onlyRegs (t.hwLoad a v) := by
  unfold Device.hwLoad; simp (maxDischargeDepth := 20) [h]
@[simp] theorem Device.onlyRegs_sendMsix (d t : Device) (fn v : Nat) (h : d.onlyRegs t) : d.onlyRegs (t.sendMsix fn v) := by
  unfold Device.sendMsix
  extract_lets e
  split
  · exact Device.onlyRegs_trans h rfl
  · simp (maxDischargeDepth := 20) [h]
@[simp] theorem Device.onlyRegs_signalPage (d t : Device) (b : Nat) (h : d.onlyRegs t) : d.onlyRegs (t.signalPage b) := by
  unfold Device.signalPage
  (repeat' split) <;> simp (maxDischargeDepth := 20) [h]
@[simp] theorem Device.onlyRegs_raiseMask (d t : Device) (b m : Nat) (h : d.onlyRegs t) : d.onlyRegs (t.raiseMask b m) := by
  unfold Device.raiseMask
  simp (maxDischargeDepth := 20) [h]
@[simp] theorem Device.onlyRegs_raiseInt (d t : Device) (p : Page) (n i : Nat) (h : d.onlyRegs t) : d.onlyRegs (t.raiseInt p n i) := by
  unfold Device.raiseInt; simp (maxDischargeDepth := 20) [h]
@[simp] theorem Device.onlyRegs_commandStart (d t : Device) (a r : Nat) (h : d.onlyRegs t) : d.onlyRegs (t.commandStart a r) := by
  unfold Device.commandStart; simp (maxDischargeDepth := 20) [h]
@[simp] theorem Device.onlyRegs_commandEnd (d t : Device) (a r o : Nat) (h : d.onlyRegs t) : d.onlyRegs (t.commandEnd a r o) := by
  unfold Device.commandEnd; simp (maxDischargeDepth := 20) [h]
@[simp] theorem Device.onlyRegs_setResult (d t : Device) (a c : Nat) (h : d.onlyRegs t) : d.onlyRegs (t.setResult a c) := by
  unfold Device.setResult; simp (maxDischargeDepth := 20) [h]
@[simp] theorem Device.onlyRegs_progStart (d t : Device) (b op n : Nat) (h : d.onlyRegs t) : d.onlyRegs (t.progStart b op n) := by
  unfold Device.progStart; simp (maxDischargeDepth := 20) [h]
@[simp] theorem Device.onlyRegs_progPos (d t : Device) (b n : Nat) (h : d.onlyRegs t) : d.onlyRegs (t.progPos b n) := by
  unfold Device.progPos; simp (maxDischargeDepth := 20) [h]
@[simp] theorem Device.onlyRegs_progEnd (d t : Device) (b : Nat) (x : Bool) (h : d.onlyRegs t) : d.onlyRegs (t.progEnd b x) := by
  unfold Device.progEnd; simp (maxDischargeDepth := 20) [h]
@[simp] theorem Device.onlyRegs_w1c (d t : Device) (a m : Nat) (h : d.onlyRegs t) : d.onlyRegs (t.w1c a m) := by
  unfold Device.w1c; simp (maxDischargeDepth := 20) [h]
@[simp] theorem Device.onlyRegs_storeWords (d t : Device) (a n : Nat) (bs : Bytes) (h : d.onlyRegs t) :
    d.onlyRegs (t.storeWords a n bs) := by
  unfold Device.storeWords
  exact Device.onlyRegs_foldl _ _ _ _ h fun t x ht => by simp (maxDischargeDepth := 20) [ht]
@[simp] theorem Device.onlyRegs_bumpCounter (d t : Device) (p : Page) (n v o b i : Nat) (h : d.onlyRegs t) :
    d.onlyRegs (t.bumpCounter p n v o b i) := by
  unfold Device.bumpCounter; simp (maxDischargeDepth := 20) [h]
@[simp] theorem Device.onlyRegs_countEvent (d t : Device) (v : Option Nat) (e i : Nat) (h : d.onlyRegs t) :
    d.onlyRegs (t.countEvent v e i) := by
  have hp : ∀ w, d.onlyRegs t → d.onlyRegs ((List.range 64).foldl (Device.pfCounter w e i) t) := fun w h =>
    Device.onlyRegs_foldl _ _ _ _ h fun t x ht => by unfold Device.pfCounter; (repeat' split) <;> simp (maxDischargeDepth := 20) [ht]
  have hv : ∀ w t, d.onlyRegs t → d.onlyRegs ((List.range 8).foldl (Device.vfCounter w e i) t) := fun w t h =>
    Device.onlyRegs_foldl _ _ _ _ h fun t x ht => by unfold Device.vfCounter; (repeat' split) <;> simp (maxDischargeDepth := 20) [ht]
  unfold Device.countEvent
  (repeat' split) <;> simp_all (maxDischargeDepth := 20)

/-! ## Registers kept -/

@[simp] theorem Device.reg_emit (d : Device) (o : Output) (b : Nat) : (d.emit o).reg b = d.reg b := rfl
@[simp] theorem Device.reg_mapFront (d : Device) (f : Front → Front) (b : Nat) : (d.mapFront f).reg b = d.reg b := rfl
@[simp] theorem Device.reg_sendMsix (d : Device) (fn v b : Nat) : (d.sendMsix fn v).reg b = d.reg b := by
  unfold Device.sendMsix; extract_lets e; split <;> rfl
@[simp] theorem Device.reg_signalPage (d : Device) (x b : Nat) : (d.signalPage x).reg b = d.reg b := by
  unfold Device.signalPage; (repeat' split) <;> simp
theorem Device.reg_raiseMask (d : Device) (x m b : Nat) : (d.raiseMask x m).reg b = (d.hwSet (x + 0x10) m).reg b := by
  unfold Device.raiseMask; extract_lets was d'; split
  · exact Device.reg_signalPage _ _ _
  · rfl
theorem Device.reg_raiseInt_ne (d : Device) (p : Page) (n i b : Nat) (h : b ≠ p.base n + 0x10) :
    (d.raiseInt p n i).reg b = d.reg b := by
  unfold Device.raiseInt
  rw [Device.reg_raiseMask, Device.reg_hwSet_ne _ _ _ _ h]
theorem Device.bit_raiseInt (d : Device) (p : Page) (n i j : Nat) (h : j < 32) :
    (d.raiseInt p n i).bit (p.base n + 0x10) j = (d.bit (p.base n + 0x10) j || decide (j = i)) := by
  unfold Device.raiseInt Device.bit
  rw [Device.reg_raiseMask]
  have := Device.bit_hwSet d (p.base n + 0x10) (2 ^ i) j h
  unfold Device.bit at this
  rw [this, testBit_two_pow_eq]
theorem Device.bit_raiseInt_ne (d : Device) (p : Page) (n i b j : Nat) (h : b ≠ p.base n + 0x10) :
    (d.raiseInt p n i).bit b j = d.bit b j := by
  unfold Device.bit; rw [Device.reg_raiseInt_ne d p n i b h]
theorem Device.field_raiseInt_ne (d : Device) (p : Page) (n i b hi lo : Nat) (h : b ≠ p.base n + 0x10) :
    (d.raiseInt p n i).field b hi lo = d.field b hi lo := by
  unfold Device.field; rw [Device.reg_raiseInt_ne d p n i b h]
theorem Device.field_commandEnd_ne (d : Device) (a b r o hi lo : Nat) (h : b ≠ a) :
    (d.commandEnd a r o).field b hi lo = d.field b hi lo := by
  unfold Device.field; rw [Device.reg_commandEnd_ne d a b r o h]
theorem Device.bit_clearBits_ne (d : Device) (a b m j : Nat) (h : b ≠ a) : (d.clearBits a m).bit b j = d.bit b j := by
  unfold Device.bit; rw [Device.reg_clearBits_ne d a b m h]
theorem Device.bit_hwSet_ne (d : Device) (a b m j : Nat) (h : b ≠ a) : (d.hwSet a m).bit b j = d.bit b j := by
  unfold Device.bit; rw [Device.reg_hwSet_ne d a b m h]
theorem Device.bit_commandStart_ne (d : Device) (a b r j : Nat) (h : b ≠ a) : (d.commandStart a r).bit b j = d.bit b j := by
  unfold Device.bit; rw [Device.reg_commandStart_ne d a b r h]
theorem Device.bit_commandEnd_ne (d : Device) (a b r o j : Nat) (h : b ≠ a) : (d.commandEnd a r o).bit b j = d.bit b j := by
  unfold Device.bit; rw [Device.reg_commandEnd_ne d a b r o h]

/-! ## Soft resets that run -/

section
variable (d : Device)
@[simp] theorem Device.resetting_setReg (a v : Nat) : (d.setReg a v).pages.resetting = d.pages.resetting := rfl
@[simp] theorem Device.resetting_setField (a hi lo v : Nat) : (d.setField a hi lo v).pages.resetting = d.pages.resetting := rfl
@[simp] theorem Device.resetting_clearBits (a m : Nat) : (d.clearBits a m).pages.resetting = d.pages.resetting := rfl
@[simp] theorem Device.resetting_hwSet (a m : Nat) : (d.hwSet a m).pages.resetting = d.pages.resetting := rfl
@[simp] theorem Device.resetting_addCnt (a hi lo n : Nat) (b : Bool) : (d.addCnt a hi lo n b).pages.resetting = d.pages.resetting := rfl
@[simp] theorem Device.resetting_emit (o : Output) : (d.emit o).pages.resetting = d.pages.resetting := rfl
@[simp] theorem Device.resetting_mapFront (f : Front → Front) : (d.mapFront f).pages.resetting = d.pages.resetting := rfl
@[simp] theorem Device.resetting_mapCust (f : Custody → Custody) : (d.mapCust f).pages.resetting = d.pages.resetting := rfl
@[simp] theorem Device.resetting_mapPins (f : Pins → Pins) : (d.mapPins f).pages.resetting = d.pages.resetting := rfl
@[simp] theorem Device.resetting_sendMsix (fn v : Nat) : (d.sendMsix fn v).pages.resetting = d.pages.resetting := by
  unfold Device.sendMsix; extract_lets; split <;> rfl
@[simp] theorem Device.resetting_signalPage (x : Nat) : (d.signalPage x).pages.resetting = d.pages.resetting := by
  unfold Device.signalPage; (repeat' split) <;> simp
@[simp] theorem Device.resetting_raiseMask (x m : Nat) : (d.raiseMask x m).pages.resetting = d.pages.resetting := by
  unfold Device.raiseMask; extract_lets was d'; split
  · exact Device.resetting_signalPage d' x
  · rfl
@[simp] theorem Device.resetting_raiseInt (p : Page) (n i : Nat) : (d.raiseInt p n i).pages.resetting = d.pages.resetting := by
  unfold Device.raiseInt; simp
@[simp] theorem Device.resetting_commandStart (a r : Nat) : (d.commandStart a r).pages.resetting = d.pages.resetting := by
  unfold Device.commandStart; rw [Device.resetting_setReg]
@[simp] theorem Device.resetting_commandEnd (a r o : Nat) : (d.commandEnd a r o).pages.resetting = d.pages.resetting := by
  unfold Device.commandEnd; rw [Device.resetting_hwSet, Device.resetting_clearBits]
@[simp] theorem Device.resetting_setResult (a c : Nat) : (d.setResult a c).pages.resetting = d.pages.resetting := by
  unfold Device.setResult; rw [Device.resetting_setField, Device.resetting_setField]
@[simp] theorem Device.resetting_progEnd (b : Nat) (x : Bool) : (d.progEnd b x).pages.resetting = d.pages.resetting := by
  unfold Device.progEnd; split
  · exact Device.resetting_setField _ _ _ _ _
  · rfl
@[simp] theorem Device.resetting_storeWords (a n : Nat) (bs : Bytes) : (d.storeWords a n bs).pages.resetting = d.pages.resetting := by
  unfold Device.storeWords
  generalize List.range n = l
  induction l generalizing d with
  | nil => rfl
  | cons x l ih => rw [List.foldl_cons, ih, Device.resetting_setReg]
@[simp] theorem Device.resetting_placeFrame : d.placeFrame.pages.resetting = d.pages.resetting := by
  unfold Device.placeFrame
  extract_lets
  split
  · rfl
  · split
    · rfl
    · rw [Device.resetting_raiseInt, Device.resetting_hwSet, Device.resetting_storeWords, Device.resetting_mapCust]
end

/-- A number taken out of a set. -/
theorem NatSet.mem_erase (s : NatSet) (k j : Nat) : NatSet.mem (Table.erase s k) j = (s.mem j && decide (j ≠ k)) := by
  unfold NatSet.mem Table.has Table.erase
  induction s with
  | nil => rfl
  | cons e m ih =>
    simp only [List.filter]
    by_cases h : e.1 = k
    · have : (e.1 != k) = false := by simp [h]
      rw [this]; simp only [List.any_cons, ih]
      by_cases hj : j = k
      · simp [hj]
      · have : (e.1 == j) = false := by simp [h]; exact fun x => hj x.symm
        simp [this, hj]
    · have : (e.1 != k) = true := by simp [h]
      rw [this]; simp only [List.any_cons, ih]
      by_cases hj : j = k
      · subst hj; simp [h]
      · simp [hj]

/-- A lost write counts, and changes no other register. -/
theorem Device.field_writeLost (d : Device) (a : Nat) :
    (d.writeLost a).field (a / 0x1000 * 0x1000 + 0x0C) 23 16 = min (d.field (a / 0x1000 * 0x1000 + 0x0C) 23 16 + 1) 255 := by
  unfold Device.writeLost Device.addCnt
  show (d.setField _ 23 16 _).field _ 23 16 = _
  rw [Device.field_setField _ _ _ _ _ (by decide) (by decide)]
  simp only [if_true]
  omega
/-- The page alone says where a lost write counts. -/
theorem Device.writeLost_page (d : Device) (a b : Nat) (h : a / 0x1000 = b / 0x1000) : d.writeLost a = d.writeLost b := by
  unfold Device.writeLost; rw [h]

theorem Device.reg_writeLost_ne (d : Device) (a b : Nat) (h : b ≠ a / 0x1000 * 0x1000 + 0x0C) : (d.writeLost a).reg b = d.reg b := by
  unfold Device.writeLost Device.addCnt
  show (d.setField _ 23 16 _).reg b = _
  exact Device.reg_setField_ne _ _ _ _ _ _ h

/-- A return to reset values touches WRITE_LOST of pages and the record of the cycle alone. -/
theorem Device.noteReturn_cases (d : Device) (lo hi : Nat) : d.noteReturn lo hi = { d with pages := (d.noteReturn lo hi).pages } ∧
    (∀ a, a % 0x1000 ≠ 0x0C → (d.noteReturn lo hi).reg a = d.reg a) ∧ (d.noteReturn lo hi).pages.resetting = d.pages.resetting := by
  unfold Device.noteReturn
  have key : ∀ (l : List Nat) (e : Device), e = { d with pages := e.pages } →
      (∀ a, a % 0x1000 ≠ 0x0C → e.reg a = d.reg a) → e.pages.resetting = d.pages.resetting →
      l.foldl (fun d a => d.writeLost a) e = { d with pages := (l.foldl (fun d a => d.writeLost a) e).pages } ∧
      (∀ a, a % 0x1000 ≠ 0x0C → (l.foldl (fun d a => d.writeLost a) e).reg a = d.reg a) ∧
      (l.foldl (fun d a => d.writeLost a) e).pages.resetting = d.pages.resetting := by
    intro l
    induction l with
    | nil => intro e h1 h2 h3; exact ⟨h1, h2, h3⟩
    | cons x l ih =>
      intro e h1 h2 h3
      refine ih (e.writeLost x) ?_ ?_ h3
      · rw [h1]; rfl
      · intro a ha
        rw [Device.reg_writeLost_ne _ _ _ (by omega)]
        exact h2 a ha
  exact key _ _ rfl (fun _ _ => rfl) rfl

theorem Device.reg_noteReturn (d : Device) (lo hi a : Nat) (h : a % 0x1000 ≠ 0x0C) : (d.noteReturn lo hi).reg a = d.reg a :=
  (d.noteReturn_cases lo hi).2.1 a h

@[simp] theorem Device.resetting_noteReturn (d : Device) (lo hi : Nat) : (d.noteReturn lo hi).pages.resetting = d.pages.resetting :=
  (d.noteReturn_cases lo hi).2.2

@[simp] theorem Device.onlyRegs_noteReturn (d t : Device) (lo hi : Nat) (h : d.onlyRegs t) : d.onlyRegs (t.noteReturn lo hi) := by
  rw [(t.noteReturn_cases lo hi).1]
  exact Device.onlyRegs_trans h rfl

/-- What a soft reset that starts does before the page's own part. -/
theorem Device.softStart_cases (d : Device) (base : Nat) (f : Device → Device) (hb : base % 0x1000 = 0) :
    (d.writeBarred (base + 8) = true ∨ d.bit (base + 8) 2 = true → d.softStart base f = d.writeLost base) ∧
    (¬(d.writeBarred (base + 8) = true ∨ d.bit (base + 8) 2 = true) → ∃ e : Device, d.softStart base f = f e ∧ d.onlyRegs e ∧
      e.pages.resetting = d.pages.resetting.add base ∧ e.bit (base + 8) 1 = true ∧
      (∀ k, k ≠ base + 8 → k ≠ base + Off.progOp → e.reg k = d.reg k)) := by
  constructor
  · intro h
    unfold Device.softStart Device.onCommand
    by_cases h3 : d.writeBarred (base + 8) = true
    · rw [if_pos h3]
      exact d.writeLost_page _ _ (by omega)
    · rw [if_neg h3]
      exact if_pos (by simpa [h3] using h)
  · intro h
    simp only [not_or] at h
    refine ⟨((d.commandStart (base + 8) 1).mapPages fun p => { p with resetting := p.resetting.add base }).progEnd base true, ?_, ?_, ?_, ?_, ?_⟩
    · unfold Device.softStart Device.onCommand
      rw [if_neg h.1]
      exact if_neg h.2
    · apply Device.onlyRegs_progEnd
      apply Device.onlyRegs_mapPages
      apply Device.onlyRegs_commandStart
      exact Device.onlyRegs_refl d
    · rw [Device.resetting_progEnd]; rfl
    · have hb2 : ∀ e : Device, e.bit (base + 8) 1 = true → (e.progEnd base true).bit (base + 8) 1 = true := by
        intro e he
        unfold Device.progEnd
        split
        · unfold Device.setField
          rw [Device.bit_setReg_ne _ _ _ _ _ (by show base + 8 ≠ base + 0x34; omega)]
          exact he
        · exact he
      apply hb2
      show (d.commandStart (base + 8) 1).bit (base + 8) 1 = true
      rw [Device.bit_commandStart _ _ _ _ (by decide)]; simp
    · intro k hk hk2
      have h3 : ∀ e : Device, (e.progEnd base true).reg k = e.reg k := by
        intro e
        unfold Device.progEnd
        split
        · exact Device.reg_setField_ne _ _ _ _ _ _ hk2
        · rfl
      rw [h3]
      show (d.commandStart (base + 8) 1).reg k = _
      exact Device.reg_commandStart_ne _ _ _ _ hk

theorem Device.onlyRegs_fields {d t : Device} (h : d.onlyRegs t) : t.power = d.power ∧ t.sched = d.sched ∧ t.units = d.units ∧ t.keys = d.keys
    ∧ t.store = d.store ∧ t.dom = d.dom ∧ t.tamp = d.tamp ∧ t.sources = d.sources ∧ t.front.qps = d.front.qps ∧ t.front.vfs = d.front.vfs := by
  unfold Device.onlyRegs at h
  rw [h]
  exact ⟨rfl, rfl, rfl, rfl, rfl, rfl, rfl, rfl, rfl, rfl⟩

end Sys2Proof.Machine
end

