-- ==== Sys2Proof/Laws/Shared.lean ====
section
/-! SUPPORT. What shared operations do, said once: words stored, draws, the power path, causes that follow a condition. -/

namespace Sys2Proof.Machine

theorem Mode.off_iff (m : Mode) : (m == .quarantine || m == .zeroized) = decide (m = .quarantine ∨ m = .zeroized) := by
  cases m <;> decide

theorem Device.reg_storeWords_ne (a n : Nat) (bs : Bytes) (d : Device) (b : Nat) (h : ∀ i, i < n → b ≠ a + 4 * i) : (d.storeWords a n bs).reg b = d.reg b := by
  unfold Device.storeWords
  have : ∀ (l : List Nat) (d : Device), (∀ i ∈ l, i < n) → (l.foldl (fun d i => d.setReg (a + 4 * i) (leNat (slice bs (4 * i) 4))) d).reg b = d.reg b := by
    intro l
    induction l with
    | nil => intro d _; rfl
    | cons x l ih =>
      intro d hl
      rw [List.foldl_cons, ih _ (fun i hi => hl i (List.mem_cons_of_mem _ hi))]
      exact Device.reg_setReg_ne _ _ _ _ (h x (hl x List.mem_cons_self))
  exact this _ _ (fun i hi => List.mem_range.mp hi)

theorem leNat_zeros (n : Nat) : leNat (zeros n) = 0 := by
  unfold zeros
  induction n with
  | zero => rfl
  | succ n ih => rw [List.replicate_succ]; show (0#8).toNat + 256 * leNat (List.replicate n 0) = 0; rw [ih]; rfl

theorem slice_zeros (n off k : Nat) : slice (zeros n) off k = zeros k := by
  unfold slice padTo zeros
  rw [List.drop_replicate, ← List.replicate_add, List.take_replicate]
  congr 1; omega

theorem Device.reg_storeZeros (a n : Nat) (d : Device) (j : Nat) (hj : j < n) : (d.storeWords a n (zeros 32)).reg (a + 4 * j) = 0 := by
  unfold Device.storeWords
  have z : ∀ i, leNat (slice (zeros 32) (4 * i) 4) = 0 := fun i => by rw [slice_zeros, leNat_zeros]
  simp only [z]
  have keep : ∀ (l : List Nat) (d : Device) (b : Nat), d.reg b = 0 → (l.foldl (fun d i => d.setReg (a + 4 * i) 0) d).reg b = 0 := by
    intro l
    induction l with
    | nil => intro d b h; exact h
    | cons x l ih =>
      intro d b h
      apply ih
      by_cases hb : b = a + 4 * x
      · rw [hb]; exact Device.reg_setReg_zero _ _
      · rw [Device.reg_setReg_ne _ _ _ _ hb]; exact h
  have : ∀ (l : List Nat) (d : Device), j ∈ l → (l.foldl (fun d i => d.setReg (a + 4 * i) 0) d).reg (a + 4 * j) = 0 := by
    intro l
    induction l with
    | nil => intro d h; exact absurd h List.not_mem_nil
    | cons x l ih =>
      intro d h
      rw [List.foldl_cons]
      rcases List.mem_cons.mp h with rfl | h
      · exact keep l _ _ (Device.reg_setReg_zero _ _)
      · exact ih _ h
  exact this _ _ (List.mem_range.mpr hj)

theorem Device.drawn_draws (d : Device) : d.drawn.rng.draws = d.rng.draws + 1 := by
  unfold Device.drawn Device.mapRng Rng.count
  simp only

theorem Device.powerStep_power (d : Device) (f : Power → Power) : (d.powerStep f).power = f d.power := by
  unfold Device.powerStep
  extract_lets p d1 q feed other d2
  have h2 : d2.power = f d.power := by
    simp only [d2]; split
    · rw [Device.raiseInt_power]; rfl
    · rfl
  split
  · rw [Device.raiseInt_power, h2]
  · exact h2

theorem Device.onlyRegs_powerStep (d : Device) (f : Power → Power) : (d.mapPower f).onlyRegs (d.powerStep f) := by
  unfold Device.powerStep
  extract_lets p d1 q feed other d2
  have h2 : d1.onlyRegs d2 := by
    simp only [d2]; split
    · exact Device.onlyRegs_raiseInt _ _ _ _ _ (Device.onlyRegs_refl _)
    · exact Device.onlyRegs_refl _
  split
  · exact Device.onlyRegs_raiseInt _ _ _ _ _ h2
  · exact h2

theorem Device.powerStop_facts (d : Device) : d.powerStop.power.st = .stopping ∧ d.powerStop.power.failover = false ∧ d.powerStop.power.stopRecorded = true ∧
    d.powerStop.front.vfEnable = false ∧ d.powerStop.sched.items = [] ∧ d.powerStop.dom.portUp = [false, false] ∧
    d.powerStop.power = { d.power with st := .stopping, failover := false, stopRecorded := true } := by
  have hp : ∀ e : Device, (e.setPowerState .stopping).power = { e.power with st := .stopping } := fun e => Device.raiseInt_power _ _ _ _
  refine ⟨?_, rfl, rfl, ?_, ?_, ?_, ?_⟩
  · unfold Device.powerStop; show (Device.power (Device.setPowerState _ _)).st = _; rw [hp]
  · unfold Device.powerStop Device.setPowerState; show (Device.front (Device.raiseInt _ _ _ _)).vfEnable = _; rw [Device.raiseInt_front_vfEnable]; rfl
  · unfold Device.powerStop Device.setPowerState; show (Device.sched (Device.raiseInt _ _ _ _)).items = _; rw [Device.raiseInt_sched]; rfl
  · unfold Device.powerStop Device.setPowerState; show (Device.dom (Device.raiseInt _ _ _ _)).portUp = _; rw [Device.raiseInt_dom]; rfl
  · unfold Device.powerStop; show { (Device.power (Device.setPowerState _ _)) with failover := false, stopRecorded := true } = _; rw [hp]; rfl

theorem Device.powerStop_causes (d : Device) : d.powerStop.causes = (d.causes.add 0).add 1 := by
  unfold Device.powerStop Device.setPowerState
  show ((Device.raiseInt _ _ _ _).causes.add 0).add 1 = _
  rw [Device.raiseInt_causes]; rfl

theorem Device.setPowerState_power (d : Device) (st : PowerState) : (d.setPowerState st).power = { d.power with st := st } := Device.raiseInt_power _ _ _ _

theorem Device.setPowerState_units (d : Device) (st : PowerState) : (d.setPowerState st).units = d.units := Device.raiseInt_units _ _ _ _

theorem Table.get_mapD {α : Type} [DecidableEq α] (dflt : α) (f : α → α) (t : Table α) (i : Nat) (P : α → Prop) (hd : P dflt) (hf : ∀ x, P (f x)) :
    P ((t.mapD dflt fun _ x => f x).get dflt i) := by
  have key : ∀ (l : Table α), (∀ e ∈ l, P e.2) → P (Table.get dflt l i) := by
    intro l hl
    induction l with
    | nil => exact hd
    | cons e l ih =>
      obtain ⟨k, v⟩ := e
      unfold Table.get
      split
      · exact hl _ List.mem_cons_self
      · exact ih fun e he => hl e (List.mem_cons_of_mem _ he)
  apply key
  intro e he
  unfold Table.mapD at he
  obtain ⟨x, _, rfl⟩ := List.mem_map.mp (List.mem_filter.mp he).1
  exact hf _

theorem Device.follow_facts (d : Device) (k : Nat) (ok : Bool) : (d.follow k ok).power = d.power ∧ (d.follow k ok).causes.mem k = !ok ∧
    (ok = false → (d.follow k ok).gave (.event k)) ∧ (d.follow k ok).units = d.units ∧ (d.follow k ok).guarded = d.guarded ∧ (ok = true → d.follow k ok = d.holdCause k false) := by
  cases ok with
  | true => exact ⟨rfl, (NatSet.mem_erase _ _ _).trans (by simp), (fun h => by cases h), rfl, rfl, fun _ => rfl⟩
  | false => exact ⟨Device.fault_power _ _, (NatSet.mem_add _ _ _).trans (by simp), fun _ => gave_fault_self d k, Device.fault_units _ _, guarded_follow _ _ _, (fun h => by cases h)⟩

end Sys2Proof.Machine
end

