-- ==== Sys2Proof/Laws/Admission.lean ====
section
/-! SUPPORT. Work items: what completes, settles and is admitted, said once. -/

namespace Sys2Proof.Machine

theorem Device.item_setItem (d : Device) (n : Nat) (x : Item) : (d.setItem n x).item n = some x := by
  show Table.find? (Table.insert n x _) n = _
  rw [Table.find?_insert, if_pos rfl]

theorem Device.ended_finishItem (d : Device) (n : Nat) (x : Item) (st : Status) (k : Nat) (h : d.item n = some x) :
    (d.finishItem n st k).ended n st k := by
  unfold Device.finishItem
  rw [h]
  exact ⟨x.finish (.plain st k), Device.item_setItem d n _, rfl, rfl⟩

theorem Device.ended_refuseAdmission (d : Device) (n : Nat) (x : Item) (st : Status) (h : d.item n = some x) :
    (d.refuseAdmission n st).ended n st 0 := by
  unfold Device.refuseAdmission
  rw [h]
  exact Device.ended_finishItem _ n _ st 0 (Device.item_setItem d n _)

theorem Device.judged_refuseAdmission (d : Device) (n : Nat) (x : Item) (st : Status) (h : d.item n = some x) :
    (d.refuseAdmission n st).judged n .refused (d.delaySince x) := by
  unfold Device.refuseAdmission Device.finishItem
  simp only [h, Device.item_setItem]
  exact ⟨_, Device.item_setItem _ _ _, rfl, rfl⟩

theorem Device.onlySched_refl (d : Device) : d.onlySched d := rfl

theorem Device.onlySched_trans {a b c : Device} (h1 : a.onlySched b) (h2 : b.onlySched c) : a.onlySched c := by
  unfold Device.onlySched at *
  rw [h2, h1]

theorem Device.onlySched_setItem (d t : Device) (n : Nat) (x : Item) (h : d.onlySched t) : d.onlySched (t.setItem n x) := by
  unfold Device.onlySched at *; rw [h]; rfl

theorem Device.onlySched_mapSched (d t : Device) (f : Sched → Sched) (h : d.onlySched t) : d.onlySched (t.mapSched f) := by
  unfold Device.onlySched at *; rw [h]; rfl

theorem Device.onlySched_setPair (d t : Device) (p : Nat) (x : Pair) (h : d.onlySched t) : d.onlySched (t.setPair p x) := by
  unfold Device.onlySched at *; rw [h]; rfl

theorem Device.onlySched_finishItem (d t : Device) (n : Nat) (st : Status) (k : Nat) (h : d.onlySched t) : d.onlySched (t.finishItem n st k) := by
  unfold Device.finishItem
  split
  · exact h
  · exact Device.onlySched_mapSched _ _ _ (Device.onlySched_setItem _ _ _ _ h)

theorem Device.onlySched_refuseAdmission (d t : Device) (n : Nat) (st : Status) (h : d.onlySched t) : d.onlySched (t.refuseAdmission n st) := by
  unfold Device.refuseAdmission
  split
  · exact h
  · exact Device.onlySched_finishItem _ _ _ _ _ (Device.onlySched_setItem _ _ _ _ h)

theorem Device.onlySched_askYield (d t : Device) (n : Nat) (h : d.onlySched t) : d.onlySched (t.askYield n) := by
  unfold Device.askYield
  split
  · exact h
  · split
    · exact h
    · split
      · exact Device.onlySched_setPair _ _ _ _ h
      · exact h

theorem Device.askYield_sched (d : Device) (n : Nat) : (d.askYield n).sched = d.sched := by
  unfold Device.askYield
  split
  · rfl
  · split
    · rfl
    · split <;> rfl

theorem Device.askYield_not (d : Device) (n : Nat) (x : Item) (h : d.item n = some x) (hs : x.stage ≠ .ready ∨ x.exec ≠ .engine) : d.askYield n = d := by
  unfold Device.askYield
  rw [h]
  rcases hs with hs | hs <;> simp [hs]

/-- An item that does not wait does not settle. -/
theorem Device.settleN_still (k : Nat) (d : Device) (n : Nat) (x : Item) (h : d.item n = some x) (hs : x.stage ≠ .waiting) :
    Device.settleN k d n = d := by
  cases k with
  | zero => rfl
  | succ k => unfold Device.settleN; rw [h]; simp [hs]

theorem Device.settle_still (d : Device) (n : Nat) (x : Item) (h : d.item n = some x) (hs : x.stage ≠ .waiting) (hr : x.stage ≠ .ready ∨ x.exec ≠ .engine) :
    d.settle n = d := by
  unfold Device.settle
  rw [Device.settleN_still 6 d n x h hs]
  exact Device.askYield_not d n x h hr

theorem Device.refuse_plain (d : Device) (n : Nat) (x : Item) (st : Status) (k : Nat) (h : d.item n = some x) (hb : x.desc.bundle = false) :
    d.refuse n st k = d.finishItem n st k := by
  unfold Device.refuse
  rw [h]
  simp [hb]

theorem Device.settle_finishItem (d : Device) (n : Nat) (x : Item) (st : Status) (k : Nat) (h : d.item n = some x) :
    (d.finishItem n st k).settle n = d.finishItem n st k := by
  obtain ⟨y, hy, hs, _⟩ := Device.ended_finishItem d n x st k h
  exact Device.settle_still _ n y hy (by rw [hs]; decide) (Or.inl (by rw [hs]; decide))

theorem Device.settled_settle (d : Device) (n : Nat) (y : Item) (h : d.item n = some y) (hb : y.desc.bundle = false) (hs : y.stage = .waiting) :
    d.settled (d.settle n) n y ∧ d.onlySched (d.settle n) := by
  have key : Device.settleN 6 d n = if !y.operandsIn || y.needsSession then d
      else if d.gatesShut && !y.current.diagnostics then Device.settleN 5 (d.refuse n .mode 0) n
      else d.setItem n { y with stage := .ready, level := y.readyLevel } := by
    show (match d.item n with | none => d | some x => _) = _
    rw [h]
    simp only [hs, hb, ne_eq, not_true_eq_false, if_false, Bool.false_and, Bool.false_eq_true]
  unfold Device.settle
  have hsy : ∀ e : Device, (e.askYield n).item n = e.item n := fun e => by unfold Device.item; rw [Device.askYield_sched]
  by_cases h1 : y.operandsIn = false ∨ y.needsSession = true
  · have : (!y.operandsIn || y.needsSession) = true := by rcases h1 with h | h <;> simp [h]
    rw [if_pos this] at key
    rw [key]
    refine ⟨?_, Device.onlySched_askYield _ _ _ (Device.onlySched_refl _)⟩
    unfold Device.settled
    rw [if_pos h1, hsy]; exact h
  · have : ¬(!y.operandsIn || y.needsSession) = true := by
      intro hh; apply h1; simpa using hh
    rw [if_neg this] at key
    by_cases h2 : d.gatesShut = true ∧ y.current.diagnostics = false
    · rw [if_pos (by simp [h2.1, h2.2]), Device.refuse_plain d n y _ _ h hb] at key
      obtain ⟨z, hz, hzs, hzc⟩ := Device.ended_finishItem d n y .mode 0 h
      rw [Device.settleN_still 5 _ n z hz (by rw [hzs]; decide)] at key
      rw [key, Device.askYield_not _ n z hz (Or.inl (by rw [hzs]; decide))]
      refine ⟨?_, Device.onlySched_finishItem _ _ _ _ _ (Device.onlySched_refl _)⟩
      unfold Device.settled
      rw [if_neg h1, if_pos h2]; exact ⟨z, hz, hzs, hzc⟩
    · rw [if_neg (by intro hh; apply h2; simpa using hh)] at key
      rw [key]
      refine ⟨?_, Device.onlySched_askYield _ _ _ (Device.onlySched_setItem _ _ _ _ (Device.onlySched_refl _))⟩
      unfold Device.settled
      rw [if_neg h1, if_neg h2, hsy]; exact Device.item_setItem _ _ _

/-! ## What admission decided stays decided -/

/-- Item n keeps what admission decided, and VFs keep theirs. -/
def Device.keepsAdm (d t : Device) (n : Nat) : Prop :=
  t.front.vfs = d.front.vfs ∧ ∀ x, d.item n = some x → ∃ y, t.item n = some y ∧ y.adm.decided = x.adm.decided ∧ y.adm.delay = x.adm.delay

theorem Device.keepsAdm_refl (d : Device) (n : Nat) : d.keepsAdm d n := ⟨rfl, fun x h => ⟨x, h, rfl, rfl⟩⟩

theorem Device.keepsAdm_trans {a b c : Device} {n : Nat} (h1 : a.keepsAdm b n) (h2 : b.keepsAdm c n) : a.keepsAdm c n := by
  refine ⟨h2.1.trans h1.1, fun x hx => ?_⟩
  obtain ⟨y, hy, e1, e2⟩ := h1.2 x hx
  obtain ⟨z, hz, f1, f2⟩ := h2.2 y hy
  exact ⟨z, hz, f1.trans e1, f2.trans e2⟩

theorem Device.keepsAdm_same (d t : Device) (n : Nat) (h : t.sched.items = d.sched.items) (hv : t.front.vfs = d.front.vfs) : d.keepsAdm t n :=
  ⟨hv, fun x hx => ⟨x, by unfold Device.item at *; rw [h]; exact hx, rfl, rfl⟩⟩

theorem Device.keepsAdm_setItem (d : Device) (n : Nat) (x y : Item) (h : d.item n = some x) (h1 : y.adm.decided = x.adm.decided)
    (h2 : y.adm.delay = x.adm.delay) : d.keepsAdm (d.setItem n y) n :=
  ⟨rfl, fun z hz => ⟨y, Device.item_setItem d n y, by rw [h] at hz; cases hz; exact h1, by rw [h] at hz; cases hz; exact h2⟩⟩

theorem Device.keepsAdm_finishItem (d : Device) (n : Nat) (st : Status) (k : Nat) : d.keepsAdm (d.finishItem n st k) n := by
  unfold Device.finishItem
  split
  · exact Device.keepsAdm_refl _ _
  · rename_i x h
    exact Device.keepsAdm_trans (Device.keepsAdm_setItem d n x (x.finish (.plain st k)) h rfl rfl) (Device.keepsAdm_same _ _ _ rfl rfl)

theorem Device.keepsAdm_endStep (d : Device) (n : Nat) (e : StepEnd) : d.keepsAdm (d.endStep n e) n := by
  unfold Device.endStep
  split
  · exact Device.keepsAdm_refl _ _
  · rename_i x h
    split
    · exact Device.keepsAdm_refl _ _
    · exact Device.keepsAdm_setItem d n x _ h rfl rfl

theorem Device.keepsAdm_refuse (d : Device) (n : Nat) (st : Status) (k : Nat) : d.keepsAdm (d.refuse n st k) n := by
  unfold Device.refuse
  split
  · exact Device.keepsAdm_refl _ _
  · split
    · exact Device.keepsAdm_endStep _ _ _
    · exact Device.keepsAdm_finishItem _ _ _ _

theorem Device.keepsAdm_readRecord (d : Device) (n : Nat) (i : Ident) : d.keepsAdm (d.readRecord i) n := by
  unfold Device.readRecord
  split
  · exact Device.keepsAdm_refl _ _
  · extract_lets pair turn ok port
    split
    · exact Device.keepsAdm_same _ _ _ rfl rfl
    · exact Device.keepsAdm_refl _ _

theorem Device.keepsAdm_makeRoom (n l k : Nat) (d : Device) : d.keepsAdm (Device.makeRoom l k d).1 n := by
  induction k generalizing d with
  | zero => exact Device.keepsAdm_refl _ _
  | succ k ih =>
    unfold Device.makeRoom
    split
    · exact Device.keepsAdm_refl _ _
    · split
      · exact Device.keepsAdm_refl _ _
      · exact Device.keepsAdm_trans (Device.keepsAdm_same _ _ _ rfl rfl) (ih _)

theorem Device.keepsAdm_retryFill (d : Device) (n : Nat) : d.keepsAdm (d.retryFill n) n := by
  unfold Device.retryFill
  split
  · exact Device.keepsAdm_refl _ _
  · rename_i y h
    exact Device.keepsAdm_trans (Device.keepsAdm_setItem d n y { y with ops := { y.ops with retries := y.ops.retries + 1 } } h rfl rfl)
      (Device.keepsAdm_same _ _ _ rfl rfl)

theorem Device.keepsAdm_startFill (d : Device) (n : Nat) (x : Item) (vault : Bool) (id version : Nat) :
    d.keepsAdm (d.startFill n x vault id version) n := by
  unfold Device.startFill
  extract_lets tenant len vf d0
  have h0 : d.keepsAdm d0 n := by
    simp only [d0]
    split
    · split
      · exact Device.keepsAdm_same _ _ _ rfl rfl
      · exact Device.keepsAdm_refl _ _
    · exact Device.keepsAdm_refl _ _
  have h1 := Device.keepsAdm_makeRoom n len 128 d0
  split
  all_goals
    rename_i he
    rw [he] at h1
    refine Device.keepsAdm_trans h0 (Device.keepsAdm_trans h1 ?_)
  · exact Device.keepsAdm_retryFill _ _
  · exact Device.keepsAdm_trans (Device.keepsAdm_same _ _ _ rfl rfl) (Device.keepsAdm_readRecord _ _ _)

theorem Item.setOp_adm (x : Item) (b : Bool) (o : Operand) : (x.setOp b o).adm = x.adm := by
  unfold Item.setOp; cases b <;> rfl

theorem Device.keepsAdm_lookupStored (d : Device) (n : Nat) (b vault : Bool) (id version : Nat) :
    d.keepsAdm (d.lookupStored n b vault id version) n := by
  unfold Device.lookupStored
  split
  · exact Device.keepsAdm_refl _ _
  · rename_i x h
    dsimp only
    split
    · exact Device.keepsAdm_refuse _ _ _ _
    · split
      · exact Device.keepsAdm_setItem d n x _ h (by rw [Item.setOp_adm]) (by rw [Item.setOp_adm])
      · split
        · exact Device.keepsAdm_refuse _ _ _ _
        · split
          · exact Device.keepsAdm_refuse _ _ _ _
          · exact Device.keepsAdm_trans (Device.keepsAdm_setItem d n x _ h (by simp only [Item.setOp_adm]) (by simp only [Item.setOp_adm]))
              (Device.keepsAdm_startFill _ _ _ _ _ _)

theorem Device.keepsAdm_requestKey (d : Device) (n : Nat) (b : Bool) : d.keepsAdm (d.requestKey n b) n := by
  unfold Device.requestKey
  split
  · exact Device.keepsAdm_refl _ _
  · rename_i x h
    have hs : d.keepsAdm (d.setItem n (x.setOp b .asked)) n :=
      Device.keepsAdm_setItem d n x _ h (by rw [Item.setOp_adm]) (by rw [Item.setOp_adm])
    dsimp only
    (repeat' split) <;> first
      | exact Device.keepsAdm_refl _ _
      | exact Device.keepsAdm_refuse _ _ _ _
      | exact Device.keepsAdm_lookupStored _ _ _ _ _ _
      | exact hs
      | exact Device.keepsAdm_trans hs (Device.keepsAdm_readRecord _ _ _)

theorem Device.keepsAdm_requestOperands (d : Device) (n : Nat) : d.keepsAdm (d.requestOperands n) n := by
  unfold Device.requestOperands
  split
  · exact Device.keepsAdm_refl _ _
  · rename_i x h
    extract_lets c reads random e0 ops d1 d2 d3
    have h1 : d.keepsAdm d1 n := Device.keepsAdm_setItem d n x _ h rfl rfl
    have h2 : d.keepsAdm d2 n := by
      simp only [d2]; split
      · exact Device.keepsAdm_trans h1 (Device.keepsAdm_same _ _ _ rfl rfl)
      · exact h1
    have h3 : d.keepsAdm d3 n := by
      simp only [d3]; split
      · exact Device.keepsAdm_trans h2 (Device.keepsAdm_requestKey _ _ _)
      · exact h2
    split
    · exact Device.keepsAdm_trans h3 (Device.keepsAdm_requestKey _ _ _)
    · exact h3

theorem Device.keepsAdm_openStep (d : Device) (n : Nat) : d.keepsAdm (d.openStep n) n := by
  unfold Device.openStep
  split
  · exact Device.keepsAdm_refl _ _
  · rename_i x h
    dsimp only
    (repeat' split) <;> first
      | exact Device.keepsAdm_refuse _ _ _ _
      | (refine Device.keepsAdm_trans ?_ (Device.keepsAdm_requestOperands _ _); exact Device.keepsAdm_setItem d n x _ h rfl rfl)

theorem Device.keepsAdm_settleN (k : Nat) (d : Device) (n : Nat) : d.keepsAdm (Device.settleN k d n) n := by
  induction k generalizing d with
  | zero => exact Device.keepsAdm_refl _ _
  | succ k ih =>
    unfold Device.settleN
    split
    · exact Device.keepsAdm_refl _ _
    · rename_i x h
      have hf : ∀ y : Item, y.adm.decided = x.adm.decided → y.adm.delay = x.adm.delay → d.keepsAdm (d.setItem n y) n :=
        fun y h1 h2 => Device.keepsAdm_setItem d n x y h h1 h2
      dsimp only
      (repeat' split) <;> first
        | exact Device.keepsAdm_refl _ _
        | exact hf _ rfl rfl
        | (refine Device.keepsAdm_trans ?_ (ih _)
           first
           | exact Device.keepsAdm_refuse _ _ _ _
           | (refine Device.keepsAdm_trans ?_ (Device.keepsAdm_openStep _ _); exact hf _ rfl rfl))

theorem Device.keepsAdm_settle (d : Device) (n : Nat) : d.keepsAdm (d.settle n) n := by
  refine Device.keepsAdm_trans (Device.keepsAdm_settleN 6 d n) (Device.keepsAdm_same _ _ _ (by unfold Device.settle; rw [Device.askYield_sched]) ?_)
  have h := Device.onlySched_askYield _ _ n (Device.onlySched_refl (Device.settleN 6 d n))
  unfold Device.settle
  unfold Device.onlySched at h
  rw [h]

/-- An item that admission takes is judged so, and its VF pays. -/
theorem Device.admitItem_facts (d : Device) (n : Nat) (x : Item) :
    (d.admitItem n x).judged n (if x.adm.first then .served else .delayed) (if x.adm.first then 0 else d.delaySince x) ∧
    (d.admitItem n x).vf x.route.vf = (if (d.vf x.route.vf).withinShare x.onEngines then (d.vf x.route.vf).charge x.onEngines x.adm.cycles
      else d.vf x.route.vf).takeToken := by
  unfold Device.admitItem
  extract_lets v f e within served f1 a0 x1 d1
  have hs : d1.sched = ((d.setItem n x1).dropDelay deferList n).sched := by
    simp only [d1]; rw [Device.countEvent_sched]; rfl
  have hi : d1.item n = some x1 := by unfold Device.item; rw [hs]; exact Device.item_setItem d n x1
  have hv : d1.vf v = f1 := by
    unfold Device.vf
    simp only [d1]; rw [Device.countEvent_front_vfs]
    show Table.get _ (Table.put _ _ _ _) _ = _
    rw [Table.get_put, if_pos rfl]
  have hk : d1.keepsAdm ((if x.desc.bundle then d1.openStep n else d1.requestOperands n).settle n) n := by
    refine Device.keepsAdm_trans ?_ (Device.keepsAdm_settle _ _)
    split
    · exact Device.keepsAdm_openStep _ _
    · exact Device.keepsAdm_requestOperands _ _
  obtain ⟨y, hy, e1, e2⟩ := hk.2 x1 hi
  refine ⟨⟨y, hy, e1, e2⟩, ?_⟩
  unfold Device.vf at hv ⊢
  rw [hk.1]; exact hv

/-! ## One pass of admission -/

/-- A deferred window descriptor whose CQ is full waits on (03_host_queues.md R118). -/
theorem Device.admitTry_held (d : Device) (n : Nat) (due : Bool) (x : Item) (h : d.item n = some x) (hw : d.windowHeld x = true) :
    d.admitTry n due = d.deferItem n x := by
  unfold Device.admitTry
  simp [h, hw]

/-- The pseudocode of admission, once: what refuses, what admits, what defers (03_host_queues.md R100). -/
theorem Device.admitTry_facts (d : Device) (n : Nat) (due : Bool) (x : Item) (h : d.item n = some x) (hw : d.windowHeld x = false) :
    let f := d.vf x.route.vf
    let late := due = true ∨ d.deferLimit ≤ d.cycle - x.adm.limitFrom
    let takes := (x.cls = .interactive ∧ f.withinShare x.onEngines = true) ∨
      (d.saturated x.onEngines = false ∧ (x.cls = .background → ∀ e ∈ d.sched.items, e.1 = n ∨ e.2.stage ≠ .deferred))
    (f.noTokens = true → late → (d.admitTry n due) = d.refuseAdmission n .refusedCeiling) ∧
    (f.noTokens = true → ¬late → d.admitTry n due = d.deferItem n x) ∧
    (f.noTokens = false → takes → d.admitTry n due = d.admitItem n x) ∧
    (f.noTokens = false → ¬takes → (x.cls = .background ∨ late) → d.admitTry n due = d.refuseAdmission n .refusedSaturated) ∧
    (f.noTokens = false → ¬takes → ¬(x.cls = .background ∨ late) → d.admitTry n due = d.deferItem n x) := by
  intro f late takes
  have hl : (due || decide (d.deferLimit ≤ d.cycle - x.adm.limitFrom)) = true ↔ late := by simp [late]
  have hb : (!d.saturated x.onEngines && (x.cls != .background || !d.sched.items.any fun e => e.1 != n && e.2.stage == .deferred)) = true ↔
      (d.saturated x.onEngines = false ∧ (x.cls = .background → ∀ e ∈ d.sched.items, e.1 = n ∨ e.2.stage ≠ .deferred)) := by
    have : (!d.sched.items.any fun e => e.1 != n && e.2.stage == .deferred) = true ↔ ∀ e ∈ d.sched.items, e.1 = n ∨ e.2.stage ≠ .deferred := by
      simp only [Bool.not_eq_true', List.any_eq_false, Bool.and_eq_true, bne_iff_ne, ne_eq, beq_iff_eq, not_and]
      constructor
      · intro g e he
        by_cases hn : e.1 = n
        · exact Or.inl hn
        · exact Or.inr (g e he hn)
      · intro g e he hn
        rcases g e he with h | h
        · exact absurd h hn
        · exact h
    rw [Bool.and_eq_true, Bool.or_eq_true, this]
    simp only [Bool.not_eq_true', bne_iff_ne, ne_eq]
    constructor
    · rintro ⟨a, b⟩; exact ⟨a, fun hc => b.resolve_left (fun g => g hc)⟩
    · rintro ⟨a, b⟩; exact ⟨a, by by_cases hc : x.cls = .background
                                  · exact Or.inr (b hc)
                                  · exact Or.inl hc⟩
  have key : d.admitTry n due =
      if f.noTokens then (if (due || decide (d.deferLimit ≤ d.cycle - x.adm.limitFrom)) = true then d.refuseAdmission n .refusedCeiling else d.deferItem n x)
      else if x.cls = .interactive ∧ f.withinShare x.onEngines = true then d.admitItem n x
      else if (!d.saturated x.onEngines && (x.cls != .background || !d.sched.items.any fun e => e.1 != n && e.2.stage == .deferred)) = true then d.admitItem n x
      else if x.cls = .background ∨ (due || decide (d.deferLimit ≤ d.cycle - x.adm.limitFrom)) = true then d.refuseAdmission n .refusedSaturated
      else d.deferItem n x := by
    unfold Device.admitTry
    rw [h]
    simp only [hw, Bool.false_eq_true, if_false]
    rfl
  rw [key]
  refine ⟨?_, ?_, ?_, ?_, ?_⟩
  · intro a b; rw [if_pos a, if_pos (hl.mpr b)]
  · intro a b; rw [if_pos a, if_neg (fun g => b (hl.mp g))]
  · intro a b
    rw [if_neg (by rw [a]; decide)]
    rcases b with b | b
    · rw [if_pos b]
    · split
      · rfl
      · rw [if_pos (hb.mpr b)]
  · intro a b c
    rw [if_neg (by rw [a]; decide), if_neg (fun g => b (Or.inl g)), if_neg (fun g => b (Or.inr (hb.mp g))), if_pos (by rw [hl]; exact c)]
  · intro a b c
    rw [if_neg (by rw [a]; decide), if_neg (fun g => b (Or.inl g)), if_neg (fun g => b (Or.inr (hb.mp g))), if_neg (by rw [hl]; exact c)]

theorem Device.deferItem_facts (d : Device) (n : Nat) (x : Item) :
    (d.deferItem n x).standsAt n .deferred ∧ (d.deferItem n x).hasDelay deferList n = true ∧ d.onlySched (d.deferItem n x) := by
  unfold Device.deferItem
  dsimp only
  split
  · rename_i h
    exact ⟨⟨_, Device.item_setItem _ _ _, rfl⟩, h, Device.onlySched_setItem _ _ _ _ (Device.onlySched_refl _)⟩
  · refine ⟨⟨_, Device.item_setItem d n _, rfl⟩, ?_, Device.onlySched_mapSched _ _ _ (Device.onlySched_setItem _ _ _ _ (Device.onlySched_refl _))⟩
    show List.any (_ ++ [_]) _ = true
    simp

end Sys2Proof.Machine
end

