-- ==== Sys2Proof/Laws/Sealed.lean ====
section
/-! SUPPORT. ZEROIZED with no ceremony open: what every operation but the start-up keeps. -/

namespace Sys2Proof.Machine

@[simp] theorem sealed_mapCust (d : Device) (f : Custody → Custody) (h : d.sealed)
    (hf : (f d.cust).mode = d.cust.mode ∧ (f d.cust).ceremony = d.cust.ceremony) : (d.mapCust f).sealed :=
  ⟨hf.1.trans h.1, hf.2.trans h.2⟩

@[simp] theorem sealed_foldl {α : Type} (f : Device → α → Device) (l : List α) (d : Device) (h : d.sealed)
    (hf : ∀ d x, d.sealed → (f d x).sealed) : (l.foldl f d).sealed := by
  induction l generalizing d with
  | nil => exact h
  | cons x l ih => exact ih _ (hf _ _ h)

@[simp] theorem sealed_ite (c : Prop) [Decidable c] (a b : Device) (ha : a.sealed) (hb : b.sealed) :
    (if c then a else b).sealed := by split <;> assumption

@[simp] theorem sealed_mk (cy fr : Nat) (o : List Output) (pg : Pages) (ft : Front) (sc : Sched) (u : Units) (k : Keys) (st : Store)
    (dm : Domain) (cu : Custody) (t : Tamper) (so : Table Source) (ca : NatSet) (rg : Rng) (p : Power) (pn : Pins)
    (ri : Table Ring) (ex : Option Export) :
    (Device.mk cy fr o pg ft sc u k st dm cu t so ca rg p pn ri ex).sealed ↔ (cu.mode = .zeroized ∧ cu.ceremony = none) := Iff.rfl

@[simp] theorem sealed_eta (d : Device) : (d.cust.mode = .zeroized ∧ d.cust.ceremony = none) ↔ d.sealed := Iff.rfl


theorem sealed_mode {d : Device} (h : d.sealed) : d.cust.mode = .zeroized := h.1

theorem sealed_ceremony {d : Device} (h : d.sealed) : d.cust.ceremony = none := h.2

end Sys2Proof.Machine
end

