-- ==== Sys2Proof/Laws/SealedCore.lean ====
section
/-! SUPPORT. ZEROIZED kept: the shared operations, the key banks, the journal and the replay log. -/

namespace Sys2Proof.Machine

@[simp] theorem sealed_mapPages (d : Device) (f : Pages → Pages) (h : d.sealed)  : (Device.mapPages d f).sealed := by
  exact h

@[simp] theorem sealed_mapFront (d : Device) (f : Front → Front) (h : d.sealed)  : (Device.mapFront d f).sealed := by
  exact h

@[simp] theorem sealed_mapSched (d : Device) (f : Sched → Sched) (h : d.sealed)  : (Device.mapSched d f).sealed := by
  exact h

@[simp] theorem sealed_mapUnits (d : Device) (f : Units → Units) (h : d.sealed)  : (Device.mapUnits d f).sealed := by
  exact h

@[simp] theorem sealed_mapKeys (d : Device) (f : Keys → Keys) (h : d.sealed)  : (Device.mapKeys d f).sealed := by
  exact h

@[simp] theorem sealed_mapStore (d : Device) (f : Store → Store) (h : d.sealed)  : (Device.mapStore d f).sealed := by
  exact h

@[simp] theorem sealed_mapDom (d : Device) (f : Domain → Domain) (h : d.sealed)  : (Device.mapDom d f).sealed := by
  exact h

@[simp] theorem sealed_mapView (d : Device) (f : View → View) (h : d.sealed)  : (Device.mapView d f).sealed := by
  exact h

@[simp] theorem sealed_mapTamp (d : Device) (f : Tamper → Tamper) (h : d.sealed)  : (Device.mapTamp d f).sealed := by
  exact h

@[simp] theorem sealed_mapRng (d : Device) (f : Rng → Rng) (h : d.sealed)  : (Device.mapRng d f).sealed := by
  exact h

@[simp] theorem sealed_mapPower (d : Device) (f : Power → Power) (h : d.sealed)  : (Device.mapPower d f).sealed := by
  exact h

@[simp] theorem sealed_mapPins (d : Device) (f : Pins → Pins) (h : d.sealed)  : (Device.mapPins d f).sealed := by
  exact h

@[simp] theorem sealed_mapCyc (d : Device) (f : Cyc → Cyc) (h : d.sealed)  : (Device.mapCyc d f).sealed := by
  exact h

@[simp] theorem sealed_emit (d : Device) (o : Output) (h : d.sealed)  : (Device.emit d o).sealed := by
  exact h

@[simp] theorem sealed_drawFree (d : Device) (h : d.sealed)  : (Device.drawFree d).sealed := by
  exact h

@[simp] theorem sealed_setReg (d : Device) (a : ℕ) (v : ℕ) (h : d.sealed)  : (Device.setReg d a v).sealed := by
  unfold Device.setReg
  (repeat' split) <;> simp_all (maxDischargeDepth := 60)

@[simp] theorem sealed_setField (d : Device) (a : ℕ) (hi : ℕ) (lo : ℕ) (v : ℕ) (h : d.sealed)  : (Device.setField d a hi lo v).sealed := by
  unfold Device.setField
  (repeat' split) <;> simp_all (maxDischargeDepth := 60)

@[simp] theorem sealed_clearBits (d : Device) (a : ℕ) (m : ℕ) (h : d.sealed)  : (Device.clearBits d a m).sealed := by
  unfold Device.clearBits
  (repeat' split) <;> simp_all (maxDischargeDepth := 60)

@[simp] theorem sealed_hwSet (d : Device) (a : ℕ) (m : ℕ) (h : d.sealed)  : (Device.hwSet d a m).sealed := by
  unfold Device.hwSet
  (repeat' split) <;> simp_all (maxDischargeDepth := 60)

@[simp] theorem sealed_addCnt (d : Device) (a : ℕ) (hi : ℕ) (lo : ℕ) (n : ℕ) (saturates : Bool) (h : d.sealed)  : (Device.addCnt d a hi lo n saturates).sealed := by
  unfold Device.addCnt
  (repeat' split) <;> simp_all (maxDischargeDepth := 60)

@[simp] theorem sealed_writeLost (d : Device) (a : ℕ) (h : d.sealed)  : (Device.writeLost d a).sealed := by
  unfold Device.writeLost
  (repeat' split) <;> simp_all (maxDischargeDepth := 60)

@[simp] theorem sealed_rwhClash (d : Device) (a : ℕ) (h : d.sealed)  : (Device.rwhClash d a).sealed := by
  unfold Device.rwhClash
  (repeat' split) <;> simp_all (maxDischargeDepth := 60)

@[simp] theorem sealed_hwLoad (d : Device) (a : ℕ) (v : ℕ) (h : d.sealed)  : (Device.hwLoad d a v).sealed := by
  unfold Device.hwLoad
  (repeat' split) <;> simp_all (maxDischargeDepth := 60)

@[simp] theorem sealed_noteWrite (d : Device) (a : ℕ) (h : d.sealed)  : (Device.noteWrite d a).sealed := by
  unfold Device.noteWrite
  (repeat' split) <;> simp_all (maxDischargeDepth := 60)

@[simp] theorem sealed_noteReturn (d : Device) (lo : ℕ) (hi : ℕ) (h : d.sealed)  : (Device.noteReturn d lo hi).sealed := by
  unfold Device.noteReturn
  (repeat' split) <;> simp_all (maxDischargeDepth := 60)

@[simp] theorem sealed_advance (d : Device) (n : ℕ) (h : d.sealed)  : (Device.advance d n).sealed := by
  exact h

@[simp] theorem sealed_passCycle (d : Device) (h : d.sealed)  : (Device.passCycle d).sealed := by
  unfold Device.passCycle
  (repeat' split) <;> simp_all (maxDischargeDepth := 60)

@[simp] theorem sealed_drawn (d : Device) (h : d.sealed)  : (Device.drawn d).sealed := by
  unfold Device.drawn
  (repeat' split) <;> simp_all (maxDischargeDepth := 60)

@[simp] theorem sealed_drawnFor (d : Device) (n : ℕ) (h : d.sealed)  : (Device.drawnFor d n).sealed := by
  unfold Device.drawnFor
  (repeat' split) <;> simp_all (maxDischargeDepth := 60)

@[simp] theorem sealed_sendMsix (d : Device) (fn : ℕ) (vector : ℕ) (h : d.sealed)  : (Device.sendMsix d fn vector).sealed := by
  unfold Device.sendMsix
  (repeat' split) <;> simp_all (maxDischargeDepth := 60)

@[simp] theorem sealed_signalPage (d : Device) (base : ℕ) (h : d.sealed)  : (Device.signalPage d base).sealed := by
  unfold Device.signalPage
  (repeat' split) <;> simp_all (maxDischargeDepth := 60)

@[simp] theorem sealed_raiseMask (d : Device) (base : ℕ) (m : ℕ) (h : d.sealed)  : (Device.raiseMask d base m).sealed := by
  unfold Device.raiseMask
  (repeat' split) <;> simp_all (maxDischargeDepth := 60)

@[simp] theorem sealed_raiseInt (d : Device) (p : Page) (n : ℕ) (i : ℕ) (h : d.sealed)  : (Device.raiseInt d p n i).sealed := by
  unfold Device.raiseInt
  (repeat' split) <;> simp_all (maxDischargeDepth := 60)

@[simp] theorem sealed_commandEnd (d : Device) (a : ℕ) (req : ℕ) (done : ℕ) (h : d.sealed)  : (Device.commandEnd d a req done).sealed := by
  unfold Device.commandEnd
  (repeat' split) <;> simp_all (maxDischargeDepth := 60)

@[simp] theorem sealed_commandStart (d : Device) (a : ℕ) (req : ℕ) (h : d.sealed)  : (Device.commandStart d a req).sealed := by
  unfold Device.commandStart
  (repeat' split) <;> simp_all (maxDischargeDepth := 60)

@[simp] theorem sealed_setResult (d : Device) (a : ℕ) (code : ℕ) (h : d.sealed)  : (Device.setResult d a code).sealed := by
  unfold Device.setResult
  (repeat' split) <;> simp_all (maxDischargeDepth := 60)

@[simp] theorem sealed_progStart (d : Device) (base : ℕ) (op : ℕ) (total : ℕ) (h : d.sealed)  : (Device.progStart d base op total).sealed := by
  unfold Device.progStart
  (repeat' split) <;> simp_all (maxDischargeDepth := 60)

@[simp] theorem sealed_progPos (d : Device) (base : ℕ) (pos : ℕ) (h : d.sealed)  : (Device.progPos d base pos).sealed := by
  unfold Device.progPos
  (repeat' split) <;> simp_all (maxDischargeDepth := 60)

@[simp] theorem sealed_progEnd (d : Device) (base : ℕ) (aborted : Bool) (h : d.sealed)  : (Device.progEnd d base aborted).sealed := by
  unfold Device.progEnd
  (repeat' split) <;> simp_all (maxDischargeDepth := 60)

@[simp] theorem sealed_setVf (d : Device) (v : ℕ) (x : Vf) (h : d.sealed)  : (Device.setVf d v x).sealed := by
  unfold Device.setVf
  (repeat' split) <;> simp_all (maxDischargeDepth := 60)

@[simp] theorem sealed_changeVf (d : Device) (v : ℕ) (x : Vf) (h : d.sealed)  : (Device.changeVf d v x).sealed := by
  unfold Device.changeVf
  (repeat' split) <;> simp_all (maxDischargeDepth := 60)

@[simp] theorem sealed_setQp (d : Device) (v : ℕ) (q : ℕ) (x : Qp) (h : d.sealed)  : (Device.setQp d v q x).sealed := by
  unfold Device.setQp
  (repeat' split) <;> simp_all (maxDischargeDepth := 60)

@[simp] theorem sealed_setItem (d : Device) (n : ℕ) (x : Item) (h : d.sealed)  : (Device.setItem d n x).sealed := by
  unfold Device.setItem
  (repeat' split) <;> simp_all (maxDischargeDepth := 60)

@[simp] theorem sealed_dropItem (d : Device) (n : ℕ) (h : d.sealed)  : (Device.dropItem d n).sealed := by
  unfold Device.dropItem
  (repeat' split) <;> simp_all (maxDischargeDepth := 60)

@[simp] theorem sealed_dropDelay (d : Device) (list : ℕ) (n : ℕ) (h : d.sealed)  : (Device.dropDelay d list n).sealed := by
  unfold Device.dropDelay
  (repeat' split) <;> simp_all (maxDischargeDepth := 60)

@[simp] theorem sealed_addDelay (d : Device) (list : ℕ) (n : ℕ) (due : ℕ) (h : d.sealed)  : (Device.addDelay d list n due).sealed := by
  unfold Device.addDelay
  (repeat' split) <;> simp_all (maxDischargeDepth := 60)

@[simp] theorem sealed_finishItem (d : Device) (n : ℕ) (st : Status) (detail : ℕ) (h : d.sealed)  : (Device.finishItem d n st detail).sealed := by
  unfold Device.finishItem
  (repeat' split) <;> simp_all (maxDischargeDepth := 60)

@[simp] theorem sealed_bumpCounter (d : Device) (p : Page) (n : ℕ) (val : ℕ) (ovf : ℕ) (bitNo : ℕ) (inc : ℕ) (h : d.sealed)  : (Device.bumpCounter d p n val ovf bitNo inc).sealed := by
  unfold Device.bumpCounter
  (repeat' split) <;> simp_all (maxDischargeDepth := 60)

@[simp] theorem sealed_pfCounter (vf : Option ℕ) (ev : ℕ) (inc : ℕ) (d : Device) (c : ℕ) (h : d.sealed)  : (Device.pfCounter vf ev inc d c).sealed := by
  unfold Device.pfCounter
  (repeat' split) <;> simp_all (maxDischargeDepth := 60)

@[simp] theorem sealed_vfCounter (v : ℕ) (ev : ℕ) (inc : ℕ) (d : Device) (c : ℕ) (h : d.sealed)  : (Device.vfCounter v ev inc d c).sealed := by
  unfold Device.vfCounter
  (repeat' split) <;> simp_all (maxDischargeDepth := 60)

@[simp] theorem sealed_countEvent (d : Device) (vf : Option ℕ) (ev : ℕ) (inc : ℕ) (h : d.sealed)  : (Device.countEvent d vf ev inc).sealed := by
  unfold Device.countEvent
  (repeat' split) <;> simp_all (maxDischargeDepth := 60)

@[simp] theorem sealed_alertCause (d : Device) (h : d.sealed)  : (Device.alertCause d).sealed := by
  unfold Device.alertCause
  (repeat' split) <;> simp_all (maxDischargeDepth := 60)

@[simp] theorem sealed_storeWords (d : Device) (a : ℕ) (n : ℕ) (bs : Sys2Proof.Bytes) (h : d.sealed)  : (Device.storeWords d a n bs).sealed := by
  unfold Device.storeWords
  (repeat' split) <;> simp_all (maxDischargeDepth := 60)

@[simp] theorem sealed_placeFrame (d : Device) (h : d.sealed)  : (Device.placeFrame d).sealed := by
  unfold Device.placeFrame
  (repeat' split) <;> simp_all (maxDischargeDepth := 60)

@[simp] theorem sealed_olihildReply (d : Device) (carrier : ℕ) (typ : ℕ) (status : ℕ) (id : ℕ) (body : Sys2Proof.Bytes) (h : d.sealed)  : (Device.olihildReply d carrier typ status id body).sealed := by
  unfold Device.olihildReply
  (repeat' split) <;> simp_all (maxDischargeDepth := 60)

@[simp] theorem sealed_ceremonyRecorded (d : Device) (outcome : ℕ) (typ : ℕ) (h : d.sealed)  : (Device.ceremonyRecorded d outcome typ).sealed := by
  unfold Device.ceremonyRecorded
  (repeat' split) <;> simp_all (maxDischargeDepth := 60)

theorem sealed_endCeremony_eq (d : Device) (n : Nat) (r : Option Bytes) (h : d.sealed) : d.endCeremony n r = d := by
  unfold Device.endCeremony; rw [h.2]

@[simp] theorem sealed_endCeremony (d : Device) (n : Nat) (r : Option Bytes) (h : d.sealed) : (d.endCeremony n r).sealed := by
  rw [sealed_endCeremony_eq d n r h]; exact h

@[simp] theorem sealed_clearLocks (d : Device) (h : d.sealed)  : (Device.clearLocks d).sealed := by
  unfold Device.clearLocks
  (repeat' split) <;> simp_all (maxDischargeDepth := 60)

@[simp] theorem sealed_signalMode (d : Device) (h : d.sealed)  : (Device.signalMode d).sealed := by
  unfold Device.signalMode
  (repeat' split) <;> simp_all (maxDischargeDepth := 60)

@[simp] theorem sealed_enterMode (d : Device) (h : d.sealed) : (d.enterMode .zeroized).sealed := by
  unfold Device.enterMode
  have h1 : (d.mapCust fun c => { c with mode := .zeroized, maintEnd := none }).sealed := ⟨rfl, h.2⟩
  simp only [reduceCtorEq, if_false]
  apply sealed_alertCause
  apply sealed_signalMode
  exact h1

@[simp] theorem sealed_dropUnaccepted (d : Device) (h : d.sealed)  : (Device.dropUnaccepted d).sealed := by
  unfold Device.dropUnaccepted
  (repeat' split) <;> simp_all (maxDischargeDepth := 60)

@[simp] theorem sealed_changeMode (d : Device) (h : d.sealed) : (d.changeMode .zeroized).sealed := by
  unfold Device.changeMode
  simp [h]

@[simp] theorem sealed_stopItem (d : Device) (n : ℕ) (x : Item) (h : d.sealed)  : (Device.stopItem d n x).sealed := by
  unfold Device.stopItem
  (repeat' split) <;> simp_all (maxDischargeDepth := 60)

@[simp] theorem sealed_shutGate (d : Device) (n : ℕ) (x : Item) (h : d.sealed)  : (Device.shutGate d n x).sealed := by
  unfold Device.shutGate
  (repeat' split) <;> simp_all (maxDischargeDepth := 60)

@[simp] theorem sealed_enterQuarantine (d : Device) (h : d.sealed)  : (Device.enterQuarantine d).sealed := by
  unfold Device.enterQuarantine
  simp [h.1]
  exact h

@[simp] theorem sealed_burnJoins (d : Device) (h : d.sealed)  : (Device.burnJoins d).sealed := by
  unfold Device.burnJoins
  (repeat' split) <;> simp_all (maxDischargeDepth := 60)

@[simp] theorem sealed_startBurn (d : Device) (h : d.sealed)  : (Device.startBurn d).sealed := by
  unfold Device.startBurn
  (repeat' split) <;> (try simp_all (maxDischargeDepth := 60)) <;> repeat' (first | split | intro _ | simp_all (maxDischargeDepth := 60) | (rename_i h; replace h := congrArg (fun q => q.1.sealed) h; simp_all (maxDischargeDepth := 60); done))

@[simp] theorem sealed_stageRecord (raise : Device → ℕ → Device) (d : Device) (r : TampRec) (h : d.sealed) (hraise : ∀ x0 x1, x0.sealed → ((raise x0 x1)).sealed) : (Device.stageRecord raise d r).sealed := by
  unfold Device.stageRecord
  (repeat' split) <;> simp_all (maxDischargeDepth := 60)

@[simp] theorem sealed_stick (d : Device) (i : ℕ) (h : d.sealed)  : (Device.stick d i).sealed := by
  unfold Device.stick
  simp_all (maxDischargeDepth := 60)

@[simp] theorem sealed_setRootClass (d : Device) (c : ℕ) (h : d.sealed)  : (Device.setRootClass d c).sealed := by
  unfold Device.setRootClass
  (repeat' split) <;> simp_all (maxDischargeDepth := 60)

@[simp] theorem sealed_endExport (d : Device) (code : ℕ) (h : d.sealed)  : (Device.endExport d code).sealed := by
  unfold Device.endExport
  (repeat' split) <;> simp_all (maxDischargeDepth := 60)

@[simp] theorem sealed_squashAll (d : Device) (h : d.sealed)  : (Device.squashAll d).sealed := by
  unfold Device.squashAll
  (repeat' split) <;> simp_all (maxDischargeDepth := 60)

@[simp] theorem sealed_clearAtOnce (d : Device) (h : d.sealed)  : (Device.clearAtOnce d).sealed := by
  unfold Device.clearAtOnce
  (repeat' split) <;> simp_all (maxDischargeDepth := 60)

@[simp] theorem sealed_assertLine (raise : Device → ℕ → Device) (d : Device) (cause : ℕ) (source : ℕ) (h : d.sealed) (hraise : ∀ x0 x1, x0.sealed → ((raise x0 x1)).sealed) : (Device.assertLine raise d cause source).sealed := by
  unfold Device.assertLine
  extract_lets d1 e d2
  have h1 : d1.sealed := sealed_mapTamp _ _ h
  have h2 : d2.sealed := by
    simp only [d2]
    split
    · exact h1
    · have he : e.sealed := sealed_raiseInt _ _ _ _ (sealed_mapTamp _ _ h1)
      split
      · exact he
      · exact sealed_stageRecord _ _ _ he hraise
  exact sealed_clearAtOnce _ h2

@[simp] theorem sealed_setSource (d : Device) (s : ℕ) (x : Source) (h : d.sealed)  : (Device.setSource d s x).sealed := by
  exact h

@[simp] theorem sealed_highWater (d : Device) (s : ℕ) (sev : ℕ) (h : d.sealed)  : (Device.highWater d s sev).sealed := by
  unfold Device.highWater
  (repeat' split) <;> (try simp_all (maxDischargeDepth := 60)) <;> repeat' (first | split | intro _ | simp_all (maxDischargeDepth := 60) | (rename_i h; replace h := congrArg (fun q => q.1.sealed) h; simp_all (maxDischargeDepth := 60); done))

@[simp] theorem sealed_recordEvent (d : Device) (s : ℕ) (h : d.sealed)  : (Device.recordEvent d s).1.sealed := by
  unfold Device.recordEvent
  (repeat' split) <;> simp_all (maxDischargeDepth := 60)

@[simp] theorem sealed_faultN (k : Nat) (d : Device) (s : Nat) (h : d.sealed) : (Device.faultN k d s).sealed := by
  induction k generalizing d s with
  | zero => exact sealed_recordEvent d s h
  | succ k ih =>
    unfold Device.faultN
    have h1 := sealed_recordEvent d s h
    split
    rename_i heq
    rw [heq] at h1
    split
    · exact sealed_enterQuarantine _ h1
    · split
      · exact sealed_assertLine _ _ _ _ h1 (fun x0 x1 hx => ih x0 x1 hx)
      · exact h1

@[simp] theorem sealed_fault (d : Device) (s : ℕ) (h : d.sealed)  : (Device.fault d s).sealed := by
  unfold Device.fault
  (repeat' split) <;> simp_all (maxDischargeDepth := 60)

@[simp] theorem sealed_holdCause (d : Device) (s : ℕ) (held : Bool) (h : d.sealed)  : (Device.holdCause d s held).sealed := by
  exact h

@[simp] theorem sealed_zeroize (d : Device) (cause : ℕ) (source : ℕ) (h : d.sealed)  : (Device.zeroize d cause source).sealed := by
  unfold Device.zeroize
  (repeat' split) <;> simp_all (maxDischargeDepth := 60)

@[simp] theorem sealed_leaveQuarantine (d : Device) (h : d.sealed)  : (Device.leaveQuarantine d).sealed := by
  unfold Device.leaveQuarantine
  simp [h.1]
  exact h

@[simp] theorem sealed_onCommand (d : Device) (a : ℕ) (f : Device → Device) (h : d.sealed) (hf : ∀ x0, x0.sealed → ((f x0)).sealed) : (Device.onCommand d a f).sealed := by
  unfold Device.onCommand
  (repeat' split) <;> simp_all (maxDischargeDepth := 60)

@[simp] theorem sealed_onWrite (d : Device) (a : ℕ) (f : Device → Device) (h : d.sealed) (hf : ∀ x0, x0.sealed → ((f x0)).sealed) : (Device.onWrite d a f).sealed := by
  unfold Device.onWrite
  (repeat' split) <;> simp_all (maxDischargeDepth := 60)

@[simp] theorem sealed_onIdle (d : Device) (a : ℕ) (req : ℕ) (busy : ℕ) (f : Device → Device) (h : d.sealed) (hf : ∀ x0, x0.sealed → ((f x0)).sealed) : (Device.onIdle d a req busy f).sealed := by
  unfold Device.onIdle
  (repeat' split) <;> simp_all (maxDischargeDepth := 60)

@[simp] theorem sealed_w1c (d : Device) (a : ℕ) (m : ℕ) (h : d.sealed)  : (Device.w1c d a m).sealed := by
  unfold Device.w1c
  (repeat' split) <;> simp_all (maxDischargeDepth := 60)

@[simp] theorem sealed_softStart (d : Device) (base : ℕ) (f : Device → Device) (h : d.sealed) (hf : ∀ x0, x0.sealed → ((f x0)).sealed) : (Device.softStart d base f).sealed := by
  unfold Device.softStart
  (repeat' split) <;> simp_all (maxDischargeDepth := 60)

@[simp] theorem sealed_captureViolation (d : Device) (cls : ℕ) (kind : ℕ) (a : ℕ) (h : d.sealed)  : (Device.captureViolation d cls kind a).sealed := by
  unfold Device.captureViolation
  (repeat' split) <;> simp_all (maxDischargeDepth := 60)

@[simp] theorem sealed_setValid (d : Device) (h : d.sealed)  : (Device.setValid d).sealed := by
  unfold Device.setValid
  (repeat' split) <;> simp_all (maxDischargeDepth := 60)

@[simp] theorem sealed_recordViolation (d : Device) (cls : ℕ) (kind : ℕ) (a : ℕ) (h : d.sealed)  : (Device.recordViolation d cls kind a).sealed := by
  unfold Device.recordViolation
  (repeat' split) <;> simp_all (maxDischargeDepth := 60)

@[simp] theorem sealed_violation (d : Device) (cls : ℕ) (kind : ℕ) (a : ℕ) (h : d.sealed)  : (Device.violation d cls kind a).sealed := by
  unfold Device.violation
  (repeat' split) <;> simp_all (maxDischargeDepth := 60)

@[simp] theorem sealed_accessViolation (d : Device) (cls : ℕ) (kind : ℕ) (a : ℕ) (h : d.sealed)  : (Device.accessViolation d cls kind a).sealed := by
  unfold Device.accessViolation
  (repeat' split) <;> simp_all (maxDischargeDepth := 60)

@[simp] theorem sealed_violClear (d : Device) (w : ℕ) (h : d.sealed)  : (Device.violClear d w).sealed := by
  unfold Device.violClear
  (repeat' split) <;> simp_all (maxDischargeDepth := 60)

@[simp] theorem sealed_regionWrite (d : Device) (i : ℕ) (j : ℕ) (v : ℕ) (h : d.sealed)  : (Device.regionWrite d i j v).sealed := by
  unfold Device.regionWrite
  (repeat' split) <;> simp_all (maxDischargeDepth := 60)

@[simp] theorem sealed_indexDrop (d : Device) (i : Ident) (h : d.sealed)  : (Device.indexDrop d i).sealed := by
  unfold Device.indexDrop
  (repeat' split) <;> simp_all (maxDischargeDepth := 60)

@[simp] theorem sealed_indexPut (d : Device) (i : Ident) (loc : ℕ) (h : d.sealed)  : (Device.indexPut d i loc).sealed := by
  unfold Device.indexPut
  (repeat' split) <;> simp_all (maxDischargeDepth := 60)

@[simp] theorem sealed_readRecord (d : Device) (i : Ident) (h : d.sealed)  : (Device.readRecord d i).sealed := by
  unfold Device.readRecord
  (repeat' split) <;> simp_all (maxDischargeDepth := 60)

@[simp] theorem sealed_setRun (d : Device) (k : ℕ) (r : KeyRun) (h : d.sealed)  : (Device.setRun d k r).sealed := by
  unfold Device.setRun
  (repeat' split) <;> simp_all (maxDischargeDepth := 60)

@[simp] theorem sealed_dropRun (d : Device) (k : ℕ) (h : d.sealed)  : (Device.dropRun d k).sealed := by
  unfold Device.dropRun
  (repeat' split) <;> simp_all (maxDischargeDepth := 60)

@[simp] theorem sealed_makeRoom (n k : Nat) (d : Device) (h : d.sealed) : (Device.makeRoom n k d).1.sealed := by
  induction k generalizing d with
  | zero => exact h
  | succ k ih => unfold Device.makeRoom; (repeat' split) <;> simp_all

@[simp] theorem sealed_stamp (d : Device) (h : d.sealed)  : (Device.stamp d).sealed := by
  unfold Device.stamp
  (repeat' split) <;> simp_all (maxDischargeDepth := 60)

@[simp] theorem sealed_failSlot (d : Device) (k : ℕ) (h : d.sealed)  : (Device.failSlot d k).sealed := by
  unfold Device.failSlot
  (repeat' split) <;> simp_all (maxDischargeDepth := 60)

@[simp] theorem sealed_refetchRun (d : Device) (k : ℕ) (h : d.sealed)  : (Device.refetchRun d k).sealed := by
  unfold Device.refetchRun
  (repeat' split) <;> (try simp_all (maxDischargeDepth := 60)) <;> repeat' (first | split | intro _ | simp_all (maxDischargeDepth := 60) | (rename_i h; replace h := congrArg (fun q => q.1.sealed) h; simp_all (maxDischargeDepth := 60); done) | apply sealed_onCommand | apply sealed_onIdle | apply sealed_onWrite | apply sealed_softStart)

@[simp] theorem sealed_retryFill (d : Device) (n : ℕ) (h : d.sealed)  : (Device.retryFill d n).sealed := by
  unfold Device.retryFill
  (repeat' split) <;> simp_all (maxDischargeDepth := 60)

@[simp] theorem sealed_startFill (d : Device) (n : ℕ) (x : Item) (vault : Bool) (id : ℕ) (version : ℕ) (h : d.sealed)  : (Device.startFill d n x vault id version).sealed := by
  unfold Device.startFill
  extract_lets tenant len vf d0
  have h0 : d0.sealed := by
    simp only [d0]; (repeat' split) <;> simp_all
  have h1 := sealed_makeRoom len 128 d0 h0
  split
  all_goals
    rename_i he
    rw [he] at h1
    simp_all (maxDischargeDepth := 60)

@[simp] theorem sealed_endStep (d : Device) (n : ℕ) (e : StepEnd) (h : d.sealed)  : (Device.endStep d n e).sealed := by
  unfold Device.endStep
  (repeat' split) <;> simp_all (maxDischargeDepth := 60)

@[simp] theorem sealed_refuse (d : Device) (n : ℕ) (st : Status) (detail : ℕ) (h : d.sealed)  : (Device.refuse d n st detail).sealed := by
  unfold Device.refuse
  (repeat' split) <;> simp_all (maxDischargeDepth := 60)

@[simp] theorem sealed_lookupStored (d : Device) (n : ℕ) (b : Bool) (vault : Bool) (id : ℕ) (version : ℕ) (h : d.sealed)  : (Device.lookupStored d n b vault id version).sealed := by
  unfold Device.lookupStored
  (repeat' split) <;> (try simp_all (maxDischargeDepth := 60)) <;> repeat' (first | split | intro _ | simp_all (maxDischargeDepth := 60) | (rename_i h; replace h := congrArg (fun q => q.1.sealed) h; simp_all (maxDischargeDepth := 60); done) | apply sealed_onCommand | apply sealed_onIdle | apply sealed_onWrite | apply sealed_softStart)

@[simp] theorem sealed_requestKey (d : Device) (n : ℕ) (b : Bool) (h : d.sealed)  : (Device.requestKey d n b).sealed := by
  unfold Device.requestKey
  (repeat' split) <;> simp_all (maxDischargeDepth := 60)

@[simp] theorem sealed_writeArea (d : Device) (pair : ℕ) (area : ℕ) (place : ℕ) (bytes : Sys2Proof.Bytes) (h : d.sealed)  : (Device.writeArea d pair area place bytes).sealed := by
  unfold Device.writeArea
  (repeat' split) <;> simp_all (maxDischargeDepth := 60)

@[simp] theorem sealed_writeSuper (d : Device) (p : ℕ) (h : d.sealed)  : (Device.writeSuper d p).sealed := by
  unfold Device.writeSuper
  (repeat' split) <;> simp_all (maxDischargeDepth := 60)

@[simp] theorem sealed_deallocate (d : Device) (k : ℕ) (h : d.sealed)  : (Device.deallocate d k).sealed := by
  unfold Device.deallocate
  (repeat' split) <;> simp_all (maxDischargeDepth := 60)

@[simp] theorem sealed_writeHeader (d : Device) (k : ℕ) (g : Seg) (h : d.sealed)  : (Device.writeHeader d k g).sealed := by
  unfold Device.writeHeader
  (repeat' split) <;> simp_all (maxDischargeDepth := 60)

@[simp] theorem sealed_storeStep (d : Device) (f : Store → Store) (h : d.sealed)  : (Device.storeStep d f).sealed := by
  unfold Device.storeStep
  extract_lets d1 d2
  have h2 : d2.sealed := by
    simp only [d2]
    split
    · exact sealed_mapStore _ _ h
    · exact sealed_raiseInt _ _ _ _ (sealed_mapStore _ _ h)
  split
  · exact h2
  · exact sealed_raiseInt _ _ _ _ h2

@[simp] theorem sealed_setRing (d : Device) (v : ℕ) (r : Ring) (h : d.sealed)  : (Device.setRing d v r).sealed := by
  unfold Device.setRing
  (repeat' split) <;> simp_all (maxDischargeDepth := 60)

@[simp] theorem sealed_recordUnit (d : Device) (x : Item) (status : ℕ) (c : Option Comp) (h : d.sealed)  : (Device.recordUnit d x status c).sealed := by
  unfold Device.recordUnit
  (repeat' split) <;> simp_all (maxDischargeDepth := 60)

@[simp] theorem sealed_takeSeq (d : Device) (n : ℕ) (h : d.sealed)  : (Device.takeSeq d n).sealed := by
  unfold Device.takeSeq
  (repeat' split) <;> simp_all (maxDischargeDepth := 60)

@[simp] theorem sealed_captureWrite (d : Device) (w : ℕ) (h : d.sealed)  : (Device.captureWrite d w).sealed := by
  unfold Device.captureWrite
  (repeat' split) <;> simp_all (maxDischargeDepth := 60)

@[simp] theorem sealed_exportRefused (d : Device) (code : ℕ) (h : d.sealed)  : (Device.exportRefused d code).sealed := by
  unfold Device.exportRefused
  (repeat' split) <;> simp_all (maxDischargeDepth := 60)

@[simp] theorem sealed_exportStart (d : Device) (h : d.sealed)  : (Device.exportStart d).sealed := by
  unfold Device.exportStart
  (repeat' split) <;> simp_all (maxDischargeDepth := 60)

@[simp] theorem sealed_exportEnd (d : Device) (hostOk : Bool) (h : d.sealed)  : (Device.exportEnd d hostOk).sealed := by
  unfold Device.exportEnd
  (repeat' split) <;> simp_all (maxDischargeDepth := 60)

@[simp] theorem sealed_setEngine (d : Device) (e : ℕ) (x : Engine) (h : d.sealed)  : (Device.setEngine d e x).sealed := by
  unfold Device.setEngine
  (repeat' split) <;> simp_all (maxDischargeDepth := 60)

@[simp] theorem sealed_setPair (d : Device) (p : ℕ) (x : Pair) (h : d.sealed)  : (Device.setPair d p x).sealed := by
  unfold Device.setPair
  (repeat' split) <;> simp_all (maxDischargeDepth := 60)

@[simp] theorem sealed_setGroup (d : Device) (g : ℕ) (x : Cluster) (h : d.sealed)  : (Device.setGroup d g x).sealed := by
  unfold Device.setGroup
  (repeat' split) <;> simp_all (maxDischargeDepth := 60)

@[simp] theorem sealed_askYield (d : Device) (n : ℕ) (h : d.sealed)  : (Device.askYield d n).sealed := by
  unfold Device.askYield
  (repeat' split) <;> simp_all (maxDischargeDepth := 60)

@[simp] theorem sealed_askYields (d : Device) (h : d.sealed)  : (Device.askYields d).sealed := by
  unfold Device.askYields
  (repeat' split) <;> simp_all (maxDischargeDepth := 60)

@[simp] theorem sealed_startRun (d : Device) (n : ℕ) (u : RunUnit) (h : d.sealed)  : (Device.startRun d n u).sealed := by
  unfold Device.startRun
  (repeat' split) <;> simp_all (maxDischargeDepth := 60)

end Sys2Proof.Machine
end

