-- ==== Sys2Proof/Laws/SealedHost.lean ====
section
/-! SUPPORT. ZEROIZED kept: the host queues, the lanes and the key cache. -/

namespace Sys2Proof.Machine

@[simp] theorem sealed_dropAccess (d : Device) (v : ℕ) (src : ℕ) (h : d.sealed)  : (Device.dropAccess d v src).sealed := by
  unfold Device.dropAccess
  (repeat' split) <;> simp_all (maxDischargeDepth := 60)

@[simp] theorem sealed_requestOperands (d : Device) (n : ℕ) (h : d.sealed)  : (Device.requestOperands d n).sealed := by
  unfold Device.requestOperands
  (repeat' split) <;> simp_all (maxDischargeDepth := 60)

@[simp] theorem sealed_openStep (d : Device) (n : ℕ) (h : d.sealed)  : (Device.openStep d n).sealed := by
  unfold Device.openStep
  (repeat' split) <;> (try simp_all (maxDischargeDepth := 60)) <;> repeat' (first | split | intro _ | simp_all (maxDischargeDepth := 60) | (rename_i h; replace h := congrArg (fun q => q.1.sealed) h; simp_all (maxDischargeDepth := 60); done) | apply sealed_onCommand | apply sealed_onIdle | apply sealed_onWrite | apply sealed_softStart)

@[simp] theorem sealed_finishBundle (d : Device) (n : ℕ) (x : Item) (steps : List StepEnd) (h : d.sealed)  : (Device.finishBundle d n x steps).sealed := by
  unfold Device.finishBundle
  (repeat' split) <;> simp_all (maxDischargeDepth := 60)

@[simp] theorem sealed_settleN (k : Nat) (d : Device) (n : Nat) (h : d.sealed) : (Device.settleN k d n).sealed := by
  induction k generalizing d n with
  | zero => exact h
  | succ k ih => unfold Device.settleN; (repeat' split) <;> simp_all (maxDischargeDepth := 60)

@[simp] theorem sealed_settle (d : Device) (n : ℕ) (h : d.sealed)  : (Device.settle d n).sealed := by
  unfold Device.settle
  (repeat' split) <;> simp_all (maxDischargeDepth := 60)

@[simp] theorem sealed_refuseAdmission (d : Device) (n : ℕ) (st : Status) (h : d.sealed)  : (Device.refuseAdmission d n st).sealed := by
  unfold Device.refuseAdmission
  (repeat' split) <;> simp_all (maxDischargeDepth := 60)

@[simp] theorem sealed_admitItem (d : Device) (n : ℕ) (x : Item) (h : d.sealed)  : (Device.admitItem d n x).sealed := by
  unfold Device.admitItem
  (repeat' split) <;> simp_all (maxDischargeDepth := 60)

@[simp] theorem sealed_deferItem (d : Device) (n : ℕ) (x : Item) (h : d.sealed)  : (Device.deferItem d n x).sealed := by
  unfold Device.deferItem
  (repeat' split) <;> simp_all (maxDischargeDepth := 60)

@[simp] theorem sealed_admitTry (d : Device) (n : ℕ) (due : Bool) (h : d.sealed)  : (Device.admitTry d n due).sealed := by
  unfold Device.admitTry
  (repeat' split) <;> simp_all (maxDischargeDepth := 60)

@[simp] theorem sealed_admitDeferred (d : Device) (h : d.sealed)  : (Device.admitDeferred d).sealed := by
  unfold Device.admitDeferred
  (repeat' split) <;> simp_all (maxDischargeDepth := 60)

@[simp] theorem sealed_admitStart (d : Device) (n : ℕ) (x : Item) (h : d.sealed)  : (Device.admitStart d n x).sealed := by
  unfold Device.admitStart
  (repeat' split) <;> simp_all (maxDischargeDepth := 60)

@[simp] theorem sealed_preAdmit (d : Device) (n : ℕ) (h : d.sealed)  : (Device.preAdmit d n).sealed := by
  unfold Device.preAdmit
  (repeat' split) <;> simp_all (maxDischargeDepth := 60)

@[simp] theorem sealed_unfence (d : Device) (n : ℕ) (h : d.sealed)  : (Device.unfence d n).sealed := by
  unfold Device.unfence
  (repeat' split) <;> simp_all (maxDischargeDepth := 60)

@[simp] theorem sealed_epochStep (d : Device) (n : ℕ) (h : d.sealed)  : (Device.epochStep d n).sealed := by
  unfold Device.epochStep
  (repeat' split) <;> simp_all (maxDischargeDepth := 60)

@[simp] theorem sealed_epochChanged (d : Device) (h : d.sealed)  : (Device.epochChanged d).sealed := by
  unfold Device.epochChanged
  refine sealed_foldl _ _ _ h ?_
  intro d n h
  (repeat' split) <;> simp_all (maxDischargeDepth := 60)

@[simp] theorem sealed_serviceStep (d : Device) (n : ℕ) (h : d.sealed)  : (Device.serviceStep d n).sealed := by
  unfold Device.serviceStep
  (repeat' split) <;> simp_all (maxDischargeDepth := 60)

@[simp] theorem sealed_checkItem (d : Device) (n : ℕ) (h : d.sealed)  : (Device.checkItem d n).sealed := by
  unfold Device.checkItem
  (repeat' split) <;> simp_all (maxDischargeDepth := 60)

@[simp] theorem sealed_ingest (d : Device) (n : ℕ) (h : d.sealed)  : (Device.ingest d n).sealed := by
  unfold Device.ingest
  (repeat' split) <;> simp_all (maxDischargeDepth := 60)

@[simp] theorem sealed_ingestAll (d : Device) (h : d.sealed)  : (Device.ingestAll d).sealed := by
  unfold Device.ingestAll
  (repeat' split) <;> simp_all (maxDischargeDepth := 60)

@[simp] theorem sealed_accept (d : Device) (r : Route) (bytes : Sys2Proof.Bytes) (h : d.sealed)  : (Device.accept d r bytes).sealed := by
  unfold Device.accept
  (repeat' split) <;> simp_all (maxDischargeDepth := 60)

@[simp] theorem sealed_windowWrite (d : Device) (v : ℕ) (q : ℕ) (k : ℕ) (off : ℕ) (data : Sys2Proof.Bytes) (h : d.sealed)  : (Device.windowWrite d v q k off data).sealed := by
  unfold Device.windowWrite
  (repeat' split) <;> simp_all (maxDischargeDepth := 60)

@[simp] theorem sealed_tailDoorbell (d : Device) (v : ℕ) (q : ℕ) (be : BitVec 4) (value : Sys2Proof.Word) (h : d.sealed)  : (Device.tailDoorbell d v q be value).sealed := by
  unfold Device.tailDoorbell
  (repeat' split) <;> simp_all (maxDischargeDepth := 60)

@[simp] theorem sealed_unholdWindow (d : Device) (v : ℕ) (q : ℕ) (h : d.sealed)  : (Device.unholdWindow d v q).sealed := by
  unfold Device.unholdWindow
  (repeat' split) <;> simp_all (maxDischargeDepth := 60)

@[simp] theorem sealed_headDoorbell (d : Device) (v : ℕ) (q : ℕ) (be : BitVec 4) (value : Sys2Proof.Word) (h : d.sealed)  : (Device.headDoorbell d v q be value).sealed := by
  unfold Device.headDoorbell
  (repeat' split) <;> simp_all (maxDischargeDepth := 60)

@[simp] theorem sealed_fetchIssue (d : Device) (v : ℕ) (q : ℕ) (h : d.sealed)  : (Device.fetchIssue d v q).sealed := by
  unfold Device.fetchIssue
  (repeat' split) <;> simp_all (maxDischargeDepth := 60)

@[simp] theorem sealed_dropReads (d : Device) (v : ℕ) (q : ℕ) (h : d.sealed)  : (Device.dropReads d v q).sealed := by
  unfold Device.dropReads
  (repeat' split) <;> simp_all (maxDischargeDepth := 60)

@[simp] theorem sealed_readCompletion (d : Device) (v : ℕ) (q : ℕ) (data : Sys2Proof.Bytes) (h : d.sealed)  : (Device.readCompletion d v q data).sealed := by
  unfold Device.readCompletion
  (repeat' split) <;> (try simp_all (maxDischargeDepth := 60)) <;> repeat' (first | split | intro _ | simp_all (maxDischargeDepth := 60) | (rename_i h; replace h := congrArg (fun q => q.1.sealed) h; simp_all (maxDischargeDepth := 60); done) | apply sealed_onCommand | apply sealed_onIdle | apply sealed_onWrite | apply sealed_softStart)

@[simp] theorem sealed_readFailure (d : Device) (v : ℕ) (q : ℕ) (h : d.sealed)  : (Device.readFailure d v q).sealed := by
  unfold Device.readFailure
  (repeat' split) <;> (try simp_all (maxDischargeDepth := 60)) <;> repeat' (first | split | intro _ | simp_all (maxDischargeDepth := 60) | (rename_i h; replace h := congrArg (fun q => q.1.sealed) h; simp_all (maxDischargeDepth := 60); done) | apply sealed_onCommand | apply sealed_onIdle | apply sealed_onWrite | apply sealed_softStart)

@[simp] theorem sealed_refuseBuffer (d : Device) (n : ℕ) (x : Item) (detail : ℕ) (h : d.sealed)  : (Device.refuseBuffer d n x detail).sealed := by
  unfold Device.refuseBuffer
  (repeat' split) <;> simp_all (maxDischargeDepth := 60)

@[simp] theorem sealed_bufferEnd (d : Device) (n : ℕ) (data : Option Sys2Proof.Bytes) (h : d.sealed)  : (Device.bufferEnd d n data).sealed := by
  unfold Device.bufferEnd
  (repeat' split) <;> (try simp_all (maxDischargeDepth := 60)) <;> repeat' (first | split | intro _ | simp_all (maxDischargeDepth := 60) | (rename_i h; replace h := congrArg (fun q => q.1.sealed) h; simp_all (maxDischargeDepth := 60); done) | apply sealed_onCommand | apply sealed_onIdle | apply sealed_onWrite | apply sealed_softStart)

@[simp] theorem sealed_deferDue (d : Device) (n : ℕ) (h : d.sealed)  : (Device.deferDue d n).sealed := by
  unfold Device.deferDue
  (repeat' split) <;> simp_all (maxDischargeDepth := 60)

@[simp] theorem sealed_holdDue (d : Device) (n : ℕ) (h : d.sealed)  : (Device.holdDue d n).sealed := by
  unfold Device.holdDue
  (repeat' split) <;> simp_all (maxDischargeDepth := 60)

@[simp] theorem sealed_postCompletion (d : Device) (n : ℕ) (h : d.sealed)  : (Device.postCompletion d n).sealed := by
  unfold Device.postCompletion
  (repeat' split) <;> simp_all (maxDischargeDepth := 60)

@[simp] theorem sealed_setCluster (d : Device) (c : ℕ) (x : Cluster) (h : d.sealed)  : (Device.setCluster d c x).sealed := by
  unfold Device.setCluster
  (repeat' split) <;> simp_all (maxDischargeDepth := 60)

@[simp] theorem sealed_quarantineCluster (d : Device) (c : ℕ) (cause : ℕ) (lane : ℕ) (h : d.sealed)  : (Device.quarantineCluster d c cause lane).sealed := by
  unfold Device.quarantineCluster
  (repeat' split) <;> simp_all (maxDischargeDepth := 60)

@[simp] theorem sealed_markLane (d : Device) (c : ℕ) (l : ℕ) (bits : ℕ) (h : d.sealed)  : (Device.markLane d c l bits).sealed := by
  unfold Device.markLane
  (repeat' split) <;> simp_all (maxDischargeDepth := 60)

@[simp] theorem sealed_checkFailure (d : Device) (c : ℕ) (l : ℕ) (h : d.sealed)  : (Device.checkFailure d c l).sealed := by
  unfold Device.checkFailure
  (repeat' split) <;> simp_all (maxDischargeDepth := 60)

@[simp] theorem sealed_refuseOrDoom (d : Device) (n : ℕ) (st : Status) (detail : ℕ) (h : d.sealed)  : (Device.refuseOrDoom d n st detail).sealed := by
  unfold Device.refuseOrDoom
  (repeat' split) <;> simp_all (maxDischargeDepth := 60)

@[simp] theorem sealed_withdraw (d : Device) (k : ℕ) (h : d.sealed)  : (Device.withdraw d k).sealed := by
  unfold Device.withdraw
  (repeat' split) <;> simp_all (maxDischargeDepth := 60)

@[simp] theorem sealed_released (d : Device) (h : d.sealed)  : (Device.released d).sealed := by
  unfold Device.released
  (repeat' split) <;> simp_all (maxDischargeDepth := 60)

@[simp] theorem sealed_chargeInternal (d : Device) (x : Item) (h : d.sealed)  : (Device.chargeInternal d x).sealed := by
  unfold Device.chargeInternal
  (repeat' split) <;> simp_all (maxDischargeDepth := 60)

@[simp] theorem sealed_setLane (d : Device) (c : ℕ) (l : ℕ) (x : Lane) (h : d.sealed)  : (Device.setLane d c l x).sealed := by
  unfold Device.setLane
  (repeat' split) <;> simp_all (maxDischargeDepth := 60)

@[simp] theorem sealed_startLane (d : Device) (n : ℕ) (c : ℕ) (l : ℕ) (x : Item) (t : TableVersion) (h : d.sealed)  : (Device.startLane d n c l x t).sealed := by
  unfold Device.startLane
  (repeat' split) <;> simp_all (maxDischargeDepth := 60)

@[simp] theorem sealed_runLane (d : Device) (x : Item) (h : d.sealed)  : (Device.runLane d x).1.sealed := by
  unfold Device.runLane
  (repeat' split) <;> simp_all (maxDischargeDepth := 60)

@[simp] theorem sealed_dispatchLane (d : Device) (tagOk : Bool) (h : d.sealed)  : (Device.dispatchLane d tagOk).sealed := by
  unfold Device.dispatchLane
  (repeat' split) <;> simp_all (maxDischargeDepth := 60)

@[simp] theorem sealed_discardItem (d : Device) (n : ℕ) (h : d.sealed)  : (Device.discardItem d n).sealed := by
  unfold Device.discardItem
  (repeat' split) <;> simp_all (maxDischargeDepth := 60)

@[simp] theorem sealed_releaseStaged (d : Device) (n : ℕ) (st : Staged) (h : d.sealed)  : (Device.releaseStaged d n st).sealed := by
  unfold Device.releaseStaged
  (repeat' split) <;> simp_all (maxDischargeDepth := 60)

@[simp] theorem sealed_withhold (d : Device) (n : ℕ) (st : Status) (detail : ℕ) (h : d.sealed)  : (Device.withhold d n st detail).sealed := by
  unfold Device.withhold
  (repeat' split) <;> simp_all (maxDischargeDepth := 60)

@[simp] theorem sealed_rerun (d : Device) (n : ℕ) (x : Item) (h : d.sealed)  : (Device.rerun d n x).sealed := by
  unfold Device.rerun
  (repeat' split) <;> simp_all (maxDischargeDepth := 60)

@[simp] theorem sealed_laneGate (d : Device) (n : ℕ) (c : ℕ) (l : ℕ) (failed : Bool) (h : d.sealed)  : (Device.laneGate d n c l failed).sealed := by
  unfold Device.laneGate
  (repeat' split) <;> simp_all (maxDischargeDepth := 60)

@[simp] theorem sealed_laneRunEnd (d : Device) (n : ℕ) (mismatches : ℕ) (countersOk : Bool) (h : d.sealed)  : (Device.laneRunEnd d n mismatches countersOk).sealed := by
  unfold Device.laneRunEnd
  (repeat' split) <;> simp_all (maxDischargeDepth := 60)

@[simp] theorem sealed_failRuns (d : Device) (c : ℕ) (p : ℕ → Bool) (h : d.sealed)  : (Device.failRuns d c p).sealed := by
  unfold Device.failRuns
  (repeat' split) <;> (try simp_all (maxDischargeDepth := 60)) <;> repeat' (first | split | intro _ | simp_all (maxDischargeDepth := 60) | (rename_i h; replace h := congrArg (fun q => q.1.sealed) h; simp_all (maxDischargeDepth := 60); done) | apply sealed_onCommand | apply sealed_onIdle | apply sealed_onWrite | apply sealed_softStart)

@[simp] theorem sealed_laneFailure (d : Device) (c : ℕ) (l : ℕ) (u : LaneUnit) (h : d.sealed)  : (Device.laneFailure d c l u).sealed := by
  unfold Device.laneFailure
  (repeat' split) <;> simp_all (maxDischargeDepth := 60)

@[simp] theorem sealed_glitch (d : Device) (c : ℕ) (h : d.sealed)  : (Device.glitch d c).sealed := by
  unfold Device.glitch
  (repeat' split) <;> simp_all (maxDischargeDepth := 60)

@[simp] theorem sealed_clusterWake (d : Device) (c : ℕ) (h : d.sealed)  : (Device.clusterWake d c).sealed := by
  unfold Device.clusterWake
  (repeat' split) <;> simp_all (maxDischargeDepth := 60)

@[simp] theorem sealed_floodWake (d : Device) (h : d.sealed)  : (Device.floodWake d).sealed := by
  unfold Device.floodWake
  (repeat' split) <;> simp_all (maxDischargeDepth := 60)

@[simp] theorem sealed_warmWake (d : Device) (h : d.sealed)  : (Device.warmWake d).sealed := by
  unfold Device.warmWake
  (repeat' split) <;> simp_all (maxDischargeDepth := 60)

@[simp] theorem sealed_testWakes (d : Device) (h : d.sealed)  : (Device.testWakes d).sealed := by
  unfold Device.testWakes
  (repeat' split) <;> simp_all (maxDischargeDepth := 60)

@[simp] theorem sealed_lcReleaseEnd (d : Device) (c : ℕ) (h : d.sealed)  : (Device.lcReleaseEnd d c).sealed := by
  unfold Device.lcReleaseEnd
  (repeat' split) <;> simp_all (maxDischargeDepth := 60)

@[simp] theorem sealed_clusterWakeEnd (d : Device) (c : ℕ) (ok : Bool) (h : d.sealed)  : (Device.clusterWakeEnd d c ok).sealed := by
  unfold Device.clusterWakeEnd
  (repeat' split) <;> simp_all (maxDischargeDepth := 60)

@[simp] theorem sealed_clusterIdleGate (d : Device) (c : ℕ) (h : d.sealed)  : (Device.clusterIdleGate d c).sealed := by
  unfold Device.clusterIdleGate
  (repeat' split) <;> simp_all (maxDischargeDepth := 60)

@[simp] theorem sealed_clusterGated (d : Device) (c : ℕ) (h : d.sealed)  : (Device.clusterGated d c).sealed := by
  unfold Device.clusterGated
  (repeat' split) <;> (try simp_all (maxDischargeDepth := 60)) <;> repeat' (first | split | intro _ | simp_all (maxDischargeDepth := 60) | (rename_i h; replace h := congrArg (fun q => q.1.sealed) h; simp_all (maxDischargeDepth := 60); done) | apply sealed_onCommand | apply sealed_onIdle | apply sealed_onWrite | apply sealed_softStart)

@[simp] theorem sealed_lcRelease (d : Device) (c : ℕ) (h : d.sealed)  : (Device.lcRelease d c).sealed := by
  unfold Device.lcRelease
  (repeat' split) <;> simp_all (maxDischargeDepth := 60)

@[simp] theorem sealed_lcFailClear (d : Device) (c : ℕ) (half : ℕ) (bits : ℕ) (h : d.sealed)  : (Device.lcFailClear d c half bits).sealed := by
  unfold Device.lcFailClear
  (repeat' split) <;> simp_all (maxDischargeDepth := 60)

@[simp] theorem sealed_lcReset (d : Device) (c : ℕ) (h : d.sealed)  : (Device.lcReset d c).sealed := by
  unfold Device.lcReset
  (repeat' split) <;> simp_all (maxDischargeDepth := 60)

@[simp] theorem sealed_lcSoftReset (d : Device) (c : ℕ) (h : d.sealed)  : (Device.lcSoftReset d c).sealed := by
  unfold Device.lcSoftReset
  (repeat' split) <;> simp_all (maxDischargeDepth := 60)

@[simp] theorem sealed_dispatchKeySide (d : Device) (h : d.sealed)  : (Device.dispatchKeySide d).sealed := by
  unfold Device.dispatchKeySide
  (repeat' split) <;> simp_all (maxDischargeDepth := 60)

@[simp] theorem sealed_keySideEnd (d : Device) (n : ℕ) (mismatches : ℕ) (h : d.sealed)  : (Device.keySideEnd d n mismatches).sealed := by
  unfold Device.keySideEnd
  (repeat' split) <;> simp_all (maxDischargeDepth := 60)

@[simp] theorem sealed_deliverKey (d : Device) (n : ℕ) (b : Bool) (e : Option KeyEntry) (h : d.sealed)  : (Device.deliverKey d n b e).sealed := by
  unfold Device.deliverKey
  (repeat' split) <;> simp_all (maxDischargeDepth := 60)

@[simp] theorem sealed_refuseWaiters (d : Device) (r : KeyRun) (st : Status) (detail : ℕ) (h : d.sealed)  : (Device.refuseWaiters d r st detail).sealed := by
  unfold Device.refuseWaiters
  (repeat' split) <;> simp_all (maxDischargeDepth := 60)

@[simp] theorem sealed_fillRun (d : Device) (k : ℕ) (r : KeyRun) (h : d.sealed)  : (Device.fillRun d k r).sealed := by
  unfold Device.fillRun
  (repeat' split) <;> simp_all (maxDischargeDepth := 60)

@[simp] theorem sealed_fillAbsent (d : Device) (k : ℕ) (r : KeyRun) (h : d.sealed)  : (Device.fillAbsent d k r).sealed := by
  unfold Device.fillAbsent
  (repeat' split) <;> simp_all (maxDischargeDepth := 60)

@[simp] theorem sealed_fillBad (d : Device) (k : ℕ) (r : KeyRun) (h : d.sealed)  : (Device.fillBad d k r).sealed := by
  unfold Device.fillBad
  (repeat' split) <;> simp_all (maxDischargeDepth := 60)

@[simp] theorem sealed_fetchEnd (d : Device) (k : ℕ) (f : FetchEnd) (h : d.sealed)  : (Device.fetchEnd d k f).sealed := by
  unfold Device.fetchEnd
  (repeat' split) <;> simp_all (maxDischargeDepth := 60)

@[simp] theorem sealed_slotRead (d : Device) (n : ℕ) (b : Bool) (k : ℕ) (r : KeyRun) (f : SlotRead) (h : d.sealed)  : (Device.slotRead d n b k r f).sealed := by
  unfold Device.slotRead
  (repeat' split) <;> simp_all (maxDischargeDepth := 60)

@[simp] theorem sealed_keyArrival (d : Device) (n : ℕ) (x : Item) (b : Bool) (f : SlotRead) (h : d.sealed)  : (Device.keyArrival d n x b f).sealed := by
  unfold Device.keyArrival
  extract_lets hh tenant e vault id ver
  split
  · (repeat' split) <;> simp [h]
  · split
    · split
      · exact h
      · split
        · exact sealed_deliverKey _ _ _ _ h
        · exact sealed_deliverKey _ _ _ _ (sealed_fault _ _ h)
        · exact sealed_settle _ _ (sealed_refuse _ _ _ _ (sealed_fault _ _ (sealed_fault _ _ h)))
        · exact h
    · split
      · split
        · exact sealed_slotRead _ _ _ _ _ _ h
        · exact h
      · exact sealed_lookupStored _ _ _ _ _ _ h

@[simp] theorem sealed_giveBlock (d : Device) (n : ℕ) (h : d.sealed)  : (Device.giveBlock d n).sealed := by
  unfold Device.giveBlock
  (repeat' split) <;> simp_all (maxDischargeDepth := 60)

@[simp] theorem sealed_queueRequest (d : Device) (q : RngReq) (h : d.sealed)  : (Device.queueRequest d q).sealed := by
  unfold Device.queueRequest
  (repeat' split) <;> simp_all (maxDischargeDepth := 60)

@[simp] theorem sealed_operandArrival (d : Device) (n : ℕ) (which : ℕ) (f : SlotRead) (h : d.sealed)  : (Device.operandArrival d n which f).sealed := by
  unfold Device.operandArrival
  (repeat' split) <;> simp_all (maxDischargeDepth := 60)

@[simp] theorem sealed_operandRefusal (d : Device) (n : ℕ) (which : ℕ) (why : Refuse) (h : d.sealed)  : (Device.operandRefusal d n which why).sealed := by
  unfold Device.operandRefusal
  (repeat' split) <;> simp_all (maxDischargeDepth := 60)

@[simp] theorem sealed_sessionEnd (d : Device) (n : ℕ) (mismatches : ℕ) (h : d.sealed)  : (Device.sessionEnd d n mismatches).sealed := by
  unfold Device.sessionEnd
  (repeat' split) <;> (try simp_all (maxDischargeDepth := 60)) <;> repeat' (first | split | intro _ | simp_all (maxDischargeDepth := 60) | (rename_i h; replace h := congrArg (fun q => q.1.sealed) h; simp_all (maxDischargeDepth := 60); done) | apply sealed_onCommand | apply sealed_onIdle | apply sealed_onWrite | apply sealed_softStart)

@[simp] theorem sealed_queueSweep (d : Device) (h : d.sealed)  : (Device.queueSweep d).sealed := by
  unfold Device.queueSweep
  (repeat' split) <;> simp_all (maxDischargeDepth := 60)

@[simp] theorem sealed_sweepRun (failing : List ℕ) (d : Device) (e : ℕ × KeyRun) (h : d.sealed)  : (Device.sweepRun failing d e).sealed := by
  unfold Device.sweepRun
  (repeat' split) <;> simp_all (maxDischargeDepth := 60)

@[simp] theorem sealed_sweepPass (d : Device) (failing : List ℕ) (h : d.sealed)  : (Device.sweepPass d failing).sealed := by
  unfold Device.sweepPass
  (repeat' split) <;> simp_all (maxDischargeDepth := 60)

end Sys2Proof.Machine
end

