-- ==== Sys2Proof/Laws/SealedStore.lean ====
section
/-! SUPPORT. ZEROIZED kept: the fabric, the record store, the domain and migration. -/

namespace Sys2Proof.Machine

@[simp] theorem sealed_domStep (d : Device) (f : Domain → Domain) (h : d.sealed)  : (Device.domStep d f).sealed := by
  unfold Device.domStep
  extract_lets d1 d2
  have h2 : d2.sealed := by
    simp only [d2]
    split
    · exact sealed_mapDom _ _ h
    · exact sealed_raiseInt _ _ _ _ (sealed_mapDom _ _ h)
  (repeat' split)
  · exact sealed_holdCause _ _ _ (sealed_fault _ _ h2)
  · exact sealed_holdCause _ _ _ h2
  · exact h2

@[simp] theorem sealed_emitFrame (d : Device) (p : ℕ) (m : Msg) (h : d.sealed)  : (Device.emitFrame d p m).sealed := by
  unfold Device.emitFrame
  (repeat' split) <;> simp_all (maxDischargeDepth := 60)

@[simp] theorem sealed_transmit (d : Device) (m : Msg) (h : d.sealed)  : (Device.transmit d m).sealed := by
  unfold Device.transmit
  (repeat' split) <;> (try simp_all (maxDischargeDepth := 60)) <;> repeat' (first | split | intro _ | simp_all (maxDischargeDepth := 60) | (rename_i h; replace h := congrArg (fun q => q.1.sealed) h; simp_all (maxDischargeDepth := 60); done) | apply sealed_onCommand | apply sealed_onIdle | apply sealed_onWrite | apply sealed_softStart)

@[simp] theorem sealed_send (d : Device) (m : Msg) (h : d.sealed)  : (Device.send d m).sealed := by
  unfold Device.send
  (repeat' split) <;> simp_all (maxDischargeDepth := 60)

@[simp] theorem sealed_flushQueue (d : Device) (m : ℕ) (h : d.sealed)  : (Device.flushQueue d m).sealed := by
  unfold Device.flushQueue
  (repeat' split) <;> simp_all (maxDischargeDepth := 60)

@[simp] theorem sealed_replicateTo (d : Device) (r : Rec) (m : ℕ) (h : d.sealed)  : (Device.replicateTo d r m).sealed := by
  unfold Device.replicateTo
  (repeat' split) <;> simp_all (maxDischargeDepth := 60)

@[simp] theorem sealed_bankUpdate (d : Device) (f : Bank → Bank) (h : d.sealed)  : (Device.bankUpdate d f).sealed := by
  unfold Device.bankUpdate
  (repeat' split) <;> simp_all (maxDischargeDepth := 60)

@[simp] theorem sealed_setCommit (d : Device) (c : Commit) (h : d.sealed)  : (Device.setCommit d c).sealed := by
  unfold Device.setCommit
  (repeat' split) <;> simp_all (maxDischargeDepth := 60)

@[simp] theorem sealed_dropCommit (d : Device) (seq : ℕ) (h : d.sealed)  : (Device.dropCommit d seq).sealed := by
  unfold Device.dropCommit
  (repeat' split) <;> simp_all (maxDischargeDepth := 60)

@[simp] theorem sealed_pursue (d : Device) (seq : ℕ) (again : Bool) (h : d.sealed)  : (Device.pursue d seq again).sealed := by
  unfold Device.pursue
  (repeat' split) <;> simp_all (maxDischargeDepth := 60)

@[simp] theorem sealed_sealRecord (d : Device) (r : Rec) (h : d.sealed)  : (Device.sealRecord d r).1.sealed := by
  unfold Device.sealRecord
  (repeat' split) <;> simp_all (maxDischargeDepth := 60)

@[simp] theorem sealed_releaseRecord (item : Option ℕ) (d0 : Device) (r : Rec) (h : d0.sealed)  : (Device.releaseRecord item d0 r).sealed := by
  unfold Device.releaseRecord
  have h1 := sealed_sealRecord d0 r h
  revert h1
  obtain ⟨d, s⟩ := d0.sealRecord r
  intro h1
  simp_all (maxDischargeDepth := 60)

@[simp] theorem sealed_releaseRecords (d : Device) (item : Option ℕ) (rs : List Rec) (h : d.sealed)  : (Device.releaseRecords d item rs).sealed := by
  unfold Device.releaseRecords
  (repeat' split) <;> simp_all (maxDischargeDepth := 60)

@[simp] theorem sealed_voidRecord (d : Device) (r : Rec) (holders : List ℕ) (h : d.sealed)  : (Device.voidRecord d r holders).sealed := by
  unfold Device.voidRecord
  (repeat' split) <;> simp_all (maxDischargeDepth := 60)

@[simp] theorem sealed_copyForward (d : Device) (rs : List Rec) (h : d.sealed)  : (Device.copyForward d rs).sealed := by
  unfold Device.copyForward
  (repeat' split) <;> simp_all (maxDischargeDepth := 60)

@[simp] theorem sealed_markMember (d : Device) (m : ℕ) (h : d.sealed)  : (Device.markMember d m).sealed := by
  unfold Device.markMember
  (repeat' split) <;> simp_all (maxDischargeDepth := 60)

@[simp] theorem sealed_clearMark (d : Device) (m : ℕ) (h : d.sealed)  : (Device.clearMark d m).sealed := by
  unfold Device.clearMark
  (repeat' split) <;> simp_all (maxDischargeDepth := 60)

@[simp] theorem sealed_setSeg (d : Device) (k : ℕ) (g : Seg) (h : d.sealed)  : (Device.setSeg d k g).sealed := by
  unfold Device.setSeg
  (repeat' split) <;> simp_all (maxDischargeDepth := 60)

@[simp] theorem sealed_openSegment (d : Device) (pair : ℕ) (n : ℕ) (h : d.sealed)  : (Device.openSegment d pair n).sealed := by
  unfold Device.openSegment
  (repeat' split) <;> simp_all (maxDischargeDepth := 60)

@[simp] theorem sealed_openNext (d : Device) (last : ℕ) (h : d.sealed)  : (Device.openNext d last).sealed := by
  unfold Device.openNext
  (repeat' split) <;> simp_all (maxDischargeDepth := 60)

@[simp] theorem sealed_jnlEnd (d : Device) (aborted : Bool) (code : ℕ) (h : d.sealed)  : (Device.jnlEnd d aborted code).sealed := by
  unfold Device.jnlEnd
  (repeat' split) <;> simp_all (maxDischargeDepth := 60)

@[simp] theorem sealed_jnlStart (d : Device) (o : JnlOp) (cmd : Bool) (h : d.sealed)  : (Device.jnlStart d o cmd).sealed := by
  unfold Device.jnlStart
  (repeat' split) <;> simp_all (maxDischargeDepth := 60)

@[simp] theorem sealed_queueStep (d : Device) (o : JnlOp) (h : d.sealed)  : (Device.queueStep d o).sealed := by
  unfold Device.queueStep
  (repeat' split) <;> simp_all (maxDischargeDepth := 60)

@[simp] theorem sealed_startScrub (d : Device) (cmd : Bool) (h : d.sealed)  : (Device.startScrub d cmd).sealed := by
  unfold Device.startScrub
  (repeat' split) <;> simp_all (maxDischargeDepth := 60)

@[simp] theorem sealed_startCompaction (d : Device) (cmd : Bool) (h : d.sealed)  : (Device.startCompaction d cmd).sealed := by
  unfold Device.startCompaction
  (repeat' split) <;> simp_all (maxDischargeDepth := 60)

@[simp] theorem sealed_autoCompaction (d : Device) (h : d.sealed)  : (Device.autoCompaction d).sealed := by
  unfold Device.autoCompaction
  (repeat' split) <;> simp_all (maxDischargeDepth := 60)

@[simp] theorem sealed_commitItem (d : Device) (n : ℕ) (h : d.sealed)  : (Device.commitItem d n).sealed := by
  unfold Device.commitItem
  (repeat' split) <;> simp_all (maxDischargeDepth := 60)

@[simp] theorem sealed_commitNotice (d : Device) (n : ℕ) (h : d.sealed)  : (Device.commitNotice d n).sealed := by
  unfold Device.commitNotice
  (repeat' split) <;> simp_all (maxDischargeDepth := 60)

@[simp] theorem sealed_ceremonyCommit (d : Device) (c : Commit) (h : d.sealed)  : (Device.ceremonyCommit d c).sealed := by
  unfold Device.ceremonyCommit
  rw [h.2]; exact h

@[simp] theorem sealed_markCommitted (d : Device) (c : Commit) (h : d.sealed)  : (Device.markCommitted d c).sealed := by
  unfold Device.markCommitted
  (repeat' split) <;> simp_all (maxDischargeDepth := 60)

@[simp] theorem sealed_recordCommitted (d : Device) (seq : ℕ) (h : d.sealed)  : (Device.recordCommitted d seq).sealed := by
  unfold Device.recordCommitted
  (repeat' split) <;> simp_all (maxDischargeDepth := 60)

@[simp] theorem sealed_commitLate (d : Device) (seq : ℕ) (h : d.sealed)  : (Device.commitLate d seq).sealed := by
  unfold Device.commitLate
  (repeat' split) <;> simp_all (maxDischargeDepth := 60)

@[simp] theorem sealed_localWrite (d : Device) (h : d.sealed)  : (Device.localWrite d).sealed := by
  unfold Device.localWrite
  (repeat' split) <;> simp_all (maxDischargeDepth := 60)

@[simp] theorem sealed_indexRecord (d : Device) (r : Rec) (h : d.sealed)  : (Device.indexRecord d r).sealed := by
  unfold Device.indexRecord
  (repeat' split) <;> simp_all (maxDischargeDepth := 60)

@[simp] theorem sealed_landWrite (d : Device) (h : d.sealed)  : (Device.landWrite d).sealed := by
  unfold Device.landWrite
  (repeat' split) <;> simp_all (maxDischargeDepth := 60)

@[simp] theorem sealed_dropSuperseded (d : Device) (r : Rec) (h : d.sealed)  : (Device.dropSuperseded d r).sealed := by
  unfold Device.dropSuperseded
  (repeat' split) <;> simp_all (maxDischargeDepth := 60)

@[simp] theorem sealed_noteState (d : Device) (was : ℕ) (h : d.sealed)  : (Device.noteState d was).sealed := by
  unfold Device.noteState
  (repeat' split) <;> simp_all (maxDischargeDepth := 60)

@[simp] theorem sealed_checkFull (d : Device) (h : d.sealed)  : (Device.checkFull d).sealed := by
  unfold Device.checkFull
  (repeat' split) <;> simp_all (maxDischargeDepth := 60)

@[simp] theorem sealed_abandonCommit (d : Device) (c : Commit) (h : d.sealed)  : (Device.abandonCommit d c).sealed := by
  unfold Device.abandonCommit
  (repeat' split) <;> (try simp_all (maxDischargeDepth := 60)) <;> repeat' (first | split | intro _ | simp_all (maxDischargeDepth := 60) | (rename_i h; replace h := congrArg (fun q => q.1.sealed) h; simp_all (maxDischargeDepth := 60); done) | apply sealed_onCommand | apply sealed_onIdle | apply sealed_onWrite | apply sealed_softStart)

@[simp] theorem sealed_becomeReadOnly (d : Device) (h : d.sealed)  : (Device.becomeReadOnly d).sealed := by
  unfold Device.becomeReadOnly
  (repeat' split) <;> simp_all (maxDischargeDepth := 60)

@[simp] theorem sealed_failPort (d : Device) (p : ℕ) (h : d.sealed)  : (Device.failPort d p).sealed := by
  unfold Device.failPort
  (repeat' split) <;> simp_all (maxDischargeDepth := 60)

@[simp] theorem sealed_fuaFailure (d : Device) (p : ℕ) (h : d.sealed)  : (Device.fuaFailure d p).sealed := by
  unfold Device.fuaFailure
  (repeat' split) <;> simp_all (maxDischargeDepth := 60)

@[simp] theorem sealed_setRead (d : Device) (r : PeerRead) (h : d.sealed)  : (Device.setRead d r).sealed := by
  unfold Device.setRead
  (repeat' split) <;> simp_all (maxDischargeDepth := 60)

@[simp] theorem sealed_dropRead (d : Device) (k : ℕ) (h : d.sealed)  : (Device.dropRead d k).sealed := by
  unfold Device.dropRead
  (repeat' split) <;> simp_all (maxDischargeDepth := 60)

@[simp] theorem sealed_probeAbsent (d : Device) (n : ℕ) (bad : Bool) (h : d.sealed)  : (Device.probeAbsent d n bad).sealed := by
  unfold Device.probeAbsent
  (repeat' split) <;> simp_all (maxDischargeDepth := 60)

@[simp] theorem sealed_probeFound (d : Device) (n : ℕ) (recs : List Rec) (h : d.sealed)  : (Device.probeFound d n recs).sealed := by
  unfold Device.probeFound
  (repeat' split) <;> (try simp_all (maxDischargeDepth := 60)) <;> repeat' (first | split | intro _ | simp_all (maxDischargeDepth := 60) | (rename_i h; replace h := congrArg (fun q => q.1.sealed) h; simp_all (maxDischargeDepth := 60); done) | apply sealed_onCommand | apply sealed_onIdle | apply sealed_onWrite | apply sealed_softStart)

@[simp] theorem sealed_readAbsent (d : Device) (r : PeerRead) (h : d.sealed)  : (Device.readAbsent d r).sealed := by
  unfold Device.readAbsent
  (repeat' split) <;> (try simp_all (maxDischargeDepth := 60)) <;> repeat' (first | split | intro _ | simp_all (maxDischargeDepth := 60) | (rename_i h; replace h := congrArg (fun q => q.1.sealed) h; simp_all (maxDischargeDepth := 60); done) | apply sealed_onCommand | apply sealed_onIdle | apply sealed_onWrite | apply sealed_softStart)

@[simp] theorem sealed_readNext (d : Device) (r : PeerRead) (h : d.sealed)  : (Device.readNext d r).sealed := by
  unfold Device.readNext
  (repeat' split) <;> simp_all (maxDischargeDepth := 60)

@[simp] theorem sealed_peerRead (d : Device) (k : ℕ) (i : Ident) (bad : Bool) (h : d.sealed)  : (Device.peerRead d k i bad).sealed := by
  unfold Device.peerRead
  (repeat' split) <;> simp_all (maxDischargeDepth := 60)

@[simp] theorem sealed_probeReadEnd (d : Device) (n : ℕ) (f : ReadEnd) (h : d.sealed)  : (Device.probeReadEnd d n f).sealed := by
  unfold Device.probeReadEnd
  (repeat' split) <;> simp_all (maxDischargeDepth := 60)

@[simp] theorem sealed_recordReadEnd (d : Device) (k : ℕ) (f : ReadEnd) (h : d.sealed)  : (Device.recordReadEnd d k f).sealed := by
  unfold Device.recordReadEnd
  (repeat' split) <;> simp_all (maxDischargeDepth := 60)

@[simp] theorem sealed_retryRead (d : Device) (k : ℕ) (h : d.sealed)  : (Device.retryRead d k).sealed := by
  unfold Device.retryRead
  (repeat' split) <;> (try simp_all (maxDischargeDepth := 60)) <;> repeat' (first | split | intro _ | simp_all (maxDischargeDepth := 60) | (rename_i h; replace h := congrArg (fun q => q.1.sealed) h; simp_all (maxDischargeDepth := 60); done) | apply sealed_onCommand | apply sealed_onIdle | apply sealed_onWrite | apply sealed_softStart)

@[simp] theorem sealed_indexCheckpoint (d : Device) (h : d.sealed)  : (Device.indexCheckpoint d).sealed := by
  unfold Device.indexCheckpoint
  (repeat' split) <;> simp_all (maxDischargeDepth := 60)

@[simp] theorem sealed_jnlCommand (d : Device) (o : JnlOp) (f : Device → Device) (h : d.sealed) (hf : ∀ x0, x0.sealed → ((f x0)).sealed) : (Device.jnlCommand d o f).sealed := by
  unfold Device.jnlCommand
  (repeat' split) <;> simp_all (maxDischargeDepth := 60)

@[simp] theorem sealed_sweepCommand (d : Device) (o : JnlOp) (start : Device → Device) (h : d.sealed) (hstart : ∀ x0, x0.sealed → ((start x0)).sealed) : (Device.sweepCommand d o start).sealed := by
  unfold Device.sweepCommand
  (repeat' split) <;> simp_all (maxDischargeDepth := 60)

@[simp] theorem sealed_scrubTimer (d : Device) (h : d.sealed)  : (Device.scrubTimer d).sealed := by
  unfold Device.scrubTimer
  (repeat' split) <;> simp_all (maxDischargeDepth := 60)

@[simp] theorem sealed_scrubEnd (d : Device) (h : d.sealed)  : (Device.scrubEnd d).sealed := by
  unfold Device.scrubEnd
  (repeat' split) <;> simp_all (maxDischargeDepth := 60)

@[simp] theorem sealed_eraseSegment (d : Device) (k : ℕ) (h : d.sealed)  : (Device.eraseSegment d k).sealed := by
  unfold Device.eraseSegment
  (repeat' split) <;> simp_all (maxDischargeDepth := 60)

@[simp] theorem sealed_compactStep (d : Device) (h : d.sealed)  : (Device.compactStep d).sealed := by
  unfold Device.compactStep
  (repeat' split) <;> simp_all (maxDischargeDepth := 60)

@[simp] theorem sealed_compactionEnd (d : Device) (h : d.sealed)  : (Device.compactionEnd d).sealed := by
  unfold Device.compactionEnd
  (repeat' split) <;> simp_all (maxDischargeDepth := 60)

@[simp] theorem sealed_scrubStep (d : Device) (h : d.sealed)  : (Device.scrubStep d).sealed := by
  unfold Device.scrubStep
  (repeat' split) <;> simp_all (maxDischargeDepth := 60)

@[simp] theorem sealed_adopt (d : Device) (h : d.sealed)  : (Device.adopt d).sealed := by
  unfold Device.adopt
  (repeat' split) <;> simp_all (maxDischargeDepth := 60)

@[simp] theorem sealed_adoptSuper (d : Device) (p : ℕ) (code : ℕ) (h : d.sealed)  : (Device.adoptSuper d p code).sealed := by
  unfold Device.adoptSuper
  (repeat' split) <;> simp_all (maxDischargeDepth := 60)

@[simp] theorem sealed_adoptEnd (d : Device) (code : ℕ) (h : d.sealed)  : (Device.adoptEnd d code).sealed := by
  unfold Device.adoptEnd
  (repeat' split) <;> simp_all (maxDischargeDepth := 60)

@[simp] theorem sealed_format (d : Device) (h : d.sealed)  : (Device.format d).sealed := by
  unfold Device.format
  (repeat' split) <;> simp_all (maxDischargeDepth := 60)

@[simp] theorem sealed_formatStore (d : Device) (h : d.sealed)  : (Device.formatStore d).sealed := by
  unfold Device.formatStore
  (repeat' split) <;> simp_all (maxDischargeDepth := 60)

@[simp] theorem sealed_formatEnd (d : Device) (code : ℕ) (h : d.sealed)  : (Device.formatEnd d code).sealed := by
  unfold Device.formatEnd
  (repeat' split) <;> simp_all (maxDischargeDepth := 60)

@[simp] theorem sealed_jnlReset (d : Device) (h : d.sealed)  : (Device.jnlReset d).sealed := by
  unfold Device.jnlReset
  (repeat' split) <;> simp_all (maxDischargeDepth := 60)

@[simp] theorem sealed_jnlSoftReset (d : Device) (h : d.sealed)  : (Device.jnlSoftReset d).sealed := by
  unfold Device.jnlSoftReset
  (repeat' split) <;> simp_all (maxDischargeDepth := 60)

@[simp] theorem sealed_answerEpoch (d : Device) (m : Msg) (status : ℕ) (h : d.sealed)  : (Device.answerEpoch d m status).sealed := by
  unfold Device.answerEpoch
  (repeat' split) <;> simp_all (maxDischargeDepth := 60)

@[simp] theorem sealed_heard (d : Device) (p : ℕ) (m : Msg) (h : d.sealed)  : (Device.heard d p m).sealed := by
  unfold Device.heard
  (repeat' split) <;> simp_all (maxDischargeDepth := 60)

@[simp] theorem sealed_graced (d : Device) (m : Msg) (f : Device → Device) (h : d.sealed) (hf : ∀ x0, x0.sealed → ((f x0)).sealed) : (Device.graced d m f).sealed := by
  unfold Device.graced
  (repeat' split) <;> simp_all (maxDischargeDepth := 60)

@[simp] theorem sealed_receive (d : Device) (p : ℕ) (m : Msg) (f : Device → Device) (h : d.sealed) (hf : ∀ x0, x0.sealed → ((f x0)).sealed) : (Device.receive d p m f).sealed := by
  unfold Device.receive
  (repeat' split) <;> simp_all (maxDischargeDepth := 60)

@[simp] theorem sealed_askHold (d : Device) (r : Rec) (why : AskWhy) (members : List ℕ) (h : d.sealed)  : (Device.askHold d r why members).sealed := by
  unfold Device.askHold
  (repeat' split) <;> simp_all (maxDischargeDepth := 60)

@[simp] theorem sealed_dropAsk (d : Device) (a : HoldAsk) (h : d.sealed)  : (Device.dropAsk d a).sealed := by
  unfold Device.dropAsk
  (repeat' split) <;> simp_all (maxDischargeDepth := 60)

@[simp] theorem sealed_endMoved (d : Device) (c : Commit) (committed : Bool) (h : d.sealed)  : (Device.endMoved d c committed).sealed := by
  unfold Device.endMoved
  (repeat' split) <;> simp_all (maxDischargeDepth := 60)

@[simp] theorem sealed_settleMoved (d : Device) (c : Commit) (h : d.sealed)  : (Device.settleMoved d c).sealed := by
  unfold Device.settleMoved
  (repeat' split) <;> simp_all (maxDischargeDepth := 60)

@[simp] theorem sealed_settleAsk (d : Device) (a : HoldAsk) (h : d.sealed)  : (Device.settleAsk d a).sealed := by
  unfold Device.settleAsk
  (repeat' split) <;> (try simp_all (maxDischargeDepth := 60)) <;> repeat' (first | split | intro _ | simp_all (maxDischargeDepth := 60) | (rename_i h; replace h := congrArg (fun q => q.1.sealed) h; simp_all (maxDischargeDepth := 60); done) | apply sealed_onCommand | apply sealed_onIdle | apply sealed_onWrite | apply sealed_softStart)

@[simp] theorem sealed_settleAsks (d : Device) (p : HoldAsk → Bool) (h : d.sealed)  : (Device.settleAsks d p).sealed := by
  unfold Device.settleAsks
  (repeat' split) <;> simp_all (maxDischargeDepth := 60)

@[simp] theorem sealed_startResync (d : Device) (cmd : Bool) (h : d.sealed)  : (Device.startResync d cmd).sealed := by
  unfold Device.startResync
  extract_lets rs d1
  have h1 : d1.sealed := sealed_progStart _ _ _ _ (sealed_mapDom _ _ h)
  refine sealed_foldl _ _ _ h1 ?_
  intro d r hd
  extract_lets all ms d2
  have h2 : d2.sealed := by simp only [d2]; split <;> simp [hd]
  split
  · exact sealed_progPos _ _ _ h2
  · exact sealed_askHold _ _ _ _ h2

@[simp] theorem sealed_endResync (d : Device) (aborted : Bool) (h : d.sealed)  : (Device.endResync d aborted).sealed := by
  unfold Device.endResync
  (repeat' split) <;> simp_all (maxDischargeDepth := 60)

@[simp] theorem sealed_resyncEnd (d : Device) (h : d.sealed)  : (Device.resyncEnd d).sealed := by
  unfold Device.resyncEnd
  (repeat' split) <;> simp_all (maxDischargeDepth := 60)

@[simp] theorem sealed_domCommand (d : Device) (bit : ℕ) (f : Device → Device) (h : d.sealed) (hf : ∀ x0, x0.sealed → ((f x0)).sealed) : (Device.domCommand d bit f).sealed := by
  unfold Device.domCommand
  (repeat' split) <;> simp_all (maxDischargeDepth := 60)

@[simp] theorem sealed_resyncCommand (d : Device) (h : d.sealed)  : (Device.resyncCommand d).sealed := by
  unfold Device.resyncCommand
  (repeat' split) <;> simp_all (maxDischargeDepth := 60)

@[simp] theorem sealed_resyncDigest (d : Device) (m : Msg) (h : d.sealed)  : (Device.resyncDigest d m).sealed := by
  unfold Device.resyncDigest
  (repeat' split) <;> simp_all (maxDischargeDepth := 60)

@[simp] theorem sealed_replicateIn (d : Device) (m : Msg) (h : d.sealed)  : (Device.replicateIn d m).sealed := by
  unfold Device.replicateIn
  (repeat' split) <;> simp_all (maxDischargeDepth := 60)

@[simp] theorem sealed_ackFrom (d : Device) (m : Msg) (src : ℕ) (h : d.sealed)  : (Device.ackFrom d m src).sealed := by
  unfold Device.ackFrom
  refine sealed_foldl _ _ _ h ?_
  intro d i hd
  extract_lets d1
  have h1 : d1.sealed := by simp only [d1]; (repeat' split) <;> simp_all
  split
  · exact sealed_settleMoved _ _ (sealed_mapDom _ _ h1)
  · exact h1

@[simp] theorem sealed_forward (d : Device) (m : Msg) (target : ℕ) (h : d.sealed)  : (Device.forward d m target).sealed := by
  unfold Device.forward
  (repeat' split) <;> (try simp_all (maxDischargeDepth := 60)) <;> repeat' (first | split | intro _ | simp_all (maxDischargeDepth := 60) | (rename_i h; replace h := congrArg (fun q => q.1.sealed) h; simp_all (maxDischargeDepth := 60); done) | apply sealed_onCommand | apply sealed_onIdle | apply sealed_onWrite | apply sealed_softStart | apply sealed_domCommand)

@[simp] theorem sealed_toStub (d : Device) (m : Msg) (f : Device → Device) (h : d.sealed) (hf : ∀ x0, x0.sealed → ((f x0)).sealed) : (Device.toStub d m f).sealed := by
  unfold Device.toStub
  (repeat' split) <;> simp_all (maxDischargeDepth := 60)

@[simp] theorem sealed_ackIn (d : Device) (m : Msg) (h : d.sealed)  : (Device.ackIn d m).sealed := by
  unfold Device.ackIn
  (repeat' split) <;> simp_all (maxDischargeDepth := 60)

@[simp] theorem sealed_nakIn (d : Device) (m : Msg) (h : d.sealed)  : (Device.nakIn d m).sealed := by
  unfold Device.nakIn
  refine sealed_toStub _ _ _ h ?_
  intro d hd
  refine sealed_foldl _ _ _ hd ?_
  intro d i hd
  (repeat' split) <;> simp_all (maxDischargeDepth := 60)

@[simp] theorem sealed_readIn (d : Device) (m : Msg) (h : d.sealed)  : (Device.readIn d m).sealed := by
  unfold Device.readIn
  (repeat' split) <;> simp_all (maxDischargeDepth := 60)

@[simp] theorem sealed_importFound (d : Device) (k : ℕ) (h : d.sealed) : (Device.importFound d k).sealed := by
  exact ⟨h.1, by unfold Device.importFound Device.mapCust; dsimp only; rw [h.2]; rfl⟩

@[simp] theorem sealed_fillFromPeers (d : Device) (r : PeerRead) (h : d.sealed)  : (Device.fillFromPeers d r).sealed := by
  unfold Device.fillFromPeers
  (repeat' split) <;> (try simp_all (maxDischargeDepth := 60)) <;> repeat' (first | split | intro _ | simp_all (maxDischargeDepth := 60) | (rename_i h; replace h := congrArg (fun q => q.1.sealed) h; simp_all (maxDischargeDepth := 60); done) | apply sealed_onCommand | apply sealed_onIdle | apply sealed_onWrite | apply sealed_softStart | apply sealed_domCommand | apply sealed_toStub)

@[simp] theorem sealed_readAnswer (m : Msg) (d : Device) (r : PeerRead) (h : d.sealed)  : (Device.readAnswer m d r).sealed := by
  unfold Device.readAnswer
  (repeat' split) <;> simp_all (maxDischargeDepth := 60)

@[simp] theorem sealed_readForwarded (d : Device) (w : Rec) (h : d.sealed)  : (Device.readForwarded d w).sealed := by
  unfold Device.readForwarded
  have h1 := sealed_makeRoom 1 128 d h
  extract_lets vault
  split
  · exact h
  · split
    · exact h
    · rename_i he
      rw [he] at h1
      extract_lets run
      split
      · simp_all (maxDischargeDepth := 60)
      · exact h

@[simp] theorem sealed_readReplyIn (d : Device) (m : Msg) (h : d.sealed)  : (Device.readReplyIn d m).sealed := by
  unfold Device.readReplyIn
  (repeat' split) <;> simp_all (maxDischargeDepth := 60)

@[simp] theorem sealed_holdQueryIn (d : Device) (m : Msg) (h : d.sealed)  : (Device.holdQueryIn d m).sealed := by
  unfold Device.holdQueryIn
  (repeat' split) <;> simp_all (maxDischargeDepth := 60)

@[simp] theorem sealed_holdReplyIn (d : Device) (m : Msg) (h : d.sealed)  : (Device.holdReplyIn d m).sealed := by
  unfold Device.holdReplyIn
  (repeat' split) <;> simp_all (maxDischargeDepth := 60)

@[simp] theorem sealed_originQueryIn (d : Device) (m : Msg) (h : d.sealed)  : (Device.originQueryIn d m).sealed := by
  unfold Device.originQueryIn
  (repeat' split) <;> simp_all (maxDischargeDepth := 60)

@[simp] theorem sealed_originReplyIn (d : Device) (m : Msg) (h : d.sealed)  : (Device.originReplyIn d m).sealed := by
  unfold Device.originReplyIn
  split
  · exact h
  · extract_lets d1 e d2
    have h1 : d1.sealed := sealed_mapDom _ _ (sealed_mapStore _ _ h)
    have h2 : d2.sealed := by
      simp only [d2]
      split
      · exact sealed_foldl _ _ _ (sealed_mapDom _ _ h1) (fun d c hd => sealed_pursue _ _ _ hd)
      · exact h1
    split
    · exact h2
    · refine sealed_foldl _ _ _ h2 (fun d i hd => ?_)
      split
      · exact hd
      · exact sealed_askHold _ _ _ _ hd

@[simp] theorem sealed_writePrepared (d : Device) (p : Prepared) (h : d.sealed)  : (Device.writePrepared d p).sealed := by
  unfold Device.writePrepared
  (repeat' split) <;> simp_all (maxDischargeDepth := 60)

@[simp] theorem sealed_writeView (d : Device) (n : Next) (tell : Bool) (h : d.sealed)  : (Device.writeView d n tell).sealed := by
  unfold Device.writeView
  (repeat' split) <;> simp_all (maxDischargeDepth := 60)

@[simp] theorem sealed_countVote (d : Device) (n : Next) (src : ℕ) (ack : Bool) (h : d.sealed)  : (Device.countVote d n src ack).sealed := by
  unfold Device.countVote
  (repeat' split) <;> simp_all (maxDischargeDepth := 60)

@[simp] theorem sealed_rollBack (d : Device) (p : ℕ) (h : d.sealed)  : (Device.rollBack d p).sealed := by
  unfold Device.rollBack
  (repeat' split) <;> simp_all (maxDischargeDepth := 60)

@[simp] theorem sealed_prepareChange (d : Device) (h : d.sealed)  : (Device.prepareChange d).sealed := by
  unfold Device.prepareChange
  (repeat' split) <;> simp_all (maxDischargeDepth := 60)

@[simp] theorem sealed_sendAck (d : Device) (n : Next) (h : d.sealed)  : (Device.sendAck d n).sealed := by
  unfold Device.sendAck
  (repeat' split) <;> simp_all (maxDischargeDepth := 60)

@[simp] theorem sealed_prepareIn (d : Device) (m : Msg) (h : d.sealed)  : (Device.prepareIn d m).sealed := by
  unfold Device.prepareIn
  (repeat' split) <;> (try simp_all (maxDischargeDepth := 60)) <;> repeat' (first | split | intro _ | simp_all (maxDischargeDepth := 60) | (rename_i h; replace h := congrArg (fun q => q.1.sealed) h; simp_all (maxDischargeDepth := 60); done) | apply sealed_onCommand | apply sealed_onIdle | apply sealed_onWrite | apply sealed_softStart | apply sealed_domCommand | apply sealed_toStub)

@[simp] theorem sealed_prepareResend (d : Device) (h : d.sealed)  : (Device.prepareResend d).sealed := by
  unfold Device.prepareResend
  (repeat' split) <;> (try simp_all (maxDischargeDepth := 60)) <;> repeat' (first | split | intro _ | simp_all (maxDischargeDepth := 60) | (rename_i h; replace h := congrArg (fun q => q.1.sealed) h; simp_all (maxDischargeDepth := 60); done) | apply sealed_onCommand | apply sealed_onIdle | apply sealed_onWrite | apply sealed_softStart | apply sealed_domCommand | apply sealed_toStub)

@[simp] theorem sealed_prepareAckIn (d : Device) (m : Msg) (h : d.sealed)  : (Device.prepareAckIn d m).sealed := by
  unfold Device.prepareAckIn
  (repeat' split) <;> simp_all (maxDischargeDepth := 60)

@[simp] theorem sealed_commitIn (d : Device) (m : Msg) (h : d.sealed)  : (Device.commitIn d m).sealed := by
  unfold Device.commitIn
  (repeat' split) <;> simp_all (maxDischargeDepth := 60)

@[simp] theorem sealed_takeover (d : Device) (h : d.sealed)  : (Device.takeover d).sealed := by
  unfold Device.takeover
  (repeat' split) <;> (try simp_all (maxDischargeDepth := 60)) <;> repeat' (first | split | intro _ | simp_all (maxDischargeDepth := 60) | (rename_i h; replace h := congrArg (fun q => q.1.sealed) h; simp_all (maxDischargeDepth := 60); done) | apply sealed_onCommand | apply sealed_onIdle | apply sealed_onWrite | apply sealed_softStart | apply sealed_domCommand | apply sealed_toStub)

@[simp] theorem sealed_recoverResend (d : Device) (h : d.sealed)  : (Device.recoverResend d).sealed := by
  unfold Device.recoverResend
  (repeat' split) <;> simp_all (maxDischargeDepth := 60)

@[simp] theorem sealed_recoverAnswer (d : Device) (dst : ℕ) (x : Prepared) (h : d.sealed)  : (Device.recoverAnswer d dst x).sealed := by
  unfold Device.recoverAnswer
  (repeat' split) <;> simp_all (maxDischargeDepth := 60)

@[simp] theorem sealed_recoverIn (d : Device) (m : Msg) (h : d.sealed)  : (Device.recoverIn d m).sealed := by
  unfold Device.recoverIn
  (repeat' split) <;> simp_all (maxDischargeDepth := 60)

@[simp] theorem sealed_recoverReplyIn (d : Device) (m : Msg) (h : d.sealed)  : (Device.recoverReplyIn d m).sealed := by
  unfold Device.recoverReplyIn
  (repeat' split) <;> simp_all (maxDischargeDepth := 60)

@[simp] theorem sealed_rollbackIn (d : Device) (m : Msg) (h : d.sealed)  : (Device.rollbackIn d m).sealed := by
  unfold Device.rollbackIn
  (repeat' split) <;> simp_all (maxDischargeDepth := 60)

@[simp] theorem sealed_request (d : Device) (c : Change) (h : d.sealed)  : (Device.request d c).sealed := by
  unfold Device.request
  (repeat' split) <;> simp_all (maxDischargeDepth := 60)

@[simp] theorem sealed_helloIn (d : Device) (m : Msg) (h : d.sealed)  : (Device.helloIn d m).sealed := by
  unfold Device.helloIn
  (repeat' split) <;> (try simp_all (maxDischargeDepth := 60)) <;> repeat' (first | split | intro _ | simp_all (maxDischargeDepth := 60) | (rename_i h; replace h := congrArg (fun q => q.1.sealed) h; simp_all (maxDischargeDepth := 60); done) | apply sealed_onCommand | apply sealed_onIdle | apply sealed_onWrite | apply sealed_softStart | apply sealed_domCommand | apply sealed_toStub)

@[simp] theorem sealed_helloTimer (d : Device) (h : d.sealed)  : (Device.helloTimer d).sealed := by
  unfold Device.helloTimer
  (repeat' split) <;> simp_all (maxDischargeDepth := 60)

@[simp] theorem sealed_heartbeatTimer (d : Device) (h : d.sealed)  : (Device.heartbeatTimer d).sealed := by
  unfold Device.heartbeatTimer
  (repeat' split) <;> simp_all (maxDischargeDepth := 60)

@[simp] theorem sealed_reportIn (d : Device) (m : Msg) (h : d.sealed)  : (Device.reportIn d m).sealed := by
  unfold Device.reportIn
  (repeat' split) <;> simp_all (maxDischargeDepth := 60)

@[simp] theorem sealed_reportTimer (d : Device) (h : d.sealed)  : (Device.reportTimer d).sealed := by
  unfold Device.reportTimer
  (repeat' split) <;> simp_all (maxDischargeDepth := 60)

@[simp] theorem sealed_memberLost (d : Device) (m : ℕ) (h : d.sealed)  : (Device.memberLost d m).sealed := by
  unfold Device.memberLost
  (repeat' split) <;> simp_all (maxDischargeDepth := 60)

@[simp] theorem sealed_otherPort (d : Device) (seq : ℕ) (h : d.sealed)  : (Device.otherPort d seq).sealed := by
  unfold Device.otherPort
  (repeat' split) <;> simp_all (maxDischargeDepth := 60)

@[simp] theorem sealed_linkLoss (d : Device) (p : ℕ) (h : d.sealed)  : (Device.linkLoss d p).sealed := by
  unfold Device.linkLoss
  (repeat' split) <;> simp_all (maxDischargeDepth := 60)

@[simp] theorem sealed_linkUp (d : Device) (p : ℕ) (h : d.sealed)  : (Device.linkUp d p).sealed := by
  unfold Device.linkUp
  (repeat' split) <;> simp_all (maxDischargeDepth := 60)

@[simp] theorem sealed_unsecured (d : Device) (p : ℕ) (h : d.sealed)  : (Device.unsecured d p).sealed := by
  unfold Device.unsecured
  (repeat' split) <;> simp_all (maxDischargeDepth := 60)

@[simp] theorem sealed_process (moves : Device → Msg → Device) (d : Device) (m : Msg) (h : d.sealed) (hmoves : ∀ x0 x1, x0.sealed → ((moves x0 x1)).sealed) : (Device.process moves d m).sealed := by
  unfold Device.process
  (repeat' split) <;> simp_all (maxDischargeDepth := 60)

@[simp] theorem sealed_message (d : Device) (p : ℕ) (t : ℕ) (m : Msg) (f : Device → Device) (h : d.sealed) (hf : ∀ x0, x0.sealed → ((f x0)).sealed) : (Device.message d p t m f).sealed := by
  unfold Device.message
  (repeat' split) <;> simp_all (maxDischargeDepth := 60)

@[simp] theorem sealed_gracedExpiry (d : Device) (src : ℕ) (seq : ℕ) (h : d.sealed)  : (Device.gracedExpiry d src seq).sealed := by
  unfold Device.gracedExpiry
  (repeat' split) <;> simp_all (maxDischargeDepth := 60)

@[simp] theorem sealed_adoptRoot (d : Device) (root : Sys2Proof.Bytes) (epoch : ℕ) (h : d.sealed)  : (Device.adoptRoot d root epoch).sealed := by
  unfold Device.adoptRoot
  (repeat' split) <;> simp_all (maxDischargeDepth := 60)

@[simp] theorem sealed_adoptEpoch (moves : Device → Msg → Device) (blobs : Device → Blob → Device) (d : Device) (n : Next) (h : d.sealed) (hmoves : ∀ x0 x1, x0.sealed → ((moves x0 x1)).sealed) (hblobs : ∀ x0 x1, x0.sealed → ((blobs x0 x1)).sealed) : (Device.adoptEpoch moves blobs d n).sealed := by
  unfold Device.adoptEpoch
  extract_lets w gone changed d1 d2 d3 back d4 ready bready d5 d6 d7 d8 src d9
  have h1 : d1.sealed := sealed_raiseInt _ _ _ _ (sealed_domStep _ _ h)
  have h2 : d2.sealed := by
    refine sealed_foldl _ _ _ h1 ?_
    intro d e hd; simp [hd]
  have h3 : d3.sealed := by
    refine sealed_epochChanged _ (sealed_foldl _ _ _ h2 ?_)
    intro d c hd; cases c <;> simp [hd]
  have h4 : d4.sealed := by
    refine sealed_foldl _ _ _ h3 ?_
    intro d e hd; simp [hd]
  have h5 : d5.sealed := sealed_mapDom _ _ h4
  have h6 : d6.sealed := by
    refine sealed_foldl _ _ _ h5 ?_
    intro d m hd; exact sealed_graced _ _ _ hd (fun x0 hx => sealed_process _ _ _ hx hmoves)
  have h7 : d7.sealed := sealed_foldl _ _ _ h6 hblobs
  have h8 : d8.sealed := by
    refine sealed_foldl _ _ _ h7 ?_
    intro d e hd; simp [hd]
  have h9 : d9.sealed := by simp only [d9]; split <;> simp [h8]
  (repeat' split)
  · refine sealed_foldl _ _ _ h9 ?_
    intro d r hd; refine sealed_foldl _ _ _ hd ?_
    intro d m hd; simp [hd]
  · simp [h9]
  · exact h9

@[simp] theorem sealed_graceEnd (d : Device) (h : d.sealed)  : (Device.graceEnd d).sealed := by
  unfold Device.graceEnd
  (repeat' split) <;> simp_all (maxDischargeDepth := 60)

@[simp] theorem sealed_applyK (d : Device) (h : d.sealed)  : (Device.applyK d).sealed := by
  unfold Device.applyK
  (repeat' split) <;> simp_all (maxDischargeDepth := 60)

@[simp] theorem sealed_leave (d : Device) (h : d.sealed)  : (Device.leave d).sealed := by
  unfold Device.leave
  (repeat' split) <;> simp_all (maxDischargeDepth := 60)

@[simp] theorem sealed_leaveEnd (d : Device) (h : d.sealed)  : (Device.leaveEnd d).sealed := by
  unfold Device.leaveEnd
  (repeat' split) <;> simp_all (maxDischargeDepth := 60)

@[simp] theorem sealed_domReset (d : Device) (h : d.sealed)  : (Device.domReset d).sealed := by
  unfold Device.domReset
  (repeat' split) <;> simp_all (maxDischargeDepth := 60)

@[simp] theorem sealed_migEnd (d : Device) (bit : ℕ) (v : ℕ) (code : ℕ) (h : d.sealed)  : (Device.migEnd d bit v code).sealed := by
  unfold Device.migEnd
  (repeat' split) <;> simp_all (maxDischargeDepth := 60)

@[simp] theorem sealed_migCommand (d : Device) (bit : ℕ) (f : Device → Device) (h : d.sealed) (hf : ∀ x0, x0.sealed → ((f x0)).sealed) : (Device.migCommand d bit f).sealed := by
  unfold Device.migCommand
  (repeat' split) <;> simp_all (maxDischargeDepth := 60)

@[simp] theorem sealed_freezeItems (d : Device) (v : ℕ) (h : d.sealed)  : (Device.freezeItems d v).sealed := by
  unfold Device.freezeItems
  (repeat' split) <;> simp_all (maxDischargeDepth := 60)

@[simp] theorem sealed_freeze (d : Device) (h : d.sealed)  : (Device.freeze d).sealed := by
  unfold Device.freeze
  (repeat' split) <;> simp_all (maxDischargeDepth := 60)

@[simp] theorem sealed_takeOpens (d : Device) (v : ℕ) (h : d.sealed)  : (Device.takeOpens d v).1.sealed := by
  unfold Device.takeOpens
  (repeat' split) <;> simp_all (maxDischargeDepth := 60)

@[simp] theorem sealed_vfFrozen (d : Device) (v : ℕ) (h : d.sealed)  : (Device.vfFrozen d v).sealed := by
  unfold Device.vfFrozen
  (repeat' split) <;> simp_all (maxDischargeDepth := 60)

@[simp] theorem sealed_save (d : Device) (h : d.sealed)  : (Device.save d).sealed := by
  unfold Device.save
  (repeat' split) <;> (try simp_all (maxDischargeDepth := 60)) <;> repeat' (first | split | intro _ | simp_all (maxDischargeDepth := 60) | (rename_i h; replace h := congrArg (fun q => q.1.sealed) h; simp_all (maxDischargeDepth := 60); done) | apply sealed_onCommand | apply sealed_onIdle | apply sealed_onWrite | apply sealed_softStart | apply sealed_domCommand | apply sealed_migCommand | apply sealed_toStub)

@[simp] theorem sealed_placeBlob (d : Device) (b : Blob) (h : d.sealed)  : (Device.placeBlob d b).sealed := by
  unfold Device.placeBlob
  (repeat' split) <;> simp_all (maxDischargeDepth := 60)

@[simp] theorem sealed_gracedBlob (d : Device) (b : Blob) (h : d.sealed)  : (Device.gracedBlob d b).sealed := by
  unfold Device.gracedBlob
  (repeat' split) <;> simp_all (maxDischargeDepth := 60)

@[simp] theorem sealed_blobIn (d : Device) (p : ℕ) (b : Blob) (h : d.sealed)  : (Device.blobIn d p b).sealed := by
  unfold Device.blobIn
  (repeat' split) <;> simp_all (maxDischargeDepth := 60)

@[simp] theorem sealed_blobAckIn (d : Device) (m : Msg) (h : d.sealed)  : (Device.blobAckIn d m).sealed := by
  unfold Device.blobAckIn
  (repeat' split) <;> simp_all (maxDischargeDepth := 60)

@[simp] theorem sealed_restore (d : Device) (h : d.sealed)  : (Device.restore d).sealed := by
  unfold Device.restore
  (repeat' split) <;> (try simp_all (maxDischargeDepth := 60)) <;> repeat' (first | split | intro _ | simp_all (maxDischargeDepth := 60) | (rename_i h; replace h := congrArg (fun q => q.1.sealed) h; simp_all (maxDischargeDepth := 60); done) | apply sealed_onCommand | apply sealed_onIdle | apply sealed_onWrite | apply sealed_softStart | apply sealed_domCommand | apply sealed_migCommand | apply sealed_toStub)

@[simp] theorem sealed_claimIn (d : Device) (m : Msg) (h : d.sealed)  : (Device.claimIn d m).sealed := by
  unfold Device.claimIn
  (repeat' split) <;> simp_all (maxDischargeDepth := 60)

@[simp] theorem sealed_adoptItem (v : ℕ) (d : Device) (x : Item) (h : d.sealed)  : (Device.adoptItem v d x).sealed := by
  unfold Device.adoptItem
  (repeat' split) <;> simp_all (maxDischargeDepth := 60)

@[simp] theorem sealed_adoptParked (v : ℕ) (d : Device) (x : Item) (h : d.sealed)  : (Device.adoptParked v d x).sealed := by
  unfold Device.adoptParked
  (repeat' split) <;> simp_all (maxDischargeDepth := 60)

@[simp] theorem sealed_adoptOpen (v : ℕ) (d : Device) (o : Item × List Commit) (h : d.sealed)  : (Device.adoptOpen v d o).sealed := by
  unfold Device.adoptOpen
  (repeat' split) <;> simp_all (maxDischargeDepth := 60)

@[simp] theorem sealed_restoreVf (d : Device) (v : ℕ) (slot : ℕ) (b : Blob) (h : d.sealed)  : (Device.restoreVf d v slot b).sealed := by
  unfold Device.restoreVf
  (repeat' split) <;> simp_all (maxDischargeDepth := 60)

@[simp] theorem sealed_claimReplyIn (d : Device) (m : Msg) (h : d.sealed)  : (Device.claimReplyIn d m).sealed := by
  unfold Device.claimReplyIn
  (repeat' split) <;> simp_all (maxDischargeDepth := 60)

@[simp] theorem sealed_claimTimeout (d : Device) (h : d.sealed)  : (Device.claimTimeout d).sealed := by
  unfold Device.claimTimeout
  (repeat' split) <;> simp_all (maxDischargeDepth := 60)

@[simp] theorem sealed_unfreeze (d : Device) (h : d.sealed)  : (Device.unfreeze d).sealed := by
  unfold Device.unfreeze
  (repeat' split) <;> (try simp_all (maxDischargeDepth := 60)) <;> repeat' (first | split | intro _ | simp_all (maxDischargeDepth := 60) | (rename_i h; replace h := congrArg (fun q => q.1.sealed) h; simp_all (maxDischargeDepth := 60); done) | apply sealed_onCommand | apply sealed_onIdle | apply sealed_onWrite | apply sealed_softStart | apply sealed_domCommand | apply sealed_migCommand | apply sealed_toStub)

@[simp] theorem sealed_discardBlob (d : Device) (h : d.sealed)  : (Device.discardBlob d).sealed := by
  unfold Device.discardBlob
  (repeat' split) <;> simp_all (maxDischargeDepth := 60)

@[simp] theorem sealed_queryMoved (d : Device) (c : Commit) (h : d.sealed)  : (Device.queryMoved d c).sealed := by
  unfold Device.queryMoved
  (repeat' split) <;> simp_all (maxDischargeDepth := 60)

@[simp] theorem sealed_stubExpiry (d : Device) (tenant : ℕ) (pgen : ℕ) (h : d.sealed)  : (Device.stubExpiry d tenant pgen).sealed := by
  unfold Device.stubExpiry
  (repeat' split) <;> simp_all (maxDischargeDepth := 60)

@[simp] theorem sealed_moveIn (d : Device) (m : Msg) (h : d.sealed)  : (Device.moveIn d m).sealed := by
  unfold Device.moveIn
  (repeat' split) <;> simp_all (maxDischargeDepth := 60)

@[simp] theorem sealed_viewWritten (d : Device) (h : d.sealed)  : (Device.viewWritten d).sealed := by
  unfold Device.viewWritten
  (repeat' split) <;> simp_all (maxDischargeDepth := 60)

@[simp] theorem sealed_preparedWritten (d : Device) (h : d.sealed)  : (Device.preparedWritten d).sealed := by
  unfold Device.preparedWritten
  (repeat' split) <;> simp_all (maxDischargeDepth := 60)

@[simp] theorem sealed_recordLanded (d : Device) (r : Rec) (h : d.sealed)  : (Device.recordLanded d r).sealed := by
  unfold Device.recordLanded
  (repeat' split) <;> (try simp_all (maxDischargeDepth := 60)) <;> repeat' (first | split | intro _ | simp_all (maxDischargeDepth := 60) | (rename_i h; replace h := congrArg (fun q => q.1.sealed) h; simp_all (maxDischargeDepth := 60); done) | apply sealed_onCommand | apply sealed_onIdle | apply sealed_onWrite | apply sealed_softStart | apply sealed_domCommand | apply sealed_migCommand | apply sealed_toStub)

@[simp] theorem sealed_writeEnd (d : Device) (h : d.sealed)  : (Device.writeEnd d).sealed := by
  unfold Device.writeEnd
  (repeat' split) <;> simp_all (maxDischargeDepth := 60)

end Sys2Proof.Machine
end

