-- ==== Sys2Proof/Laws/SealedServices.lean ====
section
/-! SUPPORT. ZEROIZED kept: the engines, the scheduler, tables and services. -/

namespace Sys2Proof.Machine

@[simp] theorem sealed_freePair (d : Device) (p : ℕ) (h : d.sealed)  : (Device.freePair d p).sealed := by
  unfold Device.freePair
  (repeat' split) <;> simp_all (maxDischargeDepth := 60)

@[simp] theorem sealed_onEngines (d : Device) (es : List ℕ) (f : Device → ℕ → Device) (h : d.sealed) (hf : ∀ x0 x1, x0.sealed → ((f x0 x1)).sealed) : (Device.onEngines d es f).sealed := by
  unfold Device.onEngines
  (repeat' split) <;> simp_all (maxDischargeDepth := 60)

@[simp] theorem sealed_quarantinePair (d : Device) (p : ℕ) (cause : ℕ) (h : d.sealed)  : (Device.quarantinePair d p cause).sealed := by
  unfold Device.quarantinePair
  (repeat' split) <;> simp_all (maxDischargeDepth := 60)

@[simp] theorem sealed_pairMismatch (d : Device) (p : ℕ) (h : d.sealed)  : (Device.pairMismatch d p).sealed := by
  unfold Device.pairMismatch
  (repeat' split) <;> simp_all (maxDischargeDepth := 60)

@[simp] theorem sealed_startPair (d : Device) (n : ℕ) (p : ℕ) (h : d.sealed)  : (Device.startPair d n p).sealed := by
  unfold Device.startPair
  (repeat' split) <;> (try simp_all (maxDischargeDepth := 60)) <;> repeat' (first | split | intro _ | simp_all (maxDischargeDepth := 60) | (rename_i h; replace h := congrArg (fun q => q.1.sealed) h; simp_all (maxDischargeDepth := 60); done) | apply sealed_onCommand | apply sealed_onIdle | apply sealed_onWrite | apply sealed_softStart | apply sealed_domCommand | apply sealed_migCommand | apply sealed_toStub)

@[simp] theorem sealed_giveEngine (d : Device) (n : ℕ) (p : ℕ) (x : Item) (h : d.sealed)  : (Device.giveEngine d n p x).sealed := by
  unfold Device.giveEngine
  (repeat' split) <;> simp_all (maxDischargeDepth := 60)

@[simp] theorem sealed_startEngine (d : Device) (n : ℕ) (p : ℕ) (x : Item) (h : d.sealed)  : (Device.startEngine d n p x).sealed := by
  unfold Device.startEngine
  (repeat' split) <;> simp_all (maxDischargeDepth := 60)

@[simp] theorem sealed_dispatchEngine (d : Device) (h : d.sealed)  : (Device.dispatchEngine d).sealed := by
  unfold Device.dispatchEngine
  (repeat' split) <;> simp_all (maxDischargeDepth := 60)

@[simp] theorem sealed_resume (d : Device) (n : ℕ) (x : Item) (h : d.sealed)  : (Device.resume d n x).sealed := by
  unfold Device.resume
  (repeat' split) <;> simp_all (maxDischargeDepth := 60)

@[simp] theorem sealed_pairFree (d : Device) (p : ℕ) (h : d.sealed)  : (Device.pairFree d p).sealed := by
  unfold Device.pairFree
  (repeat' split) <;> (try simp_all (maxDischargeDepth := 60)) <;> repeat' (first | split | intro _ | simp_all (maxDischargeDepth := 60) | (rename_i h; replace h := congrArg (fun q => q.1.sealed) h; simp_all (maxDischargeDepth := 60); done) | apply sealed_onCommand | apply sealed_onIdle | apply sealed_onWrite | apply sealed_softStart | apply sealed_domCommand | apply sealed_migCommand | apply sealed_toStub)

@[simp] theorem sealed_rerunEngine (d : Device) (n : ℕ) (x : Item) (h : d.sealed)  : (Device.rerunEngine d n x).sealed := by
  unfold Device.rerunEngine
  (repeat' split) <;> simp_all (maxDischargeDepth := 60)

@[simp] theorem sealed_pairGate (d : Device) (n : ℕ) (p : ℕ) (failed : Bool) (st : Staged) (h : d.sealed)  : (Device.pairGate d n p failed st).sealed := by
  unfold Device.pairGate
  (repeat' split) <;> simp_all (maxDischargeDepth := 60)

@[simp] theorem sealed_endGeneration (d : Device) (p : ℕ) (x : Item) (h : d.sealed)  : (Device.endGeneration d p x).sealed := by
  unfold Device.endGeneration
  (repeat' split) <;> simp_all (maxDischargeDepth := 60)

@[simp] theorem sealed_abortGeneration (d : Device) (x : Item) (h : d.sealed)  : (Device.abortGeneration d x).sealed := by
  unfold Device.abortGeneration
  (repeat' split) <;> simp_all (maxDischargeDepth := 60)

@[simp] theorem sealed_attemptLimit (d : Device) (n : ℕ) (h : d.sealed)  : (Device.attemptLimit d n).sealed := by
  unfold Device.attemptLimit
  (repeat' split) <;> simp_all (maxDischargeDepth := 60)

@[simp] theorem sealed_engineFailure (d : Device) (e : ℕ) (unit : ℕ) (h : d.sealed)  : (Device.engineFailure d e unit).sealed := by
  unfold Device.engineFailure
  (repeat' split) <;> (try simp_all (maxDischargeDepth := 60)) <;> repeat' (first | split | intro _ | simp_all (maxDischargeDepth := 60) | (rename_i h; replace h := congrArg (fun q => q.1.sealed) h; simp_all (maxDischargeDepth := 60); done) | apply sealed_onCommand | apply sealed_onIdle | apply sealed_onWrite | apply sealed_softStart | apply sealed_domCommand | apply sealed_migCommand | apply sealed_toStub)

@[simp] theorem sealed_restartJob (d : Device) (n : ℕ) (x : Item) (h : d.sealed)  : (Device.restartJob d n x).sealed := by
  unfold Device.restartJob
  (repeat' split) <;> simp_all (maxDischargeDepth := 60)

@[simp] theorem sealed_yieldPoint (d : Device) (n : ℕ) (h : d.sealed)  : (Device.yieldPoint d n).sealed := by
  unfold Device.yieldPoint
  (repeat' split) <;> simp_all (maxDischargeDepth := 60)

@[simp] theorem sealed_bnReleaseEnd (d : Device) (g : ℕ) (ok : Bool) (h : d.sealed)  : (Device.bnReleaseEnd d g ok).sealed := by
  unfold Device.bnReleaseEnd
  (repeat' split) <;> simp_all (maxDischargeDepth := 60)

@[simp] theorem sealed_groupWakeFailed (d : Device) (g : ℕ) (h : d.sealed)  : (Device.groupWakeFailed d g).sealed := by
  unfold Device.groupWakeFailed
  extract_lets x d1 d2 d3
  have h1 : d1.sealed := sealed_setGroup _ _ _ h
  have h2 : d2.sealed := by
    refine sealed_foldl _ _ _ h1 ?_
    intro d e hd; simp (maxDischargeDepth := 60) [hd]
  have h3 : d3.sealed := by
    refine sealed_foldl _ _ _ h2 ?_
    intro d e hd
    (repeat' split) <;> simp_all (maxDischargeDepth := 60)
  split <;> simp_all (maxDischargeDepth := 60)

@[simp] theorem sealed_groupWakeEnd (d : Device) (g : ℕ) (ok : Bool) (h : d.sealed)  : (Device.groupWakeEnd d g ok).sealed := by
  unfold Device.groupWakeEnd
  extract_lets x d1 x2 d2
  have h1 : d1.sealed := by simp only [d1]; split <;> simp_all (maxDischargeDepth := 60)
  have h2 : d2.sealed := sealed_setGroup _ _ _ h1
  split
  · exact h
  · split
    · exact h1
    · split
      · exact sealed_groupWakeFailed _ _ h1
      · apply sealed_released
        refine sealed_foldl _ _ _ h2 ?_
        intro d e hd
        (repeat' split) <;> simp_all (maxDischargeDepth := 60)

@[simp] theorem sealed_groupGated (d : Device) (g : ℕ) (h : d.sealed)  : (Device.groupGated d g).sealed := by
  unfold Device.groupGated
  extract_lets x used
  split
  · exact sealed_setGroup _ _ _ h
  · exact h

@[simp] theorem sealed_bnRelease (d : Device) (e : ℕ) (h : d.sealed)  : (Device.bnRelease d e).sealed := by
  unfold Device.bnRelease
  (repeat' split) <;> simp_all (maxDischargeDepth := 60)

@[simp] theorem sealed_bnFailClear (d : Device) (e : ℕ) (bits : ℕ) (h : d.sealed)  : (Device.bnFailClear d e bits).sealed := by
  unfold Device.bnFailClear
  (repeat' split) <;> simp_all (maxDischargeDepth := 60)

@[simp] theorem sealed_bnReset (d : Device) (e : ℕ) (h : d.sealed)  : (Device.bnReset d e).sealed := by
  unfold Device.bnReset
  (repeat' split) <;> simp_all (maxDischargeDepth := 60)

@[simp] theorem sealed_bnResetEnd (d : Device) (e : ℕ) (h : d.sealed)  : (Device.bnResetEnd d e).sealed := by
  unfold Device.bnResetEnd
  (repeat' split) <;> (try simp_all (maxDischargeDepth := 60)) <;> repeat' (first | split | intro _ | simp_all (maxDischargeDepth := 60) | (rename_i h; replace h := congrArg (fun q => q.1.sealed) h; simp_all (maxDischargeDepth := 60); done) | apply sealed_onCommand | apply sealed_onIdle | apply sealed_onWrite | apply sealed_softStart | apply sealed_domCommand | apply sealed_migCommand | apply sealed_toStub)

@[simp] theorem sealed_bnSoftReset (d : Device) (e : ℕ) (h : d.sealed)  : (Device.bnSoftReset d e).sealed := by
  unfold Device.bnSoftReset
  (repeat' split) <;> simp_all (maxDischargeDepth := 60)

@[simp] theorem sealed_showCurves (d : Device) (h : d.sealed)  : (Device.showCurves d).sealed := by
  unfold Device.showCurves
  (repeat' split) <;> simp_all (maxDischargeDepth := 60)

@[simp] theorem sealed_curveEnd (d : Device) (req : ℕ) (code : ℕ) (slot : ℕ) (h : d.sealed)  : (Device.curveEnd d req code slot).sealed := by
  unfold Device.curveEnd
  (repeat' split) <;> simp_all (maxDischargeDepth := 60)

@[simp] theorem sealed_emptyCurves (d : Device) (h : d.sealed)  : (Device.emptyCurves d).sealed := by
  unfold Device.emptyCurves
  (repeat' split) <;> simp_all (maxDischargeDepth := 60)

@[simp] theorem sealed_internalItem (d : Device) (w : Work) (c : ExecClass) (level : ℕ) (cycles : ℕ) (h : d.sealed)  : (Device.internalItem d w c level cycles).sealed := by
  unfold Device.internalItem
  (repeat' split) <;> simp_all (maxDischargeDepth := 60)

@[simp] theorem sealed_coreItem (d : Device) (kind : ℕ) (h : d.sealed)  : (Device.coreItem d kind).sealed := by
  unfold Device.coreItem
  (repeat' split) <;> simp_all (maxDischargeDepth := 60)

@[simp] theorem sealed_giveCore (d : Device) (n : ℕ) (x : Item) (c : ℕ) (h : d.sealed)  : (Device.giveCore d n x c).sealed := by
  unfold Device.giveCore
  (repeat' split) <;> simp_all (maxDischargeDepth := 60)

@[simp] theorem sealed_dispatchCore (d : Device) (h : d.sealed)  : (Device.dispatchCore d).sealed := by
  unfold Device.dispatchCore
  (repeat' split) <;> simp_all (maxDischargeDepth := 60)

@[simp] theorem sealed_coreReport (d : Device) (n : ℕ) (h : d.sealed)  : (Device.coreReport d n).sealed := by
  unfold Device.coreReport
  (repeat' split) <;> simp_all (maxDischargeDepth := 60)

@[simp] theorem sealed_coreLate (d : Device) (n : ℕ) (h : d.sealed)  : (Device.coreLate d n).sealed := by
  unfold Device.coreLate
  (repeat' split) <;> (try simp_all (maxDischargeDepth := 60)) <;> repeat' (first | split | intro _ | simp_all (maxDischargeDepth := 60) | (rename_i h; replace h := congrArg (fun q => q.1.sealed) h; simp_all (maxDischargeDepth := 60); done) | apply sealed_onCommand | apply sealed_onIdle | apply sealed_onWrite | apply sealed_softStart | apply sealed_domCommand | apply sealed_migCommand | apply sealed_toStub)

@[simp] theorem sealed_notAccepted (d : Device) (n : ℕ) (h : d.sealed)  : (Device.notAccepted d n).sealed := by
  unfold Device.notAccepted
  (repeat' split) <;> simp_all (maxDischargeDepth := 60)

@[simp] theorem sealed_unreadable (d : Device) (n : ℕ) (h : d.sealed)  : (Device.unreadable d n).sealed := by
  unfold Device.unreadable
  (repeat' split) <;> simp_all (maxDischargeDepth := 60)

@[simp] theorem sealed_rebuildEnd (d : Device) (c : ℕ) (delay : Bool) (h : d.sealed)  : (Device.rebuildEnd d c delay).sealed := by
  unfold Device.rebuildEnd
  (repeat' split) <;> simp_all (maxDischargeDepth := 60)

@[simp] theorem sealed_retryDue (d : Device) (n : ℕ) (h : d.sealed)  : (Device.retryDue d n).sealed := by
  unfold Device.retryDue
  (repeat' split) <;> (try simp_all (maxDischargeDepth := 60)) <;> repeat' (first | split | intro _ | simp_all (maxDischargeDepth := 60) | (rename_i h; replace h := congrArg (fun q => q.1.sealed) h; simp_all (maxDischargeDepth := 60); done) | apply sealed_onCommand | apply sealed_onIdle | apply sealed_onWrite | apply sealed_softStart | apply sealed_domCommand | apply sealed_migCommand | apply sealed_toStub)

@[simp] theorem sealed_sweepDue (d : Device) (k : ℕ) (h : d.sealed)  : (Device.sweepDue d k).sealed := by
  unfold Device.sweepDue
  (repeat' split) <;> simp_all (maxDischargeDepth := 60)

@[simp] theorem sealed_releaseEntry (d : Device) (e : Delay) (h : d.sealed)  : (Device.releaseEntry d e).sealed := by
  unfold Device.releaseEntry
  (repeat' split) <;> simp_all (maxDischargeDepth := 60)

@[simp] theorem sealed_releaseList (d : Device) (list : ℕ) (h : d.sealed)  : (Device.releaseList d list).sealed := by
  unfold Device.releaseList
  (repeat' split) <;> simp_all (maxDischargeDepth := 60)

@[simp] theorem sealed_tickVf (d : Device) (v : ℕ) (x : Vf) (h : d.sealed)  : (Device.tickVf d v x).sealed := by
  unfold Device.tickVf
  (repeat' split) <;> simp_all (maxDischargeDepth := 60)

@[simp] theorem sealed_settleAll (d : Device) (h : d.sealed)  : (Device.settleAll d).sealed := by
  unfold Device.settleAll
  (repeat' split) <;> simp_all (maxDischargeDepth := 60)

@[simp] theorem sealed_doTick (d : Device) (aon : ℕ) (h : d.sealed)  : (Device.doTick d aon).sealed := by
  unfold Device.doTick
  (repeat' split) <;> simp_all (maxDischargeDepth := 60)

@[simp] theorem sealed_stage (d : Device) (off : ℕ) (data : Sys2Proof.Bytes) (h : d.sealed)  : (Device.stage d off data).sealed := by
  unfold Device.stage
  (repeat' split) <;> simp_all (maxDischargeDepth := 60)

@[simp] theorem sealed_showTables (d : Device) (h : d.sealed)  : (Device.showTables d).sealed := by
  unfold Device.showTables
  (repeat' split) <;> simp_all (maxDischargeDepth := 60)

@[simp] theorem sealed_whereOf (d : Device) (w : Option ℕ) (h : d.sealed)  : (Device.whereOf d w).1.sealed := by
  unfold Device.whereOf
  (repeat' split) <;> simp_all (maxDischargeDepth := 60)

@[simp] theorem sealed_tableEnd (d : Device) (req : ℕ) (code : ℕ) (w : Option ℕ) (h : d.sealed)  : (Device.tableEnd d req code w).sealed := by
  unfold Device.tableEnd
  (repeat' split) <;> (try simp_all (maxDischargeDepth := 60)) <;> repeat' (first | split | intro _ | simp_all (maxDischargeDepth := 60) | (rename_i h; replace h := congrArg (fun q => q.1.sealed) h; simp_all (maxDischargeDepth := 60); done) | apply sealed_onCommand | apply sealed_onIdle | apply sealed_onWrite | apply sealed_softStart | apply sealed_domCommand | apply sealed_migCommand | apply sealed_toStub)

@[simp] theorem sealed_chargeLoad (d : Device) (h : d.sealed)  : (Device.chargeLoad d).sealed := by
  unfold Device.chargeLoad
  (repeat' split) <;> simp_all (maxDischargeDepth := 60)

@[simp] theorem sealed_tableLoad (d : Device) (h : d.sealed)  : (Device.tableLoad d).sealed := by
  unfold Device.tableLoad
  (repeat' split) <;> simp_all (maxDischargeDepth := 60)

@[simp] theorem sealed_keepTable (d : Device) (t : TableVersion) (image : Sys2Proof.Bytes) (h : d.sealed)  : (Device.keepTable d t image).sealed := by
  unfold Device.keepTable
  (repeat' split) <;> simp_all (maxDischargeDepth := 60)

@[simp] theorem sealed_tableLoadEnd (d : Device) (h : d.sealed)  : (Device.tableLoadEnd d).sealed := by
  unfold Device.tableLoadEnd
  (repeat' split) <;> simp_all (maxDischargeDepth := 60)

@[simp] theorem sealed_tableRetire (d : Device) (h : d.sealed)  : (Device.tableRetire d).sealed := by
  unfold Device.tableRetire
  (repeat' split) <;> (try simp_all (maxDischargeDepth := 60)) <;> repeat' (first | split | intro _ | simp_all (maxDischargeDepth := 60) | (rename_i h; replace h := congrArg (fun q => q.1.sealed) h; simp_all (maxDischargeDepth := 60); done) | apply sealed_onCommand | apply sealed_onIdle | apply sealed_onWrite | apply sealed_softStart | apply sealed_domCommand | apply sealed_migCommand | apply sealed_toStub)

@[simp] theorem sealed_versionFree (d : Device) (k : ℕ) (h : d.sealed)  : (Device.versionFree d k).sealed := by
  unfold Device.versionFree
  (repeat' split) <;> simp_all (maxDischargeDepth := 60)

@[simp] theorem sealed_tableReloadEnd (d : Device) (k : ℕ) (h : d.sealed)  : (Device.tableReloadEnd d k).sealed := by
  unfold Device.tableReloadEnd
  (repeat' split) <;> simp_all (maxDischargeDepth := 60)

@[simp] theorem sealed_curveLoad (d : Device) (h : d.sealed)  : (Device.curveLoad d).sealed := by
  unfold Device.curveLoad
  (repeat' split) <;> simp_all (maxDischargeDepth := 60)

@[simp] theorem sealed_curveLoadEnd (d : Device) (found : ℕ) (h : d.sealed)  : (Device.curveLoadEnd d found).sealed := by
  unfold Device.curveLoadEnd
  (repeat' split) <;> simp_all (maxDischargeDepth := 60)

@[simp] theorem sealed_curveRetire (d : Device) (h : d.sealed)  : (Device.curveRetire d).sealed := by
  unfold Device.curveRetire
  (repeat' split) <;> (try simp_all (maxDischargeDepth := 60)) <;> repeat' (first | split | intro _ | simp_all (maxDischargeDepth := 60) | (rename_i h; replace h := congrArg (fun q => q.1.sealed) h; simp_all (maxDischargeDepth := 60); done) | apply sealed_onCommand | apply sealed_onIdle | apply sealed_onWrite | apply sealed_softStart | apply sealed_domCommand | apply sealed_migCommand | apply sealed_toStub)

@[simp] theorem sealed_stageIn (n : ℕ) (o : Device × Item × Staged) (h : o.1.sealed) : (Device.stageIn n o).sealed := by
  unfold Device.stageIn
  have h1 := sealed_runLane o.1 o.2.1 h
  simp_all

@[simp] theorem sealed_stageOpt (d : Device) (n : ℕ) (p : Desc → Bool) (f : Device → Item → Device × Item × Option Staged) (h : d.sealed)
    (hf : ∀ x0 x1, x0.sealed → ((f x0 x1).1).sealed) : (Device.stageOpt d n p f).sealed := by
  unfold Device.stageOpt
  split
  · exact h
  · rename_i x hx
    split
    · have h1 := hf d x h
      revert h1
      obtain ⟨d1, y, o⟩ := f d x
      intro h1
      cases o with
      | none => exact sealed_setItem _ _ _ h1
      | some st => exact sealed_stageIn _ _ h1
    · exact h

@[simp] theorem sealed_stageRun (d : Device) (n : ℕ) (p : Desc → Bool) (f : Device → Item → Device × Item × Staged) (h : d.sealed)
    (hf : ∀ x0 x1, x0.sealed → ((f x0 x1).1).sealed) : (Device.stageRun d n p f).sealed := by
  unfold Device.stageRun
  split
  · exact h
  · split
    · exact sealed_stageIn _ _ (hf _ _ h)
    · exact h

@[simp] theorem sealed_stagePure (d : Device) (n : ℕ) (p : Desc → Bool) (f : Item → Staged) (h : d.sealed)  : (Device.stagePure d n p f).sealed := by
  unfold Device.stagePure
  (repeat' split) <;> simp_all (maxDischargeDepth := 60)

@[simp] theorem sealed_drawToken (rules : Nat) (pan : List Nat) (tenant : Nat) (held : List Nat) (k : Nat) (d : Device) (x : Item)
    (h : d.sealed) : (Device.drawToken rules pan tenant held k d x).1.sealed := by
  induction k generalizing d x with
  | zero => exact h
  | succ k ih =>
    unfold Device.drawToken
    extract_lets t present seen next
    split
    · exact h
    · split
      · exact h
      · exact ih _ _ (sealed_drawn d h)

@[simp] theorem sealed_tokenRecord (d : Device) (x : Item) (id : ℕ) (pan : Sys2Proof.Bytes) (expiry : Sys2Proof.Bytes) (h : d.sealed)  : (Device.tokenRecord d x id pan expiry).1.sealed := by
  unfold Device.tokenRecord
  (repeat' split) <;> simp_all (maxDischargeDepth := 60)

@[simp] theorem sealed_newToken (held : List Nat) (pan expiry : Bytes) (d : Device) (x : Item) (h : d.sealed) :
    (Device.newToken held pan expiry d x).1.sealed := by
  unfold Device.newToken
  have h1 := sealed_drawToken x.current.paramHi (panDigits pan) (d.tenantOf x) held 64 d x h
  revert h1
  obtain ⟨d1, y, o⟩ := Device.drawToken x.current.paramHi (panDigits pan) (d.tenantOf x) held 64 d x
  intro h1
  cases o with
  | more => exact h1
  | full => exact h1
  | token t => exact sealed_tokenRecord _ _ _ _ _ h1

@[simp] theorem sealed_lifecycle (new : ℕ) (result : ℕ) (d : Device) (x : Item) (h : d.sealed)  : (Device.lifecycle new result d x).1.sealed := by
  unfold Device.lifecycle
  (repeat' split) <;> (try simp_all (maxDischargeDepth := 60)) <;> repeat' (first | split | intro _ | simp_all (maxDischargeDepth := 60) | (rename_i h; replace h := congrArg (fun q => q.1.sealed) h; simp_all (maxDischargeDepth := 60); done) | apply sealed_onCommand | apply sealed_onIdle | apply sealed_onWrite | apply sealed_softStart | apply sealed_domCommand | apply sealed_migCommand | apply sealed_toStub)

@[simp] theorem sealed_runOperator (d : Device) (x : Item) (h : d.sealed)  : (Device.runOperator d x).1.sealed := by
  unfold Device.runOperator
  (repeat' split) <;> (try simp_all (maxDischargeDepth := 60)) <;> repeat' (first | split | intro _ | simp_all (maxDischargeDepth := 60) | (rename_i h; replace h := congrArg (fun q => q.1.sealed) h; simp_all (maxDischargeDepth := 60); done) | apply sealed_onCommand | apply sealed_onIdle | apply sealed_onWrite | apply sealed_softStart | apply sealed_domCommand | apply sealed_migCommand | apply sealed_toStub)

@[simp] theorem sealed_stageSerial (d : Device) (n : ℕ) (p : Desc → Bool) (keyB : Bool) (f : Device → Item → Device × Item × Staged) (h : d.sealed) (hf : ∀ x0 x1, x0.sealed → ((f x0 x1).1).sealed) : (Device.stageSerial d n p keyB f).sealed := by
  unfold Device.stageSerial
  (repeat' split) <;> simp_all (maxDischargeDepth := 60)

@[simp] theorem sealed_stageNewKey (d : Device) (n : ℕ) (p : Desc → Bool) (f : Device → Item → Device × Item × Option Staged) (h : d.sealed) (hf : ∀ x0 x1, x0.sealed → ((f x0 x1).1).sealed) : (Device.stageNewKey d n p f).sealed := by
  unfold Device.stageNewKey
  (repeat' split) <;> simp_all (maxDischargeDepth := 60)

@[simp] theorem sealed_stageCreate (d : Device) (n : ℕ) (p : Desc → Bool) (f : Device → Item → Staged) (h : d.sealed)  : (Device.stageCreate d n p f).sealed := by
  unfold Device.stageCreate
  (repeat' split) <;> simp_all (maxDischargeDepth := 60)

@[simp] theorem sealed_withFound (d : Device) (x : Item) (h : d.sealed)  : (Device.withFound d x).sealed := by
  unfold Device.withFound
  (repeat' split) <;> simp_all (maxDischargeDepth := 60)

@[simp] theorem sealed_rotateKey (pgen : ℕ) (d : Device) (a : KeyAttr) (h : d.sealed)  : (Device.rotateKey pgen d a).sealed := by
  unfold Device.rotateKey
  (repeat' split) <;> simp_all (maxDischargeDepth := 60)

@[simp] theorem sealed_rotate (d : Device) (h : d.sealed)  : (Device.rotate d).sealed := by
  unfold Device.rotate
  (repeat' split) <;> simp_all (maxDischargeDepth := 60)

@[simp] theorem sealed_rotationEnd (d : Device) (h : d.sealed)  : (Device.rotationEnd d).sealed := by
  unfold Device.rotationEnd
  (repeat' split) <;> simp_all (maxDischargeDepth := 60)

@[simp] theorem sealed_rewrapEnd (d : Device) (h : d.sealed)  : (Device.rewrapEnd d).sealed := by
  unfold Device.rewrapEnd
  (repeat' split) <;> simp_all (maxDischargeDepth := 60)

@[simp] theorem sealed_signingOf (d : Device) (x : Item) (h : d.sealed)  : (Device.signingOf d x).1.sealed := by
  unfold Device.signingOf
  (repeat' split) <;> simp_all (maxDischargeDepth := 60)

@[simp] theorem sealed_stageDrawn (d : Device) (n : ℕ) (p : Desc → Bool) (f : Device → Item → Sys2Proof.Bytes → Staged) (h : d.sealed)  : (Device.stageDrawn d n p f).sealed := by
  unfold Device.stageDrawn
  (repeat' split) <;> simp_all (maxDischargeDepth := 60)

@[simp] theorem sealed_pairRun (d : Device) (x : Item) (h : d.sealed)  : (Device.pairRun d x).1.sealed := by
  unfold Device.pairRun
  (repeat' split) <;> simp_all (maxDischargeDepth := 60)

@[simp] theorem sealed_engineJobEnd (d : Device) (n : ℕ) (mismatch : Bool) (h : d.sealed)  : (Device.engineJobEnd d n mismatch).sealed := by
  unfold Device.engineJobEnd
  (repeat' split) <;> simp_all (maxDischargeDepth := 60)

@[simp] theorem sealed_zeroVfCounter (d : Device) (v : ℕ) (c : ℕ) (h : d.sealed)  : (Device.zeroVfCounter d v c).sealed := by
  unfold Device.zeroVfCounter
  (repeat' split) <;> simp_all (maxDischargeDepth := 60)

@[simp] theorem sealed_grantWrite (d : Device) (v : ℕ) (g : ℕ) (h : d.sealed)  : (Device.grantWrite d v g).sealed := by
  unfold Device.grantWrite
  (repeat' split) <;> simp_all (maxDischargeDepth := 60)

@[simp] theorem sealed_eventWrite (d : Device) (vf : Option ℕ) (c : ℕ) (w : ℕ) (h : d.sealed)  : (Device.eventWrite d vf c w).sealed := by
  unfold Device.eventWrite
  (repeat' split) <;> simp_all (maxDischargeDepth := 60)

@[simp] theorem sealed_zeroCounters (d : Device) (h : d.sealed)  : (Device.zeroCounters d).sealed := by
  unfold Device.zeroCounters
  (repeat' split) <;> simp_all (maxDischargeDepth := 60)

end Sys2Proof.Machine
end

