-- ==== Sys2Proof/Laws/SealedCustody.lean ====
section
/-! SUPPORT. ZEROIZED kept: tenancy, ceremonies, custody, tamper response and faults. -/

namespace Sys2Proof.Machine

@[simp] theorem sealed_vfmCommand (d : Device) (v : ℕ) (bit : ℕ) (f : Device → Device) (h : d.sealed) (hf : ∀ x0, x0.sealed → ((f x0)).sealed) : (Device.vfmCommand d v bit f).sealed := by
  unfold Device.vfmCommand
  (repeat' split) <;> simp_all (maxDischargeDepth := 60)

@[simp] theorem sealed_vfmEnd (d : Device) (v : ℕ) (bit : ℕ) (code : ℕ) (h : d.sealed)  : (Device.vfmEnd d v bit code).sealed := by
  unfold Device.vfmEnd
  (repeat' split) <;> simp_all (maxDischargeDepth := 60)

@[simp] theorem sealed_disableQp (d : Device) (v : ℕ) (q : ℕ) (h : d.sealed)  : (Device.disableQp d v q).sealed := by
  unfold Device.disableQp
  (repeat' split) <;> simp_all (maxDischargeDepth := 60)

@[simp] theorem sealed_disableQps (d : Device) (v : ℕ) (h : d.sealed)  : (Device.disableQps d v).sealed := by
  unfold Device.disableQps
  (repeat' split) <;> simp_all (maxDischargeDepth := 60)

@[simp] theorem sealed_createVf (d : Device) (v : ℕ) (h : d.sealed)  : (Device.createVf d v).sealed := by
  unfold Device.createVf
  (repeat' split) <;> (try simp_all (maxDischargeDepth := 60)) <;> repeat' (first | split | intro _ | simp_all (maxDischargeDepth := 60) | (rename_i h; replace h := congrArg (fun q => q.1.sealed) h; simp_all (maxDischargeDepth := 60); done) | apply sealed_onCommand | apply sealed_onIdle | apply sealed_onWrite | apply sealed_softStart | apply sealed_vfmCommand | apply sealed_domCommand | apply sealed_migCommand | apply sealed_toStub)

@[simp] theorem sealed_activateVf (d : Device) (v : ℕ) (h : d.sealed)  : (Device.activateVf d v).sealed := by
  unfold Device.activateVf
  (repeat' split) <;> (try simp_all (maxDischargeDepth := 60)) <;> repeat' (first | split | intro _ | simp_all (maxDischargeDepth := 60) | (rename_i h; replace h := congrArg (fun q => q.1.sealed) h; simp_all (maxDischargeDepth := 60); done) | apply sealed_onCommand | apply sealed_onIdle | apply sealed_onWrite | apply sealed_softStart | apply sealed_vfmCommand | apply sealed_domCommand | apply sealed_migCommand | apply sealed_toStub)

@[simp] theorem sealed_drainVf (d : Device) (v : ℕ) (h : d.sealed)  : (Device.drainVf d v).sealed := by
  unfold Device.drainVf
  (repeat' split) <;> (try simp_all (maxDischargeDepth := 60)) <;> repeat' (first | split | intro _ | simp_all (maxDischargeDepth := 60) | (rename_i h; replace h := congrArg (fun q => q.1.sealed) h; simp_all (maxDischargeDepth := 60); done) | apply sealed_onCommand | apply sealed_onIdle | apply sealed_onWrite | apply sealed_softStart | apply sealed_vfmCommand | apply sealed_domCommand | apply sealed_migCommand | apply sealed_toStub)

@[simp] theorem sealed_drainEnd (d : Device) (v : ℕ) (h : d.sealed)  : (Device.drainEnd d v).sealed := by
  unfold Device.drainEnd
  (repeat' split) <;> simp_all (maxDischargeDepth := 60)

@[simp] theorem sealed_eraseRegs (d : Device) (lo : ℕ) (hi : ℕ) (h : d.sealed)  : (Device.eraseRegs d lo hi).sealed := by
  unfold Device.eraseRegs
  (repeat' split) <;> simp_all (maxDischargeDepth := 60)

@[simp] theorem sealed_destroyVf (d : Device) (v : ℕ) (h : d.sealed)  : (Device.destroyVf d v).sealed := by
  unfold Device.destroyVf
  (repeat' split) <;> (try simp_all (maxDischargeDepth := 60)) <;> repeat' (first | split | intro _ | simp_all (maxDischargeDepth := 60) | (rename_i h; replace h := congrArg (fun q => q.1.sealed) h; simp_all (maxDischargeDepth := 60); done) | apply sealed_onCommand | apply sealed_onIdle | apply sealed_onWrite | apply sealed_softStart | apply sealed_vfmCommand | apply sealed_domCommand | apply sealed_migCommand | apply sealed_toStub)

@[simp] theorem sealed_vfAbsent (d : Device) (v : ℕ) (h : d.sealed)  : (Device.vfAbsent d v).sealed := by
  unfold Device.vfAbsent
  (repeat' split) <;> simp_all (maxDischargeDepth := 60)

@[simp] theorem sealed_startDrain (d : Device) (v : ℕ) (q : ℕ) (h : d.sealed)  : (Device.startDrain d v q).sealed := by
  unfold Device.startDrain
  (repeat' split) <;> simp_all (maxDischargeDepth := 60)

@[simp] theorem sealed_qpDrainEnd (d : Device) (v : ℕ) (q : ℕ) (h : d.sealed)  : (Device.qpDrainEnd d v q).sealed := by
  unfold Device.qpDrainEnd
  (repeat' split) <;> simp_all (maxDischargeDepth := 60)

@[simp] theorem sealed_qpCfgWrite (d : Device) (v : ℕ) (q : ℕ) (w : ℕ) (h : d.sealed)  : (Device.qpCfgWrite d v q w).sealed := by
  unfold Device.qpCfgWrite
  (repeat' split) <;> simp_all (maxDischargeDepth := 60)

@[simp] theorem sealed_qpErrorClear (d : Device) (v : ℕ) (q : ℕ) (h : d.sealed)  : (Device.qpErrorClear d v q).sealed := by
  unfold Device.qpErrorClear
  (repeat' split) <;> simp_all (maxDischargeDepth := 60)

@[simp] theorem sealed_evictDown (tenant quota k : Nat) (d : Device) (h : d.sealed) : (Device.evictDown tenant quota k d).sealed := by
  induction k generalizing d with
  | zero => exact h
  | succ k ih => unfold Device.evictDown; (repeat' split) <;> simp_all

@[simp] theorem sealed_reclaimVf (d : Device) (v : ℕ) (h : d.sealed)  : (Device.reclaimVf d v).sealed := by
  unfold Device.reclaimVf
  (repeat' split) <;> (try simp_all (maxDischargeDepth := 60)) <;> repeat' (first | split | intro _ | simp_all (maxDischargeDepth := 60) | (rename_i h; replace h := congrArg (fun q => q.1.sealed) h; simp_all (maxDischargeDepth := 60); done) | apply sealed_onCommand | apply sealed_onIdle | apply sealed_onWrite | apply sealed_softStart | apply sealed_vfmCommand | apply sealed_domCommand | apply sealed_migCommand | apply sealed_toStub)

@[simp] theorem sealed_reclaimEnd (d : Device) (v : ℕ) (h : d.sealed)  : (Device.reclaimEnd d v).sealed := by
  unfold Device.reclaimEnd
  (repeat' split) <;> simp_all (maxDischargeDepth := 60)

@[simp] theorem sealed_resetMigration (d : Device) (v : ℕ) (h : d.sealed)  : (Device.resetMigration d v).sealed := by
  unfold Device.resetMigration
  (repeat' split) <;> simp_all (maxDischargeDepth := 60)

@[simp] theorem sealed_resetItem (d : Device) (n : ℕ) (x : Item) (h : d.sealed)  : (Device.resetItem d n x).sealed := by
  unfold Device.resetItem
  (repeat' split) <;> simp_all (maxDischargeDepth := 60)

@[simp] theorem sealed_resetWork (d : Device) (v : ℕ) (h : d.sealed)  : (Device.resetWork d v).sealed := by
  unfold Device.resetWork
  extract_lets mine drop d1 d2 drains d4 d5
  have h1 : d1.sealed := sealed_mapDom _ _ (sealed_mapStore _ _ h)
  have h2 : d2.sealed := by
    refine sealed_foldl _ _ _ h1 ?_
    intro d e hd; simp [hd]
  have h4 : d4.sealed := by simp only [d4]; split <;> simp [h2]
  have h5 : d5.sealed := by
    refine sealed_foldl _ _ _ h4 ?_
    intro d e hd; simp [hd]
  split
  · split <;> simp [h5]
  · exact h5

@[simp] theorem sealed_dropFinished (d : Device) (v : ℕ) (h : d.sealed)  : (Device.dropFinished d v).sealed := by
  unfold Device.dropFinished
  (repeat' split) <;> simp_all (maxDischargeDepth := 60)

@[simp] theorem sealed_resetPages (d : Device) (v : ℕ) (h : d.sealed)  : (Device.resetPages d v).sealed := by
  unfold Device.resetPages
  (repeat' split) <;> simp_all (maxDischargeDepth := 60)

@[simp] theorem sealed_resetVf (d : Device) (v : ℕ) (h : d.sealed)  : (Device.resetVf d v).sealed := by
  unfold Device.resetVf
  (repeat' split) <;> simp_all (maxDischargeDepth := 60)

@[simp] theorem sealed_vfReset (d : Device) (v : ℕ) (cause : ℕ) (h : d.sealed)  : (Device.vfReset d v cause).sealed := by
  unfold Device.vfReset
  (repeat' split) <;> simp_all (maxDischargeDepth := 60)

@[simp] theorem sealed_vfEnableSet (d : Device) (n : ℕ) (h : d.sealed)  : (Device.vfEnableSet d n).sealed := by
  unfold Device.vfEnableSet
  (repeat' split) <;> simp_all (maxDischargeDepth := 60)

@[simp] theorem sealed_vfEnableClear (d : Device) (h : d.sealed)  : (Device.vfEnableClear d).sealed := by
  unfold Device.vfEnableClear
  (repeat' split) <;> simp_all (maxDischargeDepth := 60)

@[simp] theorem sealed_vfPageEnable (d : Device) (v : ℕ) (manager : Bool) (enable : Bool) (h : d.sealed)  : (Device.vfPageEnable d v manager enable).sealed := by
  unfold Device.vfPageEnable
  (repeat' split) <;> simp_all (maxDischargeDepth := 60)

@[simp] theorem sealed_poolWrite (d : Device) (p : ℕ) (slots : Bool) (w : ℕ) (h : d.sealed)  : (Device.poolWrite d p slots w).sealed := by
  unfold Device.poolWrite
  (repeat' split) <;> simp_all (maxDischargeDepth := 60)

@[simp] theorem sealed_carry (d : Device) (src : ℕ) (dst : ℕ) (h : d.sealed)  : (Device.carry d src dst).sealed := by
  unfold Device.carry
  (repeat' split) <;> simp_all (maxDischargeDepth := 60)

@[simp] theorem sealed_mbSend (d : Device) (v : ℕ) (h : d.sealed)  : (Device.mbSend d v).sealed := by
  unfold Device.mbSend
  (repeat' split) <;> simp_all (maxDischargeDepth := 60)

@[simp] theorem sealed_mbTake (d : Device) (v : ℕ) (h : d.sealed)  : (Device.mbTake d v).sealed := by
  unfold Device.mbTake
  (repeat' split) <;> simp_all (maxDischargeDepth := 60)

@[simp] theorem sealed_deliverPost (d : Device) (v : ℕ) (h : d.sealed)  : (Device.deliverPost d v).sealed := by
  unfold Device.deliverPost
  (repeat' split) <;> simp_all (maxDischargeDepth := 60)

@[simp] theorem sealed_mbPost (d : Device) (v : ℕ) (h : d.sealed)  : (Device.mbPost d v).sealed := by
  unfold Device.mbPost
  (repeat' split) <;> simp_all (maxDischargeDepth := 60)

@[simp] theorem sealed_m2tFree (d : Device) (v : ℕ) (h : d.sealed)  : (Device.m2tFree d v).sealed := by
  unfold Device.m2tFree
  (repeat' split) <;> simp_all (maxDischargeDepth := 60)

theorem sealed_openRefusal (d : Device) (t : Nat) (body : Bytes) (h : d.sealed) : (d.openRefusal t body).isSome := by
  unfold Device.openRefusal
  simp only [h.1]
  split
  · rfl
  · split
    · rfl
    · rename_i hn
      exact absurd (by simp [Mode.accepts]) hn

@[simp] theorem sealed_openCeremony (d : Device) (carrier : Nat) (body : Bytes) (h : d.sealed) :
    (d.openCeremony carrier body).sealed := by
  unfold Device.openCeremony
  have h1 := sealed_openRefusal d (hdr body 0 1) body h
  extract_lets t p
  split
  · apply sealed_olihildReply
    apply sealed_ceremonyRecorded
    split
    · exact sealed_drawFree _ h
    · exact h
  · rename_i hn
    rw [hn] at h1
    cases h1

@[simp] theorem sealed_executionAsks (d : Device) (c : Ceremony) (h : d.sealed)  : (Device.executionAsks d c).sealed := by
  unfold Device.executionAsks
  (repeat' split) <;> simp_all (maxDischargeDepth := 60)

@[simp] theorem sealed_tryExecute (d : Device) (h : d.sealed)  : (Device.tryExecute d).sealed := by
  unfold Device.tryExecute
  rw [h.2]; exact h

@[simp] theorem sealed_tallyReply (d : Device) (carrier : ℕ) (status : ℕ) (id : ℕ) (kcv : Sys2Proof.Bytes) (h : d.sealed)  : (Device.tallyReply d carrier status id kcv).sealed := by
  unfold Device.tallyReply
  (repeat' split) <;> simp_all (maxDischargeDepth := 60)

theorem sealed_expireLate_eq (d : Device) (h : d.sealed) : d.expireLate = d := by
  unfold Device.expireLate; rw [h.2]

@[simp] theorem sealed_expireLate (d : Device) (h : d.sealed) : d.expireLate.sealed := by rw [sealed_expireLate_eq d h]; exact h

@[simp] theorem sealed_ceremonyInput (d : Device) (carrier id : Nat) (takes : Ceremony → Bool) (f : Device → Ceremony → Device)
    (h : d.sealed) : (d.ceremonyInput carrier id takes f).sealed := by
  unfold Device.ceremonyInput
  rw [sealed_expireLate_eq d h]
  simp only [h.2]
  simp [h]

@[simp] theorem sealed_approve (d : Device) (carrier : ℕ) (id : ℕ) (body : Sys2Proof.Bytes) (h : d.sealed)  : (Device.approve d carrier id body).sealed := by
  unfold Device.approve
  exact sealed_ceremonyInput _ _ _ _ _ h

@[simp] theorem sealed_component (d : Device) (carrier : ℕ) (id : ℕ) (body : Sys2Proof.Bytes) (h : d.sealed)  : (Device.component d carrier id body).sealed := by
  unfold Device.component
  exact sealed_ceremonyInput _ _ _ _ _ h

@[simp] theorem sealed_transport (d : Device) (carrier : ℕ) (id : ℕ) (body : Sys2Proof.Bytes) (h : d.sealed)  : (Device.transport d carrier id body).sealed := by
  unfold Device.transport
  exact sealed_ceremonyInput _ _ _ _ _ h

@[simp] theorem sealed_cancelMessage (d0 : Device) (carrier : ℕ) (id : ℕ) (h : d0.sealed)  : (Device.cancelMessage d0 carrier id).sealed := by
  unfold Device.cancelMessage
  rw [sealed_expireLate_eq d0 h]
  extract_lets d
  have h2 : d.cust.ceremony = none := h.2
  rw [h2]
  exact sealed_olihildReply _ _ _ _ _ _ h

@[simp] theorem sealed_query (d : Device) (carrier : ℕ) (h : d.sealed)  : (Device.query d carrier).sealed := by
  unfold Device.query
  (repeat' split) <;> simp_all (maxDischargeDepth := 60)

@[simp] theorem sealed_unknownType (d : Device) (carrier : ℕ) (typ : ℕ) (h : d.sealed)  : (Device.unknownType d carrier typ).sealed := by
  unfold Device.unknownType
  (repeat' split) <;> simp_all (maxDischargeDepth := 60)

@[simp] theorem sealed_olihild (d : Device) (carrier : ℕ) (msg : Sys2Proof.Bytes) (h : d.sealed)  : (Device.olihild d carrier msg).sealed := by
  unfold Device.olihild
  (repeat' split) <;> simp_all (maxDischargeDepth := 60)

@[simp] theorem sealed_windowExpiry (d : Device) (h : d.sealed)  : (Device.windowExpiry d).sealed := by
  unfold Device.windowExpiry
  rw [h.2]; exact h

@[simp] theorem sealed_closeMaint (d : Device) (h : d.sealed)  : (Device.closeMaint d).sealed := by
  unfold Device.closeMaint
  apply sealed_onCommand _ _ _ h
  intro d h
  simp [h.1, h]

@[simp] theorem sealed_cancelCeremony (d : Device) (h : d.sealed)  : (Device.cancelCeremony d).sealed := by
  unfold Device.cancelCeremony
  apply sealed_onCommand _ _ _ h
  intro d h
  simp only [h.2]
  simp [h]

@[simp] theorem sealed_maintLimit (d : Device) (h : d.sealed)  : (Device.maintLimit d).sealed := by
  unfold Device.maintLimit
  simp only [h.1]
  split
  · exact h
  · simp only [reduceCtorEq, if_false]; exact ⟨h.1, h.2⟩

@[simp] theorem sealed_maintExpiring (d : Device) (h : d.sealed)  : (Device.maintExpiring d).sealed := by
  unfold Device.maintExpiring
  (repeat' split) <;> simp_all (maxDischargeDepth := 60)

@[simp] theorem sealed_atEnd (d : Device) (t : Nat) (f : Device → Ceremony → Device) (h : d.sealed) : (d.atEnd t f).sealed := by
  unfold Device.atEnd Device.executing
  simp only [h.2]
  exact h

@[simp] theorem sealed_enrolInitial (d : Device) (h : d.sealed)  : (Device.enrolInitial d).sealed := by
  unfold Device.enrolInitial
  (repeat' split) <;> simp_all (maxDischargeDepth := 60)

@[simp] theorem sealed_enrol (d : Device) (h : d.sealed)  : (Device.enrol d).sealed := by
  unfold Device.enrol
  (repeat' split) <;> simp_all (maxDischargeDepth := 60)

@[simp] theorem sealed_setRoot (d : Device) (root : Sys2Proof.Bytes) (epoch : ℕ) (h : d.sealed)  : (Device.setRoot d root epoch).sealed := by
  unfold Device.setRoot
  (repeat' split) <;> simp_all (maxDischargeDepth := 60)

@[simp] theorem sealed_storeCustody (d : Device) (h : d.sealed)  : (Device.storeCustody d).sealed := by
  unfold Device.storeCustody
  (repeat' split) <;> simp_all (maxDischargeDepth := 60)

@[simp] theorem sealed_drawApproval (d : Device) (h : d.sealed)  : (Device.drawApproval d).sealed := by
  unfold Device.drawApproval
  (repeat' split) <;> simp_all (maxDischargeDepth := 60)

@[simp] theorem sealed_rootGenerate (d : Device) (h : d.sealed)  : (Device.rootGenerate d).sealed := by
  unfold Device.rootGenerate
  (repeat' split) <;> simp_all (maxDischargeDepth := 60)

@[simp] theorem sealed_join (d : Device) (h : d.sealed)  : (Device.join d).sealed := by
  unfold Device.join
  (repeat' split) <;> simp_all (maxDischargeDepth := 60)

@[simp] theorem sealed_sponsor (d : Device) (h : d.sealed)  : (Device.sponsor d).sealed := by
  unfold Device.sponsor
  (repeat' split) <;> simp_all (maxDischargeDepth := 60)

@[simp] theorem sealed_rootReplace (d : Device) (h : d.sealed)  : (Device.rootReplace d).sealed := by
  unfold Device.rootReplace
  (repeat' split) <;> simp_all (maxDischargeDepth := 60)

@[simp] theorem sealed_keyImport (d : Device) (h : d.sealed)  : (Device.keyImport d).sealed := by
  unfold Device.keyImport
  exact sealed_atEnd _ _ _ h

@[simp] theorem sealed_tableApprove (d : Device) (h : d.sealed)  : (Device.tableApprove d).sealed := by
  unfold Device.tableApprove
  (repeat' split) <;> simp_all (maxDischargeDepth := 60)

@[simp] theorem sealed_openMaintenance (d : Device) (h : d.sealed)  : (Device.openMaintenance d).sealed := by
  unfold Device.openMaintenance
  exact sealed_atEnd _ _ _ h

@[simp] theorem sealed_compatSet (d : Device) (h : d.sealed)  : (Device.compatSet d).sealed := by
  unfold Device.compatSet
  (repeat' split) <;> simp_all (maxDischargeDepth := 60)

@[simp] theorem sealed_reportCoalesced (battery : Bool) (d : Device) (s : ℕ) (h : d.sealed)  : (Device.reportCoalesced battery d s).sealed := by
  unfold Device.reportCoalesced
  (repeat' split) <;> simp_all (maxDischargeDepth := 60)

@[simp] theorem sealed_detect (d : Device) (battery : Bool) (s : ℕ) (detail : ℕ) (h : d.sealed)  : (Device.detect d battery s detail).sealed := by
  unfold Device.detect
  (repeat' split) <;> simp_all (maxDischargeDepth := 60)

@[simp] theorem sealed_tamperEvent (d : Device) (s : ℕ) (detail : ℕ) (h : d.sealed)  : (Device.tamperEvent d s detail).sealed := by
  unfold Device.tamperEvent
  (repeat' split) <;> simp_all (maxDischargeDepth := 60)

@[simp] theorem sealed_conditionEnd (d : Device) (s : ℕ) (h : d.sealed)  : (Device.conditionEnd d s).sealed := by
  unfold Device.conditionEnd
  (repeat' split) <;> simp_all (maxDischargeDepth := 60)

@[simp] theorem sealed_zeroizeEnd (d : Device) (h : d.sealed)  : (Device.zeroizeEnd d).sealed := by
  unfold Device.zeroizeEnd
  (repeat' split) <;> simp_all (maxDischargeDepth := 60)

@[simp] theorem sealed_samplingWindow (d : Device) (found : List (ℕ × ℕ)) (h : d.sealed)  : (Device.samplingWindow d found).sealed := by
  unfold Device.samplingWindow
  (repeat' split) <;> simp_all (maxDischargeDepth := 60)

@[simp] theorem sealed_rowBurnt (d : Device) (torn : Bool) (h : d.sealed)  : (Device.rowBurnt d torn).sealed := by
  unfold Device.rowBurnt
  (repeat' split) <;> simp_all (maxDischargeDepth := 60)

@[simp] theorem sealed_stickyClear (d : Device) (bits : ℕ) (h : d.sealed)  : (Device.stickyClear d bits).sealed := by
  unfold Device.stickyClear
  (repeat' split) <;> simp_all (maxDischargeDepth := 60)

@[simp] theorem sealed_blockEffect (d : Device) (s : ℕ) (place : ℕ) (h : d.sealed)  : (Device.blockEffect d s place).sealed := by
  unfold Device.blockEffect
  (repeat' split) <;> simp_all (maxDischargeDepth := 60)

@[simp] theorem sealed_resetConfig (d : Device) (h : d.sealed)  : (Device.resetConfig d).sealed := by
  unfold Device.resetConfig
  (repeat' split) <;> simp_all (maxDischargeDepth := 60)

@[simp] theorem sealed_escalate (d : Device) (s : ℕ) (h : d.sealed)  : (Device.escalate d s).sealed := by
  unfold Device.escalate
  (repeat' split) <;> simp_all (maxDischargeDepth := 60)

@[simp] theorem sealed_clearHwm (d : Device) (h : d.sealed)  : (Device.clearHwm d).sealed := by
  unfold Device.clearHwm
  (repeat' split) <;> simp_all (maxDischargeDepth := 60)

@[simp] theorem sealed_selfRepair (d : Device) (which : ℕ) (words : List ℕ) (counts : List ℕ) (hwm : Bool) (h : d.sealed)  : (Device.selfRepair d which words counts hwm).sealed := by
  unfold Device.selfRepair
  (repeat' split) <;> simp_all (maxDischargeDepth := 60)

@[simp] theorem sealed_selfError (d : Device) (which : ℕ) (words : List ℕ) (counts : List ℕ) (hwm : Bool) (h : d.sealed)  : (Device.selfError d which words counts hwm).sealed := by
  unfold Device.selfError
  (repeat' split) <;> simp_all (maxDischargeDepth := 60)

@[simp] theorem sealed_faultEvent (d : Device) (s : ℕ) (held : Bool) (place : ℕ) (h : d.sealed)  : (Device.faultEvent d s held place).sealed := by
  unfold Device.faultEvent
  (repeat' split) <;> simp_all (maxDischargeDepth := 60)

@[simp] theorem sealed_faultAck (d : Device) (s : ℕ) (h : d.sealed)  : (Device.faultAck d s).sealed := by
  unfold Device.faultAck
  (repeat' split) <;> simp_all (maxDischargeDepth := 60)

@[simp] theorem sealed_pendingClear (d : Device) (s : ℕ) (h : d.sealed)  : (Device.pendingClear d s).sealed := by
  unfold Device.pendingClear
  (repeat' split) <;> simp_all (maxDischargeDepth := 60)

@[simp] theorem sealed_rearm (d : Device) (h : d.sealed)  : (Device.rearm d).sealed := by
  unfold Device.rearm
  (repeat' split) <;> simp_all (maxDischargeDepth := 60)

@[simp] theorem sealed_cfgWrite (d : Device) (s : ℕ) (w : ℕ) (h : d.sealed)  : (Device.cfgWrite d s w).sealed := by
  unfold Device.cfgWrite
  (repeat' split) <;> simp_all (maxDischargeDepth := 60)

@[simp] theorem sealed_replayRerun (d : Device) (h : d.sealed)  : (Device.replayRerun d).sealed := by
  unfold Device.replayRerun
  (repeat' split) <;> simp_all (maxDischargeDepth := 60)

@[simp] theorem sealed_frameIn (d : Device) (more : Bool) (data : Sys2Proof.Bytes) (h : d.sealed)  : (Device.frameIn d more data).sealed := by
  unfold Device.frameIn
  (repeat' split) <;> simp_all (maxDischargeDepth := 60)

@[simp] theorem sealed_mbxSend (d : Device) (h : d.sealed)  : (Device.mbxSend d).sealed := by
  unfold Device.mbxSend
  (repeat' split) <;> simp_all (maxDischargeDepth := 60)

@[simp] theorem sealed_mbxInFree (d : Device) (h : d.sealed)  : (Device.mbxInFree d).sealed := by
  unfold Device.mbxInFree
  (repeat' split) <;> simp_all (maxDischargeDepth := 60)

@[simp] theorem sealed_mbxReset (d : Device) (h : d.sealed)  : (Device.mbxReset d).sealed := by
  unfold Device.mbxReset
  (repeat' split) <;> simp_all (maxDischargeDepth := 60)

end Sys2Proof.Machine
end

