-- ==== Sys2Proof/Laws/SealedBoard.lean ====
section
/-! SUPPORT. ZEROIZED kept: power, the sideband, the RNG and register writes. -/

namespace Sys2Proof.Machine

@[simp] theorem sealed_coresStop (d : Device) (h : d.sealed)  : (Device.coresStop d).sealed := by
  unfold Device.coresStop
  (repeat' split) <;> simp_all (maxDischargeDepth := 60)

@[simp] theorem sealed_coresResume (d : Device) (h : d.sealed)  : (Device.coresResume d).sealed := by
  unfold Device.coresResume
  (repeat' split) <;> simp_all (maxDischargeDepth := 60)

@[simp] theorem sealed_powerStep (d : Device) (f : Power → Power) (h : d.sealed)  : (Device.powerStep d f).sealed := by
  unfold Device.powerStep
  (repeat' split) <;> simp_all (maxDischargeDepth := 60)

@[simp] theorem sealed_setPowerState (d : Device) (st : PowerState) (h : d.sealed)  : (Device.setPowerState d st).sealed := by
  unfold Device.setPowerState
  (repeat' split) <;> simp_all (maxDischargeDepth := 60)

@[simp] theorem sealed_powerStop (d : Device) (h : d.sealed)  : (Device.powerStop d).sealed := by
  unfold Device.powerStop
  (repeat' split) <;> simp_all (maxDischargeDepth := 60)

@[simp] theorem sealed_chainUnhealthy (d : Device) (c : ℕ) (feedOk : Bool) (mv : ℕ) (h : d.sealed)  : (Device.chainUnhealthy d c feedOk mv).sealed := by
  unfold Device.chainUnhealthy
  (repeat' split) <;> simp_all (maxDischargeDepth := 60)

@[simp] theorem sealed_chainHealthy (d : Device) (c : ℕ) (mv : ℕ) (h : d.sealed)  : (Device.chainHealthy d c mv).sealed := by
  unfold Device.chainHealthy
  (repeat' split) <;> simp_all (maxDischargeDepth := 60)

@[simp] theorem sealed_failoverEnd (d : Device) (h : d.sealed)  : (Device.failoverEnd d).sealed := by
  unfold Device.failoverEnd
  (repeat' split) <;> simp_all (maxDischargeDepth := 60)

@[simp] theorem sealed_selfTest (d : Device) (pass : Bool) (h : d.sealed)  : (Device.selfTest d pass).sealed := by
  unfold Device.selfTest
  (repeat' split) <;> simp_all (maxDischargeDepth := 60)

@[simp] theorem sealed_plannedSwitch (d : Device) (h : d.sealed)  : (Device.plannedSwitch d).sealed := by
  unfold Device.plannedSwitch
  (repeat' split) <;> simp_all (maxDischargeDepth := 60)

@[simp] theorem sealed_gateAll (d : Device) (h : d.sealed)  : (Device.gateAll d).sealed := by
  unfold Device.gateAll
  (repeat' split) <;> simp_all (maxDischargeDepth := 60)

@[simp] theorem sealed_clockFloor (d : Device) (h : d.sealed)  : (Device.clockFloor d).sealed := by
  unfold Device.clockFloor
  (repeat' split) <;> simp_all (maxDischargeDepth := 60)

@[simp] theorem sealed_stateReq (d : Device) (v : ℕ) (h : d.sealed)  : (Device.stateReq d v).sealed := by
  unfold Device.stateReq
  (repeat' split) <;> (try simp_all (maxDischargeDepth := 60)) <;> repeat' (first | split | intro _ | simp_all (maxDischargeDepth := 60) | (rename_i h; replace h := congrArg (fun q => q.1.sealed) h; simp_all (maxDischargeDepth := 60); done) | apply sealed_onCommand | apply sealed_onIdle | apply sealed_onWrite | apply sealed_softStart | apply sealed_vfmCommand | apply sealed_atEnd | apply sealed_ceremonyInput | apply sealed_domCommand | apply sealed_migCommand | apply sealed_toStub)

@[simp] theorem sealed_ebbEntry (d : Device) (h : d.sealed)  : (Device.ebbEntry d).sealed := by
  unfold Device.ebbEntry
  (repeat' split) <;> simp_all (maxDischargeDepth := 60)

@[simp] theorem sealed_wakeEnd (d : Device) (h : d.sealed)  : (Device.wakeEnd d).sealed := by
  unfold Device.wakeEnd
  (repeat' split) <;> simp_all (maxDischargeDepth := 60)

@[simp] theorem sealed_lockLoss (d : Device) (n : ℕ) (h : d.sealed)  : (Device.lockLoss d n).sealed := by
  unfold Device.lockLoss
  (repeat' split) <;> simp_all (maxDischargeDepth := 60)

@[simp] theorem sealed_relock (d : Device) (n : ℕ) (h : d.sealed)  : (Device.relock d n).sealed := by
  unfold Device.relock
  (repeat' split) <;> simp_all (maxDischargeDepth := 60)

@[simp] theorem sealed_follow (d : Device) (src : ℕ) (ok : Bool) (h : d.sealed)  : (Device.follow d src ok).sealed := by
  unfold Device.follow
  (repeat' split) <;> simp_all (maxDischargeDepth := 60)

@[simp] theorem sealed_burnDone (d : Device) (code : ℕ) (h : d.sealed)  : (Device.burnDone d code).sealed := by
  unfold Device.burnDone
  (repeat' split) <;> simp_all (maxDischargeDepth := 60)

@[simp] theorem sealed_burn (d : Device) (h : d.sealed)  : (Device.burn d).sealed := by
  unfold Device.burn
  (repeat' split) <;> (try simp_all (maxDischargeDepth := 60)) <;> repeat' (first | split | intro _ | simp_all (maxDischargeDepth := 60) | (rename_i h; replace h := congrArg (fun q => q.1.sealed) h; simp_all (maxDischargeDepth := 60); done) | apply sealed_onCommand | apply sealed_onIdle | apply sealed_onWrite | apply sealed_softStart | apply sealed_vfmCommand | apply sealed_atEnd | apply sealed_ceremonyInput | apply sealed_domCommand | apply sealed_migCommand | apply sealed_toStub)

@[simp] theorem sealed_countTorn (d : Device) (g : ℕ) (h : d.sealed)  : (Device.countTorn d g).sealed := by
  unfold Device.countTorn
  (repeat' split) <;> simp_all (maxDischargeDepth := 60)

@[simp] theorem sealed_burnEnd (d : Device) (ok : Bool) (h : d.sealed)  : (Device.burnEnd d ok).sealed := by
  unfold Device.burnEnd
  (repeat' split) <;> simp_all (maxDischargeDepth := 60)

@[simp] theorem sealed_hostReset (d : Device) (h : d.sealed)  : (Device.hostReset d).sealed := by
  unfold Device.hostReset
  (repeat' split) <;> simp_all (maxDischargeDepth := 60)

@[simp] theorem sealed_pinStep (d : Device) (f : Pins → Pins) (h : d.sealed)  : (Device.pinStep d f).sealed := by
  unfold Device.pinStep
  (repeat' split) <;> simp_all (maxDischargeDepth := 60)

@[simp] theorem sealed_perstLong (d : Device) (h : d.sealed)  : (Device.perstLong d).sealed := by
  unfold Device.perstLong
  (repeat' split) <;> simp_all (maxDischargeDepth := 60)

@[simp] theorem sealed_linkChange (d : Device) (gen : ℕ) (requested : Bool) (idle : Bool) (h : d.sealed)  : (Device.linkChange d gen requested idle).sealed := by
  unfold Device.linkChange
  (repeat' split) <;> simp_all (maxDischargeDepth := 60)

@[simp] theorem sealed_busSeen (d : Device) (smbus : Bool) (h : d.sealed)  : (Device.busSeen d smbus).sealed := by
  unfold Device.busSeen
  (repeat' split) <;> simp_all (maxDischargeDepth := 60)

@[simp] theorem sealed_sideTransaction (d : Device) (smbus : Bool) (assign : Option (BitVec 7)) (data : Sys2Proof.Bytes) (h : d.sealed)  : (Device.sideTransaction d smbus assign data).sealed := by
  unfold Device.sideTransaction
  (repeat' split) <;> simp_all (maxDischargeDepth := 60)

@[simp] theorem sealed_spdmMessage (d : Device) (sideband : Bool) (supported : Bool) (data : Sys2Proof.Bytes) (h : d.sealed)  : (Device.spdmMessage d sideband supported data).sealed := by
  unfold Device.spdmMessage
  (repeat' split) <;> simp_all (maxDischargeDepth := 60)

@[simp] theorem sealed_pldmMessage (d : Device) (monitoring : Bool) (readsEvent : Bool) (data : Sys2Proof.Bytes) (h : d.sealed)  : (Device.pldmMessage d monitoring readsEvent data).sealed := by
  unfold Device.pldmMessage
  (repeat' split) <;> simp_all (maxDischargeDepth := 60)

@[simp] theorem sealed_araRead (d : Device) (won : Bool) (h : d.sealed)  : (Device.araRead d won).sealed := by
  unfold Device.araRead
  (repeat' split) <;> simp_all (maxDischargeDepth := 60)

@[simp] theorem sealed_sdaStuck (d : Device) (h : d.sealed)  : (Device.sdaStuck d).sealed := by
  unfold Device.sdaStuck
  (repeat' split) <;> simp_all (maxDischargeDepth := 60)

@[simp] theorem sealed_sideReset (d : Device) (h : d.sealed)  : (Device.sideReset d).sealed := by
  unfold Device.sideReset
  (repeat' split) <;> simp_all (maxDischargeDepth := 60)

@[simp] theorem sealed_reqEnd (d : Device) (served : Bool) (h : d.sealed)  : (Device.reqEnd d served).sealed := by
  unfold Device.reqEnd
  extract_lets m refused code gives d0 d1 d2
  have h0 : d0.sealed := by
    simp only [d0]
    split
    · exact sealed_drawn d h
    · exact h
  have h1 : d1.sealed := sealed_mapCyc _ _ (sealed_mapRng _ _ h0)
  exact sealed_raiseInt _ _ _ _ (sealed_commandEnd _ _ _ _ (sealed_setResult _ _ _ (sealed_storeWords _ _ _ _ h1)))

@[simp] theorem sealed_req (d : Device) (h : d.sealed)  : (Device.req d).sealed := by
  unfold Device.req
  (repeat' split) <;> simp_all (maxDischargeDepth := 60)

@[simp] theorem sealed_setDrbg (d : Device) (i : ℕ) (x : Drbg) (h : d.sealed)  : (Device.setDrbg d i x).sealed := by
  unfold Device.setDrbg
  (repeat' split) <;> simp_all (maxDischargeDepth := 60)

@[simp] theorem sealed_serveQueue (k : ℕ) (d : Device) (h : d.sealed) : (Device.serveQueue k d).sealed := by
  induction k generalizing d with
  | zero => exact h
  | succ k ih =>
    unfold Device.serveQueue
    split
    · exact h
    · split
      · exact h
      · refine ih _ ?_
        have h1 := sealed_mapRng d (fun r => { r with queue := r.queue.filter (· != ‹RngReq›) }) h
        (repeat' split) <;> simp_all

@[simp] theorem sealed_reseedEnd (d : Device) (i : ℕ) (h : d.sealed)  : (Device.reseedEnd d i).sealed := by
  unfold Device.reseedEnd
  (repeat' split) <;> simp_all (maxDischargeDepth := 60)

@[simp] theorem sealed_healthFail (d : Device) (latch : ℕ) (proportion : Bool) (h : d.sealed)  : (Device.healthFail d latch proportion).sealed := by
  unfold Device.healthFail
  (repeat' split) <;> simp_all (maxDischargeDepth := 60)

@[simp] theorem sealed_testPattern (d : Device) (v : Bool) (h : d.sealed)  : (Device.testPattern d v).sealed := by
  unfold Device.testPattern
  (repeat' split) <;> simp_all (maxDischargeDepth := 60)

@[simp] theorem sealed_unmapped (d : Device) (a : ℕ) (write : Bool) (h : d.sealed)  : (Device.unmapped d a write).sealed := by
  unfold Device.unmapped
  (repeat' split) <;> simp_all (maxDischargeDepth := 60)

@[simp] theorem sealed_capture (d : Device) (cls : ℕ) (a : ℕ) (h : d.sealed)  : (Device.capture d cls a).sealed := by
  unfold Device.capture
  (repeat' split) <;> simp_all (maxDischargeDepth := 60)

@[simp] theorem sealed_readClear (d : Device) (a : ℕ) (h : d.sealed)  : (Device.readClear d a).sealed := by
  unfold Device.readClear
  (repeat' split) <;> simp_all (maxDischargeDepth := 60)

@[simp] theorem sealed_readReg (d : Device) (cls : ℕ) (a : ℕ) (h : d.sealed)  : (Device.readReg d cls a).sealed := by
  unfold Device.readReg
  (repeat' split) <;> simp_all (maxDischargeDepth := 60)

@[simp] theorem sealed_snapWrite (d : Device) (cls : ℕ) (b : ℕ) (hold : Bool) (h : d.sealed)  : (Device.snapWrite d cls b hold).sealed := by
  unfold Device.snapWrite
  (repeat' split) <;> simp_all (maxDischargeDepth := 60)

@[simp] theorem sealed_snapHold (d : Device) (cls : ℕ) (b : ℕ) (hold : Bool) (h : d.sealed)  : (Device.snapHold d cls b hold).sealed := by
  unfold Device.snapHold
  (repeat' split) <;> simp_all (maxDischargeDepth := 60)

@[simp] theorem sealed_signalAgain (d : Device) (b : ℕ) (h : d.sealed)  : (Device.signalAgain d b).sealed := by
  unfold Device.signalAgain
  (repeat' split) <;> simp_all (maxDischargeDepth := 60)

@[simp] theorem sealed_interruptWrite (d : Device) (b : ℕ) (enable : Bool) (v : ℕ) (h : d.sealed)  : (Device.interruptWrite d b enable v).sealed := by
  unfold Device.interruptWrite
  (repeat' split) <;> simp_all (maxDischargeDepth := 60)

@[simp] theorem sealed_softReset (d : Device) (p : Page) (n : ℕ) (h : d.sealed)  : (Device.softReset d p n).sealed := by
  unfold Device.softReset
  (repeat' split) <;> simp_all (maxDischargeDepth := 60)

@[simp] theorem sealed_softResetAt (d : Device) (b : ℕ) (h : d.sealed)  : (Device.softResetAt d b).sealed := by
  unfold Device.softResetAt
  (repeat' split) <;> simp_all (maxDischargeDepth := 60)

@[simp] theorem sealed_softResetEnd (d : Device) (b : ℕ) (h : d.sealed)  : (Device.softResetEnd d b).sealed := by
  unfold Device.softResetEnd
  (repeat' split) <;> simp_all (maxDischargeDepth := 60)

@[simp] theorem sealed_writeCount (d : Device) (p : Page) (n : ℕ) (a : ℕ) (v : ℕ) (f : Field) (h : d.sealed)  : (Device.writeCount d p n a v f).sealed := by
  unfold Device.writeCount
  (repeat' split) <;> simp_all (maxDischargeDepth := 60)

@[simp] theorem sealed_writeFields (d : Device) (p : Page) (n : ℕ) (a : ℕ) (v : ℕ) (h : d.sealed)  : (Device.writeFields d p n a v).sealed := by
  unfold Device.writeFields
  (repeat' split) <;> simp_all (maxDischargeDepth := 60)

@[simp] theorem sealed_lostOnce (d : Device) (a : ℕ) (f : Device → Device) (h : d.sealed) (hf : ∀ x0, x0.sealed → ((f x0)).sealed) : (Device.lostOnce d a f).sealed := by
  unfold Device.lostOnce
  (repeat' split) <;> simp_all (maxDischargeDepth := 60)

@[simp] theorem sealed_onBit (d : Device) (v : ℕ) (i : ℕ) (f : Device → Device) (h : d.sealed) (hf : ∀ x0, x0.sealed → ((f x0)).sealed) : (Device.onBit d v i f).sealed := by
  unfold Device.onBit
  (repeat' split) <;> simp_all (maxDischargeDepth := 60)

@[simp] theorem sealed_writePageHeader (d : Device) (p : Page) (n : ℕ) (cls : ℕ) (a : ℕ) (v : ℕ) (h : d.sealed)  : (Device.writePageHeader d p n cls a v).sealed := by
  unfold Device.writePageHeader
  (repeat' split) <;> simp_all (maxDischargeDepth := 60)

@[simp] theorem sealed_ackWrite (d : Device) (s : ℕ) (v : Bool) (h : d.sealed)  : (Device.ackWrite d s v).sealed := by
  unfold Device.ackWrite
  (repeat' split) <;> simp_all (maxDischargeDepth := 60)

@[simp] theorem sealed_writePwr (d : Device) (a : ℕ) (v : ℕ) (h : d.sealed)  : (Device.writePwr d a v).sealed := by
  unfold Device.writePwr
  (repeat' split) <;> simp_all (maxDischargeDepth := 60)

@[simp] theorem sealed_writeOtp (d : Device) (a : ℕ) (v : ℕ) (h : d.sealed)  : (Device.writeOtp d a v).sealed := by
  unfold Device.writeOtp
  (repeat' split) <;> simp_all (maxDischargeDepth := 60)

@[simp] theorem sealed_writeFlt (d : Device) (n : ℕ) (a : ℕ) (v : ℕ) (h : d.sealed)  : (Device.writeFlt d n a v).sealed := by
  unfold Device.writeFlt
  (repeat' split) <;> simp_all (maxDischargeDepth := 60)

@[simp] theorem sealed_writeRng (d : Device) (a : ℕ) (v : ℕ) (h : d.sealed)  : (Device.writeRng d a v).sealed := by
  unfold Device.writeRng
  (repeat' split) <;> simp_all (maxDischargeDepth := 60)

@[simp] theorem sealed_writeJnl (d : Device) (a : ℕ) (v : ℕ) (h : d.sealed)  : (Device.writeJnl d a v).sealed := by
  unfold Device.writeJnl
  (repeat' split) <;> simp_all (maxDischargeDepth := 60)

@[simp] theorem sealed_writeDom (d : Device) (a : ℕ) (v : ℕ) (h : d.sealed)  : (Device.writeDom d a v).sealed := by
  unfold Device.writeDom
  (repeat' split) <;> simp_all (maxDischargeDepth := 60)

@[simp] theorem sealed_writeSched (d : Device) (a : ℕ) (v : ℕ) (h : d.sealed)  : (Device.writeSched d a v).sealed := by
  unfold Device.writeSched
  (repeat' split) <;> simp_all (maxDischargeDepth := 60)

@[simp] theorem sealed_writeAcc (d : Device) (n : ℕ) (a : ℕ) (v : ℕ) (h : d.sealed)  : (Device.writeAcc d n a v).sealed := by
  unfold Device.writeAcc
  (repeat' split) <;> simp_all (maxDischargeDepth := 60)

@[simp] theorem sealed_writeRpl (d : Device) (a : ℕ) (v : ℕ) (h : d.sealed)  : (Device.writeRpl d a v).sealed := by
  unfold Device.writeRpl
  (repeat' split) <;> simp_all (maxDischargeDepth := 60)

@[simp] theorem sealed_writeMbx (d : Device) (a : ℕ) (v : ℕ) (h : d.sealed)  : (Device.writeMbx d a v).sealed := by
  unfold Device.writeMbx
  (repeat' split) <;> simp_all (maxDischargeDepth := 60)

@[simp] theorem sealed_writeLc (d : Device) (n : ℕ) (a : ℕ) (v : ℕ) (h : d.sealed)  : (Device.writeLc d n a v).sealed := by
  unfold Device.writeLc
  (repeat' split) <;> simp_all (maxDischargeDepth := 60)

@[simp] theorem sealed_writeBn (d : Device) (n : ℕ) (a : ℕ) (v : ℕ) (h : d.sealed)  : (Device.writeBn d n a v).sealed := by
  unfold Device.writeBn
  (repeat' split) <;> simp_all (maxDischargeDepth := 60)

@[simp] theorem sealed_writeVfm (d : Device) (v : ℕ) (a : ℕ) (w : ℕ) (h : d.sealed)  : (Device.writeVfm d v a w).sealed := by
  unfold Device.writeVfm
  (repeat' split) <;> simp_all (maxDischargeDepth := 60)

@[simp] theorem sealed_writeVf (d : Device) (v : ℕ) (a : ℕ) (w : ℕ) (h : d.sealed)  : (Device.writeVf d v a w).sealed := by
  unfold Device.writeVf
  (repeat' split) <;> simp_all (maxDischargeDepth := 60)

@[simp] theorem sealed_writeMb (d : Device) (v : ℕ) (a : ℕ) (w : ℕ) (h : d.sealed)  : (Device.writeMb d v a w).sealed := by
  unfold Device.writeMb
  (repeat' split) <;> simp_all (maxDischargeDepth := 60)

@[simp] theorem sealed_writeVcnt (d : Device) (v : ℕ) (a : ℕ) (w : ℕ) (h : d.sealed)  : (Device.writeVcnt d v a w).sealed := by
  unfold Device.writeVcnt
  (repeat' split) <;> simp_all (maxDischargeDepth := 60)

@[simp] theorem sealed_performWrite (d : Device) (p : Page) (n : ℕ) (cls : ℕ) (a : ℕ) (v : ℕ) (h : d.sealed)  : (Device.performWrite d p n cls a v).sealed := by
  unfold Device.performWrite
  (repeat' split) <;> simp_all (maxDischargeDepth := 60)

@[simp] theorem sealed_registerWrite (d : Device) (cls : ℕ) (a : ℕ) (be : BitVec 4) (v : ℕ) (h : d.sealed)  : (Device.registerWrite d cls a be v).sealed := by
  unfold Device.registerWrite
  (repeat' split) <;> (try simp_all (maxDischargeDepth := 60)) <;> repeat' (first | split | intro _ | simp_all (maxDischargeDepth := 60) | (rename_i h; replace h := congrArg (fun q => q.1.sealed) h; simp_all (maxDischargeDepth := 60); done) | apply sealed_onCommand | apply sealed_onIdle | apply sealed_onWrite | apply sealed_softStart | apply sealed_vfmCommand | apply sealed_atEnd | apply sealed_ceremonyInput | apply sealed_domCommand | apply sealed_migCommand | apply sealed_toStub)

@[simp] theorem sealed_msixWrite (d : Device) (fn : ℕ) (vector : ℕ) (word : ℕ) (v : ℕ) (h : d.sealed)  : (Device.msixWrite d fn vector word v).sealed := by
  unfold Device.msixWrite
  (repeat' split) <;> simp_all (maxDischargeDepth := 60)

@[simp] theorem sealed_rebuildHbm (d : Device) (h : d.sealed)  : (Device.rebuildHbm d).sealed := by
  unfold Device.rebuildHbm
  (repeat' split) <;> simp_all (maxDischargeDepth := 60)

@[simp] theorem sealed_reloadCurve (bad : List ℕ) (d : Device) (s : ℕ) (h : d.sealed)  : (Device.reloadCurve bad d s).sealed := by
  unfold Device.reloadCurve
  (repeat' split) <;> simp_all (maxDischargeDepth := 60)

end Sys2Proof.Machine
end

