-- ==== Sys2Proof/WellFormed.lean ====
section
/-! DEFINITION. Well-formed commands: the bounds of operands that the types of the commands do not carry. A command that is
not well formed is one that no sender can send; the meanings are total all the same. -/

namespace Sys2Proof

/-- A host write of 1 to 64 bytes inside one window slot (03_host_queues.md R69). -/
def slotWriteOk (off : Nat) (data : Bytes) : Bool := decide (0 < data.length ∧ off + data.length ≤ 64)

/-- An address of the internal map, or of a VF BAR0 (01_architecture.md R26); a narrow access may stand inside a register (R34). -/
def registerOk (addr : Nat) : Bool := decide (addr < 2 ^ 40)

/-- The base of a 4 KiB register page. -/
def pageOk (page : Nat) : Bool := decide (page % 4096 = 0 ∧ page < 0x14000000)

/-- The command's operands lie in their ranges. -/
def Instr.wellFormed : Instr → Bool
  | .windowSlotWrite _ _ _ off data => slotWriteOk off data
  | .sqReadCompletion _ _ data => data.length == 64
  | .bufferReadEnd _ (some data) => decide (data.length < 65536)
  | .stagingWindowWrite off data => decide (off + data.length ≤ 0x2000000)
  | .keyExpirySweepPass slots => slots.all (· < 1048576)
  | .curveLoadEnd code => decide (code < 256)
  | .memberUnreachable m | .memberLost m => decide (m < 65536)
  | .batterySamplingWindow found => found.all fun e => decide (e.1 < 28 ∧ e.2 < 65536)
  | .collectorSelfError _ words counts _ => words.all (· < 256) && counts.all (· < 256)
  | .accessViolation _ _ a => decide (a < 2 ^ 40)
  | .softReset p | .softResetEnd p | .snapHoldWrite _ p _ | .interruptRegisterWrite p _ _ => pageOk p
  | .loRegisterRead _ a | .readClear _ a | .registerWrite _ a _ _ => registerOk a
  | .vfEnableSet n => decide (n ≤ 4096)
  | .msixTableWrite fn v _ _ => decide ((fn = 0 ∧ v < 32) ∨ (0 < fn ∧ fn ≤ 4096 ∧ v < 65))
  | _ => true

end Sys2Proof
end

