-- ==== Sys2Proof/Tests/Slice0.lean ====
section
/-! SUPPORT. Tests of single commands on small states, and the witnesses of the statements. -/

namespace Sys2Proof.Tests

open Machine

/-! ## States -/

/-- A module in SERVICE with its clocks. -/
def service : Device :=
  (Device.initial.mapCust fun c => { c with mode := .service, selected := true }).mapPower fun p => { p with
    st := .slack, locked := 0x1FF }

/-- Tenant 7 holds VF 3, which is ACTIVE and exposed. -/
def tenant : Device :=
  (service.mapFront fun f => { f with vfEnable := true, numVfs := 8 }).setVf 3 { Vf.initial with
    st := .active, tenant := 7, pgen := 1, qpQuota := 4 }

/-- Its queue pair 2 is enabled, with 16 entries on both sides. -/
def queued : Device := ((tenant.setReg (qpCfg 3 2) 0x80000404).setQp 3 2 { Qp.initial with enabled := true }).setReg
  (Page.vf.base 3 + 8) 1

def state (d : Device) : State := { pending := [], dev := d }
def after (c : Instr) (d : Device) : Device := match exec c (state d) with | .next t => t.dev | _ => Device.initial

/-- A descriptor of service 0x0F00, ECHO. -/
def echoDesc : Bytes := [0x00, 0x0F] ++ zeros 62

theorem test_reset_queue : State.reset.pending = [] := rfl
theorem test_step_takes_front : (match step { pending := [.applyK, .leave], dev := service } with
    | .next t => t.pending | _ => []) = [.leave] := by decide
theorem test_idle_cycle : (match step (state service) with | .next t => t.dev.cycle | _ => 0) = 1 := by decide

/-! ## Ill-formed commands, one for each check -/

theorem bad_slot_write : (Instr.windowSlotWrite 3 2 0 60 (zeros 5)).wellFormed = false := by decide
theorem bad_slot_write_empty : (Instr.windowSlotWrite 3 2 0 0 []).wellFormed = false := by decide
theorem bad_descriptor : (Instr.sqReadCompletion 3 2 (zeros 63)).wellFormed = false := by decide
theorem bad_staging : (Instr.stagingWindowWrite 0x1FFFFFF (zeros 2)).wellFormed = false := by decide
theorem bad_sweep : (Instr.keyExpirySweepPass [1048576]).wellFormed = false := by decide
theorem bad_curve_code : (Instr.curveLoadEnd 256).wellFormed = false := by decide
theorem bad_member : (Instr.memberUnreachable 65536).wellFormed = false := by decide
theorem bad_sampling : (Instr.batterySamplingWindow [(28, 0)]).wellFormed = false := by decide
theorem bad_self_error : (Instr.collectorSelfError 0 [256] [] false).wellFormed = false := by decide
theorem bad_address : (Instr.accessViolation 2 0 (2 ^ 40)).wellFormed = false := by decide
theorem bad_page : (Instr.softReset 0x1004).wellFormed = false := by decide
theorem bad_register : (Instr.registerWrite 0 (2 ^ 40) 15 0).wellFormed = false := by decide
theorem bad_vf_count : (Instr.vfEnableSet 4097).wellFormed = false := by decide
theorem bad_vector : (Instr.msixTableWrite 0 32 0 0).wellFormed = false := by decide
theorem bad_vf_vector : (Instr.msixTableWrite 1 65 0 0).wellFormed = false := by decide

/-! ## Commands -/

set_option maxRecDepth 20000 in
theorem test_window_full_slot : ((after (.windowSlotWrite 3 2 0 0 echoDesc) queued).sched.items.map fun e => e.2.desc.service)
    = [0x0F00] := by decide
theorem test_window_part : (after (.windowSlotWrite 3 2 0 0 [1, 2]) queued).sched.items = [] := by decide
theorem test_apply_k_standalone : (after .applyK service).reg (domAt Off.domCmd) = 0x100 := by decide
theorem test_take_empty : (after (.take 3) tenant).field (Page.vfm.base 3 + 0xC) 23 16 = 1 := by decide
theorem test_qp_enable : ((after (.qpEnableWrite 3 2 0x80000808) tenant).qp 3 2).enabled = true := by decide
theorem test_qp_enable_small : ((after (.qpEnableWrite 3 2 0x80000803) tenant).qp 3 2).enabled = false := by decide
theorem test_vf_enable : (after (.vfEnableSet 9) service).front.numVfs = 9 := by decide
theorem test_link_up : (after (.fabricLinkUp 1) service).dom.portUp.getD 1 false = true := by decide
theorem test_hello_outside : (after .helloTimer service).out = [] := by decide
theorem test_window_expiry : after .ceremonyWindowExpiry service = service := by rfl

/-! ## Registers and accesses -/

theorem test_unused_offset : (after (.unmappedMmioAccess 0xF00 false) service).pages.cyc.events.mem 210 = true := by decide
theorem test_page_id_read : (after (.loRegisterRead 0 0xA000) service).out.length = 1 := by decide
theorem test_snap_hold : ((after (.snapHoldWrite 0 0xA000 true) service).snap 0 0xA000).hold = true := by decide
theorem test_int_enable : (after (.interruptRegisterWrite 0xC000 true 3) service).reg 0xC014 = 3 := by decide
theorem test_msix_data : ((after (.msixTableWrite 0 3 2 5) service).front.msix.get Msix.initial (msixKey 0 3)).data = 5 := by decide
theorem test_partial_write_lost : (after (.registerWrite 0 0x8040 7 1) service).field 0x800C 23 16 = 1 := by decide
theorem test_soft_reset_runs : (after (.softReset 0xC000) (service.mapCust fun c => { c with mode := .maintenance })).pages.resetting.mem 0xC000
    = true := by decide
theorem test_dom_reset_in_service : (after .domSoftReset service).field 0xC00C 23 16 = 1 := by decide
theorem test_pool_too_large : (after (.poolWrite 1 true 1) service).field 0x1600C 23 16 = 1 := by decide
theorem test_region_in_service : after (.regionWrite 20 0 5) service = after (.regionWrite 20 0 6) service := by rfl
theorem test_counter_grant : (after (.counterGrantWrite 3 1) tenant).reg (Page.vfm.base 3 + Off.vfmCntGrant) = 1 := by decide

/-! ## Host queues -/

theorem test_tail_doorbell : ((after (.submissionTailDoorbell 3 2 15 5) queued).qp 3 2).sqTail = 5 := by decide
theorem test_tail_beyond : ((after (.submissionTailDoorbell 3 2 15 16) queued).qp 3 2).sqTail = 0 := by decide
theorem test_fetch : ((after (.sqFetchIssue 3 2) (after (.submissionTailDoorbell 3 2 15 2) queued)).qp 3 2).reads = [0] := by decide
set_option maxRecDepth 20000 in
theorem test_read_failure : ((after (.sqReadFailure 3 2) (after (.sqFetchIssue 3 2) (after (.submissionTailDoorbell 3 2 15 2) queued))).qp
    3 2).reads = [] := by decide
theorem test_disabled_doorbell : ((after (.submissionTailDoorbell 3 1 15 5) queued).qp 3 1).sqTail = 0 := by decide

/-! ## Units and power -/

theorem test_idle_lane : (after (.laneFailure 2 0 .falu) service).reg (Page.lc.base 2 + Off.lcFail0) = 0 := by decide
theorem test_wake_end : ((after (.clusterWakeEnd 4 true) (service.setCluster 4 { Cluster.initial with clk := .waking })).cluster 4).clk
    = .clocked := by decide
theorem test_third_failed_wake : ((after (.clusterWakeEnd 4 false) (service.setCluster 4 { Cluster.initial with
    clk := .waking, wakeFails := 2 })).cluster 4).quarantined = true := by decide
theorem test_pll_loss : (after (.pllLockLoss 0) service).power.locked = 0x1FE := by decide
theorem test_feed_lost : ((after (.chainUnhealthy 1 false 0) service).power.chainB).feedOk = false := by decide
theorem test_refclk : (after (.refclkChange false) service).power.refclkOk = false := by decide
theorem test_vio : (after .vioOutOfRange service).pins.vioOk = false := by decide
theorem test_burn_in_service : (after .burn service).power.burn = none := by decide

/-! ## Faults and tamper -/

theorem test_fault_counts : (after (.faultEvent 100 false 0) service).pages.cyc.events.mem 100 = true := by decide
theorem test_pending_clear : (after (.pendingClear 100) (after (.faultEvent 100 false 0) service)).bit (Page.flt.base 1 + Off.fltStat + 0x10 * 36) 0
    = false := by decide
theorem test_sticky_zero : (after (.tampStickyClear 0) service).field 0x800C 23 16 = 0 := by decide

/-! ## Random numbers, replay -/

theorem test_reseed_starts : ((after (.drbgReseed 3) service).rng.insts.getD 3 Drbg.initial).reseeding = true := by decide
theorem test_capture_arms : (after (.captureWrite 0x80000003) tenant).pages.regs ≠ [] := by decide

/-! ## Tenants and the mailbox -/

theorem test_activate : ((after (.activate 3) (tenant.setVf 3 { Vf.initial with st := .created, rate := 1, burst := 2 })).vf 3).tokens
    = 32 := by decide
theorem test_drain : ((after (.drain 3) tenant).vf 3).st = .draining := by decide
theorem test_activate_active : (after (.activate 3) tenant).field (Page.vfm.base 3 + Off.vfmResult) 23 16 = 1 := by decide
theorem test_send : (after (.send 3) tenant).bit (vfmAt 3 Off.vfmMbCtrl) 2 = true := by decide
theorem test_vf_enable_clear : (after .vfEnableClear service).front.vfEnable = false := by decide

/-! ## Custody and the domain -/

theorem test_query : (after (.query 1) service).out.length = 1 := by decide
theorem test_close_maint : (after .closeMaint (service.mapCust fun c => { c with mode := .maintenance })).cust.mode = .service := by decide
theorem test_cancel_none : (after .cancel service).field 0x1400C 23 16 = 1 := by decide
/-- R575: CLOSE_MAINT in the cycle of the limit's expiry sets CLOSE_DONE and changes the mode no second time. -/
theorem test_close_maint_at_limit :
    let d := after .closeMaint (after .maintenanceLimitExpiry (service.mapCust fun c => { c with mode := .maintenance, maintEnd := some 9 }))
    (d.cust.mode == .service && d.bit (custAt Off.custCmd) 2 && d.field (custAt 0x0C) 23 16 == 0) = true := by decide
/-- ITEM_SEQ wraps (log entry 165). -/
theorem test_sequence_wraps : seqAfter 0xFFFFFFFE 1 = 3 ∧ seqSpan 0xFFFFFFFE 1 = 3 ∧ seqSpan 5 3 = 0 := by decide
/-- R322: a digest keeps its leftmost bits, as many as n has. -/
theorem test_digest_truncated : truncDigest 12 [0xAB, 0xCD, 0xEF] = [0x0A, 0xBC] ∧ truncDigest 32 [0xAB] = [0xAB] := by decide
/-- R664: with no chain healthy, sources 0 and 1 hold their causes. -/
theorem test_stop_causes : let d := after (.chainUnhealthy 0 true 800) (service.mapPower fun p => { p with active := 1 })
    (d.causes.mem 0 && d.causes.mem 1 && d.power.st == .stopping) = true := by decide
theorem test_leave_in_service : (after .leave service).field 0xC00C 23 16 = 1 := by decide
theorem test_unknown_message : (after (.unknownOlihildType 1 0x77) service).out.length = 1 := by decide
theorem test_zeroize_pin : (after .zeroizeNLow (service.mapTamp fun t => { t with armed := true })).tamp.line = true := by decide

/-! ## Witnesses of hypotheses -/

/-- BurntMemoriesStay. -/
theorem witness_in_form : service.inForm where
  staging := by decide
  rows := by decide
  below := by decide
  slots := by decide
  burn := fun _ _ h => by cases h
/-- ZeroizedUntilStartUp. -/
theorem witness_sealed : (service.mapCust fun c => { c with mode := .zeroized }).sealed := ⟨rfl, rfl⟩
/-- StickyClears, PoolWrites: no soft reset bars the write, and the page is not locked. -/
theorem witness_not_barred : service.writeBarred 0x8044 = false ∧ service.writeBarred 0x16040 = false ∧
    service.pageLocked 0x16040 = false := by decide

end Sys2Proof.Tests
end

section
/-! SUPPORT. Pool writes: what the registers of a pool take, and what they lose (12_tenancy.md R534 to R536). -/

namespace Sys2Proof.Machine

/-! ## Writes of RW fields -/

/-- Taken: the register is not barred, and its page is not locked (02_register_convention.md R41, R48, R51). -/
theorem Device.onWrite_of_taken (d : Device) (a : Nat) (f : Device → Device) (h : d.writeBarred a = false ∧ d.pageLocked a = false) :
    d.onWrite a f = f d := by
  obtain ⟨hb, hl⟩ := h
  simp [Device.onWrite, hb, hl]

theorem Device.onWrite_of_not_taken (d : Device) (a : Nat) (f : Device → Device)
    (h : ¬(d.writeBarred a = false ∧ d.pageLocked a = false)) : d.onWrite a f = d.writeLost a := by
  have hr : (d.writeBarred a || d.pageLocked a) = true := by simpa [← Bool.or_eq_false_iff] using h
  exact if_pos hr

theorem Device.regsBut_setReg (d : Device) (a v : Nat) : d.regsBut (d.setReg a v) [a] :=
  fun b hb => d.reg_setReg_ne a b v (List.ne_of_not_mem_cons hb)

theorem Device.regsBut_writeLost (d : Device) (a : Nat) : d.regsBut (d.writeLost a) [pageBase a + 0x0C] :=
  fun b hb => d.reg_writeLost_ne a b (List.ne_of_not_mem_cons hb)

/-! ## The registers of a pool -/

/-- The address of POOL_SHARE_p, or of POOL_SLOTS_p. -/
def poolAddr (p : Nat) (slots : Bool) : Nat := Page.mbx.base 0 + (if slots then Off.poolSlots else Off.poolShare) + 8 * p

theorem pageBase_poolAddr (p : Fin 8) (slots : Bool) : pageBase (poolAddr p slots) = Page.mbx.base 0 := by
  revert p slots; decide

/-- What w writes, with every other pool as it is, keeps the totals of R534 and leaves pool p the minima of its VFs (R535). -/
def Device.poolFits (d : Device) (p : Nat) (slots : Bool) (w : Nat) : Prop :=
  if slots then d.poolTotal p (w % 2 ^ 15) (·.2.2) ≤ 16384 ∧ (d.poolUse p none).2.2 ≤ w % 2 ^ 15
  else d.poolTotal p (w % 2 ^ 16) (·.1) ≤ 10000 ∧ d.poolTotal p (w / 2 ^ 16) (·.2.1) ≤ 10000 ∧
    (d.poolUse p none).1 ≤ w % 2 ^ 16 ∧ (d.poolUse p none).2.1 ≤ w / 2 ^ 16

/-! ## Pool writes -/

/-- POOL_WRITE of a page that takes writes, by the check that it makes. -/
theorem Device.poolWrite_of_taken (d : Device) (p : Nat) (slots : Bool) (w : Word)
    (h : d.writeBarred (poolAddr p slots) = false ∧ d.pageLocked (poolAddr p slots) = false) [Decidable (d.poolFits p slots w.toNat)] :
    d.poolWrite p slots w.toNat = if d.poolFits p slots w.toNat
      then d.setReg (poolAddr p slots) (if slots then w.toNat % 2 ^ 15 else w.toNat) else d.writeLost (poolAddr p slots) := by
  have hlow : ∀ v k, bitsOf v k 0 = v % 2 ^ (k + 1) := fun v k => by simp [bitsOf]
  have hhigh : bitsOf w.toNat 31 16 = w.toNat / 2 ^ 16 := Nat.mod_eq_of_lt (by have := w.isLt; omega)
  unfold Device.poolWrite
  refine (d.onWrite_of_taken (poolAddr p slots) _ h).trans ?_
  cases slots <;> simp only [Device.poolFits, poolAddr, hlow, hhigh, if_true, if_false, Bool.false_eq_true, decide_eq_true_eq, Nat.reduceAdd]

theorem Device.poolWrite_of_not_taken (d : Device) (p : Nat) (slots : Bool) (w : Nat)
    (h : ¬(d.writeBarred (poolAddr p slots) = false ∧ d.pageLocked (poolAddr p slots) = false)) :
    d.poolWrite p slots w = d.writeLost (poolAddr p slots) := by
  unfold Device.poolWrite
  exact d.onWrite_of_not_taken (poolAddr p slots) _ h

/-- A pool write that is lost counts in PAGE_STAT of the MBX page. -/
theorem Device.writeLost_poolAddr (d : Device) (p : Fin 8) (slots : Bool) :
    d.regsBut (d.writeLost (poolAddr p slots)) [Page.mbx.base 0 + 0x0C] ∧
    (d.writeLost (poolAddr p slots)).field (Page.mbx.base 0 + 0x0C) 23 16 = min 255 (d.field (Page.mbx.base 0 + 0x0C) 23 16 + 1) := by
  rw [← pageBase_poolAddr p slots, Nat.min_comm]
  exact ⟨d.regsBut_writeLost _, d.field_writeLost _⟩

/-- Settles O38: a write that is taken is decided by R534 and R535, and one that is not taken, or does not fit, is lost. -/
theorem poolWrites : Obligations.PoolWrites := by
  unfold Obligations.PoolWrites
  intro p slots w s
  classical
  refine ⟨{ s with dev := s.dev.poolWrite p slots w.toNat }, rfl, rfl, fun htaken hfits => ?_, fun htaken hfits => ?_, fun htaken => ?_⟩
  · have hdone := (s.dev.poolWrite_of_taken p slots w htaken).trans (if_pos hfits)
    exact ⟨hdone, hdone ▸ s.dev.regsBut_setReg _ _⟩
  · have hlost := (s.dev.poolWrite_of_taken p slots w htaken).trans (if_neg hfits)
    exact ⟨hlost, hlost ▸ s.dev.writeLost_poolAddr p slots⟩
  · exact s.dev.poolWrite_of_not_taken p slots w.toNat htaken

end Sys2Proof.Machine
end

section
/-! SUPPORT. Clears of TAMP_STICKY: where they are performed, which bits they leave, and what they lose (14_tamper.md R623). -/

namespace Sys2Proof.Machine

/-- A set filtered by a condition on its numbers. -/
theorem NatSet.mem_filter (s : NatSet) (p : Nat → Bool) (i : Nat) : NatSet.mem (s.filter fun e => p e.1) i = (s.mem i && p i) := by
  rw [Bool.eq_iff_iff]
  simp only [NatSet.mem, Table.has, List.any_filter, List.any_eq_true, Bool.and_eq_true, beq_iff_eq]
  constructor
  · rintro ⟨e, he, hp, rfl⟩
    exact ⟨⟨e, he, rfl⟩, hp⟩
  · rintro ⟨⟨e, he, rfl⟩, hp⟩
    exact ⟨e, he, hp, rfl⟩

theorem Device.onCommand_of_not_barred (d : Device) (a : Nat) (f : Device → Device) (h : d.writeBarred a = false) :
    d.onCommand a f = f d := by
  simp [Device.onCommand, h]

/-! ## The register -/

/-- The address of TAMP_STICKY. -/
def stickyAddr : Nat := Page.tamp.base 0 + Off.tampSticky

theorem pageBase_stickyAddr : pageBase stickyAddr = Page.tamp.base 0 := by decide

/-- The mode is CUSTODY or MAINTENANCE, and start-up has selected it. -/
def Device.inStickyMode (d : Device) : Prop := d.cust.selected = true ∧ (d.cust.mode = .custody ∨ d.cust.mode = .maintenance)

theorem Device.not_inStickyMode_iff (d : Device) :
    (!d.cust.selected || (d.cust.mode != .custody && d.cust.mode != .maintenance)) = true ↔ ¬d.inStickyMode := by
  simp [Device.inStickyMode, imp_iff_not_or]

/-- Bit i outlasts a write of v: v does not name it, its source is in condition, or hardware set it in this cycle (R37). -/
def Device.stickyStays (d : Device) (v i : Nat) : Bool :=
  !v.testBit i || d.tamp.cond.mem i || (d.pages.cyc.hwSet.get 0 stickyAddr).testBit i

/-! ## A write that is not barred -/

/-- TAMP_STICKY_CLEAR of a page that takes writes: nothing, a clear, or a lost write. -/
theorem Device.stickyClear_of_not_barred (d : Device) (v : Nat) (h : d.writeBarred stickyAddr = false) [Decidable d.inStickyMode] :
    d.stickyClear v = if v % 2 ^ 28 = 0 then d
      else if d.inStickyMode then d.mapTamp fun t => { t with sticky := t.sticky.filter fun e => d.stickyStays v e.1 }
      else d.writeLost stickyAddr := by
  unfold Device.stickyClear
  refine (d.onCommand_of_not_barred stickyAddr _ h).trans ?_
  simp only [d.not_inStickyMode_iff, ite_not]
  rfl

/-- A clear that is lost counts in PAGE_STAT of the TAMP page. -/
theorem Device.writeLost_stickyAddr (d : Device) :
    d.regsBut (d.writeLost stickyAddr) [Page.tamp.base 0 + 0x0C] ∧
    (d.writeLost stickyAddr).field (Page.tamp.base 0 + 0x0C) 23 16 = min 255 (d.field (Page.tamp.base 0 + 0x0C) 23 16 + 1) := by
  rw [← pageBase_stickyAddr, Nat.min_comm]
  exact ⟨d.regsBut_writeLost _, d.field_writeLost _⟩

/-- Settles O39: by the cases of a write that is not barred; a performed one filters the set of sticky bits. A write of zeros is
neither performed nor lost (log entry 127). -/
theorem stickyClears : Obligations.StickyClears := by
  unfold Obligations.StickyClears
  intro bits s
  classical
  refine ⟨{ s with dev := s.dev.stickyClear bits.toNat }, rfl, rfl, fun hfree => ?_⟩
  have hcases := s.dev.stickyClear_of_not_barred bits.toNat hfree
  refine ⟨fun hones hmode => ?_, fun hones hmode => ?_, fun hzeros => ?_⟩
  · have hdone := hcases.trans ((if_neg hones).trans (if_pos hmode))
    exact hdone ▸ ⟨rfl, s.dev.tamp.sticky.mem_filter (s.dev.stickyStays bits.toNat)⟩
  · have hlost := hcases.trans ((if_neg hones).trans (if_neg hmode))
    exact ⟨hlost, hlost ▸ s.dev.writeLost_tamp stickyAddr, hlost ▸ s.dev.writeLost_stickyAddr⟩
  · exact hcases.trans (if_pos (not_not.mp hzeros))

end Sys2Proof.Machine
end

section
/-! SUPPORT. The step and its commands, and the burnt memories at reset. -/

namespace Sys2Proof.Machine

/-- Settles O1: it is the second case of step. -/
theorem stepRunsFrontCommand : Obligations.StepRunsFrontCommand := fun _ _ _ => rfl

/-- Settles O2: every arm of exec ends in State.done. -/
theorem everyCommandAnswersNext : Obligations.EveryCommandAnswersNext := by
  unfold Obligations.EveryCommandAnswersNext
  intro c s
  cases c <;> exact ⟨_, rfl, rfl, trivial⟩

/-- Settles O36: the memories of the reset state are closed data. -/
theorem resetMemoryForms : Obligations.ResetMemoryForms := by
  unfold Obligations.ResetMemoryForms
  refine ⟨⟨by decide, by decide, by decide, by decide, fun _ _ h => by cases h⟩, rfl, rfl, rfl, rfl, rfl, ?_⟩
  decide

end Sys2Proof.Machine
end

section
/-! SUPPORT. The burnt memories: every step keeps their form, and nothing burnt is changed (14_tamper.md R627;
16_power_clocks_startup.md R679 to R694; 04_tide_tables.md R146). -/

namespace Sys2Proof.Machine

/-- From the form of the guarded memories in d: t has it too, and everything burnt in d stands in t. -/
def Device.keepsBurnt (d t : Device) : Prop := d.inForm → t.inForm ∧ d.burntStays t

/-! ## Steps that leave the guarded memories alone, and runs of steps -/

theorem Device.keepsBurnt_of_guarded {d t : Device} (h : t.guarded = d.guarded) : d.keepsBurnt t := by
  obtain ⟨hotp, hburn, hrows, hnext, hstaging⟩ := Guarded.mk.inj h
  intro hf
  refine ⟨⟨hstaging ▸ hf.staging, hrows ▸ hf.rows, ?_, hotp ▸ hf.slots, ?_⟩, ?_, ?_⟩
  · rw [hrows, hnext]; exact hf.below
  · rw [hburn]; intro g n hb
    simpa only [Power.blank, Power.slotBytes, hotp] using hf.burn g n hb
  · rw [hrows]; exact fun _ _ => id
  · intro g n _ _
    simp only [Power.slotBytes, hotp]

theorem Device.keepsBurnt.trans {d e t : Device} (h : d.keepsBurnt e) (h' : e.keepsBurnt t) : d.keepsBurnt t := by
  intro hf
  obtain ⟨he, hrows, hslots⟩ := h hf
  obtain ⟨ht, hrows', hslots'⟩ := h' he
  refine ⟨ht, fun k r hr => hrows' k r (hrows k r hr), fun g n hn hb => ?_⟩
  have hsame := hslots g n hn hb
  have hbe : e.power.blank g n = false := by simpa only [Power.blank, hsame] using hb
  exact (hslots' g n hn hbe).trans hsame

theorem Device.keepsBurnt.guarded {d e t : Device} (h : d.keepsBurnt e) (hg : t.guarded = e.guarded) : d.keepsBurnt t :=
  h.trans (Device.keepsBurnt_of_guarded hg)

/-! ## The settings antifuse -/

/-- Slots are numbered group by group, four to a group. -/
theorem slotKey_inj {g n g' n' : Nat} (hn : n < 4) (hn' : n' < 4) (h : 4 * g' + n' = 4 * g + n) : g' = g ∧ n' = n := by omega

/-- A blank slot that takes bytes, with no burn running after it. -/
theorem Device.keepsBurnt_burntSlot {d t : Device} {g n : Nat} {b : Bytes} (hburn : d.power.burn = some (g, n))
    (hget : ∀ k, t.power.otp.get (zeros 64) k = if k = 4 * g + n then b else d.power.otp.get (zeros 64) k)
    (hslots : (d.power.otp.map Prod.fst).Pairwise (· < ·) → (t.power.otp.map Prod.fst).Pairwise (· < ·))
    (hend : t.power.burn = none) (hrows : t.tamp.rows = d.tamp.rows) (hnext : t.tamp.nextRow = d.tamp.nextRow)
    (hstaging : d.inForm → Table.wf 0 t.units.staging) : d.keepsBurnt t := by
  intro hf
  obtain ⟨hn, hblank⟩ := hf.burn g n hburn
  refine ⟨⟨hstaging hf, hrows ▸ hf.rows, ?_, hslots hf.slots, ?_⟩, ?_, ?_⟩
  · rw [hrows, hnext]; exact hf.below
  · rw [hend]; intro _ _ h; cases h
  · rw [hrows]; exact fun _ _ => id
  · intro g' n' hn' hb'
    have hne : 4 * g' + n' ≠ 4 * g + n := fun h => by
      obtain ⟨rfl, rfl⟩ := slotKey_inj hn hn' h
      simp [hblank] at hb'
    simp only [Power.slotBytes, hget, if_neg hne]

/-- The next slot of a group, where it is one of the four, is blank. -/
theorem Power.blank_nextSlot (p : Power) (g : Nat) (h : p.nextSlot g ≤ 3) : p.blank g (p.nextSlot g) = true := by
  unfold Power.nextSlot at h ⊢
  simp only [List.find?]
  simp only [List.find?] at h
  cases h3 : p.blank g 3 <;> cases h2 : p.blank g 2 <;> cases h1 : p.blank g 1 <;> cases h0 : p.blank g 0 <;> simp_all

theorem Device.nextSlot_of_not_refused (d : Device) (g : Nat) (h : d.burnRefused g = none) : d.power.nextSlot g ≤ 3 := by
  unfold Device.burnRefused at h
  by_contra hgt
  simp [Nat.lt_of_not_le hgt] at h
  grind

/-- BURN: refused, or a burn of the next slot begins. -/
theorem Device.keepsBurnt_burn (d : Device) : d.keepsBurnt d.burn := by
  unfold Device.burn Device.onIdle Device.onCommand
  dsimp only
  split
  · exact d.keepsBurnt_of_guarded (guarded_writeLost _ _)
  split
  · exact d.keepsBurnt_of_guarded rfl
  split
  · exact d.keepsBurnt_of_guarded (guarded_writeLost _ _)
  split
  · exact d.keepsBurnt_of_guarded (by simp)
  next hfree =>
    refine (d.keepsBurnt_of_guarded (guarded_commandStart _ _ _)).trans fun hf => ⟨⟨hf.staging, hf.rows, hf.below, hf.slots, ?_⟩,
      fun _ _ => id, fun _ _ _ _ => rfl⟩
    intro g n hb
    obtain ⟨rfl, rfl⟩ := Prod.mk.inj (Option.some.inj hb)
    have hle := d.nextSlot_of_not_refused _ hfree
    have hp : (d.commandStart (otpAt Off.otpCmd) 0).power = d.power := by simp
    exact ⟨by rw [hp]; omega, by simpa only [Device.mapPower_power, hp, Power.blank, Power.slotBytes] using d.power.blank_nextSlot _ hle⟩

/-- BURN_END: the slot that is being burnt takes its bytes. -/
theorem Device.keepsBurnt_burnEnd (d : Device) (ok : Bool) : d.keepsBurnt (d.burnEnd ok) := by
  unfold Device.burnEnd
  dsimp only
  split
  · exact d.keepsBurnt_of_guarded rfl
  next g n hburn =>
    split
    · exact d.keepsBurnt_of_guarded rfl
    refine (d.keepsBurnt_burntSlot (t := d.mapPower fun p => { p with
      burn := none, otp := p.otp.insert (4 * g + n) (otpSlot g n d.stagedData ok) }) hburn
      (fun k => Table.get_insert _ _ _ _ _) (Table.rising_insert _ _ _) rfl rfl rfl fun hf => hf.staging).guarded ?_
    split <;> simp

/-! ## The tamper log -/

/-- A value found for a key is listed with it. -/
theorem Table.mem_of_find? {α : Type} {m : Table α} {k : Nat} {v : α} (h : m.find? k = some v) : (k, v) ∈ m := by
  induction m with
  | nil => cases h
  | cons e m ih =>
    obtain ⟨j, w⟩ := e
    by_cases hk : j = k
    · subst hk
      simp only [Table.find?, if_true, Option.some.injEq] at h
      exact h ▸ List.mem_cons_self
    · exact List.mem_cons_of_mem _ (ih (by simpa only [Table.find?, if_neg hk] using h))

/-- A row written at the next row. -/
theorem Device.keepsBurnt_row (d : Device) (row : Row) (f : Tamper → Tamper)
    (hrows : (f d.tamp).rows = d.tamp.rows.insert d.tamp.nextRow row) (hnext : (f d.tamp).nextRow = d.tamp.nextRow + 1) :
    d.keepsBurnt (d.mapTamp f) := by
  intro hf
  have hrows' : (d.mapTamp f).tamp.rows = d.tamp.rows.insert d.tamp.nextRow row := hrows
  have hnext' : (d.mapTamp f).tamp.nextRow = d.tamp.nextRow + 1 := hnext
  refine ⟨⟨hf.staging, hrows' ▸ Table.rising_insert _ _ _ hf.rows, ?_, hf.slots, hf.burn⟩, ?_, fun _ _ _ _ => rfl⟩
  · rw [hrows', hnext']
    intro e he
    obtain rfl | hold := Table.mem_insert _ _ _ _ he
    · exact Nat.lt_succ_self _
    · exact Nat.lt_succ_of_lt (hf.below e hold)
  · intro k r hr
    have hmem := Table.mem_of_find? hr
    have hne : k ≠ d.tamp.nextRow := Nat.ne_of_lt (hf.below _ hmem)
    rw [hrows', Table.find?_insert, if_neg hne, hr]

/-- LOG_ROW_BURNT: the next row. -/
theorem Device.keepsBurnt_rowBurnt (d : Device) (torn : Bool) : d.keepsBurnt (d.rowBurnt torn) := by
  unfold Device.rowBurnt
  dsimp only
  split
  · exact d.keepsBurnt_of_guarded rfl
  next r _ =>
    split
    · exact d.keepsBurnt_of_guarded rfl
    refine (d.keepsBurnt_row (if torn then .torn else .burnt r) (fun t => { t with
      burning := none, rows := t.rows.insert t.nextRow (if torn then .torn else .burnt r), nextRow := t.nextRow + 1 }) rfl rfl).guarded ?_
    have hfree : ∀ e : Device, (e.mapTamp fun t => t.freeEntry r).guarded = e.guarded := fun e =>
      guarded_mapTamp e _ (by unfold Tamper.freeEntry; split_ifs <;> exact ⟨rfl, rfl⟩)
    split_ifs <;> simp [hfree]

/-! ## The staging window -/

/-- Bytes put one after the other into the window leave it canonical. -/
theorem Table.wf_putBytes (l : List (Byte × Nat)) (off : Nat) (m : Table Byte) (h : Table.wf 0 m) :
    Table.wf 0 (l.foldl (fun t e => t.put 0 (off + e.2) e.1) m) := by
  induction l generalizing m with
  | nil => exact h
  | cons e l ih => exact ih _ (Table.wf_put 0 m _ _ h)

/-- Bytes written into the window. -/
theorem Device.keepsBurnt_window (d : Device) (l : List (Byte × Nat)) (off : Nat) :
    d.keepsBurnt (d.mapUnits fun u => { u with staging := l.foldl (fun t e => t.put 0 (off + e.2) e.1) u.staging }) :=
  fun hf => ⟨⟨Table.wf_putBytes l off _ hf.staging, hf.rows, hf.below, hf.slots, hf.burn⟩, fun _ _ => id, fun _ _ _ _ => rfl⟩

theorem Device.keepsBurnt_stage (d : Device) (off : Nat) (data : Bytes) : d.keepsBurnt (d.stage off data) := by
  unfold Device.stage
  dsimp only
  split
  · exact d.keepsBurnt_window _ _
  · exact d.keepsBurnt_of_guarded rfl

/-- TABLE_APPROVE puts its blocks behind the image. -/
theorem Device.keepsBurnt_tableApprove (d : Device) : d.keepsBurnt d.tableApprove := by
  unfold Device.tableApprove Device.atEnd
  split
  · dsimp only
    split
    · exact d.keepsBurnt_of_guarded (by simp)
    · exact ((d.keepsBurnt_of_guarded (t := (d.drawnFor 64).drawnFor 64) (by simp)).trans
        (Device.keepsBurnt_window _ _ _)).guarded (guarded_endCeremony _ _ _)
  · exact d.keepsBurnt_of_guarded rfl

/-! ## START_UP -/

/-- Power returns: a burn that was cut leaves what was found in its slot, and the staging window is cleared. -/
theorem Device.keepsBurnt_powerOn (d : Device) (f : StartFacts) : d.keepsBurnt (d.powerOn f) := by
  have hwindow : d.inForm → Table.wf 0 (d.powerOn f).units.staging := fun _ => Table.wf_nil 0
  cases hburn : d.power.burn with
  | none =>
    have hp : d.power.afterCut d.stagedData f.cutSlot = d.power := by simp [Power.afterCut, hburn]
    have hotp : (d.powerOn f).power.otp = d.power.otp := (rfl : _ = (d.power.afterCut d.stagedData f.cutSlot).otp).trans (congrArg Power.otp hp)
    have hend : (d.powerOn f).power.burn = none := (congrArg Power.burn hp).trans hburn
    intro hf
    refine ⟨⟨hwindow hf, hf.rows, hf.below, hotp ▸ hf.slots, ?_⟩, fun _ _ => id, fun g n _ _ => ?_⟩
    · rw [hend]; intro _ _ h; cases h
    · simp only [Power.slotBytes, hotp]
  | some c =>
    obtain ⟨g, n⟩ := c
    have hp : d.power.afterCut d.stagedData f.cutSlot = { d.power with
        burn := none, otp := d.power.otp.put (zeros 64) (4 * g + n) (cutSlot g n d.stagedData f.cutSlot) } := by
      simp [Power.afterCut, hburn]
    have hotp : (d.powerOn f).power.otp = d.power.otp.put (zeros 64) (4 * g + n) (cutSlot g n d.stagedData f.cutSlot) :=
      congrArg Power.otp hp
    refine d.keepsBurnt_burntSlot (b := cutSlot g n d.stagedData f.cutSlot) hburn (fun k => ?_) (fun h => ?_) (congrArg Power.burn hp) rfl rfl hwindow
    · rw [hotp]; exact Table.get_put _ _ _ _ _
    · rw [hotp]; unfold Table.put
      split
      · exact Table.rising_filter _ _ h
      · exact Table.rising_insert _ _ _ h

/-- The row that power loss cut. -/
theorem Device.keepsBurnt_cutRow (d : Device) (was : Option TampRec) (kind : Nat) : d.keepsBurnt (d.cutRow was kind) := by
  unfold Device.cutRow
  dsimp only
  split
  · exact d.keepsBurnt_of_guarded rfl
  next r =>
    split
    · exact d.keepsBurnt_of_guarded rfl
    refine (d.keepsBurnt_row (if kind = 1 then .torn else .burnt r) (fun t => { t with
      rows := t.rows.insert t.nextRow (if kind = 1 then .torn else .burnt r), nextRow := t.nextRow + 1 }) rfl rfl).guarded ?_
    split <;> simp

/-- Without a root nothing of the store is kept, and the units start afresh: the staging window is empty. -/
theorem Device.keepsBurnt_forgetStore (d : Device) : d.keepsBurnt d.forgetStore :=
  fun hf => ⟨⟨Table.wf_nil 0, hf.rows, hf.below, hf.slots, hf.burn⟩, fun _ _ => id, fun _ _ _ _ => rfl⟩

/-- START_UP: power returns, the row that was cut is settled, and nothing after that touches the burnt memories. -/
theorem Device.keepsBurnt_startUp (d : Device) (f : StartFacts) : d.keepsBurnt (d.startUp f) := by
  unfold Device.startUp
  split
  · exact d.keepsBurnt_of_guarded rfl
  extract_lets us span was d1 d2 d3 d4 d5 d6 d7 d8 d9 d10 d11 e1 e2 d12 d13 shown d14
  have hspan : ∀ x n, (span x n).guarded = x.guarded := fun x n => by simp [span]
  have h2 : d.keepsBurnt d2 := ((d.keepsBurnt_powerOn f).guarded (by simp [d1])).trans (Device.keepsBurnt_cutRow _ _ _)
  have h11 : d11.guarded = d2.guarded := by simp [d11, d10, d9, d8, d7, d6, d5, d4, d3, hspan]
  have h12 : d11.keepsBurnt d12 := by
    have he1 : e1.guarded = d11.guarded := by simp [e1, hspan]
    have he2 : e2.guarded = e1.guarded := by simp [e2]
    simp only [d12]
    split
    · exact d11.keepsBurnt_of_guarded (by simp [he2, he1])
    · exact d11.keepsBurnt_forgetStore
  have h14 : d14.guarded = d12.guarded := by simp [d14, shown, d13]
  exact ((h2.guarded h11).trans h12).guarded (by simp [h14])

/-! ## Register writes -/

theorem Device.keepsBurnt_lostOnce (d : Device) (a : Nat) (f : Device → Device) (h : d.keepsBurnt (f d)) :
    d.keepsBurnt (d.lostOnce a f) := by
  refine h.guarded ?_
  unfold Device.lostOnce
  dsimp only
  split <;> simp

/-- A write of the OTP page: BURN is the one command that reaches the burnt memories. -/
theorem Device.keepsBurnt_writeOtp (d : Device) (a v : Nat) : d.keepsBurnt (d.writeOtp a v) := by
  unfold Device.writeOtp Device.onBit
  split
  · have hfields := d.keepsBurnt_of_guarded (guarded_writeFields d .otp 0 a v)
    split
    · exact hfields.trans (Device.keepsBurnt_burn _)
    · exact hfields
  · exact d.keepsBurnt_of_guarded (by split <;> simp)

theorem Device.keepsBurnt_performWrite (d : Device) (p : Page) (n cls a v : Nat) : d.keepsBurnt (d.performWrite p n cls a v) := by
  unfold Device.performWrite
  split
  · exact d.keepsBurnt_of_guarded (guarded_writePageHeader _ _ _ _ _ _)
  cases p
  case otp => exact d.keepsBurnt_writeOtp a v
  all_goals exact d.keepsBurnt_of_guarded (by simp)

theorem Device.keepsBurnt_registerWrite (d : Device) (cls a : Nat) (be : BitVec 4) (v : Nat) :
    d.keepsBurnt (d.registerWrite cls a be v) := by
  have hreg : ∀ p n, d.keepsBurnt (d.lostOnce a fun d => d.performWrite p n cls a v) := fun p n =>
    d.keepsBurnt_lostOnce a _ (d.keepsBurnt_performWrite p n cls a v)
  unfold Device.registerWrite
  dsimp only
  split
  · exact d.keepsBurnt_of_guarded rfl
  · exact d.keepsBurnt_of_guarded (by simp)
  · split
    · exact d.keepsBurnt_of_guarded rfl
    split
    · exact d.keepsBurnt_of_guarded (by simp)
    split
    · split
      · exact d.keepsBurnt_of_guarded (guarded_writeLost _ _)
      · exact hreg _ _
    · exact d.keepsBurnt_of_guarded rfl

/-! ## Every step -/

/-- Every command keeps the form and what is burnt: seven reach the burnt memories, every other one leaves them alone. -/
theorem keepsBurnt_exec (c : Instr) (s t : State) (h : exec c s = .next t) : s.dev.keepsBurnt t.dev := by
  cases c
  case stagingWindowWrite off data => cases h; exact Device.keepsBurnt_stage _ _ _
  case burn => cases h; exact Device.keepsBurnt_burn _
  case burnEnd ok => cases h; exact Device.keepsBurnt_burnEnd _ _
  case logRowBurnt torn => cases h; exact Device.keepsBurnt_rowBurnt _ _
  case tableApprove => cases h; exact Device.keepsBurnt_tableApprove _
  case registerWrite cls a be v => cases h; exact Device.keepsBurnt_registerWrite _ _ _ _ _
  case startUp f => cases h; exact Device.keepsBurnt_startUp _ _
  case keyRotate n =>
    cases h
    refine Device.keepsBurnt_of_guarded (guarded_stageSerial _ _ _ _ _ fun x y => ?_)
    split
    · rfl
    · split
      · rfl
      · split <;> rfl
  case publicKeyExport n =>
    cases h
    refine Device.keepsBurnt_of_guarded (guarded_stageRun _ _ _ _ fun x y => ?_)
    split
    · rfl
    · dsimp only; split <;> rfl
  case serviceBundle n =>
    cases h
    refine Device.keepsBurnt_of_guarded ?_
    dsimp only
    split
    · split <;> simp
    · rfl
  all_goals
    cases h
    exact Device.keepsBurnt_of_guarded (by simp)

/-- Settles O35: an idle step touches no memory, and every command keeps the form and what is burnt. -/
theorem burntMemoriesStay : Obligations.BurntMemoriesStay := by
  unfold Obligations.BurntMemoriesStay
  intro s t hform hstep
  unfold step at hstep
  split at hstep
  · cases hstep
    exact Device.keepsBurnt_of_guarded (guarded_passCycle s.dev) hform
  next c cs _ => exact keepsBurnt_exec c { s with pending := cs } t hstep hform

end Sys2Proof.Machine
end

section
/-! SUPPORT. ZEROIZED with no ceremony open: every step but START_UP keeps it (13_modes_custody.md R572). -/

namespace Sys2Proof.Machine

/-- Every command but START_UP keeps ZEROIZED with no ceremony open: the rules of the operations that it is made of do. -/
theorem sealed_exec (c : Instr) (s t : State) (hs : s.dev.sealed) (hc : ∀ f, c ≠ .startUp f) (h : exec c s = .next t) :
    t.dev.sealed := by
  cases c
  case startUp f => exact absurd rfl (hc f)
  case keyRotate n =>
    cases h
    refine sealed_stageSerial _ _ _ _ _ hs fun d x hd => ?_
    split
    · exact hd
    · split
      · exact hd
      · split <;> exact hd
  case publicKeyExport n =>
    cases h
    refine sealed_stageRun _ _ _ _ hs fun d x hd => ?_
    split
    · exact hd
    · dsimp only; split <;> exact hd
  case serviceBundle n =>
    cases h
    dsimp only
    split
    · split
      · exact sealed_settle _ _ hs
      · exact hs
    · exact hs
  all_goals
    cases h
    simp +contextual (maxDischargeDepth := 60) [hs]

/-- Settles O37: an idle step keeps the custody state, and every command but START_UP keeps ZEROIZED. -/
theorem zeroizedUntilStartUp : Obligations.ZeroizedUntilStartUp := by
  unfold Obligations.ZeroizedUntilStartUp
  intro s t hs hfront hstep
  unfold step at hstep
  split at hstep
  · cases hstep
    exact sealed_passCycle s.dev hs
  next c cs hpending =>
    refine sealed_exec c { s with pending := cs } t hs (fun f hf => hfront f ?_) hstep
    simp [hpending, hf]

end Sys2Proof.Machine
end

section
/-! SUPPORT. Register accesses: reserved offsets, reads, SNAP, the interrupt registers, MSI-X tables and violations
(01_architecture.md R27 to R30; 02_register_convention.md R34 to R58; 19_interconnect_access.md R744). -/

namespace Sys2Proof.Machine

/-! ## Lost writes -/

/-- Settles O4: WRITE_LOST is a saturating field of the page. -/
theorem writeLostCounts : Obligations.WriteLostCounts := by
  unfold Obligations.WriteLostCounts
  exact fun d a => ⟨d.field_writeLost a, fun b hb => d.reg_writeLost_ne a b (List.ne_of_not_mem_cons hb), rfl⟩

/-- A write of RW fields of a register that is barred, or whose page is locked (R41, R48, R51). -/
theorem Device.onWrite_of_lost (d : Device) (a : Nat) (f : Device → Device)
    (h : d.writeBarred a = true ∨ d.pageLocked a = true) : d.onWrite a f = d.writeLost a :=
  if_pos (Bool.or_eq_true_iff.mpr h)

theorem Device.onWrite_of_not_lost (d : Device) (a : Nat) (f : Device → Device)
    (h : ¬(d.writeBarred a = true ∨ d.pageLocked a = true)) : d.onWrite a f = f d :=
  if_neg fun h' => h (Bool.or_eq_true_iff.mp h')

/-! ## Reserved offsets -/

theorem Device.vf_setVf (d : Device) (v : Nat) (x : Vf) : (d.setVf v x).vf v = x := by
  unfold Device.vf Device.setVf
  rw [Device.mapFront_front, Table.get_put, if_pos rfl]

theorem Device.vf_setVf_ne (d : Device) (v w : Nat) (x : Vf) (h : w ≠ v) : (d.setVf v x).vf w = d.vf w := by
  unfold Device.vf Device.setVf
  rw [Device.mapFront_front, Table.get_put, if_neg h]

@[simp] theorem Device.vf_emit (d : Device) (o : Output) (v : Nat) : (d.emit o).vf v = d.vf v := rfl

@[simp] theorem Device.vf_fault (d : Device) (src v : Nat) : (d.fault src).vf v = d.vf v := by
  unfold Device.vf
  rw [Device.fault_front_vfs]

theorem Device.dropAccess_210 (d : Device) (v : Nat) :
    d.dropAccess v 210 = (d.fault 210).setVf v { d.vf v with unmapped := (d.vf v).unmapped + 1 } := by
  unfold Device.dropAccess
  simp

theorem Device.unmapped_of_not_here (d : Device) (a : Nat) (write : Bool)
    (h : ¬(d.reserved a = true ∧ ∀ v, vfAt a = some v → d.exposed v = true)) : d.unmapped a write = d := by
  unfold Device.unmapped
  cases hv : vfAt a with
  | none => simp_all
  | some v => simp_all

/-- At a reserved offset the event counts, inside a VF BAR0 against the VF too, and a read is answered with zero. -/
theorem Device.unmapped_of_here (d : Device) (a : Nat) (write : Bool)
    (hr : d.reserved a = true) (hx : ∀ v, vfAt a = some v → d.exposed v = true) :
    d.unmapped a write =
      let d1 := match vfAt a with | some v => d.dropAccess v 210 | none => d.fault 210
      if write then d1 else d1.emit (.value (if (vfAt a).isSome then 1 else 0) a 0) := by
  unfold Device.unmapped
  cases hv : vfAt a with
  | none => simp [hr]
  | some v => simp [hr, hx v hv]

/-- Settles O5: by the case of an offset that is reserved in a BAR that is there; inside a VF BAR0 the VF's count rises as well. -/
theorem unmappedAccess : Obligations.UnmappedAccess := by
  unfold Obligations.UnmappedAccess
  intro a write s
  refine does_of (s.dev.unmapped a write) rfl ?_
  split
  next h =>
    rw [s.dev.unmapped_of_here a write h.1 h.2]
    have hread : ∀ (d : Device) (cls : Nat), ∃ c, (d.emit (.value cls a 0)).gave (.sent (.value c a 0)) :=
      fun d cls => ⟨cls, gave_emit_self d _⟩
    cases hv : vfAt a with
    | none => cases write <;> simp [hread]
    | some v => cases write <;> simp [Device.dropAccess_210, Device.vf_setVf, hread]
  next h => exact s.dev.unmapped_of_not_here a write h

/-! ## Reads -/

/-- A read that captures changes the captures alone. -/
theorem Device.capture_eq (d : Device) (cls a : Nat) : ∃ h, d.capture cls a = d.mapPages fun x => { x with hiCap := h } := by
  unfold Device.capture
  split
  · exact ⟨d.pages.hiCap, rfl⟩
  · dsimp only
    split
    · exact ⟨d.pages.hiCap, rfl⟩
    · exact ⟨_, rfl⟩

/-- A _LO register past the header, on a page that is not being reset, captures its partner. -/
theorem Device.capture_lo (d : Device) (cls a : Nat) (p : Page) (n : Nat) (hp : pageAt a = some (p, n))
    (hlo : p.loAt n (a % 0x1000) = true) (hoff : 0x40 ≤ a % 0x1000) (hr : d.pageResetting a = false) :
    (d.capture cls a).pages.hiCap.get 0 (classKey cls (a + 4)) = BitVec.ofNat 32 (d.shown (a + 4)) := by
  have hpast : ¬a % 0x1000 < 0x40 := Nat.not_lt.mpr hoff
  simp [Device.capture, hp, hlo, hr, hpast, Table.get_put]

/-- What is read and cleared: nothing, or the register. -/
theorem Device.readClear_cases (d : Device) (a : Nat) :
    (rcAt a = true ∧ d.pageResetting a = false ∧ d.pages.cyc.rcOld.has a = false ∧ d.readClear a = d.setReg a 0) ∨
    (¬(rcAt a = true ∧ d.pageResetting a = false ∧ d.pages.cyc.rcOld.has a = false) ∧ d.readClear a = d) := by
  unfold Device.readClear
  cases rcAt a <;> cases d.pageResetting a <;> cases d.pages.cyc.rcOld.has a <;> simp

/-- A read that the access table performs, at a register that exists. -/
theorem Device.readReg_register (d : Device) (cls a : Nat) (hreach : d.reach cls 0 a = .performed)
    (hb : behindPages cls (a / 4 * 4) = false) (hr : d.reserved (a / 4 * 4) = false) (hw : windowAt (a / 4 * 4) = false) :
    d.readReg cls a = ((d.capture cls (a / 4 * 4)).readClear (a / 4 * 4)).emit
      (.value cls a (d.readResult cls (a / 4 * 4) / 256 ^ (a % 4))) := by
  simp [Device.readReg, hreach, hb, hr, hw, narrow]

/-- What is sent after a change of the registers alone. -/
theorem Device.emit_frame {d t : Device} {o : Output} (h : t = { d with pages := t.pages }) :
    t.emit o = { d with pages := (t.emit o).pages, out := (t.emit o).out } := by
  obtain ⟨p, rfl⟩ : ∃ p, t = { d with pages := p } := ⟨_, h⟩
  rfl

/-- What a read of a register leaves: the register itself cleared where it has RC fields, the capture, and all else. -/
theorem Device.readEffect (d : Device) (cls r : Nat) : let t := (d.capture cls r).readClear r
    d.regsBut t [r] ∧ (rcAt r = false → t.reg r = d.reg r) ∧
    (rcAt r = true → d.pageResetting r = false → d.pages.cyc.rcOld.has r = false → ∀ i, i < 32 → t.bit r i = false) ∧
    t.pages.hiCap = (d.capture cls r).pages.hiCap ∧ t = { d with pages := t.pages } := by
  obtain ⟨h, hc⟩ := d.capture_eq cls r
  rw [hc]
  obtain ⟨hrc, hres, hold, heq⟩ | ⟨hnot, heq⟩ := Device.readClear_cases (d.mapPages fun x => { x with hiCap := h }) r
  · dsimp only
    rw [heq]
    refine ⟨fun b hb => Device.reg_setReg_ne _ r b 0 (List.ne_of_not_mem_cons hb), fun hn => ?_, fun _ _ _ i hi => ?_, rfl, rfl⟩
    · rw [hrc] at hn; cases hn
    · rw [Device.bit_setReg _ _ _ _ hi, Nat.zero_testBit]
  · dsimp only
    rw [heq]
    exact ⟨fun _ _ => rfl, fun _ => rfl, fun h1 h2 h3 => absurd ⟨h1, h2, h3⟩ hnot, rfl, rfl⟩

/-- Settles O6: by the reach of the read and what stands at the offset. -/
theorem registerRead : Obligations.RegisterRead := by
  unfold Obligations.RegisterRead
  intro cls a clear s
  refine does_of (s.dev.readReg cls a) (by cases clear <;> rfl) ?_
  extract_lets r there
  refine ⟨?_, fun h => ?_, ?_, ?_⟩
  · rintro (h | ⟨h, hb⟩)
    · simp [Device.readReg, h]
    · have hb' : behindPages cls (a / 4 * 4) = true := hb
      simp [Device.readReg, h, hb']
  · simp [Device.readReg, h]
  · rintro ⟨h, hb, hr⟩ hw
    have hb' : behindPages cls (a / 4 * 4) = false := hb
    have hr' : s.dev.reserved (a / 4 * 4) = false := hr
    have hw' : windowAt (a / 4 * 4) = true := hw
    simp [Device.readReg, h, hb', hr', hw', narrow, r]
  · rintro ⟨h, hb, hr⟩ hw
    obtain ⟨hregs, hkept, hcleared, hcap, hframe⟩ := s.dev.readEffect cls r
    rw [s.dev.readReg_register cls a h hb hr hw]
    refine ⟨gave_emit_self _ _, hregs, hkept, hcleared, fun p n hp hlo hoff hres => ?_, ?_⟩
    · exact (congrArg (fun c => Table.get 0 c (classKey cls (r + 4))) hcap).trans (s.dev.capture_lo cls r p n hp hlo hoff hres)
    · exact Device.emit_frame hframe

/-! ## SNAP -/

theorem Table.get_put_ne {α : Type} [DecidableEq α] (d : α) (m : Table α) (k j : Nat) (v : α) (h : j ≠ k) :
    (m.put d k v).get d j = m.get d j := by rw [Table.get_put, if_neg h]

/-- Settles O7: a hold is a write of RW kind at the page's address. -/
theorem snapHold : Obligations.SnapHold := by
  unfold Obligations.SnapHold
  intro cls b hold s
  refine does_of (s.dev.snapHold cls b hold) rfl ⟨fun h => ?_, fun hp hb hreach => ?_⟩
  · obtain h | h := h <;> simp [Device.snapHold, h]
  · have heq : s.dev.snapHold cls b hold = s.dev.snapWrite cls b hold := by
      have hsome : (pageAt b).isNone = false := by simpa using hp
      simp [Device.snapHold, hsome, hb, hreach]
    rw [heq]
    unfold Device.snapWrite
    split
    next hlost => exact s.dev.onWrite_of_lost b _ hlost
    next htaken =>
      rw [s.dev.onWrite_of_not_lost b _ htaken]
      refine ⟨?_, fun k hk => Table.get_put_ne _ _ _ _ _ hk, fun a => rfl, rfl⟩
      exact (Table.get_put _ _ _ _ _).trans (if_pos rfl)

/-! ## The interrupt registers -/

theorem pageBase_of_aligned {b k : Nat} (hb : b % 0x1000 = 0) (hk : k < 0x1000) : pageBase (b + k) = b := by
  unfold pageBase; omega

/-- A message that is sent goes out, or stays pending on its entry (R44). -/
theorem Device.sendMsix_shown (d : Device) (fn v : Nat) : (d.sendMsix fn v).gave (.sent (.msix fn v)) ∨
    ((d.sendMsix fn v).front.msix.get Msix.initial (msixKey fn v)).pending = true := by
  unfold Device.sendMsix
  dsimp only
  split
  · right
    rw [Device.mapFront_front, Table.get_put, if_pos rfl]
  · exact .inl (gave_emit_self _ _)

/-- The message of a page that is there. -/
theorem Device.signalPage_of_page (d : Device) (b : Nat) (p : Page) (n : Nat) (h : pageAt b = some (p, n)) :
    d.signalPage b = d.sendMsix (match p.vector with | some _ => 0 | none => n + 1) (match p.vector with | some k => k | none => 64) := by
  unfold Device.signalPage
  rw [h]
  cases hv : p.vector <;> simp only [hv]

@[simp] theorem Device.reg_signalAgain (d : Device) (b a : Nat) : (d.signalAgain b).reg a = d.reg a := by
  unfold Device.signalAgain; split <;> simp

theorem Device.bit_signalAgain (d : Device) (b a i : Nat) : (d.signalAgain b).bit a i = d.bit a i := by
  unfold Device.bit; rw [Device.reg_signalAgain]

theorem Device.onlyRegs_signalAgain {d t : Device} (b : Nat) (h : d.onlyRegs t) : d.onlyRegs (t.signalAgain b) := by
  unfold Device.signalAgain; split
  · exact h
  · exact Device.onlyRegs_signalPage d t b h

/-- While INT_STAT is nonzero, signalling again sends the page's message. -/
theorem Device.signalAgain_shown (d : Device) (b : Nat) (p : Page) (n : Nat) (h : pageAt b = some (p, n))
    (hs : (d.signalAgain b).intStat b ≠ 0) :
    let fn := match p.vector with | some _ => 0 | none => n + 1
    let vec := match p.vector with | some k => k | none => 64
    (d.signalAgain b).gave (.sent (.msix fn vec)) ∨ ((d.signalAgain b).front.msix.get Msix.initial (msixKey fn vec)).pending = true := by
  have hstat : d.intStat b ≠ 0 := by
    unfold Device.intStat at hs ⊢
    simpa using hs
  have heq : d.signalAgain b = d.signalPage b := if_neg hstat
  rw [heq, d.signalPage_of_page b p n h]
  exact d.sendMsix_shown _ _

/-- A write of 1s clears bits that hardware did not set in this cycle (R37). -/
theorem Device.bit_w1c (d : Device) (a m i : Nat) (h : i < 32) : (d.w1c a m).bit a i =
    (d.bit a i && !(m.testBit i && !(d.pages.cyc.hwSet.get 0 a).testBit i)) := by
  unfold Device.w1c
  rw [Device.bit_clearBits _ _ _ _ h, testBit_sub_and]

theorem Device.regsBut_w1c (d : Device) (a m : Nat) : d.regsBut (d.w1c a m) [a] :=
  fun _ hb => Device.reg_clearBits_ne _ _ _ _ (List.ne_of_not_mem_cons hb)

/-- Settles O8: a write that is taken changes its register, and signals again. -/
theorem interruptRegisters : Obligations.InterruptRegisters := by
  unfold Obligations.InterruptRegisters
  intro b enable v s
  refine does_of (if s.dev.pageHere b then s.dev.interruptWrite b enable v.toNat else s.dev) rfl ?_
  split
  next h => simp [h]
  next h =>
    have hwrite : (if s.dev.pageHere b then s.dev.interruptWrite b enable v.toNat else s.dev) = s.dev.interruptWrite b enable v.toNat :=
      if_pos (by simpa using h)
    rw [hwrite]
    unfold Device.interruptWrite
    cases enable with
    | true =>
      simp only [if_true, true_and]
      split
      next hlost => exact s.dev.onWrite_of_lost b _ hlost
      next htaken =>
        rw [s.dev.onWrite_of_not_lost b _ htaken]
        refine ⟨fun a ha => ?_, ?_, fun _ i hi => ?_, fun h => (by cases h), fun hs p n hp => ?_⟩
        · rw [Device.reg_signalAgain]
          exact Device.reg_setReg_ne _ _ _ _ (List.ne_of_not_mem_cons ha)
        · exact Device.onlyRegs_signalAgain b (Device.onlyRegs_setReg _ _ _ _ (Device.onlyRegs_noteWrite _ _ _ (Device.onlyRegs_refl _)))
        · rw [Device.bit_signalAgain]
          exact Device.bit_setReg _ _ _ _ hi
        · exact Device.signalAgain_shown _ b p n hp hs
    | false =>
      simp only [Bool.false_eq_true, if_false, false_and, or_false]
      split
      next hlost => exact if_pos hlost
      next htaken =>
        rw [s.dev.onCommand_of_not_barred b _ (by simpa using htaken)]
        refine ⟨fun a ha => ?_, ?_, fun h => (by cases h), fun _ i hi => ?_, fun hs p n hp => ?_⟩
        · rw [Device.reg_signalAgain]
          exact Device.regsBut_w1c _ _ _ _ ha
        · exact Device.onlyRegs_signalAgain b (Device.onlyRegs_w1c _ _ _ _ (Device.onlyRegs_refl _))
        · rw [Device.bit_signalAgain]
          exact Device.bit_w1c _ _ _ _ hi
        · exact Device.signalAgain_shown _ b p n hp hs

/-! ## MSI-X tables -/

/-- The entry that a write of a word leaves. -/
theorem Msix.write_fields (e : Msix) (word : Fin 4) (v : Nat) (hv : v < 2 ^ 32) :
    (e.write word v).withheld = false ∧ (e.write word v).pending = e.pending ∧
    (e.write word v).addr % 2 ^ 32 = (if word = 0 then v else e.addr % 2 ^ 32) ∧
    (e.write word v).addr / 2 ^ 32 = (if word = 1 then v else e.addr / 2 ^ 32) ∧
    (e.write word v).data = (if word = 2 then v else e.data) ∧
    (e.write word v).masked = (if word = 3 then v.testBit 0 else e.masked) := by
  match word with
  | 0 => refine ⟨rfl, rfl, ?_, ?_, rfl, rfl⟩ <;> simp [Msix.write] <;> omega
  | 1 =>
    refine ⟨rfl, rfl, ?_, ?_, rfl, rfl⟩ <;> simp [Msix.write]
    all_goals omega
  | 2 => exact ⟨rfl, rfl, rfl, rfl, rfl, rfl⟩
  | 3 => exact ⟨rfl, rfl, rfl, rfl, rfl, Nat.testBit_zero _ ▸ (by simp [Msix.write, bitOf])⟩

/-- The entry after a write, and what is sent: a message kept pending goes out where the entry is then unmasked. -/
def Msix.sends (e : Msix) : Bool := e.pending && !e.masked

def Msix.settled (e : Msix) : Msix := if e.sends then { e with pending := false } else e

theorem Msix.settled_fields (e : Msix) : (e.sends = true → e.settled.pending = false) ∧ e.settled.withheld = e.withheld ∧
    e.settled.addr = e.addr ∧ e.settled.data = e.data ∧ e.settled.masked = e.masked := by
  unfold Msix.settled
  split
  next => exact ⟨fun _ => rfl, rfl, rfl, rfl, rfl⟩
  next h => exact ⟨fun hs => absurd hs h, rfl, rfl, rfl, rfl⟩

def Device.msixStored (d : Device) (fn vec : Nat) (e : Msix) : Device :=
  let d1 := d.mapFront fun f => { f with msix := f.msix.put Msix.initial (msixKey fn vec) e.settled }
  if e.sends then d1.emit (.msix fn vec) else d1

theorem Device.msixStored_msix (d : Device) (fn vec : Nat) (e : Msix) :
    (d.msixStored fn vec e).front.msix = d.front.msix.put Msix.initial (msixKey fn vec) e.settled := by
  unfold Device.msixStored; dsimp only; split <;> rfl

theorem Device.msixStored_frame (d : Device) (fn vec : Nat) (e : Msix) :
    ∃ o m, d.msixStored fn vec e = { d with out := o, front := { d.front with msix := m } } := by
  unfold Device.msixStored; dsimp only; split
  · exact ⟨_, _, rfl⟩
  · exact ⟨_, _, rfl⟩

theorem Device.msixStored_sent (d : Device) (fn vec : Nat) (e : Msix) (h : e.sends = true) :
    (d.msixStored fn vec e).gave (.sent (.msix fn vec)) := by
  unfold Device.msixStored; simp [h]

/-- MSIX_TABLE_WRITE at an entry that is there: the entry is stored, and the cause of source 222 ends with the last withholding. -/
theorem Device.msixWrite_of_here (d : Device) (fn vec word v : Nat)
    (h : (fn = 0 ∧ vec < 32) ∨ (fn ≠ 0 ∧ vec < 65 ∧ d.exposed (fn - 1) = true)) :
    let t := d.msixStored fn vec ((d.front.msix.get Msix.initial (msixKey fn vec)).write word v)
    d.msixWrite fn vec word v = t ∨ d.msixWrite fn vec word v = t.holdCause 222 false := by
  have hhere : (if fn = 0 then decide (vec < 32) else decide (vec < 65) && d.exposed (fn - 1)) = true := by
    obtain ⟨h0, hv⟩ | ⟨h0, hv, hx⟩ := h
    · rw [if_pos h0, decide_eq_true hv]
    · rw [if_neg h0, decide_eq_true hv, hx]; rfl
  intro t
  have heq : d.msixWrite fn vec word v = if t.front.msix.any fun x => x.2.withheld then t else t.holdCause 222 false := by
    unfold Device.msixWrite
    rw [hhere]
    rfl
  rw [heq]
  split
  · exact .inl rfl
  · exact .inr rfl

theorem Device.msixWrite_of_not_here (d : Device) (fn vec word v : Nat)
    (h : ¬((fn = 0 ∧ vec < 32) ∨ (fn ≠ 0 ∧ vec < 65 ∧ d.exposed (fn - 1) = true))) : d.msixWrite fn vec word v = d := by
  have hhere : (if fn = 0 then decide (vec < 32) else decide (vec < 65) && d.exposed (fn - 1)) = false := by
    by_cases h0 : fn = 0
    · rw [if_pos h0, decide_eq_false (fun hv => h (.inl ⟨h0, hv⟩))]
    · rw [if_neg h0, Bool.and_eq_false_imp]
      intro hv
      exact Bool.eq_false_iff.mpr fun hx => h (.inr ⟨h0, of_decide_eq_true hv, hx⟩)
  unfold Device.msixWrite
  rw [hhere]
  rfl

/-- Settles O9: by the fields of the written entry. -/
theorem msixTable : Obligations.MsixTable := by
  unfold Obligations.MsixTable
  intro fn vec word v s
  refine does_of (s.dev.msixWrite fn vec word v.toNat) rfl ?_
  split
  next h =>
    intro e e'
    obtain ⟨hheld, hpend, hlo, hhi, hdata, hmask⟩ := e.write_fields word v.toNat v.isLt
    obtain ⟨ssent, sheld, saddr, sdata, smask⟩ := (e.write word v.toNat).settled_fields
    have hcases := s.dev.msixWrite_of_here fn vec word v.toNat h
    have hmsix : (s.dev.msixWrite fn vec word v.toNat).front.msix =
        s.dev.front.msix.put Msix.initial (msixKey fn vec) (e.write word v.toNat).settled := by
      obtain hw | hw := hcases <;> rw [hw] <;> exact s.dev.msixStored_msix _ _ _
    have hentry : e' = (e.write word v.toNat).settled := by simp only [e', hmsix, Table.get_put, if_true]
    rw [hentry, saddr, sdata, smask]
    refine ⟨sheld.trans hheld, hlo, hhi, hdata, hmask, fun hp hm => ?_, fun k hk => ?_, ?_⟩
    · have hsends : (e.write word v.toNat).sends = true := by simp [Msix.sends, hpend, hp, hm]
      refine ⟨?_, ssent hsends⟩
      have hsent := s.dev.msixStored_sent fn vec _ hsends
      obtain hw | hw := hcases <;> rw [hw]
      · exact hsent
      · exact gave_holdCause _ _ _ hsent
    · rw [hmsix]
      exact Table.get_put_ne _ _ _ _ _ hk
    · obtain ⟨o, m, hstored⟩ := s.dev.msixStored_frame fn vec (e.write word v.toNat)
      obtain hw | hw := hcases
      · rw [hw, hstored]
      · rw [hw, hstored]; rfl
  next h => exact s.dev.msixWrite_of_not_here fn vec word v.toNat h

end Sys2Proof.Machine
end

section
/-! SUPPORT. Register writes by access type, violations, region writes, and SOFT_RESET at a page (02_register_convention.md R36 to R53;
19_interconnect_access.md R744 to R748). -/

namespace Sys2Proof.Machine

/-! ## Violations -/

theorem Device.onlyRegs_captureViolation {d t : Device} (cls kind a : Nat) (h : d.onlyRegs t) :
    d.onlyRegs (t.captureViolation cls kind a) := by
  unfold Device.captureViolation
  exact Device.onlyRegs_setReg _ _ _ _ (Device.onlyRegs_setReg _ _ _ _ (Device.onlyRegs_setReg _ _ _ _ h))

theorem Device.onlyRegs_setValid {d t : Device} (h : d.onlyRegs t) : d.onlyRegs t.setValid := by
  unfold Device.setValid
  exact Device.onlyRegs_raiseInt _ _ _ _ _ (Device.onlyRegs_hwSet _ _ _ _ h)

/-- Recording a violation changes registers alone. -/
theorem Device.onlyRegs_recordViolation (d : Device) (cls kind a : Nat) : d.onlyRegs (d.recordViolation cls kind a) := by
  have hcyc : ∀ f, d.onlyRegs (d.mapCyc f) := fun f => Device.onlyRegs_mapCyc _ _ f d.onlyRegs_refl
  unfold Device.recordViolation
  dsimp only
  split
  · exact Device.onlyRegs_setValid (Device.onlyRegs_captureViolation _ _ _ (hcyc _))
  · split
    · exact Device.onlyRegs_captureViolation _ _ _ (Device.onlyRegs_hwSet _ _ _ _ (hcyc _))
    · exact Device.onlyRegs_hwSet _ _ _ _ (hcyc _)

/-- What a violation reports and sends, and the parts of the device that it leaves alone. -/
theorem Device.violation_facts (d : Device) (cls kind a : Nat) : let t := d.violation cls kind a
    t.gave (.event (if cls = 2 then 235 else 236)) ∧ (kind = 0 → t.gave (.sent (.value cls a 0))) ∧
    (kind = 2 → t.gave (.sent (.fetchFault a))) ∧ t.power = d.power ∧ t.units = d.units ∧ t.front.qps = d.front.qps := by
  obtain ⟨hpower, _, hunits, _, _, _, _, _, hqps, _⟩ := Device.onlyRegs_fields (d.onlyRegs_recordViolation cls kind a)
  unfold Device.violation
  dsimp only
  split
  next h => subst h; simp [hpower, hunits, hqps]
  next h =>
    split
    next h2 => subst h2; simp [hpower, hunits, hqps]
    next h2 => simp [hpower, hunits, hqps, h, h2]

/-- Settles O15: an access that is checked and not granted is a violation. -/
theorem accessViolations : Obligations.AccessViolations := by
  unfold Obligations.AccessViolations
  intro cls kind a s
  refine does_of (s.dev.accessViolation cls kind a) rfl ?_
  have hcond : (checkedClass cls && decide (a < 2 ^ 40) && !s.dev.accessGranted cls kind a) = true ↔
      checkedClass cls = true ∧ a < 2 ^ 40 ∧ s.dev.accessGranted cls kind a = false := by
    simp only [Bool.and_eq_true, decide_eq_true_eq, Bool.not_eq_true', and_assoc]
  unfold Device.accessViolation
  simp only [hcond]
  split
  next h =>
    obtain ⟨hevent, hread, hfetch, hrest⟩ := s.dev.violation_facts cls kind a
    exact ⟨hevent, fun h0 => hread (by simp [h0]), fun h2 => hfetch (by simp [h2]), hrest⟩
  next h => rfl

/-! ## Writes that do not reach a register -/

theorem Device.reserved_word (d : Device) (a : Nat) : d.reserved (a / 4 * 4) = d.reserved a := by
  have h : a / 4 * 4 / 4 * 4 = a / 4 * 4 := by omega
  unfold Device.reserved
  rw [h]

/-- An access at a reserved offset that is there reports source 210, and leaves the power state. -/
theorem Device.unmapped_facts (d : Device) (a : Nat) (write : Bool) (hr : d.reserved a = true)
    (hx : ∀ v, vfAt a = some v → d.exposed v = true) :
    (d.unmapped a write).gave (.event 210) ∧ (d.unmapped a write).power = d.power := by
  rw [d.unmapped_of_here a write hr hx]
  cases hv : vfAt a <;> cases write <;> simp [Device.dropAccess_210]

/-- Settles O10: by what the write reaches. -/
theorem registerWriteRefused : Obligations.RegisterWriteRefused := by
  unfold Obligations.RegisterWriteRefused
  intro cls a be v s
  refine does_of (s.dev.registerWrite cls a be v.toNat) rfl ?_
  intro r
  have hword : s.dev.reserved r = s.dev.reserved a := s.dev.reserved_word a
  refine ⟨fun h => ?_, fun h => ?_, fun h hnone => ?_, fun h hb => ⟨fun hr hx => ?_, fun hr hw hp hlost => ?_⟩⟩
  · simp [Device.registerWrite, h]
  · have heq : s.dev.registerWrite cls a be v.toNat = s.dev.violation cls 1 a := by simp [Device.registerWrite, h]
    obtain ⟨hevent, _, _, hpower, _⟩ := s.dev.violation_facts cls 1 a
    exact heq ▸ ⟨hevent, hpower⟩
  · have hskip : (behindPages cls r || windowAt r && !s.dev.reserved r) = true := by
      obtain hb | ⟨hw, hr⟩ := hnone
      · simp [hb]
      · simp [hword, hw, hr]
    unfold Device.registerWrite
    rw [h]
    exact if_pos hskip
  · have heq : s.dev.registerWrite cls a be v.toNat = s.dev.unmapped a true := by
      simp [Device.registerWrite, h, show behindPages cls (a / 4 * 4) = false from hb, s.dev.reserved_word a, hr]
    exact heq ▸ s.dev.unmapped_facts a true hr hx
  · obtain ⟨⟨p, n⟩, hpage⟩ := Option.isSome_iff_exists.mp hp
    have hl : (decide (be ≠ 0xF) || decide (a % 4 ≠ 0) || s.dev.writeBarred a) = true := by simpa [or_assoc] using hlost
    simp [Device.registerWrite, h, show behindPages cls (a / 4 * 4) = false from hb, s.dev.reserved_word a, hr,
      show windowAt (a / 4 * 4) = false from hw, show pageAt (a / 4 * 4) = some (p, n) from hpage]
    intro h1 h2 h3
    simp_all

/-! ## Writes by access type -/

/-- The stored value that a write leaves in the RW bits. -/
theorem testBit_rwValue (old rw v i : Nat) :
    ((old - (old &&& rw)) ||| (v &&& rw)).testBit i = if rw.testBit i then v.testBit i else old.testBit i := by
  rw [Nat.testBit_or, testBit_sub_and, Nat.testBit_and]
  cases rw.testBit i <;> simp

/-- The RW half of a write of fields. -/
def Device.writeRw (d : Device) (a v : Nat) : Device :=
  let rw := accMask (fieldsAt a) .rw
  if rw = 0 then d else if d.pageLocked a then d.writeLost a
    else d.setReg a ((d.reg a - (d.reg a &&& rw)) ||| (v &&& rw))

/-- Its W1C half. -/
def Device.writeW1 (d : Device) (a v : Nat) : Device :=
  let w1 := accMask (fieldsAt a) .w1c &&& v
  if w1 = 0 then d else d.w1c a w1

/-- A write that the register takes is noted (R41). -/
def Device.writeNoted (d : Device) (a : Nat) : Device :=
  if accMask (fieldsAt a) .rw ≠ 0 && !d.pageLocked a || (fieldsAt a).any fun f => f.acc == .w1c || f.acc == .cnt then d.noteWrite a
  else d

theorem Device.writeNoted_cases (d : Device) (a : Nat) : d.writeNoted a = d ∨ d.writeNoted a = d.noteWrite a := by
  unfold Device.writeNoted; split
  · exact .inr rfl
  · exact .inl rfl

/-- Without a CNT field a write is its RW half and then its W1C half. -/
theorem Device.writeFields_plain (d : Device) (p : Page) (n a v : Nat) (h : ∀ f ∈ fieldsAt a, f.acc ≠ .cnt) :
    d.writeFields p n a v = ((d.writeNoted a).writeRw a v).writeW1 a v := by
  have hnone : (fieldsAt a).filter (fun f => f.acc == .cnt) = [] := by
    rw [List.filter_eq_nil_iff]
    intro f hf
    simpa using h f hf
  unfold Device.writeFields
  simp only [hnone, List.foldl_nil]
  rfl

theorem Device.writeW1_facts (d : Device) (a v : Nat) : let t := d.writeW1 a v
    (∀ i, i < 32 → t.bit a i = (d.bit a i && !((accMask (fieldsAt a) .w1c).testBit i && v.testBit i &&
      !(d.pages.cyc.hwSet.get 0 a).testBit i))) ∧
    d.regsBut t [a] ∧ t = { d with pages := t.pages } := by
  unfold Device.writeW1
  dsimp only
  split
  next h =>
    refine ⟨fun i _ => ?_, fun _ _ => rfl, rfl⟩
    have hi : ((accMask (fieldsAt a) .w1c).testBit i && v.testBit i) = false := by
      rw [← Nat.testBit_and, h, Nat.zero_testBit]
    rw [hi]; simp
  next =>
    refine ⟨fun i hi => ?_, d.regsBut_w1c a _, rfl⟩
    rw [Device.bit_w1c _ _ _ _ hi, Nat.testBit_and]

/-- The RW half at a register that is not PAGE_STAT: the bits of a page that is not locked, and a lost write of one that is. -/
theorem Device.writeRw_facts (d : Device) (a v : Nat) (ha : a ≠ pageBase a + 0x0C) : let t := d.writeRw a v
    let rw := accMask (fieldsAt a) .rw
    let lost := d.pageLocked a && decide (rw ≠ 0)
    (∀ i, i < 32 → t.bit a i = if rw.testBit i && !lost then v.testBit i else d.bit a i) ∧
    (lost = false → d.regsBut t [a]) ∧ (lost = true → t = d.writeLost a) ∧
    t.pages.cyc.hwSet = d.pages.cyc.hwSet ∧ t = { d with pages := t.pages } := by
  unfold Device.writeRw
  dsimp only
  by_cases hrw : accMask (fieldsAt a) .rw = 0
  · simp [hrw, Device.regsBut]
  · rw [if_neg hrw]
    cases hlock : d.pageLocked a with
    | true =>
      simp only [if_true, decide_eq_true hrw, Bool.and_self, Bool.not_true, Bool.and_false, Bool.false_eq_true, if_false, ne_eq]
      refine ⟨fun i _ => ?_, fun h => absurd h (by simp), fun _ => trivial, rfl, rfl⟩
      exact congrArg (bitOf · i) (d.reg_writeLost_ne a a ha)
    | false =>
      simp only [Bool.false_eq_true, if_false, Bool.false_and, Bool.not_false, Bool.and_true]
      refine ⟨fun i hi => ?_, fun _ => d.regsBut_setReg a _, fun h => (by cases h), rfl, rfl⟩
      rw [Device.bit_setReg _ _ _ _ hi, testBit_rwValue]
      rfl

/-- At a register that writes reach by access type alone, a write is one of its fields. -/
theorem Device.performWrite_plain (d : Device) (p : Page) (n cls a v : Nat) (hplain : plainAt p (a % 0x1000) = true)
    (hcnt : ∀ f ∈ fieldsAt a, f.acc ≠ .cnt) : d.performWrite p n cls a v = ((d.writeNoted a).writeRw a v).writeW1 a v := by
  have hoff : ∀ b : Nat, ¬a % 0x1000 = b % 0x1000 → a ≠ b := fun b hne h => hne (h ▸ rfl)
  unfold plainAt at hplain
  rw [Bool.and_eq_true, decide_eq_true_eq] at hplain
  obtain ⟨hpast, hpage⟩ := hplain
  rw [← d.writeFields_plain p n a v hcnt]
  have hany : ∀ m, d.writeFields p m a v = d.writeFields p n a v := fun m =>
    (d.writeFields_plain p m a v hcnt).trans (d.writeFields_plain p n a v hcnt).symm
  unfold Device.performWrite
  rw [if_neg (Nat.not_lt.mpr hpast)]
  cases p <;> simp only [bne_iff_ne, ne_eq, Bool.and_eq_true, Bool.false_eq_true] at hpage ⊢
  case pwr => rw [Device.writePwr, if_neg (hoff (pwrAt Off.pwrCtrl) hpage), hany]
  case tamp => rw [if_neg hpage]
  case rng =>
    obtain ⟨hctrl, hcmd⟩ := hpage
    rw [Device.writeRng, if_neg (hoff (rngAt Off.rngCtrl) hctrl),
      if_neg (hoff (rngAt Off.rngHostCmd) hcmd), hany]
  case key => rw [if_neg (hoff (keyAt Off.keyCmd) hpage)]; rfl
  case jnl => rw [Device.writeJnl, if_pos (hoff (jnlAt Off.jnlCmd) hpage), hany]
  case sched => rw [Device.writeSched, if_pos (hoff (schedAt Off.tblCmd) hpage), hany]
  case cust => rw [if_neg (hoff (custAt Off.custCmd) hpage)]; rfl

/-- A write that loses at most one access's count is counted as it stands. -/
theorem Device.lostOnce_of_le (d : Device) (a : Nat) (f : Device → Device)
    (h : (f d).field (pageBase a + 0x0C) 23 16 ≤ d.field (pageBase a + 0x0C) 23 16 + 1) : d.lostOnce a f = f d := by
  unfold Device.lostOnce
  exact if_neg fun hc => by omega

/-- A full-word write that the table performs, at a register that it may change. -/
theorem Device.registerWrite_performed (d : Device) (cls a v : Nat) (p : Page) (n : Nat) (hword : a / 4 * 4 = a)
    (hreach : d.reach cls 1 a = .performed) (hbehind : behindPages cls a = false) (hwin : windowAt a = false)
    (hres : d.reserved a = false) (hbar : d.writeBarred a = false) (hpage : pageAt a = some (p, n)) :
    d.registerWrite cls a 0xF v = d.lostOnce a fun d => d.performWrite p n cls a v := by
  have halign : a % 4 = 0 := by omega
  simp [Device.registerWrite, hreach, hword, hbehind, hwin, hres, hbar, hpage, halign]

/-- Settles O11: the write is its RW half, which a locked page loses, and then its W1C half. -/
theorem registerWriteFields : Obligations.RegisterWriteFields := by
  unfold Obligations.RegisterWriteFields
  intro cls a v p n s
  refine does_of (s.dev.registerWrite cls a 0xF v.toNat) rfl ?_
  intro hwin halign hreach hbehind hres hbar hpage hplain hcnt rw w1 lost
  have hpast : 0x40 ≤ a % 0x1000 := by
    unfold plainAt at hplain
    exact of_decide_eq_true (Bool.and_eq_true_iff.mp hplain).1
  have hstat : a ≠ pageBase a + 0x0C := by unfold pageBase; omega
  have hother : pageBase a + 0x0C ∉ [a] := fun h => hstat (List.mem_singleton.mp h).symm
  obtain ⟨e, hnoted⟩ : ∃ e, s.dev.writeNoted a = e := ⟨_, rfl⟩
  have hbit : ∀ b i, e.bit b i = s.dev.bit b i := by
    obtain h | h := s.dev.writeNoted_cases a <;> rw [← hnoted, h] <;> exact fun _ _ => rfl
  have hreg : ∀ b, e.reg b = s.dev.reg b := by
    obtain h | h := s.dev.writeNoted_cases a <;> rw [← hnoted, h] <;> exact fun _ => rfl
  have hset : e.pages.cyc.hwSet = s.dev.pages.cyc.hwSet := by
    obtain h | h := s.dev.writeNoted_cases a
    · rw [← hnoted, h]
    · rw [← hnoted, h]; rfl
  have hframe : ∃ q, e = { s.dev with pages := q } := by
    obtain h | h := s.dev.writeNoted_cases a <;> rw [← hnoted, h] <;> exact ⟨_, rfl⟩
  have hlock : e.pageLocked a = s.dev.pageLocked a := hbit _ _
  have hfield : ∀ b, e.field b 23 16 = s.dev.field b 23 16 := fun b => congrArg (bitsOf · 23 16) (hreg b)
  obtain ⟨rbit, rkept, rlost, rset, rframe⟩ := e.writeRw_facts a v.toNat hstat
  obtain ⟨wbit, wkept, wframe⟩ := (e.writeRw a v.toNat).writeW1_facts a v.toNat
  rw [hlock] at rbit rkept rlost
  have hpages : ∃ q, (e.writeRw a v.toNat).writeW1 a v.toNat = { s.dev with pages := q } := by
    obtain ⟨q, rfl⟩ := hframe
    exact ⟨_, wframe.trans (by rw [rframe])⟩
  have hcount : ((e.writeRw a v.toNat).writeW1 a v.toNat).field (pageBase a + 0x0C) 23 16 =
      (e.writeRw a v.toNat).field (pageBase a + 0x0C) 23 16 :=
    congrArg (bitsOf · 23 16) (wkept _ hother)
  have hdo : s.dev.registerWrite cls a 0xF v.toNat = (e.writeRw a v.toNat).writeW1 a v.toNat := by
    rw [s.dev.registerWrite_performed cls a v.toNat p n (by omega) hreach hbehind hwin hres hbar hpage]
    have hperform := s.dev.performWrite_plain p n cls a v.toNat hplain hcnt
    rw [hnoted] at hperform
    refine (s.dev.lostOnce_of_le a _ ?_).trans hperform
    rw [hperform, hcount, ← hfield]
    cases hl : (s.dev.pageLocked a && decide (accMask (fieldsAt a) .rw ≠ 0)) with
    | true =>
      rw [rlost hl]
      have := e.field_writeLost a
      unfold pageBase
      omega
    | false =>
      have := rkept hl (pageBase a + 0x0C) hother
      unfold Device.field
      rw [this]
      omega
  rw [hdo]
  refine ⟨fun i hi => ?_, fun hl => ?_, fun hl => ⟨?_, ?_⟩, ?_⟩
  · rw [wbit i hi, rbit i hi, rset, hset, hbit]
    split <;> rfl
  · intro b hb
    rw [wkept b hb, rkept hl b hb, hreg]
  · intro b hb
    have hba := List.ne_of_not_mem_cons hb
    have hbs := List.ne_of_not_mem_cons (List.not_mem_of_not_mem_cons hb)
    rw [wkept b (List.not_mem_cons_of_ne_of_not_mem hba List.not_mem_nil), rlost hl, e.reg_writeLost_ne a b hbs, hreg]
  · rw [hcount, rlost hl]
    exact (e.field_writeLost a).trans (by rw [hfield]; rfl)
  · obtain ⟨q, hq⟩ := hpages
    rw [hq]

/-! ## Region writes -/

/-- A region register in CUSTODY and MAINTENANCE. -/
theorem Device.regionWrite_allowed (d : Device) (i j v : Nat)
    (h : d.cust.selected = true ∧ (d.cust.mode = .custody ∨ d.cust.mode = .maintenance)) (hi : 16 ≤ i) :
    d.regionWrite i j v = d.onWrite (regionReg i j) fun d =>
      if j < 4 && d.bit (regionReg i 4) 31 then d.writeLost (regionReg i j)
      else match regionValue j v with
        | none => d.writeLost (regionReg i j)
        | some w => d.passCycle.setReg (regionReg i j) w := by
  obtain ⟨hs, hm⟩ := h
  have hmode : (!d.cust.selected || (d.cust.mode != .custody && d.cust.mode != .maintenance)) = false := by
    obtain hm | hm := hm <;> simp [hs, hm]
  unfold Device.regionWrite
  dsimp only
  rw [hmode]
  exact (if_neg Bool.false_ne_true).trans (if_neg (Nat.not_lt.mpr hi))

/-- A word with a reserved permission bit or a reserved code set (R748). -/
def regionReserved (j : Fin 5) (v : Nat) : Prop :=
  ((j.val = 2 ∨ j.val = 3) ∧ v &&& 0x88888888 ≠ 0) ∨ (j.val = 4 ∧ (bitsOf v 5 4 = 3 ∨ bitsOf v 1 0 = 3))

/-- The bits that a region register takes. -/
def regionTakes (j : Fin 5) (v : Nat) : Nat := if j.val < 2 then v % 2 ^ 28 else if j.val < 4 then v else v &&& 0x80000033

theorem regionValue_of_reserved (j : Fin 5) (v : Nat) (h : regionReserved j v) : regionValue j v = none := by
  unfold regionReserved at h
  unfold regionValue
  match j with
  | 0 | 1 => simp at h
  | 2 | 3 => simp at h; simp [h]
  | 4 => simp at h; simp [h]

theorem regionValue_of_not_reserved (j : Fin 5) (v : Nat) (h : ¬regionReserved j v) : regionValue j v = some (regionTakes j v) := by
  unfold regionReserved at h
  unfold regionValue regionTakes
  match j with
  | 0 | 1 => simp
  | 2 | 3 => simp at h; simp [h]
  | 4 => simp at h; simp [h]

theorem regionTakes_lt (j : Fin 5) (v : Nat) (h : v < 2 ^ 32) : regionTakes j v < 2 ^ 32 := by
  unfold regionTakes
  split_ifs
  · omega
  · exact h
  · exact lt_of_le_of_lt Nat.and_le_left h

theorem Device.reg_setReg_word (d : Device) (a v : Nat) (h : v < 2 ^ 32) : (d.setReg a v).reg a = v := by
  rw [Device.reg_setReg, Nat.mod_eq_of_lt h, ite_self]

/-- Settles O16: by the mode, the region, and what the write asks. -/
theorem regionWrites : Obligations.RegionWrites := by
  unfold Obligations.RegionWrites
  intro i j v s
  refine does_of (s.dev.regionWrite i j v.toNat) rfl ?_
  intro a allowed refused
  have hmode : (!s.dev.cust.selected || (s.dev.cust.mode != .custody && s.dev.cust.mode != .maintenance)) = true ↔ ¬allowed :=
    s.dev.not_inStickyMode_iff
  refine ⟨fun h => ?_, fun h hi => ?_, fun h hi hr => ?_, fun h hi hr => ?_⟩
  · exact if_pos (hmode.mpr h)
  · exact (if_neg fun hm => hmode.mp hm h).trans (if_pos hi)
  · rw [s.dev.regionWrite_allowed i j v.toNat h hi]
    by_cases htaken : s.dev.writeBarred a = false ∧ s.dev.pageLocked a = false
    · rw [s.dev.onWrite_of_taken a _ htaken]
      by_cases hon : (decide (j.val < 4) && s.dev.bit (regionReg i 4) 31) = true
      · exact if_pos hon
      · have hres : regionReserved j v.toNat := by
          obtain ⟨hb, hl⟩ := htaken
          simp only [refused, hb, hl, Bool.false_eq_true, false_or] at hr
          exact hr.resolve_left fun ⟨h1, h2⟩ => hon (by simp [h1, h2])
        rw [if_neg hon, regionValue_of_reserved j _ hres]
    · exact s.dev.onWrite_of_not_taken a _ htaken
  · simp only [refused, not_or, Bool.not_eq_true] at hr
    obtain ⟨hb, hl, hon, hperm, hcode⟩ := hr
    have hres : ¬regionReserved j v.toNat := fun h => h.elim hperm hcode
    have hopen : ¬(decide (j.val < 4) && s.dev.bit (regionReg i 4) 31) = true := by simpa using hon
    have hdo : s.dev.regionWrite i j v.toNat = s.dev.passCycle.setReg a (regionTakes j v.toNat) := by
      rw [s.dev.regionWrite_allowed i j v.toNat h hi, s.dev.onWrite_of_taken a _ ⟨hb, hl⟩, if_neg hopen,
        regionValue_of_not_reserved j _ hres]
    have hreg := s.dev.passCycle.reg_setReg_word a _ (regionTakes_lt j v.toNat v.isLt)
    rw [hdo, hreg]
    unfold regionTakes
    refine ⟨fun hj => if_pos hj, fun hj => ?_, fun hj => ?_, s.dev.passCycle.regsBut_setReg a _, rfl, rfl⟩
    · rw [if_neg (by omega), if_pos (by omega)]
    · rw [if_neg (by omega), if_neg (by omega)]

/-! ## SOFT_RESET at a page -/

/-- Settles O14: by the page that the address begins. -/
theorem softResetRows : Obligations.SoftResetRows := by
  unfold Obligations.SoftResetRows
  intro b s
  refine does_of (s.dev.softResetAt b) rfl ⟨fun h => ?_, fun p n hp hb => ?_⟩
  · unfold Device.softResetAt
    split
    next p n hp => exact if_neg (h.resolve_left (by simp [hp]))
    next => rfl
  · have heq : s.dev.softResetAt b = s.dev.softReset p n := by
      unfold Device.softResetAt; rw [hp]; exact if_pos hb
    rw [heq]
    refine ⟨fun h => ?_, ?_, ?_, ?_, ?_, ?_, ?_, ?_, ?_, ?_, ?_⟩
    · cases p
      case jnl | dom | cnt | rpl | side | mbx | lc | bn | vfm | vf => cases h
      all_goals rfl
    · rintro rfl; rfl
    · rintro rfl; rfl
    · rintro rfl; rfl
    · rintro rfl; rfl
    · rintro rfl; exact congrArg (fun e => s.done (if s.dev.cust.mode = .maintenance then s.dev.jnlSoftReset else e))
        (s.dev.writeLost_page (jnlAt 8) (Page.jnl.base n) (by simp [jnlAt, Page.base]))
    · rintro rfl; exact congrArg (fun e => s.done (if s.dev.cust.mode = .maintenance then
        s.dev.softStart (Page.dom.base 0) fun d => d.domReset else e)) (s.dev.writeLost_page (domAt 8) (Page.dom.base n) (by simp [domAt, Page.base]))
    · rintro k rfl rfl; rfl
    · rintro k rfl rfl; rfl
    · rintro k rfl rfl; rfl
    · rintro k rfl rfl; rfl

end Sys2Proof.Machine
end

section
/-! SUPPORT. Counter grants and event selections, and replay capture (18_counters_replay.md R712 to R716, R733, R734). -/

namespace Sys2Proof.Machine

/-! ## Runs of steps -/

/-- What every step of a run keeps holds after it. -/
theorem foldl_keeps {α σ : Type} (f : σ → α → σ) (P : σ → Prop) (l : List α) (d : σ) (h : P d)
    (hkeep : ∀ d y, y ∈ l → P d → P (f d y)) : P (l.foldl f d) := by
  induction l generalizing d with
  | nil => exact h
  | cons y l ih =>
    exact ih _ (hkeep d y List.mem_cons_self h) fun d z hz => hkeep d z (List.mem_cons_of_mem _ hz)

/-- What a step that occurs in a run establishes, and every step of the run keeps, holds after it. -/
theorem foldl_establishes {α σ : Type} (f : σ → α → σ) (P : σ → Prop) (x : α) (l : List α) (d : σ) (hx : x ∈ l)
    (hdo : ∀ d, P (f d x)) (hkeep : ∀ d y, y ∈ l → P d → P (f d y)) : P (l.foldl f d) := by
  induction l generalizing d with
  | nil => cases hx
  | cons y l ih =>
    have hrest : ∀ d z, z ∈ l → P d → P (f d z) := fun d z hz => hkeep d z (List.mem_cons_of_mem _ hz)
    obtain rfl | hx := List.mem_cons.mp hx
    · exact foldl_keeps f P l _ (hdo d) hrest
    · exact ih _ hx hrest

/-! ## Counters of a VF -/

def vcntEvtAt (v c : Nat) : Nat := Page.vcnt.base v + Off.vcntEvt + 4 * c
def vcntValAt (v c : Nat) : Nat := Page.vcnt.base v + Off.vcntVal + 4 * c
def vcntOvfAt (v : Nat) : Nat := Page.vcnt.base v + Off.vcntOvf

theorem vcntAt_eq (v c : Nat) : vcntEvtAt v c = 0x04003040 + 0x10000 * v + 4 * c ∧ vcntValAt v c = 0x04003060 + 0x10000 * v + 4 * c ∧
    vcntOvfAt v = 0x04003080 + 0x10000 * v := by
  unfold vcntEvtAt vcntValAt vcntOvfAt
  simp only [Page.base, Off.vcntEvt, Off.vcntVal, Off.vcntOvf]
  omega

/-- A counter of a VF back at its reset values: its event and value read zero, its overflow bit is cleared, and registers past
the header that are none of these keep their value. -/
theorem Device.zeroVfCounter_facts (d : Device) (v c : Nat) (hc : c < 8) : let t := d.zeroVfCounter v c
    t.reg (vcntEvtAt v c) = 0 ∧ t.reg (vcntValAt v c) = 0 ∧
    (∀ i, i < 32 → t.bit (vcntOvfAt v) i = (d.bit (vcntOvfAt v) i && !decide (i = c))) ∧
    (∀ a, a % 0x1000 ≠ 0x0C → a ≠ vcntEvtAt v c → a ≠ vcntValAt v c → a ≠ vcntOvfAt v → t.reg a = d.reg a) ∧
    t = { d with pages := t.pages } := by
  obtain ⟨he, hv, ho⟩ := vcntAt_eq v c
  have heq : d.zeroVfCounter v c = ((((d.noteReturn (vcntEvtAt v c) (vcntEvtAt v c + 4)).noteReturn (vcntValAt v c) (vcntValAt v c + 4)).setReg
    (vcntEvtAt v c) 0).setReg (vcntValAt v c) 0).clearBits (vcntOvfAt v) (2 ^ c) := rfl
  have hkept : ∀ a, a % 0x1000 ≠ 0x0C →
      ((d.noteReturn (vcntEvtAt v c) (vcntEvtAt v c + 4)).noteReturn (vcntValAt v c) (vcntValAt v c + 4)).reg a = d.reg a :=
    fun a ha => (Device.reg_noteReturn _ _ _ _ ha).trans (Device.reg_noteReturn _ _ _ _ ha)
  rw [heq]
  refine ⟨?_, ?_, fun i hi => ?_, fun a ha hae hav hao => ?_, ?_⟩
  · rw [Device.reg_clearBits_ne _ _ _ _ (by omega), Device.reg_setReg_ne _ _ _ _ (by omega), Device.reg_setReg_zero]
  · rw [Device.reg_clearBits_ne _ _ _ _ (by omega), Device.reg_setReg_zero]
  · rw [Device.bit_clearBits _ _ _ _ hi, Device.bit_setReg_ne _ _ _ _ _ (by omega), Device.bit_setReg_ne _ _ _ _ _ (by omega),
      testBit_two_pow_eq]
    unfold Device.bit
    rw [hkept _ (by omega)]
  · rw [Device.reg_clearBits_ne _ _ _ _ hao, Device.reg_setReg_ne _ _ _ _ hav, Device.reg_setReg_ne _ _ _ _ hae, hkept a ha]
  · obtain ⟨h1, _⟩ := d.noteReturn_cases (vcntEvtAt v c) (vcntEvtAt v c + 4)
    obtain ⟨h2, _⟩ := (d.noteReturn (vcntEvtAt v c) (vcntEvtAt v c + 4)).noteReturn_cases (vcntValAt v c) (vcntValAt v c + 4)
    obtain ⟨p, hp⟩ : ∃ p, (d.noteReturn (vcntEvtAt v c) (vcntEvtAt v c + 4)).noteReturn (vcntValAt v c) (vcntValAt v c + 4) =
        { d with pages := p } := ⟨_, h2.trans (by rw [h1])⟩
    rw [hp]
    rfl

/-- The counters whose grant falls, one after the other. -/
def Device.dropGrants (d : Device) (v old g : Nat) : Device :=
  (List.range 8).foldl (fun d c => if old.testBit c && !g.testBit c then d.zeroVfCounter v c else d) d

theorem Device.dropGrants_facts (d : Device) (v old g : Nat) : let t := d.dropGrants v old g
    (∀ c, c < 8 → old.testBit c = true → g.testBit c = false →
      t.reg (vcntEvtAt v c) = 0 ∧ t.reg (vcntValAt v c) = 0 ∧ t.bit (vcntOvfAt v) c = false) ∧
    (∀ a, a % 0x1000 ≠ 0x0C → a ≠ vcntOvfAt v →
      (∀ c, c < 8 → a = vcntEvtAt v c ∨ a = vcntValAt v c → old.testBit c = false ∨ g.testBit c = true) → t.reg a = d.reg a) ∧
    t = { d with pages := t.pages } := by
  have hstep : ∀ (t : Device) y, (if old.testBit y && !g.testBit y then t.zeroVfCounter v y else t) = t ∨
      (old.testBit y = true ∧ g.testBit y = false ∧
        (if old.testBit y && !g.testBit y then t.zeroVfCounter v y else t) = t.zeroVfCounter v y) := by
    intro t y
    cases ho : old.testBit y <;> cases hg : g.testBit y <;> simp
  unfold Device.dropGrants
  refine ⟨fun c hc hold hnew => ?_, fun a ha hao hkept => ?_, ?_⟩
  · refine foldl_establishes _ (fun t : Device => t.reg (vcntEvtAt v c) = 0 ∧ t.reg (vcntValAt v c) = 0 ∧ t.bit (vcntOvfAt v) c = false)
      c _ d (List.mem_range.mpr hc) (fun t => ?_) (fun t y hy ⟨h1, h2, h3⟩ => ?_)
    · obtain ⟨z1, z2, z3, _⟩ := t.zeroVfCounter_facts v c hc
      rw [if_pos (by simp [hold, hnew])]
      exact ⟨z1, z2, by rw [z3 c (by omega)]; simp⟩
    · obtain h | ⟨_, _, h⟩ := hstep t y <;> rw [h]
      · exact ⟨h1, h2, h3⟩
      · obtain ⟨z1, z2, z3, z4, _⟩ := t.zeroVfCounter_facts v y (List.mem_range.mp hy)
        obtain ⟨he, hv, ho⟩ := vcntAt_eq v c
        obtain ⟨he', hv', _⟩ := vcntAt_eq v y
        have hy8 := List.mem_range.mp hy
        refine ⟨?_, ?_, by rw [z3 c (by omega), h3, Bool.false_and]⟩
        · by_cases hyc : y = c
          · exact hyc ▸ z1
          · rw [z4 _ (by omega) (by omega) (by omega) (by omega), h1]
        · by_cases hyc : y = c
          · exact hyc ▸ z2
          · rw [z4 _ (by omega) (by omega) (by omega) (by omega), h2]
  · refine foldl_keeps _ (fun t : Device => t.reg a = d.reg a) _ d rfl (fun t y hy h => ?_)
    obtain heq | ⟨hold, hnew, heq⟩ := hstep t y <;> rw [heq]
    · exact h
    · obtain ⟨_, _, _, z4, _⟩ := t.zeroVfCounter_facts v y (List.mem_range.mp hy)
      have hnot : ¬(a = vcntEvtAt v y ∨ a = vcntValAt v y) := fun hay => by
        obtain h | h := hkept y (List.mem_range.mp hy) hay
        · rw [hold] at h; cases h
        · rw [hnew] at h; cases h
      exact (z4 a ha (fun h => hnot (.inl h)) (fun h => hnot (.inr h)) hao).trans h
  · refine foldl_keeps _ (fun t : Device => t = { d with pages := t.pages }) _ d rfl (fun t y hy h => ?_)
    obtain heq | ⟨_, _, heq⟩ := hstep t y <;> rw [heq]
    · exact h
    · obtain ⟨_, _, _, _, z5⟩ := t.zeroVfCounter_facts v y (List.mem_range.mp hy)
      exact z5.trans (by rw [h])

/-! ## Counter writes -/

/-- Settles O17: grants, and event selections of the PF's and of a VF's counters. -/
theorem counterWrites : Obligations.CounterWrites := by
  unfold Obligations.CounterWrites
  refine ⟨fun v g s => ?_, fun c w s => ?_, fun v c w s => ?_⟩
  · refine does_of (s.dev.grantWrite v g.toNat) rfl ?_
    intro a
    have ha : a = 0x01000074 + 0x1000 * v := by
      simp only [a, Page.base, Off.vfmCntGrant]; omega
    obtain ⟨_, _, ho⟩ := vcntAt_eq v 0
    split
    next hlost =>
      unfold Device.grantWrite
      exact s.dev.onWrite_of_lost a _ hlost
    next htaken =>
      have hdo : s.dev.grantWrite v g.toNat =
          ((s.dev.noteWrite a).setReg a (g.toNat % 256)).dropGrants v (s.dev.field a 7 0) g.toNat := by
        unfold Device.grantWrite
        exact s.dev.onWrite_of_not_lost a _ htaken
      have hg : g.toNat % 256 = g.toNat := Nat.mod_eq_of_lt g.isLt
      obtain ⟨hzero, hkept, hframe⟩ := ((s.dev.noteWrite a).setReg a (g.toNat % 256)).dropGrants_facts v (s.dev.field a 7 0) g.toNat
      have hother : ∀ b, b ≠ a → ((s.dev.noteWrite a).setReg a (g.toNat % 256)).reg b = s.dev.reg b := fun b hb =>
        Device.reg_setReg_ne _ _ _ _ hb
      rw [hdo]
      refine ⟨?_, hzero, fun c hc hstay => ?_, hframe⟩
      · rw [hkept a (by omega) (by omega) fun c hc h => ?_, Device.reg_setReg_word _ _ _ (by omega), hg]
        obtain ⟨he, hv, _⟩ := vcntAt_eq v c
        omega
      · obtain ⟨he, hv, _⟩ := vcntAt_eq v c
        have hsame : ∀ x, x = vcntEvtAt v c ∨ x = vcntValAt v c → ∀ y, y < 8 → x = vcntEvtAt v y ∨ x = vcntValAt v y →
            (s.dev.field a 7 0).testBit y = false ∨ g.toNat.testBit y = true := fun x hx y hy hxy => by
          obtain ⟨he', hv', _⟩ := vcntAt_eq v y
          obtain rfl : y = c := by omega
          exact hstay
        exact ⟨(hkept _ (by omega) (by omega) (hsame _ (.inl rfl))).trans (hother _ (by omega)),
          (hkept _ (by omega) (by omega) (hsame _ (.inr rfl))).trans (hother _ (by omega))⟩
  · refine does_of (s.dev.eventWrite none c w.toNat) rfl ?_
    intro a e
    have heq : s.dev.eventWrite none c w.toNat = s.dev.onWrite a fun d =>
        if decide (e ∈ tenantEvents ++ deviceEvents) && (!bitOf w.toNat 30 || decide (e ∈ tenantEvents)) then
          (d.noteWrite a).setReg a (w.toNat - bitsOf w.toNat 29 28 * 2 ^ 28) else d.writeLost a := rfl
    have hcond : (decide (e ∈ tenantEvents ++ deviceEvents) && (!bitOf w.toNat 30 || decide (e ∈ tenantEvents))) = true ↔
        e ∈ tenantEvents ++ deviceEvents ∧ (w.toNat.testBit 30 = true → e ∈ tenantEvents) := by
      rw [Bool.and_eq_true, Bool.or_eq_true, Bool.not_eq_true', decide_eq_true_eq, decide_eq_true_eq, ← Bool.not_eq_true, imp_iff_not_or]
      rfl
    split
    next h =>
      obtain ⟨hb, hl, hevent⟩ := h
      rw [heq, s.dev.onWrite_of_taken a _ ⟨hb, hl⟩, if_pos (hcond.mpr hevent)]
      refine ⟨fun i hi => ?_, Device.regsBut_setReg _ a _, rfl⟩
      have hput : w.toNat - bitsOf w.toNat 29 28 * 2 ^ 28 = putBits w.toNat 29 28 0 := by simp [putBits]
      rw [Device.bit_setReg _ _ _ _ hi, hput, testBit_putBits _ _ _ _ _ (by omega)]
      split
      next h => obtain rfl | rfl : i = 28 ∨ i = 29 := by omega
                all_goals simp
      next h =>
        have hne : (i == 28 || i == 29) = false := by
          rw [Bool.or_eq_false_iff, beq_eq_false_iff_ne, beq_eq_false_iff_ne]; omega
        rw [hne, Bool.not_false, Bool.and_true]
    next h =>
      rw [heq]
      by_cases htaken : s.dev.writeBarred a = false ∧ s.dev.pageLocked a = false
      · rw [s.dev.onWrite_of_taken a _ htaken]
        exact if_neg fun hc => h ⟨htaken.1, htaken.2, hcond.mp hc⟩
      · exact s.dev.onWrite_of_not_taken a _ htaken
  · refine does_of (s.dev.eventWrite (some v) c w.toNat) rfl ?_
    intro a e
    have heq : s.dev.eventWrite (some v) c w.toNat = s.dev.onWrite a fun d =>
        if decide (e ∈ tenantEvents) && d.bit (Page.vfm.base v + Off.vfmCntGrant) (c.val % 8) then (d.noteWrite a).setReg a e
        else d.writeLost a := rfl
    have hcond : (decide (e ∈ tenantEvents) && s.dev.bit (Page.vfm.base v + Off.vfmCntGrant) (c.val % 8)) = true ↔
        e ∈ tenantEvents ∧ s.dev.bit (Page.vfm.base v + Off.vfmCntGrant) (c.val % 8) = true := by
      rw [Bool.and_eq_true, decide_eq_true_eq]
    split
    next h =>
      obtain ⟨hb, hl, hevent⟩ := h
      rw [heq, s.dev.onWrite_of_taken a _ ⟨hb, hl⟩, if_pos (hcond.mpr hevent)]
      refine ⟨Device.reg_setReg_word _ _ _ (by omega), Device.regsBut_setReg _ a _, rfl⟩
    next h =>
      rw [heq]
      by_cases htaken : s.dev.writeBarred a = false ∧ s.dev.pageLocked a = false
      · rw [s.dev.onWrite_of_taken a _ htaken]
        exact if_neg fun hc => h ⟨htaken.1, htaken.2, hcond.mp hc⟩
      · exact s.dev.onWrite_of_not_taken a _ htaken

/-! ## Replay capture -/

/-- Settles O18: by whether the write is refused, and whether a running capture stays on. -/
theorem replayCapture : Obligations.ReplayCapture := by
  unfold Obligations.ReplayCapture
  intro w s
  refine does_of (s.dev.captureWrite w.toNat) rfl ?_
  intro a v r on size freed refused
  have hcond : ((on && ((s.dev.vf v).st == .absent || (s.dev.vf v).st == .destroyed)) ||
      (on && !decide (s.dev.ringBytes - freed + 96 * 2 ^ size ≤ 4096 * 2 ^ 20)) ||
      (r.capture && (size != r.sizeLog2 || w.toNat.testBit 30 != r.inputs)) || decide (size < 10) || decide (24 < size)) = true ↔
      (on = true ∧ ((s.dev.vf v).st = .absent ∨ (s.dev.vf v).st = .destroyed)) ∨
      (on = true ∧ 4096 * 2 ^ 20 < s.dev.ringBytes - freed + 96 * 2 ^ size) ∨
      (r.capture = true ∧ (size ≠ r.sizeLog2 ∨ w.toNat.testBit 30 ≠ r.inputs)) ∨ size < 10 ∨ 24 < size := by
    simp only [Bool.or_eq_true, Bool.and_eq_true, Bool.not_eq_true', decide_eq_true_eq, decide_eq_false_iff_not, beq_iff_eq,
      bne_iff_ne, Nat.not_le, or_assoc]
  have heq : s.dev.captureWrite w.toNat = s.dev.onWrite a fun d =>
      if ((on && ((s.dev.vf v).st == .absent || (s.dev.vf v).st == .destroyed)) ||
          (on && !decide (s.dev.ringBytes - freed + 96 * 2 ^ size ≤ 4096 * 2 ^ 20)) ||
          (r.capture && (size != r.sizeLog2 || w.toNat.testBit 30 != r.inputs)) || decide (size < 10) || decide (24 < size)) = true
        then d.writeLost a
      else if (on && r.capture) = true then d
      else d.setRing v { Ring.initial with capture := on, inputs := w.toNat.testBit 30, sizeLog2 := size } := by
    unfold Device.captureWrite Device.onWrite
    rfl
  have htaken : ¬refused → s.dev.writeBarred a = false ∧ s.dev.pageLocked a = false := fun h =>
    ⟨Bool.eq_false_iff.mpr fun hb => h (.inl hb), Bool.eq_false_iff.mpr fun hl => h (.inr (.inl hl))⟩
  rw [heq]
  refine ⟨fun h => ?_, fun h hon hcap => ?_, fun h hoff => ?_⟩
  · by_cases hlost : s.dev.writeBarred a = true ∨ s.dev.pageLocked a = true
    · exact s.dev.onWrite_of_lost a _ hlost
    · rw [s.dev.onWrite_of_not_lost a _ hlost]
      obtain h | h | h := h
      · exact absurd (.inl h) hlost
      · exact absurd (.inr h) hlost
      · exact if_pos (hcond.mpr h)
  · rw [s.dev.onWrite_of_taken a _ (htaken h), if_neg fun hc => h (.inr (.inr (hcond.mp hc))), if_pos (by rw [hon, hcap]; rfl)]
  · rw [s.dev.onWrite_of_taken a _ (htaken h), if_neg fun hc => h (.inr (.inr (hcond.mp hc))),
      if_neg fun hc => hoff (Bool.and_eq_true_iff.mp hc)]
    have hring : ∀ x, (s.dev.setRing v x).ring v = x := fun x => (Table.get_put _ _ _ _ _).trans (if_pos rfl)
    rw [hring]
    exact ⟨rfl, rfl, rfl, rfl, rfl, fun u hu => Table.get_put_ne _ _ _ _ _ hu, rfl⟩

end Sys2Proof.Machine
end

section
/-! SUPPORT. Commands that end with a result, the EXPORT of a replay blob, and the host's requests for random words (18_counters_replay.md R724 to
R728; 17_random_numbers.md R701 to R709). -/

namespace Sys2Proof.Machine

/-! ## A command that ends with a result -/

/-- A result register takes a code, the command's bit falls with its DONE bit set, and an interrupt bit rises. -/
def Device.endedWith (d : Device) (res code cmd req done : Nat) (p : Page) (n i : Nat) : Device :=
  ((d.setResult res code).commandEnd cmd req done).raiseInt p n i

/-- What such an end shows, where its three registers are different ones. -/
theorem Device.endedWith_facts (d : Device) {res code cmd req done : Nat} {p : Page} {n i : Nat} (hcode : code < 256) (hrc : res ≠ cmd)
    (hri : res ≠ p.base n + 0x10) (hci : cmd ≠ p.base n + 0x10) (hreq : req < 32) (hdone : done < 32) (hrd : req ≠ done) (hi : i < 32) :
    let t := d.endedWith res code cmd req done p n i
    t.field res 23 16 = code ∧ t.bit cmd req = false ∧ t.bit cmd done = true ∧ t.bit (p.base n + 0x10) i = true ∧
    d.regsBut t [cmd, res, p.base n + 0x10] := by
  unfold Device.endedWith
  refine ⟨?_, ?_, ?_, ?_, fun a ha => ?_⟩
  · rw [Device.field_raiseInt_ne _ _ _ _ _ _ _ hri, Device.field_commandEnd_ne _ _ _ _ _ _ _ hrc, Device.field_setResult, Nat.mod_eq_of_lt hcode]
  · rw [Device.bit_raiseInt_ne _ _ _ _ _ _ hci, Device.bit_commandEnd _ _ _ _ _ hreq]
    simp [hrd]
  · rw [Device.bit_raiseInt_ne _ _ _ _ _ _ hci, Device.bit_commandEnd _ _ _ _ _ hdone]
    simp
  · rw [Device.bit_raiseInt _ _ _ _ _ hi]
    simp
  · have hac := List.ne_of_not_mem_cons ha
    have ha' := List.not_mem_of_not_mem_cons ha
    have har := List.ne_of_not_mem_cons ha'
    have hai := List.ne_of_not_mem_cons (List.not_mem_of_not_mem_cons ha')
    rw [Device.reg_raiseInt_ne _ _ _ _ _ hai, Device.reg_commandEnd_ne _ _ _ _ _ hac, Device.reg_setResult_ne _ _ _ _ har]

theorem Device.onlyRegs_endedWith (d t : Device) (res code cmd req done : Nat) (p : Page) (n i : Nat) (h : d.onlyRegs t) :
    d.onlyRegs (t.endedWith res code cmd req done p n i) := by
  unfold Device.endedWith
  exact Device.onlyRegs_raiseInt _ _ _ _ _ (Device.onlyRegs_commandEnd _ _ _ _ _ (Device.onlyRegs_setResult _ _ _ _ h))

/-- A change of registers alone leaves what is exported. -/
theorem Device.onlyRegs_exporting {d t : Device} (h : d.onlyRegs t) : t.exporting = d.exporting := by
  unfold Device.onlyRegs at h
  rw [h]

theorem Device.onlyRegs_rings {d t : Device} (h : d.onlyRegs t) : t.rings = d.rings := by
  unfold Device.onlyRegs at h
  rw [h]

/-! ## EXPORT -/

/-- An EXPORT that is refused ends at once (R728). -/
theorem Device.exportRefused_facts (d : Device) (code : Nat) (hcode : code < 256) (he : d.exporting.isSome = false) :
    let t := d.exportRefused code
    let a := rplAt Off.rplCmd
    t.field (rplAt Off.rplResult) 23 16 = code ∧ t.bit a 0 = false ∧ t.bit a 1 = true ∧ t.bit 0x13010 0 = true ∧
    t.exporting = none ∧ d.regsBut t [a, rplAt Off.rplResult, 0x13010] ∧ d.onlyRegs t := by
  have heq : d.exportRefused code = (d.commandStart (rplAt Off.rplCmd) 0).endedWith (rplAt Off.rplResult) code (rplAt Off.rplCmd) 0 1 .rpl 0 0 := rfl
  obtain ⟨h1, h2, h3, h4, h5⟩ := (d.commandStart (rplAt Off.rplCmd) 0).endedWith_facts (res := rplAt Off.rplResult) (cmd := rplAt Off.rplCmd)
    (req := 0) (done := 1) (p := .rpl) (n := 0) (i := 0) hcode (by decide) (by decide) (by decide) (by decide) (by decide) (by decide) (by decide)
  have honly : d.onlyRegs (d.exportRefused code) :=
    Device.onlyRegs_endedWith _ _ _ _ _ _ _ _ _ _ (Device.onlyRegs_commandStart _ _ _ _ d.onlyRegs_refl)
  intro t a
  refine ⟨h1, h2, h3, h4, ?_, fun b hb => ?_, honly⟩
  · have hexp : t.exporting = d.exporting := Device.onlyRegs_exporting honly
    rw [hexp]
    exact Option.not_isSome_iff_eq_none.mp (by simp [he])
  · exact (h5 b hb).trans (Device.reg_commandStart_ne _ _ _ _ (List.ne_of_not_mem_cons hb))

/-- The code that EXPORT ends with at once, or 0 where it starts on these units: the conditions in the order of R728's table. -/
def Device.exportCode (d : Device) (first : Nat) (units : List Unit96) : Nat :=
  let r := d.ring d.rplVf
  if d.bit (Page.vf.base d.rplVf + Off.vfCtrl) 0 = false then 1
  else if r.capture = false ∨ units = [] then 2
  else if d.reg (rplAt Off.rplCap) < 64 + 96 * (units.map fun u => u.records.length).sum then 3
  else if (r.units.head?.all fun u => decide (0 < seqSpan first u.seq)) = true then 5
  else if d.cust.mode ≠ .service ∧ d.cust.mode ≠ .maintenance then 7 else 0

theorem Device.exportCode_lt (d : Device) (first : Nat) (units : List Unit96) : d.exportCode first units < 256 := by
  unfold Device.exportCode
  dsimp only
  split_ifs <;> omega

/-- The units that EXPORT asks for: from the first, as many as are asked, or those to the end of the ring. -/
def Device.exportCount (d : Device) : Nat :=
  if d.reg (rplAt Off.rplExpCount) = 0 then seqSpan (d.reg (rplAt Off.rplExpFirst)) (d.ring d.rplVf).next else d.reg (rplAt Off.rplExpCount)

def Device.exportUnits (d : Device) : List Unit96 := (d.ring d.rplVf).range (d.reg (rplAt Off.rplExpFirst)) d.exportCount

def Device.exportBegun (d : Device) : Device := { d.commandStart (rplAt Off.rplCmd) 0 with
  exporting := some { vf := d.rplVf, first := d.reg (rplAt Off.rplExpFirst), count := d.exportCount, units := d.exportUnits } }

/-- EXPORT by its code, where it is taken. -/
theorem Device.exportStart_of_taken (d : Device)
    (h : ¬(d.writeBarred (rplAt Off.rplCmd) = true ∨ d.exporting.isSome = true)) :
    d.exportStart = if d.exportCode (d.reg (rplAt Off.rplExpFirst)) d.exportUnits = 0 then d.exportBegun
      else d.exportRefused (d.exportCode (d.reg (rplAt Off.rplExpFirst)) d.exportUnits) := by
  obtain ⟨hb, he⟩ := not_or.mp h
  unfold Device.exportStart
  refine (d.onCommand_of_not_barred (rplAt Off.rplCmd) _ (Bool.eq_false_iff.mpr hb)).trans ((if_neg he).trans ?_)
  extract_lets v r first asked count units recs
  have hunits : d.exportUnits = units := rfl
  have hbegun : d.exportBegun = { d.commandStart (rplAt Off.rplCmd) 0 with
    exporting := some { vf := v, first := first, count := count, units := units } } := rfl
  rw [hunits, hbegun]
  have hcode : d.exportCode first units = if d.bit (Page.vf.base v + Off.vfCtrl) 0 = false then 1
    else if r.capture = false ∨ units = [] then 2 else if d.reg (rplAt Off.rplCap) < 64 + 96 * recs then 3
    else if (r.units.head?.all fun u => decide (0 < seqSpan first u.seq)) = true then 5
    else if d.cust.mode ≠ .service ∧ d.cust.mode ≠ .maintenance then 7 else 0 := rfl
  change _ = if d.exportCode first units = 0 then _ else d.exportRefused (d.exportCode first units)
  rw [hcode]
  clear_value units recs v r
  simp only [Bool.not_eq_true', Bool.or_eq_true, List.isEmpty_iff]
  by_cases h1 : d.bit (Page.vf.base v + Off.vfCtrl) 0 = false
  · simp only [if_pos h1, one_ne_zero, if_false]
  by_cases h2 : r.capture = false ∨ units = []
  · simp only [if_neg h1, if_pos h2, OfNat.ofNat_ne_zero, if_false]
  by_cases h3 : d.reg (rplAt Off.rplCap) < 64 + 96 * recs
  · simp only [if_neg h1, if_neg h2, if_pos h3, OfNat.ofNat_ne_zero, if_false]
  simp only [if_neg h1, if_neg h2, if_neg h3]
  have hold : ∀ (p : Unit96 → Bool), r.units.head?.all p = match r.units with | u :: _ => p u | [] => true := fun p => by
    cases r.units <;> rfl
  rw [hold]
  cases r.units with
  | nil => simp only [if_true, OfNat.ofNat_ne_zero, if_false]
  | cons u us =>
    by_cases h5 : decide (0 < seqSpan first u.seq) = true
    · simp only [h5, if_true, OfNat.ofNat_ne_zero, if_false]
    · simp only [h5, Bool.false_eq_true, if_false]
      by_cases h7 : d.cust.mode ≠ .service ∧ d.cust.mode ≠ .maintenance
      · simp only [if_pos h7, OfNat.ofNat_ne_zero, if_false]
      · simp only [if_neg h7, if_true]
        rfl

theorem Device.exportStart_of_lost (d : Device) (h : d.writeBarred (rplAt Off.rplCmd) = true ∨ d.exporting.isSome = true) :
    d.exportStart = d.writeLost (rplAt Off.rplCmd) := by
  unfold Device.exportStart Device.onCommand
  by_cases hb : d.writeBarred (rplAt Off.rplCmd) = true
  · exact if_pos hb
  · exact (if_neg hb).trans (if_pos (h.resolve_left hb))

/-- What the start of an EXPORT changes: its command bit, and what is being exported. -/
theorem Device.exportBegun_facts (d : Device) :
    d.exportBegun.exporting = some { vf := d.rplVf, first := d.reg (rplAt Off.rplExpFirst), count := d.exportCount, units := d.exportUnits } ∧
    d.exportBegun.bit (rplAt Off.rplCmd) 0 = true ∧ d.regsBut d.exportBegun [rplAt Off.rplCmd] ∧
    d.exportBegun = { d with pages := d.exportBegun.pages, exporting := d.exportBegun.exporting } := by
  refine ⟨rfl, ?_, fun a ha => d.reg_commandStart_ne _ a 0 (List.ne_of_not_mem_cons ha), rfl⟩
  exact (d.bit_commandStart (rplAt Off.rplCmd) 0 0 (by decide)).trans (by simp)

/-- The end of an EXPORT that runs (R728). -/
theorem Device.endExport_of_running (d : Device) (code : Nat) (h : d.exporting.isSome = true) :
    d.endExport code = ({ d with exporting := none } : Device).endedWith (rplAt Off.rplResult) code (rplAt Off.rplCmd) 0 1 .rpl 0 0 := by
  unfold Device.endExport
  obtain ⟨e, he⟩ := Option.isSome_iff_exists.mp h
  rw [he]
  rfl

theorem Device.endExport_facts (d : Device) (code : Nat) (hcode : code < 256) (h : d.exporting.isSome = true) :
    let t := d.endExport code
    t.exporting = none ∧ t.field (rplAt Off.rplResult) 23 16 = code ∧ t.bit (rplAt Off.rplCmd) 0 = false ∧
    t.bit (rplAt Off.rplCmd) 1 = true ∧ t.rings = d.rings ∧
    (∀ a, a ∉ [rplAt Off.rplCmd, rplAt Off.rplResult, Page.rpl.base 0 + 0x10] → t.reg a = d.reg a) := by
  have heq := d.endExport_of_running code h
  obtain ⟨h1, h2, h3, _, h5⟩ := ({ d with exporting := none } : Device).endedWith_facts (res := rplAt Off.rplResult)
    (cmd := rplAt Off.rplCmd) (req := 0) (done := 1) (p := .rpl) (n := 0) (i := 0) hcode (by decide) (by decide) (by decide)
    (by decide) (by decide) (by decide) (by decide)
  have honly := Device.onlyRegs_endedWith ({ d with exporting := none } : Device) _ (rplAt Off.rplResult) code (rplAt Off.rplCmd) 0 1 .rpl 0 0
    (Device.onlyRegs_refl _)
  intro t
  refine ⟨?_, ?_, ?_, ?_, (congrArg Device.rings heq).trans (Device.onlyRegs_rings (d := { d with exporting := none }) honly), ?_⟩
  · exact (congrArg Device.exporting heq).trans (Device.onlyRegs_exporting (d := { d with exporting := none }) honly)
  · rw [show t = _ from heq]; exact h1
  · rw [show t = _ from heq]; exact h2
  · rw [show t = _ from heq]; exact h3
  · rw [show t = _ from heq]; exact h5

/-- Settles O19: EXPORT by the first condition of R728's table that refuses it, EXPORT_END by whether the host took the blob. -/
theorem replayExport : Obligations.ReplayExport := by
  unfold Obligations.ReplayExport
  refine ⟨fun s => ?_, fun ok s => ?_⟩
  · refine does_of s.dev.exportStart rfl ?_
    intro d a r first asked count units code
    have hcode : code = d.exportCode first units := rfl
    split
    next hlost => exact s.dev.exportStart_of_lost hlost
    next htaken =>
      have hdo := s.dev.exportStart_of_taken htaken
      rw [hcode]
      split
      next hzero =>
        rw [hdo.trans (if_pos hzero)]
        exact s.dev.exportBegun_facts
      next hcode' =>
        rw [hdo.trans (if_neg hcode')]
        exact s.dev.exportRefused_facts _ (s.dev.exportCode_lt _ _) (Bool.eq_false_iff.mpr fun h => htaken (.inr h))
  · refine does_of (s.dev.exportEnd ok) rfl ?_
    intro d
    refine ⟨fun h => ?_, fun e he => ?_⟩
    · unfold Device.exportEnd; rw [show s.dev.exporting = none from h]
    · have he' : s.dev.exporting = some e := he
      cases ok with
      | false =>
        have heq : s.dev.exportEnd false = s.dev.endExport 4 := by unfold Device.exportEnd; rw [he']; rfl
        obtain ⟨h1, h2, h3, h4, h5, _⟩ := s.dev.endExport_facts 4 (by decide) (by rw [he']; rfl)
        rw [heq]
        exact ⟨h1, h2, h3, h4, h5, fun h => by cases h⟩
      | true =>
        let blob := s.dev.exportBlob e
        let addr := s.dev.reg (rplAt Off.rplAddrLo) + 2 ^ 32 * s.dev.reg (rplAt Off.rplAddrHi)
        let sent := (s.dev.drawn.emit (.hostWrite (addr + 0x40) (blob.drop 0x40))).emit (.hostWrite addr (blob.take 0x40))
        have heq : s.dev.exportEnd true = (sent.setReg (rplAt Off.rplExpLen) blob.length).endExport 0 := by
          unfold Device.exportEnd; rw [he']; rfl
        obtain ⟨h1, h2, h3, h4, h5, h6⟩ := (sent.setReg (rplAt Off.rplExpLen) blob.length).endExport_facts 0 (by decide)
          (show s.dev.exporting.isSome = true by rw [he']; rfl)
        have hsent : ∀ o, sent.gave (.sent o) → ((sent.setReg (rplAt Off.rplExpLen) blob.length).endExport 0).gave (.sent o) :=
          fun o h => gave_endExport _ _ (gave_setReg _ _ _ h)
        rw [heq]
        refine ⟨h1, h2, h3, h4, h5, fun _ => ⟨hsent _ (gave_emit _ _ (gave_emit_self _ _)), hsent _ (gave_emit_self _ _), ?_⟩⟩
        have hlen := h6 (rplAt Off.rplExpLen) (by decide)
        unfold Device.field
        rw [hlen]
        refine (sent.field_setReg _ blob.length 31 0 (by decide)).trans ?_
        simp only [bitsOf, pow_zero, Nat.div_one]
        rfl

end Sys2Proof.Machine
end

section
/-! SUPPORT. The host's requests for random words (17_random_numbers.md R701 to R709). -/

namespace Sys2Proof.Machine

/-! ## Words stored in consecutive registers -/

theorem leNat_lt (bs : Bytes) : leNat bs < 256 ^ bs.length := by
  induction bs with
  | nil => exact Nat.one_pos
  | cons b bs ih =>
    have hb : b.toNat < 256 := b.isLt
    rw [leNat, List.length_cons, pow_succ]
    omega

theorem slice_length (bs : Bytes) (off n : Nat) : (slice bs off n).length = n := by
  simp [slice, padTo, zeros]

theorem leNat_slice_word (bs : Bytes) (off : Nat) : leNat (slice bs off 4) < 2 ^ 32 :=
  (leNat_lt _).trans_eq (by rw [slice_length]; rfl)

/-- Each of the registers that words are stored in holds its four bytes. -/
theorem Device.reg_storeWords (d : Device) (a n j : Nat) (bs : Bytes) (hj : j < n) :
    (d.storeWords a n bs).reg (a + 4 * j) = leNat (slice bs (4 * j) 4) := by
  unfold Device.storeWords
  refine foldl_establishes _ (fun t : Device => t.reg (a + 4 * j) = leNat (slice bs (4 * j) 4)) j _ d (List.mem_range.mpr hj)
    (fun t => t.reg_setReg_word _ _ (leNat_slice_word bs _)) fun t i _ h => ?_
  by_cases hij : i = j
  · rw [hij]; exact t.reg_setReg_word _ _ (leNat_slice_word bs _)
  · exact (Device.reg_setReg_ne t _ _ _ (by omega)).trans h

/-- Registers alone change, without a message. -/
theorem Device.storeWords_frame (d : Device) (a n : Nat) (bs : Bytes) : d.storeWords a n bs = { d with pages := (d.storeWords a n bs).pages } := by
  unfold Device.storeWords
  refine foldl_keeps _ (fun t : Device => t = { d with pages := t.pages }) _ d rfl fun t i _ h => ?_
  obtain ⟨p, rfl⟩ : ∃ p, t = { d with pages := p } := ⟨_, h⟩
  rfl

/-! ## The generator -/

theorem Device.drawn_rng (d : Device) : d.drawn.rng = d.rng.count d.patterned := rfl

/-- A draw depends on the generator and on the test pattern alone. -/
theorem Device.random_congr {d t : Device} (hrng : t.rng = d.rng) (hpat : t.patterned = d.patterned) :
    t.random 32 = d.random 32 ∧ t.drawn.rng = d.drawn.rng := by
  unfold Device.random
  rw [Device.drawn_rng, Device.drawn_rng, hrng, hpat]
  refine ⟨?_, rfl⟩
  simp only [Device.requests, hrng, hpat]

/-- R705's class 4 leaves the queue. -/
def Rng.withoutHost (r : Rng) : Rng := { r with queue := r.queue.filter fun q => q.cls != 4 }

/-- A request that ends has left the queue, with a draw where it gives words. -/
def Device.requestDrawn (d : Device) (gives : Bool) : Device :=
  ((if gives then d.drawn else d).mapRng Rng.withoutHost).mapCyc fun c => { c with
    rcOld := (List.range 8).foldl (fun t j => t.insert (rngAt Off.rngHostData + 4 * j) (d.reg (rngAt Off.rngHostData + 4 * j))) c.rcOld }

/-- A request that ends, with the words it gives in place, before its code, DONE and interrupt. -/
def Device.requestServed (d : Device) (gives : Bool) : Device :=
  (d.requestDrawn gives).storeWords (rngAt Off.rngHostData) 8 (if gives then d.random 32 else zeros 32)

/-- The code that a request ends with (R709). -/
def Device.requestCode (d : Device) (served : Bool) : Nat :=
  if d.cust.mode == .quarantine || d.cust.mode == .zeroized then 2 else if !served then 1
    else if d.cust.mode == .manufacture && d.bit (rngAt Off.rngCtrl) 0 then 3 else 0

def Device.requestGives (d : Device) (served : Bool) : Bool := served && !(d.cust.mode == .quarantine || d.cust.mode == .zeroized)

theorem Device.reqEnd_eq (d : Device) (served : Bool) : d.reqEnd served =
    (d.requestServed (d.requestGives served)).endedWith (rngAt Off.rngHostStat) (d.requestCode served) (rngAt Off.rngHostCmd) 0 1 .rng 0 1 := rfl

theorem Device.requestGives_iff (d : Device) (served : Bool) :
    d.requestGives served = true ↔ d.requestCode served = 0 ∨ d.requestCode served = 3 := by
  unfold Device.requestGives Device.requestCode
  cases hoff : (d.cust.mode == .quarantine || d.cust.mode == .zeroized) <;> cases served
  · simp
  · simp only [Bool.not_false, Bool.and_self, Bool.not_true, Bool.false_eq_true, if_false, true_iff]
    split <;> simp
  · simp
  · simp

theorem Device.requestServed_facts (d : Device) (gives : Bool) :
    let t := d.requestServed gives
    t.rng = (if gives then d.drawn.rng else d.rng).withoutHost ∧
    (∀ j, j < 8 → t.reg (rngAt Off.rngHostData + 4 * j) = leNat (slice (if gives then d.random 32 else zeros 32) (4 * j) 4)) ∧
    t = { d with pages := t.pages, rng := t.rng } := by
  intro t
  have hdrawn : d.requestDrawn gives = { d with
      pages := (d.requestDrawn gives).pages, rng := (if gives then d.drawn.rng else d.rng).withoutHost } := by
    cases gives <;> rfl
  have hframe : t = { d.requestDrawn gives with pages := t.pages } := Device.storeWords_frame _ _ _ _
  have hrng : t.rng = (d.requestDrawn gives).rng := Device.storeWords_rng _ _ _ _
  rw [hdrawn] at hrng hframe
  exact ⟨hrng, fun j hj => Device.reg_storeWords _ _ _ _ _ hj, hrng ▸ hframe⟩

/-- What the end of a request leaves, where it ends with this code: R701, R709. -/
def Device.requestEnded (d t : Device) (code : Nat) : Prop :=
  t.field (rngAt Off.rngHostStat) 23 16 = code ∧ t.bit (rngAt Off.rngHostCmd) 0 = false ∧ t.bit (rngAt Off.rngHostCmd) 1 = true ∧
  t.bit 0x9010 1 = true ∧
  (code = 1 ∨ code = 2 → t.rng = d.rng.withoutHost ∧ ∀ j, j < 8 → t.reg (rngAt Off.rngHostData + 4 * j) = 0) ∧
  (code = 0 ∨ code = 3 → t.rng.draws = d.rng.draws + 1 ∧ t.rng.insts = d.drawn.rng.insts ∧
    ∀ j, j < 8 → t.reg (rngAt Off.rngHostData + 4 * j) = leNat (slice (d.random 32) (4 * j) 4) % 2 ^ 32) ∧
  t = { d with pages := t.pages, out := t.out, rng := t.rng, front := { d.front with msix := t.front.msix } }

theorem Device.requestCode_lt (d : Device) (served : Bool) : d.requestCode served < 256 := by
  unfold Device.requestCode
  split_ifs <;> omega

theorem Device.reqEnd_ended (d : Device) (served : Bool) : d.requestEnded (d.reqEnd served) (d.requestCode served) := by
  obtain ⟨hrng, hwords, hframe⟩ := d.requestServed_facts (d.requestGives served)
  have hgives := d.requestGives_iff served
  have heq := d.reqEnd_eq served
  generalize d.requestServed (d.requestGives served) = u at hrng hwords hframe heq
  obtain ⟨h1, h2, h3, h4, h5⟩ := u.endedWith_facts (res := rngAt Off.rngHostStat) (cmd := rngAt Off.rngHostCmd)
    (req := 0) (done := 1) (p := .rng) (n := 0) (i := 1) (d.requestCode_lt served) (by decide) (by decide) (by decide) (by decide)
    (by decide) (by decide) (by decide)
  have honly := Device.onlyRegs_endedWith u _ (rngAt Off.rngHostStat) (d.requestCode served) (rngAt Off.rngHostCmd) 0 1 .rng 0 1 u.onlyRegs_refl
  rw [← heq] at h1 h2 h3 h4 h5 honly
  have hrng' : (d.reqEnd served).rng = u.rng := by
    unfold Device.onlyRegs at honly; rw [honly]
  have hword : ∀ j, j < 8 → (d.reqEnd served).reg (rngAt Off.rngHostData + 4 * j) =
      leNat (slice (if d.requestGives served then d.random 32 else zeros 32) (4 * j) 4) := fun j hj => by
    refine (h5 _ ?_).trans (hwords j hj)
    simp only [rngAt, Page.base, Off.rngHostCmd, Off.rngHostStat, Off.rngHostData, List.mem_cons, List.not_mem_nil, or_false]
    omega
  refine ⟨h1, h2, h3, h4, fun hcode => ?_, fun hcode => ?_, ?_⟩
  · have hno : d.requestGives served = false := Bool.eq_false_iff.mpr fun h => by have := hgives.mp h; omega
    rw [hno] at hrng hword
    refine ⟨hrng'.trans hrng, fun j hj => (hword j hj).trans ?_⟩
    simp only [Bool.false_eq_true, if_false, slice_zeros, leNat_zeros]
  · rw [hgives.mpr hcode, if_pos rfl] at hrng
    simp only [hgives.mpr hcode, if_true] at hword
    have hdrawn : (d.reqEnd served).rng = d.drawn.rng.withoutHost := hrng'.trans hrng
    refine ⟨?_, by rw [hdrawn]; rfl, fun j hj => (hword j hj).trans (Nat.mod_eq_of_lt (leNat_slice_word _ _)).symm⟩
    rw [hdrawn]; exact d.drawn_draws
  · obtain ⟨p, r, hu⟩ : ∃ p r, u = { d with pages := p, rng := r } := ⟨_, _, hframe⟩
    subst hu
    obtain ⟨p', o', m', ht⟩ : ∃ p' o' m', d.reqEnd served = { d with pages := p', rng := r, out := o', front := { d.front with msix := m' } } := ⟨_, _, _, honly⟩
    rw [ht]

/-- The bit of the request itself matters nothing to what its end leaves. -/
theorem Device.requestEnded_commandStart {d t : Device} {code : Nat} (h : (d.commandStart (rngAt Off.rngHostCmd) 0).requestEnded t code) :
    d.requestEnded t code := by
  obtain ⟨h1, h2, h3, h4, h5, h6, h7⟩ := h
  have hpat : (d.commandStart (rngAt Off.rngHostCmd) 0).patterned = d.patterned :=
    congrArg (bitOf · 0) (d.reg_commandStart_ne (rngAt Off.rngHostCmd) 0x9040 0 (by decide))
  obtain ⟨hrandom, hdrawn⟩ := Device.random_congr (d := d) (t := d.commandStart (rngAt Off.rngHostCmd) 0) rfl hpat
  rw [hrandom, hdrawn] at h6
  exact ⟨h1, h2, h3, h4, h5, h6, h7⟩

theorem Device.requestCode_commandStart (d : Device) (served : Bool) :
    (d.commandStart (rngAt Off.rngHostCmd) 0).requestCode served = d.requestCode served := by
  unfold Device.requestCode
  rw [Device.bit_commandStart_ne _ _ _ _ _ (by decide)]
  rfl

/-- A request waits in a shortage. -/
theorem Device.queueRequest_facts (d : Device) (q : RngReq) :
    let t := d.queueRequest q
    q ∈ t.rng.queue ∧ t.pages = d.pages ∧ t = { d with rng := { d.rng with queue := t.rng.queue } } :=
  ⟨List.mem_append_right _ List.mem_cons_self, rfl, rfl⟩

/-- A command of a page that is not being reset and that does not run. -/
theorem Device.onIdle_of_idle (d : Device) (a req : Nat) (f : Device → Device) (hb : d.writeBarred a = false) (hr : d.bit a req = false) :
    d.onIdle a req 0 f = f d := by
  refine (d.onCommand_of_not_barred a _ hb).trans ?_
  simp [hr]

theorem Device.onIdle_of_running (d : Device) (a req busy : Nat) (f : Device → Device) (hb : d.writeBarred a = false) (hr : d.bit a req = true) :
    d.onIdle a req busy f = d :=
  (d.onCommand_of_not_barred a _ hb).trans (if_pos hr)

theorem Device.onIdle_of_barred (d : Device) (a req busy : Nat) (f : Device → Device) (hb : d.writeBarred a = true) :
    d.onIdle a req busy f = d.writeLost a := if_pos hb

/-- Settles O20: REQ by the mode and the shortage, REQ_TIMEOUT by whether a request waits. -/
theorem rngRequests : Obligations.RngRequests := by
  unfold Obligations.RngRequests
  refine ⟨fun s => ?_, fun s => ?_⟩
  · refine does_of s.dev.req rfl ?_
    intro d a off
    have hoff : (d.cust.mode == .quarantine || d.cust.mode == .zeroized) = decide off := Mode.off_iff _
    have hend : ∀ code, d.requestCode true = code →
        d.requestEnded ((d.commandStart a 0).reqEnd true) code := fun code h =>
      Device.requestEnded_commandStart (by rw [← h, ← d.requestCode_commandStart]; exact Device.reqEnd_ended _ true)
    by_cases hb : d.writeBarred a = true
    · rw [if_pos hb]
      exact d.onIdle_of_barred _ _ _ _ hb
    have hb' := Bool.eq_false_iff.mpr hb
    rw [if_neg hb]
    by_cases hr : d.bit a 0 = true
    · rw [if_pos hr]
      exact d.onIdle_of_running _ _ _ _ hb' hr
    rw [if_neg hr]
    have hreq := d.onIdle_of_idle a 0 (fun d => if !(d.cust.mode == .quarantine || d.cust.mode == .zeroized) && d.rng.shortage
      then (d.commandStart a 0).queueRequest { cls := 4, item := 0 } else (d.commandStart a 0).reqEnd true) hb' (Bool.eq_false_iff.mpr hr)
    rw [hoff] at hreq
    by_cases ho : off
    · have hcode : d.requestCode true = 2 := by
        unfold Device.requestCode
        rw [hoff, decide_eq_true ho, if_pos rfl]
      rw [if_pos ho, show s.dev.req = (d.commandStart a 0).reqEnd true from hreq.trans (by simp [ho])]
      exact hend 2 hcode
    rw [if_neg ho]
    by_cases hs : d.rng.shortage = true
    · rw [if_pos hs, show s.dev.req = (d.commandStart a 0).queueRequest { cls := 4, item := 0 } from hreq.trans (by simp [ho, hs])]
      obtain ⟨hmem, _, _⟩ := (d.commandStart a 0).queueRequest_facts { cls := 4, item := 0 }
      refine ⟨?_, ?_, ⟨_, hmem, rfl⟩, rfl⟩
      · exact (d.bit_commandStart a 0 0 (by decide)).trans (by simp)
      · exact fun b hb => d.reg_commandStart_ne a b 0 (List.ne_of_not_mem_cons hb)
    · rw [if_neg hs, show s.dev.req = (d.commandStart a 0).reqEnd true from hreq.trans (by simp [hs])]
      refine hend _ ?_
      unfold Device.requestCode
      rw [hoff, decide_eq_false ho]
      simp
  · refine does_of (if s.dev.reqWaits then s.dev.reqEnd false else s.dev) rfl ?_
    by_cases hw : s.dev.bit (rngAt Off.rngHostCmd) 0 = true
    · rw [if_pos hw, if_pos (show s.dev.reqWaits = true from hw)]
      have h := s.dev.reqEnd_ended false
      have hcode : s.dev.requestCode false = if s.dev.cust.mode = .quarantine ∨ s.dev.cust.mode = .zeroized then 2 else 1 := by
        unfold Device.requestCode
        rw [Mode.off_iff]
        simp
      rw [hcode] at h
      exact h
    · rw [if_neg hw, if_neg (show ¬ s.dev.reqWaits = true from hw)]

end Sys2Proof.Machine
end

section
/-! SUPPORT. The chains of the power path, and the settings burns (16_power_clocks_startup.md R662 to R683). -/

namespace Sys2Proof.Machine

/-! ## Chains -/

theorem Power.chain_setChain (p : Power) (c : Nat) (x : Chain) (hc : c < 2) :
    (p.setChain c x).chain c = x ∧ (p.setChain c x).chain (1 - c) = p.chain (1 - c) ∧ (p.setChain c x).active = p.active ∧
    (p.setChain c x).st = p.st ∧ (p.setChain c x).failover = p.failover := by
  obtain rfl | rfl : c = 0 ∨ c = 1 := by omega
  · exact ⟨rfl, rfl, rfl, rfl, rfl⟩
  · exact ⟨rfl, rfl, rfl, rfl, rfl⟩

theorem Power.standby_lt (p : Power) : p.standby < 2 := by
  unfold Power.standby
  split <;> omega

theorem Device.powerStep_units (d : Device) (f : Power → Power) : (d.powerStep f).units = d.units :=
  (Device.onlyRegs_fields (d.onlyRegs_powerStep f)).2.2.1

theorem Device.powerStep_causes (d : Device) (f : Power → Power) : (d.powerStep f).causes = d.causes := by
  have h := d.onlyRegs_powerStep f
  unfold Device.onlyRegs at h
  rw [h]
  rfl

/-- The orderly stop (R670), as the statements say it, from any power state. -/
theorem Device.powerStop_stopped (d : Device) : (d.powerStop.causes.mem 0 = true ∧ d.powerStop.causes.mem 1 = true) ∧
    d.powerStop.power.st = .stopping ∧ d.powerStop.power.failover = false ∧ d.powerStop.power.stopRecorded = true ∧
    d.powerStop.front.vfEnable = false ∧ d.powerStop.sched.items = [] ∧ d.powerStop.dom.portUp = [false, false] := by
  obtain ⟨h1, h2, h3, h4, h5, h6, _⟩ := d.powerStop_facts
  refine ⟨?_, h1, h2, h3, h4, h5, h6⟩
  rw [Device.powerStop_causes]
  simp [NatSet.mem_add]

/-- A stop changes neither the chains nor the active one, and drops no cause. -/
theorem Device.powerStop_keeps (d : Device) : (∀ c, d.powerStop.power.chain c = d.power.chain c) ∧ d.powerStop.power.active = d.power.active ∧
    ∀ k, d.causes.mem k = true → d.powerStop.causes.mem k = true := by
  obtain ⟨_, _, _, _, _, _, h⟩ := d.powerStop_facts
  rw [h, Device.powerStop_causes]
  refine ⟨fun c => rfl, rfl, fun k hk => ?_⟩
  simp [NatSet.mem_add, hk]

/-- A chain turns unhealthy, before what follows from its role. -/
def Device.chainDown (d : Device) (c : Nat) (feedOk : Bool) (mv : Nat) : Device :=
  let x := d.power.chain c
  let d1 := d.powerStep fun p => p.setChain c { x with feedOk := feedOk, outOk := false, selfTest := x.selfTest && feedOk, mv := mv }
  if !feedOk && x.feedOk then (d1.fault c).holdCause c true else d1

theorem Device.chainDown_facts (d : Device) (c : Nat) (ok : Bool) (mv : Nat) (hc : c < 2) :
    let t := d.chainDown c ok mv
    t.guarded = d.guarded ∧ (t.power.chain c).feedOk = ok ∧ (t.power.chain c).outOk = false ∧ (t.power.chain c).mv = mv ∧
    t.power.chain (1 - c) = d.power.chain (1 - c) ∧ t.power.active = d.power.active ∧ t.power.st = d.power.st ∧
    t.power.failover = d.power.failover ∧
    (ok = false → (d.power.chain c).feedOk = true → t.gave (.event c) ∧ t.causes.mem c = true) := by
  intro t
  let x : Chain := { d.power.chain c with feedOk := ok, outOk := false, selfTest := (d.power.chain c).selfTest && ok, mv := mv }
  have hpower : t.power = d.power.setChain c x := by
    have h1 : (d.powerStep fun p => p.setChain c x).power = d.power.setChain c x := d.powerStep_power _
    show (if _ then _ else _ : Device).power = _
    split
    · rw [Device.holdCause_power, Device.fault_power]; exact h1
    · exact h1
  have hguarded : t.guarded = d.guarded := by
    have h1 : (d.powerStep fun p => p.setChain c x).guarded = d.guarded := guarded_powerStep d _ ⟨d.power.setChain_otp c x, d.power.setChain_burn c x⟩
    show (if _ then _ else _ : Device).guarded = _
    split
    · rw [guarded_holdCause, guarded_fault]; exact h1
    · exact h1
  obtain ⟨h1, h2, h3, h4, h5⟩ := d.power.chain_setChain c x hc
  rw [hpower, h1]
  refine ⟨hguarded, rfl, rfl, rfl, h2, h3, h4, h5, fun hok hfeed => ?_⟩
  have hlost : t = ((d.powerStep fun p => p.setChain c x).fault c).holdCause c true := if_pos (by rw [hok, hfeed]; rfl)
  rw [hlost]
  exact ⟨gave_holdCause _ _ _ (gave_fault_self _ _), (NatSet.mem_add _ _ _).trans (by simp)⟩

theorem Device.chainUnhealthy_eq (d : Device) (c : Nat) (ok : Bool) (mv : Nat) (h : d.running = true) : d.chainUnhealthy c ok mv =
    if d.power.active = c + 1 then
      if (d.power.chain d.power.standby).healthy = true then (d.chainDown c ok mv).mapPower fun p => { p with failover := true }
      else (d.chainDown c ok mv).powerStop
    else if d.power.failover = true then (d.chainDown c ok mv).powerStop else d.chainDown c ok mv :=
  if_neg (by simp [h])

theorem Device.chainHealthy_facts (d : Device) (c mv : Nat) (hc : c < 2) (h : d.running = true) :
    let t := d.chainHealthy c mv
    (t.power.chain c).healthy = true ∧ (t.power.chain c).mv = mv ∧ t.power.chain (1 - c) = d.power.chain (1 - c) ∧
    t.power.active = d.power.active ∧ t.causes.mem c = false ∧
    t = { d with pages := t.pages, out := t.out, power := t.power, causes := t.causes, front := { d.front with msix := t.front.msix } } := by
  let x : Chain := { d.power.chain c with feedOk := true, outOk := true, mv := mv }
  have heq : d.chainHealthy c mv = (d.powerStep fun p => p.setChain c x).holdCause c false := by
    exact if_neg (by simp [h])
  intro t
  have hpower : t.power = d.power.setChain c x := by
    rw [show t = _ from heq, Device.holdCause_power]; exact d.powerStep_power _
  obtain ⟨h1, h2, h3, _, _⟩ := d.power.chain_setChain c x hc
  rw [hpower, h1]
  refine ⟨rfl, rfl, h2, h3, ?_, ?_⟩
  · rw [show t = _ from heq]
    exact (NatSet.mem_erase _ _ _).trans (by simp)
  · obtain ⟨p, o, m, hp⟩ : ∃ p o m, (d.powerStep fun p => p.setChain c x) =
        { d.mapPower fun p => p.setChain c x with pages := p, out := o, front := { d.front with msix := m } } :=
      ⟨_, _, _, d.onlyRegs_powerStep _⟩
    rw [show t = _ from heq, hp]
    rfl

/-- Settles O22: each command by whether the die has its rails, by the chain's role, and by the health of the other. -/
theorem powerChains : Obligations.PowerChains := by
  unfold Obligations.PowerChains
  refine ⟨fun c ok mv s => ?_, fun c mv s => ?_, fun s => ?_, fun pass s => ?_, fun s => ?_⟩
  · refine does_of (s.dev.chainUnhealthy c ok mv) rfl ?_
    generalize s.dev = d
    dsimp only
    by_cases hr : d.running = false
    · rw [if_pos hr]
      exact if_pos (by rw [hr]; rfl)
    rw [if_neg hr]
    obtain ⟨h1, h2, h3, h4, h5, h6, h7, h8, h9⟩ := d.chainDown_facts c ok mv c.isLt
    have hstop := (d.chainDown c ok mv).powerStop_stopped
    obtain ⟨k1, k2, k3⟩ := (d.chainDown c ok mv).powerStop_keeps
    have hevent : ok = false → (d.power.chain c).feedOk = true →
        (d.chainDown c ok mv).powerStop.gave (.event c) ∧ (d.chainDown c ok mv).powerStop.causes.mem c = true := fun ho hf =>
      ⟨gave_powerStop _ (h9 ho hf).1, k3 _ (h9 ho hf).2⟩
    rw [d.chainUnhealthy_eq c ok mv (Bool.not_eq_false _ ▸ hr)]
    by_cases hact : d.power.active = c.val + 1
    · simp only [if_pos hact]
      by_cases hother : (d.power.chain d.power.standby).healthy = true
      · simp only [if_pos hother]
        exact ⟨h1, h2, h3, h4, h5, h6, h9, rfl, h7⟩
      · simp only [if_neg hother]
        rw [guarded_powerStop, k1, k1, k2]
        exact ⟨h1, h2, h3, h4, h5, h6, hevent, hstop⟩
    · simp only [if_neg hact]
      by_cases hfail : d.power.failover = true
      · simp only [if_pos hfail]
        rw [guarded_powerStop, k1, k1, k2]
        exact ⟨h1, h2, h3, h4, h5, h6, hevent, hstop⟩
      · simp only [if_neg hfail]
        exact ⟨h1, h2, h3, h4, h5, h6, h9, h8.trans (Bool.eq_false_iff.mpr hfail), h7⟩
  · refine does_of (s.dev.chainHealthy c mv) rfl ?_
    by_cases hr : s.dev.running = false
    · rw [if_pos hr]
      exact if_pos (by rw [hr]; rfl)
    · rw [if_neg hr]
      exact s.dev.chainHealthy_facts c mv c.isLt (Bool.not_eq_false _ ▸ hr)
  · refine does_of s.dev.failoverEnd rfl ?_
    intro d
    by_cases hf : d.power.failover = false
    · rw [if_pos hf]
      exact if_pos (by rw [show s.dev.power.failover = false from hf]; rfl)
    have hrun : d.failoverEnd = if !(d.power.chain d.power.standby).healthy then d.powerStop else
        (((d.powerStep fun p => { p with active := p.standby + 1, failover := false }).addCnt (pwrAt Off.failoverCnt) 31 0 1 true).raiseInt .pwr 0 0).fault 2 :=
      if_neg (by simp [hf])
    rw [if_neg hf, show s.dev.failoverEnd = _ from hrun]
    by_cases hh : (d.power.chain d.power.standby).healthy = false
    · rw [if_pos hh, if_pos (by rw [hh]; rfl)]
      exact d.powerStop_stopped
    · rw [if_neg hh, if_neg (by simp [hh])]
      refine ⟨?_, gave_fault_self _ _, ?_⟩
      · rw [Device.fault_power, Device.raiseInt_power, Device.addCnt_power]
        exact d.powerStep_power _
      · rw [Device.fault_units, Device.raiseInt_units, Device.addCnt_units]
        exact d.powerStep_units _
  · refine does_of (s.dev.selfTest pass) rfl ?_
    intro d c
    have hsplit : (!d.running || !(d.power.chain c).feedOk) = decide (d.running = false ∨ (d.power.chain c).feedOk = false) := by
      cases d.running <;> cases (d.power.chain c).feedOk <;> rfl
    by_cases hr : d.running = false ∨ (d.power.chain c).feedOk = false
    · rw [if_pos hr]
      exact if_pos (hsplit.trans (decide_eq_true hr))
    let x : Chain := { d.power.chain c with selfTest := pass }
    let u := d.powerStep fun p => p.setChain c x
    have heq : s.dev.selfTest pass = if pass then u.holdCause (3 + c) false else (u.fault (3 + c)).holdCause (3 + c) true :=
      if_neg (by rw [show (!s.dev.running || _) = _ from hsplit]; simp [hr])
    have hu : u.power = d.power.setChain c x := d.powerStep_power _
    obtain ⟨h1, h2, h3, _, _⟩ := d.power.chain_setChain c x d.power.standby_lt
    rw [if_neg hr, heq]
    cases pass with
    | true =>
      rw [if_pos rfl, Device.holdCause_power, Device.holdCause_units, hu, h1, h2, h3]
      exact ⟨rfl, rfl, (NatSet.mem_erase _ _ _).trans (by simp), fun h => (by cases h), rfl, d.powerStep_units _⟩
    | false =>
      rw [if_neg (by decide), Device.holdCause_power, Device.holdCause_units, Device.fault_power, Device.fault_units, hu, h1, h2, h3]
      exact ⟨rfl, rfl, (NatSet.mem_add _ _ _).trans (by simp), fun _ => gave_holdCause _ _ _ (gave_fault_self _ _), rfl, d.powerStep_units _⟩
  · refine does_of s.dev.plannedSwitch rfl ?_
    intro p c
    have hcond : (s.dev.running && !p.failover && s.dev.bit (pwrAt Off.pwrCtrl) 8 && (p.chain c).healthy && (p.chain c).selfTest
        && decide (p.claim (1 - c) < p.claim c)) = true ↔ s.dev.running = true ∧ p.failover = false ∧ s.dev.bit (pwrAt Off.pwrCtrl) 8 = true ∧
          (p.chain c).healthy = true ∧ (p.chain c).selfTest = true ∧ p.claim (1 - c) < p.claim c := by
      simp only [Bool.and_eq_true, Bool.not_eq_true', decide_eq_true_eq, and_assoc]
    by_cases h : s.dev.running = true ∧ p.failover = false ∧ s.dev.bit (pwrAt Off.pwrCtrl) 8 = true ∧
          (p.chain c).healthy = true ∧ (p.chain c).selfTest = true ∧ p.claim (1 - c) < p.claim c
    · rw [if_pos h, show s.dev.plannedSwitch = (s.dev.powerStep fun p => { p with active := c + 1 }).fault 5 from if_pos (hcond.mpr h)]
      refine ⟨?_, gave_fault_self _ _, ?_⟩
      · rw [Device.fault_power]; exact s.dev.powerStep_power _
      · rw [Device.fault_units]; exact s.dev.powerStep_units _
    · rw [if_neg h]
      exact if_neg fun hc => h (hcond.mp hc)

/-! ## Settings burns -/

theorem Power.nextSlot_le (p : Power) (g : Nat) : p.nextSlot g ≤ 4 := by
  unfold Power.nextSlot
  split
  next n h =>
    have := List.mem_of_find?_eq_some h
    simp at this
    omega
  next => exact Nat.zero_le 4

/-- The exit seal stands in the lowest bit of the staged DATA. -/
theorem Device.stagedData_seal (d : Device) : bitOf ((d.stagedData.getD 0 0).toNat) 0 = d.bit (otpAt Off.otpBurn) 0 := by
  have hhead : d.stagedData.getD 0 0 = BitVec.ofNat 8 (d.reg (otpAt Off.otpBurn)) := rfl
  rw [hhead, bitOf, BitVec.toNat_ofNat]
  show (d.reg (otpAt Off.otpBurn) % 2 ^ 8).testBit 0 = (d.reg (otpAt Off.otpBurn)).testBit 0
  simp

/-- Why a burn is refused, as R683's table lists it. -/
theorem Device.burnRefused_eq (d : Device) (g : Nat) : d.burnRefused g =
    if g = 0 ∧ d.cust.mode ≠ .manufacture then some 2
    else if (g = 1 ∨ g = 2 ∨ g = 3) ∧ d.cust.mode ≠ .manufacture ∧ d.cust.mode ≠ .custody ∧ d.cust.mode ≠ .maintenance then some 2
    else if 3 < g then some 3
    else if d.power.nextSlot g = 4 then some 1
    else if g = 0 ∧ d.power.exited = true ∧ d.bit (otpAt Off.otpBurn) 0 = false then some 5 else none := by
  have hnext : 3 < d.power.nextSlot g ↔ d.power.nextSlot g = 4 := by
    have := d.power.nextSlot_le g
    omega
  have hgroup : (1 ≤ g ∧ g ≤ 3 ∧ d.cust.mode ≠ .manufacture ∧ d.cust.mode ≠ .custody ∧ d.cust.mode ≠ .maintenance) ↔
      (g = 1 ∨ g = 2 ∨ g = 3) ∧ d.cust.mode ≠ .manufacture ∧ d.cust.mode ≠ .custody ∧ d.cust.mode ≠ .maintenance := by
    rw [← and_assoc]
    exact and_congr_left fun _ => by omega
  have hseal : (g = 0 ∧ d.power.exited = true ∧ (!bitOf ((d.stagedData.getD 0 0).toNat) 0) = true) ↔
      (g = 0 ∧ d.power.exited = true ∧ d.bit (otpAt Off.otpBurn) 0 = false) := by
    rw [d.stagedData_seal, Bool.not_eq_true']
  unfold Device.burnRefused
  simp only [hnext, hgroup, hseal, Nat.lt_iff_add_one_le]

theorem Device.burnRefused_lt (d : Device) (g c : Nat) (h : d.burnRefused g = some c) : c < 256 := by
  have hlist : d.burnRefused g ∈ [none, some 1, some 2, some 3, some 5] := by
    unfold Device.burnRefused
    dsimp only
    split_ifs <;> decide
  rw [h] at hlist
  simp at hlist
  omega

/-- The end of a burn (R683): CODE, DONE and BURN_ENDED. -/
theorem Device.burnDone_facts (d : Device) (code : Nat) (hcode : code < 256) :
    let t := d.burnDone code
    t.field (otpAt Off.otpResult) 23 16 = code ∧ t.bit (otpAt Off.otpCmd) 0 = false ∧ t.bit (otpAt Off.otpCmd) 1 = true ∧
    t.bit 0x3010 0 = true ∧ d.onlyRegs t := by
  obtain ⟨h1, h2, h3, h4, _⟩ := d.endedWith_facts (res := otpAt Off.otpResult) (cmd := otpAt Off.otpCmd)
    (req := 0) (done := 1) (p := .otp) (n := 0) (i := 0) hcode (by decide) (by decide) (by decide) (by decide)
    (by decide) (by decide) (by decide)
  exact ⟨h1, h2, h3, h4, d.onlyRegs_endedWith d _ _ _ _ _ _ _ _ d.onlyRegs_refl⟩

/-- BURN, on an idle page. -/
theorem Device.burn_of_idle (d : Device) (hb : d.writeBarred (otpAt Off.otpCmd) = false) (hr : d.bit (otpAt Off.otpCmd) 0 = false) :
    d.burn = match d.burnRefused (d.field (otpAt Off.otpSel) 4 0) with
      | some c => (d.commandStart (otpAt Off.otpCmd) 0).burnDone c
      | none => (d.commandStart (otpAt Off.otpCmd) 0).mapPower fun p => { p with
          burn := some (d.field (otpAt Off.otpSel) 4 0, p.nextSlot (d.field (otpAt Off.otpSel) 4 0)) } :=
  d.onIdle_of_idle _ _ _ hb hr

/-- Source 9's count of torn slots reports faults and changes nothing of what a burn changes. -/
theorem Device.countTorn_keeps (d : Device) (g : Nat) : (d.countTorn g).power = d.power ∧ (d.countTorn g).units = d.units := by
  unfold Device.countTorn
  refine foldl_keeps _ (fun t : Device => t.power = d.power ∧ t.units = d.units) _ d ⟨rfl, rfl⟩ fun t _ _ h => ?_
  rw [Device.fault_power, Device.fault_units]
  exact h

theorem Device.countTorn_none (d : Device) (g : Nat) (h : d.power.tornSlots g = 0) : d.countTorn g = d := by
  unfold Device.countTorn
  rw [h]
  rfl

/-- The burnt slot in place, with its number shown. -/
def Device.burnPlaced (d : Device) (g n : Nat) (ok : Bool) : Device :=
  (d.mapPower fun p => { p with burn := none, otp := p.otp.insert (4 * g + n) (otpSlot g n d.stagedData ok) }).setField (otpAt Off.otpResult) 1 0 n

/-- Source 10 counts a slot that did not read back. -/
def Device.burnLanded (d : Device) (g n : Nat) (ok : Bool) : Device :=
  if ok then d.burnPlaced g n ok else (d.burnPlaced g n ok).fault 10

theorem Device.burnLanded_facts (d : Device) (g n : Nat) (ok : Bool) :
    (d.burnLanded g n ok).power = { d.power with burn := none, otp := d.power.otp.insert (4 * g + n) (otpSlot g n d.stagedData ok) } ∧
    (d.burnLanded g n ok).units = d.units ∧ (ok = false → (d.burnLanded g n ok).gave (.event 10)) := by
  cases ok with
  | true => exact ⟨rfl, rfl, fun h => by cases h⟩
  | false =>
    have heq : d.burnLanded g n false = (d.burnPlaced g n false).fault 10 := rfl
    rw [heq, Device.fault_power, Device.fault_units]
    exact ⟨rfl, rfl, fun _ => gave_fault_self _ _⟩

theorem Device.burnEnd_of_powered (d : Device) (g n : Nat) (ok : Bool) (h : d.power.burn = some (g, n)) (hst : d.power.st ≠ .battery) :
    d.burnEnd ok = ((d.burnLanded g n ok).burnDone (if ok then 0 else 4)).countTorn g := by
  unfold Device.burnEnd
  rw [h]
  exact if_neg (by simp [hst])

/-- Settles O25: BURN by the first condition that refuses it, BURN_END by whether a burn runs and the read-back agreed. -/
theorem settingsBurns : Obligations.SettingsBurns := by
  unfold Obligations.SettingsBurns
  refine ⟨fun s => ?_, fun ok s => ?_⟩
  · refine does_of s.dev.burn rfl ?_
    generalize s.dev = d
    dsimp only
    by_cases hb : d.writeBarred (otpAt Off.otpCmd) = true
    · rw [if_pos hb]
      exact d.onIdle_of_barred _ _ _ _ hb
    have hb' := Bool.eq_false_iff.mpr hb
    rw [if_neg hb]
    by_cases hr : d.bit (otpAt Off.otpCmd) 0 = true
    · rw [if_pos hr]
      exact d.onIdle_of_running _ _ _ _ hb' hr
    rw [if_neg hr, ← d.burnRefused_eq]
    have hburn := d.burn_of_idle hb' (Bool.eq_false_iff.mpr hr)
    cases href : d.burnRefused (d.field (otpAt Off.otpSel) 4 0) with
    | some c =>
      rw [href] at hburn
      obtain ⟨h1, h2, h3, h4, h5⟩ := (d.commandStart (otpAt Off.otpCmd) 0).burnDone_facts c (d.burnRefused_lt _ _ href)
      rw [hburn]
      exact ⟨h1, h2, h3, h4, Device.onlyRegs_trans (Device.onlyRegs_commandStart _ _ _ _ d.onlyRegs_refl) h5⟩
    | none =>
      rw [href] at hburn
      rw [hburn]
      exact ⟨(d.bit_commandStart (otpAt Off.otpCmd) 0 0 (by decide)).trans (by simp), rfl⟩
  · refine does_of (s.dev.burnEnd ok) rfl ?_
    generalize s.dev = d
    dsimp only
    cases hburn : d.power.burn with
    | none => unfold Device.burnEnd; rw [hburn]
    | some gn =>
      obtain ⟨g, n⟩ := gn
      dsimp only
      by_cases hst : d.power.st = .battery
      · rw [if_pos hst]
        unfold Device.burnEnd
        rw [hburn]
        exact if_pos (by rw [hst]; rfl)
      rw [if_neg hst, d.burnEnd_of_powered g n ok hburn hst]
      obtain ⟨h1, h2, h3⟩ := d.burnLanded_facts g n ok
      have hcode : (if ok = true then 0 else 4) < 256 := by split <;> omega
      obtain ⟨b1, b2, b3, b4, hregs⟩ := (d.burnLanded g n ok).burnDone_facts (if ok = true then 0 else 4) hcode
      generalize d.burnLanded g n ok = u at *
      obtain ⟨hpower, _, hunits, _⟩ := Device.onlyRegs_fields hregs
      obtain ⟨kpower, kunits⟩ := (u.burnDone (if ok = true then 0 else 4)).countTorn_keeps g
      rw [kpower, kunits, hpower, hunits, h1]
      refine ⟨rfl, (Table.find?_insert _ _ _ _).trans (if_pos rfl), fun k hk => (Table.find?_insert _ _ _ _).trans (if_neg hk), rfl, h2,
        fun hok => gave_countTorn _ _ (gave_burnDone _ _ (h3 hok)), fun htorn => ?_⟩
      rw [Device.countTorn_none _ g (by rw [hpower, h1]; exact htorn)]
      exact ⟨b1, b2, b3, b4⟩

end Sys2Proof.Machine
end

section
/-! SUPPORT. The sideband target and its pins (20_electrical_package.md R766 to R779). -/

namespace Sys2Proof.Machine

/-! ## Control core work, and replies to Olihild messages -/

/-- Work for a control core touches the matching store alone. -/
theorem Device.coreItem_frame (d : Device) (kind : Nat) : d.coreItem kind = { d with sched := (d.coreItem kind).sched } := by
  unfold Device.coreItem Device.internalItem
  cases d.internalEntry with
  | none => rfl
  | some p => rfl

theorem Device.coreItem_cust (d : Device) (kind : Nat) : (d.coreItem kind).cust = d.cust := by rw [d.coreItem_frame]

theorem Device.olihildReply_sent (d : Device) (carrier typ status id : Nat) (body : Bytes) :
    (d.olihildReply carrier typ status id body).gave (.sent (.olihild carrier typ status id body)) := by
  unfold Device.olihildReply
  dsimp only
  split
  · exact gave_placeFrame _ (gave_mapCust _ _ (gave_emit_self _ _))
  · exact gave_emit_self _ _

/-- The MAGIC of an Olihild message, as bytes and as the number they are. -/
theorem hdr_magic_iff (msg : Bytes) : hdr msg 0 2 = 0x4F4C ↔ slice msg 0 2 = [0x4C, 0x4F] := by
  unfold hdr
  obtain ⟨a, b, h⟩ := List.length_eq_two.mp (slice_length msg 0 2)
  rw [h, leNat, leNat, leNat]
  have ha := a.isLt
  have hb := b.isLt
  constructor
  · intro hsum
    rw [BitVec.eq_of_toNat_eq (x := a) (y := 0x4C) (by show a.toNat = 0x4C; omega),
      BitVec.eq_of_toNat_eq (x := b) (y := 0x4F) (by show b.toNat = 0x4F; omega)]
  · intro hbytes
    obtain ⟨rfl, hb'⟩ := List.cons.inj hbytes
    obtain ⟨rfl, _⟩ := List.cons.inj hb'
    rfl

/-- A message without the MAGIC is answered STATE with STATUS 0x14 (R584). -/
theorem Device.olihild_malformed (d : Device) (carrier : Nat) (msg : Bytes) (h : slice msg 0 2 ≠ [0x4C, 0x4F]) :
    d.olihild carrier msg = d.olihildReply carrier 0x0A 0x14 0 d.cust.stateBody :=
  if_pos (.inl fun hm => h ((hdr_magic_iff msg).mp hm))

/-- A message of a header alone, by its TYPE: QUERY, or one that is no request. -/
theorem Device.olihild_header (d : Device) (carrier : Nat) (msg : Bytes) (hlen : msg.length = 16) (hmagic : slice msg 0 2 = [0x4C, 0x4F])
    (hver : slice msg 2 1 = [1]) (hbody : slice msg 8 4 = [0, 0, 0, 0]) :
    (slice msg 3 1 = [9] → d.olihild carrier msg = d.olihildReply carrier 0x0A 0 0 d.cust.stateBody) ∧
    (slice msg 3 1 = [7] → d.olihild carrier msg = d.olihildReply carrier 0x0A 0x14 0 d.cust.stateBody) := by
  have hform : ¬(hdr msg 0 2 ≠ 0x4F4C ∨ hdr msg 2 1 ≠ 1 ∨ hdr msg 8 4 ≠ (msg.drop 16).length ∨ msg.length < 16) := by
    have h1 := (hdr_magic_iff msg).mpr hmagic
    have h2 : hdr msg 2 1 = 1 := by unfold hdr; rw [hver]; rfl
    have h3 : hdr msg 8 4 = 0 := by unfold hdr; rw [hbody]; rfl
    rw [List.length_drop, hlen, h1, h2, h3]
    simp
  refine ⟨fun htype => ?_, fun htype => ?_⟩
  · have ht : hdr msg 3 1 = 9 := by unfold hdr; rw [htype]; rfl
    unfold Device.olihild
    dsimp only
    rw [if_neg hform, ht]
    rfl
  · have ht : hdr msg 3 1 = 7 := by unfold hdr; rw [htype]; rfl
    unfold Device.olihild
    dsimp only
    rw [if_neg hform, ht]
    rfl

/-! ## The sideband -/

theorem Device.sideAnswers_iff (d : Device) : d.sideAnswers = true ↔ d.bit (sideAt 8) 0 = true ∧ d.bit (sideAt Off.sideStat) 4 = false ∧
    d.pins.vioOk = true ∧ d.running = true ∧ d.pages.resetting.mem (sideAt 0) = false := by
  have hpage : d.pageResetting (sideAt 0) = d.pages.resetting.mem (sideAt 0) := rfl
  unfold Device.sideAnswers
  simp only [hpage, Bool.and_eq_true, Bool.not_eq_true', and_assoc]

theorem Device.busSeen_facts (d : Device) (smbus : Bool) :
    let t := d.busSeen smbus
    t.field (sideAt Off.sideStat) 7 6 = (if smbus = true then 2 else 1) ∧
    t.field (sideAt Off.sideStat) 14 8 = d.field (sideAt Off.sideStat) 14 8 ∧ d.regsBut t [sideAt Off.sideStat] ∧ t = { d with pages := t.pages } := by
  refine ⟨?_, d.field_setField_apart _ _ _ _ _ _ (by decide) (by decide) (.inr (by decide)), d.regsBut_setReg _ _, rfl⟩
  refine (d.field_setField _ _ _ _ (by decide) (by decide)).trans ?_
  cases smbus <;> rfl

/-- What the device drives does not depend on the bus that it has seen. -/
theorem Device.alertDriven_busSeen (d : Device) (smbus : Bool) : (d.busSeen smbus).alertDriven = d.alertDriven := by
  have hctrl : (d.busSeen smbus).reg (sideAt Off.sideCtrl) = d.reg (sideAt Off.sideCtrl) := Device.reg_setField_ne _ _ _ _ _ _ (by decide)
  have hbit0 : (d.busSeen smbus).bit (sideAt Off.sideCtrl) 0 = d.bit (sideAt Off.sideCtrl) 0 := congrArg (bitOf · 0) hctrl
  have hsev : (d.busSeen smbus).alertSev = d.alertSev := by
    unfold Device.alertSev
    rw [show (d.busSeen smbus).field (Page.side.base 0 + Off.sideCtrl) 10 8 = d.field (Page.side.base 0 + Off.sideCtrl) 10 8 from
      congrArg (bitsOf · 10 8) hctrl]
  have hbit5 : (d.busSeen smbus).bit (sideAt Off.sideStat) 5 = d.bit (sideAt Off.sideStat) 5 :=
    (d.bit_setField _ _ _ _ _ (by decide) (by decide)).trans (if_neg (by decide))
  unfold Device.alertDriven Device.alertPending
  rw [hbit0, hbit5, hsev]
  rfl

/-- The bus seen, and the dynamic address that I3C assigned. -/
def Device.sideSeen (d : Device) (smbus : Bool) (assign : Option (BitVec 7)) : Device :=
  match assign with
  | some a => if smbus then d.busSeen smbus else (d.busSeen smbus).setField (sideAt Off.sideStat) 14 8 a.toNat
  | none => d.busSeen smbus

theorem Device.sideTransaction_eq (d : Device) (smbus : Bool) (assign : Option (BitVec 7)) (data : Bytes) (h : d.sideAnswers = true) :
    d.sideTransaction smbus assign data =
      if data = [] then d.sideSeen smbus assign else ((d.sideSeen smbus assign).coreItem 1).olihild 1 data :=
  if_neg (by simp [h])

theorem Device.sideSeen_facts (d : Device) (smbus : Bool) (assign : Option (BitVec 7)) :
    let t := d.sideSeen smbus assign
    t.field (sideAt Off.sideStat) 7 6 = (if smbus = true then 2 else 1) ∧
    t.field (sideAt Off.sideStat) 14 8 = (match assign with
      | some a => if smbus = true then d.field (sideAt Off.sideStat) 14 8 else a.toNat
      | none => d.field (sideAt Off.sideStat) 14 8) ∧
    d.regsBut t [sideAt Off.sideStat] ∧ t = { d with pages := t.pages } := by
  obtain ⟨h1, h2, h3, h4⟩ := d.busSeen_facts smbus
  cases assign with
  | none => exact ⟨h1, h2, h3, h4⟩
  | some a =>
    cases smbus with
    | true => exact ⟨h1, h2, h3, h4⟩
    | false =>
      refine ⟨?_, ?_, fun b hb => ?_, rfl⟩
      · exact ((d.busSeen false).field_setField_apart (sideAt Off.sideStat) 14 8 a.toNat 7 6 (by decide) (by decide) (.inl (by decide))).trans h1
      · refine ((d.busSeen false).field_setField (sideAt Off.sideStat) 14 8 a.toNat (by decide) (by decide)).trans ?_
        exact Nat.mod_eq_of_lt a.isLt
      · exact (Device.reg_setField_ne _ _ _ _ _ _ (List.ne_of_not_mem_cons hb)).trans (h3 b hb)

/-- A won read of the Alert Response Address by a sideband that answers. -/
theorem Device.araRead_eq (d : Device) (won : Bool) (h : d.sideAnswers = true) : d.araRead won =
    if !(won && d.alertDriven) then d.busSeen true else ((d.busSeen true).mapPins fun p => { p with alertReleased := true }).emit
      (.sideband [BitVec.ofNat 8 (2 * ((d.power.settings 3).getD 1 0).toNat)]) := by
  have heq : d.araRead won = if !(won && (d.busSeen true).alertDriven) then d.busSeen true else
      ((d.busSeen true).mapPins fun p => { p with alertReleased := true }).emit
        (.sideband [BitVec.ofNat 8 (2 * ((d.power.settings 3).getD 1 0).toNat)]) := if_neg (by simp [h])
  rw [heq, d.alertDriven_busSeen]

/-- Settles O27: each message by whether the sideband, or DOE, answers it. -/
theorem sidebandMessages : Obligations.SidebandMessages := by
  unfold Obligations.SidebandMessages
  refine ⟨fun smbus assign data s => ?_, fun sideband supported data s => ?_, fun monitoring event data s => ?_, fun won s => ?_⟩
  · refine does_of (s.dev.sideTransaction smbus assign data) rfl ?_
    generalize s.dev = d
    dsimp only
    rw [← d.sideAnswers_iff]
    refine ⟨fun h => if_pos (by simp [h]), fun h hdata => ?_, fun h hlen hmagic hver hbody => ?_, fun h hdata hmagic => ?_,
      guarded_sideTransaction d smbus assign data⟩
    · rw [d.sideTransaction_eq smbus assign data h, if_pos hdata]
      exact d.sideSeen_facts smbus assign
    · obtain ⟨_, _, _, hframe⟩ := d.sideSeen_facts smbus assign
      have hcust : ((d.sideSeen smbus assign).coreItem 1).cust = d.cust := by rw [Device.coreItem_cust, hframe]
      have hdata : data ≠ [] := fun h0 => by rw [h0] at hlen; cases hlen
      obtain ⟨hquery, hother⟩ := ((d.sideSeen smbus assign).coreItem 1).olihild_header 1 data hlen hmagic hver hbody
      rw [d.sideTransaction_eq smbus assign data h, if_neg hdata]
      rw [hcust] at hquery hother
      refine ⟨fun htype => ?_, fun htype => ?_⟩
      · rw [hquery htype]
        exact Device.olihildReply_sent _ _ _ _ _ _
      · rw [hother htype]
        exact Device.olihildReply_sent _ _ _ _ _ _
    · obtain ⟨_, _, _, hframe⟩ := d.sideSeen_facts smbus assign
      have hcust : ((d.sideSeen smbus assign).coreItem 1).cust = d.cust := by rw [Device.coreItem_cust, hframe]
      rw [d.sideTransaction_eq smbus assign data h, if_neg hdata, Device.olihild_malformed _ _ _ hmagic, hcust]
      exact Device.olihildReply_sent _ _ _ _ _ _
  · refine does_of (s.dev.spdmMessage sideband supported data) rfl ?_
    generalize s.dev = d
    dsimp only
    simp only [← d.sideAnswers_iff]
    have hcond : (if sideband then d.sideAnswers else d.running && d.pins.link != 0) = true ↔
        (sideband = true ∧ d.sideAnswers = true) ∨ (sideband = false ∧ d.running = true ∧ d.pins.link ≠ 0) := by
      cases sideband <;> simp
    by_cases h : (sideband = true ∧ d.sideAnswers = true) ∨ (sideband = false ∧ d.running = true ∧ d.pins.link ≠ 0)
    · have heq : d.spdmMessage sideband supported data = (d.drawFree.coreItem 2).emit (if sideband
          then .sideband (if supported then Config.spdmReply d.free data else Config.declineReply data)
          else .doe (if supported then Config.spdmReply d.free data else Config.declineReply data)) :=
        if_neg (by rw [hcond.mpr h]; decide)
      rw [if_pos h, heq]
      refine ⟨gave_emit_self _ _, ?_⟩
      rw [d.drawFree.coreItem_frame 2]
      exact ⟨rfl, rfl, rfl⟩
    · rw [if_neg h]
      exact if_pos (by rw [Bool.eq_false_iff.mpr fun hc => h (hcond.mp hc)]; rfl)
  · refine does_of (s.dev.pldmMessage monitoring event data) rfl ?_
    generalize s.dev = d
    dsimp only
    simp only [← d.sideAnswers_iff]
    by_cases h : d.sideAnswers = true
    · rw [if_pos h]
      cases monitoring with
      | false =>
        have heq : d.pldmMessage false event data = (d.coreItem 3).emit (.sideband (Config.declineReply data)) := if_neg (by simp [h])
        rw [heq]
        refine ⟨gave_emit_self _ _, ?_⟩
        rw [d.coreItem_frame 3]
        exact ⟨rfl, rfl⟩
      | true =>
        have heq : d.pldmMessage true event data = ((d.drawFree.coreItem 3).mapPins fun p => { p with
            pldmUnread := if event then p.pldmUnread - 1 else p.pldmUnread }).emit
              (.sideband (Config.pldmReply d.free data d.tamp.tj d.power.chainA.mv d.power.chainB.mv)) := if_neg (by simp [h])
        rw [heq]
        refine ⟨gave_emit_self _ _, ?_⟩
        rw [d.drawFree.coreItem_frame 3]
        cases event
        · exact ⟨rfl, rfl⟩
        · exact ⟨rfl, rfl⟩
    · rw [if_neg h]
      exact if_pos (by simp [h])
  · refine does_of (s.dev.araRead won) rfl ?_
    generalize s.dev = d
    dsimp only
    simp only [← d.sideAnswers_iff]
    by_cases h : d.sideAnswers = true
    · rw [if_pos h, d.araRead_eq won h]
      obtain ⟨hbus, _, hregs, hframe⟩ := d.busSeen_facts true
      by_cases hwon : won = true ∧ d.alertDriven = true
      · rw [if_pos hwon, if_neg (by simp [hwon])]
        exact ⟨hbus, hregs, ⟨rfl, gave_emit_self _ _⟩, rfl⟩
      · rw [if_neg hwon, if_pos (by rw [← Bool.and_eq_true] at hwon; rw [Bool.eq_false_iff.mpr hwon]; rfl)]
        exact ⟨hbus, hregs, ⟨rfl, rfl⟩, rfl⟩
    · rw [if_neg h]
      exact if_pos (by simp [h])

/-- STUCK_OFF and ALERT_BLOCKED: a bit of SIDE_STAT that rises with its interrupt. -/
theorem Device.sideStat_raised (d : Device) (i : Nat) (p : Device) (h : p.bit (sideAt Off.sideStat) i = true) (hregs : d.regsBut p [sideAt Off.sideStat])
    (j : Nat) (hj : j < 32) :
    let t := p.raiseInt .side 0 j
    t.bit (sideAt Off.sideStat) i = true ∧ t.bit 0x15010 j = true ∧ d.regsBut t [sideAt Off.sideStat, 0x15010] := by
  refine ⟨(p.bit_raiseInt_ne .side 0 j _ i (by decide)).trans h, (p.bit_raiseInt .side 0 j j hj).trans (by simp), fun b hb => ?_⟩
  have hint : b ≠ Page.side.base 0 + 0x10 := List.ne_of_not_mem_cons (List.not_mem_of_not_mem_cons hb)
  exact (Device.reg_raiseInt_ne _ _ _ _ _ hint).trans (hregs b fun h => List.ne_of_not_mem_cons hb (List.mem_singleton.mp h))

/-- Settles O28: each pin event by what the device drives and has recorded. -/
theorem sidebandPins : Obligations.SidebandPins := by
  unfold Obligations.SidebandPins
  refine ⟨fun s => ?_, fun s => ?_, fun s => does_of _ rfl ⟨rfl, rfl, rfl⟩, fun s => does_of _ rfl rfl, fun s => ?_, fun s => ?_⟩
  · refine does_of (if s.dev.sideAnswers && s.dev.pins.sdaLow == 0 then s.dev.mapPins fun p => { p with sdaLow := 1 } else s.dev) rfl ?_
    by_cases h : s.dev.sideAnswers = true ∧ s.dev.pins.sdaLow = 0
    · rw [if_pos (by simp [h]), if_pos h]
      rfl
    · rw [if_neg (by simpa using h), if_neg h]
  · refine does_of s.dev.sdaStuck rfl ?_
    generalize s.dev = d
    by_cases h : d.pins.sdaLow = 1 ∧ d.bit (sideAt Off.sideStat) 4 = false
    · have heq : d.sdaStuck = ((d.mapPins fun p => { p with sdaLow := 2 }).setField (sideAt Off.sideStat) 4 4 1).raiseInt .side 0 1 := if_pos h
      rw [if_pos h, heq]
      have hoff : ((d.mapPins fun p => { p with sdaLow := 2 }).setField (sideAt Off.sideStat) 4 4 1).bit (sideAt Off.sideStat) 4 = true :=
        (Device.bit_setField _ _ _ _ _ _ (by decide) (by decide)).trans (by simp)
      obtain ⟨h1, h2, h3⟩ := d.sideStat_raised 4 _ hoff (fun b hb => Device.reg_setField_ne _ _ _ _ _ _ (List.ne_of_not_mem_cons hb)) 1 (by decide)
      refine ⟨h1, h2, ?_, (Device.raiseInt_pins _ _ _ _).trans rfl, h3, (Device.raiseInt_power _ _ _ _).trans rfl,
        (Device.raiseInt_cust _ _ _ _).trans rfl⟩
      exact Bool.eq_false_iff.mpr fun ha => by
        obtain ⟨_, hb, _⟩ := (Device.sideAnswers_iff _).mp ha
        rw [h1] at hb
        cases hb
    · rw [if_neg h]
      exact if_neg h
  · refine does_of (if s.dev.alertDriven || !s.dev.running then s.dev else (s.dev.hwSet (sideAt Off.sideStat) 4).raiseInt .side 0 0) rfl ?_
    generalize s.dev = d
    by_cases h : d.running = true ∧ d.alertDriven = false
    · rw [if_pos h, if_neg (by simp [h])]
      have hset : (d.hwSet (sideAt Off.sideStat) 4).bit (sideAt Off.sideStat) 2 = true :=
        (d.bit_hwSet _ _ _ (by decide)).trans (by rw [show Nat.testBit 4 2 = true from rfl, Bool.or_true])
      obtain ⟨h1, h2, h3⟩ := d.sideStat_raised 2 _ hset (fun b hb => d.reg_hwSet_ne _ _ _ (List.ne_of_not_mem_cons hb)) 0 (by decide)
      exact ⟨h1, h2, h3, Device.onlyRegs_raiseInt _ _ _ _ _ (Device.onlyRegs_hwSet _ _ _ _ d.onlyRegs_refl)⟩
    · rw [if_neg h, if_pos]
      cases hr : d.running <;> cases ha : d.alertDriven <;> simp [hr, ha] at h ⊢
  · refine does_of (if s.dev.alertDriven && s.dev.running then s.dev.hwSet (sideAt Off.sideStat) 8 else s.dev) rfl ?_
    generalize s.dev = d
    by_cases h : d.running = true ∧ d.alertDriven = true
    · rw [if_pos h, if_pos (by simp [h])]
      refine ⟨?_, fun b hb => d.reg_hwSet_ne _ _ _ (List.ne_of_not_mem_cons hb), Device.onlyRegs_hwSet _ _ _ _ d.onlyRegs_refl⟩
      exact (d.bit_hwSet _ _ _ (by decide)).trans (by rw [show Nat.testBit 8 3 = true from rfl, Bool.or_true])
    · rw [if_neg h, if_neg (by rw [Bool.and_eq_true]; exact fun hc => h hc.symm)]

end Sys2Proof.Machine
end

section
/-! SUPPORT. The frames of the manager's channel (12_tenancy.md R567, R568). -/

namespace Sys2Proof.Machine

/-- The code that SEND ends with: CHANNEL before LENGTH. -/
def Device.sendCode (d : Device) : Nat :=
  if bitsOf (d.reg (mbxAt Off.mbxOut)) 23 16 ≠ 1 then 2 else if 1532 < bitsOf (d.reg (mbxAt Off.mbxOut)) 10 0 then 3 else 0

theorem Device.sendCode_lt (d : Device) : d.sendCode < 256 := by
  unfold Device.sendCode
  split_ifs <;> omega

/-- The frame's data in MBX_OUT. -/
def Device.sentFrame (d : Device) : Bytes :=
  let len := bitsOf (d.reg (mbxAt Off.mbxOut)) 10 0
  ((List.range ((len + 3) / 4)).flatMap fun i => leBytes 4 (d.reg (mbxAt Off.mbxOut + 4 + 4 * i))).take len

/-- SEND's end, before the frame is looked at. -/
def Device.sendEnded (d : Device) : Device :=
  (d.commandStart (mbxAt Off.mbxCmd) 0).endedWith (mbxAt Off.mbxResult) d.sendCode (mbxAt Off.mbxCmd) 0 1 .mbx 0 1

theorem Device.sendEnded_facts (d : Device) :
    let t := d.sendEnded
    (t.field (mbxAt Off.mbxResult) 23 16 = d.sendCode ∧ t.bit (mbxAt Off.mbxCmd) 0 = false ∧ t.bit (mbxAt Off.mbxCmd) 1 = true ∧
      t.bit 0x16010 1 = true) ∧ d.onlyRegs t := by
  obtain ⟨h1, h2, h3, h4, _⟩ := (d.commandStart (mbxAt Off.mbxCmd) 0).endedWith_facts (res := mbxAt Off.mbxResult) (cmd := mbxAt Off.mbxCmd)
    (req := 0) (done := 1) (p := .mbx) (n := 0) (i := 1) d.sendCode_lt (by decide) (by decide) (by decide) (by decide)
    (by decide) (by decide) (by decide)
  exact ⟨⟨h1, h2, h3, h4⟩, d.onlyRegs_endedWith _ _ _ _ _ _ _ _ _ (Device.onlyRegs_commandStart _ _ _ _ d.onlyRegs_refl)⟩

theorem Device.mbxSend_of_taken (d : Device) (h : d.writeBarred (mbxAt Off.mbxCmd) = false) : d.mbxSend =
    if d.sendCode = 0 then (d.sendEnded.coreItem 1).frameIn (bitOf (d.reg (mbxAt Off.mbxOut)) 31) d.sentFrame else d.sendEnded :=
  if_neg (by simp [h])

/-- A change that leaves registers leaves what SEND's end shows. -/
theorem Device.bit_of_pages {d t : Device} (h : t.pages = d.pages) (a i : Nat) : t.bit a i = d.bit a i := by
  unfold Device.bit Device.reg
  rw [h]

theorem Device.field_of_pages {d t : Device} (h : t.pages = d.pages) (a hi lo : Nat) : t.field a hi lo = d.field a hi lo := by
  unfold Device.field Device.reg
  rw [h]

theorem Device.reg_of_pages {d t : Device} (h : t.pages = d.pages) (a : Nat) : t.reg a = d.reg a := by
  unfold Device.reg
  rw [h]

/-- A frame by MORE and by the length of the message. -/
theorem Device.frameIn_cases (d : Device) (more : Bool) (data : Bytes) :
    (more = true → d.frameIn more data = d.mapCust fun c => { c with partMbx := (d.cust.partMbx ++ data).take 65537 }) ∧
    (more = false → 65536 < (d.cust.partMbx ++ data).length → d.frameIn more data = d.mapCust fun c => { c with partMbx := [] }) ∧
    (more = false → (d.cust.partMbx ++ data).length ≤ 65536 →
      d.frameIn more data = (d.mapCust fun c => { c with partMbx := [] }).olihild 0 (d.cust.partMbx ++ data)) := by
  refine ⟨fun h => ?_, fun h hlong => ?_, fun h hshort => ?_⟩
  · rw [h]; rfl
  · rw [h]; exact if_pos hlong
  · rw [h]; exact if_neg (Nat.not_lt.mpr hshort)

theorem Device.onlyRegs_cust {d t : Device} (h : d.onlyRegs t) : t.cust = d.cust := by
  unfold Device.onlyRegs at h
  rw [h]

theorem Device.coreItem_keys (d : Device) (kind : Nat) : (d.coreItem kind).keys = d.keys := by rw [d.coreItem_frame]

theorem Device.coreItem_pages (d : Device) (kind : Nat) : (d.coreItem kind).pages = d.pages := by rw [d.coreItem_frame]

/-- What the frame's message does not change, where the frame only joins it. -/
theorem Device.mapCust_ended {u : Device} {code : Nat} (f : Custody → Custody)
    (h : u.field (mbxAt Off.mbxResult) 23 16 = code ∧ u.bit (mbxAt Off.mbxCmd) 0 = false ∧ u.bit (mbxAt Off.mbxCmd) 1 = true ∧
      u.bit 0x16010 1 = true) :
    let t := (u.coreItem 1).mapCust f
    t.field (mbxAt Off.mbxResult) 23 16 = code ∧ t.bit (mbxAt Off.mbxCmd) 0 = false ∧ t.bit (mbxAt Off.mbxCmd) 1 = true ∧
      t.bit 0x16010 1 = true := by
  have hp : ((u.coreItem 1).mapCust f).pages = u.pages := u.coreItem_pages 1
  dsimp only
  rw [Device.field_of_pages hp, Device.bit_of_pages hp, Device.bit_of_pages hp, Device.bit_of_pages hp]
  exact h

/-! ## Frames in -/

/-- The oldest waiting frame placed in MBX_IN. -/
theorem Device.placeFrame_empty (d : Device) (h : d.cust.framesIn = []) : d.placeFrame = d := by
  unfold Device.placeFrame
  rw [h]

theorem Device.placeFrame_occupied (d : Device) (h : d.bit (mbxAt Off.mbxCmd) 2 = true) : d.placeFrame = d := by
  unfold Device.placeFrame
  split
  · rfl
  · exact if_pos (by rw [show d.bit (Page.mbx.base 0 + Off.mbxCmd) 2 = true from h]; rfl)

/-- A frame taken from those that wait, in MBX_IN. -/
def Device.framePlaced (d : Device) (x : Bytes) (rest : List Bytes) : Device :=
  ((d.mapCust fun c => { c with framesIn := rest }).storeWords (mbxAt Off.mbxIn) 384 x).hwSet (mbxAt Off.mbxCmd) 4 |>.raiseInt .mbx 0 0

theorem Device.placeFrame_of_free (d : Device) (x : Bytes) (rest : List Bytes) (hx : d.cust.framesIn = x :: rest)
    (hfree : d.bit (mbxAt Off.mbxCmd) 2 = false) (hpage : d.pages.resetting.mem (mbxAt 0) = false) :
    d.placeFrame = d.framePlaced x rest := by
  unfold Device.placeFrame
  rw [hx]
  exact if_neg (by
    rw [show d.bit (Page.mbx.base 0 + Off.mbxCmd) 2 = false from hfree, show d.pages.resetting.mem (Page.mbx.base 0) = false from hpage]
    decide)

theorem Device.framePlaced_facts (d : Device) (x : Bytes) (rest : List Bytes) :
    let t := d.framePlaced x rest
    t.cust = { d.cust with framesIn := rest } ∧ t.bit (mbxAt Off.mbxCmd) 2 = true ∧ t.bit 0x16010 0 = true ∧
    (∀ j, j < 384 → t.reg (mbxAt Off.mbxIn + 4 * j) = leNat (slice x (4 * j) 4)) ∧
    t.power = d.power ∧ t.units = d.units ∧ t.keys = d.keys ∧ t.store = d.store := by
  let u := (d.mapCust fun c => { c with framesIn := rest }).storeWords (mbxAt Off.mbxIn) 384 x
  have hu : u = { d.mapCust fun c => { c with framesIn := rest } with pages := u.pages } := Device.storeWords_frame _ _ _ _
  have honly : u.onlyRegs (d.framePlaced x rest) := Device.onlyRegs_raiseInt _ _ _ _ _ (Device.onlyRegs_hwSet _ _ _ _ u.onlyRegs_refl)
  obtain ⟨hpower, hsched, hunits, hkeys, hstore, _⟩ := Device.onlyRegs_fields honly
  have hcust := Device.onlyRegs_cust honly
  have hset : (u.hwSet (mbxAt Off.mbxCmd) 4).bit (mbxAt Off.mbxCmd) 2 = true :=
    (u.bit_hwSet _ _ _ (by decide)).trans (by rw [show Nat.testBit 4 2 = true from rfl, Bool.or_true])
  intro t
  refine ⟨?_, ?_, ?_, fun j hj => ?_, hpower.trans ?_, hunits.trans ?_, hkeys.trans ?_, hstore.trans ?_⟩
  · rw [show t.cust = _ from hcust, hu]; rfl
  · exact ((u.hwSet (mbxAt Off.mbxCmd) 4).bit_raiseInt_ne .mbx 0 0 _ _ (by decide)).trans hset
  · exact ((u.hwSet (mbxAt Off.mbxCmd) 4).bit_raiseInt .mbx 0 0 0 (by decide)).trans (by simp)
  · have hint : mbxAt Off.mbxIn + 4 * j ≠ Page.mbx.base 0 + 0x10 := by
      simp only [mbxAt, Page.base, Off.mbxIn]; omega
    have hcmd : mbxAt Off.mbxIn + 4 * j ≠ mbxAt Off.mbxCmd := by
      simp only [mbxAt, Page.base, Off.mbxIn, Off.mbxCmd]; omega
    refine (Device.reg_raiseInt_ne _ _ _ _ _ hint).trans ((Device.reg_hwSet_ne _ _ _ _ hcmd).trans ?_)
    exact Device.reg_storeWords _ _ _ _ _ hj
  all_goals rw [hu]; rfl

/-- Settles O29: SEND by its code, by MORE and by the message's length; MBX_IN_FREE by what arrived in the cycle and what waits. -/
theorem mailboxFrames : Obligations.MailboxFrames := by
  unfold Obligations.MailboxFrames
  refine ⟨fun s => ?_, fun s => ?_⟩
  · refine does_of s.dev.mbxSend rfl ?_
    generalize s.dev = d
    change if _ then _ else (_ ∧ (d.sendCode ≠ 0 → _) ∧ (d.sendCode = 0 → _) ∧ (d.sendCode = 0 → _ → _ → _) ∧ (d.sendCode = 0 → _))
    by_cases hb : d.writeBarred (mbxAt Off.mbxCmd) = true
    · rw [if_pos hb]
      exact if_pos hb
    rw [if_neg hb, d.mbxSend_of_taken (Bool.eq_false_iff.mpr hb)]
    have hguarded := guarded_mbxSend d
    rw [d.mbxSend_of_taken (Bool.eq_false_iff.mpr hb)] at hguarded
    obtain ⟨hended, honly⟩ := d.sendEnded_facts
    generalize d.sendEnded = u at hended honly hguarded ⊢
    have hcust : (u.coreItem 1).cust = d.cust := (u.coreItem_cust 1).trans (Device.onlyRegs_cust honly)
    have hkeys : (u.coreItem 1).keys = d.keys := (u.coreItem_keys 1).trans (Device.onlyRegs_fields honly).2.2.2.1
    have hkept := fun f => Device.mapCust_ended f hended
    obtain ⟨hmore, hlong, hshort⟩ := (u.coreItem 1).frameIn_cases (bitOf (d.reg (mbxAt Off.mbxOut)) 31) d.sentFrame
    generalize u.coreItem 1 = w at hcust hkeys hkept hmore hlong hshort hguarded ⊢
    rw [hcust] at hmore hlong hshort
    refine ⟨hguarded, fun hc => ?_, fun hc hm => ?_, fun hc hm hl => ?_, fun hc hm hl hmagic => ?_⟩
    · rw [if_neg hc]
      exact ⟨hended, honly⟩
    · rw [if_pos hc, hmore hm]
      exact ⟨hkept _, congrArg (fun c : Custody => { c with partMbx := (d.cust.partMbx ++ d.sentFrame).take 65537 }) hcust, (w.mapCust_keys _).trans hkeys⟩
    · rw [if_pos hc, hlong hm hl]
      exact ⟨hkept _, congrArg (fun c : Custody => { c with partMbx := [] }) hcust, (w.mapCust_keys _).trans hkeys⟩
    · rw [if_pos hc, hshort hm hl, Device.olihild_malformed _ _ _ (show slice (d.cust.partMbx ++ d.sentFrame) 0 2 ≠ _ from hmagic)]
      have hbody : (w.mapCust fun c => { c with partMbx := [] }).cust.stateBody = d.cust.stateBody := by
        show Custody.stateBody { w.cust with partMbx := [] } = _
        rw [hcust]
        rfl
      rw [hbody]
      exact Device.olihildReply_sent _ _ _ _ _ _
  · refine does_of s.dev.mbxInFree rfl ?_
    generalize s.dev = d
    dsimp only
    by_cases hb : d.writeBarred (mbxAt Off.mbxCmd) = true
    · rw [if_pos hb]
      exact if_pos hb
    have hb' := Bool.eq_false_iff.mpr hb
    rw [if_neg hb, show d.mbxInFree = (d.w1c (mbxAt Off.mbxCmd) 4).placeFrame from d.onCommand_of_not_barred _ _ hb']
    have hbit := d.bit_w1c (mbxAt Off.mbxCmd) 4 2 (by decide)
    have hregs := d.regsBut_w1c (mbxAt Off.mbxCmd) 4
    by_cases hcycle : d.bit (mbxAt Off.mbxCmd) 2 = true ∧ bitOf (d.pages.cyc.hwSet.get 0 (mbxAt Off.mbxCmd)) 2 = true
    · have hkept : (d.w1c (mbxAt Off.mbxCmd) 4).bit (mbxAt Off.mbxCmd) 2 = true := by
        rw [hbit, hcycle.1, show Nat.testBit _ 2 = true from hcycle.2]; rfl
      rw [if_pos hcycle, Device.placeFrame_occupied _ hkept]
      exact ⟨hkept, hregs, rfl⟩
    · have hfree : (d.w1c (mbxAt Off.mbxCmd) 4).bit (mbxAt Off.mbxCmd) 2 = false := by
        rw [hbit]
        cases h1 : d.bit (mbxAt Off.mbxCmd) 2 with
        | false => rfl
        | true =>
          rw [show Nat.testBit _ 2 = false from Bool.eq_false_iff.mpr fun h2 => hcycle ⟨h1, h2⟩]
          rfl
      rw [if_neg hcycle]
      have hframes : (d.w1c (mbxAt Off.mbxCmd) 4).cust.framesIn = d.cust.framesIn := rfl
      cases hf : d.cust.framesIn with
      | nil =>
        rw [Device.placeFrame_empty _ (hframes.trans hf)]
        exact ⟨hfree, hregs, rfl⟩
      | cons x rest =>
        have hpage : d.pages.resetting.mem (mbxAt 0) = false := by
          unfold Device.writeBarred at hb'
          exact (Bool.or_eq_false_iff.mp hb').1
        rw [Device.placeFrame_of_free _ x rest (hframes.trans hf) hfree hpage]
        exact (d.w1c (mbxAt Off.mbxCmd) 4).framePlaced_facts x rest

end Sys2Proof.Machine
end

section
/-! SUPPORT. Window slots, and the checks of a descriptor at its acceptance (03_host_queues.md R69 to R72, R93 to R96). -/

namespace Sys2Proof.Machine

/-! ## Window slots -/

/-- The bytes of a write that fall into the slot replace those there, one mask bit each (R69). -/
theorem Slot.write_facts (data : Bytes) : ∀ (x : Slot) (off : Nat), x.bytes.length = 64 →
    (x.write off data).occupant = x.occupant ∧ (x.write off data).bytes.length = 64 ∧
    ∀ i, i < 64 → (x.write off data).mask.getLsbD i = (x.mask.getLsbD i || (decide (off ≤ i) && decide (i < off + data.length))) ∧
      (x.write off data).bytes[i]? = if off ≤ i ∧ i < off + data.length then data[i - off]? else x.bytes[i]? := by
  induction data with
  | nil =>
    intro x off hlen
    refine ⟨rfl, hlen, fun i hi => ⟨?_, ?_⟩⟩
    · have : (decide (off ≤ i) && decide (i < off + ([] : Bytes).length)) = false := by
        simp only [List.length_nil, Bool.and_eq_false_iff, decide_eq_false_iff_not]
        omega
      rw [this, Bool.or_false]
      rfl
    · rw [if_neg (by simp only [List.length_nil]; omega)]
      rfl
  | cons b bs ih =>
    intro x off hlen
    by_cases hoff : off < 64
    · have hwrite : x.write off (b :: bs) =
          ({ x with bytes := x.bytes.set off b, mask := x.mask ||| BitVec.ofNat 64 (2 ^ off) } : Slot).write (off + 1) bs := if_pos hoff
      obtain ⟨h1, h2, h3⟩ := ih { x with bytes := x.bytes.set off b, mask := x.mask ||| BitVec.ofNat 64 (2 ^ off) } (off + 1)
        (by rw [List.length_set]; exact hlen)
      rw [hwrite]
      refine ⟨h1, h2, fun i hi => ?_⟩
      obtain ⟨hmask, hbytes⟩ := h3 i hi
      refine ⟨?_, ?_⟩
      · rw [hmask, BitVec.getLsbD_or, BitVec.getLsbD_ofNat, Nat.testBit_two_pow, List.length_cons, Bool.or_assoc]
        congr 1
        rw [decide_eq_true hi, Bool.true_and, ← Bool.decide_and, ← Bool.decide_and, ← Bool.decide_or]
        exact decide_eq_decide.mpr (by omega)
      · rw [hbytes, List.length_cons]
        by_cases hio : i = off
        · rw [if_neg (by omega), if_pos (by omega), hio, Nat.sub_self]
          exact List.getElem?_set_self (by rw [hlen]; exact hoff)
        · rw [List.getElem?_set_ne (Ne.symm hio)]
          by_cases hin : off + 1 ≤ i ∧ i < off + 1 + bs.length
          · rw [if_pos hin, if_pos (by omega), show i - off = (i - (off + 1)) + 1 by omega, List.getElem?_cons_succ]
          · rw [if_neg hin, if_neg (by omega)]
    · have hwrite : x.write off (b :: bs) = x := if_neg hoff
      rw [hwrite]
      refine ⟨rfl, hlen, fun i hi => ⟨?_, ?_⟩⟩
      · rw [decide_eq_false (by omega : ¬off ≤ i), Bool.false_and, Bool.or_false]
      · rw [if_neg (by omega)]

/-- An access that the intake drops counts on its source, and against the VF where it is unmapped (R35). -/
theorem Device.dropAccess_facts (d : Device) (v src : Nat) :
    let t := d.dropAccess v src
    t.gave (.event src) ∧ t.front.qps = d.front.qps ∧ (∀ u, u ≠ v → t.vf u = d.vf u) ∧
    t.vf v = { d.vf v with unmapped := (d.vf v).unmapped + (if src = 210 then 1 else 0) } ∧ t.power = d.power ∧ t.units = d.units := by
  by_cases hsrc : src = 210
  · subst hsrc
    rw [d.dropAccess_210 v]
    refine ⟨gave_setVf _ _ _ (gave_fault_self _ _), Device.fault_front_qps _ _, fun u hu => ?_, ?_, Device.fault_power _ _, Device.fault_units _ _⟩
    · rw [Device.vf_setVf_ne _ _ _ _ hu, Device.vf_fault]
    · rw [Device.vf_setVf]
      rfl
  · have hdrop : d.dropAccess v src = d.fault src := if_neg hsrc
    rw [hdrop, if_neg hsrc]
    exact ⟨gave_fault_self _ _, Device.fault_front_qps _ _, fun u _ => Device.vf_fault _ _ _, Device.vf_fault _ _ _, Device.fault_power _ _,
      Device.fault_units _ _⟩

/-- A write that the queue pair takes in. -/
theorem Device.windowWrite_of_taken (d : Device) (v q k off : Nat) (data : Bytes) (hexp : d.exposed v = true) (hin : d.intakeDrop v q = none) :
    d.windowWrite v q k off data =
      let x := d.qp v q
      let s := (x.slots.get Slot.empty k).write off data
      if s.mask ≠ BitVec.allOnes 64 then d.setQp v q (x.putSlot k s)
      else (d.setQp v q (x.putSlot k { s with mask := 0, occupant := if s.occupant.isSome then s.occupant else some d.sched.nextItem })).accept
        { vf := v, qp := q, window := true, slot := k, intruder := s.occupant.isSome } s.bytes := by
  unfold Device.windowWrite
  rw [if_neg (by simp [hexp]), hin]

/-- Settles O30: by exposure, by the intake, and by whether the write fills the mask. -/
theorem windowSlots : Obligations.WindowSlots := by
  unfold Obligations.WindowSlots
  refine ⟨fun v q k off data s => ?_, fun x off data hlen => Slot.write_facts data x off hlen⟩
  refine does_of (s.dev.windowWrite v q k off data) rfl ?_
  generalize s.dev = d
  dsimp only
  refine ⟨fun h => if_pos (by simp [h]), fun h src hsrc => ?_, fun h hin hmask => ?_, fun h hin hmask hocc => ?_, fun h hin hmask n hocc => ?_⟩
  · have hdrop : d.windowWrite v q k off data = d.dropAccess v src := by
      unfold Device.windowWrite
      rw [if_neg (by simp [h]), hsrc]
    rw [hdrop]
    exact d.dropAccess_facts v src
  · exact (d.windowWrite_of_taken v q k off data h hin).trans (if_pos hmask)
  · refine (d.windowWrite_of_taken v q k off data h hin).trans ((if_neg (not_not.mpr hmask)).trans ?_)
    rw [hocc]
    rfl
  · refine (d.windowWrite_of_taken v q k off data h hin).trans ((if_neg (not_not.mpr hmask)).trans ?_)
    simp only [hocc, Option.isSome_some, if_true]
    rfl

/-! ## What the checks depend on -/

/-- Two devices between which nothing changed that the checks of a descriptor ask. -/
def Device.sameChecks (d t : Device) : Prop :=
  t = { d with pages := t.pages, out := t.out, sched := t.sched, front := { d.front with msix := t.front.msix, qps := t.front.qps } }

theorem Device.sameChecks_facts {d t : Device} (h : d.sameChecks t) :
    (∀ v, t.vf v = d.vf v) ∧ t.cust = d.cust ∧ t.storeRefusal = d.storeRefusal ∧ (∀ c, t.outCapOk c = d.outCapOk c) ∧
    (∀ v c, t.checkTable v c = d.checkTable v c) ∧ (∀ e, t.checkEpoch e = d.checkEpoch e) := by
  obtain ⟨p, o, s, m, q, rfl⟩ : ∃ p o s m q, t = { d with pages := p, out := o, sched := s, front := { d.front with msix := m, qps := q } } :=
    ⟨_, _, _, _, _, h⟩
  exact ⟨fun _ => rfl, rfl, rfl, fun _ => rfl, fun _ _ => rfl, fun _ => rfl⟩

/-! ## The checks of an item -/

/-- Steps 1 and 2 as conditions: a VF that froze or was created anew; a mode without the service, or a drain. -/
def Device.migrates (d : Device) (v : Nat) (c : Desc) : Prop := (d.vf v).st = .frozen ∨ (c.pgen ≠ 0 ∧ c.pgen ≠ (d.vf v).pgen)
def Device.stops (d : Device) (n v : Nat) (c : Desc) : Prop :=
  (¬(0x0F00 ≤ c.service ∧ c.service ≤ 0x0FFF) ∧ ¬(d.cust.mode = .service ∨ d.cust.mode = .maintenance)) ∨
    ((d.vf v).st = .draining ∧ (d.vf v).drainFrom ≤ n)

theorem Device.checkEarly_eq (d : Device) (n v : Nat) (c : Desc) [Decidable (d.migrates v c)] :
    d.checkEarly n v c = if d.migrates v c then some (.migrated, 0) else d.checkMode n v c := by
  unfold Device.checkEarly
  have hcond : ((d.vf v).st == .frozen || (c.pgen != 0 && c.pgen != (d.vf v).pgen)) = true ↔ d.migrates v c := by
    simp only [Device.migrates, Bool.or_eq_true, Bool.and_eq_true, beq_iff_eq, bne_iff_ne]
  exact if_congr hcond rfl rfl

theorem Device.checkMode_eq (d : Device) (n v : Nat) (c : Desc) [Decidable (d.stops n v c)] :
    d.checkMode n v c = if d.stops n v c then some (.mode, 0)
      else if c.commits && !c.bundle then d.storeRefusal.map fun k => (.mode, k) else none := by
  unfold Device.checkMode
  have hcond : (!c.diagnostics && !(d.cust.mode == .service || d.cust.mode == .maintenance) ||
      (d.vf v).st == .draining && decide ((d.vf v).drainFrom ≤ n)) = true ↔ d.stops n v c := by
    simp only [Device.stops, Desc.diagnostics, Bool.or_eq_true, Bool.and_eq_true, beq_iff_eq, Bool.not_eq_true', decide_eq_false_iff_not,
      decide_eq_true_eq, Bool.or_eq_false_iff, not_or, beq_eq_false_iff_ne]
  refine if_congr hcond rfl ?_
  cases d.storeRefusal <;> rfl

/-- An item held at step 5 has its HOLD entry (R95). -/
theorem Device.epochStep_hold (d : Device) (n : Nat) (x : Item) (hx : d.item n = some x) (hh : d.checkEpoch x.desc.epoch = .hold) :
    (d.epochStep n).standsAt n .epochHold ∧ (d.epochStep n).hasDelay holdList n = true := by
  unfold Device.epochStep
  simp only [hx, hh]
  split
  next hd => exact ⟨⟨_, Device.item_setItem _ _ _, rfl⟩, hd⟩
  next => exact ⟨⟨_, Device.item_setItem _ _ _, rfl⟩, by simp [Device.hasDelay, Device.addDelay, Device.mapSched]⟩

theorem Device.epochStep_stale (d : Device) (n : Nat) (x : Item) (hx : d.item n = some x) (hs : d.checkEpoch x.desc.epoch = .stale) :
    d.epochStep n = d.refuseAdmission n .epochStale := by
  unfold Device.epochStep
  simp only [hx, hs]

theorem Device.checkItem_of_early (d : Device) (n : Nat) (x : Item) (hx : d.item n = some x) (st : Status) (k : Nat)
    (h : d.checkEarly n x.route.vf x.desc = some (st, k)) : (d.checkItem n).ended n st k := by
  unfold Device.checkItem
  simp only [hx, h]
  exact d.ended_finishItem n x st k hx

theorem Device.checkItem_of_whole (d : Device) (n : Nat) (x : Item) (hx : d.item n = some x) (hr : x.route.intruder = false)
    (h : d.checkEarly n x.route.vf x.desc = none) (hb : x.desc.bundle = false) :
    (∀ k, withLength (!d.outCapOk x.desc) (formatDetail x.desc false) = some k → (d.checkItem n).ended n .format k) ∧
    (withLength (!d.outCapOk x.desc) (formatDetail x.desc false) = none → ∀ k, d.checkTable x.route.vf x.desc = .refused k →
      (d.checkItem n).ended n .table k) ∧
    (withLength (!d.outCapOk x.desc) (formatDetail x.desc false) = none → ∀ b, d.checkTable x.route.vf x.desc = .bound b →
      (d.checkEpoch x.desc.epoch = .stale → (d.checkItem n).ended n .epochStale 0) ∧
      (d.checkEpoch x.desc.epoch = .hold → (d.checkItem n).standsAt n .epochHold ∧ (d.checkItem n).hasDelay holdList n = true)) := by
  refine ⟨fun k hk => ?_, fun hf k hk => ?_, fun hf b hk => ?_⟩
  · have heq : d.checkItem n = d.finishItem n .format k := by
      unfold Device.checkItem
      simp only [hx, h, hr, hb, hk, Bool.false_eq_true, if_false]
    rw [heq]
    exact d.ended_finishItem n x _ _ hx
  · have heq : d.checkItem n = d.finishItem n .table k := by
      unfold Device.checkItem Device.serviceStep
      simp only [hx, h, hr, hb, hf, hk, Bool.false_eq_true, if_false]
    rw [heq]
    exact d.ended_finishItem n x _ _ hx
  · have heq : d.checkItem n = (d.setItem n { x with bound := b }).epochStep n := by
      unfold Device.checkItem Device.serviceStep
      simp only [hx, h, hr, hb, hf, hk, Bool.false_eq_true, if_false]
    rw [heq]
    have hy := d.item_setItem n { x with bound := b }
    refine ⟨fun hs => ?_, fun hh => Device.epochStep_hold _ n _ hy hh⟩
    rw [Device.epochStep_stale _ n _ hy hs]
    exact Device.ended_refuseAdmission _ n _ _ hy

theorem Device.checkItem_of_bundle (d : Device) (n : Nat) (x : Item) (hx : d.item n = some x) (hr : x.route.intruder = false)
    (h : d.checkEarly n x.route.vf x.desc = none) (hb : x.desc.bundle = true) :
    (∀ k, bundleDetail x.desc = some k → (d.checkItem n).ended n .format k) ∧
    (bundleDetail x.desc = none → (d.checkItem n).standsAt n .bundleRead ∧ (d.checkItem n).gave (.sent (.bufRead n x.desc.bufAddr x.desc.inLen))) := by
  refine ⟨fun k hk => ?_, fun hk => ?_⟩
  · have heq : d.checkItem n = d.finishItem n .format k := by
      unfold Device.checkItem
      simp only [hx, h, hr, hb, hk, Bool.false_eq_true, if_false, if_true]
    rw [heq]
    exact d.ended_finishItem n x _ _ hx
  · have heq : d.checkItem n = (d.setItem n { x with stage := .bundleRead }).emit (.bufRead n x.desc.bufAddr x.desc.inLen) := by
      unfold Device.checkItem
      simp only [hx, h, hr, hb, hk, Bool.false_eq_true, if_false, if_true]
    rw [heq]
    exact ⟨⟨_, d.item_setItem n _, rfl⟩, gave_emit_self _ _⟩

/-! ## Acceptance -/

/-- An item without an entry takes none from its partition. -/
theorem Table.filter_insert_le {α : Type} (p : Nat × α → Bool) (k : Nat) (v : α) (m : Table α) (h : p (k, v) = false) :
    ((Table.insert k v m).filter p).length ≤ (m.filter p).length := by
  induction m with
  | nil => simp [Table.insert, h]
  | cons e m ih =>
    obtain ⟨k', v'⟩ := e
    unfold Table.insert
    split
    · rw [List.filter_cons_of_neg (by simp [h])]
    split
    · rw [List.filter_cons_of_neg (by simp [h])]
      exact (List.sublist_cons_self _ _).filter p |>.length_le
    · rw [List.filter_cons, List.filter_cons]
      split
      · exact Nat.succ_le_succ ih
      · exact ih

/-- A descriptor just accepted, before its checks. -/
def Device.accepted (d : Device) (r : Route) (x : Item) : Device :=
  ((d.setItem d.sched.nextItem x).mapSched fun s => { s with nextItem := d.sched.nextItem + 1 }).countEvent (some r.vf) 0x01 1

theorem Device.accepted_facts (d : Device) (r : Route) (x : Item) (hpart : x.part = none) :
    let e := d.accepted r x
    e.item d.sched.nextItem = some x ∧ e.entries .shared ≤ d.entries .shared ∧ e.listsOpen = d.listsOpen ∧ d.sameChecks e := by
  let u := (d.setItem d.sched.nextItem x).mapSched fun s => { s with nextItem := d.sched.nextItem + 1 }
  obtain ⟨p, o, m, heq⟩ : ∃ p o m, d.accepted r x = { u with pages := p, out := o, front := { u.front with msix := m } } :=
    ⟨_, _, _, Device.onlyRegs_countEvent u u (some r.vf) 0x01 1 u.onlyRegs_refl⟩
  rw [heq]
  refine ⟨(Table.find?_insert _ _ _ _).trans (if_pos rfl), ?_, rfl, rfl⟩
  exact Table.filter_insert_le _ _ _ _ (by rw [hpart]; rfl)

/-- An item with room in the matching store and in the delay lists is checked; without room in the lists it stays. -/
theorem Device.ingest_of_room (d : Device) (n : Nat) (x : Item) (hx : d.item n = some x) (hs : x.stage = .ingest) (hr : x.route.intruder = false)
    (hroom : d.entries .shared < 241664) (ho : d.listsOpen = true) :
    d.ingest n = (d.setItem n { x with part := some .shared }).checkItem n := by
  have htake : d.takeEntry (x.route.window && x.cls == .interactive) = some .shared := if_pos hroom
  unfold Device.ingest
  simp only [hx, hs, hr, htake, ho, ne_eq, not_true_eq_false, Bool.false_eq_true, if_false, if_true]

theorem Device.ingest_of_full (d : Device) (n : Nat) (x : Item) (hx : d.item n = some x) (hr : x.route.intruder = false)
    (ho : d.listsOpen = false) : d.ingest n = d := by
  unfold Device.ingest
  simp only [hx, hr, ho, Bool.false_eq_true, if_false]
  split
  · rfl
  · split <;> rfl

/-- The item that a descriptor makes. -/
def Device.acceptedItem (d : Device) (r : Route) (bytes : Bytes) : Item :=
  Item.atAcceptance r (Desc.parse bytes) (d.qpClass r.vf r.qp) d.cycle

theorem Device.accept_eq (d : Device) (r : Route) (bytes : Bytes) :
    d.accept r bytes = (d.accepted r (d.acceptedItem r bytes)).ingest d.sched.nextItem := rfl

theorem Device.acceptedItem_facts (d : Device) (r : Route) (bytes : Bytes) :
    let y := d.acceptedItem r bytes
    y.stage = .ingest ∧ y.part = none ∧ y.route = r ∧ y.desc = Desc.parse bytes := ⟨rfl, rfl, rfl, rfl⟩

/-- With room, an accepted descriptor is checked by a device that differs in nothing that the checks ask. -/
theorem Device.accept_of_room (d : Device) (r : Route) (bytes : Bytes) (hr : r.intruder = false) (hroom : d.entries .shared < 241664)
    (ho : d.listsOpen = true) : ∃ u y, d.accept r bytes = u.checkItem d.sched.nextItem ∧ u.item d.sched.nextItem = some y ∧ y.route = r ∧
      y.desc = Desc.parse bytes ∧ d.sameChecks u := by
  rw [d.accept_eq]
  obtain ⟨hstage, hpart, hroute, hdesc⟩ := d.acceptedItem_facts r bytes
  generalize d.acceptedItem r bytes = y at *
  obtain ⟨hitem, hentries, hlists, hsame⟩ := d.accepted_facts r y hpart
  generalize d.accepted r y = e at *
  refine ⟨e.setItem d.sched.nextItem { y with part := some .shared }, { y with part := some .shared },
    e.ingest_of_room _ y hitem hstage (by rw [hroute]; exact hr) (lt_of_le_of_lt hentries hroom) (hlists.trans ho),
    Device.item_setItem _ _ _, hroute, hdesc, ?_⟩
  obtain ⟨p, o, sc, m, qs, heq⟩ : ∃ p o sc m qs, e = { d with pages := p, out := o, sched := sc, front := { d.front with msix := m, qps := qs } } :=
    ⟨_, _, _, _, _, hsame⟩
  rw [heq]
  rfl

theorem Device.accept_of_full (d : Device) (r : Route) (bytes : Bytes) (hr : r.intruder = false) (ho : d.listsOpen = false) :
    (d.accept r bytes).standsAt d.sched.nextItem .ingest := by
  rw [d.accept_eq]
  obtain ⟨hstage, hpart, hroute, _⟩ := d.acceptedItem_facts r bytes
  generalize d.acceptedItem r bytes = y at *
  obtain ⟨hitem, _, hlists, _⟩ := d.accepted_facts r y hpart
  generalize d.accepted r y = e at *
  rw [e.ingest_of_full _ y hitem (by rw [hroute]; exact hr) (hlists.trans ho)]
  exact ⟨y, hitem, hstage⟩

/-! ## Completions of SQ reads -/

theorem Device.readCompletion_none (d : Device) (v q : Nat) (data : Bytes) (h : (d.qp v q).reads = []) : d.readCompletion v q data = d := by
  unfold Device.readCompletion
  dsimp only
  rw [h]

theorem Device.readCompletion_stopped (d : Device) (v q : Nat) (data : Bytes) (h : (d.qp v q).reads ≠ []) (hin : d.intakeDrop v q ≠ none) :
    d.readCompletion v q data = d.dropReads v q := by
  obtain ⟨i, is, hreads⟩ := List.exists_cons_of_ne_nil h
  unfold Device.readCompletion
  dsimp only
  rw [hreads]
  exact if_pos (Option.isSome_iff_ne_none.mpr hin)

theorem Device.readCompletion_taken (d : Device) (v q : Nat) (data : Bytes) (i : Nat) (is : List Nat) (h : (d.qp v q).reads = i :: is)
    (hin : d.intakeDrop v q = none) : d.readCompletion v q data = (d.setQp v q { d.qp v q with reads := is }).accept
      { vf := v, qp := q, window := false, slot := i, intruder := false } (padTo 64 data) := by
  unfold Device.readCompletion
  dsimp only
  rw [h]
  exact if_neg (by rw [hin]; decide)

/-- What the checks answer of an item whose descriptor is c, in a device that differs from d in nothing that they ask. -/
theorem Device.checkEarly_same {d u : Device} (h : d.sameChecks u) (n v : Nat) (c : Desc) [Decidable (d.migrates v c)] [Decidable (d.stops n v c)] :
    u.checkEarly n v c = if d.migrates v c then some (.migrated, 0) else if d.stops n v c then some (.mode, 0)
      else if c.commits && !c.bundle then d.storeRefusal.map fun k => (.mode, k) else none := by
  obtain ⟨hvf, hcust, hstore, _⟩ := Device.sameChecks_facts h
  have hsame : u.checkEarly n v c = d.checkEarly n v c := by
    unfold Device.checkEarly Device.checkMode
    rw [hvf, hcust, hstore]
  rw [hsame, d.checkEarly_eq, d.checkMode_eq]

/-- Settles O31: by the reads outstanding, by the intake, and then by the first check that stops the descriptor. -/
theorem checksAtAcceptance : Obligations.ChecksAtAcceptance := by
  unfold Obligations.ChecksAtAcceptance
  intro v q data s
  refine does_of (s.dev.readCompletion v q data) rfl ?_
  generalize s.dev = d
  intro d' x n c f diag served migrated stopped whole late
  refine ⟨d.readCompletion_none v q data, d.readCompletion_stopped v q data, fun i is h hin hroom hopen => ?_, fun i is h hin hopen => ?_⟩
  · rw [d.readCompletion_taken v q data i is h hin]
    obtain ⟨u, y, heq, hy, hroute, hdesc, hsame⟩ := (d.setQp v q { d.qp v q with reads := is }).accept_of_room
      { vf := v, qp := q, window := false, slot := i, intruder := false } (padTo 64 data) rfl hroom hopen
    replace hsame : d.sameChecks u := hsame
    replace hy : u.item n = some y := hy
    replace hdesc : y.desc = c := hdesc
    have hv : y.route.vf = v := congrArg Route.vf hroute
    have hr : y.route.intruder = false := congrArg Route.intruder hroute
    rw [show _ = u.checkItem n from heq]
    obtain ⟨_, _, _, hcap, htable, hepoch⟩ := Device.sameChecks_facts hsame
    classical
    have hearly : u.checkEarly n y.route.vf y.desc = if migrated then some (.migrated, 0) else if stopped then some (.mode, 0)
        else if c.commits && !c.bundle then d.storeRefusal.map fun k => (.mode, k) else none := by
      rw [hv, hdesc]
      exact (Device.checkEarly_same hsame n v c).trans (if_congr Iff.rfl rfl (if_congr Iff.rfl rfl rfl))
    have hpass : ¬migrated → ¬stopped → (c.commits && !c.bundle) = false ∨ d.storeRefusal = none → u.checkEarly n y.route.vf y.desc = none :=
      fun h1 h2 h3 => by
        rw [hearly, if_neg h1, if_neg h2]
        obtain h3 | h3 := h3
        · rw [h3]; rfl
        · rw [h3]; exact ite_self _
    have hlate : ¬late → (c.commits && !c.bundle) = false ∨ d.storeRefusal = none := fun h4 => by
      by_cases hc : c.commits = true
      · exact .inr (not_not.mp fun hne => h4 ⟨hc, hne⟩)
      · exact .inl (by rw [Bool.eq_false_iff.mpr hc]; rfl)
    have hwhole := fun h1 h2 (h3 : whole) h4 => u.checkItem_of_whole n y hy hr (hpass h1 h2 (hlate h4)) (hdesc ▸ h3)
    have hbundle := fun h1 h2 (h3 : ¬whole) => u.checkItem_of_bundle n y hy hr
      (hpass h1 h2 (.inl (by rw [Bool.of_not_eq_false h3, Bool.not_true, Bool.and_false]))) (hdesc ▸ Bool.of_not_eq_false h3)
    rw [hv, hdesc, hcap, htable, hepoch] at hwhole
    rw [hdesc] at hbundle
    refine ⟨fun h1 => ?_, fun h1 h2 => ?_, fun h1 h2 h3 k hc hk => ?_, fun h1 h2 h3 h4 => (hwhole h1 h2 h3 h4).1,
      fun h1 h2 h3 h4 => (hwhole h1 h2 h3 h4).2.1, fun h1 h2 h3 h4 => (hwhole h1 h2 h3 h4).2.2,
      fun h1 h2 h3 => (hbundle h1 h2 h3).1, fun h1 h2 h3 => (hbundle h1 h2 h3).2⟩
    · exact u.checkItem_of_early n y hy _ _ (hearly.trans (if_pos h1))
    · exact u.checkItem_of_early n y hy _ _ (hearly.trans ((if_neg h1).trans (if_pos h2)))
    · refine u.checkItem_of_early n y hy _ _ (hearly.trans ((if_neg h1).trans ((if_neg h2).trans ?_)))
      rw [hc, show c.bundle = false from h3, show d.storeRefusal = some k from hk]
      rfl
  · rw [d.readCompletion_taken v q data i is h hin]
    exact (d.setQp v q { d.qp v q with reads := is }).accept_of_full _ _ rfl hopen

end Sys2Proof.Machine
end

section
/-! SUPPORT. Deferred items, fences and epoch holds (03_host_queues.md R95, R100, R101, R109, R118). -/

namespace Sys2Proof.Machine

/-! ## What admission's outcomes say -/

/-- A refusal by admission completes the item, judges it refused with the DELAY measured, and touches the scheduler alone. -/
theorem Device.refuseAdmission_facts (d : Device) (n : Nat) (x : Item) (st : Status) (hx : d.item n = some x) :
    (d.refuseAdmission n st).ended n st 0 ∧ (d.refuseAdmission n st).judged n .refused (d.delaySince x) ∧ d.onlySched (d.refuseAdmission n st) :=
  ⟨d.ended_refuseAdmission n x st hx, d.judged_refuseAdmission n x st hx, d.onlySched_refuseAdmission d n st d.onlySched_refl⟩

theorem Device.onlySched_dropDelay (d : Device) (l n : Nat) : d.onlySched (d.dropDelay l n) := d.onlySched_mapSched d _ d.onlySched_refl

/-! ## Deferred items -/

theorem Device.deferDue_of_waiting (d : Device) (n : Nat) (x : Item) (hx : d.item n = some x) (hs : x.stage = .deferred)
    (hd : d.hasDelay deferList n = true) : d.deferDue n = (d.dropDelay deferList n).admitTry n true := by
  unfold Device.deferDue
  rw [hx]
  exact if_pos ⟨hs, hd⟩

theorem Device.deferDue_of_none (d : Device) (n : Nat) (h : ∀ x, d.item n = some x → ¬(x.stage = .deferred ∧ d.hasDelay deferList n = true)) :
    d.deferDue n = d := by
  unfold Device.deferDue
  cases hx : d.item n with
  | none => rfl
  | some x => exact if_neg (h x hx)

/-- The only deferred item is tried, whatever its group. -/
theorem Device.admitDeferred_only (d : Device) (n : Nat) (x : Item) (h : (d.sched.items.filter fun e => e.2.stage == .deferred) = [(n, x)]) :
    d.admitDeferred = d.admitTry n false := by
  unfold Device.admitDeferred
  dsimp only
  rw [h]
  have hgroup : d.admitGroup x = 0 ∨ d.admitGroup x = 1 ∨ d.admitGroup x = 2 ∨ d.admitGroup x = 3 := by
    unfold Device.admitGroup
    split
    · split <;> simp
    · simp
    · simp
  obtain hg | hg | hg | hg := hgroup <;> simp [List.filter_cons, hg]

theorem Device.admitDeferred_none (d : Device) (h : (d.sched.items.filter fun e => e.2.stage == .deferred) = []) : d.admitDeferred = d := by
  unfold Device.admitDeferred
  dsimp only
  rw [h]
  rfl

/-- Settles O33: each deferred item by what holds, refuses, admits or defers it, its entry due or not. -/
theorem deferredAdmission : Obligations.DeferredAdmission := by
  unfold Obligations.DeferredAdmission
  refine ⟨fun n s => ?_, fun s => ?_⟩
  · refine does_of (s.dev.deferDue n) rfl ?_
    generalize s.dev = d
    refine ⟨d.deferDue_of_none n, fun x hx hs hd => ?_⟩
    rw [d.deferDue_of_waiting n x hx hs hd]
    have hfacts := (d.dropDelay deferList n).admitTry_facts n true x hx
    have honly := d.onlySched_dropDelay deferList n
    have hrefuse := fun st => (d.dropDelay deferList n).refuseAdmission_facts n x st hx
    refine ⟨fun hw => ?_, fun hw ht => ?_, fun hw ht hk => ?_, fun hw ht hk => ?_⟩
    · rw [Device.admitTry_held (d.dropDelay deferList n) n true x hx hw]
      obtain ⟨h1, h2, h3⟩ := (d.dropDelay deferList n).deferItem_facts n x
      exact ⟨h1, h2, Device.onlySched_trans honly h3⟩
    · rw [(hfacts hw).1 ht (.inl rfl)]
      exact ⟨(hrefuse _).1, (hrefuse _).2.1, Device.onlySched_trans honly (hrefuse _).2.2⟩
    · rw [(hfacts hw).2.2.1 ht hk]
      exact (d.dropDelay deferList n).admitItem_facts n x
    · rw [(hfacts hw).2.2.2.1 ht hk (.inr (.inl rfl))]
      exact ⟨(hrefuse _).1, (hrefuse _).2.1, Device.onlySched_trans honly (hrefuse _).2.2⟩
  · refine does_of s.dev.admitDeferred rfl ?_
    generalize s.dev = d
    refine ⟨d.admitDeferred_none, fun n x honly hx hearly => ?_⟩
    rw [d.admitDeferred_only n x honly]
    have hfacts := d.admitTry_facts n false x hx
    have hlate : ¬(false = true ∨ d.deferLimit ≤ d.cycle - x.adm.limitFrom) := by
      rintro (h | h)
      · cases h
      · exact Nat.not_le.mpr hearly h
    refine ⟨fun hw ht hk => ?_, fun hw ht hk hb => ?_, fun h => ?_⟩
    · rw [(hfacts hw).2.2.1 ht hk]
      exact d.admitItem_facts n x
    · rw [(hfacts hw).2.2.2.1 ht hk (.inl hb)]
      exact d.refuseAdmission_facts n x _ hx
    · have hdefer : d.admitTry n false = d.deferItem n x := by
        by_cases hw : d.windowHeld x = true
        · exact d.admitTry_held n false x hx hw
        have hf := hfacts (Bool.eq_false_iff.mpr hw)
        by_cases ht : (d.vf x.route.vf).noTokens = true
        · exact hf.2.1 ht hlate
        obtain h | h | ⟨hk, hc⟩ := h
        · exact absurd h hw
        · exact absurd h ht
        · exact hf.2.2.2.2 (Bool.eq_false_iff.mpr ht) hk fun hb => hb.elim hc hlate
      rw [hdefer]
      exact d.deferItem_facts n x

/-! ## Fences -/

theorem Device.unfence_of_held (d : Device) (n : Nat) (h : ∀ x, d.item n = some x → x.stage ≠ .fenced ∨ d.fenceHolds n x = true) :
    d.unfence n = d := by
  unfold Device.unfence
  cases hx : d.item n with
  | none => rfl
  | some x => exact if_pos (by simpa using h x hx)

/-- An item that its fence lets go, with its time limit set anew where a fence held it. -/
def Item.unfenced (x : Item) (now : Nat) : Item :=
  if x.adm.fenced then { x with adm := { x.adm with limitFrom := now, fenced := false } } else x

theorem Item.unfenced_facts (x : Item) (now : Nat) :
    let y := x.unfenced now
    y.stage = x.stage ∧ y.route = x.route ∧ y.desc = x.desc ∧ y.cls = x.cls ∧ y.accepted = x.accepted ∧ y.adm.first = x.adm.first ∧
    y.onEngines = x.onEngines ∧ y.adm.limitFrom = (if x.adm.fenced = true then now else x.adm.limitFrom) := by
  unfold Item.unfenced
  split
  · exact ⟨rfl, rfl, rfl, rfl, rfl, rfl, rfl, rfl⟩
  · exact ⟨rfl, rfl, rfl, rfl, rfl, rfl, rfl, rfl⟩

theorem Device.unfence_of_free (d : Device) (n : Nat) (x : Item) (hx : d.item n = some x) (hs : x.stage = .fenced)
    (hf : d.fenceHolds n x = false) : d.unfence n =
      if d.windowHeld (x.unfenced d.cycle) = true then d.setItem n (x.unfenced d.cycle)
      else (d.setItem n (x.unfenced d.cycle)).admitStart n (x.unfenced d.cycle) := by
  unfold Device.unfence
  rw [hx]
  exact if_neg (by simp [hs, hf])

/-- The declared cycles of an item ask nothing of the scheduler, nor of what admission notes on the item. -/
theorem Device.declared_unfenced (d : Device) (n now : Nat) (x y : Item) : (d.setItem n y).declared (x.unfenced now) = d.declared x := by
  unfold Item.unfenced
  split
  · rfl
  · rfl

/-- An item with its declared cycles noted. -/
def Device.withDeclared (d : Device) (x : Item) : Item := { x with adm := { x.adm with cycles := d.declared x } }

/-- Admission begins: a VF whose record room is used up, or a queue pair that drains, refuses; else the loop runs (R109, R537). -/
theorem Device.admitStart_cases (d : Device) (n : Nat) (x : Item) :
    let f := d.vf x.route.vf
    let room := ¬(x.desc.createsRecords = true ∧ x.desc.bundle = false ∧ f.quotaStore * 1024 ≤ f.storeUse)
    let drains := (d.qp x.route.vf x.route.qp).draining = true
    let e := d.setItem n (d.withDeclared x)
    (¬room → d.admitStart n x = e.refuseAdmission n .refusedQuota) ∧
    (room → drains → d.admitStart n x = e.refuseAdmission n .refusedQuota) ∧
    (room → ¬drains → d.admitStart n x = e.admitTry n false) := by
  intro f room drains e
  have hroom : (x.desc.createsRecords && !x.desc.bundle && decide (f.quotaStore * 1024 ≤ f.storeUse)) = true ↔ ¬room := by
    simp only [room, not_not, Bool.and_eq_true, Bool.not_eq_true', decide_eq_true_eq, and_assoc]
  refine ⟨fun h => if_pos (hroom.mpr h), fun h hd => (if_neg fun hc => hroom.mp hc h).trans (if_pos hd),
    fun h hd => (if_neg fun hc => hroom.mp hc h).trans (if_neg hd)⟩

/-! ## Epoch holds -/

theorem Device.holdDue_of_none (d : Device) (n : Nat) (h : ∀ x, d.item n = some x → ¬(x.stage = .epochHold ∧ d.hasDelay holdList n = true)) :
    d.holdDue n = d := by
  unfold Device.holdDue
  cases hx : d.item n with
  | none => rfl
  | some x => exact if_neg (h x hx)

theorem Device.holdDue_of_held (d : Device) (n : Nat) (x : Item) (hx : d.item n = some x) (hs : x.stage = .epochHold)
    (hd : d.hasDelay holdList n = true) : d.holdDue n =
      if d.checkEpoch x.desc.epoch = .hold then (d.dropDelay holdList n).refuseAdmission n .epochAhead
      else (d.dropDelay holdList n).epochStep n := by
  unfold Device.holdDue
  rw [hx]
  exact if_pos ⟨hs, hd⟩

/-- In its epoch an item goes on to its fence (R95). -/
theorem Device.epochStep_fenced (d : Device) (n : Nat) (x : Item) (hx : d.item n = some x) (hp : d.checkEpoch x.desc.epoch = .proceed)
    (hf : d.fenceHolds n x = true) : (d.epochStep n).standsAt n .fenced ∧ d.onlySched (d.epochStep n) := by
  have heq : d.epochStep n = d.setItem n { x with stage := .fenced, adm := { x.adm with first := false, fenced := true } } := by
    unfold Device.epochStep Device.preAdmit
    simp only [hx, hp, hf, if_true]
  rw [heq]
  exact ⟨⟨_, d.item_setItem n _, rfl⟩, d.onlySched_setItem d n _ d.onlySched_refl⟩

/-- Settles O34: a fenced item by what holds or refuses it, a held one by its epoch. -/
theorem fencesAndEpochHolds : Obligations.FencesAndEpochHolds := by
  unfold Obligations.FencesAndEpochHolds
  refine ⟨fun n s => ?_, fun n s => ?_⟩
  · refine does_of (s.dev.unfence n) rfl ?_
    generalize s.dev = d
    refine ⟨d.unfence_of_held n, fun x hx hs hf hw => ?_, fun x hx hs hf hw => ?_⟩
    · obtain ⟨hstage, hroute, _, _, _, _, _, hlimit⟩ := x.unfenced_facts d.cycle
      refine ⟨x.unfenced d.cycle, (d.unfence_of_free n x hx hs hf).trans (if_pos ?_), hstage.trans hs, hlimit⟩
      unfold Device.windowHeld
      rw [hroute]
      exact hw
    · intro f room drains
      have hdeclared := d.declared_unfenced n d.cycle x (x.unfenced d.cycle)
      have hfree := d.unfence_of_free n x hx hs hf
      obtain ⟨_, hroute, hdesc, hcls, hacc, hfirst, heng, _⟩ := x.unfenced_facts d.cycle
      generalize x.unfenced d.cycle = y at *
      have hheld : d.windowHeld y = false := by unfold Device.windowHeld; rw [hroute]; exact hw
      rw [hfree, if_neg (by rw [hheld]; decide)]
      obtain ⟨c1, c2, c3⟩ := (d.setItem n y).admitStart_cases n y
      rw [hroute, hdesc] at c1 c2 c3
      let z := (d.setItem n y).withDeclared y
      let e := (d.setItem n y).setItem n z
      have hz : e.item n = some z := Device.item_setItem _ _ _
      have honly : d.onlySched e := d.onlySched_setItem _ n _ (d.onlySched_setItem d n _ d.onlySched_refl)
      have hdelay : e.delaySince z = d.delaySince x := by
        show delayUnits (d.cycle - y.accepted) = delayUnits (d.cycle - x.accepted)
        rw [hacc]
      have hrefuse : (e.refuseAdmission n .refusedQuota).ended n .refusedQuota 0 ∧
          (e.refuseAdmission n .refusedQuota).judged n .refused (d.delaySince x) ∧ d.onlySched (e.refuseAdmission n .refusedQuota) := by
        obtain ⟨h1, h2, h3⟩ := e.refuseAdmission_facts n z .refusedQuota hz
        exact ⟨h1, hdelay ▸ h2, Device.onlySched_trans honly h3⟩
      refine ⟨fun hr => ?_, fun hr hd => ?_, fun hr hd ht hc hshare => ?_⟩
      · rw [c1 hr]
        exact hrefuse
      · rw [c2 hr hd]
        exact hrefuse
      · have hwz : e.windowHeld z = false := hheld
        have hfz : e.vf z.route.vf = f := by show d.vf y.route.vf = f; rw [hroute]
        have hez : z.onEngines = x.onEngines := heng
        have htry := e.admitTry_facts n false z hz hwz
        rw [hfz, hez] at htry
        rw [c3 hr hd, htry.2.2.1 ht (.inl ⟨hcls.trans hc, hshare⟩)]
        obtain ⟨hjudged, hvf⟩ := e.admitItem_facts n z
        rw [hfz, hez, if_pos hshare, show z.adm.cycles = d.declared x from hdeclared] at hvf
        rw [hdelay, show z.adm.first = x.adm.first from hfirst] at hjudged
        refine ⟨hjudged, ?_⟩
        rw [← show z.route.vf = x.route.vf from congrArg Route.vf hroute]
        exact hvf
  · refine does_of (s.dev.holdDue n) rfl ?_
    generalize s.dev = d
    refine ⟨d.holdDue_of_none n, fun x hx hs hd => ?_⟩
    rw [d.holdDue_of_held n x hx hs hd]
    have honly := d.onlySched_dropDelay holdList n
    refine ⟨fun he => ?_, fun he => ?_, fun he hf => ?_⟩
    · rw [if_pos he]
      obtain ⟨h1, h2, h3⟩ := (d.dropDelay holdList n).refuseAdmission_facts n x .epochAhead hx
      exact ⟨h1, h2, Device.onlySched_trans honly h3⟩
    · rw [if_neg (by rw [he]; decide), Device.epochStep_stale (d.dropDelay holdList n) n x hx he]
      obtain ⟨h1, h2, h3⟩ := (d.dropDelay holdList n).refuseAdmission_facts n x .epochStale hx
      exact ⟨h1, h2, Device.onlySched_trans honly h3⟩
    · rw [if_neg (by rw [he]; decide)]
      obtain ⟨h1, h2⟩ := (d.dropDelay holdList n).epochStep_fenced n x hx he hf
      exact ⟨h1, Device.onlySched_trans honly h2⟩

end Sys2Proof.Machine
end

section
/-! SUPPORT. Operands that arrive, are refused or are looked up again (03_host_queues.md R94; 08_scheduler.md R336 to R338;
09_key_hierarchy.md R394 to R398). -/

namespace Sys2Proof.Machine

/-! ## What shared outcomes say -/

/-- Where an item of no bundle settles depends on the device by its gates alone. -/
theorem Device.settled_congr {d e : Device} (h : e.gatesShut = d.gatesShut) (t : Device) (n : Nat) (y : Item) (hs : e.settled t n y) :
    d.settled t n y := by
  unfold Device.settled at *
  rw [h] at hs
  exact hs

theorem Device.gatesShut_countEvent (d : Device) (vf : Option Nat) (ev inc : Nat) : (d.countEvent vf ev inc).gatesShut = d.gatesShut := by
  unfold Device.gatesShut Device.safeHold
  rw [Device.countEvent_cust, Device.countEvent_tamp, Device.countEvent_sources]

theorem Device.item_countEvent (d : Device) (vf : Option Nat) (ev inc n : Nat) : (d.countEvent vf ev inc).item n = d.item n := by
  unfold Device.item
  rw [Device.countEvent_sched]

/-- A refusal of an item of no bundle completes it, whatever settles afterwards. -/
theorem Device.ended_refuse (d : Device) (n : Nat) (x : Item) (st : Status) (k : Nat) (hx : d.item n = some x) (hb : x.desc.bundle = false) :
    ((d.refuse n st k).settle n).ended n st k := by
  rw [d.refuse_plain n x st k hx hb, d.settle_finishItem n x st k hx]
  exact d.ended_finishItem n x st k hx

/-- An item waits on with an operand, and settles (R337). -/
theorem Device.settled_setItem (d : Device) (n : Nat) (y : Item) (hb : y.desc.bundle = false) (hs : y.stage = .waiting) :
    d.settled ((d.setItem n y).settle n) n y :=
  Device.settled_congr rfl _ n y ((d.setItem n y).settled_settle n y (d.item_setItem n y) hb hs).1

/-! ## Buffers -/

theorem Device.ended_refuseBuffer (d : Device) (n : Nat) (x : Item) (k : Nat) (hx : d.item n = some x) : (d.refuseBuffer n x k).ended n .format k := by
  unfold Device.refuseBuffer
  dsimp only
  refine Device.ended_finishItem _ n x .format k ?_
  split
  · exact hx
  · exact hx

/-- BUFFER_READ_END where an item waits for the step entries of a bundle, and where one waits for its data. -/
theorem Device.bufferEnd_cases (d : Device) (n : Nat) (x : Item) (hx : d.item n = some x) :
    let counted := fun (b : Bytes) => d.countEvent (some x.route.vf) 0x13 (min b.length x.desc.inLen)
    (x.stage = .bundleRead → d.bufferEnd n none = (d.finishItem n .format 5).fault 212) ∧
    (x.stage = .bundleRead → ∀ b, bundleOk x.desc (bundleSteps (padTo x.desc.inLen b) x.desc.inLen) = false →
      d.bufferEnd n (some b) = (counted b).finishItem n .format 4) ∧
    (x.stage = .bundleRead → ∀ b, bundleOk x.desc (bundleSteps (padTo x.desc.inLen b) x.desc.inLen) = true →
      d.bufferEnd n (some b) = ((counted b).setItem n { x with steps := bundleSteps (padTo x.desc.inLen b) x.desc.inLen }).serviceStep n) ∧
    (x.stage = .waiting → x.ops.buf = .asked → d.bufferEnd n none = (d.refuseBuffer n x 5).fault 212) ∧
    (x.stage = .waiting → x.ops.buf = .asked → ∀ b k, d.bufferCheck x.desc (padTo x.desc.inLen b) = some k →
      d.bufferEnd n (some b) = (counted b).refuseBuffer n x k) ∧
    (x.stage = .waiting → x.ops.buf = .asked → ∀ b, d.bufferCheck x.desc (padTo x.desc.inLen b) = none →
      d.bufferEnd n (some b) = ((counted b).setItem n { x with ops := { x.ops with buf := .here, data := padTo x.desc.inLen b } }).settle n) := by
  unfold Device.bufferEnd
  simp only [hx]
  refine ⟨fun h => ?_, fun h b hb => ?_, fun h b hb => ?_, fun h ha => ?_, fun h ha b k hk => ?_, fun h ha b hk => ?_⟩
  · simp only [h, if_true]
  · simp only [h, hb, if_true, Bool.false_eq_true, if_false]
  · simp only [h, hb, if_true]
  · simp only [h, ha, and_self, if_true, reduceCtorEq, if_false]
  · simp only [h, ha, hk, and_self, if_true, reduceCtorEq, if_false]
  · simp only [h, ha, hk, and_self, if_true, reduceCtorEq, if_false]

theorem Device.bufferEnd_of_none (d : Device) (n : Nat) (data : Option Bytes)
    (h : ∀ x, d.item n = some x → ¬(x.stage = .bundleRead ∨ (x.stage = .waiting ∧ x.ops.buf = .asked))) : d.bufferEnd n data = d := by
  unfold Device.bufferEnd
  cases hx : d.item n with
  | none => rfl
  | some x =>
    obtain ⟨h1, h2⟩ := not_or.mp (h x hx)
    simp only [h1, h2, if_false]

/-! ## Key operands and random blocks -/

theorem Device.operandArrival_of_none (d : Device) (n which : Nat) (f : SlotRead)
    (h : ∀ x, d.item n = some x → x.stage ≠ .waiting ∨ (if which = 2 then x.ops.rnd ≠ .asked else x.op (which == 1) ≠ .asked)) :
    d.operandArrival n which f = d := by
  unfold Device.operandArrival
  cases hx : d.item n with
  | none => rfl
  | some x =>
    dsimp only
    obtain hs | ha := h x hx
    · rw [if_pos hs]
    · split
      · rfl
      · by_cases hw : which = 2
        · rw [if_pos hw] at ha ⊢
          rw [if_pos ha]
        · rw [if_neg hw] at ha ⊢
          rw [if_neg ha]

/-- An item with its random block, drawn for it. -/
def Item.withBlock (x : Item) (blk : Bytes) : Item :=
  { x with
    ops := { x.ops with rnd := .here, random := blk }
    run := { x.run with draws := x.run.draws ++ [blk] } }

/-- The random block of an item that asks for it (08_scheduler.md R336). -/
theorem Device.operandArrival_block (d : Device) (n : Nat) (f : SlotRead) (x : Item) (hx : d.item n = some x) (hs : x.stage = .waiting)
    (ha : x.ops.rnd = .asked) : d.operandArrival n 2 f = if d.rng.shortage then d.queueRequest { cls := 3, item := n } else
      (d.drawn.setItem n (x.withBlock (d.random 32))).settle n := by
  unfold Device.operandArrival Device.giveBlock Item.withBlock
  simp only [hx, hs, ha, ne_eq, not_true_eq_false, or_self, if_false, if_true]

/-- A good read of a valid run delivers its key (R394). -/
theorem Device.keyArrival_good (d : Device) (n : Nat) (x : Item) (b : Bool) (k : Nat) (r : KeyRun) (hservice : x.current.service ≠ 0x0405)
    (hclass : x.handle b % 256 = 2) (htoken : tokenInB x.current.service = false) (hr : r.st = .valid)
    (hrun : d.findRun (d.tenantOf x) false (bitsOf (x.handle b) 63 24) (bitsOf (x.handle b) 23 8) = some (k, r)) :
    d.keyArrival n x b .good = ((d.stamp).setRun k { r with used := d.keys.useStamp }).deliverKey n b (some r.entry) := by
  unfold Device.keyArrival
  simp only [hservice, hclass, htoken, hrun, hr, Bool.and_false, false_and, if_false, if_true, Device.slotRead, Bool.false_eq_true,
    show ((2 : Nat) = 1) = False by simp, decide_false, Bool.false_and]

theorem Device.operandArrival_key (d : Device) (n : Nat) (b : Bool) (f : SlotRead) (x : Item) (hx : d.item n = some x) (hs : x.stage = .waiting)
    (ha : x.op b = .asked) : d.operandArrival n (if b then 1 else 0) f = d.keyArrival n x b f := by
  unfold Device.operandArrival
  cases b <;> simp [hx, hs, ha]

/-! ## Refusals -/

/-- OPERAND_REFUSAL of an operand that is asked for. -/
theorem Device.operandRefusal_eq (d : Device) (n which : Nat) (why : Refuse) (x : Item) (hx : d.item n = some x) (ho : x.outstanding which = true) :
    d.operandRefusal n which why = if why = .bufferRead then (if which = 3 then d.refuseBuffer n x 5 else d)
      else if which < 2 then (if (x.asksStatus && why.status.1 == .keyAbsent) = true then d else (d.refuse n why.status.1 why.status.2).settle n)
      else d := by
  unfold Device.operandRefusal
  rw [hx]
  exact if_neg (by simp [ho])

/-! ## Session derivations -/

/-- An item with its session key. -/
def Item.withSession (x : Item) (base : KeyEntry) (k : Nat) : Item :=
  { x with
    ops := { x.ops with keyA := some (x.sessionKey base k) }
    run := { x.run with derived := true } }

/-- What waits for a session derivation: an item with its base key and its card data (06_payment_services.md R241). -/
structure Item.derives (x : Item) (k : Nat) (base : KeyEntry) : Prop where
  stage : x.stage = .waiting
  here : x.ops.a = .here
  data : x.ops.buf.settled = true
  fresh : x.run.derived = false
  index : sessionIndex x.current.service x.current.variant = some k
  base : x.ops.keyA = some base

theorem Device.sessionEnd_refused (d : Device) (n mismatches : Nat) (x : Item) (hx : d.item n = some x) (k : Nat) (base : KeyEntry)
    (h : x.derives k base) (st : Status) (j : Nat) (hc : d.keyCheck x false base = some (st, j)) :
    d.sessionEnd n mismatches = (d.refuse n st j).settle n := by
  unfold Device.sessionEnd
  simp only [hx, h.index, h.base, h.stage, h.here, h.data, h.fresh, hc, ne_eq, not_true_eq_false, decide_false, bne_self_eq_false,
    Bool.not_true, Bool.or_self, Bool.false_eq_true, if_false]

theorem Device.sessionEnd_twice (d : Device) (n : Nat) (x : Item) (hx : d.item n = some x) (k : Nat) (base : KeyEntry)
    (h : x.derives k base) (hc : d.keyCheck x false base = none) :
    d.sessionEnd n 2 = (((d.fault 162).fault 162).refuse n .faultWithheld 3).settle n := by
  have hrange : List.range 2 = [0, 1] := rfl
  unfold Device.sessionEnd
  simp only [hx, h.index, h.base, h.stage, h.here, h.data, h.fresh, hc, ne_eq, not_true_eq_false, decide_false, bne_self_eq_false,
    Bool.not_true, Bool.or_self, Bool.false_eq_true, if_false, le_refl, if_true, hrange, List.foldl_cons, List.foldl_nil]

theorem Device.sessionEnd_good (d : Device) (n : Nat) (x : Item) (hx : d.item n = some x) (k : Nat) (base : KeyEntry)
    (h : x.derives k base) (hc : d.keyCheck x false base = none) :
    d.sessionEnd n 0 = (d.setItem n (x.withSession base k)).settle n := by
  have hrange : List.range 0 = [] := rfl
  unfold Device.sessionEnd Item.withSession
  simp only [hx, h.index, h.base, h.stage, h.here, h.data, h.fresh, hc, ne_eq, not_true_eq_false, decide_false, bne_self_eq_false,
    Bool.not_true, Bool.or_self, Bool.false_eq_true, if_false, hrange, List.foldl_nil, show ¬(2 : Nat) ≤ 0 by decide]

theorem Device.sessionEnd_of_none (d : Device) (n mismatches : Nat)
    (h : ∀ x, d.item n = some x → ¬(x.stage = .waiting ∧ x.ops.a = .here ∧ x.ops.buf.settled = true ∧ x.run.derived = false)) :
    d.sessionEnd n mismatches = d := by
  unfold Device.sessionEnd
  cases hx : d.item n with
  | none => rfl
  | some x =>
    dsimp only
    split
    · refine if_pos ?_
      by_contra hc
      simp only [Bool.or_eq_true, not_or, decide_eq_true_eq, not_not, bne_iff_ne, Bool.not_eq_true', Bool.not_eq_false,
        Bool.not_eq_true] at hc
      obtain ⟨⟨⟨h1, h2⟩, h3⟩, h4⟩ := hc
      exact h x hx ⟨h1, h2, h3, h4⟩
    · rfl

/-! ## Fetches and retries -/

/-- STORE_FETCH_END of a run that is not valid yet. -/
theorem Device.fetchEnd_eq (d : Device) (k : Nat) (f : FetchEnd) (r : KeyRun) (hr : d.keys.runs.find? k = some r) (hv : r.st ≠ .valid) :
    (f = .absent → d.fetchEnd k f = d.fillAbsent k r) ∧ (f = .unauthentic → d.fetchEnd k f = d.fillBad k r) ∧
    (f = .found → r.vault = false → (d.keyRecord r.tenant r.id r.version = none ∨ d.keyRetired r.tenant r.id r.version = true) →
      d.fetchEnd k f = d.fillAbsent k r) ∧
    (f = .found → r.vault = false → ¬(d.keyRecord r.tenant r.id r.version = none ∨ d.keyRetired r.tenant r.id r.version = true) →
      ∀ q, d.unwrapRun r = some q → d.fetchEnd k f = d.fillRun k q) := by
  unfold Device.fetchEnd
  simp only [hr, hv, if_false]
  refine ⟨fun h => ?_, fun h => ?_, fun h hvault hgone => ?_, fun h hvault hgone q hq => ?_⟩
  · rw [h]
  · rw [h]
  · rw [h]
    dsimp only
    obtain hn | hret := hgone
    · exact if_pos (by rw [hn, hvault]; rfl)
    · split
      · rfl
      · exact if_pos (by rw [hvault, hret]; rfl)
  · rw [h]
    dsimp only
    obtain ⟨hn, hret⟩ := not_or.mp hgone
    rw [if_neg (by simp [hn]), if_neg (by simp [hret]), if_neg (by simp [hvault]), hq]

/-- A retry of key A alone asks for its run again (10_record_store.md R436). -/
theorem Device.retryDue_fill (d : Device) (n : Nat) (x : Item) (hn : n < 2 ^ 40) (hx : d.item n = some x) (hs : x.stage = .waiting)
    (ha : x.ops.a = .asked) (hb : x.ops.b ≠ .asked) (hclass : x.current.keyA % 256 = 2) (hservice : x.current.service ≠ 0x0405)
    (hrun : d.findRun (d.tenantOf x) false (bitsOf x.current.keyA 63 24) (bitsOf x.current.keyA 23 8) = none) :
    d.retryDue n = (d.dropDelay retryList n).startFill n x false (bitsOf x.current.keyA 63 24) (bitsOf x.current.keyA 23 8) := by
  have hx' : (d.dropDelay retryList n).item n = some x := hx
  have hrun' : (d.dropDelay retryList n).findRun ((d.dropDelay retryList n).tenantOf x) false (bitsOf x.current.keyA 63 24)
      (bitsOf x.current.keyA 23 8) = none := hrun
  unfold Device.retryDue
  simp only [Nat.not_le.mpr hn, hx', hs, if_false, ne_eq, not_true_eq_false, List.foldl_cons, List.foldl_nil, Item.op, Item.handle, ha, hb,
    hclass, hservice, hrun', Bool.false_and, Bool.false_eq_true, Bool.not_false, Bool.true_and, bne_self_eq_false, decide_false, Bool.or_self,
    Option.isSome_none, if_true, decide_true, Bool.true_or, not_false_eq_true]

theorem Device.retryDue_idle (d : Device) (n : Nat) (hn : n < 2 ^ 40) (h : ∀ x, d.item n = some x → x.stage ≠ .waiting) :
    d.retryDue n = d.dropDelay retryList n := by
  unfold Device.retryDue
  rw [if_neg (Nat.not_le.mpr hn)]
  dsimp only
  cases hx : d.item n with
  | none => rw [show (d.dropDelay retryList n).item n = none from hx]
  | some x =>
    rw [show (d.dropDelay retryList n).item n = some x from hx]
    exact if_pos (h x hx)

/-- Settles O41: each command by the stage of its item, and then by what arrived. -/
theorem operandsArrive : Obligations.OperandsArrive := by
  unfold Obligations.OperandsArrive
  refine ⟨fun n data s => ?_, fun n which read s => ?_, fun n which why s => ?_, fun n mismatches s => ?_, fun slot fetched s => ?_, fun n s => ?_⟩
  · refine does_of (s.dev.bufferEnd n data) rfl ?_
    generalize s.dev = d
    refine ⟨d.bufferEnd_of_none n data, fun x hx => ?_⟩
    intro counted waits
    obtain ⟨h1, h2, h3, h4, h5, h6⟩ := d.bufferEnd_cases n x hx
    refine ⟨fun hs hdata => ?_, fun hs b hdata steps hsteps => ⟨fun hok => ?_, fun hok => ?_⟩, fun hw hdata => ?_,
      fun hw b hdata got hgot => ⟨fun k hk => ?_, fun hk => ?_⟩⟩
    · rw [hdata, h1 hs]
      exact ⟨_, d.ended_finishItem n x .format 5 hx, rfl, gave_fault_self _ _⟩
    · subst hsteps
      rw [hdata, h2 hs b hok]
      exact Device.ended_finishItem _ n x .format 4 ((d.item_countEvent _ _ _ n).trans hx)
    · subst hsteps
      rw [hdata, h3 hs b hok]
    · rw [hdata, h4 hw.1 hw.2.1]
      exact ⟨_, d.ended_refuseBuffer n x 5 hx, rfl, gave_fault_self _ _⟩
    · subst hgot
      rw [hdata, h5 hw.1 hw.2.1 b k hk]
      exact Device.ended_refuseBuffer _ n x k ((d.item_countEvent _ _ _ n).trans hx)
    · subst hgot
      rw [hdata, h6 hw.1 hw.2.1 b hk]
      exact Device.settled_congr (d.gatesShut_countEvent _ _ _) _ _ _ (Device.settled_setItem _ n _ hw.2.2 hw.1)
  · refine does_of (s.dev.operandArrival n which read) rfl ?_
    generalize s.dev = d
    refine ⟨d.operandArrival_of_none n which read, fun x hx hs => ⟨fun hw ha hshort => ?_, fun hw ha hshort hb => ?_,
      fun b hw ha hservice hclass htoken k r hr hread hrun => ?_⟩⟩
    · rw [hw, d.operandArrival_block n read x hx hs ha, if_pos hshort]
    · rw [hw, d.operandArrival_block n read x hx hs ha, if_neg (by rw [hshort]; decide)]
      exact Device.settled_congr rfl _ _ _ (Device.settled_setItem d.drawn n (x.withBlock (d.random 32)) hb hs)
    · rw [hw, d.operandArrival_key n b read x hx hs ha, hread]
      exact d.keyArrival_good n x b k r hservice hclass htoken hr hrun
  · refine does_of (s.dev.operandRefusal n which why) rfl ?_
    generalize s.dev = d
    refine ⟨fun h => ?_, fun x hx ho hb => ?_⟩
    · unfold Device.operandRefusal
      cases hx : d.item n with
      | none => rfl
      | some x => exact if_pos (by rw [h x hx]; rfl)
    · rw [d.operandRefusal_eq n which why x hx ho]
      refine ⟨fun hw hwhich => ?_, fun hw hwhich hst => ?_, fun hw hwhich hst hab => ?_, fun h => ?_⟩
      · rw [if_pos hw, if_pos hwhich]
        exact d.ended_refuseBuffer n x 5 hx
      · rw [if_neg hw, if_pos hwhich, if_neg (by simpa using hst)]
        exact d.ended_refuse n x _ _ hx hb
      · rw [if_neg hw, if_pos hwhich, if_pos (by simp [hst, hab])]
      · obtain ⟨hw, hwhich⟩ | ⟨hw, hwhich⟩ := h
        · rw [if_pos hw, if_neg hwhich]
        · rw [if_neg hw, if_neg (Nat.not_lt.mpr hwhich)]
  · refine does_of (s.dev.sessionEnd n mismatches) rfl ?_
    generalize s.dev = d
    refine ⟨d.sessionEnd_of_none n mismatches, fun x hx ⟨hs, ha, hbuf, hd⟩ hb k base hk hbase => ?_⟩
    have hdue : x.derives k base := ⟨hs, ha, hbuf, hd, hk, hbase⟩
    refine ⟨fun st j hc => ?_, fun hc hm y hy hby => ?_, fun hc hm => ?_⟩
    · rw [d.sessionEnd_refused n mismatches x hx k base hdue st j hc]
      exact d.ended_refuse n x st j hx hb
    · rw [hm, d.sessionEnd_twice n x hx k base hdue hc]
      exact Device.ended_refuse _ n y .faultWithheld 3 hy hby
    · rw [hm, d.sessionEnd_good n x hx k base hdue hc]
      exact d.settled_setItem n (x.withSession base k) hb hs
  · refine does_of (s.dev.fetchEnd slot fetched) rfl ?_
    generalize s.dev = d
    refine ⟨fun h => ?_, fun r hr hv => ?_⟩
    · unfold Device.fetchEnd
      cases hr : d.keys.runs.find? slot with
      | none => rfl
      | some r => exact if_pos (h r hr)
    · intro gone
      obtain ⟨h1, h2, h3, h4⟩ := d.fetchEnd_eq slot fetched r hr hv
      refine ⟨fun h => ?_, fun h => h2 h, fun h hvault hgone q hq hwait => ?_⟩
      · obtain h | ⟨h, hvault, hgone⟩ := h
        · exact h1 h
        · exact h3 h hvault hgone
      · rw [h4 h hvault (fun hg => hgone ⟨hvault, hg⟩) q hq]
        unfold Device.fillRun
        dsimp only
        rw [hwait]
        rfl
  · refine does_of (if s.dev.hasDelay retryList n then s.dev.retryDue n else s.dev) rfl ?_
    generalize s.dev = d
    refine ⟨fun h => if_neg (by rw [h]; decide), fun h hn => ?_, fun h hn hx => ?_, fun h hn x hx hs ha hb hclass hservice id ver hid hver hrun => ?_⟩
    · rw [if_pos h]
      exact if_pos hn
    · rw [if_pos h]
      exact d.retryDue_idle n hn hx
    · subst hid hver
      rw [if_pos h]
      exact d.retryDue_fill n x hn hx hs ha hb hclass hservice hrun

end Sys2Proof.Machine
end

section
/-! SUPPORT. The table store, its staging window and the curve slots (04_tide_tables.md R142 to R170; 07_bignum_engines.md R315 to R333). -/

namespace Sys2Proof.Machine

/-! ## The staging window -/

/-- Bytes put one after the other from a place on. -/
theorem Table.get_putBytes (off : Nat) (data : Bytes) : ∀ (k : Nat) (m : Table Byte) (a : Nat),
    ((data.zipIdx k).foldl (fun t e => t.put 0 (off + e.2) e.1) m).get 0 a =
      if off + k ≤ a ∧ a < off + k + data.length then data.getD (a - (off + k)) 0 else m.get 0 a := by
  induction data with
  | nil =>
    intro k m a
    rw [if_neg (by simp only [List.length_nil]; omega)]
    rfl
  | cons b bs ih =>
    intro k m a
    rw [List.zipIdx_cons, List.foldl_cons, ih (k + 1), List.length_cons, Table.get_put]
    by_cases ha : a = off + k
    · rw [if_neg (by omega), if_pos ha, if_pos (by omega), ha, Nat.sub_self, List.getD_cons_zero]
    · rw [if_neg ha]
      by_cases hin : off + (k + 1) ≤ a ∧ a < off + (k + 1) + bs.length
      · rw [if_pos hin, if_pos (by omega), show a - (off + k) = (a - (off + (k + 1))) + 1 by omega, List.getD_cons_succ]
      · rw [if_neg hin, if_neg (by omega)]

/-- A write of the window that is performed. -/
def stagingFits (off n : Nat) : Prop := (n = 4 ∨ n = 8 ∨ n = 16 ∨ n = 32 ∨ n = 64) ∧ off % n = 0 ∧ off + n ≤ 2 ^ 25

theorem Device.stage_of_fits (d : Device) (off : Nat) (data : Bytes) (h : stagingFits off data.length) :
    d.stage off data = d.mapUnits fun u => { u with staging := data.zipIdx.foldl (fun t e => t.put 0 (off + e.2) e.1) u.staging } :=
  if_pos ⟨by simpa using h.1, h.2⟩

theorem Device.stage_of_not_fits (d : Device) (off : Nat) (data : Bytes) (h : ¬stagingFits off data.length) : d.stage off data = d :=
  if_neg fun hc => h ⟨by simpa using hc.1, hc.2⟩

/-! ## LOAD and RETIRE -/

/-- Of three command bits, the one of the command and that of the other one both 0. -/
theorem Device.busy_eq_zero (d : Device) (a : Nat) (h0 : d.bit a 0 = false) (h1 : d.bit a 1 = false) : d.reg a &&& 3 = 0 := by
  refine Nat.eq_of_testBit_eq fun i => ?_
  rw [Nat.testBit_and, Nat.zero_testBit]
  match i with
  | 0 => rw [show (d.reg a).testBit 0 = false from h0]; rfl
  | 1 => rw [show (d.reg a).testBit 1 = false from h1]; rfl
  | i + 2 =>
    have h3 : Nat.testBit 3 (i + 2) = false := Nat.testBit_eq_false_of_lt (by
      have : 2 ^ 2 ≤ 2 ^ (i + 2) := Nat.pow_le_pow_right (by decide) (by omega)
      omega)
    rw [h3, Bool.and_false]

theorem Device.busy_ne_zero (d : Device) (a : Nat) (h1 : d.bit a 1 = true) : d.reg a &&& 3 ≠ 0 := fun h => by
  have hbit : (d.reg a &&& 3).testBit 1 = true := by
    rw [Nat.testBit_and, show (d.reg a).testBit 1 = true from h1]
    rfl
  rw [h] at hbit
  cases hbit

/-- A command by whether the page is being reset, the command runs, or one of its other commands does. -/
theorem Device.onIdle_cases (d : Device) (a req busy : Nat) (f : Device → Device) :
    (d.writeBarred a = true → d.onIdle a req busy f = d.writeLost a) ∧
    (d.writeBarred a = false → d.bit a req = true → d.onIdle a req busy f = d) ∧
    (d.writeBarred a = false → d.bit a req = false → d.reg a &&& busy ≠ 0 → d.onIdle a req busy f = d.writeLost a) ∧
    (d.writeBarred a = false → d.bit a req = false → d.reg a &&& busy = 0 → d.onIdle a req busy f = f d) :=
  ⟨d.onIdle_of_barred a req busy f, d.onIdle_of_running a req busy f,
    fun hb hr h => (d.onCommand_of_not_barred a _ hb).trans ((if_neg (by simp [hr])).trans (if_pos h)),
    fun hb hr h => (d.onCommand_of_not_barred a _ hb).trans ((if_neg (by simp [hr])).trans (if_neg (by simp [h])))⟩

/-- What LOAD copies, with the code that step 1 of R149 decides. -/
def Device.loadCopied (d : Device) : Load :=
  let src := d.reg (schedAt Off.tblSrc)
  let off := bitsOf src 24 12 * 4096
  let ro := bitOf src 31
  { image := d.staged off (min (imageLen (d.staged off 256)) (2 ^ 25 - off)), offset := off, replayOnly := ro
    slot := if d.mayLoad && (!ro || d.cust.mode == .maintenance) then 0 else 0x0E }

/-- LOAD taken: its command bit, the lane time, and the copy. -/
def Device.loadTaken (d : Device) : Device :=
  (d.commandStart (schedAt Off.tblCmd) 0).chargeLoad.mapUnits fun u => { u with load := some d.loadCopied }

theorem Device.tableLoad_of_idle (d : Device) (hb : d.writeBarred (schedAt Off.tblCmd) = false) (h0 : d.bit (schedAt Off.tblCmd) 0 = false)
    (h1 : d.bit (schedAt Off.tblCmd) 1 = false) : d.tableLoad = d.loadTaken :=
  (d.onIdle_cases (schedAt Off.tblCmd) 0 3 _).2.2.2 hb h0 (d.busy_eq_zero _ h0 h1)

theorem Device.loadTaken_facts (d : Device) :
    let t := d.loadTaken
    t.units.load = some d.loadCopied ∧ t.bit (schedAt Off.tblCmd) 0 = true ∧ d.regsBut t [schedAt Off.tblCmd] ∧
    t.units.tables = d.units.tables ∧ t.sched = (d.commandStart (schedAt Off.tblCmd) 0).chargeLoad.sched := by
  have hp : d.loadTaken.pages = (d.commandStart (schedAt Off.tblCmd) 0).pages := rfl
  refine ⟨rfl, ?_, fun a ha => ?_, rfl, rfl⟩
  · rw [Device.bit_of_pages hp]
    exact (d.bit_commandStart _ 0 0 (by decide)).trans (by simp)
  · rw [Device.reg_of_pages hp]
    exact d.reg_commandStart_ne _ a 0 (List.ne_of_not_mem_cons ha)

/-- LOAD_END by the first step of R149 that fails. -/
theorem Device.tableLoadEnd_cases (d : Device) (l : Load) (hl : d.units.load = some l) :
    let v := imageVersion l.image l.replayOnly
    let clear := d.mapUnits fun u => { u with load := none }
    let old := l.replayOnly = false ∧ v.ver ≤ d.units.highest.get 0 v.key
    let full := 4096 ≤ d.units.tables.length ∨ 16384 < d.units.blocksUsed + v.blocks
    (l.slot ≠ 0 → d.tableLoadEnd = clear.tableEnd 0 l.slot (some 0)) ∧
    (l.slot = 0 → ∀ c w, d.imageFails l.image l.offset true = some (c, w) → d.tableLoadEnd = clear.tableEnd 0 c w) ∧
    (l.slot = 0 → d.imageFails l.image l.offset true = none → old → d.tableLoadEnd = clear.tableEnd 0 0x0C (some 0)) ∧
    (l.slot = 0 → d.imageFails l.image l.offset true = none → ¬old → full → d.tableLoadEnd = clear.tableEnd 0 0x0D (some 0)) ∧
    (l.slot = 0 → d.imageFails l.image l.offset true = none → ¬old → ¬full →
      d.tableLoadEnd = (clear.keepTable v l.image).tableEnd 0 0 (some 0)) := by
  intro v clear old full
  have hold : ((!l.replayOnly) = true ∧ v.ver ≤ d.units.highest.get 0 v.key) ↔ old := by rw [Bool.not_eq_true']
  unfold Device.tableLoadEnd
  rw [hl]
  refine ⟨fun h => if_pos h, fun h c w hf => ?_, fun h hf ho => ?_, fun h hf ho hu => ?_, fun h hf ho hu => ?_⟩
  · dsimp only
    rw [if_neg (not_not.mpr h), hf]
  · dsimp only
    rw [if_neg (not_not.mpr h), hf]
    exact if_pos (hold.mpr ho)
  · dsimp only
    rw [if_neg (not_not.mpr h), hf]
    exact (if_neg (fun hc => ho (hold.mp hc))).trans (if_pos hu)
  · dsimp only
    rw [if_neg (not_not.mpr h), hf]
    exact (if_neg (fun hc => ho (hold.mp hc))).trans (if_neg hu)

/-- A version that TBL_SEL and TBL_SEL_VER name. -/
def Device.selects (d : Device) (v : TableVersion) : Prop :=
  v.service = bitsOf (d.reg (schedAt Off.tblSel)) 15 0 ∧ v.variant = bitsOf (d.reg (schedAt Off.tblSel)) 23 16 ∧
    v.ver = d.field (schedAt Off.tblSelVer) 15 0

/-- The same as the model tests it. -/
def Device.selectsB (d : Device) (v : TableVersion) : Bool :=
  v.service == bitsOf (d.reg (schedAt Off.tblSel)) 15 0 && v.variant == bitsOf (d.reg (schedAt Off.tblSel)) 23 16 &&
    v.ver == d.field (schedAt Off.tblSelVer) 15 0

theorem Device.selectsB_iff (d : Device) (v : TableVersion) : d.selectsB v = true ↔ d.selects v := by
  simp only [Device.selectsB, Device.selects, Bool.and_eq_true, beq_iff_eq, and_assoc]

theorem Device.tableRetire_of_idle (d : Device) (hb : d.writeBarred (schedAt Off.tblCmd) = false) (h0 : d.bit (schedAt Off.tblCmd) 0 = false)
    (h1 : d.bit (schedAt Off.tblCmd) 1 = false) : d.tableRetire =
      if !d.mayLoad then (d.commandStart (schedAt Off.tblCmd) 1).tableEnd 1 0x0E (some 0)
      else match List.find? (fun e => d.selectsB e.2) d.units.tables with
        | none => (d.commandStart (schedAt Off.tblCmd) 1).tableEnd 1 0x11 (some 0)
        | some e => (((d.commandStart (schedAt Off.tblCmd) 1).mapUnits fun u => { u with
            tables := u.tables.mapV fun _ t => if d.selectsB t then { t with active := false, leaving := true } else t }).releaseRecords none
              (metaRecords 1 e.2.objectId 2 [])).tableEnd 1 0 (some 0) :=
  (d.onIdle_cases (schedAt Off.tblCmd) 1 3 _).2.2.2 hb h1 (d.busy_eq_zero _ h0 h1)

/-! ## Versions freed, and reloaded -/

theorem Device.versionFree_of_free (d : Device) (k : Nat) (v : TableVersion) (hv : d.table k = some v) (hl : v.leaving = true)
    (hb : d.boundTo k = false) : d.versionFree k =
      let e := (d.mapUnits fun u => { u with tables := u.tables.erase k }).showTables
      if d.metaImage 1 v.objectId = [] then e else e.releaseRecords none (metaRecords 1 v.objectId 2 []) := by
  unfold Device.versionFree
  rw [hv]
  exact if_pos (by rw [hl, hb]; rfl)

theorem Device.versionFree_of_bound (d : Device) (k : Nat) (h : ∀ v, d.table k = some v → v.leaving = false ∨ d.boundTo k = true) :
    d.versionFree k = d := by
  unfold Device.versionFree
  cases hv : d.table k with
  | none => rfl
  | some v =>
    refine if_neg fun hc => ?_
    rw [Bool.and_eq_true, Bool.not_eq_true'] at hc
    obtain hl | hb := h v hv
    · rw [hl] at hc; exact Bool.false_ne_true hc.1
    · rw [hb] at hc; exact Bool.false_ne_true hc.2.symm

/-- A version that its own records replace (R162). -/
def Device.reloaded (d : Device) (k : Nat) (w : TableVersion) : Device :=
  d.mapUnits fun u => { u with tables := u.tables.adjust k fun x =>
    { x with withdrawn := false, header := w.header, body := w.body, grant := w.grant, tag := d.headerTag w } }

theorem Device.tableReloadEnd_cases (d : Device) (k : Nat) (v : TableVersion) (hv : d.table k = some v) (hw : v.withdrawn = true) :
    let good := d.metaImage 1 v.objectId ≠ [] ∧ d.imageFails (d.metaImage 1 v.objectId) 0 true = none
    (good → d.tableReloadEnd k = d.reloaded k (imageVersion (d.metaImage 1 v.objectId) v.replayOnly)) ∧
    (¬good → d.tableReloadEnd k = ((d.mapUnits fun u => { u with tables := u.tables.erase k }).showTables).fault 244) := by
  unfold Device.tableReloadEnd
  rw [hv]
  exact ⟨fun h => (if_neg (by simp [hw])).trans (if_pos h), fun h => (if_neg (by simp [hw])).trans (if_neg h)⟩

theorem Device.tableReloadEnd_of_none (d : Device) (k : Nat) (h : ∀ v, d.table k = some v → v.withdrawn = false) : d.tableReloadEnd k = d := by
  unfold Device.tableReloadEnd
  cases hv : d.table k with
  | none => rfl
  | some v => exact if_pos (by rw [h v hv]; rfl)

/-! ## Curve slots -/

/-- A curve command is taken in the modes that load, while none runs (R333). -/
def Device.curveTakes (d : Device) : Prop :=
  d.writeBarred (curveAt Off.curveCmd) = false ∧ d.mayLoad = true ∧ d.reg (curveAt Off.curveCmd) &&& 3 = 0

/-- A curve command that is not taken is a lost write of its page. -/
theorem Device.curveCommand_cases (d : Device) (f : Device → Device) (a : Nat) (ha : d.writeLost a = d.writeLost (curveAt Off.curveCmd)) :
    let t := d.onCommand (curveAt Off.curveCmd) fun d => if !d.mayLoad ∨ d.reg (curveAt Off.curveCmd) &&& 3 ≠ 0 then d.writeLost a else f d
    (¬d.curveTakes → t = d.writeLost (curveAt Off.curveCmd)) ∧ (d.curveTakes → t = f d) := by
  intro t
  refine ⟨fun h => ?_, fun ⟨hb, hm, hr⟩ => (d.onCommand_of_not_barred _ _ hb).trans (if_neg (by simp [hm, hr]))⟩
  by_cases hb : d.writeBarred (curveAt Off.curveCmd) = true
  · exact if_pos hb
  have hb' := Bool.eq_false_iff.mpr hb
  refine (d.onCommand_of_not_barred _ _ hb').trans ((if_pos ?_).trans ha)
  by_contra hc
  rw [not_or, not_not] at hc
  exact h ⟨hb', by simpa using hc.1, hc.2⟩

theorem Device.curveLoadEnd_eq (d : Device) (found : Nat) (l : Load) (hl : d.units.curveLoad = some l) : d.curveLoadEnd found =
    if d.curveCode l found ≠ 0 then (d.mapUnits fun u => { u with curveLoad := none }).curveEnd 0 (d.curveCode l found) l.slot
    else (((((d.mapUnits fun u => { u with curveLoad := none }).mapUnits fun u => { u with
      curves := u.curves.insert l.slot { set := l.image, retiring := false } }).releaseRecords none
        (metaRecords 3 l.slot 1 l.image)).showCurves).curveEnd 0 0 l.slot) := by
  unfold Device.curveLoadEnd
  rw [hl]

/-- Settles O45: each command by what its page, its mode, the image or the slot allows. -/
theorem tableStore : Obligations.TableStore := by
  unfold Obligations.TableStore
  refine ⟨fun off data s => ?_, fun s => ?_, fun s => ?_, fun s => ?_, fun k s => ?_, fun k s => ?_, fun s => ?_, fun found s => ?_, fun s => ?_⟩
  · refine does_of (s.dev.stage off data) rfl ?_
    generalize s.dev = d
    refine ⟨fun h => d.stage_of_not_fits off data h, fun h => ?_⟩
    rw [d.stage_of_fits off data h]
    exact ⟨rfl, fun a => Table.get_putBytes off data 0 d.units.staging a⟩
  · refine does_of s.dev.tableLoad rfl ?_
    generalize s.dev = d
    intro d' cmd src off ro len allowed
    obtain ⟨h1, h2, h3, _⟩ := d.onIdle_cases (schedAt Off.tblCmd) 0 3 fun d =>
      (d.commandStart (schedAt Off.tblCmd) 0).chargeLoad.mapUnits fun u => { u with load := some d.loadCopied }
    refine ⟨h1, h2, fun hb hr hbusy => h3 hb hr (d.busy_ne_zero _ hbusy), fun hb hr hbusy => ?_⟩
    rw [d.tableLoad_of_idle hb hr hbusy]
    obtain ⟨hload, hrest⟩ := d.loadTaken_facts
    refine ⟨hload.trans ?_, hrest⟩
    have hcode : (d.mayLoad && (!ro || d.cust.mode == .maintenance)) = true ↔ allowed := by
      simp only [allowed, d', Bool.and_eq_true, Bool.or_eq_true, Bool.not_eq_true', beq_iff_eq]
    exact congrArg some (congrArg (fun c => ({ image := d.staged off len, offset := off, replayOnly := ro, slot := c } : Load))
      (if_congr hcode rfl rfl))
  · refine does_of s.dev.tableLoadEnd rfl ?_
    generalize s.dev = d
    refine ⟨fun h => ?_, fun l hl => d.tableLoadEnd_cases l hl⟩
    unfold Device.tableLoadEnd
    rw [show d.units.load = none from h]
  · refine does_of s.dev.tableRetire rfl ?_
    generalize s.dev = d
    intro d' cmd sel named free
    refine ⟨fun hb => if_pos hb, fun ⟨hb, h0, h1⟩ hm => ?_, fun ⟨hb, h0, h1⟩ hm hnone => ?_, fun ⟨hb, h0, h1⟩ hm e es hes => ?_⟩
    · rw [d.tableRetire_of_idle hb h0 h1]
      exact if_pos (by rw [show d.mayLoad = false from hm]; rfl)
    · have hfind : List.find? (fun e => d.selectsB e.2) d.units.tables = none :=
        List.find?_eq_none.mpr fun e he hs => hnone e he ((d.selectsB_iff e.2).mp hs)
      rw [d.tableRetire_of_idle hb h0 h1, if_neg (by rw [show d.mayLoad = true from hm]; decide), hfind]
    · have hfilter : (d.units.tables.filter fun e => d.selectsB e.2) = e :: es := by
        rw [← hes]
        refine List.filter_congr fun e _ => ?_
        exact Bool.eq_iff_iff.mpr (by rw [decide_eq_true_iff]; exact d.selectsB_iff e.2)
      have hfind : List.find? (fun e => d.selectsB e.2) d.units.tables = some e := by
        rw [← List.head?_filter, hfilter]
        rfl
      rw [d.tableRetire_of_idle hb h0 h1, if_neg (by rw [show d.mayLoad = true from hm]; decide), hfind]
      have hnamed : (fun (_ : Nat) (v : TableVersion) => if named v then { v with active := false, leaving := true } else v) =
          fun _ t => if d.selectsB t then { t with active := false, leaving := true } else t := by
        funext _ v
        exact if_congr (d.selectsB_iff v).symm rfl rfl
      rw [hnamed]
  · refine does_of (s.dev.versionFree k) rfl ?_
    generalize s.dev = d
    exact ⟨d.versionFree_of_bound k, fun v hv hl hb => d.versionFree_of_free k v hv hl hb⟩
  · refine does_of (s.dev.tableReloadEnd k) rfl ?_
    generalize s.dev = d
    refine ⟨d.tableReloadEnd_of_none k, fun v hv hw => ?_⟩
    obtain ⟨h1, h2⟩ := d.tableReloadEnd_cases k v hv hw
    refine ⟨fun hg w hw' => by rw [h1 hg, hw']; rfl, fun hg => ?_⟩
    rw [h2 hg]
    refine ⟨gave_fault_self _ _, ?_⟩
    unfold Device.table
    rw [Device.fault_units]
    exact (Table.find?_erase _ _ _).trans (if_pos rfl)
  · refine does_of s.dev.curveLoad rfl ?_
    generalize s.dev = d
    obtain ⟨h1, h2⟩ := d.curveCommand_cases (fun d => (d.commandStart (curveAt Off.curveCmd) 0).mapUnits fun u => { u with
      curveLoad := some { image := d.staged (bitsOf (d.reg (curveAt Off.curveSrc)) 24 12 * 4096) 1024
                          offset := bitsOf (d.reg (curveAt Off.curveSrc)) 24 12 * 4096, replayOnly := false
                          slot := bitsOf (d.reg (curveAt Off.curveSrc)) 5 0 } }) (curveAt 0) rfl
    exact ⟨fun h => h2 h, fun h => h1 h⟩
  · refine does_of (s.dev.curveLoadEnd found) rfl ?_
    generalize s.dev = d
    refine ⟨fun h => ?_, fun l hl => ?_⟩
    · unfold Device.curveLoadEnd
      rw [show d.units.curveLoad = none from h]
    · rw [d.curveLoadEnd_eq found l hl]
      exact ⟨fun h => if_pos h, fun h => if_neg (not_not.mpr h)⟩
  · refine does_of s.dev.curveRetire rfl ?_
    generalize s.dev = d
    obtain ⟨h1, h2⟩ := d.curveCommand_cases (fun e => match e.units.curves.find? (d.field (curveAt Off.curveSrc) 5 0) with
      | none => (e.commandStart (curveAt Off.curveCmd) 1).curveEnd 1 0x31 (d.field (curveAt Off.curveSrc) 5 0)
      | some c => ((e.commandStart (curveAt Off.curveCmd) 1).mapUnits fun u => { u with
          curves := u.curves.insert (d.field (curveAt Off.curveSrc) 5 0) { c with retiring := true } }).emptyCurves) (curveAt Off.curveCmd) rfl
    refine ⟨fun h => h1 h, fun h hn => ?_, fun h c hc => ?_⟩
    · refine (h2 h).trans ?_
      rw [show d.units.curves.find? (d.field (curveAt Off.curveSrc) 5 0) = none from hn]
    · refine (h2 h).trans ?_
      rw [show d.units.curves.find? (d.field (curveAt Off.curveSrc) 5 0) = some c from hc]
      rfl

end Sys2Proof.Machine
end

section
/-! SUPPORT. Dispatch to lanes, pipelines and pairs (08_scheduler.md R344 to R358; 04_tide_tables.md R160 to R164). -/

namespace Sys2Proof.Machine

/-! ## DISPATCH_LANE -/

/-- The first item that DISPATCH_LANE can take up. -/
def Device.firstLane (d : Device) : Option (Nat × Item) := d.firstOf (d.readyItems .lane fun _ x => d.laneReady x)

/-- The tag over an item's table is right: the fault of the stored header, and the tag as the device computes it. -/
def Device.tagRight (d : Device) (tagOk : Bool) (v : TableVersion) : Prop := tagOk = true ∧ d.headerTag v = v.tag

theorem Device.dispatchLane_of_idle (d : Device) (tagOk : Bool) (h : d.dispatches 0 = false ∨ d.firstLane = none) :
    d.dispatchLane tagOk = d := by
  unfold Device.dispatchLane
  rw [← Device.firstLane]
  cases hd : d.dispatches 0 with
  | false => exact if_pos rfl
  | true =>
    have hf : d.firstLane = none := h.resolve_left (by simp only [hd, reduceCtorEq, not_false_iff])
    rw [hf]
    exact if_neg (by decide)

/-- DISPATCH_LANE takes up the first item. -/
theorem Device.dispatchLane_cases (d : Device) (tagOk : Bool) (n : Nat) (x : Item) (hd : d.dispatches 0 = true)
    (hf : d.firstLane = some (n, x)) :
    (d.runTable x = none → d.dispatchLane tagOk = (d.refuse n .table 1).settle n) ∧
    ∀ v, d.runTable x = some v →
      (d.chooseLane v.resMask x.firstCluster = none → x.firstCluster ≠ none →
        d.dispatchLane tagOk = (d.refuse n .faultWithheld 2).settle n) ∧
      (d.chooseLane v.resMask x.firstCluster = none → x.firstCluster = none →
        d.dispatchLane tagOk = ((d.refuse n .table 4).settle n).released) ∧
      ∀ c l, d.chooseLane v.resMask x.firstCluster = some (c, l) →
        (¬d.tagRight tagOk v → ∀ k, x.bound = some k → d.dispatchLane tagOk = (d.withdraw k).released) ∧
        (d.tagRight tagOk v → ∀ st k, d.dispatchCheck x v = some (st, k) →
          d.dispatchLane tagOk = ((d.refuse n st k).settle n).released) ∧
        (d.tagRight tagOk v → d.dispatchCheck x v = none →
          d.dispatchLane tagOk = ((d.chargeInternal x).startLane n c l x v).released) := by
  have hwrong : ∀ v, (!tagOk || d.headerTag v != v.tag) = true ↔ ¬d.tagRight tagOk v := fun v => by
    unfold Device.tagRight
    cases tagOk <;> simp
  unfold Device.dispatchLane
  rw [← Device.firstLane, hd, hf]
  dsimp only
  refine ⟨fun ht => ?_, fun v ht => ⟨fun hl hc => ?_, fun hl hc => ?_, fun c l hl => ⟨fun hr k hk => ?_, fun hr st k hk => ?_, fun hr hk => ?_⟩⟩⟩
  · simp [ht]
  · simp [ht, hl, Option.isSome_iff_ne_none, hc]
  · rw [hc] at hl
    simp [ht, hl, hc]
  · simp [ht, hl, (hwrong v).mpr hr, hk]
  · simp [ht, hl, hwrong, hr, hk]
  · simp [ht, hl, hwrong, hr, hk]

/-- A version is withdrawn with the event of source 244 (R161). -/
theorem Device.gave_withdraw_244 (d : Device) (k : Nat) : (d.withdraw k).gave (.event 244) := by
  unfold Device.withdraw
  exact gave_fault_self _ 244

/-! ## DISPATCH_KEY_SIDE -/

/-- The first item that waits for a pipeline. -/
def Device.firstKeySide (d : Device) : Option (Nat × Item) := d.firstOf (d.readyItems .keySide fun _ _ => true)

theorem Device.dispatchKeySide_of_idle (d : Device) (h : d.dispatches 0 = false ∨ d.freePipe = none ∨ d.firstKeySide = none) :
    d.dispatchKeySide = d := by
  unfold Device.dispatchKeySide
  rw [← Device.firstKeySide]
  cases hd : d.dispatches 0 with
  | false => rfl
  | true =>
    cases hp : d.freePipe with
    | none => rfl
    | some p =>
      have hf : d.firstKeySide = none := by simpa [hd, hp] using h
      rw [hf]
      rfl

/-- DISPATCH_KEY_SIDE takes up the first item on a free pipeline. -/
theorem Device.dispatchKeySide_cases (d : Device) (p n : Nat) (x : Item) (hd : d.dispatches 0 = true) (hp : d.freePipe = some p)
    (hf : d.firstKeySide = some (n, x)) :
    (d.runTable x = none → d.dispatchKeySide = (d.refuse n .table 1).settle n) ∧
    ∀ v, d.runTable x = some v →
      (∀ st k, d.dispatchCheck x v = some (st, k) → d.dispatchKeySide = ((d.refuse n st k).settle n).released) ∧
      (d.dispatchCheck x v = none → d.dispatchKeySide = (d.startRun n (.pipe p)).released) := by
  unfold Device.dispatchKeySide
  rw [← Device.firstKeySide, hd, hf, hp]
  refine ⟨fun ht => ?_, fun v ht => ⟨fun st k hk => ?_, fun hk => ?_⟩⟩
  · simp [ht]
  · simp [ht, hk]
  · simp [ht, hk]

/-! ## DISPATCH_ENGINE and PAIR_FREE -/

/-- The first item that a free pair can take. -/
def Device.firstEngine (d : Device) : Option (Nat × Item) := d.firstOf (d.readyItems .engine fun _ x => (d.choosePair x).isSome)

theorem Device.dispatchEngine_of_held (d : Device) (h : d.dispatches 1 = false) : d.dispatchEngine = d := by
  unfold Device.dispatchEngine
  rw [h]
  rfl

theorem Device.dispatchEngine_of_none (d : Device) (hd : d.dispatches 1 = true) (hf : d.firstEngine = none) :
    d.dispatchEngine = d.askYields := by
  unfold Device.dispatchEngine
  rw [← Device.firstEngine, hd, hf]
  rfl

theorem Device.dispatchEngine_of_first (d : Device) (n : Nat) (x : Item) (p : Nat) (hd : d.dispatches 1 = true)
    (hf : d.firstEngine = some (n, x)) (hp : d.choosePair x = some p) : d.dispatchEngine = (d.startEngine n p x).askYields := by
  unfold Device.dispatchEngine
  rw [← Device.firstEngine, hd, hf]
  simp [hp]

/-- A secret key that its checks refuse ends an engine job before it has a pair (R296). -/
theorem Device.startEngine_of_refused (d : Device) (n p : Nat) (x : Item) (e : KeyEntry) (st : Status) (k : Nat) (he : x.ops.keyA = some e)
    (hk : d.keyCheck x false e = some (st, k)) : d.startEngine n p x = (d.refuse n st k).released := by
  unfold Device.startEngine
  simp [he, hk]

theorem Device.startEngine_of_checked (d : Device) (n p : Nat) (x : Item)
    (h : ∀ e, x.ops.keyA = some e → d.keyCheck x false e = none) : d.startEngine n p x = d.giveEngine n p x := by
  unfold Device.startEngine
  cases he : x.ops.keyA with
  | none => rfl
  | some e => simp [h e he]

/-- A job that reports no progress starts on its pair, or waits for the wake of the pair's group. -/
theorem Device.giveEngine_of_plain (d : Device) (n p : Nat) (x : Item) (hr : x.rsaGen = false) :
    d.giveEngine n p x = if (d.group (p / 2)).clk = .clocked then (d.startPair n p).released else
      (d.setGroup (p / 2) { d.group (p / 2) with clk := .waking }).setItem n { x with
        stage := .running
        run := { x.run with unit := some (.pair p), checkFail := false, unitFail := false, staged := none } } := by
  unfold Device.giveEngine
  simp [hr]

/-- The job that a pair may resume, and the ready item that it may take. -/
def Device.firstParked (d : Device) (p : Nat) : Option (Nat × Item) := d.firstOf (d.resumable p)
def Device.firstFor (d : Device) (p : Nat) : Option (Nat × Item) := d.firstOf (d.readyItems .engine fun _ x => d.pairMay x p)

theorem Device.pairFree_of_none (d : Device) (p : Nat)
    (h : ¬(d.pairBusy p = false ∧ d.dispatches 1 = true) ∨ (d.firstParked p = none ∧ d.firstFor p = none)) : d.pairFree p = d := by
  unfold Device.pairFree
  rw [← Device.firstParked, ← Device.firstFor]
  obtain hm | ⟨hp, hr⟩ := h
  · refine if_pos ?_
    rw [Bool.or_eq_true]
    simpa [Classical.or_iff_not_imp_left] using hm
  · simp [hp, hr]

/-- A parked job goes before a ready item of no higher level (R358). -/
theorem Device.pairFree_of_parked (d : Device) (p n : Nat) (x : Item) (hm : d.pairBusy p = false ∧ d.dispatches 1 = true)
    (hp : d.firstParked p = some (n, x)) (hr : ∀ m y, d.firstFor p = some (m, y) → y.level ≤ x.level) :
    d.pairFree p = d.setItem n { x with stage := .running } := by
  unfold Device.pairFree
  rw [← Device.firstParked, ← Device.firstFor, hm.1, hm.2, hp]
  cases hf : d.firstFor p with
  | none => rfl
  | some e => simp [Nat.not_lt.mpr (hr e.1 e.2 hf), Device.resume]

theorem Device.pairFree_of_ready (d : Device) (p m : Nat) (y : Item) (hm : d.pairBusy p = false ∧ d.dispatches 1 = true)
    (hr : d.firstFor p = some (m, y)) (hp : ∀ n x, d.firstParked p = some (n, x) → x.level < y.level) :
    d.pairFree p = (d.startEngine m p y).askYields := by
  unfold Device.pairFree
  rw [← Device.firstParked, ← Device.firstFor, hm.1, hm.2, hr]
  cases hf : d.firstParked p with
  | none => rfl
  | some e => simp [hp e.1 e.2 hf]

/-- Settles O43: each dispatch looks at the first item in order and at the unit that is chosen, and the checks follow one after
the other. -/
theorem dispatches : Obligations.Dispatches := by
  unfold Obligations.Dispatches
  refine ⟨fun tagOk s => ?_, fun s => ?_, fun s => ?_, fun p s => ?_⟩
  · refine does_of (s.dev.dispatchLane tagOk) rfl ?_
    generalize s.dev = d
    refine ⟨d.dispatchLane_of_idle tagOk, fun n x hd hf => ?_⟩
    obtain ⟨hgone, hrun⟩ := d.dispatchLane_cases tagOk n x hd hf
    refine ⟨hgone, fun v hv => ?_⟩
    obtain ⟨hsecond, hno, hlane⟩ := hrun v hv
    refine ⟨hsecond, hno, fun c l hl => ?_⟩
    obtain ⟨htag, hcheck, hstart⟩ := hlane c l hl
    refine ⟨fun hr k hk => ⟨htag hr k hk, ?_⟩, hcheck, hstart⟩
    rw [htag hr k hk]
    exact gave_released _ (d.gave_withdraw_244 k)
  · refine does_of s.dev.dispatchKeySide rfl ?_
    generalize s.dev = d
    exact ⟨d.dispatchKeySide_of_idle, fun p n x hd hp hf => d.dispatchKeySide_cases p n x hd hp hf⟩
  · refine does_of s.dev.dispatchEngine rfl ?_
    generalize s.dev = d
    refine ⟨d.dispatchEngine_of_held, d.dispatchEngine_of_none, fun n x p hd hf hp => ?_⟩
    rw [d.dispatchEngine_of_first n x p hd hf hp]
    refine ⟨fun e st k he hk => ?_, fun hk hr => ?_⟩
    · rw [d.startEngine_of_refused n p x e st k he hk]
    · rw [d.startEngine_of_checked n p x hk, d.giveEngine_of_plain n p x hr]
      exact ⟨fun hc => congrArg Device.askYields (if_pos hc), fun hc => congrArg Device.askYields (if_neg hc)⟩
  · refine does_of (s.dev.pairFree p) rfl ?_
    generalize s.dev = d
    exact ⟨d.pairFree_of_none p, fun hm n x => d.pairFree_of_parked p n x hm, fun hm m y => d.pairFree_of_ready p m y hm⟩

end Sys2Proof.Machine
end

section
/-! SUPPORT. The ends of runs and the gates (05_cipher_lanes.md R199 to R210; 06_payment_services.md R239; 07_bignum_engines.md
R286 to R311). -/

namespace Sys2Proof.Machine

/-! ## The gate of a lane (R200) -/

/-- The item's outputs may leave the lane: it is not squashed, and the gates are open or it is a diagnostic. -/
def Device.laneOpened (d : Device) (x : Item) : Prop := x.run.squash = false ∧ (d.gatesShut = false ∨ x.current.diagnostics = true)

theorem Device.laneGate_of_squash (d : Device) (n c l : Nat) (failed : Bool) (x : Item) (hx : d.item n = some x) (h : x.run.squash = true) :
    d.laneGate n c l failed = d.discardItem n := by
  unfold Device.laneGate
  simp [hx, h]

theorem Device.laneGate_of_shut (d : Device) (n c l : Nat) (failed : Bool) (x : Item) (hx : d.item n = some x) (h : x.run.squash = false)
    (hs : ¬d.laneOpened x) : d.laneGate n c l failed = d.withhold n .mode 0 := by
  unfold Device.laneGate
  have hshut : (d.gatesShut && !x.current.diagnostics) = true := by
    unfold Device.laneOpened at hs
    simpa [h] using hs
  simp [hx, h, hshut]

theorem Device.laneOpened_iff (d : Device) (x : Item) : d.laneOpened x ↔ x.run.squash = false ∧ (d.gatesShut && !x.current.diagnostics) = false := by
  unfold Device.laneOpened
  rw [Bool.and_eq_false_iff, Bool.not_eq_false']

/-- The gate with the outputs of an opened item: a doom first, then the failures of the run. -/
theorem Device.laneGate_of_opened (d : Device) (n c l : Nat) (x : Item) (hx : d.item n = some x) (ho : d.laneOpened x) :
    (∀ g j, x.run.doom = some (g, j) → d.laneGate n c l false = d.withhold n g j) ∧
    (x.run.doom = none → x.run.unitFail = false → ∀ st, x.run.staged = some st → d.laneGate n c l false = d.releaseStaged n st) ∧
    (x.run.doom = none → x.run.unitFail = true → x.run.firstUnit = none →
      (d.healthyElsewhere (d.needMask x) (some c) = true → d.laneGate n c l false = d.rerun n x) ∧
      (d.healthyElsewhere (d.needMask x) (some c) = false → d.laneGate n c l false = d.withhold n .faultWithheld 2)) ∧
    (x.run.doom = none → x.run.unitFail = true → x.run.firstUnit ≠ none →
      d.laneGate n c l false = (d.quarantineCluster c 1 l).withhold n .faultDouble c) := by
  obtain ⟨hsq, hgate⟩ := (d.laneOpened_iff x).mp ho
  unfold Device.laneGate
  simp only [hx, hsq, hgate, Bool.false_eq_true, if_false, Bool.not_false, Bool.true_and]
  refine ⟨fun g j hd => ?_, fun hd hu st hst => ?_, fun hd hu hf => ⟨fun he => ?_, fun he => ?_⟩, fun hd hu hf => ?_⟩
  · simp [hd]
  · simp [hd, hu, hst]
  · simp [hd, hu, hf, he]
  · simp [hd, hu, hf, he]
  · simp [hd, hu, hf]

/-- An item runs on a lane and its run has come to an outcome. -/
def Item.endsOn (x : Item) (c l : Nat) : Prop :=
  x.stage = .running ∧ x.run.unit = some (.lane c l) ∧ (x.run.staged ≠ none ∨ x.run.doom ≠ none)

theorem Device.laneRunEnd_of_none (d : Device) (n m : Nat) (ok : Bool) (h : ∀ x c l, d.item n = some x → ¬x.endsOn c l) :
    d.laneRunEnd n m ok = d := by
  unfold Device.laneRunEnd
  cases hx : d.item n with
  | none => rfl
  | some x =>
    rcases hu : x.run.unit with _ | ⟨c, l⟩ | p | p | p
    case some.lane =>
      simp only [hu]
      refine if_pos ?_
      have hn := h x c l hx
      unfold Item.endsOn at hn
      rw [Bool.or_eq_true, decide_eq_true_eq, Bool.and_eq_true, Option.isNone_iff_eq_none, Option.isNone_iff_eq_none]
      simpa [hu, Classical.or_iff_not_imp_left] using hn
    all_goals simp only [hu]

theorem Device.laneRunEnd_of_ends (d : Device) (n m : Nat) (ok : Bool) (x : Item) (c l : Nat) (hx : d.item n = some x) (h : x.endsOn c l) :
    let k := m + (if ok then 0 else 1) + x.run.differs
    d.laneRunEnd n m ok = (((List.range k).foldl (fun d _ => d.checkFailure c l) d).setLane c l Lane.wiped).laneGate n c l (decide (0 < k)) := by
  obtain ⟨hs, hu, ho⟩ := h
  unfold Device.laneRunEnd
  have hout : ¬((x.stage ≠ .running || (x.run.staged.isNone && x.run.doom.isNone)) = true) := by
    simpa [hs, Classical.or_iff_not_imp_left] using ho
  simp only [hx, hu]
  exact if_neg hout

/-! ## Lane failures (R203, R208, R210) -/

theorem LaneUnit.source_eq (u : LaneUnit) : u.source = if u = .keyPort then 2 else 1 := by cases u <;> rfl

theorem Device.laneFailure_of_busy (d : Device) (c l : Nat) (u : LaneUnit) (h : d.laneBusy c l = true) :
    d.laneFailure c l u = ((d.fault (64 + 4 * c + u.source)).failRuns c (· == l)).markLane c l u.bits := if_pos h

theorem Device.laneFailure_of_idle (d : Device) (c l : Nat) (u : LaneUnit) (h : d.laneBusy c l = false) : d.laneFailure c l u = d := by
  unfold Device.laneFailure
  rw [h]
  rfl

/-! ## The end of a key-side run (R239) -/

/-- An item runs on a pipeline and has its outputs. -/
def Item.endsOnPipe (x : Item) (st : Staged) : Prop := x.stage = .running ∧ (∃ p, x.run.unit = some (.pipe p)) ∧ x.run.staged = some st

theorem Device.keySideEnd_of_none (d : Device) (n m : Nat) (h : ∀ x st, d.item n = some x → ¬x.endsOnPipe st) : d.keySideEnd n m = d := by
  unfold Device.keySideEnd
  cases hx : d.item n with
  | none => rfl
  | some x =>
    rcases hu : x.run.unit with _ | ⟨c, l⟩ | p | p | p
    case some.pipe =>
      simp only [hu]
      by_cases hs : x.stage = .running
      · cases ho : x.run.staged with
        | none => exact if_neg (not_not.mpr hs)
        | some st => exact absurd ⟨hs, ⟨p, hu⟩, ho⟩ (h x st hx)
      · exact if_pos hs
    all_goals simp only [hu]

/-- The mismatches of a run count first; then the run leaves, is held back, is withheld or is released. -/
theorem Device.keySideEnd_of_ends (d : Device) (n m : Nat) (x : Item) (st : Staged) (hx : d.item n = some x) (h : x.endsOnPipe st) :
    let e := (List.range m).foldl (fun d _ => d.fault 162) d
    d.keySideEnd n m =
      if x.run.squash then e.discardItem n else if e.gatesShut then e.withhold n .mode 0
      else if 2 ≤ m then e.withhold n .faultWithheld 3 else e.releaseStaged n st := by
  obtain ⟨hs, ⟨p, hu⟩, ho⟩ := h
  unfold Device.keySideEnd
  simp only [hx, hu, ho]
  exact if_neg (not_not.mpr hs)

/-! ## The gate of a pair (R300) -/

/-- An item runs on a pair and has its outputs. -/
def Item.endsOnPair (x : Item) (p : Nat) (st : Staged) : Prop := x.stage = .running ∧ x.run.unit = some (.pair p) ∧ x.run.staged = some st

theorem Device.engineJobEnd_of_none (d : Device) (n : Nat) (mismatch : Bool) (h : ∀ x p st, d.item n = some x → ¬x.endsOnPair p st) :
    d.engineJobEnd n mismatch = d := by
  unfold Device.engineJobEnd
  cases hx : d.item n with
  | none => rfl
  | some x =>
    rcases hu : x.run.unit with _ | ⟨c, l⟩ | p | p | p
    case some.pair =>
      simp only [hu]
      cases ho : x.run.staged with
      | none => rfl
      | some st => exact if_pos fun hs => h x p st hx ⟨hs, hu, ho⟩
    all_goals simp only [hu]

theorem Device.engineJobEnd_of_ends (d : Device) (n : Nat) (mismatch : Bool) (x : Item) (p : Nat) (st : Staged) (hx : d.item n = some x)
    (h : x.endsOnPair p st) :
    ((mismatch = true ∨ d.gateCheck x st = false) →
      d.engineJobEnd n mismatch = (((d.pairMismatch p).pairGate n p true st).freePair p).endGeneration p x) ∧
    (¬(mismatch = true ∨ d.gateCheck x st = false) →
      d.engineJobEnd n mismatch = ((d.pairGate n p false st).freePair p).endGeneration p x) := by
  obtain ⟨hs, hu, ho⟩ := h
  unfold Device.engineJobEnd
  simp only [hx, hu, ho, hs, ne_eq, not_true_eq_false, if_false]
  have hbad : (mismatch || !d.gateCheck x st) = true ↔ (mismatch = true ∨ d.gateCheck x st = false) := by
    rw [Bool.or_eq_true, Bool.not_eq_true']
  refine ⟨fun hb => ?_, fun hb => ?_⟩
  · rw [hbad.mpr hb]
    rfl
  · rw [Bool.eq_false_iff.mpr fun hc => hb (hbad.mp hc)]
    rfl

/-- The gate of a pair on a run without a mismatch, not squashed and with the gates open. -/
theorem Device.pairGate_of_fine (d : Device) (n p : Nat) (st : Staged) (x : Item) (hx : d.item n = some x) (hsq : x.run.squash = false)
    (hg : d.gatesShut = false) :
    (x.run.unitFail = false → d.pairGate n p false st = d.releaseStaged n st) ∧
    (x.run.unitFail = true → x.run.firstUnit = none → d.otherGroup x p = true → d.pairGate n p false st = d.rerunEngine n x) ∧
    (x.run.unitFail = true → x.run.firstUnit = none → d.otherGroup x p = false →
      d.pairGate n p false st = d.withhold n .faultWithheld 5) ∧
    (x.run.unitFail = true → x.run.firstUnit ≠ none →
      d.pairGate n p false st = (d.quarantinePair p 1).withhold n .faultDouble (0x20 + p)) := by
  unfold Device.pairGate
  simp only [hx, hsq, hg, Bool.false_eq_true, if_false, Bool.not_false, Bool.true_and]
  refine ⟨fun hu => ?_, fun hu hf ho => ?_, fun hu hf ho => ?_, fun hu hf => ?_⟩
  · simp [hu]
  · simp [hu, hf, ho]
  · simp [hu, hf, ho]
  · simp [hu, hf]

/-- A signing job of ML-DSA runs on a pair. -/
def Item.signsOnPair (x : Item) (p : Nat) : Prop := x.stage = .running ∧ x.run.unit = some (.pair p) ∧ x.desc.service = 0x0520

theorem Device.attemptLimit_of_none (d : Device) (n : Nat) (h : ∀ x p, d.item n = some x → ¬x.signsOnPair p) : d.attemptLimit n = d := by
  unfold Device.attemptLimit
  cases hx : d.item n with
  | none => rfl
  | some x =>
    rcases hu : x.run.unit with _ | ⟨c, l⟩ | p | p | p
    case some.pair =>
      simp only [hu]
      refine if_pos ?_
      have hn := h x p hx
      unfold Item.signsOnPair at hn
      simpa [hu, Classical.or_iff_not_imp_left] using hn
    all_goals simp only [hu]

theorem Device.attemptLimit_of_signs (d : Device) (n : Nat) (x : Item) (p : Nat) (hx : d.item n = some x) (h : x.signsOnPair p) :
    d.attemptLimit n = (if x.run.squash then d.discardItem n else d.withhold n .faultWithheld 6).freePair p := by
  obtain ⟨hs, hu, hv⟩ := h
  unfold Device.attemptLimit
  cases hq : x.run.squash <;> simp [hx, hu, hs, hv, hq]

/-- The engine of a failure and its count, before its job is looked for (R293, R330). -/
def Device.engineFailed (d : Device) (e unit : Nat) : Device :=
  ((d.hwSet (bnAt e Off.bnFail) (2 ^ unit)).raiseInt .bn e 0).fault (128 + e)

theorem Device.engineFailure_cases (d : Device) (e unit : Nat) :
    ((d.engineFailed e unit).jobOn (e / 2) = none → d.engineFailure e unit = d.engineFailed e unit) ∧
    ∀ n x, (d.engineFailed e unit).jobOn (e / 2) = some (n, x) →
      d.engineFailure e unit = (d.engineFailed e unit).setItem n { x with run := { x.run with unitFail := true } } := by
  unfold Device.engineFailure
  rw [← Device.engineFailed]
  refine ⟨fun h => ?_, fun n x h => ?_⟩
  · simp only [h]
  · simp only [h]

theorem Device.gave_engineFailure_self (d : Device) (e unit : Nat) : (d.engineFailure e unit).gave (.event (128 + e)) := by
  have hgave : (d.engineFailed e unit).gave (.event (128 + e)) := gave_fault_self _ _
  obtain ⟨hnone, hsome⟩ := d.engineFailure_cases e unit
  cases hj : (d.engineFailed e unit).jobOn (e / 2) with
  | none => rwa [hnone hj]
  | some j =>
    rw [hsome j.1 j.2 hj]
    exact gave_setItem _ _ _ hgave

/-! ## Yield points (R305 to R311) -/

/-- A job runs on a pair whose group has its clock. -/
def Device.runsOnPair (d : Device) (x : Item) (p : Nat) : Prop :=
  x.stage = .running ∧ x.run.unit = some (.pair p) ∧ (d.group (p / 2)).clk = .clocked

theorem Device.yieldPoint_of_none (d : Device) (n : Nat) (h : ∀ x p, d.item n = some x → ¬d.runsOnPair x p) : d.yieldPoint n = d := by
  unfold Device.yieldPoint
  cases hx : d.item n with
  | none => rfl
  | some x =>
    rcases hu : x.run.unit with _ | ⟨c, l⟩ | p | p | p
    case some.pair =>
      simp only [hu]
      refine if_pos ?_
      have hn := h x p hx
      unfold Device.runsOnPair at hn
      simpa [hu, Classical.or_iff_not_imp_left] using hn
    all_goals simp only [hu]

theorem Device.yieldPoint_of_runs (d : Device) (n : Nat) (x : Item) (p : Nat) (hx : d.item n = some x) (h : d.runsOnPair x p) :
    d.yieldPoint n =
      if x.run.squash then ((d.discardItem n).freePair p).abortGeneration x
      else if d.vfHeld x.route.vf then (d.setItem n x.park).freePair p
      else if (d.engine (2 * p)).withdrawn then (d.freePair p).restartJob n x
      else if (d.pair p).yieldFor.isSome && decide (d.parkedCount p < 8) then (d.setItem n x.park).freePair p
      else d.setItem n { x.park with stage := .running } := by
  obtain ⟨hs, hu, hc⟩ := h
  unfold Device.yieldPoint
  simp [hx, hu, hs, hc]

/-- Settles O44: where the run stands decides whether its end acts, and the gate of its unit decides what it leaves. -/
theorem runsEnd : Obligations.RunsEnd := by
  unfold Obligations.RunsEnd
  refine ⟨fun n m ok s => ?_, fun c l u s => ?_, fun c s => ?_, fun n m s => ?_, fun n mismatch s => ?_, fun n s => ?_, fun e u s => ?_, fun n s => ?_⟩
  · refine does_of (s.dev.laneRunEnd n m ok) rfl ?_
    generalize s.dev = d
    refine ⟨d.laneRunEnd_of_none n m ok, fun x c l hx hr => ?_⟩
    rw [d.laneRunEnd_of_ends n m ok x c l hx hr]
    intro k e opened
    have he : e.item n = some x := hx
    have hgate : ∀ hk : k = 0, (((List.range k).foldl (fun d _ => d.checkFailure c l) d).setLane c l Lane.wiped).laneGate n c l (decide (0 < k)) =
        e.laneGate n c l false := fun hk => by rw [hk]; rfl
    refine ⟨rfl, fun hk hq => ?_, fun hk hq ho => ?_, fun hk ho => ?_, fun hk ho => ?_, fun hk ho => ?_, fun hk ho => ?_⟩
    · exact (hgate hk).trans (e.laneGate_of_squash n c l false x he hq)
    · exact (hgate hk).trans (e.laneGate_of_shut n c l false x he hq ho)
    all_goals
      obtain ⟨hdoom, hrel, hfirst, hsecond⟩ := e.laneGate_of_opened n c l x he ho
      rw [← hgate hk] at hdoom hrel hfirst hsecond
    · exact hdoom
    · exact hrel
    · exact hfirst
    · exact hsecond
  · refine does_of (s.dev.laneFailure c l u) rfl ?_
    generalize s.dev = d
    refine ⟨d.laneFailure_of_idle c l u, fun hb => ?_⟩
    rw [d.laneFailure_of_busy c l u hb, u.source_eq]
    exact ⟨gave_markLane _ _ _ _ (gave_failRuns _ _ _ (gave_fault_self _ _)), rfl⟩
  · refine does_of (s.dev.glitch c) rfl ?_
    generalize s.dev = d
    refine ⟨fun hg => if_neg (not_not.mpr hg), fun hg => ?_⟩
    rw [show d.glitch c = _ from if_pos hg]
    exact ⟨gave_failRuns _ _ _ (gave_fault_self _ _), rfl⟩
  · refine does_of (s.dev.keySideEnd n m) rfl ?_
    generalize s.dev = d
    refine ⟨d.keySideEnd_of_none n m, fun x st hx hr => ?_⟩
    rw [d.keySideEnd_of_ends n m x st hx hr]
    refine ⟨fun _ hq hg hm => ?_, fun hm hq hg => ?_, fun hm hq => ?_, fun hm hq hg => ?_, fun hm hq hg => ?_⟩
    · rw [hm, hq]
      exact (if_neg (ne_true_of_eq_false hg)).trans (if_neg (by decide))
    · rw [hm, hq]
      exact (if_neg (ne_true_of_eq_false hg)).trans (if_pos (Nat.le_refl 2))
    · rw [hm, hq]
      rfl
    · rw [hm, hq]
      exact if_pos hg
    · rw [hm, hq]
      exact (if_neg (ne_true_of_eq_false hg)).trans (if_neg (by decide))
  · refine does_of (s.dev.engineJobEnd n mismatch) rfl ?_
    generalize s.dev = d
    refine ⟨d.engineJobEnd_of_none n mismatch, fun x p st hx hr => ?_⟩
    obtain ⟨hbad, hgood⟩ := d.engineJobEnd_of_ends n mismatch x p st hx hr
    intro bad fine
    have hfine : ∀ hf : fine, _ := fun hf => d.pairGate_of_fine n p st x hx hf.1 hf.2.1
    refine ⟨hbad, fun hf hu => ?_, fun hf hu h1 ho => ?_, fun hf hu h1 ho => ?_, fun hf hu h1 => ?_⟩
    all_goals
      obtain ⟨hrel, hrerun, hnone, hdouble⟩ := hfine hf
      rw [hgood hf.2.2]
    · rw [hrel hu]
    · rw [hrerun hu h1 ho]
    · rw [hnone hu h1 ho]
    · rw [hdouble hu h1]
  · refine does_of (s.dev.attemptLimit n) rfl ?_
    generalize s.dev = d
    exact ⟨d.attemptLimit_of_none n, fun x p hx hr => d.attemptLimit_of_signs n x p hx hr⟩
  · refine does_of (s.dev.engineFailure e u) rfl ?_
    generalize s.dev = d
    exact ⟨d.gave_engineFailure_self e u, (d.engineFailure_cases e u).1, (d.engineFailure_cases e u).2⟩
  · refine does_of (s.dev.yieldPoint n) rfl ?_
    generalize s.dev = d
    refine ⟨d.yieldPoint_of_none n, fun x p hx hr => ?_⟩
    rw [d.yieldPoint_of_runs n x p hx hr]
    intro parked asked
    have hasked : ((d.pair p).yieldFor.isSome && decide (d.parkedCount p < 8)) = true ↔ asked := by
      rw [Bool.and_eq_true, decide_eq_true_eq, Option.isSome_iff_ne_none]
    refine ⟨fun hq => if_pos hq, fun hq hv => ?_, fun hq hv hw => ?_, fun hq hv hw ha => ?_, fun hq hv hw ha => ?_⟩
    · rw [hq, hv]
      rfl
    · rw [hq, hv, hw]
      rfl
    · rw [hq, hv, hw]
      exact if_pos (hasked.mpr ha)
    · rw [hq, hv, hw]
      exact if_neg fun h => ha (hasked.mp h)

end Sys2Proof.Machine
end

section
/-! SUPPORT. What a run of a service stages, and the key-side services (06_payment_services.md R264 to R269; 09_key_hierarchy.md R402
to R411). -/

namespace Sys2Proof.Machine

/-! ## Staging -/

theorem isService_iff (k : Nat) (x : Desc) : isService k x = true ↔ x.bundle = false ∧ x.service = k := by
  unfold isService
  rw [Bool.and_eq_true, Bool.not_eq_true', beq_iff_eq]

/-- An item runs on a unit, and its outputs are not computed yet. -/
def Device.computes (d : Device) (n : Nat) (x : Item) : Prop := d.item n = some x ∧ x.stage = .running ∧ x.run.staged = none ∧ d.onUnit x = true

theorem Device.stageIn_eq (n : Nat) (e : Device) (y : Item) (o : Staged) (w : Device) (k : Nat) (h : e.runLane y = (w, k)) :
    Device.stageIn n (e, y, o) = w.setItem n { y with run := { y.run with staged := some o, differs := y.run.differs + k } } := by
  unfold Device.stageIn
  simp only [h]

theorem Device.stageRun_of_ready (d : Device) (n : Nat) (q : Desc → Bool) (f : Device → Item → Device × Item × Staged) (x : Item)
    (h : d.computes n x) (hq : q x.current = true) : d.stageRun n q f = Device.stageIn n (f d x) := by
  obtain ⟨hx, hs, ho, hu⟩ := h
  unfold Device.stageRun
  rw [hx]
  exact if_pos ⟨hs, ho, hu, hq⟩

theorem Device.stageRun_of_none (d : Device) (n : Nat) (q : Desc → Bool) (f : Device → Item → Device × Item × Staged)
    (h : ∀ x, ¬(d.computes n x ∧ q x.current = true)) : d.stageRun n q f = d := by
  unfold Device.stageRun
  cases hx : d.item n with
  | none => rfl
  | some x => exact if_neg fun ⟨hs, ho, hu, hq⟩ => h x ⟨⟨hx, hs, ho, hu⟩, hq⟩

theorem Device.stageOpt_of_ready (d : Device) (n : Nat) (q : Desc → Bool) (f : Device → Item → Device × Item × Option Staged) (x : Item)
    (h : d.computes n x) (hq : q x.current = true) :
    (∀ e y, f d x = (e, y, none) → d.stageOpt n q f = e.setItem n y) ∧
    (∀ e y o, f d x = (e, y, some o) → d.stageOpt n q f = Device.stageIn n (e, y, o)) := by
  obtain ⟨hx, hs, ho, hu⟩ := h
  unfold Device.stageOpt
  simp only [hx, hs, ho, hu, hq, and_self, if_true]
  refine ⟨fun e y h => ?_, fun e y o h => ?_⟩
  · simp only [h]
  · simp only [h]

theorem Device.stageOpt_of_none (d : Device) (n : Nat) (q : Desc → Bool) (f : Device → Item → Device × Item × Option Staged)
    (h : ∀ x, ¬(d.computes n x ∧ q x.current = true)) : d.stageOpt n q f = d := by
  unfold Device.stageOpt
  cases hx : d.item n with
  | none => rfl
  | some x => exact if_neg fun ⟨hs, ho, hu, hq⟩ => h x ⟨⟨hx, hs, ho, hu⟩, hq⟩

/-- A command that stages what f computes stages what g computes, where both agree on the runs that it takes. -/
theorem stages_of_stageRun {c : Instr} {n : Nat} {p : Device → Item → Prop} {q : Desc → Bool} {f g : Device → Item → Device × Item × Staged}
    (hc : ∀ s, exec c s = s.done (s.dev.stageRun n q f)) (hp : ∀ d x, p d x ↔ q x.current = true) (hf : ∀ d x, p d x → f d x = g d x) :
    Stages c n p g := by
  intro s
  refine does_of _ (hc s) ⟨fun x h e y o w k hg hl => ?_, fun h => ?_⟩
  · obtain ⟨hx, hs, ho, hu, hpx⟩ := h
    rw [s.dev.stageRun_of_ready n q f x ⟨hx, hs, ho, hu⟩ ((hp _ _).mp hpx), hf _ x hpx, hg]
    exact Device.stageIn_eq n e y o w k hl
  · refine s.dev.stageRun_of_none n q f fun x ⟨⟨hx, hs, ho, hu⟩, hq⟩ => ?_
    exact h x ⟨hx, hs, ho, hu, (hp _ _).mpr hq⟩

/-- A service by its code. -/
def codeIs (k : Nat) (_ : Device) (x : Item) : Prop := x.current.bundle = false ∧ x.current.service = k

theorem stages_of_service {c : Instr} {n k : Nat} {f g : Device → Item → Device × Item × Staged}
    (hc : ∀ s, exec c s = s.done (s.dev.stageRun n (isService k) f)) (hf : ∀ d x, codeIs k d x → f d x = g d x) : Stages c n (codeIs k) g :=
  stages_of_stageRun hc (fun _ x => (isService_iff k x.current).symm) hf

/-! ## Services that store versions of a key (R264, R404) -/

/-- A service of KEY_A's key, no version of which is in flight. -/
def serialIs (n k : Nat) (d : Device) (x : Item) : Prop :=
  x.current.bundle = false ∧ x.current.service = k ∧ d.versionsInFlight (d.tenantOf x) (bitsOf x.current.keyA 63 24) (some n) = []

theorem stages_of_stageSerial {c : Instr} {n k : Nat} {f g : Device → Item → Device × Item × Staged}
    (hc : ∀ s, exec c s = s.done (s.dev.stageSerial n (isService k) false f)) (hf : ∀ d x, f d x = g d x) : Stages c n (serialIs n k) g := by
  intro s
  refine does_of _ (hc s) ⟨fun x h e y o w j hg hl => ?_, fun h => ?_⟩
  · obtain ⟨hx, hs, ho, hu, hb, hk, hfree⟩ := h
    have hserial : s.dev.stageSerial n (isService k) false f = s.dev.stageRun n (isService k) f := by
      unfold Device.stageSerial
      rw [hx]
      exact if_pos hfree
    rw [hserial, s.dev.stageRun_of_ready n _ f x ⟨hx, hs, ho, hu⟩ ((isService_iff k _).mpr ⟨hb, hk⟩), hf, hg]
    exact Device.stageIn_eq n e y o w j hl
  · unfold Device.stageSerial
    cases hi : s.dev.item n with
    | none => rfl
    | some x =>
      by_cases hfree : s.dev.versionsInFlight (s.dev.tenantOf x) (bitsOf x.current.keyA 63 24) (some n) = []
      · refine (if_pos hfree).trans (s.dev.stageRun_of_none n _ f fun z ⟨⟨hz, hs, ho, hu⟩, hq⟩ => ?_)
        obtain rfl : x = z := Option.some.inj (hi.symm.trans hz)
        obtain ⟨hb, hk⟩ := (isService_iff k _).mp hq
        exact h x ⟨hi, hs, ho, hu, hb, hk, hfree⟩
      · exact if_neg hfree

/-- What is known of the key ID that an item creates. -/
theorem Device.keyKnown_eq (d : Device) (x : Item) :
    d.keyKnown x = if d.keyVersions (d.tenantOf x) (bitsOf x.current.keyB 63 24) ≠ [] ∨ x.ops.cleared = true ∨ x.ops.found ≠ [] ∨
      d.readMembers (keyIdent (d.tenantOf x) (bitsOf x.current.keyB 63 24) 1 0) = [] then .known else .unasked := rfl

/-- Staging of a key's creation by what is known of its key ID, while none of its versions is in flight. -/
theorem Device.stageNewKey_cases (d : Device) (n : Nat) (q : Desc → Bool) (f : Device → Item → Device × Item × Option Staged) (x : Item)
    (hx : d.item n = some x) (hv : d.versionsInFlight (d.tenantOf x) (bitsOf x.current.keyB 63 24) (some n) = []) :
    (d.keyKnown x = .known → d.stageNewKey n q f = d.stageOpt n q f) ∧
    (d.keyKnown x = .unasked → d.stageNewKey n q f =
      if x.stage = .running ∧ x.run.staged = none ∧ d.onUnit x = true ∧ q x.current = true then d.peerRead (probeKey n) (d.firstIdent x) false else d) := by
  unfold Device.stageNewKey
  simp only [hx, hv, ne_eq, not_true_eq_false, if_false]
  refine ⟨fun h => ?_, fun h => ?_⟩
  · simp only [h]
  · simp only [h]

theorem Device.stageNewKey_of_none (d : Device) (n k : Nat) (f : Device → Item → Device × Item × Option Staged)
    (h : ∀ x, ¬(d.computes n x ∧ x.current.bundle = false ∧ x.current.service = k ∧
      d.versionsInFlight (d.tenantOf x) (bitsOf x.current.keyB 63 24) (some n) = [])) : d.stageNewKey n (isService k) f = d := by
  cases hi : d.item n with
  | none =>
    unfold Device.stageNewKey
    rw [hi]
  | some x =>
    by_cases hv : d.versionsInFlight (d.tenantOf x) (bitsOf x.current.keyB 63 24) (some n) = []
    · have hnot : ∀ z, ¬(d.computes n z ∧ isService k z.current = true) := fun z ⟨hz, hq⟩ => by
        obtain rfl : x = z := Option.some.inj (hi.symm.trans hz.1)
        obtain ⟨hb, hk⟩ := (isService_iff k _).mp hq
        exact h x ⟨hz, hb, hk, hv⟩
      obtain ⟨hknown, hasked⟩ := d.stageNewKey_cases n (isService k) f x hi hv
      cases hkn : d.keyKnown x with
      | known => exact (hknown hkn).trans (d.stageOpt_of_none n _ f hnot)
      | unasked => exact (hasked hkn).trans (if_neg fun ⟨hs, ho, hu, hq⟩ => hnot x ⟨⟨hi, hs, ho, hu⟩, hq⟩)
    · unfold Device.stageNewKey
      rw [hi]
      exact if_pos hv

theorem createsKey_of_stageNewKey {c : Instr} {n k : Nat} {f g : Device → Item → Device × Item × Option Staged}
    (hc : ∀ s, exec c s = s.done (s.dev.stageNewKey n (isService k) f)) (hf : ∀ d x, f d x = g d x) : CreatesKey c n k g := by
  intro s
  refine does_of _ (hc s) ?_
  generalize s.dev = d
  refine ⟨fun h => ?_, fun x h => ?_⟩
  · exact d.stageNewKey_of_none n k f fun x ⟨⟨hx, hs, ho, hu⟩, hb, hk, hv⟩ => h x ⟨hx, hs, ho, hu, hb, hk, hv⟩
  · obtain ⟨hx, hs, ho, hu, hb, hk, hv⟩ := h
    have hq := (isService_iff k x.current).mpr ⟨hb, hk⟩
    obtain ⟨hknown, hasked⟩ := d.stageNewKey_cases n (isService k) f x hx hv
    obtain ⟨hmore, hdone⟩ := d.stageOpt_of_ready n (isService k) f x ⟨hx, hs, ho, hu⟩ hq
    refine ⟨fun hn => ?_, fun hn e y hg => ?_, fun hn e y o w j hg hl => ?_⟩
    · exact (hasked ((d.keyKnown_eq x).trans (if_neg hn))).trans (if_pos ⟨hs, ho, hu, hq⟩)
    · exact (hknown ((d.keyKnown_eq x).trans (if_pos hn))).trans (hmore e y ((hf d x).trans hg))
    · exact (hknown ((d.keyKnown_eq x).trans (if_pos hn))).trans ((hdone e y o ((hf d x).trans hg)).trans (Device.stageIn_eq n e y o w j hl))

end Sys2Proof.Machine
end
section
/-! SUPPORT. The key services one by one, ROTATE, and the ends of its operations (09_key_hierarchy.md R402 to R411). -/

namespace Sys2Proof.Machine

/-- What KEY_ROTATE stages (R265). -/
def Device.rotated (d : Device) (x : Item) : Staged :=
  match x.ops.keyA with
  | none => stagedPlain .keyAbsent 0
  | some e =>
    let v := d.highestVersion e.attr.tenant e.attr.keyId + 1
    let key := padTo (algLen e.attr.alg) x.ops.random
    let a := { e.attr with version := v, ceremony := false, tdesWeak := tdesWeak e.attr.alg key, state := 1 }
    if e.attr.pk = true ∨ e.attr.alg ≠ x.current.variant % 16 then stagedPlain .keyUsage 0
    else if 0xFFFF < v then stagedPlain .keyUsage 3
    else mapStatus none none (d.keyResult a key) none (keyRecords a key)

theorem keyRotate_stages (n : Nat) : Stages (.keyRotate n) n (serialIs n 0x0402) fun d x => (d, x, d.rotated x) := by
  refine stages_of_stageSerial (fun s => rfl) fun d x => ?_
  unfold Device.rotated Device.nextVersion
  cases x.ops.keyA with
  | none => rfl
  | some e =>
    dsimp only [List.foldl_nil]
    by_cases hu : e.attr.pk = true ∨ e.attr.alg ≠ x.current.variant % 16
    · simp only [hu, if_true]
    · by_cases hv : 0xFFFF < d.highestVersion e.attr.tenant e.attr.keyId + 1
      · simp only [hu, hv, if_true, if_false]
      · simp only [hu, hv, if_false]

/-- EXPORT by whether the key may leave, the protection key is strong enough, and the block fits. -/
theorem Device.exportBlock_some (d : Device) (x : Item) (e : KeyEntry) (h : x.ops.keyB = some e) :
    d.exportBlock x =
      let alg := x.current.variant % 16
      let len := blockLen (algTdes alg) (algLen e.attr.alg)
      let head := exportHeader (algTdes alg) len e.attr
      if e.attr.exportable = false ∨ e.attr.pk = true then stagedPlain .keyUsage 4
      else if algRank alg < algRank e.attr.alg then stagedPlain .keyUsage 5
      else if x.current.outCap < len then stagedPlain .format 3
      else mapStatus none none (d.keyResult e.attr e.key ++ leBytes 2 len)
        (some (head ++ padTo (len - 16) (Config.keyBlockRaw alg x.keyBytesA head (e.key.take (algLen e.attr.alg))))) [] := by
  unfold Device.exportBlock
  simp only [h, Bool.not_eq_eq_eq_not, Bool.not_true]

/-- The version that is named is the only live one. -/
theorem Device.onlyLive_iff (d : Device) (tenant id v : Nat) :
    (((d.keyVersions tenant id).filter fun w => !d.keyRetired tenant id w).all (· == v)) = true ↔
      ∀ w ∈ d.keyVersions tenant id, d.keyRetired tenant id w = false → w = v := by
  simp only [List.all_eq_true, List.mem_filter, Bool.not_eq_true', beq_iff_eq, and_imp]

theorem Device.retireKey_some (d : Device) (x : Item) (e : KeyEntry) (h : x.ops.keyA = some e) :
    d.retireKey x =
      if (∀ v ∈ d.keyVersions (d.tenantOf x) e.attr.keyId, d.keyRetired (d.tenantOf x) e.attr.keyId v = false → v = e.attr.version)
      then stagedPlain .keyUsage 0
      else mapStatus none none (d.keyResult e.attr e.key) none (d.retiredRecords e.attr e.key) := by
  unfold Device.retireKey
  simp only [h, d.onlyLive_iff]

/-! ## ROTATE and the ends of a rotation and of a re-wrap -/

/-- ROTATE finds the device ready for it. -/
def Device.mayRotate (d : Device) : Prop :=
  (d.cust.mode = .service ∨ d.cust.mode = .maintenance) ∧ d.keys.op = none ∧ d.progRunning (keyAt 0) = false

/-- The VF of the tenant that ROTATE names. -/
def Device.rotateVf (d : Device) : Option (Nat × Vf) :=
  List.find? (fun e => e.2.tenant == d.reg (keyAt Off.keyRotTenant) && e.2.st != .absent && e.2.st != .destroyed) d.front.vfs

/-- A rotation of so many keys begins. -/
def Device.rotateBegun (d : Device) (keys : List KeyAttr) : Device :=
  ((d.commandStart (keyAt Off.keyCmd) 0).progStart (keyAt 0) 0x0001 keys.length).mapKeys fun k => { k with
    op := some { rewrap := false, tenant := d.reg (keyAt Off.keyRotTenant), todo := [], skipped := 0 } }

theorem Device.rotateBarred_iff (d : Device) :
    ((d.cust.mode ≠ .service ∧ d.cust.mode ≠ .maintenance) ∨ d.keys.op.isSome = true ∨ d.progRunning (keyAt 0) = true) ↔ ¬d.mayRotate := by
  unfold Device.mayRotate
  rw [not_and_or, not_and_or, not_or, Option.isSome_iff_ne_none, Bool.not_eq_false]

theorem Device.rotate_of_not_may (d : Device) (hb : d.writeBarred (keyAt Off.keyCmd) = false) (hr : d.bit (keyAt Off.keyCmd) 0 = false)
    (hm : ¬d.mayRotate) : d.rotate = d.writeLost (keyAt 0) := by
  exact (d.onIdle_of_idle _ 0 _ hb hr).trans (if_pos (d.rotateBarred_iff.mpr hm))

theorem Device.rotate_of_may (d : Device) (hb : d.writeBarred (keyAt Off.keyCmd) = false) (hr : d.bit (keyAt Off.keyCmd) 0 = false)
    (hm : d.mayRotate) :
    (d.rotateVf = none → d.rotate = d.rotateBegun []) ∧
    ∀ e, d.rotateVf = some e →
      d.rotate = (d.rotates (d.reg (keyAt Off.keyRotTenant)) (d.field (keyAt Off.keyRotUsage) 7 0)).foldl (Device.rotateKey e.2.pgen)
        (d.rotateBegun (d.rotates (d.reg (keyAt Off.keyRotTenant)) (d.field (keyAt Off.keyRotUsage) 7 0))) := by
  have hno := fun h => d.rotateBarred_iff.mp h hm
  refine ⟨fun hv => (d.onIdle_of_idle _ 0 _ hb hr).trans ((if_neg hno).trans ?_),
    fun e hv => (d.onIdle_of_idle _ 0 _ hb hr).trans ((if_neg hno).trans ?_)⟩
  · dsimp only
    rw [← Device.rotateVf, hv]
    rfl
  · dsimp only
    rw [← Device.rotateVf, hv]
    rfl

theorem Device.rotationEnd_cases (d : Device) :
    ((∀ o, d.keys.op = some o → o.rewrap = true ∨ d.opCommitted o = false) → d.rotationEnd = d) ∧
    ∀ o, d.keys.op = some o → o.rewrap = false → d.opCommitted o = true →
      d.rotationEnd = (((((d.mapKeys fun k => { k with op := none }).progPos (keyAt 0) o.todo.length).progEnd (keyAt 0) false).setReg
        (keyAt Off.keyRotResult) o.skipped).commandEnd (keyAt Off.keyCmd) 0 1).raiseInt .key 0 2 := by
  unfold Device.rotationEnd
  refine ⟨fun h => ?_, fun o ho hw hc => ?_⟩
  · cases ho : d.keys.op with
    | none => rfl
    | some o =>
      refine if_pos ?_
      rw [Bool.or_eq_true, Bool.not_eq_true']
      exact h o ho
  · simp [ho, hw, hc]

theorem Device.rewrapEnd_cases (d : Device) :
    ((∀ o, d.keys.op = some o → o.rewrap = false ∨ d.opCommitted o = false) → d.rewrapEnd = d) ∧
    ∀ o, d.keys.op = some o → o.rewrap = true → d.opCommitted o = true →
      d.rewrapEnd = (((((d.mapKeys fun k => { k with op := none }).progPos (keyAt 0) o.todo.length).progEnd (keyAt 0) false).bankUpdate fun b =>
        { b with st := .rooted, prevEpoch := 0, prevRoot := zeros 32 }).setRootClass 2).raiseInt .key 0 2 := by
  unfold Device.rewrapEnd
  refine ⟨fun h => ?_, fun o ho hw hc => ?_⟩
  · cases ho : d.keys.op with
    | none => rfl
    | some o =>
      refine if_pos ?_
      rw [Bool.or_eq_true, Bool.not_eq_true', Bool.not_eq_true']
      exact h o ho
  · simp [ho, hw, hc]

/-- Settles O47: the services by what they stage, ROTATE by what it finds, and the ends by the operation that runs. -/
theorem keyAndRotation : Obligations.KeyAndRotation := by
  unfold Obligations.KeyAndRotation
  intro code serial out made
  refine ⟨fun n => ⟨?_, ?_, ?_, ?_, ?_, ?_⟩, fun s => ?_, fun s => ?_, fun s => ?_⟩
  · exact createsKey_of_stageNewKey (fun _ => rfl) fun _ _ => rfl
  · exact keyRotate_stages n
  · exact createsKey_of_stageNewKey (fun _ => rfl) fun _ _ => rfl
  · refine stages_of_service (fun _ => rfl) fun d x _ => ?_
    cases hk : x.ops.keyB with
    | none => simp [out, hk, Device.exportBlock]
    | some e => simp only [out, hk, d.exportBlock_some x e hk]
  · exact stages_of_service (fun _ => rfl) fun _ _ _ => rfl
  · refine stages_of_stageSerial (fun _ => rfl) fun d x => ?_
    cases hk : x.ops.keyA with
    | none => simp [out, hk, Device.retireKey]
    | some e => simp only [out, hk, d.retireKey_some x e hk]
  · refine does_of s.dev.rotate rfl ?_
    generalize s.dev = d
    refine ⟨d.onIdle_of_barred _ 0 0 _, d.onIdle_of_running _ 0 0 _, fun hi hm => d.rotate_of_not_may hi.1 hi.2 hm, fun hi hm hv => ?_,
      fun hi hm e hv => ?_⟩
    · exact ((d.rotate_of_may hi.1 hi.2 hm).1 hv).trans (congrArg d.rotateBegun (if_pos hv).symm)
    · refine ((d.rotate_of_may hi.1 hi.2 hm).2 e hv).trans
        (congrArg (fun ks : List KeyAttr => ks.foldl (Device.rotateKey e.2.pgen) (d.rotateBegun ks)) (if_neg fun h => ?_).symm)
      cases h.symm.trans hv
  · exact does_of s.dev.rotationEnd rfl s.dev.rotationEnd_cases
  · exact does_of s.dev.rewrapEnd rfl s.dev.rewrapEnd_cases

end Sys2Proof.Machine
end

section
/-! SUPPORT. The engine services (07_bignum_engines.md R291 to R325). -/

namespace Sys2Proof.Machine

theorem stagedBuffer_eq (x : Item) (result b : Bytes) :
    stagedBuffer x result b = if b.length ≤ x.current.outCap then mapStatus none none result (some b) [] else stagedPlain .format 3 := by
  unfold stagedBuffer
  by_cases h : b.length ≤ x.current.outCap
  · rw [if_pos h, if_neg (Nat.not_lt.mpr h)]
  · rw [if_neg h, if_pos (Nat.not_le.mp h)]

/-- The signing randomness touches nothing that a signature is computed from: the device keeps its units, the item its operands. -/
theorem Device.signingOf_units (d : Device) (x : Item) : (d.signingOf x).1.units = d.units := by
  unfold Device.signingOf
  cases x.run.signing with
  | some r => rfl
  | none => exact Device.drawnFor_units d 64

theorem Device.signingOf_current (d : Device) (x : Item) : (d.signingOf x).2.1.current = x.current := by
  unfold Device.signingOf
  cases x.run.signing <;> rfl

theorem Device.signingOf_ops (d : Device) (x : Item) : (d.signingOf x).2.1.ops = x.ops := by
  unfold Device.signingOf
  cases x.run.signing <;> rfl

/-- A service that draws, whose outputs are the same computed before and after the draw. -/
theorem stages_of_stageDrawn {c : Instr} {n k : Nat} {f g : Device → Item → Bytes → Staged}
    (hc : ∀ s, exec c s = s.done (s.dev.stageDrawn n (isService k) f))
    (hf : ∀ d e x y r, e.units = d.units → y.current = x.current → y.ops = x.ops → f e y r = g d x r) :
    Stages c n (codeIs k) fun d x => ((d.signingOf x).1, (d.signingOf x).2.1, g d x (d.signingOf x).2.2) :=
  stages_of_service hc fun d x _ => by
    rw [hf d _ x _ _ (d.signingOf_units x) (d.signingOf_current x) (d.signingOf_ops x)]

theorem stages_buffer {c : Instr} {n k : Nat} {f : Device → Item → Bytes → Bytes}
    (hc : ∀ s, exec c s = s.done (s.dev.stageDrawn n (isService k) fun d x r => stagedBuffer x (zeros 16) (f d x r)))
    (hf : ∀ d e x y r, e.units = d.units → y.current = x.current → y.ops = x.ops → f e y r = f d x r) :
    Stages c n (codeIs k) fun d x => ((d.signingOf x).1, (d.signingOf x).2.1,
      if (f d x (d.signingOf x).2.2).length ≤ x.current.outCap then mapStatus none none (zeros 16) (some (f d x (d.signingOf x).2.2)) []
      else stagedPlain .format 3) :=
  stages_of_stageDrawn (g := fun d x r => if (f d x r).length ≤ x.current.outCap then mapStatus none none (zeros 16) (some (f d x r)) []
      else stagedPlain .format 3) hc fun d e x y r hu hcur ho => by
    rw [stagedBuffer_eq, hf d e x y r hu hcur ho, hcur]

theorem keyBytesA_congr {x y : Item} (h : y.ops = x.ops) : y.keyBytesA = x.keyBytesA := by
  unfold Item.keyBytesA
  rw [h]

/-- What an ECDSA signature covers depends on the curve slots alone (R315, R322). -/
theorem curve_congr {d e : Device} (h : e.units = d.units) (c : Desc) :
    e.sigHalf c = d.sigHalf c ∧ e.curveOf c = d.curveOf c ∧ e.orderBits c = d.orderBits c := by
  unfold Device.sigHalf Device.curveOf Device.orderBits Device.curveBits
  rw [h]
  exact ⟨rfl, rfl, rfl⟩

/-- The message of an ECDSA signature, signed. -/
def Device.ecSignature (d : Device) (x : Item) (r : Bytes) : Bytes :=
  Config.sign (2 * d.sigHalf x.current) (ecAlg x.current) x.keyBytesA (d.curveOf x.current ++ truncDigest (d.orderBits x.current) x.ops.data) r

theorem ecSignature_congr (d e : Device) (x y : Item) (r : Bytes) (hu : e.units = d.units) (hcur : y.current = x.current) (ho : y.ops = x.ops) :
    e.ecSignature y r = d.ecSignature x r := by
  obtain ⟨hhalf, hset, hbits⟩ := curve_congr hu x.current
  unfold Device.ecSignature
  rw [hcur, keyBytesA_congr ho, ho, hhalf, hset, hbits]

/-- The verdict of an ECDSA verification with a public key of so many bytes. -/
def Device.ecVerdict (d : Device) (x : Item) (pub : Nat) : Staged :=
  let sig := 2 * d.sigHalf x.current
  let b := x.ops.data
  mapStatus none (some (d.ecPublicOk x.current (slice b 0 pub) &&
    Config.verify (ecAlg x.current) (d.curveOf x.current ++ slice b 0 pub) (truncDigest (d.orderBits x.current) (b.drop (pub + sig)))
      (slice b pub sig))) (zeros 16) none []

theorem Device.ecVerify_named (d : Device) (x : Item) (h : x.current.service = 0x0511) :
    d.ecVerify x = d.ecVerdict x (ecPubLen x.current.variant) := by
  unfold Device.ecVerify
  simp only [h]
  rfl

theorem Device.ecVerify_slot (d : Device) (x : Item) (h : x.current.service = 0x0513) :
    d.ecVerify x =
      let pub := 1 + 2 * ((hdr (d.curveOf x.current) 6 2 + 7) / 8)
      let least := pub + 2 * d.sigHalf x.current + 20
      if least ≤ x.ops.data.length ∧ x.ops.data.length ≤ least + 44 then d.ecVerdict x pub else stagedPlain .format 3 := by
  unfold Device.ecVerify
  simp only [h, if_true, true_and]
  exact ite_not ..

/-- What KEY_PAIR_GENERATE stages for a key. -/
def Device.pairMade (d : Device) (x : Item) (key : Bytes) : Staged :=
  let a := newAttr (x.current.inline0.getD 0 0).toNat (pairAlg x.current.variant) false true
  if (d.publicOf a.alg key).length ≤ x.current.outCap then d.createKey x a key (some (d.publicOf a.alg key)) else stagedPlain .format 3

theorem Device.generatePair_eq (d : Device) (x : Item) : d.generatePair x = d.pairMade x := by
  funext key
  unfold Device.generatePair Device.pairMade
  dsimp only
  by_cases h : (d.publicOf (newAttr (x.current.inline0.getD 0 0).toNat (pairAlg x.current.variant) false true).alg key).length ≤ x.current.outCap
  · rw [if_pos h, if_neg (Nat.not_lt.mpr h)]
  · rw [if_neg h, if_pos (Nat.not_le.mp h)]

theorem Device.pairRun_eq (d : Device) (x : Item) :
    d.pairRun x =
      let o := d.signingOf x
      if x.rsaGen = true then
        let f := rsaSearch (x.run.blinds.getD 0 []) o.2.2 x.current.paramHi x.run.tries
        let e := match x.run.unit with | some (.pair p) => o.1.progPos (bnAt (2 * p) 0) f.2 | _ => o.1
        (e, { o.2.1 with run := { o.2.1.run with tries := f.2 } }, f.1.map (d.pairMade x))
      else (o.1, o.2.1, some (d.pairMade x (d.newPrivate x.current o.2.2))) := by
  rw [← d.generatePair_eq x]
  rfl

/-- The modulus check of FIPS 203, over every pair of coefficients. -/
theorem mlKemKeyOk_iff (ek : Bytes) :
    mlKemKeyOk ek = true ↔ ∀ i < 384, leNat (slice ek (3 * i) 3) % 4096 < 3329 ∧ leNat (slice ek (3 * i) 3) / 4096 < 3329 := by
  unfold mlKemKeyOk
  rw [List.all_eq_true]
  simp only [List.mem_range, decide_eq_true_eq]

/-- What ML_KEM_768_ENCAPSULATE stages. -/
def Device.encapsulated (_ : Device) (x : Item) (r : Bytes) : Staged :=
  if (∀ i < 384, leNat (slice x.ops.data (3 * i) 3) % 4096 < 3329 ∧ leNat (slice x.ops.data (3 * i) 3) / 4096 < 3329) then
    if ((encapsulate x.ops.data r).1 ++ (encapsulate x.ops.data r).2).length ≤ x.current.outCap then
      mapStatus none none (zeros 16) (some ((encapsulate x.ops.data r).1 ++ (encapsulate x.ops.data r).2)) []
    else stagedPlain .format 3
  else mapStatus none (some false) (zeros 16) none []

/-- An even modulus, or a base not below it, is no modulus and base (R325). -/
theorem modular_verdict (m b : Nat) (no yes : Staged) :
    (if m % 2 = 0 ∨ m ≤ b then no else yes) = if m % 2 = 1 ∧ b < m then yes else no := by
  by_cases h : m % 2 = 1 ∧ b < m
  · rw [if_pos h, if_neg (by omega)]
  · rw [if_neg h, if_pos (by omega)]

/-- Settles O48: each service by what it computes, drawn randomness before it, and the length of its output after it. -/
theorem engineServices : Obligations.EngineServices := by
  unfold Obligations.EngineServices
  intro code out draws drawing buffer verdict ecSigned ecVerified slotPub n
  refine ⟨?_, ?_, ?_, ?_, ?_, ?_, ?_, ?_, ?_, ?_, ?_, ?_, ?_, ?_⟩
  · exact stages_buffer (f := fun _ x r => Config.sign (8 * rsaWords x.keyBytesA) (0x1000 + x.current.variant) x.keyBytesA x.ops.data r)
      (fun _ => rfl) fun d e x y r _ hcur ho => by rw [keyBytesA_congr ho, hcur, ho]
  · exact stages_of_service (fun _ => rfl) fun _ _ _ => rfl
  · exact createsKey_of_stageNewKey (fun _ => rfl) fun _ _ => rfl
  · refine createsKey_of_stageNewKey (fun _ => rfl) fun d x => ?_
    exact d.pairRun_eq x
  · refine stages_of_service (fun _ => rfl) fun d x _ => ?_
    cases hk : x.ops.keyA with
    | none => simp only [out, hk]
    | some e =>
      simp only [out, hk, buffer, stagedBuffer_eq]
      by_cases hp : d.publicOf e.attr.alg e.key = []
      · rw [if_pos hp, if_pos hp]
      · rw [if_neg hp, if_neg hp]
  · exact stages_buffer (f := Device.ecSignature) (fun _ => rfl) ecSignature_congr
  · exact stages_of_service (fun _ => rfl) fun d x hx => congrArg (fun o => (d, x, o)) (d.ecVerify_named x hx.2)
  · exact stages_buffer (f := Device.ecSignature) (fun _ => rfl) ecSignature_congr
  · exact stages_of_service (fun _ => rfl) fun d x hx => congrArg (fun o => (d, x, o)) (d.ecVerify_slot x hx.2)
  · exact stages_buffer (f := fun _ x r => Config.sign 3309 0x14 x.keyBytesA x.ops.data r)
      (fun _ => rfl) fun d e x y r _ hcur ho => by rw [keyBytesA_congr ho, ho]
  · exact stages_of_service (fun _ => rfl) fun _ _ _ => rfl
  · refine stages_of_stageDrawn (g := Device.encapsulated) (fun _ => rfl) fun d e x y r _ hcur ho => ?_
    unfold Device.encapsulated
    rw [stagedBuffer_eq, hcur, ho]
    exact if_congr (mlKemKeyOk_iff _) rfl rfl
  · exact stages_of_service (fun _ => rfl) fun d x _ => congrArg (fun o => (d, x, o)) (stagedBuffer_eq x _ _)
  · refine stages_of_service (fun _ => rfl) fun d x _ => congrArg (fun o => (d, x, o)) ?_
    exact (modular_verdict _ _ _ _).trans (if_congr Iff.rfl (stagedBuffer_eq x _ _) rfl)

end Sys2Proof.Machine
end

section
/-! SUPPORT. The fault collector and the tamper monitor by their rows (14_tamper.md R605 to R632; 15_faults.md R633 to R661). -/

namespace Sys2Proof.Machine

theorem Device.source_setSource (d : Device) (s k : Nat) (x : Source) : (d.setSource s x).source k = if k = s then x else d.source k :=
  Table.get_put _ _ _ _ _

/-- An event of this cycle is a cause of its source. -/
theorem Device.cause_of_gave (d : Device) (s : Nat) (h : d.gave (.event s)) : d.cause s = true := by
  unfold Device.cause
  rw [show d.pages.cyc.events.mem s = true from h, Bool.or_true]

/-! ## Events -/

/-- A source whose events count, outside the battery. -/
def Device.counts (d : Device) (k : Nat) : Prop := neverCounted k = false ∧ d.power.st ≠ .battery

theorem Device.faultEvent_of_not_counts (d : Device) (k : Nat) (held : Bool) (place : Nat) (h : ¬d.counts k) : d.faultEvent k held place = d := by
  refine if_pos ?_
  unfold Device.counts at h
  rw [Bool.or_eq_true, beq_iff_eq]
  by_contra hc
  rw [not_or, Bool.not_eq_true] at hc
  exact h hc

theorem Device.faultEvent_of_counts (d : Device) (k : Nat) (held : Bool) (place : Nat) (h : d.counts k) :
    d.faultEvent k held place =
      if monitored k then d.tamperEvent k 0
      else if 252 ≤ k then d.selfError (k - 252) [] [] false
      else if conditionType k then ((d.blockEffect k place).fault k).holdCause k held else (d.blockEffect k place).fault k := by
  obtain ⟨hn, hp⟩ := h
  have hcounts : ¬((neverCounted k || d.power.st == .battery) = true) := by
    rw [Bool.or_eq_true, beq_iff_eq, not_or, Bool.not_eq_true]
    exact ⟨hn, hp⟩
  exact if_neg hcounts

theorem monitored_iff (k : Nat) : monitored k = true ↔ 32 ≤ k ∧ k < 56 := decide_eq_true_iff

/-- An event of a source with neither a monitor nor a row of its own among the collector's errors. -/
theorem Device.faultEvent_of_plain (d : Device) (k : Nat) (held : Bool) (place : Nat) (h : d.counts k) (hm : k < 32 ∨ 56 ≤ k) (hk : k < 252) :
    d.faultEvent k held place =
      if conditionType k then ((d.blockEffect k place).fault k).holdCause k held else (d.blockEffect k place).fault k := by
  have hmon : ¬(monitored k = true) := fun hc => by
    have := (monitored_iff k).mp hc
    omega
  exact (d.faultEvent_of_counts k held place h).trans ((if_neg hmon).trans (if_neg (Nat.not_le.mpr hk)))

theorem Device.gave_faultEvent_self (d : Device) (k : Nat) (held : Bool) (place : Nat) (h : d.counts k) (hm : k < 32 ∨ 56 ≤ k) (hk : k < 252) :
    (d.faultEvent k held place).gave (.event k) := by
  rw [d.faultEvent_of_plain k held place h hm hk]
  exact gave_ite _ _ _ (gave_holdCause _ _ _ (gave_fault_self _ k)) (gave_fault_self _ k)

/-! ## Escalation, acknowledgements, clears -/

/-- A source whose escalation timer ran out, and the bits that it raises (R645). -/
def Device.escalated (d : Device) (s : Nat) : Device :=
  (d.setSource s { d.source s with
    timer := false
    escalated := true
    sev := 3 }).raiseMask (Page.flt.base 0) 0x18

theorem Device.escalate_cases (d : Device) (s : Nat) :
    ((d.source s).timer = false → d.escalate s = d) ∧
    ((d.source s).timer = true → (d.source s).sev < (d.escalated s).alertSev → (d.escalated s).alertSev ≤ 3 →
      d.escalate s = ((d.escalated s).mapPins fun p => { p with alertReleased := false }).enterQuarantine) ∧
    ((d.source s).timer = true → ¬((d.source s).sev < (d.escalated s).alertSev ∧ (d.escalated s).alertSev ≤ 3) →
      d.escalate s = (d.escalated s).enterQuarantine) := by
  have hrun : (d.source s).timer = true → d.escalate s =
      (if (d.source s).sev < (d.escalated s).alertSev ∧ (d.escalated s).alertSev ≤ 3 then
        (d.escalated s).mapPins fun p => { p with alertReleased := false } else d.escalated s).enterQuarantine := fun ht =>
    if_neg (by rw [ht]; decide)
  refine ⟨fun ht => if_pos (by rw [ht]; rfl), fun ht h1 h2 => ?_, fun ht h => ?_⟩
  · exact (hrun ht).trans (congrArg Device.enterQuarantine (if_pos ⟨h1, h2⟩))
  · exact (hrun ht).trans (congrArg Device.enterQuarantine (if_neg h))

/-- An S2 event of the cycle keeps a source unacknowledged (R37, R646). -/
def Device.ackClash (d : Device) (s : Nat) : Prop :=
  d.pages.cyc.events.mem s = true ∧ (d.source s).pending = true ∧ (d.source s).sev = 2 ∧ (d.source s).ack = false

theorem Device.ackClash_iff (d : Device) (s : Nat) :
    (d.pages.cyc.events.mem s && (d.source s).pending && (d.source s).sev == 2 && !(d.source s).ack) = true ↔ d.ackClash s := by
  simp only [Device.ackClash, Bool.and_eq_true, beq_iff_eq, Bool.not_eq_true', and_assoc]

/-- An acknowledgement that is taken. -/
def Device.acked (d : Device) (s : Nat) : Device :=
  (d.setSource s { d.source s with ack := true, timer := false }).mapCyc fun c => { c with swWrote := c.swWrote.add (0x6400 + 4 * s) }

theorem Device.faultAck_cases (d : Device) (s : Nat) :
    (d.writeBarred (0x6400 + 4 * s) = true ∨ d.ackClash s → d.faultAck s = d.writeLost (0x6400 + 4 * s)) ∧
    (d.writeBarred (0x6400 + 4 * s) = false → ¬d.ackClash s → d.faultAck s = d.acked s) := by
  unfold Device.faultAck Device.onCommand
  refine ⟨fun h => ?_, fun hb hc => ?_⟩
  · by_cases hb : d.writeBarred (0x6400 + 4 * s) = true
    · exact if_pos hb
    · exact (if_neg hb).trans (if_pos ((d.ackClash_iff s).mpr (h.resolve_left hb)))
  · exact (if_neg (ne_true_of_eq_false hb)).trans (if_neg fun h => hc ((d.ackClash_iff s).mp h))

/-- No source still has an S3 status. -/
theorem Device.noSevere_iff (d : Device) :
    (!(d.sources.any fun e => e.2.pending && e.2.sev == 3)) = true ↔ ∀ e ∈ d.sources, ¬(e.2.pending = true ∧ e.2.sev = 3) := by
  simp only [Bool.not_eq_true', List.any_eq_false, Bool.and_eq_true, beq_iff_eq]

theorem Device.leaveQuarantine_cases (d : Device) :
    ((d.cust.mode = .quarantine ∧ ∀ e ∈ d.sources, ¬(e.2.pending = true ∧ e.2.sev = 3)) →
      d.leaveQuarantine = (d.changeMode d.cust.returnTo).raiseInt .flt 0 6) ∧
    (¬(d.cust.mode = .quarantine ∧ ∀ e ∈ d.sources, ¬(e.2.pending = true ∧ e.2.sev = 3)) → d.leaveQuarantine = d) := by
  have hiff : (d.cust.mode == .quarantine && !(d.sources.any fun e => e.2.pending && e.2.sev == 3)) = true ↔
      (d.cust.mode = .quarantine ∧ ∀ e ∈ d.sources, ¬(e.2.pending = true ∧ e.2.sev = 3)) := by
    rw [Bool.and_eq_true, beq_iff_eq, d.noSevere_iff]
  exact ⟨fun h => if_pos (hiff.mpr h), fun h => if_neg fun hc => h (hiff.mp hc)⟩

/-- A status that is cleared (R650). -/
def Device.cleared (d : Device) (s : Nat) : Device :=
  d.setSource s { d.source s with
    pending := false
    sev := 0
    escalated := false
    ack := false
    timer := false }

theorem Device.pendingClear_cases (d : Device) (s : Nat) (hb : d.writeBarred (0x6400 + 4 * s) = false) :
    (d.cause s = true → d.pendingClear s = d.raiseInt .flt 0 5) ∧
    (d.cause s = false → d.pendingClear s = (d.cleared s).leaveQuarantine) :=
  ⟨fun h => (d.onCommand_of_not_barred _ _ hb).trans (if_pos h),
    fun h => (d.onCommand_of_not_barred _ _ hb).trans (if_neg (ne_true_of_eq_false h))⟩

/-! ## FLT_CFG (R660, R661) -/

/-- A severity setting is taken. -/
def Device.mayConfigure (d : Device) (k w : Nat) : Prop :=
  d.writeBarred (cfgAddr k) = false ∧ d.pageLocked (cfgAddr k) = false ∧ (d.cust.mode = .custody ∨ d.cust.mode = .maintenance) ∧
    d.cust.selected = true ∧ bitsOf w 26 24 ≤ 4 ∧ bitsOf w 22 20 ≤ 4 ∧ bitsOf w 18 16 ≤ 4

theorem Device.cfgRefused_iff (d : Device) (w : Nat) :
    (!(d.cust.mode == .custody || d.cust.mode == .maintenance) || !d.cust.selected ||
      !decide (bitsOf w 26 24 ≤ 4 ∧ bitsOf w 22 20 ≤ 4 ∧ bitsOf w 18 16 ≤ 4)) = true ↔
    ¬((d.cust.mode = .custody ∨ d.cust.mode = .maintenance) ∧ d.cust.selected = true ∧
      bitsOf w 26 24 ≤ 4 ∧ bitsOf w 22 20 ≤ 4 ∧ bitsOf w 18 16 ≤ 4) := by
  rw [← Bool.not_and, ← Bool.not_and, Bool.not_eq_true', ← Bool.not_eq_true, Bool.and_eq_true, Bool.and_eq_true, decide_eq_true_eq,
    Bool.or_eq_true, beq_iff_eq, beq_iff_eq, and_assoc]

theorem Device.cfgWrite_cases (d : Device) (k w : Nat) :
    (¬d.mayConfigure k w → d.cfgWrite k w = d.writeLost (cfgAddr k)) ∧
    (d.mayConfigure k w → d.cfgWrite k w = (d.noteWrite (cfgAddr k)).setReg (cfgAddr k)
      (if (32 ≤ k ∧ k ≤ 53) ∨ 252 ≤ k then d.reg (cfgAddr k) / 65536 * 65536 + (bitsOf w 15 8 * 256 + bitsOf w 3 0)
       else bitsOf w 26 24 * 2 ^ 24 + bitsOf w 22 20 * 2 ^ 20 + bitsOf w 18 16 * 2 ^ 16 + (bitsOf w 15 8 * 256 + bitsOf w 3 0))) := by
  unfold Device.cfgWrite
  dsimp only
  refine ⟨fun h => ?_, fun h => ?_⟩
  · by_cases ht : d.writeBarred (cfgAddr k) = false ∧ d.pageLocked (cfgAddr k) = false
    · refine (d.onWrite_of_taken _ _ ht).trans (if_pos ((d.cfgRefused_iff w).mpr fun hc => h ⟨ht.1, ht.2, hc⟩))
    · exact d.onWrite_of_not_taken _ _ ht
  · obtain ⟨hb, hl, hrest⟩ := h
    refine (d.onWrite_of_taken _ _ ⟨hb, hl⟩).trans ((if_neg fun hc => (d.cfgRefused_iff w).mp hc hrest).trans ?_)
    simp only [decide_eq_true_eq]

/-! ## Conditions of the monitors -/

/-- A monitored source that newly enters condition is detected (R605). -/
theorem Device.tamperEvent_cases (d : Device) (k detail : Nat) :
    (¬(monitored k = true ∧ d.tamp.armed = true ∧ d.power.st ≠ .battery ∧ d.tamp.cond.mem (k - 32) = false) → d.tamperEvent k detail = d) ∧
    (monitored k = true ∧ d.tamp.armed = true ∧ d.power.st ≠ .battery ∧ d.tamp.cond.mem (k - 32) = false →
      d.tamperEvent k detail = d.detect false k detail) := by
  have hiff : (monitored k && d.tamp.armed && d.power.st != .battery && !d.tamp.cond.mem (k - 32)) = true ↔
      (monitored k = true ∧ d.tamp.armed = true ∧ d.power.st ≠ .battery ∧ d.tamp.cond.mem (k - 32) = false) := by
    simp only [Bool.and_eq_true, bne_iff_ne, Bool.not_eq_true', and_assoc]
  exact ⟨fun h => if_neg fun hc => h (hiff.mp hc), fun h => if_pos (hiff.mpr h)⟩

theorem Device.gave_detect_self (d : Device) (k detail : Nat) : (d.detect false k detail).gave (.event k) := by
  unfold Device.detect
  extract_lets d1 d2
  have hgave : ((((d2.raiseInt .tamp 0 0).holdCause k true).recordEvent k).1).gave (.event k) := gave_recordEvent_self _ k
  dsimp only [Bool.false_eq_true, if_false]
  refine gave_ite _ _ _ ?_ (gave_ite _ _ _ ?_ (gave_ite _ _ _ ?_ hgave))
  · exact gave_assertLine _ _ _ _ hgave fun e s h => gave_reportCoalesced _ _ _ h
  · exact gave_enterQuarantine _ hgave
  · exact gave_assertLine _ _ _ _ hgave fun e s h => gave_reportCoalesced _ _ _ h

theorem Device.conditionEnd_eq (d : Device) (i : Nat) :
    d.conditionEnd (32 + i) = { d with
      tamp := { d.tamp with cond := d.tamp.cond.erase i, line := (d.tamp.cond.erase i).any fun e => decide (e.1 ≤ 21) }
      pins := if i = 16 then { d.pins with zeroizeLow := false } else d.pins
      causes := d.causes.erase (32 + i) } := by
  unfold Device.conditionEnd Device.holdCause Device.mapTamp Device.mapPins
  dsimp only
  rw [Nat.add_sub_cancel_left]
  by_cases h : i = 16
  · rw [if_pos h, if_pos (by omega)]
    rfl
  · rw [if_neg h, if_neg (by omega)]
    rfl

end Sys2Proof.Machine
end
section
/-! SUPPORT. Zeroization, battery sampling and the burns of the tamper log (14_tamper.md R611 to R630), and the rows together. -/

namespace Sys2Proof.Machine

/-! ## The end of a zeroization and the sampling window -/

/-- A zeroization runs (R405). -/
def Device.zeroizes (d : Device) : Prop :=
  d.tamp.zStarted = true ∧ d.progRunning (Page.key.base 0) = true ∧ d.field (Page.key.base 0 + Off.progOp) 15 0 = 7

theorem Device.zeroizes_iff (d : Device) :
    (d.tamp.zStarted && d.progRunning (Page.key.base 0) && d.field (Page.key.base 0 + Off.progOp) 15 0 == 7) = true ↔ d.zeroizes := by
  simp only [Device.zeroizes, Bool.and_eq_true, beq_iff_eq, and_assoc]

/-- The volatile state is cleared, and operation 7 has ended. -/
def Device.volatileCleared (d : Device) : Device :=
  (((d.mapKeys fun k => { k with
    runs := []
    faults := []
    retired := []
    tagKey := zeros 32
    hbmKey := zeros 32
    indexKey := zeros 32
    op := none }).progPos (Page.key.base 0) 1048576).progEnd (Page.key.base 0) false).raiseInt .key 0 2

theorem Device.zeroizeEnd_cases (d : Device) :
    (d.volatileCleared.cust.mode = .zeroized ∨ d.volatileCleared.cust.selected = false → d.zeroizeEnd = d.volatileCleared) ∧
    (¬(d.volatileCleared.cust.mode = .zeroized ∨ d.volatileCleared.cust.selected = false) →
      d.zeroizeEnd = (d.volatileCleared.enterMode .zeroized).endCeremony 0x09 none) := by
  have hiff : (d.volatileCleared.cust.mode == .zeroized || !d.volatileCleared.cust.selected) = true ↔
      (d.volatileCleared.cust.mode = .zeroized ∨ d.volatileCleared.cust.selected = false) := by
    rw [Bool.or_eq_true, beq_iff_eq, Bool.not_eq_true']
  exact ⟨fun h => if_pos (hiff.mpr h), fun h => if_neg fun hc => h (hiff.mp hc)⟩

/-! ## Burns of the log -/

/-- The next record that waits starts to burn, or the run ends (R630). -/
def Device.burnNext (d : Device) : Device :=
  if d.startBurn.tamp.burning.isSome then d.startBurn else d.startBurn.progEnd (Page.tamp.base 0) false

theorem Device.guarded_burnNext (d : Device) : d.burnNext.guarded = d.guarded := by
  unfold Device.burnNext
  split
  · exact guarded_startBurn d
  · exact (guarded_progEnd _ _ _).trans (guarded_startBurn d)

theorem Device.gave_burnNext {sg : Sign} (d : Device) (h : d.gave sg) : d.burnNext.gave sg :=
  gave_ite _ _ _ (gave_startBurn d h) (gave_progEnd _ _ _ (gave_startBurn d h))

/-- The log with its next row burnt, torn or with the record, and the run one row further on. -/
def Device.rowStands (d : Device) (torn : Bool) (r : TampRec) : Device :=
  let b := Page.tamp.base 0
  let d1 := d.mapTamp fun x => { x with
    burning := none, rows := x.rows.insert x.nextRow (if torn then .torn else .burnt r), nextRow := x.nextRow + 1 }
  (d1.progPos b (d1.reg (b + Off.progPosLo) + 1)).raiseInt .tamp 0 (if torn then 3 else 1)

theorem Device.rows_rowStands (d : Device) (torn : Bool) (r : TampRec) :
    (d.rowStands torn r).guarded.rows = d.tamp.rows.insert d.tamp.nextRow (if torn then .torn else .burnt r) := by
  unfold Device.rowStands
  dsimp only
  rw [guarded_raiseInt, guarded_progPos]
  rfl

theorem Tamper.freeEntry_rows (t : Tamper) (r : TampRec) : (t.freeEntry r).rows = t.rows ∧ (t.freeEntry r).nextRow = t.nextRow := by
  unfold Tamper.freeEntry
  split
  · exact ⟨rfl, rfl⟩
  · split
    · exact ⟨rfl, rfl⟩
    · exact ⟨rfl, rfl⟩

theorem Device.rowBurnt_of_none (d : Device) (torn : Bool) (h : d.tamp.burning = none ∨ d.power.st = .battery) : d.rowBurnt torn = d := by
  unfold Device.rowBurnt
  cases hr : d.tamp.burning with
  | none => rfl
  | some r =>
    have hb : d.power.st = .battery := h.resolve_left (by rw [hr]; exact Option.some_ne_none r)
    exact if_pos (by rw [hb]; rfl)

/-- What follows a burnt row, before the next record starts: its event, or its entry freed. -/
def Device.rowCounted (d : Device) (torn : Bool) (r : TampRec) : Device :=
  if torn then (d.rowStands torn r).fault 58
  else if r.kind = 0x0F then ((((d.rowStands torn r).mapTamp fun x => x.freeEntry r).raiseInt .tamp 0 4).fault 59)
  else (d.rowStands torn r).mapTamp fun x => x.freeEntry r

theorem Device.rowBurnt_of_burning (d : Device) (torn : Bool) (r : TampRec) (hr : d.tamp.burning = some r) (hb : d.power.st ≠ .battery) :
    d.rowBurnt torn = (d.rowCounted torn r).burnNext := by
  unfold Device.rowBurnt
  simp only [hr]
  exact if_neg (by rwa [beq_iff_eq])

theorem Device.guarded_rowCounted (d : Device) (torn : Bool) (r : TampRec) : (d.rowCounted torn r).guarded = (d.rowStands torn r).guarded := by
  have hfree := guarded_mapTamp (d.rowStands torn r) (fun x => x.freeEntry r) ((d.rowStands torn r).tamp.freeEntry_rows r)
  unfold Device.rowCounted
  split
  · exact guarded_fault _ _
  · split
    · exact (guarded_fault _ _).trans ((guarded_raiseInt _ _ _ _).trans hfree)
    · exact hfree

theorem Device.rowBurnt_stands (d : Device) (torn : Bool) (r : TampRec) (hr : d.tamp.burning = some r) (hb : d.power.st ≠ .battery) :
    (d.rowBurnt torn).tamp.rows.find? d.tamp.nextRow = some (if torn then .torn else .burnt r) := by
  have hrows : (d.rowBurnt torn).guarded.rows = d.tamp.rows.insert d.tamp.nextRow (if torn then .torn else .burnt r) := by
    rw [d.rowBurnt_of_burning torn r hr hb, Device.guarded_burnNext, d.guarded_rowCounted, d.rows_rowStands]
  rw [show (d.rowBurnt torn).tamp.rows = _ from hrows, Table.find?_insert, if_pos rfl]

/-! ## The rows of both chapters -/

/-- Settles O49: each row by the condition under which its event counts, and by the definition that gives its effect. -/
theorem faultAndTamperRows : Obligations.FaultAndTamperRows := by
  unfold Obligations.FaultAndTamperRows
  refine ⟨⟨fun k held place s => ?_, fun k s => ?_, fun k s => ?_, fun k s => ?_, fun k s => ?_, fun s => ?_, fun k w s => ?_,
    fun which words counts hwm s => ?_⟩, fun k detail s => ?_, fun k s => ?_, fun s => ?_, fun s => ?_, fun found s => ?_, fun torn s => ?_⟩
  · refine does_of (s.dev.faultEvent k held place) rfl ?_
    generalize s.dev = d
    refine ⟨d.faultEvent_of_not_counts k held place, fun hc h1 h2 => ?_, fun hc h1 => ?_, fun hc h1 h2 => ?_⟩
    · exact (d.faultEvent_of_counts k held place hc).trans (if_pos ((monitored_iff _).mpr ⟨h1, h2⟩))
    · have hmon : ¬(monitored k = true) := fun h => absurd ((monitored_iff k).mp h).2 (by omega)
      exact (d.faultEvent_of_counts k held place hc).trans ((if_neg hmon).trans (if_pos h1))
    · have hgave := d.gave_faultEvent_self k held place hc h1 h2
      have hrun := d.faultEvent_of_plain k held place hc h1 h2
      exact ⟨hgave, Device.cause_of_gave _ _ hgave, fun ht => hrun.trans (if_pos ht), fun ht => hrun.trans (if_neg (ne_true_of_eq_false ht))⟩
  · refine does_of (s.dev.setSource k (s.dev.source k).closeWindow) rfl ⟨rfl, ?_, fun j hj => ?_⟩
    · exact (Device.source_setSource _ _ _ _).trans (if_pos rfl)
    · exact (Device.source_setSource _ _ _ _).trans (if_neg hj)
  · exact does_of (s.dev.escalate k) rfl (s.dev.escalate_cases k)
  · refine does_of (s.dev.faultAck k) rfl ?_
    generalize s.dev = d
    refine ⟨(d.faultAck_cases k).1, fun hb hc => ?_⟩
    rw [(d.faultAck_cases k).2 hb hc]
    exact ⟨(Device.source_setSource _ _ _ _).trans (if_pos rfl), fun j hj => (Device.source_setSource _ _ _ _).trans (if_neg hj), rfl, rfl⟩
  · refine does_of (s.dev.pendingClear k) rfl ?_
    generalize s.dev = d
    refine ⟨fun hb => if_pos hb, fun hb => (d.pendingClear_cases k hb).1, fun hb hc => ?_⟩
    rw [(d.pendingClear_cases k hb).2 hc]
    exact ⟨rfl, (d.cleared k).leaveQuarantine_cases⟩
  · refine does_of s.dev.rearm rfl ?_
    generalize s.dev = d
    exact ⟨d.onIdle_of_barred _ 1 0 _, d.onIdle_of_running _ 1 0 _, d.onIdle_of_idle _ 1 _⟩
  · refine does_of (s.dev.cfgWrite k w.toNat) rfl ?_
    generalize s.dev = d
    obtain ⟨hlost, htaken⟩ := d.cfgWrite_cases k w.toNat
    exact ⟨hlost, fun hm hf => (htaken hm).trans (congrArg _ (if_pos hf)), fun hm hf => (htaken hm).trans (congrArg _ (if_neg hf))⟩
  · refine does_of (s.dev.selfError which words counts hwm) rfl ?_
    generalize s.dev = d
    have hgave := gave_fault_self (d.selfRepair which words counts hwm) (252 + which)
    refine ⟨?_, fun h => if_neg h, fun h => if_pos h⟩
    exact gave_ite _ _ _ (gave_foldl _ _ _ hgave fun e x h => gave_escalate _ _ h) hgave
  · refine does_of (s.dev.tamperEvent (32 + k) detail.toNat) rfl ?_
    generalize s.dev = d
    obtain ⟨hnone, hdet⟩ := d.tamperEvent_cases (32 + k) detail.toNat
    rw [monitored_iff, Nat.add_sub_cancel_left] at hnone hdet
    refine ⟨fun h => hnone fun hc => h ⟨hc.1.2, hc.2⟩, fun h => ?_⟩
    rw [hdet ⟨⟨by omega, h.1⟩, h.2⟩]
    exact ⟨rfl, d.gave_detect_self _ _⟩
  · refine does_of (if s.dev.tamp.cond.mem k then s.dev.conditionEnd (32 + k) else s.dev) rfl ?_
    generalize s.dev = d
    exact ⟨fun h => if_neg (ne_true_of_eq_false h), fun h => (if_pos h).trans (d.conditionEnd_eq k)⟩
  · refine does_of (if s.dev.power.st == .battery then s.dev
      else (s.dev.mapPins fun p => { p with zeroizeLow := true }).tamperEvent 48 0) rfl ?_
    generalize s.dev = d
    exact ⟨fun h => if_pos (beq_iff_eq.mpr h), fun h => if_neg fun hc => h (beq_iff_eq.mp hc)⟩
  · refine does_of (if s.dev.tamp.zStarted && s.dev.progRunning (Page.key.base 0) && s.dev.field (Page.key.base 0 + Off.progOp) 15 0 == 7
      then s.dev.zeroizeEnd else s.dev) rfl ?_
    generalize s.dev = d
    obtain ⟨hstill, henter⟩ := d.zeroizeEnd_cases
    refine ⟨fun h => if_neg fun hc => h (d.zeroizes_iff.mp hc), fun h hz => ?_, fun h hz => ?_⟩
    · exact (if_pos (d.zeroizes_iff.mpr h)).trans (hstill hz)
    · exact (if_pos (d.zeroizes_iff.mpr h)).trans (henter hz)
  · refine does_of (if s.dev.power.st == .battery || s.dev.power.st == .stopping
      then (s.dev.mapPower fun p => { p with st := .battery }).samplingWindow found else s.dev) rfl ?_
    generalize s.dev = d
    have hiff : (d.power.st == .battery || d.power.st == .stopping) = true ↔ (d.power.st = .battery ∨ d.power.st = .stopping) := by
      rw [Bool.or_eq_true, beq_iff_eq, beq_iff_eq]
    exact ⟨fun h => if_neg fun hc => h (hiff.mp hc), fun h => if_pos (hiff.mpr h)⟩
  · refine does_of (s.dev.rowBurnt torn) rfl ?_
    generalize s.dev = d
    refine ⟨d.rowBurnt_of_none torn, fun r hr hb => ?_⟩
    have hrun := d.rowBurnt_of_burning torn r hr hb
    refine ⟨fun ht => ?_, fun ht hk => ?_, fun ht hk => ?_, d.rowBurnt_stands torn r hr hb⟩
    · subst ht
      exact ⟨hrun, hrun ▸ Device.gave_burnNext _ (gave_fault_self _ 58)⟩
    · subst ht
      exact hrun.trans (congrArg Device.burnNext (if_neg hk))
    · subst ht
      have hfull := hrun.trans (congrArg Device.burnNext (if_pos hk))
      exact ⟨hfull, hfull ▸ Device.gave_burnNext _ (gave_fault_self _ 59)⟩

end Sys2Proof.Machine
end

section
/-! SUPPORT. Completions, commits, local writes and reads of the record store (10_record_store.md R431 to R446, R466). -/

namespace Sys2Proof.Machine

/-! ## COMPLETION_POST -/

/-- A finished item whose completion its queue can take. -/
def Device.mayPost (d : Device) (x : Item) : Prop :=
  x.stage = .finished ∧ d.cqFull x.route.vf x.route.qp = false ∧
    ((d.qp x.route.vf x.route.qp).enabled = true ∨ (d.qp x.route.vf x.route.qp).draining = true)

theorem Device.postHeld_iff (d : Device) (x : Item) :
    (decide (x.stage ≠ .finished) || d.cqFull x.route.vf x.route.qp ||
      !((d.qp x.route.vf x.route.qp).enabled || (d.qp x.route.vf x.route.qp).draining)) = true ↔ ¬d.mayPost x := by
  simp only [Device.mayPost, Bool.or_eq_true, decide_eq_true_eq, Bool.not_eq_true', Bool.or_eq_false_iff, not_and_or, not_or,
    Bool.not_eq_false, Bool.not_eq_true, or_assoc, ne_eq]

theorem Device.postCompletion_of_held (d : Device) (n : Nat) (h : ∀ x c, d.item n = some x → x.comp = some c → ¬d.mayPost x) :
    d.postCompletion n = d := by
  unfold Device.postCompletion
  cases hx : d.item n with
  | none => rfl
  | some x =>
    cases hc : x.comp with
    | none => simp only [hc]
    | some c =>
      simp only [hc]
      exact if_pos ((d.postHeld_iff x).mpr (h x c hx hc))

/-- The completion stands at CQ_TAIL, its outputs before it, and the queue pair has moved on. -/
def Device.completionOut (d : Device) (x : Item) (c : Comp) : Device :=
  let p := d.qp x.route.vf x.route.qp
  let tail := (p.cqTail + 1) % d.cqDepth x.route.vf x.route.qp
  let d1 := if c.bufferOut.isEmpty then d else d.emit (.buffer x.route.vf x.desc.bufAddr c.bufferOut)
  (d1.emit (.completion x.route.vf x.route.qp p.cqTail (x.completion c p.sqHead x.route.qp p.phase))).setQp x.route.vf x.route.qp
    (({ p with cqTail := tail, phase := if tail = 0 then !p.phase else p.phase }).freeSlot x.route)

/-- The message of a completion and its counts. -/
def Device.completionCounted (d : Device) (x : Item) (c : Comp) : Device :=
  let d4 := if d.bit (qpCfg x.route.vf x.route.qp) 30 && !x.desc.noIrq then d.sendMsix (x.route.vf + 1) x.route.qp else d
  ((x.postEvents c).foldl (fun d e => d.countEvent (some x.route.vf) e 1) d4).countEvent (some x.route.vf) 0x14 c.bufferOut.length

theorem Device.postCompletion_of_may (d : Device) (n : Nat) (x : Item) (c : Comp) (hx : d.item n = some x) (hc : x.comp = some c)
    (h : d.mayPost x) :
    d.postCompletion n =
      ((((d.completionOut x c).completionCounted x c).recordUnit x (c.statusByte x.adm.deferred) (some c)).dropItem n).ingestAll := by
  unfold Device.postCompletion
  simp only [hx, hc]
  exact if_neg fun hh => (d.postHeld_iff x).mp hh h

theorem Device.gave_completionOut_self (d : Device) (x : Item) (c : Comp) :
    (d.completionOut x c).gave (.sent (.completion x.route.vf x.route.qp (d.qp x.route.vf x.route.qp).cqTail
      (x.completion c (d.qp x.route.vf x.route.qp).sqHead x.route.qp (d.qp x.route.vf x.route.qp).phase))) :=
  gave_setQp _ _ _ _ (gave_emit_self _ _)

theorem Device.gave_completionCounted {sg : Sign} (d : Device) (x : Item) (c : Comp) (h : d.gave sg) : (d.completionCounted x c).gave sg := by
  unfold Device.completionCounted
  refine gave_countEvent _ _ _ _ (gave_foldl _ _ _ ?_ fun e k he => gave_countEvent _ _ _ _ he)
  exact gave_ite _ _ _ (gave_sendMsix _ _ _ h) h

/-! ## Commits -/

/-- An item whose gate released records, not yet handed to the store. -/
theorem Device.commitItem_cases (d : Device) (n : Nat) :
    ((∀ x o, d.item n = some x → x.run.staged = some o → ¬(x.stage = .storing ∧ o.records ≠ [])) → d.commitItem n = d) ∧
    ∀ x o, d.item n = some x → x.run.staged = some o → x.stage = .storing → o.records ≠ [] →
      (∀ k, d.storeRefusal = some k → d.commitItem n = d.finishItem n .mode k) ∧
      (d.storeRefusal = none → d.commitItem n = (d.setItem n { x with run := { x.run with staged := some { o with records := [] } } }).releaseRecords
        (some n) (o.records.map fun r => d.recordOf (d.vf x.route.vf).tenant (d.vf x.route.vf).pgen r)) := by
  unfold Device.commitItem
  refine ⟨fun h => ?_, fun x o hx ho hs hr => ⟨fun k hk => ?_, fun hk => ?_⟩⟩
  · cases hx : d.item n with
    | none => rfl
    | some x =>
      dsimp only
      split
      · rename_i st hs ho
        have hnone : st.records = [] := by
          by_contra hr
          exact h x st hx ho ⟨hs, hr⟩
        rw [hnone]
        rfl
      · rfl
  · simp only [hx, ho, hs, hk, List.isEmpty_iff, hr, if_false]
  · simp only [hx, ho, hs, hk, List.isEmpty_iff, hr, if_false]

theorem Device.committable_iff (d : Device) (c : Commit) :
    d.committable c = true ↔ (c.localDone = true ∨ d.store.noWrite = true) ∧ d.acksNeeded c.rcd ≤ c.acks.length := by
  unfold Device.committable
  rw [Bool.and_eq_true, Bool.or_eq_true, decide_eq_true_eq]

theorem Device.recordCommitted_cases (d : Device) (seq : Nat) :
    ((∀ c, d.commitOf seq = some c → ¬(d.committable c = true)) → d.recordCommitted seq = d) ∧
    ∀ c, d.commitOf seq = some c → d.committable c = true → d.recordCommitted seq = (d.dropCommit seq).markCommitted c := by
  unfold Device.recordCommitted
  refine ⟨fun h => ?_, fun c hc hp => ?_⟩
  · cases hc : d.commitOf seq with
    | none => rfl
    | some c => exact if_neg (h c hc)
  · simp only [hc, hp, if_true]

/-- Fewer members of a record's placement are reachable than acknowledgements are needed. -/
def Device.fewReachable (d : Device) (c : Commit) : Prop :=
  ((d.placement c.rcd.ident).filter fun m => m != d.dom.view.moduleId && !d.dom.unreach.mem m).length < d.acksNeeded c.rcd

theorem Device.commitLate_of_none (d : Device) (seq : Nat)
    (h : ∀ c, d.commitOf seq = some c → c.late = true ∨ d.acksNeeded c.rcd ≤ c.acks.length) : d.commitLate seq = d := by
  unfold Device.commitLate
  cases hc : d.commitOf seq with
  | none => rfl
  | some c =>
    refine if_pos ?_
    rw [Bool.or_eq_true, decide_eq_true_eq]
    exact h c hc

theorem Device.commitLate_of_open (d : Device) (seq : Nat) (c : Commit) (hc : d.commitOf seq = some c) (hl : c.late = false)
    (ha : c.acks.length < d.acksNeeded c.rcd) :
    (d.fewReachable c → d.commitLate seq = ((d.setCommit { c with late := true }).fault 188).fault 197) ∧
    (¬d.fewReachable c → d.commitLate seq = (d.setCommit { c with late := true }).fault 188) := by
  have hopen : ¬((c.late || decide (d.acksNeeded c.rcd ≤ c.acks.length)) = true) := by
    rw [Bool.or_eq_true, decide_eq_true_eq, hl, not_or]
    exact ⟨Bool.false_ne_true, Nat.not_le.mpr ha⟩
  unfold Device.commitLate
  simp only [hc]
  exact ⟨fun h => (if_neg hopen).trans (if_pos h), fun h => (if_neg hopen).trans (if_neg h)⟩

/-! ## Local writes -/

/-- A local write can be made up (R431). -/
def Store.mayWrite (x : Store) : Prop := x.noWrite = false ∧ x.pending = [] ∧ x.gathering ≠ [] ∧ x.openSeg ≠ none

theorem Store.writeHeld_iff (x : Store) :
    (x.noWrite || !x.pending.isEmpty || x.gathering.isEmpty || x.openSeg.isNone) = true ↔ ¬x.mayWrite := by
  simp only [Store.mayWrite, Bool.or_eq_true, Bool.not_eq_true', List.isEmpty_iff, List.isEmpty_eq_false_iff, Option.isNone_iff_eq_none,
    not_and_or, Bool.not_eq_false, not_not, ne_eq, or_assoc]

theorem Device.writeEnd_cases (d : Device) :
    (d.store.pending = [] ∨ d.power.st = .stopping → d.writeEnd = d) ∧
    (d.store.pending ≠ [] → d.power.st ≠ .stopping →
      d.writeEnd = ((d.store.pending.foldl (fun d r => d.recordLanded r) d.landWrite).autoCompaction.checkFull).noteState d.storeState) := by
  have hiff : (d.store.pending.isEmpty || d.power.st == .stopping) = true ↔ (d.store.pending = [] ∨ d.power.st = .stopping) := by
    rw [Bool.or_eq_true, List.isEmpty_iff, beq_iff_eq]
  exact ⟨fun h => if_pos (hiff.mpr h), fun hp hs => if_neg fun h => (hiff.mp h).elim hp hs⟩

/-! ## FUA write failures -/

/-- A port that the pending write goes to fails. -/
def Device.fuaHit (d : Device) (p : Nat) : Prop :=
  d.store.ports.getD p .absent = .current ∧ d.store.pending ≠ [] ∧ p / 2 = locPair d.keys.bank.tail

theorem Device.fuaHit_iff (d : Device) (p : Nat) :
    (d.store.ports.getD p .absent = .current ∧ (!d.store.pending.isEmpty) = true ∧ p / 2 = locPair d.keys.bank.tail) ↔ d.fuaHit p := by
  rw [Device.fuaHit, Bool.not_eq_true', List.isEmpty_eq_false_iff]

/-- A port stands FAILED, counted on source 180. -/
def Device.portFailed (d : Device) (p : Nat) : Device := (d.storeStep fun s => { s with ports := s.ports.set p .failed }).fault 180

theorem Device.gave_failPort {sg : Sign} (d : Device) (p : Nat) (h : (d.portFailed p).gave sg) : (d.failPort p).gave sg := by
  unfold Device.failPort
  extract_lets d1 partner
  split
  · exact gave_writeSuper _ _ (gave_mapStore _ _ h)
  · exact gave_ite _ _ _ (gave_becomeReadOnly _ h) h

theorem Device.failPort_cases (d : Device) (p : Nat) :
    let partner := if p % 2 = 0 then p + 1 else p - 1
    (d.store.ports.getD partner .absent = .current →
      d.failPort p = ((d.portFailed p).mapStore fun s => { s with expelled := s.expelled.add p }).writeSuper partner) ∧
    (d.store.ports.getD partner .absent ≠ .current → d.store.formatted = true → d.store.readOnly = false →
      d.failPort p = (d.portFailed p).becomeReadOnly) := by
  refine ⟨fun h => if_pos h, fun h hf hr => (if_neg h).trans (if_pos ?_)⟩
  rw [hf, hr]
  rfl

/-! ## Reads (R436, R437) -/

/-- A record that a pair holds on two CURRENT SSDs. -/
theorem Device.onBoth_iff (d : Device) (i : Ident) :
    (d.store.written.any fun w => w.1.ident == i && (d.store.currentPorts (locPair w.2)).length == 2) = true ↔
      ∃ w ∈ d.store.written, w.1.ident = i ∧ (d.store.currentPorts (locPair w.2)).length = 2 := by
  simp only [List.any_eq_true, Bool.and_eq_true, beq_iff_eq]

/-- An item whose lookup waits for the local store. -/
def Device.asksLocal (d : Device) (n : Nat) (x : Item) : Prop := x.asksStore = true ∧ d.readOf (probeKey n) = none

theorem Device.probeReadEnd_of_none (d : Device) (n : Nat) (f : ReadEnd) (h : ∀ x, d.item n = some x → ¬d.asksLocal n x) :
    d.probeReadEnd n f = d := by
  unfold Device.probeReadEnd
  cases hx : d.item n with
  | none => rfl
  | some x =>
    refine if_pos ?_
    have hn := h x hx
    rw [Device.asksLocal, not_and_or, ← ne_eq (d.readOf _), ← Option.isSome_iff_ne_none] at hn
    rwa [Bool.or_eq_true, Bool.not_eq_true', ← Bool.not_eq_true]

/-- The lookup of an item by what its read found. -/
theorem Device.probeReadEnd_cases (d : Device) (n : Nat) (f : ReadEnd) (x : Item) (hx : d.item n = some x) (ha : d.asksLocal n x) (i : Ident)
    (hi : i = keyIdent (d.tenantOf x) (bitsOf x.current.keyA 63 24) (bitsOf x.current.keyA 23 8) 0) :
    let k := probeKey n
    let both := ∃ w ∈ d.store.written, w.1.ident = i ∧ (d.store.currentPorts (locPair w.2)).length = 2
    (f = .good → d.probeReadEnd n f = d) ∧
    (f = .transient → x.ops.retries < d.retryDoublings →
      d.probeReadEnd n f = (((d.fault 176).setItem n { x with ops := { x.ops with retries := x.ops.retries + 1 } }).dropDelay retryList
        (readKey k)).addDelay retryList (readKey k) ((d.sched.tick + d.retryDelay x.ops.retries) % 2 ^ 32)) ∧
    (f = .transient → d.retryDoublings ≤ x.ops.retries → both → d.probeReadEnd n f = (d.fault 177).raiseInt .jnl 0 3) ∧
    (f = .transient → d.retryDoublings ≤ x.ops.retries → ¬both → d.probeReadEnd n f = (d.fault 179).peerRead k i true) ∧
    (f = .mediaPartner → d.probeReadEnd n f = (d.fault 177).raiseInt .jnl 0 3) ∧
    (f = .badPartner → d.probeReadEnd n f = (d.fault 178).raiseInt .jnl 0 3) ∧
    (f = .noLocal → d.probeReadEnd n f = ((d.fault 179).indexDrop i).peerRead k i true) ∧
    (f = .noEntry → d.probeReadEnd n f = d.peerRead k i false) := by
  subst hi
  obtain ⟨hs, hr⟩ := ha
  unfold Device.probeReadEnd
  simp only [hx, hs, hr, Option.isSome_none, Bool.not_true, Bool.or_self, Bool.false_eq_true, if_false, d.onBoth_iff]
  refine ⟨fun h => ?_, fun h hlt => ?_, fun h hge hb => ?_, fun h hge hb => ?_, fun h => ?_, fun h => ?_, fun h => ?_, fun h => ?_⟩
  · rw [h]
  · rw [h]
    exact if_pos hlt
  · rw [h]
    exact (if_neg (Nat.not_lt.mpr hge)).trans (if_pos hb)
  · rw [h]
    exact (if_neg (Nat.not_lt.mpr hge)).trans (if_neg hb)
  all_goals rw [h]

/-- A read for a run of the key cache by what it found. -/
theorem Device.runReadEnd_of_none (d : Device) (k : Nat) (f : ReadEnd) (hk : k < 2 ^ 50)
    (h : ∀ r, d.keys.runs.find? k = some r → ¬(r.st ≠ .valid ∧ d.readOf k = none)) : d.recordReadEnd k f = d := by
  refine (if_neg (Nat.not_le.mpr hk)).trans ?_
  cases hr : d.keys.runs.find? k with
  | none => rfl
  | some r =>
    refine if_pos ?_
    have hn := h r hr
    rw [not_and_or, not_not, ← ne_eq (d.readOf _), ← Option.isSome_iff_ne_none] at hn
    rwa [Bool.or_eq_true, decide_eq_true_eq]

theorem Device.runReadEnd_cases (d : Device) (k : Nat) (f : ReadEnd) (hk : k < 2 ^ 50) (r : KeyRun) (hr : d.keys.runs.find? k = some r)
    (hw : r.st ≠ .valid ∧ d.readOf k = none) :
    let both := ∃ w ∈ d.store.written, w.1.ident = r.ident ∧ (d.store.currentPorts (locPair w.2)).length = 2
    (f = .good → d.recordReadEnd k f = d) ∧
    (f = .transient → r.retries < d.retryDoublings →
      d.recordReadEnd k f = (((d.fault 176).setRun k { r with retries := r.retries + 1 }).dropDelay retryList (readKey k)).addDelay retryList
        (readKey k) ((d.sched.tick + d.retryDelay r.retries) % 2 ^ 32)) ∧
    (f = .transient → d.retryDoublings ≤ r.retries → both → d.recordReadEnd k f = (d.fault 177).raiseInt .jnl 0 3) ∧
    (f = .transient → d.retryDoublings ≤ r.retries → ¬both → d.recordReadEnd k f = (d.fault 179).peerRead k r.ident true) ∧
    (f = .mediaPartner → d.recordReadEnd k f = (d.fault 177).raiseInt .jnl 0 3) ∧
    (f = .badPartner → d.recordReadEnd k f = (d.fault 178).raiseInt .jnl 0 3) ∧
    (f = .noLocal → d.recordReadEnd k f = ((d.fault 179).indexDrop r.ident).peerRead k r.ident true) ∧
    (f = .noEntry → d.recordReadEnd k f = d.peerRead k r.ident false) := by
  obtain ⟨hv, hn⟩ := hw
  unfold Device.recordReadEnd
  simp only [hr, hv, hn, Nat.not_le.mpr hk, Option.isSome_none, decide_false, Bool.or_self, Bool.false_eq_true, if_false, d.onBoth_iff]
  refine ⟨fun h => ?_, fun h hlt => ?_, fun h hge hb => ?_, fun h hge hb => ?_, fun h => ?_, fun h => ?_, fun h => ?_, fun h => ?_⟩
  · rw [h]
  · rw [h]
    exact if_pos hlt
  · rw [h]
    exact (if_neg (Nat.not_lt.mpr hge)).trans (if_pos hb)
  · rw [h]
    exact (if_neg (Nat.not_lt.mpr hge)).trans (if_neg hb)
  all_goals rw [h]

/-- Settles O50: each command by whether it may act, and by the step that it then takes. -/
theorem storeWrites : Obligations.StoreWrites := by
  unfold Obligations.StoreWrites
  refine ⟨fun n s => ?_, fun n s => ?_, fun seq s => ?_, fun seq s => ?_, fun s => ?_, fun s => ?_, fun p s => ?_, fun slot f s => ?_⟩
  · refine does_of (s.dev.postCompletion n) rfl ?_
    generalize s.dev = d
    refine ⟨d.postCompletion_of_held n, fun x c hx hc hm => ?_⟩
    rw [d.postCompletion_of_may n x c hx hc hm]
    exact ⟨rfl, gave_ingestAll _ (gave_dropItem _ _ (gave_recordUnit _ _ _ _ (Device.gave_completionCounted _ x c (d.gave_completionOut_self x c))))⟩
  · refine does_of (s.dev.commitItem n) rfl ?_
    generalize s.dev = d
    obtain ⟨hnone, hcommit⟩ := d.commitItem_cases n
    refine ⟨hnone, fun x o hx ho hs hr => ⟨fun k hk => ?_, (hcommit x o hx ho hs hr).2⟩⟩
    rw [(hcommit x o hx ho hs hr).1 k hk]
    exact d.ended_finishItem n x .mode k hx
  · refine does_of (s.dev.recordCommitted seq) rfl ?_
    generalize s.dev = d
    obtain ⟨hnone, hdone⟩ := d.recordCommitted_cases seq
    simp only [d.committable_iff] at hnone hdone
    exact ⟨hnone, hdone⟩
  · refine does_of (s.dev.commitLate seq) rfl ?_
    generalize s.dev = d
    refine ⟨d.commitLate_of_none seq, fun c hc hl ha => ?_⟩
    obtain ⟨hfew, hmany⟩ := d.commitLate_of_open seq c hc hl ha
    have h188 : (((d.setCommit { c with late := true }).fault 188)).gave (.event 188) := gave_fault_self _ _
    by_cases hf : d.fewReachable c
    · have hrun := hfew hf
      exact ⟨hrun ▸ gave_fault _ _ h188, fun h => ⟨hrun, hrun ▸ gave_fault_self _ _⟩, fun h => absurd hf h⟩
    · have hrun := hmany hf
      exact ⟨hrun ▸ h188, fun h => absurd h hf, fun _ => hrun⟩
  · refine does_of s.dev.localWrite rfl ?_
    generalize s.dev = d
    exact ⟨fun h => if_pos (d.store.writeHeld_iff.mpr h), fun h => if_neg fun hc => d.store.writeHeld_iff.mp hc h⟩
  · exact does_of s.dev.writeEnd rfl s.dev.writeEnd_cases
  · refine does_of (s.dev.fuaFailure p) rfl ?_
    generalize s.dev = d
    have hrun : d.fuaHit p → d.fuaFailure p = (d.fault 189).failPort p := fun h => if_pos ((d.fuaHit_iff p).mpr h)
    refine ⟨fun h => if_neg fun hc => h ((d.fuaHit_iff p).mp hc), fun h => ?_, fun h => ?_, fun h => ?_⟩
    · rw [hrun h]
      exact ⟨Device.gave_failPort _ p (gave_fault _ _ (gave_storeStep _ _ (gave_fault_self _ _))), Device.gave_failPort _ p (gave_fault_self _ _)⟩
    · rw [hrun h]
      exact ((d.fault 189).failPort_cases p).1
    · rw [hrun h]
      exact ((d.fault 189).failPort_cases p).2
  · refine does_of (s.dev.recordReadEnd slot f) rfl ?_
    generalize s.dev = d
    refine ⟨fun hk h => ?_, fun hk x hx ha i hi => ?_, fun hk h => d.runReadEnd_of_none slot f hk h, fun hk r hr hw => ?_⟩
    · have hslot : probeKey (slot - 2 ^ 50) = slot := Nat.add_sub_cancel' hk
      refine (if_pos hk).trans (d.probeReadEnd_of_none _ f ?_)
      unfold Device.asksLocal
      rwa [hslot]
    · have hslot : probeKey (slot - 2 ^ 50) = slot := Nat.add_sub_cancel' hk
      have hcases := d.probeReadEnd_cases (slot - 2 ^ 50) f x hx (by unfold Device.asksLocal; rwa [hslot]) i hi
      rw [hslot] at hcases
      have hrun : d.recordReadEnd slot f = d.probeReadEnd (slot - 2 ^ 50) f := if_pos hk
      rw [hrun]
      exact hcases
    · obtain ⟨hgood, hretry, hboth, hone, hmedia, hbad, hlocal, hentry⟩ := d.runReadEnd_cases slot f hk r hr hw
      refine ⟨hgood, hretry, hboth, hone, fun h => ⟨hmedia h, ?_⟩, fun h => ⟨hbad h, ?_⟩, hlocal, hentry⟩
      · rw [hmedia h]
        exact gave_raiseInt _ _ _ _ (gave_fault_self _ _)
      · rw [hbad h]
        exact gave_raiseInt _ _ _ _ (gave_fault_self _ _)

end Sys2Proof.Machine
end

section
/-! SUPPORT. Checkpoints, sweeps, ADOPT, FORMAT and the soft reset of the store (10_record_store.md R435, R448 to R465). -/

namespace Sys2Proof.Machine

theorem Store.usable_iff (x : Store) : x.usable = true ↔ x.formatted = true ∧ x.quarantined = false := by
  unfold Store.usable
  rw [Bool.and_eq_true, Bool.not_eq_true']

/-- SCRUB and COMPACT on a page where no command of JNL_CMD runs. -/
theorem Device.sweepCommand_of_idle (d : Device) (o : JnlOp) (start : Device → Device)
    (h : d.writeBarred jnlCmd = false ∧ d.bit jnlCmd o.bit = false ∧ d.reg jnlCmd &&& 0xF = 0) :
    let may := d.jnlOn = true ∧ d.store.formatted = true ∧ d.store.quarantined = false
    (¬may → d.sweepCommand o start = d.writeLost jnlCmd) ∧
    (may → d.store.op = some o → d.sweepCommand o start = (d.mapStore fun s => { s with opCmd := true }).commandStart jnlCmd o.bit) ∧
    (may → d.store.op ≠ some o → d.sweepCommand o start = start (d.jnlEnd true 0)) := by
  intro may
  obtain ⟨hb, hr, hz⟩ := h
  have hiff : (!d.jnlOn || !d.store.usable) = true ↔ ¬may := by
    rw [← Bool.not_and, Bool.not_eq_true', ← Bool.not_eq_true, Bool.and_eq_true, d.store.usable_iff]
  have hrun := (d.onIdle_cases jnlCmd o.bit 0xF fun d =>
    if !d.jnlOn || !d.store.usable then d.writeLost jnlCmd
    else if d.store.op = some o then (d.mapStore fun s => { s with opCmd := true }).commandStart jnlCmd o.bit
    else start (d.jnlEnd true 0)).2.2.2 hb hr hz
  refine ⟨fun hm => hrun.trans (if_pos (hiff.mpr hm)), fun hm ho => ?_, fun hm ho => ?_⟩
  · exact hrun.trans ((if_neg fun hc => hiff.mp hc hm).trans (if_pos ho))
  · exact hrun.trans ((if_neg fun hc => hiff.mp hc hm).trans (if_neg ho))

/-- A command of JNL_CMD that does not come to its own effect. -/
def JnlWaits (c : Instr) (bit : Nat) : Prop := ∀ s, Does c s fun t =>
  (s.dev.writeBarred jnlCmd = true → t = s.dev.writeLost jnlCmd) ∧
  (s.dev.writeBarred jnlCmd = false → s.dev.bit jnlCmd bit = true → t = s.dev) ∧
  (s.dev.writeBarred jnlCmd = false → s.dev.bit jnlCmd bit = false → s.dev.reg jnlCmd &&& 0xF ≠ 0 → t = s.dev.writeLost jnlCmd)

theorem jnlWaits_of_jnlCommand {c : Instr} (o : JnlOp) (g f : Device → Device) (hc : ∀ s, exec c s = s.done (g s.dev))
    (hg : g = fun d => d.jnlCommand o f) : JnlWaits c o.bit := by
  intro s
  obtain ⟨hbarred, hruns, hbusy, _⟩ := s.dev.onIdle_cases jnlCmd o.bit 0xF f
  refine does_of _ (hc s) ?_
  rw [hg]
  exact ⟨hbarred, hruns, hbusy⟩

/-- A command that sweeps waits as the others do. -/
theorem sweep_waits {c : Instr} (o : JnlOp) (start : Device → Device) (hc : ∀ s, exec c s = s.done (s.dev.sweepCommand o start)) :
    JnlWaits c o.bit := jnlWaits_of_jnlCommand o (fun d => d.sweepCommand o start) _ hc rfl

/-! ## Checkpoints and the ends of sweeps -/

theorem Device.checkpointMay_iff (d : Device) :
    (d.store.usable && !d.store.readOnly) = true ↔ d.store.formatted = true ∧ d.store.quarantined = false ∧ d.store.readOnly = false := by
  rw [Bool.and_eq_true, d.store.usable_iff, Bool.not_eq_true', and_assoc]

/-- The run ends where its target is reached or no candidate is left (R448). -/
def Device.compactionDone (d : Device) : Device :=
  if d.candidate.isNone || !d.freeBelow (d.compactLow + 2) then d.jnlEnd false 0 else d

theorem Device.compactionDone_cases (d : Device) :
    (d.candidate = none ∨ d.freeBelow (d.compactLow + 2) = false → d.compactionDone = d.jnlEnd false 0) ∧
    (d.candidate ≠ none → d.freeBelow (d.compactLow + 2) = true → d.compactionDone = d) := by
  have hiff : (d.candidate.isNone || !d.freeBelow (d.compactLow + 2)) = true ↔ (d.candidate = none ∨ d.freeBelow (d.compactLow + 2) = false) := by
    rw [Bool.or_eq_true, Option.isNone_iff_eq_none, Bool.not_eq_true']
  exact ⟨fun h => if_pos (hiff.mpr h), fun hc hf => if_neg fun h => (hiff.mp h).elim hc fun hn => Bool.false_ne_true (hn.symm.trans hf)⟩

theorem Device.compactionEnd_of_running (d : Device) (h : d.store.op = some .compact) :
    (∀ k, d.candidate = some k → d.liveIn k = [] → d.compactionEnd = (d.eraseSegment k).compactionDone) ∧
    ((∀ k, d.candidate = some k → d.liveIn k ≠ []) → d.compactionEnd = d.compactionDone) := by
  unfold Device.compactionEnd
  simp only [h, ne_eq, not_true_eq_false, if_false]
  refine ⟨fun k hk hl => ?_, fun hl => ?_⟩
  · simp only [hk, hl, List.isEmpty_nil, if_true]
    rfl
  · cases hk : d.candidate with
    | none =>
      simp only [Device.compactionDone, hk]
    | some k =>
      simp only [List.isEmpty_iff, hl k hk, if_false, Device.compactionDone, hk]

/-! ## ADOPT, FORMAT and the soft reset -/

theorem Device.formatMode_iff (d : Device) : d.formatMode = true ↔ d.cust.mode = .custody ∨ d.cust.mode = .maintenance := by
  unfold Device.formatMode
  rw [Bool.or_eq_true, beq_iff_eq, beq_iff_eq]

/-- ADOPT has started for the port that JNL_ARG names. -/
def Device.adoptBegun (d : Device) : Device :=
  let p := d.field (jnlAt Off.jnlArg) 1 0
  ((d.jnlEnd true 0).jnlStart (.adopt p) true).setField (jnlAt Off.jnlResult) 1 0 p

theorem Device.adopt_of_idle (d : Device) (h : d.writeBarred jnlCmd = false ∧ d.bit jnlCmd 2 = false ∧ d.reg jnlCmd &&& 0xF = 0) :
    d.adopt =
      let p := d.field (jnlAt Off.jnlArg) 1 0
      let partner := if p % 2 = 0 then p + 1 else p - 1
      if !d.formatMode then d.writeLost jnlCmd
      else if d.store.ports.getD p .absent = .absent then d.adoptBegun.jnlEnd true 2
      else if d.store.ports.getD partner .absent ≠ .current then d.adoptBegun.jnlEnd true 6
      else (d.adoptBegun.storeStep fun s => { s with ports := s.ports.set p .rebuilding }).progStart (Page.jnl.base 0) 0x0003
        d.store.written.length := by
  unfold Device.adopt Device.jnlCommand
  exact (d.onIdle_cases jnlCmd 2 0xF _).2.2.2 h.1 h.2.1 h.2.2

theorem adopt_waits : JnlWaits .adopt (JnlOp.adopt 0).bit :=
  jnlWaits_of_jnlCommand (.adopt 0) Device.adopt _ (fun _ => rfl) rfl

theorem Device.adoptEnd_of_none (d : Device) (code : Nat) (h : ∀ p, d.store.op ≠ some (.adopt p)) : d.adoptEnd code = d := by
  unfold Device.adoptEnd
  split
  · rename_i p hp
    exact absurd hp (h p)
  · rfl

theorem Device.adoptEnd_of_adopt (d : Device) (code p : Nat) (hp : d.store.op = some (.adopt p)) :
    (code = 0 → d.adoptEnd code =
      ((((d.storeStep fun s => { s with ports := s.ports.set p .current, expelled := s.expelled.erase p }).writeSuper p).writeSuper
        (if p % 2 = 0 then p + 1 else p - 1)).progPos (Page.jnl.base 0) d.store.written.length).jnlEnd false 0) ∧
    (code ≠ 0 → d.adoptEnd code =
      ((d.storeStep fun s => { s with ports := s.ports.set p (if code = 3 ∨ code = 4 then .unsuitable else .foreign) }).progPos (Page.jnl.base 0)
        (d.reg (Page.jnl.base 0 + Off.progPosLo))).jnlEnd true code) := by
  unfold Device.adoptEnd
  simp only [hp]
  refine ⟨fun hc => ?_, fun hc => ?_⟩
  · subst hc
    rfl
  · simp only [hc, if_false, Device.adoptSuper, bne_iff_ne.mpr hc]

theorem Device.format_of_idle (d : Device) (h : d.writeBarred jnlCmd = false ∧ d.bit jnlCmd 3 = false ∧ d.reg jnlCmd &&& 0xF = 0) :
    d.format = if !d.formatMode || d.store.ports.contains .current then d.writeLost jnlCmd else (d.jnlEnd true 0).jnlStart .format true := by
  unfold Device.format Device.jnlCommand
  exact (d.onIdle_cases jnlCmd 3 0xF _).2.2.2 h.1 h.2.1 h.2.2

theorem format_waits : JnlWaits .format JnlOp.format.bit :=
  jnlWaits_of_jnlCommand .format Device.format _ (fun _ => rfl) rfl

theorem Device.formatRefused_iff (d : Device) :
    (!d.formatMode || d.store.ports.contains .current) = true ↔
      ¬((d.cust.mode = .custody ∨ d.cust.mode = .maintenance) ∧ .current ∉ d.store.ports) := by
  rw [Bool.or_eq_true, Bool.not_eq_true', ← Bool.not_eq_true, d.formatMode_iff, List.contains_iff_mem, not_and_or, not_not]

theorem Store.portsOk_iff (x : Store) :
    x.portsOk = true ↔ (x.ports.getD 0 .absent).suitable = true ∧ (x.ports.getD 1 .absent).suitable = true ∧
      (x.ports.getD 2 .absent).suitable = (x.ports.getD 3 .absent).suitable := by
  unfold Store.portsOk
  rw [Bool.and_eq_true, Bool.and_eq_true, beq_iff_eq, and_assoc]

theorem Device.formatEnd_cases (d : Device) (code : Nat) :
    (d.store.op ≠ some .format → d.formatEnd code = d) ∧
    (d.store.op = some .format → ¬(d.store.portsOk = true) → d.formatEnd code = d.jnlEnd true 5) ∧
    (d.store.op = some .format → d.store.portsOk = true → code = 0 → d.formatEnd code = d.formatStore.jnlEnd false 0) ∧
    (d.store.op = some .format → d.store.portsOk = true → code ≠ 0 → d.formatEnd code = d.jnlEnd true code) := by
  unfold Device.formatEnd
  refine ⟨fun h => if_pos h, fun h hp => ?_, fun h hp hc => ?_, fun h hp hc => ?_⟩
  · simp only [h, hp, ne_eq, not_true_eq_false, if_false, Bool.not_false, if_true]
  · simp only [h, hp, hc, ne_eq, not_true_eq_false, if_false, Bool.not_true, Bool.false_eq_true, if_true]
  · simp only [h, hp, hc, ne_eq, not_true_eq_false, if_false, Bool.not_true, Bool.false_eq_true]

/-- A soft reset by whether its page is being reset already. -/
theorem Device.softStart_eqs (d : Device) (base : Nat) (f : Device → Device) :
    (d.writeBarred (base + 8) = true → d.softStart base f = d.writeLost (base + 8)) ∧
    (d.writeBarred (base + 8) = false → d.bit (base + 8) 2 = true → d.softStart base f = d.writeLost base) ∧
    (d.writeBarred (base + 8) = false → d.bit (base + 8) 2 = false → d.softStart base f =
      f (((d.commandStart (base + 8) 1).mapPages fun p => { p with resetting := p.resetting.add base }).progEnd base true)) :=
  ⟨fun h => if_pos h, fun hb h => (d.onCommand_of_not_barred _ _ hb).trans (if_pos h),
    fun hb h => (d.onCommand_of_not_barred _ _ hb).trans (if_neg (ne_true_of_eq_false h))⟩

/-- Settles O51: each command by what it finds running and by the state of the store. -/
theorem storeSweeps : Obligations.StoreSweeps := by
  unfold Obligations.StoreSweeps
  intro b idle waits sweeps custody
  refine ⟨fun s => ?_, ⟨sweep_waits .scrub (fun d => d.startScrub true) fun _ => rfl, fun s => ?_⟩, fun s => ?_, fun s => ?_, ⟨sweep_waits .compact (fun d => d.startCompaction true) fun _ => rfl,
    fun s => ?_⟩,
    fun s => ?_, adopt_waits, fun s => ?_, fun code s => ?_, format_waits, fun s => ?_,
    fun code s => ?_, fun s => ?_⟩
  · refine does_of s.dev.indexCheckpoint rfl ?_
    generalize s.dev = d
    exact ⟨fun h => if_pos (d.checkpointMay_iff.mpr h), fun h => if_neg fun hc => h (d.checkpointMay_iff.mp hc)⟩
  · refine does_of (s.dev.sweepCommand .scrub fun d => d.startScrub true) rfl ?_
    generalize s.dev = d
    have hcases := fun h => d.sweepCommand_of_idle .scrub (fun d => d.startScrub true) h
    exact ⟨fun hi => (hcases hi).1, fun hi => (hcases hi).2.1, fun hi => (hcases hi).2.2⟩
  · refine does_of s.dev.scrubTimer rfl ?_
    generalize s.dev = d
    have hiff := @Option.isNone_iff_eq_none _ d.store.op
    exact ⟨fun ⟨h1, h2, h3, h4⟩ => if_pos ⟨h1, h2, h3, hiff.mpr h4⟩, fun h => if_neg fun ⟨h1, h2, h3, h4⟩ => h ⟨h1, h2, h3, hiff.mp h4⟩⟩
  · refine does_of s.dev.scrubEnd rfl ?_
    exact ⟨fun h => if_pos h, fun h => if_neg h⟩
  · refine does_of (s.dev.sweepCommand .compact fun d => d.startCompaction true) rfl ?_
    generalize s.dev = d
    have hcases := fun h => d.sweepCommand_of_idle .compact (fun d => d.startCompaction true) h
    exact ⟨fun hi => (hcases hi).1, fun hi => (hcases hi).2.1, fun hi => (hcases hi).2.2⟩
  · refine does_of s.dev.compactionEnd rfl ?_
    generalize s.dev = d
    refine ⟨fun h => if_pos h, fun h => ⟨fun k hk hl => ?_, fun hl => ?_⟩⟩
    · rw [(d.compactionEnd_of_running h).1 k hk hl]
      exact (d.eraseSegment k).compactionDone_cases
    · rw [(d.compactionEnd_of_running h).2 hl]
      exact d.compactionDone_cases
  · refine does_of s.dev.adopt rfl ?_
    generalize s.dev = d
    have hmode : custody d → ¬((!d.formatMode) = true) := fun h hc => by
      rw [d.formatMode_iff.mpr h] at hc
      exact Bool.false_ne_true hc
    refine ⟨fun hi hc => ?_, fun hi hc ha => ?_, fun hi hc ha hp => ?_, fun hi hc ha hp => ?_⟩
    all_goals rw [d.adopt_of_idle hi]
    · refine if_pos ?_
      rw [Bool.not_eq_true', ← Bool.not_eq_true, d.formatMode_iff]
      exact hc
    · exact (if_neg (hmode hc)).trans (if_pos ha)
    · exact (if_neg (hmode hc)).trans ((if_neg ha).trans (if_pos hp))
    · exact (if_neg (hmode hc)).trans ((if_neg ha).trans (if_neg (not_not.mpr hp)))
  · refine does_of (s.dev.adoptEnd code) rfl ?_
    generalize s.dev = d
    exact ⟨d.adoptEnd_of_none code, fun p hp => d.adoptEnd_of_adopt code p hp⟩
  · refine does_of s.dev.format rfl ?_
    generalize s.dev = d
    refine ⟨fun hi hm => ?_, fun hi hm => ?_⟩
    · exact (d.format_of_idle hi).trans (if_pos (d.formatRefused_iff.mpr hm))
    · exact (d.format_of_idle hi).trans (if_neg fun hc => d.formatRefused_iff.mp hc hm)
  · refine does_of (s.dev.formatEnd code) rfl ?_
    generalize s.dev = d
    have hcases := d.formatEnd_cases code
    rw [d.store.portsOk_iff] at hcases
    exact hcases
  · refine does_of (if s.dev.cust.mode = .maintenance then s.dev.jnlSoftReset else s.dev.writeLost (jnlAt 8)) rfl ?_
    generalize s.dev = d
    obtain ⟨hbarred, hruns, hstart⟩ := d.softStart_eqs (Page.jnl.base 0) fun d => d.jnlReset
    refine ⟨fun hm => if_neg hm, fun hm hb => ?_, fun hm hb h2 => ?_, fun hm hb h2 => ?_⟩
    · exact (if_pos hm).trans (hbarred hb)
    · exact (if_pos hm).trans (hruns hb h2)
    · exact (if_pos hm).trans (hstart hb h2)

end Sys2Proof.Machine
end

section
/-! SUPPORT. Messages of the fabric (11_jochevy_domain.md R468 to R505, R519). -/

namespace Sys2Proof.Machine

/-! ## The receiver's checks (R468 to R475) -/

/-- A module hears a message where it stands in a domain, its fabric is on and the port has a link. -/
def Device.hearsPort (d : Device) (p : Nat) : Prop :=
  d.dom.view.inDomain = true ∧ d.fabricOn = true ∧ d.dom.portUp.getD p false = true

theorem Device.deaf_iff (d : Device) (p : Nat) :
    (!d.dom.view.inDomain || !d.fabricOn || !d.dom.portUp.getD p false) = true ↔ ¬d.hearsPort p := by
  rw [← Bool.not_and, ← Bool.not_and, Bool.not_eq_true', ← Bool.not_eq_true, Bool.and_eq_true, Bool.and_eq_true, and_assoc]
  rfl

/-- A message that its receiver takes: of the fabric's own kind it tells of its sender first. -/
def Device.told (d : Device) (p : Nat) (m : Msg) : Device := if m.viaStub then d.countEvent none 0x22 1 else d.heard p m

theorem Device.receive_cases (d : Device) (p : Nat) (m : Msg) (f : Device → Device) :
    (¬d.hearsPort p → d.receive p m f = d) ∧
    (d.hearsPort p → ¬(m.domainTag = domainTag d.dom.view.domainId) → d.receive p m f = d.fault 194) ∧
    (d.hearsPort p → m.domainTag = domainTag d.dom.view.domainId → ¬(m.mcast = true ∨ m.dst = d.dom.view.moduleId) → d.receive p m f = d) ∧
    (d.hearsPort p → m.domainTag = domainTag d.dom.view.domainId → (m.mcast = true ∨ m.dst = d.dom.view.moduleId) →
      d.receive p m f = (d.told p m).graced m f) := by
  have hmine : (!m.mcast && m.dst != d.dom.view.moduleId) = true ↔ ¬(m.mcast = true ∨ m.dst = d.dom.view.moduleId) := by
    rw [Bool.and_eq_true, Bool.not_eq_true', ← Bool.not_eq_true, bne_iff_ne, not_or]
  have hdeaf := d.deaf_iff p
  unfold Device.receive
  refine ⟨fun h => if_pos (hdeaf.mpr h), fun h ht => ?_, fun h ht hm => ?_, fun h ht hm => ?_⟩
  all_goals rw [if_neg fun hc => hdeaf.mp hc h]
  · exact if_pos ht
  · exact (if_neg (not_not.mpr ht)).trans (if_pos (hmine.mpr hm))
  · rw [if_neg (not_not.mpr ht), if_neg fun hc => hmine.mp hc hm]
    exact (apply_ite (fun e : Device => e.graced m f) _ _ _).symm

theorem Device.graced_cases (d : Device) (m : Msg) (f : Device → Device) :
    (gracedType m.typ = false → d.graced m f = f d) ∧
    (gracedType m.typ = true → epochNewer m.epoch d.dom.view.epoch = true → d.graced m f = d.mapDom fun x => { x with held := x.held ++ [m] }) ∧
    (gracedType m.typ = true → epochNewer m.epoch d.dom.view.epoch = false → d.epochServed m.epoch = true → d.graced m f = f d) ∧
    (gracedType m.typ = true → epochNewer m.epoch d.dom.view.epoch = false → d.epochServed m.epoch = false →
      d.graced m f = d.answerEpoch m 0x21) := by
  unfold Device.graced
  refine ⟨fun h => ?_, fun h hn => ?_, fun h hn hs => ?_, fun h hn hs => ?_⟩
  · simp only [h, Bool.not_false, if_true]
  · simp only [h, hn, Bool.not_true, Bool.false_eq_true, if_false, if_true]
  · simp only [h, hn, hs, Bool.not_true, Bool.false_eq_true, if_false, if_true]
  · simp only [h, hn, hs, Bool.not_true, Bool.false_eq_true, if_false]

/-- A command that receives a message of a type hears it. -/
theorem hears_of_message {c : Instr} {p k : Nat} {m : Msg} {act : Device → Device} (f : Device → Device)
    (hc : ∀ s, exec c s = s.done (s.dev.message p k m f)) (hf : ∀ d, f d = act d) : Hears c p k m act := by
  intro s
  refine does_of _ (hc s) ?_
  obtain rfl : f = act := funext hf
  generalize s.dev = d
  intro e w listens tagged mine told
  have hother : m.typ ≠ k → d.message p k m f = d := fun h => if_neg h
  have hsame : m.typ = k → d.message p k m f = d.receive p m f := fun h => if_pos h
  obtain ⟨hdeaf, htag, hforeign, hmine⟩ := d.receive_cases p m f
  refine ⟨fun hl => ?_, fun hl ht => ?_, fun hl ht hm => ?_, fun hl ht hm hg => ?_, fun hl ht hm hg hn => ?_, fun hl ht hm hg hn hs => ?_,
    fun hl ht hm hg hn hs => ?_⟩
  · by_cases hk : m.typ = k
    · exact (hsame hk).trans (hdeaf fun hh => hl ⟨hk, hh⟩)
    · exact hother hk
  all_goals
    obtain ⟨hk, hh⟩ := hl
    rw [hsame hk]
  · exact htag hh ht
  · exact hforeign hh ht hm
  all_goals
    rw [hmine hh ht hm]
    rw [← hk] at hg
    obtain ⟨hfree, hnewer, hserved, hstale⟩ := (d.told p m).graced_cases m f
  · exact hfree hg
  · exact hnewer hg hn
  · exact hserved hg hn hs
  · exact hstale hg hn hs

/-! ## What the messages do -/

theorem not_contains_iff (l : List Nat) (a : Nat) : (!l.contains a) = true ↔ a ∉ l := by
  rw [Bool.not_eq_true', ← Bool.not_eq_true, List.contains_iff_mem]


theorem Device.helloIn_eq (d : Device) (m : Msg) :
    d.helloIn m =
      if d.dom.view.role ≠ 2 ∨ m.payload.take 16 ≠ d.dom.view.domainId then d
      else match d.dom.view.ids.find? m.src with
        | some x => if x = m.payload.drop 16 ∨ m.src ∉ d.dom.view.members then d.request (.add m.src (m.payload.drop 16)) else d
        | none => d.request (.add m.src (m.payload.drop 16)) := by
  unfold Device.helloIn
  dsimp only
  cases d.dom.view.ids.find? m.src with
  | none => simp only [Bool.or_eq_true, decide_eq_true_eq, bne_iff_ne]
  | some x => simp only [Bool.or_eq_true, decide_eq_true_eq, bne_iff_ne, not_contains_iff]

theorem foldl_congr_fun {α β : Type} {f g : β → α → β} (h : ∀ b a, f b a = g b a) (l : List α) (b : β) : l.foldl f b = l.foldl g b := by
  rw [show f = g from funext fun b => funext fun a => h b a]

/-- A record of a REPLICATE: acknowledged, refused, or gathered with its ACK due (R487 to R489). -/
def Device.replicateOne (m : Msg) (d : Device) (sent : Rec) : Device :=
  let r := d.unwire sent
  let id := [(r.ident, r.origin, r.seq)]
  if r.replicated = false then d
  else if d.holdsRecord r.ident r.origin r.seq = true then d.send { m.reply 0x11 0 with idents := id }
  else if d.store.noWrite = true then d.send { m.reply 0x12 1 with idents := id }
  else if d.storeFull = true then d.send { m.reply 0x12 2 with idents := id }
  else { d with
    store := { d.store with
      gathering := if r ∈ d.store.gathering ∨ r ∈ d.store.pending then d.store.gathering else d.store.gathering ++ [r] }
    dom := { d.dom with ackDue := d.dom.ackDue ++ [(m.src, m.seq, r)] } }

theorem Device.replicateIn_eq (d : Device) (m : Msg) : d.replicateIn m = m.recs.foldl (Device.replicateOne m) d := by
  refine foldl_congr_fun (fun d sent => ?_) _ _
  unfold Device.replicateOne
  simp only [Bool.not_eq_true', Device.mapStore, Device.mapDom, Bool.or_eq_true, List.contains_iff_mem]

/-- One identity that a NAK names (R489, R490). -/
def Device.nakOne (m : Msg) (d : Device) (i : Ident × Nat × Nat) : Device :=
  match d.store.commits.find? fun c => c.named i with
  | none => d
  | some c =>
    let more := (d.spareTargets c).take 1
    let e := more.foldl (fun d k => d.replicateTo c.rcd k) (d.setCommit { c with targets := c.targets ++ more })
    if m.src ∉ c.targets ∨ m.src ∈ c.acks then d
    else if m.status = 0x21 ∧ m.src ∉ c.stale then (d.setCommit { c with stale := c.stale ++ [m.src] }).replicateTo c.rcd m.src
    else if more = [] then e else (e.countEvent none 0x23 1).fault 196

theorem Device.nakIn_eq (d : Device) (m : Msg) : d.nakIn m = d.toStub m fun d => m.idents.foldl (Device.nakOne m) d := by
  refine congrArg (d.toStub m) (funext fun d => foldl_congr_fun (fun d i => ?_) _ _)
  unfold Device.nakOne
  cases d.store.commits.find? fun c => c.named i with
  | none => rfl
  | some c =>
    simp only [Bool.or_eq_true, not_contains_iff, List.contains_iff_mem, List.isEmpty_iff]

/-- One record that a HOLD_REPLY answers for (R454). -/
def Device.holdOne (m : Msg) (d : Device) (e : (Ident × Nat × Nat) × Nat) : Device :=
  let i := e.1
  let note := fun (a : HoldAsk) =>
    if a.isOf i.1 i.2.1 i.2.2 = true ∧ m.src ∈ a.asked ∧ m.src ∉ a.holds ∧ m.src ∉ a.lacks then
      (if e.2 = 1 then { a with holds := a.holds ++ [m.src] } else { a with lacks := a.lacks ++ [m.src] })
    else a
  ({ d with dom := { d.dom with asks := d.dom.asks.map note } } : Device).settleAsks fun a => a.isOf i.1 i.2.1 i.2.2

theorem Device.holdReplyIn_eq (d : Device) (m : Msg) :
    d.holdReplyIn m = if m.status ≠ 0 then d else (m.idents.zip m.marks).foldl (Device.holdOne m) d := by
  unfold Device.holdReplyIn
  rw [foldl_congr_fun (g := Device.holdOne m)]
  intro d e
  unfold Device.holdOne
  simp only [Device.mapDom, Bool.and_eq_true, not_contains_iff, List.contains_iff_mem, and_assoc]

theorem boolNat_eq_ite (b : Bool) : boolNat b = if b = true then 1 else 0 := by cases b <;> rfl

/-- Settles O52: the receiver's checks once for every message, and then what each does. -/
theorem fabricMessages : Obligations.FabricMessages := by
  unfold Obligations.FabricMessages
  intro p m
  refine ⟨?_, ?_, ?_, ?_, ?_, ?_, ?_, ?_, ?_, ?_, ?_, ?_, ?_⟩
  · exact hears_of_message (fun d => d.helloIn m) (fun _ => rfl) fun d => d.helloIn_eq m
  · exact hears_of_message id (fun _ => rfl) fun _ => rfl
  · exact hears_of_message (fun d => d.reportIn m) (fun _ => rfl) fun _ => rfl
  · exact hears_of_message (fun d => d.replicateIn m) (fun _ => rfl) fun d => d.replicateIn_eq m
  · exact hears_of_message (fun d => d.ackIn m) (fun _ => rfl) fun _ => rfl
  · exact hears_of_message (fun d => d.nakIn m) (fun _ => rfl) fun d => d.nakIn_eq m
  · refine hears_of_message (fun d => d.readIn m) (fun _ => rfl) fun d => ?_
    unfold Device.readIn
    simp only [List.isEmpty_iff]
  · exact hears_of_message (fun d => d.readReplyIn m) (fun _ => rfl) fun _ => rfl
  · refine hears_of_message (fun d => d.holdQueryIn m) (fun _ => rfl) fun d => ?_
    unfold Device.holdQueryIn
    simp only [boolNat_eq_ite]
  · exact hears_of_message (fun d => d.holdReplyIn m) (fun _ => rfl) fun d => d.holdReplyIn_eq m
  · refine hears_of_message (fun d => d.originQueryIn m) (fun _ => rfl) fun d => ?_
    unfold Device.originQueryIn
    simp only [List.getD_eq_getElem?_getD]
    cases m.marks[1]? <;> rfl
  · exact hears_of_message (fun d => d.originReplyIn m) (fun _ => rfl) fun _ => rfl
  · exact hears_of_message (fun d => d.resyncDigest m) (fun _ => rfl) fun _ => rfl

end Sys2Proof.Machine
end

section
/-! SUPPORT. Changes of the epoch (11_jochevy_domain.md R475, R493 to R502). -/

namespace Sys2Proof.Machine

/-! ## The coordinator's timers -/

/-- The coordinator may prepare a change (R493). -/
def Device.mayPrepare (d : Device) : Prop :=
  d.dom.view.role = 2 ∧ d.dom.view.joining = false ∧ d.dom.view.requests ≠ [] ∧ d.dom.view.prepared = none ∧ d.dom.view.adopting = none ∧
    d.dom.view.lastChange + msCycles 50 ≤ d.cycle

theorem Device.prepareHeld_iff (d : Device) :
    (decide (d.dom.view.role ≠ 2) || d.dom.view.joining || d.dom.view.requests.isEmpty || d.dom.view.prepared.isSome ||
      d.dom.view.adopting.isSome || decide (d.cycle < d.dom.view.lastChange + msCycles 50)) = true ↔ ¬d.mayPrepare := by
  simp only [Device.mayPrepare, Bool.or_eq_true, decide_eq_true_eq, List.isEmpty_iff, Option.isSome_iff_ne_none, not_and_or, not_not,
    Bool.not_eq_false, Nat.not_le, ne_eq, or_assoc]

/-- The members that acknowledged a prepared epoch, as they are counted. -/
def View.acked (w : View) (n : Next) : List Nat := match w.votes.find? fun v => v.next.epoch == n.epoch with | some v => v.acks | none => []

theorem Device.prepareResend_of_none (d : Device)
    (h : ∀ x n, d.dom.view.prepared = some x → x.next = some n → x.mine = false) : d.prepareResend = d := by
  unfold Device.prepareResend
  dsimp only
  cases hp : d.dom.view.prepared with
  | none => rfl
  | some x =>
    dsimp only
    split
    · rename_i n hm hn
      exact absurd ((h x n hp hn).symm.trans hm) Bool.false_ne_true
    · rfl

theorem Device.prepareResend_of_mine (d : Device) (x : Prepared) (n : Next) (hp : d.dom.view.prepared = some x) (hn : x.next = some n)
    (hm : x.mine = true) :
    d.prepareResend = (d.dom.view.others.filter fun k => !(d.dom.view.acked n).contains k).foldl (fun d k => d.send { Msg.to 0x30 k with
      marks := [n.epoch], next := some n }) d := by
  unfold Device.prepareResend
  simp only [hp, hn, hm]
  rfl

/-- A member may take over the recovery of a prepared epoch from its marked coordinator (R498). -/
def Device.mayTakeOver (d : Device) (x : Prepared) (coord : Nat) : Prop :=
  x.refused = false ∧ x.mine = false ∧ x.recovering = false ∧ d.dom.view.adopting = none ∧ d.dom.unreach.mem coord = true ∧
    ∀ k ∈ d.reached, d.dom.view.moduleId ≤ k

theorem Device.takeoverHeld_iff (d : Device) (x : Prepared) (coord : Nat) :
    (x.refused || x.mine || x.recovering || d.dom.view.adopting.isSome || !d.dom.unreach.mem coord ||
      d.reached.any fun m => decide (m < d.dom.view.moduleId)) = true ↔ ¬d.mayTakeOver x coord := by
  have hlow : (d.reached.any fun m => decide (m < d.dom.view.moduleId)) = true ↔ ¬∀ k ∈ d.reached, d.dom.view.moduleId ≤ k := by
    simp only [List.any_eq_true, decide_eq_true_eq, not_forall, Nat.not_le, exists_prop]
  simp only [Device.mayTakeOver, Bool.or_eq_true, hlow, Option.isSome_iff_ne_none, Bool.not_eq_true', not_and_or, Bool.not_eq_false,
    Bool.not_eq_true, ne_eq, or_assoc]

theorem Device.takeover_of_none (d : Device)
    (h : ∀ x c, d.dom.view.prepared = some x → d.dom.view.members.head? = some c → ¬d.mayTakeOver x c) : d.takeover = d := by
  unfold Device.takeover
  dsimp only
  split
  · rename_i x c hp hc
    exact if_pos ((d.takeoverHeld_iff x c).mpr (h x c hp hc))
  · rfl

theorem Device.takeover_of_may (d : Device) (x : Prepared) (c : Nat) (hp : d.dom.view.prepared = some x) (hc : d.dom.view.members.head? = some c)
    (h : d.mayTakeOver x c) :
    d.takeover = ((d.mapView fun w => { w with prepared := some { x with recovering := true } }).fault 200).send
      { Msg.group 0x33 with marks := [x.epoch] } := by
  unfold Device.takeover
  simp only [hp, hc]
  exact if_neg fun hh => (d.takeoverHeld_iff x c).mp hh h

theorem Device.recoverResend_cases (d : Device) :
    ((∀ x, d.dom.view.prepared = some x → x.recovering = false) → d.recoverResend = d) ∧
    ∀ x, d.dom.view.prepared = some x → x.recovering = true → d.recoverResend = d.send { Msg.group 0x33 with marks := [x.epoch] } := by
  unfold Device.recoverResend
  refine ⟨fun h => ?_, fun x hp hr => ?_⟩
  · cases hp : d.dom.view.prepared with
    | none => rfl
    | some x => exact if_neg (ne_true_of_eq_false (h x hp))
  · simp only [hp, hr, if_true]

/-! ## What the messages do -/

/-- The answer that a member prepares: an acknowledgement of a next epoch, or a refusal (R494, R499). -/
def Device.acknowledgement (d : Device) (n : Next) (mine : Bool) : Prepared :=
  { epoch := n.epoch, next := some n, refused := false, mine := mine, recovering := false, asker := none, since := d.cycle }
def Device.refusal (d : Device) (e src : Nat) : Prepared :=
  { epoch := e, next := none, refused := true, mine := false, recovering := false, asker := some src, since := d.cycle }

/-- PREPARE by what the member has prepared already. -/
theorem Device.prepareIn_some (d : Device) (m : Msg) (n : Next) (hn : m.next = some n) :
    (epochNewer n.epoch d.dom.view.epoch = false → d.prepareIn m = d) ∧
    (epochNewer n.epoch d.dom.view.epoch = true → d.dom.view.prepared = none → d.prepareIn m = d.writePrepared (d.acknowledgement n false)) ∧
    (epochNewer n.epoch d.dom.view.epoch = true → ∀ x, d.dom.view.prepared = some x → d.prepareIn m =
      if x.epoch = n.epoch ∧ x.refused = true then d
      else if x.epoch = n.epoch then d.send { Msg.group 0x31 with marks := [n.epoch], next := some n }
      else if epochNewer n.epoch x.epoch = true then d.writePrepared (d.acknowledgement n false) else d) := by
  unfold Device.prepareIn
  simp only [hn]
  refine ⟨fun h => ?_, fun h hp => ?_, fun h x hp => ?_⟩
  · simp only [h, Bool.not_false, if_true]
  · simp only [h, hp, Bool.not_true, Bool.false_eq_true, if_false]
    rfl
  · simp only [h, hp, Bool.not_true, Bool.false_eq_true, if_false]
    by_cases he : x.epoch = n.epoch
    · by_cases hr : x.refused = true
      · exact (if_pos he).trans ((if_pos hr).trans (if_pos ⟨he, hr⟩).symm)
      · exact (if_pos he).trans ((if_neg hr).trans (Eq.symm ((if_neg fun hc => hr hc.2).trans (if_pos he))))
    · exact (if_neg he).trans (Eq.symm ((if_neg fun hc => he hc.1).trans (if_neg he)))

/-- RECOVER by what the member has prepared already. -/
theorem Device.recoverIn_cases (d : Device) (m : Msg) :
    let e := m.marks.getD 0 0
    (epochNewer e d.dom.view.epoch = false → d.recoverIn m = d) ∧
    (epochNewer e d.dom.view.epoch = true → d.dom.view.prepared = none → d.recoverIn m = d.writePrepared (d.refusal e m.src)) ∧
    (epochNewer e d.dom.view.epoch = true → ∀ x, d.dom.view.prepared = some x → d.recoverIn m =
      if x.epoch = e then d.send { Msg.to 0x34 m.src with marks := [e, if x.refused then 0 else 1], next := x.next }
      else if epochNewer e x.epoch = true then d.writePrepared (d.refusal e m.src) else d) := by
  intro e
  unfold Device.recoverIn
  refine ⟨fun h => ?_, fun h hp => ?_, fun h x hp => ?_⟩
  · exact if_pos (by rw [h]; rfl)
  · simp only [e] at h
    simp only [h, hp, Bool.not_true, Bool.false_eq_true, if_false]
    rfl
  · simp only [e] at h ⊢
    simp only [h, hp, Bool.not_true, Bool.false_eq_true, if_false]
    by_cases he : x.epoch = m.marks.getD 0 0
    · have hmark : boolNat (!x.refused) = if x.refused = true then 0 else 1 := by cases x.refused <;> rfl
      refine (if_pos he).trans (Eq.trans ?_ (if_pos he).symm)
      rw [Device.recoverAnswer, hmark, he]
    · exact (if_neg he).trans (if_neg he).symm

/-- Settles O53: the coordinator's timers by what they find prepared, the messages by the epoch that they name. -/
theorem epochChanges : Obligations.EpochChanges := by
  unfold Obligations.EpochChanges
  intro fresh refusal
  refine ⟨fun s => ?_, fun p m => ⟨?_, ?_, ?_, ?_, ?_, ?_⟩, fun s => ?_, fun s => ?_, fun s => ?_, fun s => ?_, fun src seq s => ?_⟩
  · refine does_of s.dev.prepareChange rfl ?_
    generalize s.dev = d
    exact ⟨fun h => if_pos (d.prepareHeld_iff.mpr h), fun h => if_neg fun hc => d.prepareHeld_iff.mp hc h⟩
  · refine hears_of_message (fun d => d.prepareIn m) (fun _ => rfl) fun d => ?_
    dsimp only
    cases hn : m.next with
    | none =>
      unfold Device.prepareIn
      rw [hn]
    | some n =>
      dsimp only
      obtain ⟨hold, hfree, hheld⟩ := d.prepareIn_some m n hn
      cases he : epochNewer n.epoch d.dom.view.epoch with
      | false => exact (hold he).trans (if_pos rfl).symm
      | true =>
        refine Eq.trans ?_ (if_neg Bool.noConfusion).symm
        cases hp : d.dom.view.prepared with
        | none => exact hfree he hp
        | some x => exact hheld he x hp
  · exact hears_of_message (fun d => d.prepareAckIn m) (fun _ => rfl) fun _ => rfl
  · refine hears_of_message (fun d => d.commitIn m) (fun _ => rfl) fun d => ?_
    unfold Device.commitIn
    cases m.next with
    | none => rfl
    | some n => simp only [Bool.and_eq_true, Option.isNone_iff_eq_none]
  · refine hears_of_message (fun d => d.recoverIn m) (fun _ => rfl) fun d => ?_
    obtain ⟨hold, hfree, hheld⟩ := d.recoverIn_cases m
    dsimp only
    cases he : epochNewer (m.marks.getD 0 0) d.dom.view.epoch with
    | false => exact (hold he).trans (if_pos rfl).symm
    | true =>
      refine Eq.trans ?_ (if_neg Bool.noConfusion).symm
      cases hp : d.dom.view.prepared with
      | none => exact hfree he hp
      | some x => exact hheld he x hp
  · exact hears_of_message (fun d => d.recoverReplyIn m) (fun _ => rfl) fun _ => rfl
  · exact hears_of_message (fun d => d.rollbackIn m) (fun _ => rfl) fun _ => rfl
  · exact does_of s.dev.prepareResend rfl ⟨s.dev.prepareResend_of_none, s.dev.prepareResend_of_mine⟩
  · refine does_of s.dev.takeover rfl ?_
    generalize s.dev = d
    refine ⟨d.takeover_of_none, fun x c hp hc h => ?_⟩
    rw [d.takeover_of_may x c hp hc h]
    exact ⟨rfl, gave_send _ _ (gave_fault_self _ 200)⟩
  · exact does_of s.dev.recoverResend rfl s.dev.recoverResend_cases
  · refine does_of (if s.dev.dom.view.grace.isEmpty then s.dev else s.dev.graceEnd) rfl ?_
    generalize s.dev = d
    exact ⟨fun h => if_pos (List.isEmpty_iff.mpr h), fun h => if_neg fun hc => h (List.isEmpty_iff.mp hc)⟩
  · exact does_of (s.dev.gracedExpiry src seq) rfl rfl

end Sys2Proof.Machine
end

section
/-! SUPPORT. Fabric ports, members and the commands of the DOM page (11_jochevy_domain.md R467, R481 to R483, R503, R521 to R523). -/

namespace Sys2Proof.Machine

/-! ## Members -/

/-- A member whose silence is marked. -/
def Device.marksMember (d : Device) (k : Nat) : Prop :=
  d.dom.view.inDomain = true ∧ d.dom.unreach.mem k = false ∧ k ∈ d.dom.view.others

/-- A member that has been marked. -/
def Device.markedMember (d : Device) (k : Nat) : Device :=
  ((d.domStep fun x => { x with unreach := x.unreach.add k, waiting := x.waiting.filter fun y => y.msg.dst != k }).fault 195).raiseInt .dom 0 2

theorem Device.helloDue_iff (d : Device) :
    (d.dom.view.inDomain && d.dom.view.joining && (d.keys.cls == 2 || d.keys.cls == 3)) = true ↔
      d.dom.view.inDomain = true ∧ d.dom.view.joining = true ∧ (d.keys.cls = 2 ∨ d.keys.cls = 3) := by
  rw [Bool.and_eq_true, Bool.and_eq_true, Bool.or_eq_true, beq_iff_eq, beq_iff_eq, and_assoc]

theorem Device.reportTimer_cases (d : Device) :
    let due := fun c => d.dom.unreach ≠ [] ∧ c ≠ d.dom.view.moduleId ∧ d.dom.view.inDomain = true
    ((∀ c, d.dom.view.members.head? = some c → ¬due c) → d.reportTimer = d) ∧
    ∀ c, d.dom.view.members.head? = some c → due c →
      d.reportTimer = d.send { Msg.to 0x03 c with marks := (d.dom.unreach.map Prod.fst).take 512 } := by
  intro due
  have hiff : ∀ c, (d.dom.unreach.isEmpty || c == d.dom.view.moduleId || !d.dom.view.inDomain) = true ↔ ¬due c := fun c => by
    simp only [due, Bool.or_eq_true, List.isEmpty_iff, beq_iff_eq, Bool.not_eq_true', not_and_or, not_not, Bool.not_eq_true, or_assoc, ne_eq]
  unfold Device.reportTimer
  refine ⟨fun h => ?_, fun c hc hd => ?_⟩
  · cases hc : d.dom.view.members.head? with
    | none => rfl
    | some c => exact if_pos ((hiff c).mpr (h c hc))
  · simp only [hc]
    exact if_neg fun hh => (hiff c).mp hh hd

theorem Device.memberLost_iff (d : Device) (k : Nat) :
    (d.dom.view.role = 2 ∧ d.dom.unreach.mem k = true ∧ (d.dom.reports.any fun r => r.2 == k && r.1 != k) = true) ↔
      (d.dom.view.role = 2 ∧ d.dom.unreach.mem k = true ∧ ∃ r ∈ d.dom.reports, r.2 = k ∧ r.1 ≠ k) := by
  simp only [List.any_eq_true, Bool.and_eq_true, beq_iff_eq, bne_iff_ne]

/-- A message that has waited goes out once more, on the other port. -/
theorem Device.otherPort_cases (d : Device) (n : Nat) :
    let msg := d.dom.waiting.find? fun w => w.msg.seq == n
    let up := fun p => d.dom.portUp.getD p false = true
    ((∀ w, msg = some w → w.resent = true ∨ ¬up (1 - w.port)) → d.otherPort n = d) ∧
    ∀ w, msg = some w → w.resent = false → up (1 - w.port) →
      d.otherPort n = ((d.mapDom fun x => { x with waiting := x.waiting.map fun y =>
        if y.msg.seq = n then { y with resent := true } else y }).emitFrame (1 - w.port) w.msg).countEvent none 0x21 1 := by
  intro msg up
  unfold Device.otherPort
  refine ⟨fun h => ?_, fun w hw hr hu => ?_⟩
  · cases hw : d.dom.waiting.find? fun w => w.msg.seq == n with
    | none => rfl
    | some w =>
      refine if_pos ?_
      rw [Bool.or_eq_true, Bool.not_eq_true', ← Bool.not_eq_true]
      exact h w hw
  · simp only [show (d.dom.waiting.find? fun w => w.msg.seq == n) = some w from hw]
    refine if_neg ?_
    rw [hr, show d.dom.portUp.getD (1 - w.port) false = true from hu]
    decide

/-! ## Commands of the DOM page -/

/-- A command of DOM_CMD that does not come to its own effect. -/
def DomWaits (c : Instr) (bit : Nat) : Prop := ∀ s, Does c s fun t =>
  (s.dev.writeBarred (domAt Off.domCmd) = true → t = s.dev.writeLost (domAt Off.domCmd)) ∧
  (s.dev.writeBarred (domAt Off.domCmd) = false → s.dev.bit (domAt Off.domCmd) bit = true → t = s.dev) ∧
  (s.dev.writeBarred (domAt Off.domCmd) = false → s.dev.bit (domAt Off.domCmd) bit = false → s.dev.reg (domAt Off.domCmd) &&& 7 ≠ 0 →
    t = s.dev.writeLost (domAt Off.domCmd))

theorem domWaits_of_domCommand {c : Instr} (bit : Nat) (g f : Device → Device) (hc : ∀ s, exec c s = s.done (g s.dev))
    (hg : g = fun d => d.domCommand bit f) : DomWaits c bit := by
  intro s
  obtain ⟨hbarred, hruns, hbusy, _⟩ := s.dev.onIdle_cases (domAt Off.domCmd) bit 7 f
  refine does_of _ (hc s) ?_
  rw [hg]
  exact ⟨hbarred, hruns, hbusy⟩

/-- A command of DOM_CMD that does. -/
theorem Device.domCommand_of_idle (d : Device) (bit : Nat) (f : Device → Device)
    (h : d.writeBarred (domAt Off.domCmd) = false ∧ d.bit (domAt Off.domCmd) bit = false ∧ d.reg (domAt Off.domCmd) &&& 7 = 0) :
    d.domCommand bit f = f d :=
  (d.onIdle_cases (domAt Off.domCmd) bit 7 f).2.2.2 h.1 h.2.1 h.2.2

theorem Device.leaveHeld_iff (d : Device) :
    (!d.dom.leaving || d.dom.view.members.contains d.dom.view.moduleId || d.dom.waiting.any fun x => x.msg.typ == 0x10) = true ↔
      ¬(d.dom.leaving = true ∧ d.dom.view.moduleId ∉ d.dom.view.members ∧ ∀ x ∈ d.dom.waiting, x.msg.typ ≠ 0x10) := by
  simp only [Bool.or_eq_true, Bool.not_eq_true', List.contains_iff_mem, List.any_eq_true, beq_iff_eq, not_and_or, not_not, Bool.not_eq_true,
    not_forall, exists_prop, or_assoc, ne_eq]

theorem Device.resyncOver_iff (d : Device) :
    (d.dom.resync && !(d.dom.asks.any fun a => a.why == .resync) && !(d.dom.reads.any fun r => decide (2 ^ 21 ≤ r.key ∧ r.key < 2 ^ 50))) = true ↔
      d.dom.resync = true ∧ (∀ a ∈ d.dom.asks, a.why ≠ .resync) ∧ ∀ r ∈ d.dom.reads, r.key < 2 ^ 21 ∨ 2 ^ 50 ≤ r.key := by
  simp only [Bool.and_eq_true, Bool.not_eq_true', List.any_eq_false, beq_iff_eq, decide_eq_true_eq, not_and_or, Nat.not_le, Nat.not_lt,
    and_assoc, ne_eq]

theorem Device.markMember_cases (d : Device) (k : Nat) :
    (¬(d.dom.unreach.mem k = false ∧ k ∈ d.dom.view.others) → d.markMember k = d) ∧
    (d.dom.unreach.mem k = false ∧ k ∈ d.dom.view.others → d.markMember k =
      ((d.store.commits.filter fun c => c.targets.contains k && !c.acks.contains k).map fun c => c.rcd.seq).foldl (fun d n => d.pursue n true)
        (d.markedMember k)) := by
  have hiff : (d.dom.unreach.mem k || !d.dom.view.others.contains k) = true ↔ ¬(d.dom.unreach.mem k = false ∧ k ∈ d.dom.view.others) := by
    rw [Bool.or_eq_true, not_contains_iff, not_and_or, Bool.not_eq_false]
  exact ⟨fun h => if_pos (hiff.mpr h), fun h => if_neg fun hc => hiff.mp hc h⟩

theorem Device.gave_markMember_195 (d : Device) (k : Nat) (h : d.dom.unreach.mem k = false ∧ k ∈ d.dom.view.others) :
    (d.markMember k).gave (.event 195) := by
  rw [(d.markMember_cases k).2 h]
  exact gave_foldl _ _ _ (gave_raiseInt _ _ _ _ (gave_fault_self _ 195)) fun e n he => gave_pursue _ _ _ he

theorem Device.leave_of_idle (d : Device)
    (h : d.writeBarred (domAt Off.domCmd) = false ∧ d.bit (domAt Off.domCmd) 1 = false ∧ d.reg (domAt Off.domCmd) &&& 7 = 0) :
    (d.cust.mode ≠ .maintenance → d.leave = d.writeLost (domAt Off.domCmd)) ∧
    (d.cust.mode = .maintenance → d.dom.view.inDomain = false →
      d.leave = ((d.commandStart (domAt Off.domCmd) 1).commandEnd (domAt Off.domCmd) 1 9).raiseInt .dom 0 4) ∧
    (d.cust.mode = .maintenance → d.dom.view.inDomain = true →
      d.leave = ((d.commandStart (domAt Off.domCmd) 1).mapDom fun x => { x with leaving := true }).request (.remove d.dom.view.moduleId)) := by
  unfold Device.leave
  rw [d.domCommand_of_idle 1 _ h]
  refine ⟨fun hm => if_pos hm, fun hm hi => ?_, fun hm hi => ?_⟩
  · exact (if_neg (not_not.mpr hm)).trans (if_pos (by rw [hi]; rfl))
  · exact (if_neg (not_not.mpr hm)).trans (if_neg (by rw [hi]; decide))

theorem Device.applyK_of_idle (d : Device)
    (h : d.writeBarred (domAt Off.domCmd) = false ∧ d.bit (domAt Off.domCmd) 0 = false ∧ d.reg (domAt Off.domCmd) &&& 7 = 0) :
    (d.dom.view.inDomain = true → d.applyK = (((d.commandStart (domAt Off.domCmd) 0).request
      (.setK (max 1 (d.field (domAt Off.domCfg) 2 0)))).commandEnd (domAt Off.domCmd) 0 8).raiseInt .dom 0 4) ∧
    (d.dom.view.inDomain = false → d.applyK = ((d.commandStart (domAt Off.domCmd) 0).commandEnd (domAt Off.domCmd) 0 8).raiseInt .dom 0 4) := by
  unfold Device.applyK
  rw [d.domCommand_of_idle 0 _ h]
  dsimp only
  refine ⟨fun hi => ?_, fun hi => ?_⟩
  · rw [if_pos hi]
  · rw [if_neg (ne_true_of_eq_false hi)]

/-- A test of the fabric port that a row speaks of. -/
theorem ite_fault_cases (d : Device) (b : Bool) (k : Nat) :
    (¬(b = true) → (if b then d.fault k else d) = d) ∧ (b = true → (if b then d.fault k else d) = d.fault k ∧ (if b then d.fault k else d).gave (.event k)) :=
  ⟨fun h => if_neg h, fun h => ⟨if_pos h, by rw [if_pos h]; exact gave_fault_self d k⟩⟩

/-- Settles O54: ports, timers and marks by their conditions, the commands by what DOM_CMD finds running. -/
theorem domainUnit : Obligations.DomainUnit := by
  unfold Obligations.DomainUnit
  intro cmd up idle waits
  refine ⟨fun p s => ?_, fun p s => ?_, fun p s => ?_, fun p s => ?_, fun p s => ?_, fun s => ?_, fun s => ?_, fun k s => ?_, fun s => ?_,
    fun k s => ?_, fun n s => ?_, domWaits_of_domCommand 0 Device.applyK _ (fun _ => rfl) rfl,
    domWaits_of_domCommand 1 Device.leave _ (fun _ => rfl) rfl, domWaits_of_domCommand 2 Device.resyncCommand _ (fun _ => rfl) rfl,
    fun s => ?_, fun s => ?_, fun s => ?_, fun s => ?_, fun s => ?_, fun s => ?_⟩
  · refine does_of (s.dev.linkLoss p) rfl ?_
    generalize s.dev = d
    refine ⟨fun h => if_neg h, fun h => ?_⟩
    rw [show d.linkLoss p = _ from if_pos h]
    exact ⟨rfl, gave_raiseInt _ _ _ _ (gave_fault_self _ 192)⟩
  · exact does_of (s.dev.linkUp p) rfl ⟨fun h => if_pos h, fun h => if_neg h⟩
  · exact does_of (if s.dev.dom.portUp.getD p false then s.dev.fault 193 else s.dev) rfl (ite_fault_cases s.dev _ 193)
  · exact does_of (if s.dev.dom.portUp.getD p false then s.dev.fault 194 else s.dev) rfl (ite_fault_cases s.dev _ 194)
  · exact does_of (s.dev.unsecured p) rfl ⟨fun h => if_neg (ne_true_of_eq_false h), fun h => if_pos h⟩
  · refine does_of s.dev.helloTimer rfl ?_
    generalize s.dev = d
    exact ⟨fun h => if_pos (d.helloDue_iff.mpr h), fun h => if_neg fun hc => h (d.helloDue_iff.mp hc)⟩
  · exact does_of s.dev.heartbeatTimer rfl ⟨fun h => if_pos h, fun h => if_neg (ne_true_of_eq_false h)⟩
  · refine does_of (if s.dev.dom.view.inDomain then s.dev.markMember k else s.dev) rfl ?_
    generalize s.dev = d
    obtain ⟨hnone, hmark⟩ := d.markMember_cases k
    refine ⟨fun h => ?_, fun h => ?_⟩
    · by_cases hi : d.dom.view.inDomain = true
      · exact (if_pos hi).trans (hnone fun hc => h ⟨hi, hc⟩)
      · exact if_neg hi
    · rw [if_pos h.1]
      exact ⟨hmark h.2, d.gave_markMember_195 k h.2⟩
  · exact does_of s.dev.reportTimer rfl s.dev.reportTimer_cases
  · refine does_of (s.dev.memberLost k) rfl ?_
    generalize s.dev = d
    exact ⟨fun h => if_pos ((d.memberLost_iff k).mpr h), fun h => if_neg fun hc => h ((d.memberLost_iff k).mp hc)⟩
  · exact does_of (s.dev.otherPort n) rfl (s.dev.otherPort_cases n)
  · exact does_of s.dev.applyK rfl fun hi => s.dev.applyK_of_idle hi
  · exact does_of s.dev.leave rfl fun hi => s.dev.leave_of_idle hi
  · refine does_of s.dev.leaveEnd rfl ?_
    generalize s.dev = d
    exact ⟨fun h => if_pos (d.leaveHeld_iff.mpr h), fun h => if_neg fun hc => d.leaveHeld_iff.mp hc h⟩
  · exact does_of s.dev.resyncCommand rfl fun hi => s.dev.domCommand_of_idle 2 _ hi
  · refine does_of s.dev.resyncEnd rfl ?_
    generalize s.dev = d
    exact ⟨fun h => if_pos (d.resyncOver_iff.mpr h), fun h => if_neg fun hc => h (d.resyncOver_iff.mp hc)⟩
  · refine does_of (if s.dev.cust.mode = .maintenance then s.dev.softStart (Page.dom.base 0) fun d => d.domReset
      else s.dev.writeLost (domAt 8)) rfl ?_
    generalize s.dev = d
    obtain ⟨hbarred, hruns, hstart⟩ := d.softStart_eqs (Page.dom.base 0) fun d => d.domReset
    exact ⟨fun hm => if_neg hm, fun hm hb => (if_pos hm).trans (hbarred hb), fun hm hb h2 => (if_pos hm).trans (hruns hb h2),
      fun hm hb h2 => (if_pos hm).trans (hstart hb h2)⟩

end Sys2Proof.Machine
end

section
/-! SUPPORT. Moving tenants between modules (11_jochevy_domain.md R506 to R524). -/

namespace Sys2Proof.Machine

/-! ## Commands of DOM_MIG_CMD -/

/-- A command of DOM_MIG_CMD by what it finds running, and its effect f once it has started. -/
def MigRuns (c : Instr) (bit : Nat) (f : Device → Device) : Prop := ∀ s, Does c s fun t =>
  (s.dev.writeBarred migCmd = true → t = s.dev.writeLost migCmd) ∧
  (s.dev.writeBarred migCmd = false → s.dev.bit migCmd bit = true → t = s.dev) ∧
  (s.dev.writeBarred migCmd = false → s.dev.bit migCmd bit = false → s.dev.reg migCmd &&& 0x1F ≠ 0 → t = s.dev.writeLost migCmd) ∧
  (s.dev.writeBarred migCmd = false ∧ s.dev.bit migCmd bit = false ∧ s.dev.reg migCmd &&& 0x1F = 0 → t = f (s.dev.commandStart migCmd bit))

theorem migRuns_of_migCommand {c : Instr} {f : Device → Device} (bit : Nat) (op g : Device → Device) (hc : ∀ s, exec c s = s.done (op s.dev))
    (hop : op = fun d => d.migCommand bit g) (hf : ∀ d, g d = f d) : MigRuns c bit f := by
  intro s
  obtain ⟨hbarred, hruns, hbusy, hstart⟩ := s.dev.onIdle_cases migCmd bit 0x1F fun d => g (d.commandStart migCmd bit)
  refine does_of _ (hc s) ?_
  rw [hop]
  exact ⟨hbarred, hruns, hbusy, fun h => (hstart h.1 h.2.1 h.2.2).trans (hf _)⟩

theorem Device.serving_iff (d : Device) : d.serving = true ↔ d.cust.mode = .service ∨ d.cust.mode = .maintenance := by
  unfold Device.serving
  rw [Bool.or_eq_true, beq_iff_eq, beq_iff_eq]

/-! ## Freeze and save -/

/-- The freeze of a VF that has nothing left to finish (R508). -/
def Device.frozenNow (d : Device) (v : Nat) : Prop :=
  d.dom.mig = some (.freeze, v, 0, 0) ∧ ∀ e ∈ d.sched.items, e.2.route.vf = v → e.2.work = none →
    e.2.stage ≠ .running ∧ ¬(e.2.stage = .ready ∧ e.2.run.firstUnit ≠ none ∧ e.2.exec ≠ .engine)

theorem Device.freezeHeld_iff (d : Device) (v : Nat) :
    (decide (d.dom.mig ≠ some (.freeze, v, 0, 0)) || d.sched.items.any fun e => e.2.route.vf == v && e.2.work.isNone
      && (e.2.stage == .running || (e.2.stage == .ready && e.2.run.firstUnit.isSome && e.2.exec != .engine))) = true ↔ ¬d.frozenNow v := by
  simp only [Bool.or_eq_true, decide_eq_true_eq, List.any_eq_true, Bool.and_eq_true, beq_iff_eq, bne_iff_ne,
    Option.isNone_iff_eq_none, Option.isSome_iff_ne_none, and_assoc]
  constructor
  · rintro (hmig | ⟨e, he, hvf, hwork, hrun | hready⟩) ⟨hm, hall⟩
    · exact hmig hm
    · exact (hall e he hvf hwork).1 hrun
    · exact (hall e he hvf hwork).2 hready
  · intro h
    by_contra hn
    rw [not_or, not_not] at hn
    exact h ⟨hn.1, fun e he hvf hwork =>
      ⟨fun hrun => hn.2 ⟨e, he, hvf, hwork, .inl hrun⟩, fun hready => hn.2 ⟨e, he, hvf, hwork, .inr hready⟩⟩⟩

theorem Device.vfFrozen_of_not {d : Device} {v : Nat} (h : ¬d.frozenNow v) : d.vfFrozen v = d := by
  unfold Device.vfFrozen
  exact if_pos ((d.freezeHeld_iff v).mpr h)

theorem Device.vfFrozen_of_frozenNow {d : Device} {v : Nat} (h : d.frozenNow v) :
    d.vfFrozen v =
      let d2 := (d.freezeItems v).takeOpens v
      let d3 := (d2.1.sched.items.filter fun e => e.2.route.vf == v && e.2.stage == .finished && e.2.work.isNone).foldl
        (fun d e => d.setItem e.1 { e.2 with comp := some (.plain .migrated 0) }) d2.1
      ((d3.changeVf v { d3.vf v with st := .frozen }).mapDom fun x => { x with
        frozen := x.frozen.insert v { claimed := false, blob := none, opens := d2.2, queue := [] } }).migEnd 0 v 0 := by
  unfold Device.vfFrozen
  exact if_neg fun hc => (d.freezeHeld_iff v).mp hc h

/-! ## Blobs and their answers -/

/-- A blob's receiver listens (R475). -/
theorem Device.blobDeaf_iff (d : Device) (p : Nat) (b : Blob) :
    (!d.dom.view.inDomain || !d.fabricOn || !d.dom.portUp.getD p false || b.dst != d.dom.view.moduleId) = true ↔
      ¬(d.dom.view.inDomain = true ∧ d.fabricOn = true ∧ d.dom.portUp.getD p false = true ∧ b.dst = d.dom.view.moduleId) := by
  rw [Bool.or_eq_true, Bool.or_eq_true, Bool.or_eq_true, Bool.not_eq_true', Bool.not_eq_true', Bool.not_eq_true', bne_iff_ne,
    not_and_or, not_and_or, not_and_or, Bool.not_eq_true, Bool.not_eq_true, Bool.not_eq_true, or_assoc, or_assoc]

theorem Device.placeBlob_of_free {d : Device} {b : Blob} {k : Nat} (h : (List.range 16).find? (fun k => !d.dom.blobs.has k) = some k) :
    d.placeBlob b = ((d.mapDom fun x => { x with blobs := x.blobs.insert k b }).raiseInt .dom 0 6).send
      { ({ Msg.blank with typ := 0x40, src := b.src, seq := b.seq } : Msg).reply 0x41 0 with marks := [1] } := by
  unfold Device.placeBlob
  simp only [h]

theorem Device.placeBlob_of_full {d : Device} {b : Blob} (h : ∀ k < 16, d.dom.blobs.has k = true) :
    d.placeBlob b = d.send { ({ Msg.blank with typ := 0x40, src := b.src, seq := b.seq } : Msg).reply 0x41 0 with marks := [0] } := by
  have hnone : (List.range 16).find? (fun k => !d.dom.blobs.has k) = none :=
    List.find?_eq_none.mpr fun k hk => by rw [h k (List.mem_range.mp hk)]; exact Bool.noConfusion
  unfold Device.placeBlob
  simp only [hnone]

theorem Device.blobAckIn_of_save {d : Device} {v peer slot : Nat} (m : Msg) (h : d.dom.mig = some (.save, v, peer, slot)) :
    d.blobAckIn m =
      if m.src ≠ peer ∨ m.status ≠ 0 then d
      else if m.marks.head? = some 1 then (d.progEnd (Page.vfm.base v) false).migEnd 1 v 0
      else (d.progEnd (Page.vfm.base v) true).migEnd 1 v 4 := by
  unfold Device.blobAckIn
  simp only [h, Bool.or_eq_true, decide_eq_true_eq]
  refine if_congr Iff.rfl rfl ?_
  by_cases hm : m.marks.head? = some 1
  · rw [if_pos hm, if_pos hm, bne_eq_false_iff_eq.mpr hm]
  · rw [if_neg hm, if_neg hm, bne_iff_ne.mpr hm]

/-- What a listening module does with a blob, by its epoch (R475). -/
theorem Device.gracedBlob_cases (d : Device) (b : Blob) :
    (epochNewer b.epoch d.dom.view.epoch = true → d.gracedBlob b = d.mapDom fun x => { x with heldBlobs := x.heldBlobs ++ [b] }) ∧
    (¬epochNewer b.epoch d.dom.view.epoch = true → d.epochServed b.epoch = false →
      d.gracedBlob b = d.answerEpoch { Msg.blank with typ := 0x40, src := b.src, seq := b.seq } 0x21) ∧
    (¬epochNewer b.epoch d.dom.view.epoch = true → d.epochServed b.epoch = true → d.gracedBlob b = d.placeBlob b) := by
  unfold Device.gracedBlob
  refine ⟨fun h => if_pos h, fun h hs => (if_neg h).trans (if_neg ?_), fun h hs => (if_neg h).trans (if_pos hs)⟩
  rw [hs]
  exact Bool.noConfusion

theorem Device.claimTimeout_of_not {d : Device} (h : ∀ v peer slot, d.dom.mig ≠ some (.restore, v, peer, slot)) : d.claimTimeout = d := by
  unfold Device.claimTimeout
  rcases hm : d.dom.mig with _ | ⟨k, v, peer, slot⟩
  · rfl
  · cases k with
    | freeze => rfl
    | save => rfl
    | restore => exact absurd hm (h v peer slot)

theorem Device.claimTimeout_of_restore {d : Device} {v peer slot : Nat} (h : d.dom.mig = some (.restore, v, peer, slot)) :
    d.claimTimeout = (d.progEnd (Page.vfm.base v) true).migEnd 2 v 8 := by
  unfold Device.claimTimeout
  simp only [h]

/-- Settles O55: each command of DOM_MIG_CMD by its checks in their order, each message by what waits for it. -/
theorem movingTenants : Obligations.MovingTenants := by
  unfold Obligations.MovingTenants
  intro idle runs serving tag
  have hruns : ∀ {c : Instr} {f : Device → Device} (bit : Nat) (op g : Device → Device), (∀ s, exec c s = s.done (op s.dev)) →
      (op = fun d => d.migCommand bit g) → (∀ d, g d = f d) → runs c bit f :=
    fun bit op g => migRuns_of_migCommand bit op g
  -- each row is met through hruns alone, so that its effect stays a parameter
  clear_value runs
  refine ⟨?_, fun s => s.dev.serving_iff, fun vf s => ?_, ?_, fun p b s => ?_, fun p m => ⟨?_, ?_, ?_⟩, ?_, fun s => ?_, ?_, ?_,
    fun tenant pgen s => ?_, fun s => ?_⟩
  · refine hruns 0 Device.freeze _ (fun _ => rfl) rfl fun d => ?_
    simp only [Bool.not_eq_true']
    rfl
  · refine does_of (s.dev.vfFrozen vf) rfl ?_
    generalize s.dev = d
    exact ⟨fun h => Device.vfFrozen_of_not h, fun h => Device.vfFrozen_of_frozenNow h⟩
  · refine hruns 1 Device.save _ (fun _ => rfl) rfl fun d => ?_
    dsimp only
    cases d.dom.frozen.find? d.migVf with
    | none => simp only [Bool.not_eq_true']
    | some fr => simp only [Bool.not_eq_true', List.contains_eq_mem, decide_eq_false_iff_not]
  · refine does_of (s.dev.blobIn p b) rfl ?_
    generalize s.dev = d
    intro d' listens e newer
    have hin : listens → d.blobIn p b = e.gracedBlob b := fun h => if_neg fun hc => (d.blobDeaf_iff p b).mp hc h
    obtain ⟨hnewer, hstale, hserved⟩ := e.gracedBlob_cases b
    refine ⟨fun h => if_pos ((d.blobDeaf_iff p b).mpr h), fun hl hn => (hin hl).trans (hnewer hn),
      fun hl hn hs => (hin hl).trans (hstale hn hs), fun hl hn hs => ⟨fun k hk => ?_, fun h => ?_⟩⟩
    · exact (hin hl).trans ((hserved hn hs).trans (Device.placeBlob_of_free hk))
    · exact (hin hl).trans ((hserved hn hs).trans (Device.placeBlob_of_full h))
  · refine hears_of_message (fun d => d.blobAckIn m) (fun _ => rfl) fun d => ?_
    rcases hm : d.dom.mig with _ | ⟨k, v, peer, slot⟩
    · unfold Device.blobAckIn
      simp only [hm]
    · cases k with
      | freeze => unfold Device.blobAckIn; simp only [hm]
      | save => exact Device.blobAckIn_of_save m hm
      | restore => unfold Device.blobAckIn; simp only [hm]
  · refine hears_of_message (fun d => d.claimIn m) (fun _ => rfl) fun d => ?_
    unfold Device.claimIn
    cases List.find? (fun e => (d.vf e.1).tenant == m.tenant && (d.vf e.1).pgen == m.pgen && (d.vf e.1).st == .frozen) d.dom.frozen with
    | none => rfl
    | some e =>
      obtain ⟨v, fr⟩ := e
      simp only [Bool.or_eq_true, Option.isNone_iff_eq_none, List.contains_eq_mem, decide_eq_true_eq, or_assoc]
  · refine hears_of_message (fun d => d.claimReplyIn m) (fun _ => rfl) fun d => ?_
    unfold Device.claimReplyIn
    rcases d.dom.mig with _ | ⟨k, v, peer, slot⟩
    · rfl
    · cases k with
      | freeze => rfl
      | save => rfl
      | restore =>
        dsimp only
        cases d.dom.blobs.find? slot with
        | none => simp only [Bool.or_eq_true, decide_eq_true_eq]
        | some b => simp only [Bool.or_eq_true, decide_eq_true_eq]
  · refine hruns 2 Device.restore _ (fun _ => rfl) rfl fun d => ?_
    dsimp only
    cases d.restoreCheck d.migVf d.migSlot with
    | none => cases d.dom.blobs.find? d.migSlot with
      | none => rfl
      | some b => rfl
    | some code => cases d.dom.blobs.find? d.migSlot with
      | none => simp only [Bool.and_false, Bool.false_eq_true, if_false]
      | some b => simp only [Bool.and_eq_true, beq_iff_eq, Bool.not_eq_true']
  · refine does_of s.dev.claimTimeout rfl ?_
    generalize s.dev = d
    exact ⟨fun v peer slot h => Device.claimTimeout_of_restore h, fun h => Device.claimTimeout_of_not h⟩
  · refine hruns 3 Device.unfreeze _ (fun _ => rfl) rfl fun d => ?_
    dsimp only
    cases d.dom.frozen.find? d.migVf with
    | none => simp only [Bool.not_eq_true']
    | some fr => simp only [Bool.not_eq_true', Bool.and_eq_true, decide_eq_true_eq, Option.isSome_iff_ne_none, and_assoc]
  · refine hruns 4 Device.discardBlob _ (fun _ => rfl) rfl fun d => ?_
    simp only [Bool.not_eq_true']
  · exact does_of (s.dev.stubExpiry tenant pgen) rfl rfl
  · exact does_of (s.dev.dom.moved.foldl (fun d c => d.queryMoved c) s.dev) rfl rfl

end Sys2Proof.Machine
end

section
/-! SUPPORT. Tenants: the commands of the management page and the ends that they wait for (12_tenancy.md R542 to R551, R566). -/

namespace Sys2Proof.Machine

/-! ## The checks of a management command -/

theorem Device.vfmCheck_of_mode {d : Device} {v bit : Nat} (states : List VfState) (h : d.cust.mode.permitsVfm bit = false) :
    d.vfmCheck v bit states = some 5 := by
  unfold Device.vfmCheck
  rw [h]
  exact if_pos rfl

theorem Device.vfmCheck_of_permits {d : Device} {v bit : Nat} (states : List VfState) (h : d.cust.mode.permitsVfm bit = true) :
    d.vfmCheck v bit states = if d.exposed v = false then some 4 else if (d.vf v).st ∉ states then some 1 else none := by
  unfold Device.vfmCheck
  rw [h, if_neg Bool.noConfusion]
  exact if_congr (Iff.of_eq (Bool.not_eq_true' _)) rfl rfl

/-- A management command by its checks: `more` are those of its own, `f` what it does once it passes. -/
def VfmRuns (c : Fin 4096 → Instr) (bit : Nat) (states : List VfState) (more : Device → Nat → Option Nat) (f : Device → Nat → Device) : Prop :=
  ∀ (vf : Fin 4096) s, Does (c vf) s fun t =>
    let d := s.dev
    let v : Nat := vf
    let a := vfmAt v Off.vfmCmd
    let e := d.commandStart a bit
    let free := d.writeBarred a = false ∧ d.bit a bit = false ∧ d.reg a &&& 0x1F = 0
    (d.writeBarred a = true → t = d.writeLost a) ∧
    (d.writeBarred a = false → d.bit a bit = true → t = d) ∧
    (d.writeBarred a = false → d.bit a bit = false → d.reg a &&& 0x1F ≠ 0 → t = d.writeLost a) ∧
    (free → e.cust.mode.permitsVfm bit = false → t = e.vfmEnd v bit 5) ∧
    (free → e.cust.mode.permitsVfm bit = true → e.exposed v = false → t = e.vfmEnd v bit 4) ∧
    (free → e.cust.mode.permitsVfm bit = true → e.exposed v = true → (e.vf v).st ∉ states → t = e.vfmEnd v bit 1) ∧
    (free → e.cust.mode.permitsVfm bit = true → e.exposed v = true → (e.vf v).st ∈ states →
      (∀ k, more e v = some k → t = e.vfmEnd v bit k) ∧ (more e v = none → t = f e v))

/-- What a management command does once it has started: the code of the first check that fails, or its effect. -/
def vfmBody (bit : Nat) (states : List VfState) (more : Device → Nat → Option Nat) (f : Device → Nat → Device) (v : Nat) (e : Device) : Device :=
  match (e.vfmCheck v bit states).or (more e v) with
  | some code => e.vfmEnd v bit code
  | none => f e v

section
variable {bit v k : Nat} {states : List VfState} {more : Device → Nat → Option Nat} {f : Device → Nat → Device} {e : Device}

theorem vfmBody_of_check (h : e.vfmCheck v bit states = some k) : vfmBody bit states more f v e = e.vfmEnd v bit k := by
  unfold vfmBody
  rw [h]
  rfl

theorem vfmBody_of_more (h : e.vfmCheck v bit states = none) (hk : more e v = some k) : vfmBody bit states more f v e = e.vfmEnd v bit k := by
  unfold vfmBody
  rw [h, Option.none_or, hk]

theorem vfmBody_of_pass (h : e.vfmCheck v bit states = none) (hn : more e v = none) : vfmBody bit states more f v e = f e v := by
  unfold vfmBody
  rw [h, Option.none_or, hn]

theorem vfmBody_congr_more {more' : Device → Nat → Option Nat} (h : more e v = more' e v) :
    vfmBody bit states more f v e = vfmBody bit states more' f v e := by
  unfold vfmBody
  rw [h]

/-- A management command without checks of its own. -/
theorem vfmBody_of_no_more (bit : Nat) (states : List VfState) (f : Device → Nat → Device) (v : Nat) (e : Device) :
    vfmBody bit states (fun _ _ => none) f v e =
      match e.vfmCheck v bit states with
      | some code => e.vfmEnd v bit code
      | none => f e v := by
  unfold vfmBody
  rw [Option.or_none]

end

theorem vfmRuns_of_vfmBody {c : Fin 4096 → Instr} {bit : Nat} {states : List VfState} {more : Device → Nat → Option Nat}
    {f : Device → Nat → Device} (op : Device → Nat → Device) (hc : ∀ vf s, exec (c vf) s = s.done (op s.dev vf))
    (hop : ∀ d v, op d v = d.vfmCommand v bit (vfmBody bit states more f v)) : VfmRuns c bit states more f := by
  intro vf s
  refine does_of _ (hc vf s) ?_
  rw [hop]
  generalize s.dev = d
  intro d' v a e free
  obtain ⟨hbarred, hruns, hbusy, hstart⟩ := d.onIdle_cases a bit 0x1F fun d => vfmBody bit states more f v (d.commandStart a bit)
  have hfree : free → d.vfmCommand v bit (vfmBody bit states more f v) = vfmBody bit states more f v e := fun h => hstart h.1 h.2.1 h.2.2
  refine ⟨hbarred, hruns, hbusy, fun h hm => ?_, fun h hm hx => ?_, fun h hm hx hs => ?_, fun h hm hx hs => ?_⟩
  · exact (hfree h).trans (vfmBody_of_check (e.vfmCheck_of_mode states hm))
  all_goals have hcheck := e.vfmCheck_of_permits (v := v) states hm
  · exact (hfree h).trans (vfmBody_of_check (hcheck.trans (if_pos hx)))
  all_goals rw [if_neg (by rw [hx]; exact Bool.noConfusion)] at hcheck
  · exact (hfree h).trans (vfmBody_of_check (hcheck.trans (if_pos hs)))
  · have hpass := hcheck.trans (if_neg (not_not.mpr hs))
    exact ⟨fun k hk => (hfree h).trans (vfmBody_of_more hpass hk), fun hn => (hfree h).trans (vfmBody_of_pass hpass hn)⟩

/-- The checks of CREATE's own (R528, R535, R566). -/
theorem Device.createCheck_eq (d : Device) (v : Nat) :
    d.createCheck v =
      if d.reg (vfmAt v Off.vfmTenant) = 0 ∨ (d.front.vfs.any fun e => e.2.st != .absent && e.2.tenant == d.reg (vfmAt v Off.vfmTenant)) = true then
        some 2
      else if 10000 < d.field (vfmAt v Off.vfmMinShare) 15 0 ∨ 10000 < d.field (vfmAt v Off.vfmMinShare) 31 16
          ∨ d.field (vfmAt v Off.vfmQuotaSlots) 20 0 < 64 * d.field (vfmAt v Off.vfmMinSlots) 14 0 then some 6
      else if d.poolCovers (d.field (vfmAt v Off.vfmMinSlots) 26 24) (some v) (d.field (vfmAt v Off.vfmMinShare) 15 0)
          (d.field (vfmAt v Off.vfmMinShare) 31 16) (d.field (vfmAt v Off.vfmMinSlots) 14 0) = true then none
      else some 3 := by
  unfold Device.createCheck
  refine if_congr ?_ rfl (if_congr Iff.rfl rfl ?_)
  · rw [Bool.or_eq_true, decide_eq_true_eq]
  · cases d.poolCovers (d.field (vfmAt v Off.vfmMinSlots) 26 24) (some v) (d.field (vfmAt v Off.vfmMinShare) 15 0)
        (d.field (vfmAt v Off.vfmMinShare) 31 16) (d.field (vfmAt v Off.vfmMinSlots) 14 0) with
    | true => rfl
    | false => rfl

/-! ## What the ends wait for -/

theorem Device.drainEnd_iff (d : Device) (v : Nat) :
    (decide ((d.vf v).st ≠ .draining) || d.busyVf v none) = true ↔ ¬((d.vf v).st = .draining ∧ d.busyVf v none = false) := by
  rw [Bool.or_eq_true, decide_eq_true_eq, not_and_or, Bool.not_eq_false]

theorem Device.reclaimHeld_iff (e : Device) (v : Nat) (x : Vf) :
    (decide (x.quotaSlots < e.slotUse x.tenant) || x.reclaimQps.any fun q => (e.qp v q).draining) = true ↔
      ¬(e.slotUse x.tenant ≤ x.quotaSlots ∧ ∀ q ∈ x.reclaimQps, (e.qp v q).draining = false) := by
  rw [Bool.or_eq_true, decide_eq_true_eq, List.any_eq_true, not_and_or, not_le]
  refine or_congr Iff.rfl ?_
  simp only [not_forall, exists_prop, Bool.not_eq_false]

/-- Settles O56: each management command by its checks in the order of R566, and the ends by what they wait for. -/
theorem tenantCommands : Obligations.TenantCommands := by
  unfold Obligations.TenantCommands
  intro runs none_
  have hruns : ∀ {c : Fin 4096 → Instr} {bit : Nat} {states : List VfState} {more : Device → Nat → Option Nat} {f : Device → Nat → Device}
      (op : Device → Nat → Device), (∀ vf s, exec (c vf) s = s.done (op s.dev vf)) →
      (∀ d v, op d v = d.vfmCommand v bit (vfmBody bit states more f v)) → runs c bit states more f :=
    fun op => vfmRuns_of_vfmBody op
  -- each row is met through hruns alone, so that its checks and its effect stay parameters
  clear_value runs
  refine ⟨hruns Device.createVf (fun _ _ => rfl) fun d v => ?_, hruns Device.activateVf (fun _ _ => rfl) fun d v => ?_,
    hruns Device.drainVf (fun _ _ => rfl) fun d v => ?_, fun vf s => ?_, hruns Device.destroyVf (fun _ _ => rfl) fun d v => ?_,
    fun vf s => ?_, hruns Device.reclaimVf (fun _ _ => rfl) fun d v => ?_, fun vf s => ?_⟩
  · refine congrArg (d.vfmCommand v 0) (funext fun e => ?_)
    refine Eq.trans ?_ (vfmBody_congr_more (more := Device.createCheck) (e.createCheck_eq v))
    rfl
  · refine congrArg (d.vfmCommand v 1) (funext fun e => Eq.trans ?_ (vfmBody_of_no_more 1 _ _ v e).symm)
    rfl
  · refine congrArg (d.vfmCommand v 2) (funext fun e => Eq.trans ?_ (vfmBody_of_no_more 2 _ _ v e).symm)
    rfl
  · refine does_of (s.dev.drainEnd vf) rfl ?_
    generalize s.dev = d
    exact ⟨fun h => if_pos ((d.drainEnd_iff vf).mpr h), fun h => if_neg fun hc => (d.drainEnd_iff vf).mp hc h⟩
  · refine congrArg (d.vfmCommand v 3) (funext fun e => Eq.trans ?_ (vfmBody_of_no_more 3 _ _ v e).symm)
    rfl
  · exact does_of (s.dev.vfAbsent vf) rfl ⟨fun h => if_pos h, fun h => if_neg h⟩
  · refine congrArg (d.vfmCommand v 4) (funext fun e => Eq.trans ?_ (vfmBody_of_no_more 4 _ _ v e).symm)
    rfl
  · refine does_of (s.dev.reclaimEnd vf) rfl ?_
    generalize s.dev = d
    intro d' v x e reached
    refine ⟨fun h => if_pos (by rw [Bool.not_eq_true']; exact h), fun h hr => ?_, fun h hr => ?_⟩
    all_goals refine (if_neg (by rw [Bool.not_eq_true', Bool.not_eq_false]; exact h)).trans ?_
    · exact if_pos ((e.reclaimHeld_iff v x).mpr hr)
    · exact if_neg fun hc => (e.reclaimHeld_iff v x).mp hc hr

end Sys2Proof.Machine
end

section
/-! SUPPORT. Queue pairs, resets and enables of VFs, and the mailbox (12_tenancy.md R526, R527, R544 to R546, R552 to R562). -/

namespace Sys2Proof.Machine

/-! ## Registers of a VF's own pages -/

/-- A write to a register of a VF's pages by what meets it: a VF that is not exposed has none, and a barred register loses it. -/
theorem Device.tenantCommand_cases (d : Device) (v a : Nat) (f : Device → Device) :
    (d.exposed v = false → (if !d.exposed v then d else d.onCommand a f) = d) ∧
    (d.exposed v = true → d.writeBarred a = true → (if !d.exposed v then d else d.onCommand a f) = d.writeLost a) ∧
    (d.exposed v = true → d.writeBarred a = false → (if !d.exposed v then d else d.onCommand a f) = f d) := by
  refine ⟨fun h => if_pos (by rw [h]; rfl), fun h hb => ?_, fun h hb => ?_⟩
  all_goals refine (if_neg (by rw [h]; exact Bool.noConfusion)).trans ?_
  · exact if_pos hb
  · exact d.onCommand_of_not_barred a f hb

theorem Device.qpCfgWrite_of_not_exposed {d : Device} {v : Nat} (q w : Nat) (h : d.exposed v = false) : d.qpCfgWrite v q w = d := by
  unfold Device.qpCfgWrite
  exact if_pos (by rw [h]; rfl)

theorem Device.qpDrainHeld_iff (d : Device) (v q : Nat) :
    (!(d.qp v q).draining || d.busyVf v (some q)) = true ↔ ¬((d.qp v q).draining = true ∧ d.busyVf v (some q) = false) := by
  rw [Bool.or_eq_true, Bool.not_eq_true', not_and_or, Bool.not_eq_true, Bool.not_eq_false]

/-- A mailbox command that is refused, for its VF or for the length of its message. -/
theorem Device.mailboxRefused_iff (d : Device) (v len : Nat) :
    (d.noMailbox v || decide (63 < len)) = true ↔ (d.vf v).st = .absent ∨ (d.vf v).st = .destroyed ∨ 63 < len := by
  unfold Device.noMailbox
  rw [Bool.or_eq_true, Bool.or_eq_true, beq_iff_eq, beq_iff_eq, decide_eq_true_eq, or_assoc]

/-- A mailbox command by what it finds: it runs already, it is refused, or it takes effect. -/
theorem Device.mailbox_cases (d e : Device) (v a len : Nat) :
    let t := if d.bit a 0 then d else if d.noMailbox v || decide (63 < len) then d.writeLost a else e
    (d.bit a 0 = true → t = d) ∧
    (d.bit a 0 = false → ((d.vf v).st = .absent ∨ (d.vf v).st = .destroyed ∨ 63 < len) → t = d.writeLost a) ∧
    (d.bit a 0 = false → ¬((d.vf v).st = .absent ∨ (d.vf v).st = .destroyed ∨ 63 < len) → t = e) := by
  refine ⟨fun h => if_pos h, fun h hr => ?_, fun h hr => ?_⟩
  all_goals refine (if_neg (ne_true_of_eq_false h)).trans ?_
  · exact if_pos ((d.mailboxRefused_iff v len).mpr hr)
  · exact if_neg fun hc => hr ((d.mailboxRefused_iff v len).mp hc)

theorem Device.vfPageHidden_iff (d : Device) (v : Nat) (manager : Bool) :
    (!manager && !d.exposed v) = true ↔ manager = false ∧ d.exposed v = false := by
  rw [Bool.and_eq_true, Bool.not_eq_true', Bool.not_eq_true']

theorem Device.m2tFreed_iff (d e : Device) (a : Nat) : (d.bit a 2 && !e.bit a 2) = true ↔ d.bit a 2 = true ∧ e.bit a 2 = false := by
  rw [Bool.and_eq_true, Bool.not_eq_true']

/-- Settles O57: each command by what meets its register and by what it finds there. -/
theorem queuePairsAndMailbox : Obligations.QueuePairsAndMailbox := by
  unfold Obligations.QueuePairsAndMailbox
  refine ⟨fun vf qp w s => ?_, fun vf qp w s => ?_, fun vf qp s => ?_, fun vf qp s => ?_, fun vf cause s => ?_, fun n s => ?_, fun s => ?_,
    fun vf manager enable s => ?_, fun vf s => ?_, fun vf s => ?_, fun vf s => ?_, fun vf s => ?_, fun s => ?_⟩
  · exact does_of (s.dev.qpCfgWrite vf qp (w ||| 0x80000000).toNat) rfl ⟨rfl, fun h => Device.qpCfgWrite_of_not_exposed _ _ h⟩
  · exact does_of (s.dev.qpCfgWrite vf qp (w &&& 0x7FFFFFFF).toNat) rfl ⟨rfl, fun h => Device.qpCfgWrite_of_not_exposed _ _ h⟩
  · refine does_of (s.dev.qpDrainEnd vf qp) rfl ?_
    generalize s.dev = d
    exact ⟨fun h => if_pos ((d.qpDrainHeld_iff vf qp).mpr h), fun h => if_neg fun hc => (d.qpDrainHeld_iff vf qp).mp hc h⟩
  · exact does_of (s.dev.qpErrorClear vf qp) rfl (s.dev.tenantCommand_cases vf (qpBase vf qp + 0x14) fun d => d.w1c (qpBase vf qp + 0x14) 4)
  · refine does_of (s.dev.vfReset vf cause) rfl ?_
    generalize s.dev = d
    intro d' v locked
    refine ⟨fun h hl => (if_pos h).trans (if_pos hl), fun h hl => (if_pos h).trans (if_neg (ne_true_of_eq_false hl)),
      fun h hx => (if_neg h).trans (if_neg (ne_true_of_eq_false hx)), fun h hx => (if_neg h).trans (if_pos hx)⟩
  · exact does_of (s.dev.vfEnableSet n) rfl ⟨fun h => if_pos h, fun h => if_neg (ne_true_of_eq_false h)⟩
  · exact does_of s.dev.vfEnableClear rfl ⟨fun h => if_neg (ne_true_of_eq_false h), fun h => if_pos h⟩
  · refine does_of (s.dev.vfPageEnable vf manager enable) rfl ?_
    generalize s.dev = d
    intro d' a hidden barred
    refine ⟨fun h => if_pos ((d.vfPageHidden_iff vf manager).mpr h), fun h hb => ?_, fun h hb => ?_⟩
    all_goals refine (if_neg fun hc => h ((d.vfPageHidden_iff vf manager).mp hc)).trans ?_
    · exact if_pos (Bool.or_eq_true_iff.mpr hb)
    · rw [← boolNat_eq_ite]
      exact d.onWrite_of_not_lost a _ hb
  · refine does_of (s.dev.mbSend vf) rfl ?_
    generalize s.dev = d
    intro d' v a refused
    obtain ⟨hhidden, hbarred, hopen⟩ := d.tenantCommand_cases v a fun d =>
      if d.bit a 0 then d
      else if d.noMailbox v || decide (63 < d.field (mbAt v Off.mbT2m) 15 8) then d.writeLost a
      else (((d.commandStart a 0).carry (mbAt v Off.mbT2m) (vfmAt v Off.vfmT2m)).setField (vfmAt v Off.vfmMbCtrl) 2 2 1).raiseInt .vfm v 2
    obtain ⟨hruns, hrefused, hstart⟩ := d.mailbox_cases ((((d.commandStart a 0).carry (mbAt v Off.mbT2m) (vfmAt v Off.vfmT2m)).setField
      (vfmAt v Off.vfmMbCtrl) 2 2 1).raiseInt .vfm v 2) v a (d.field (mbAt v Off.mbT2m) 15 8)
    exact ⟨hhidden, hbarred, fun hx hb h => (hopen hx hb).trans (hruns h), fun hx hb h hr => (hopen hx hb).trans (hrefused h hr),
      fun hx hb h hr => (hopen hx hb).trans (hstart h hr)⟩
  · refine does_of (s.dev.mbTake vf) rfl ?_
    generalize s.dev = d
    intro d' v a
    have hopen : d.writeBarred a = false → d.mbTake vf =
        if !d.bit a 2 then d.writeLost a
        else (((d.clearBits a 4).commandEnd (mbAt v Off.mbCtrl) 0 1).raiseInt .mb v 1).commandEnd a 1 4 := by
      unfold Device.mbTake
      exact d.onCommand_of_not_barred a _
    refine ⟨fun h => ?_, fun hb h => (hopen hb).trans (if_neg (ne_true_of_eq_false (congrArg not h)))⟩
    by_cases hb : d.writeBarred a = true
    · exact if_pos hb
    · exact (hopen (Bool.eq_false_iff.mpr hb)).trans (if_pos (congrArg not (h.resolve_left hb)))
  · refine does_of (s.dev.mbPost vf) rfl ?_
    generalize s.dev = d
    intro d' v a refused
    obtain ⟨hruns, hrefused, hstart⟩ := d.mailbox_cases ((d.commandStart a 0).deliverPost v) v a (d.field (vfmAt v Off.vfmM2t) 15 8)
    have hopen : d.writeBarred a = false → d.mbPost vf =
        if d.bit a 0 then d
        else if d.noMailbox v || decide (63 < d.field (vfmAt v Off.vfmM2t) 15 8) then d.writeLost a
        else (d.commandStart a 0).deliverPost v := by
      unfold Device.mbPost
      exact d.onCommand_of_not_barred a _
    exact ⟨fun hb => if_pos hb, fun hb h => (hopen hb).trans (hruns h), fun hb h hr => (hopen hb).trans (hrefused h hr),
      fun hb h hr => (hopen hb).trans (hstart h hr)⟩
  · refine does_of (s.dev.m2tFree vf) rfl ?_
    generalize s.dev = d
    intro d' v a
    obtain ⟨hhidden, hbarred, hopen⟩ := d.tenantCommand_cases v a fun d =>
      if d.bit a 2 && !(d.w1c a 4).bit a 2 then ((d.w1c a 4).raiseInt .vfm v 3).deliverPost v else d.w1c a 4
    exact ⟨hhidden, hbarred, fun hx hb h h1 => (hopen hx hb).trans (if_pos ((d.m2tFreed_iff _ a).mpr ⟨h, h1⟩)),
      fun hx hb h => (hopen hx hb).trans (if_neg fun hc => h ((d.m2tFreed_iff _ a).mp hc))⟩
  · exact does_of (s.dev.softStart (mbxAt 0) fun d => d.mbxReset) rfl (s.dev.softStart_eqs (mbxAt 0) fun d => d.mbxReset)

end Sys2Proof.Machine
end

section
/-! SUPPORT. The messages of the quorum gate (13_modes_custody.md R575 to R587, R591, R601 to R603). -/

namespace Sys2Proof.Machine

/-! ## OPEN -/

/-- A reply changes no custody state but the frames that wait for MBX_IN. -/
theorem Device.placeFrame_custody (d : Device) :
    d.placeFrame.cust.ceremony = d.cust.ceremony ∧ d.placeFrame.cust.lastId = d.cust.lastId ∧ d.placeFrame.cust.mode = d.cust.mode := by
  unfold Device.placeFrame
  rcases d.cust.framesIn with _ | ⟨x, rest⟩
  · exact ⟨rfl, rfl, rfl⟩
  · dsimp only
    split
    · exact ⟨rfl, rfl, rfl⟩
    · simp only [Device.raiseInt_cust, Device.hwSet_cust, Device.storeWords_cust, Device.mapCust_cust, and_self]

theorem Device.olihildReply_custody (d : Device) (carrier typ status id : Nat) (body : Bytes) :
    (d.olihildReply carrier typ status id body).cust.ceremony = d.cust.ceremony ∧
    (d.olihildReply carrier typ status id body).cust.lastId = d.cust.lastId ∧
    (d.olihildReply carrier typ status id body).cust.mode = d.cust.mode := by
  unfold Device.olihildReply
  split
  · exact Device.placeFrame_custody _
  · exact ⟨rfl, rfl, rfl⟩

@[simp] theorem Device.olihildReply_ceremony (d : Device) (carrier typ status id : Nat) (body : Bytes) :
    (d.olihildReply carrier typ status id body).cust.ceremony = d.cust.ceremony := (d.olihildReply_custody carrier typ status id body).1

@[simp] theorem Device.olihildReply_lastId (d : Device) (carrier typ status id : Nat) (body : Bytes) :
    (d.olihildReply carrier typ status id body).cust.lastId = d.cust.lastId := (d.olihildReply_custody carrier typ status id body).2.1

@[simp] theorem Device.olihildReply_mode (d : Device) (carrier typ status id : Nat) (body : Bytes) :
    (d.olihildReply carrier typ status id body).cust.mode = d.cust.mode := (d.olihildReply_custody carrier typ status id body).2.2

theorem Device.openCeremony_of_refused {d : Device} {body r : Bytes} {st : Nat} (carrier : Nat)
    (h : d.openRefusal (hdr body 0 1) body = some (st, r)) :
    d.openCeremony carrier body =
      ((if hdr body 0 1 = 0x30 ∧ st = 8 then d.drawFree else d).ceremonyRecorded st (hdr body 0 1)).olihildReply carrier 0x07 st 0 r := by
  unfold Device.openCeremony
  simp only [h]

/-- The ceremony that an OPEN which passes its checks opens. -/
def Device.openedCeremony (d : Device) (carrier : Nat) (body : Bytes) : Ceremony :=
  let t := hdr body 0 1
  let p := body.drop 4
  let id := (d.cust.lastId + 1) % 2 ^ 32
  { typ := t, id := id, carrier := carrier, params := p, nonce := d.random 32, transcript := d.transcript id t (d.random 32) p, approved := []
    components := [], transport := none, windowMin := d.windowMin, opened := d.cycle, executing := false
    image := match d.openCopy t p with | .inl b => b | .inr _ => []
    kem := if t == 0x20 || t == 0x11 then d.drawn.random 64 else [], wait := [], reply := [] }

theorem Device.openCeremony_of_passed {d : Device} {body : Bytes} (carrier : Nat) (h : d.openRefusal (hdr body 0 1) body = none) :
    (d.openCeremony carrier body).cust.ceremony = some (d.openedCeremony carrier body) ∧
    (d.openCeremony carrier body).cust.lastId = (d.cust.lastId + 1) % 2 ^ 32 ∧ (d.openCeremony carrier body).cust.mode = d.cust.mode := by
  unfold Device.openCeremony
  simp only [h]
  rw [Device.olihildReply_ceremony, Device.olihildReply_lastId, Device.olihildReply_mode, Device.raiseInt_cust, Device.mapCust_cust]
  refine ⟨rfl, rfl, ?_⟩
  dsimp only
  split
  · rw [Device.drawnFor_cust, Device.drawn_cust]
  · rw [Device.drawn_cust]

/-! ## Inputs -/

/-- A message that gives an input to a ceremony, by what it meets. -/
theorem Device.ceremonyInput_cases {takes : Ceremony → Prop} {act : Device → Ceremony → Device} (d0 : Device) (carrier id : Nat)
    (accepts : Ceremony → Bool) (f : Device → Ceremony → Device) (ht : ∀ c, accepts c = true ↔ takes c) (hf : ∀ d c, f d c = act d c) :
    let d := d0.expireLate
    let t := d0.ceremonyInput carrier id accepts f
    (d.cust.ceremony = none → t = d.tallyReply carrier 0x13 id []) ∧
    ∀ c, d.cust.ceremony = some c →
      (c.id ≠ id → t = d.tallyReply carrier 0x13 id []) ∧
      (c.id = id → c.executing = true ∨ ¬takes c → t = d.tallyReply carrier 0x15 id []) ∧
      (c.id = id → c.executing = false → takes c → t = act d c) := by
  have hcare : ∀ c : Ceremony, (c.executing || !accepts c) = true ↔ c.executing = true ∨ ¬takes c := fun c => by
    rw [Bool.or_eq_true, Bool.not_eq_true', ← ht c, Bool.not_eq_true]
  intro d t
  constructor
  · intro h
    simp only [t, d, Device.ceremonyInput, show d0.expireLate.cust.ceremony = none from h]
  · intro c h
    have hmeets : t = if c.id ≠ id then d.tallyReply carrier 0x13 id [] else if c.executing || !accepts c then d.tallyReply carrier 0x15 id []
        else f d c := by
      simp only [t, d, Device.ceremonyInput, show d0.expireLate.cust.ceremony = some c from h]
    refine ⟨fun hid => hmeets.trans (if_pos hid), fun hid hc => ?_, fun hid hx hc => ?_⟩
    all_goals refine (hmeets.trans (if_neg (not_not.mpr hid))).trans ?_
    · exact if_pos ((hcare c).mpr hc)
    · exact (if_neg fun hno => ((hcare c).mp hno).elim (ne_true_of_eq_false hx) (· hc)).trans (hf d c)

/-! ## Windows, limits and CUST_CMD -/

theorem Device.cancelMessage_cases (d0 : Device) (k id : Nat) :
    let d := d0.expireLate
    let t := d0.cancelMessage k id
    (d.cust.ceremony = none → t = d.olihildReply k 0x07 0x13 id []) ∧
    ∀ c, d.cust.ceremony = some c →
      (c.id ≠ id → t = d.olihildReply k 0x07 0x13 id []) ∧
      (c.id = id → c.executing = true → t = d.olihildReply k 0x07 0x15 id []) ∧
      (c.id = id → c.executing = false → c.carrier = k → t = d.endCeremony 0x02 (some [])) ∧
      (c.id = id → c.executing = false → c.carrier ≠ k → t = (d.endCeremony 0x02 (some [])).olihildReply k 0x07 0x02 id []) := by
  intro d t
  constructor
  · intro h
    simp only [t, d, Device.cancelMessage, show d0.expireLate.cust.ceremony = none from h]
  · intro c h
    have hmeets : t = if c.id ≠ id then d.olihildReply k 0x07 0x13 id [] else if c.executing then d.olihildReply k 0x07 0x15 id []
        else if c.carrier = k then d.endCeremony 0x02 (some []) else (d.endCeremony 0x02 (some [])).olihildReply k 0x07 0x02 id [] := by
      simp only [t, d, Device.cancelMessage, show d0.expireLate.cust.ceremony = some c from h]
    refine ⟨fun hid => hmeets.trans (if_pos hid), fun hid hx => ?_, fun hid hx hk => ?_, fun hid hx hk => ?_⟩
    all_goals refine (hmeets.trans (if_neg (not_not.mpr hid))).trans ?_
    · exact if_pos hx
    · exact (if_neg (ne_true_of_eq_false hx)).trans (if_pos hk)
    · exact (if_neg (ne_true_of_eq_false hx)).trans (if_neg hk)

theorem Device.windowExpiry_of_not_collecting {d : Device} (h : ∀ c, d.cust.ceremony = some c → c.executing = true) : d.windowExpiry = d := by
  unfold Device.windowExpiry
  cases hc : d.cust.ceremony with
  | none => rfl
  | some c => exact if_pos (h c hc)

theorem Device.windowExpiry_of_collecting {d : Device} {c : Ceremony} (h : d.cust.ceremony = some c) (hx : c.executing = false) :
    d.windowExpiry = d.endCeremony 0x01 (some []) := by
  unfold Device.windowExpiry
  simp only [h]
  exact if_neg (ne_true_of_eq_false hx)

theorem Device.cancelCeremony_of_not_collecting {d : Device} (h : ∀ c, d.cust.ceremony = some c → c.executing = true) :
    d.cancelCeremony = d.writeLost (custAt Off.custCmd) := by
  by_cases hb : d.writeBarred (custAt Off.custCmd) = true
  · exact if_pos hb
  · unfold Device.cancelCeremony
    dsimp only
    rw [d.onCommand_of_not_barred _ _ (Bool.eq_false_iff.mpr hb)]
    cases hc : d.cust.ceremony with
    | none => rfl
    | some c => exact if_pos (h c hc)

theorem Device.cancelCeremony_of_collecting {d : Device} {c : Ceremony} (hb : d.writeBarred (custAt Off.custCmd) = false)
    (h : d.cust.ceremony = some c) (hx : c.executing = false) :
    d.cancelCeremony = (d.endCeremony 0x02 (some [])).commandEnd (custAt Off.custCmd) 1 3 := by
  unfold Device.cancelCeremony
  dsimp only
  rw [d.onCommand_of_not_barred _ _ hb]
  simp only [h]
  exact if_neg (ne_true_of_eq_false hx)

/-- CLOSE_MAINT that its register takes. -/
theorem Device.closeMaint_of_not_barred {d : Device} (hb : d.writeBarred (custAt Off.custCmd) = false) :
    d.closeMaint = if d.cust.mode = .maintenance then (d.changeMode .service).commandEnd (custAt Off.custCmd) 0 2
      else if d.pages.cyc.limit then d.commandEnd (custAt Off.custCmd) 0 2 else d.writeLost (custAt Off.custCmd) := by
  unfold Device.closeMaint
  exact d.onCommand_of_not_barred _ _ hb

/-- Settles O58: OPEN by its refusal, the inputs by the ceremony that they meet, the windows and limits by what is open. -/
theorem ceremonyMessages : Obligations.CeremonyMessages := by
  unfold Obligations.CeremonyMessages
  intro input
  have hinput : ∀ {takes : Ceremony → Prop} {act : Device → Ceremony → Device} (d0 : Device) (carrier id : Nat) (accepts : Ceremony → Bool)
      (f : Device → Ceremony → Device), (∀ c, accepts c = true ↔ takes c) → (∀ d c, f d c = act d c) →
      input d0 carrier id takes (d0.ceremonyInput carrier id accepts f) act := Device.ceremonyInput_cases
  -- each input is met through hinput alone, so that what it takes and does stay parameters
  clear_value input
  refine ⟨fun k body s => ?_, fun k id body s => ?_, fun k id body s => ?_, fun k id body s => ?_, fun k id s => ?_, fun k s => ?_,
    fun k typ s => ?_, fun s => ?_, fun s => ?_, fun s => ?_, fun s => ?_, fun s => ?_⟩
  · refine does_of (s.dev.openCeremony k body) rfl ?_
    generalize s.dev = d
    refine ⟨fun st r h => Device.openCeremony_of_refused k h, fun h => ?_⟩
    obtain ⟨hcer, hid, hmode⟩ := Device.openCeremony_of_passed k h
    exact ⟨d.openedCeremony k body, hcer, rfl, rfl, rfl, rfl, rfl, rfl, rfl, rfl, rfl, rfl, rfl, hid, hmode⟩
  · refine does_of (s.dev.approve k id.toNat body) rfl ?_
    refine hinput s.dev k id.toNat (fun _ => true) _ (fun _ => iff_of_true rfl trivial) fun d c => ?_
    dsimp only
    cases List.find? (fun e => e.2.approves c.transcript body) ((d.approvers c).filter fun e => e.1 % 16 == hdr body 0 1) with
    | none => simp only [List.isEmpty_iff]
    | some e => simp only [List.contains_eq_mem, decide_eq_true_eq]
  · refine does_of (s.dev.component k id.toNat body) rfl ?_
    refine hinput s.dev k id.toNat (fun c => c.typ == 0x20) _ (fun _ => beq_iff_eq) fun d c => rfl
  · refine does_of (s.dev.transport k id.toNat body) rfl ?_
    refine hinput s.dev k id.toNat (fun c => c.typ == 0x11 && c.transport.isNone) _
      (fun c => by rw [Bool.and_eq_true, beq_iff_eq, Option.isNone_iff_eq_none]) fun d c => ?_
    cases d.openTransport c body with
    | none => rfl
    | some root => rfl
  · exact does_of (s.dev.cancelMessage k id.toNat) rfl (s.dev.cancelMessage_cases k id.toNat)
  · exact does_of (s.dev.query k) rfl rfl
  · exact does_of (s.dev.unknownType k typ.toNat) rfl ⟨fun h => if_pos h, fun h => if_neg h⟩
  · exact does_of s.dev.windowExpiry rfl ⟨fun h => Device.windowExpiry_of_not_collecting h, fun c h hx => Device.windowExpiry_of_collecting h hx⟩
  · refine does_of s.dev.closeMaint rfl ?_
    generalize s.dev = d
    intro d' a
    refine ⟨fun h => ?_, fun hb hm => (Device.closeMaint_of_not_barred hb).trans (if_pos hm),
      fun hb hm hl => (Device.closeMaint_of_not_barred hb).trans ((if_neg hm).trans (if_pos hl))⟩
    by_cases hb : d.writeBarred a = true
    · exact if_pos hb
    · obtain ⟨hm, hl⟩ := h.resolve_left hb
      exact (Device.closeMaint_of_not_barred (Bool.eq_false_iff.mpr hb)).trans ((if_neg hm).trans (if_neg (ne_true_of_eq_false hl)))
  · refine does_of s.dev.cancelCeremony rfl ?_
    exact ⟨fun h => h.elim (fun hb => if_pos hb) Device.cancelCeremony_of_not_collecting,
      fun c hb h hx => Device.cancelCeremony_of_collecting hb h hx⟩
  · refine does_of s.dev.maintLimit rfl ?_
    generalize s.dev = d
    refine ⟨fun h => if_pos (Option.isNone_iff_eq_none.mpr h), fun h hm => ?_, fun h hm => ?_⟩
    all_goals refine (if_neg fun hn => h (Option.isNone_iff_eq_none.mp hn)).trans ?_
    · exact if_pos hm
    · exact if_neg hm
  · exact does_of s.dev.maintExpiring rfl
      ⟨fun h => if_neg fun hs => Option.isSome_iff_ne_none.mp hs h, fun h => if_pos (Option.isSome_iff_ne_none.mpr h)⟩

end Sys2Proof.Machine
end

section
/-! SUPPORT. The ends of ceremonies (13_modes_custody.md R587 to R595). -/

namespace Sys2Proof.Machine

/-! ## A ceremony that executes -/

theorem Device.executing_of_runs {d : Device} {typ : Nat} {x : Ceremony} (h : d.cust.ceremony = some x) (ht : x.typ = typ)
    (hx : x.executing = true) : d.executing typ = some x := by
  unfold Device.executing
  rw [h]
  exact if_pos ⟨ht, hx⟩

theorem Device.executing_of_not {d : Device} {typ : Nat} (h : ∀ x, ¬(d.cust.ceremony = some x ∧ x.typ = typ ∧ x.executing = true)) :
    d.executing typ = none := by
  unfold Device.executing
  cases hc : d.cust.ceremony with
  | none => rfl
  | some x => exact if_neg fun hx => h x ⟨hc, hx.1, hx.2⟩

/-- A command that ends the ceremony of a type, if such a one executes. -/
def EndsCeremony (c : Instr) (typ : Nat) (f : Device → Ceremony → Device → Prop) : Prop := ∀ s, Does c s fun t =>
  ((∀ x, ¬(s.dev.cust.ceremony = some x ∧ x.typ = typ ∧ x.executing = true)) → t = s.dev) ∧
  ∀ x, s.dev.cust.ceremony = some x ∧ x.typ = typ ∧ x.executing = true → f s.dev x t

theorem endsCeremony_of_atEnd {c : Instr} {typ : Nat} {f : Device → Ceremony → Device → Prop} (op : Device → Device)
    (g : Device → Ceremony → Device) (hc : ∀ s, exec c s = s.done (op s.dev)) (hop : op = fun d => d.atEnd typ g)
    (hf : ∀ d x, f d x (g d x)) : EndsCeremony c typ f := by
  intro s
  refine does_of _ (hc s) ?_
  rw [hop]
  generalize s.dev = d
  dsimp only
  unfold Device.atEnd
  refine ⟨fun h => ?_, fun x ⟨hs, ht, hx⟩ => ?_⟩
  · rw [Device.executing_of_not h]
  · rw [Device.executing_of_runs hs ht hx]
    exact hf d x

/-! ## What an end depends on -/

theorem Device.canStore_iff (d : Device) : d.canStore = true ↔ d.store.noWrite = false ∧ d.storeFull = false := by
  unfold Device.canStore
  rw [Bool.and_eq_true, Bool.not_eq_true', Bool.not_eq_true']

/-- Where module records cannot be stored. -/
theorem Device.cannotStore_iff (d : Device) : (!d.canStore) = true ↔ ¬(d.store.noWrite = false ∧ d.storeFull = false) := by
  rw [Bool.not_eq_true', ← Bool.not_eq_true, d.canStore_iff]

/-- A KEY_IMPORT that waits for its commit or for the answers of its peers. -/
theorem Device.keyImportWaits_iff (d : Device) (x : Ceremony) :
    (!x.wait.isEmpty || (d.readOf (importRead x.id)).isSome) = true ↔ x.wait ≠ [] ∨ d.readOf (importRead x.id) ≠ none := by
  rw [Bool.or_eq_true, Bool.not_eq_true', ← Bool.not_eq_true, List.isEmpty_iff, Option.isSome_iff_ne_none]

/-- Settles O59: each end by the ceremony that executes and by what its execution needs. -/
theorem ceremonyEnds : Obligations.CeremonyEnds := by
  unfold Obligations.CeremonyEnds
  intro ends may
  have hends : ∀ {c : Instr} {typ : Nat} {f : Device → Ceremony → Device → Prop} (op : Device → Device) (g : Device → Ceremony → Device),
      (∀ s, exec c s = s.done (op s.dev)) → (op = fun d => d.atEnd typ g) → (∀ d x, f d x (g d x)) → ends c typ f := endsCeremony_of_atEnd
  -- each end is met through hends alone, so that its effect stays a parameter
  clear_value ends
  have hmay : ∀ d : Device, may d → ¬(!d.canStore) = true := fun d h hc => d.cannotStore_iff.mp hc h
  have hmaynot : ∀ d : Device, ¬may d → (!d.canStore) = true := fun d h => d.cannotStore_iff.mpr h
  refine ⟨hends Device.enrolInitial _ (fun _ => rfl) rfl fun d x => rfl, hends Device.enrol _ (fun _ => rfl) rfl fun d x => ?_,
    hends Device.rootGenerate _ (fun _ => rfl) rfl fun d x => ?_, hends Device.join _ (fun _ => rfl) rfl fun d x => ?_,
    hends Device.sponsor _ (fun _ => rfl) rfl fun d x => ?_, hends Device.rootReplace _ (fun _ => rfl) rfl fun d x => ?_,
    hends Device.keyImport _ (fun _ => rfl) rfl fun d x => ?_, hends Device.tableApprove _ (fun _ => rfl) rfl fun d x => ?_,
    hends (fun d => d.atEnd 0x40 fun d _ => (d.endCeremony 0 (some [])).changeMode .service) _ (fun _ => rfl) rfl fun d x => rfl,
    hends Device.openMaintenance _ (fun _ => rfl) rfl fun d x => ⟨fun h => if_pos h, fun h => if_neg (not_le.mpr h)⟩,
    hends (fun d => d.atEnd 0x42 fun d _ => (d.endCeremony 0 (some [])).changeMode .custody) _ (fun _ => rfl) rfl fun d x => rfl,
    hends Device.compatSet _ (fun _ => rfl) rfl fun d x => ⟨fun h => if_pos (hmaynot d h), fun h => if_neg (hmay d h)⟩,
    hends (fun d => d.atEnd 0x4F fun d _ => (d.endCeremony 0 none).zeroize 0x03 0) _ (fun _ => rfl) rfl fun d x => rfl,
    hends Device.replayRerun _ (fun _ => rfl) rfl fun d x => rfl⟩
  · refine ⟨fun h => ?_, fun q h => ⟨fun hm => ?_, fun hm => ?_⟩⟩
    · simp only [h]
    · simp only [h]
      exact if_pos (hmaynot d hm)
    · simp only [h]
      exact if_neg (hmay d hm)
  · exact ⟨fun h => if_pos (congrArg not h), fun h => if_neg (ne_true_of_eq_false (congrArg not h))⟩
  · refine ⟨fun h => ?_, fun b h => ⟨fun hr => ?_, fun hr hp => ?_, fun root hr hp => ?_⟩⟩
    · simp only [h]
    · simp only [h, hr]
    · obtain ⟨root, hroot⟩ := Option.ne_none_iff_exists'.mp hr
      simp only [h, hroot]
      exact if_pos (congrArg not hp)
    · simp only [h, hr]
      exact if_neg (ne_true_of_eq_false (congrArg not hp))
  · refine ⟨fun h => ?_, fun m k h => ?_⟩
    · dsimp only at h ⊢
      rw [h]
    · dsimp only at h ⊢
      rw [h]
  · refine ⟨fun h => if_pos h, fun h hd => (if_neg h).trans (if_pos hd), fun h hd => (if_neg h).trans (if_neg (ne_true_of_eq_false hd))⟩
  · refine ⟨fun hw => if_pos ((d.keyImportWaits_iff x).mpr hw), fun hw hs => ?_, fun hw hs hh => ?_, fun hw hs hh => ?_⟩
    all_goals refine (if_neg fun hc => hw ((d.keyImportWaits_iff x).mp hc)).trans ?_
    · exact if_pos (Option.isSome_iff_ne_none.mpr hs)
    · exact (if_neg fun hc => Option.isSome_iff_ne_none.mp hc hs).trans (if_pos hh)
    · exact (if_neg fun hc => Option.isSome_iff_ne_none.mp hc hs).trans (if_neg hh)
  · refine ⟨fun h => ?_, fun k h => ?_⟩
    · simp only [h]
    · simp only [h]

end Sys2Proof.Machine
end

section
/-! SUPPORT. The start-up sequence (16_power_clocks_startup.md R684 to R688). -/

namespace Sys2Proof.Machine

/-- START_UP has no effect but on a device that lies on its battery or stops, with a chain whose outputs settle. -/
theorem Device.staysDown_iff (d : Device) (f : StartFacts) :
    (!(d.power.st == .battery || d.power.st == .stopping) || !(f.chainA || f.chainB)) = true ↔
      ¬((d.power.st = .battery ∨ d.power.st = .stopping) ∧ (f.chainA = true ∨ f.chainB = true)) := by
  rw [Bool.or_eq_true, Bool.not_eq_true', Bool.not_eq_true', ← Bool.not_eq_true, ← Bool.not_eq_true, Bool.or_eq_true, Bool.or_eq_true,
    beq_iff_eq, beq_iff_eq, not_and_or]

/-- The end of the sequence, once the mode is selected: a ZEROIZED device has no re-wrap to resume and no records to settle. -/
def Device.started (d : Device) : Device :=
  (if d.cust.mode == .zeroized then d else d.resumeRewrap.settleOwn).clockFloor.queueSweep.startBurn

theorem Device.started_of_zeroized {d : Device} (h : d.cust.mode = .zeroized) : d.started = d.clockFloor.queueSweep.startBurn := by
  unfold Device.started
  rw [if_pos (beq_iff_eq.mpr h)]

theorem Device.started_of_not_zeroized {d : Device} (h : d.cust.mode ≠ .zeroized) :
    d.started = d.resumeRewrap.settleOwn.clockFloor.queueSweep.startBurn := by
  unfold Device.started
  rw [if_neg fun hz => h (beq_iff_eq.mp hz)]

/-- Settles O60: the stages are those of the table, in their order, and the end follows the mode that is selected. -/
theorem startUpSequence : Obligations.StartUpSequence := by
  unfold Obligations.StartUpSequence
  intro f s
  refine does_of (s.dev.startUp f) rfl ?_
  generalize s.dev = d
  intro d' starts span reset armed clocked classified tested probed found stored selected
  have hends : starts → d.startUp f = selected.started := fun h => if_neg fun hc => (d.staysDown_iff f).mp hc h
  exact ⟨fun h => if_pos ((d.staysDown_iff f).mpr h), fun h hz => (hends h).trans (Device.started_of_zeroized hz),
    fun h hz => (hends h).trans (Device.started_of_not_zeroized hz)⟩

end Sys2Proof.Machine
end
